-- ==== Sys2Proof/Word.lean ====
section
/-! DEFINITION. The word types of the module: 32-bit registers, bytes (R5, R9), and the
64-bit words of the on-chip SRAM (R301). Everything else about bits is in Machine/Bits.lean. -/

namespace Sys2Proof

/-- A register word (R9). -/
abbrev Word := BitVec 32

/-- A byte of memory, of a frame or of a descriptor. -/
abbrev Byte := BitVec 8

/-- A 64-bit SRAM word (R301), and every 64-bit value that the host sees as a word. -/
abbrev DWord := BitVec 64

end Sys2Proof
end

