-- ==== Sys2Proof/Syntax.lean ====
section
/-! DEFINITION. The commands of the module: one constructor for each row of spec/opcode_table.json,
with the operands a row needs. A row whose step is an event that the module itself times (a tick
edge, a timer) carries no operand, or the number of the unit it happens at. A row whose step brings in
something from outside the model (bytes read from host memory, what a bitstream turned out to hold, a
measured current, the outcome of a self-test) carries it as an operand, so that it is free
(notes/assumptions/3.md). -/

namespace Sys2Proof

/-- The two access paths to the registers (R11, R21). -/
inductive Path where
  | pcie
  | spi
deriving DecidableEq, Repr

/-- What a read by DMA brings back: the data, an error, or a poisoned completion (R115, R144, R145). -/
inductive Served (α : Type) where
  | ok (a : α)
  | failed
  | poisoned
deriving DecidableEq, Repr

/-- An access of another SRAM port to the word that the host bridge accesses (Table 9.1, R304 to R309). -/
structure Rival where
  /-- Cycles after the first cycle of the bridge's access in which this one is first made. -/
  cycle : Nat
  port : Nat
  /-- `none`: a read; `some v`: a write of `v`. -/
  write : Option DWord
deriving DecidableEq, Repr

/-- What one start finds outside the model's state: fuse reads, DRAM training, the patch read-back,
the power sequence and the wipe (R386, R387, R453, R455, R511 to R513, LCS 0x1601, DRC 0x0D03). -/
structure BootEnv where
  /-- The fuse array reads without error at stage 1 (LCS 0x1601 otherwise). -/
  fuseOk : Bool
  /-- DRAM training at stage 4 succeeds (DRC 0x0D03 otherwise). -/
  trainOk : Bool
  /-- Every wiped location reads back (LCS 0x1602 otherwise, R475). -/
  wipeOk : Bool
  /-- Syntax engines whose patch read-back mismatches at load (MCS 0x1002). -/
  patchMismatch : List Nat
  /-- Core phases that fail the test of step 3 of the power sequence, each by the open-phase check or by the current
  sense (R513, Table 17.5). -/
  phaseFail : List (Nat × Bool)
  /-- Step of the power sequence at which a rail misses its window, 0 for none (R513). -/
  railFail : Nat
  /-- Microseconds taken by a wipe that R475 resumes. -/
  wipeUs : Nat
deriving DecidableEq, Repr

/-- A reading of a source's dual-rail pair (R391, R392). -/
inductive Pair where
  /-- (1, 0), with the cause byte and whether its parity is right. -/
  | asserted (cause : Nat) (parityOk : Bool)
  /-- (0, 0) or (1, 1) on two consecutive samples. -/
  | equalTwice
  /-- Equal on one sample only. -/
  | equalOnce
  /-- (0, 1): the pair has returned to idle. -/
  | idle
deriving DecidableEq, Repr

/-- Fenceable engine kinds (R393). -/
inductive UnitKind where
  | syn
  | pix
  | enc
  | core
deriving DecidableEq, Repr

/-- One error report to the Guard. `unit` is the SOURCE byte of Table 13.6. -/
structure Report where
  block : Nat
  unit : Nat
  pair : Pair
  /-- Channels named by the report (R398). -/
  channels : List Nat
  /-- Jobs that the unit had begun or holds work of (R89, R231, R271, R363). -/
  jobs : List Nat
  /-- For TCK 0x0306, the kind of the engine that was still busy; other codes name their kind by block. -/
  kind : Option UnitKind
  /-- The ADDR field of Table 13.6 for causes that carry a memory address. -/
  addr : Nat
deriving DecidableEq, Repr

/-- What the syntax engine finds in a sequence-level header (R215, Tables 6.1 to 6.3). -/
structure Header where
  /-- Cropped picture size. -/
  width : Nat
  height : Nat
  /-- Coded picture size before cropping. -/
  codedWidth : Nat
  codedHeight : Nat
  /-- profile_idc or general_profile_idc; 0 for JPEG. -/
  profile : Nat
  /-- level_idc or general_level_idc; 0 for JPEG. -/
  level : Nat
  /-- H.265 high tier. -/
  highTier : Bool
  /-- Interlace, PAFF, MBAFF or field_seq_flag. -/
  interlaced : Bool
  /-- num_slice_groups_minus1 above 0. -/
  sliceGroups : Bool
  /-- 0 for 4:0:0, 1 for 4:2:0, 2 for 4:2:2, 3 for 4:4:4. -/
  chroma : Nat
  depth : Nat
  /-- Frame buffers that the stream needs as references. -/
  dpb : Nat
  /-- Multi-view, scalable, multilayer or 3D coding. -/
  layered : Bool
  /-- JPEG: the process is none of SOF1, SOF2, SOF3 and hierarchical (Table 6.1). -/
  jBaseline : Bool
  jArithmetic : Bool
  /-- JPEG: 8-bit samples and 8-bit quantisation tables. -/
  jPrec8 : Bool
  /-- JPEG: component count and sampling of Table 6.1. -/
  jSampling : Bool
  jDnl : Bool
deriving DecidableEq, Repr

/-- One access unit, as far as admission and the completion need to know it. -/
structure Au where
  /-- Coded bits of the access unit (Table 2.3). -/
  bits : Nat
  /-- Luma size of the coded picture. -/
  width : Nat
  height : Nat
  /-- Independently decodable entropy segments (R68, R224). -/
  segments : Nat
  irap : Bool
  /-- The picture is used as a reference. -/
  reference : Bool
  /-- Picture order count; 0 for JPEG. -/
  poc : Int
  /-- Coding-block rows of the picture. -/
  rows : Nat
  /-- The header set that this access unit activates, if it activates one (R215). -/
  header : Option Header
  /-- Some of its packets were lost before decode (R194 to R196). -/
  incomplete : Bool
deriving DecidableEq, Repr

/-- A concealed or cut place in a picture: coding-block row and column, and the reason code of
Table 6.10 or 0x10 (R86, R240). -/
structure Hit where
  row : Nat
  col : Nat
  reason : Nat
deriving DecidableEq, Repr

/-- What the syntax engine reads where a segment may break a rule of its standard (R234). -/
inductive Syntax' where
  /-- An element with its value and its permitted range. -/
  | element (value lo hi : Int)
  /-- A code, and whether the standard defines it. -/
  | code (defined : Bool)
  /-- A read of `need` bits at bit `pos` of an access unit or segment of `size` bits. -/
  | read (pos need size : Nat)
  /-- An end-of-slice or end-of-segment indication: due here, and found here. -/
  | ending (due found : Bool)
  /-- A slice whose first block is `first`, after a slice of the same picture that ended before block `next`. -/
  | slice (first next : Nat)
deriving DecidableEq, Repr

/-- A place in a picture where the syntax engine looks. -/
structure SyntaxAt where
  row : Nat
  col : Nat
  what : Syntax'
deriving DecidableEq, Repr

/-- What the engines report at the end of a decode: what the bitstream turned out to hold. -/
structure DecReport where
  /-- What the syntax engine read at the places that the checks of R234 look at. -/
  syntax_ : List SyntaxAt
  /-- Places whose data was missing from the access unit, as by a missing restart interval (R234). -/
  missing : List (Nat × Nat)
  /-- POC of each picture that the reference lists name, and the first block that uses it (R239). -/
  wanted : List (Int × Nat × Nat)
  /-- The blocks that were not decoded: row and column, in decoding order. -/
  lost : List (Nat × Nat)
  /-- Luma size of a coding block. -/
  blockW : Nat
  blockH : Nat
  /-- Whole-sample motion of the decoded blocks that have any: row, column and vector. -/
  vectors : List (Nat × Nat × Int × Int)
  /-- POC of the first picture of reference list 0, for a P or B picture. -/
  list0 : Option Int
  /-- The picture is an IDR picture, and its no_output_of_prior_pics_flag. -/
  idr : Bool
  noPrior : Bool
  /-- The picture is for output (pic_output_flag). -/
  shown : Bool
  /-- POC of the pictures that stay marked as references after this one (R230). -/
  refs : List Int
  /-- Pictures that the bumping process may hold back (R230). -/
  reorder : Nat
  /-- H.264 redundant slices dropped. -/
  redundant : Nat
  /-- The cropped picture as the decoded blocks give it, plane by plane. -/
  planes : List (List Nat)
deriving DecidableEq, Repr

/-- What the encoder reports at the end of an encode frame. -/
structure EncReport where
  /-- Mean QP of the coded rows; quality for JPEG. -/
  qp : Nat
  /-- Bytes of the skip-filled tail, when there is one (R264). -/
  tailBytes : Nat
deriving DecidableEq, Repr

/-- How a CSI-2 frame ended (R184). -/
structure CsiEnd where
  /-- A frame start and a frame end were both received. -/
  paired : Bool
  headerError : Bool
  crcError : Bool
  correctedHeaders : Nat
  /-- The receive buffer overflowed (CSI 0x0403). -/
  overflow : Bool
deriving DecidableEq, Repr

/-- A CSI-2 packet (R183). -/
inductive CsiPacket where
  | frameStart
  | shortOther
  /-- A line: its pixels, the lines of the frame size that it belongs to, and its payload. -/
  | long (dataType pixels lines : Nat) (payload : List Byte)
deriving DecidableEq, Repr

/-- A complete UVC frame (R185). -/
structure UvcFrame where
  /-- FORMAT of Table 4.8: 1 YUY2, 2 NV12, 3 MJPEG, 4 H.264. -/
  format : Nat
  width : Nat
  height : Nat
  /-- The payload of the frame. -/
  data : List Byte
  /-- A payload header carried the error bit. -/
  errorBit : Bool
  /-- Keeper tick in which its first payload arrived (R287). -/
  startTick : Nat
  /-- The access unit, for a coded format. -/
  au : Option Au
deriving DecidableEq, Repr

/-- A UVC stream offered by a device. -/
structure UvcMode where
  format : Nat
  width : Nat
  height : Nat
  intervalNs : Nat
deriving DecidableEq, Repr

/-- The outcome of USB enumeration (Table 4.9, R180, R185). -/
structure UsbDevice where
  ok : Bool
  /-- UVC 1.1 or 1.5. -/
  uvc : Bool
  /-- Interface class, for a device left unconfigured. -/
  cls : Nat
  vid : Nat
  pid : Nat
  serial : List Byte
  modes : List UvcMode
  superSpeed : Bool
deriving DecidableEq, Repr

/-- A received Ethernet frame: its bytes from the destination address to the last payload byte, and
what the MAC found. -/
structure EthFrame where
  bytes : List Byte
  fcsError : Bool
  overrun : Bool
  /-- Keeper time in ns of its start-of-frame delimiter (R199, R210). -/
  sfd : Nat
  /-- The packet carries a decoding order number (Table 5.1); its bytes alone do not tell. -/
  donl : Bool
  /-- The access unit that this packet's timestamp ends, when it ends one (R195). -/
  ended : Option Au
  /-- The access unit that this packet completes with its marker bit, when it completes one. -/
  au : Option Au
deriving DecidableEq, Repr

/-- Raw pads with a debounce of their own (Table 11.3, flag 5). -/
inductive DetectPad where
  | cam (p : Nat)
  | panel (d : Nat)
  | hpd
deriving DecidableEq, Repr

/-- Engine kinds of a cycle cap (R85, R86). -/
inductive CapKind where
  | syn
  | pix
  | enc
  /-- The display composition of the tick. -/
  | cmp (d : Nat)
deriving DecidableEq, Repr

/-- The DMA write that failed (R131). `back` counts the entries of the ring that were written after the one concerned. -/
inductive DmaTarget where
  | completion (ring back : Nat)
  | event (back : Nat)
  | statusBlock
  | copy (job : Nat)
deriving DecidableEq, Repr

/-- Phase measurements of one 10 microsecond check, in milliamperes (Table 17.5). -/
structure PhaseSense where
  phase : Nat
  sense : Nat
  model : Nat
  share : Nat
  atRail : Bool
deriving DecidableEq, Repr

/-- Who asks for a cell (Table 10.2). -/
inductive Requester where
  | ingress (chan : Nat)
  /-- The ingress flow whose open access unit needs the cell. -/
  | depacketiser (flow : Nat)
  | setup (chan : Nat)
  | overlay (slot : Nat)
  | netTx (queue : Nat)
  /-- A unit tag, or the transient tag of a channel for encode packet staging; the job worked on and the row reached. -/
  | engine (tag job row : Nat)
  | firmware (tag job : Nat)
deriving DecidableEq, Repr

/-- An access of the combs (R345). -/
inductive CombAccess where
  | free (handle tag : Nat)
  | allocate (who : Requester) (size : Nat)
deriving DecidableEq, Repr

/-- What decrements a thread's counter (R354). -/
inductive Bound where
  | job (id : Nat)
  | submission (ring : Nat)
  | completion (ring : Nat)
deriving DecidableEq, Repr

/-- How a synthesiser locked (R486). -/
inductive LockMethod where
  | hop (slot : Nat)
  | table
  | search
deriving DecidableEq, Repr

/-- One unit's share of a meter interval (R533). -/
structure MeterShare where
  kind : UnitKind
  unit : Nat
  job : Option Nat
  busyCycles : Nat
deriving DecidableEq, Repr

/-- One interval of the Nectar meter (R532, R533). -/
structure MeterSample where
  /-- VIN in mV and input current in mA. -/
  vinMv : Nat
  iinMa : Nat
  coreNj : Nat
  memNj : Nat
  inputNj : Nat
  shares : List MeterShare
  /-- DRAM bytes moved for each job. -/
  dram : List (Nat × Nat)
  /-- DRAM bytes of scan-out, refresh, maintenance and firmware. -/
  dramOther : Nat
  /-- Core energy of each display's composition. -/
  cmpNj : List (Nat × Nat)
deriving DecidableEq, Repr

/-- What an SRAM word is used for; the firmware places all uses (R303). -/
inductive SramUse where
  /-- A ROW_LOCKSTEP row buffer of a channel. -/
  | rowBuffer (chan : Nat)
  /-- Cell map entries of these handles. -/
  | cellMap (handles : List Nat)
  | other
deriving DecidableEq, Repr

/-- What the check bits of one SRAM word show when it is read (R310 to R312). -/
inductive ScrubFind where
  | clean
  | corrected
  | uncorrectable (what : SramUse)
deriving DecidableEq, Repr

/-- What an access of the host bridge to an SRAM word meets: accesses of other ports to the word, and what its check
bits show. -/
structure SramAccess where
  rivals : List Rival
  found : ScrubFind
deriving DecidableEq, Repr

/-- An access that meets nothing. -/
def SramAccess.quiet : SramAccess := { rivals := [], found := .clean }

/-- An I2C identity read: the bytes, or no acknowledge (R177). -/
abbrev IdentRead := Option (List Byte)

/-- What meets a register write in its cycle: an increment of the counter written (R25), and a write of the other path
(R142). -/
structure WriteCycle where
  increment : Bool
  meets : Option Word
deriving DecidableEq, Repr

/-- A read: its offset, its size in bytes, and what an SRAM word shows. -/
structure ReadAccess where
  offset : Nat
  size : Nat
  sram : SramAccess
deriving DecidableEq, Repr

/-- The slots of RESCUE_PROGRAM, and whether what is programmed reads back (R466). -/
structure RescueSlots where
  slots : Nat
  writeOk : Bool
deriving DecidableEq, Repr

/-- A message for the PTP clock of a port, with the instant of its start-of-frame delimiter in ns of Keeper time (R210). -/
structure PtpArrival where
  message : List Byte
  sfd : Nat
deriving DecidableEq, Repr

/-- Where a cycle cap may bind: the row that its job has come to, and the cycles that it has executed (R85, R86). -/
structure CapPoint where
  row : Nat
  cycles : Nat
deriving DecidableEq, Repr

/-- A FRAME job that runs, with the picture that host memory serves. -/
structure FrameRun where
  job : Nat
  picture : Served (List Byte)
deriving DecidableEq, Repr

/-- A LOG_READ job that runs, with the entries that show an uncorrectable error. -/
structure LogReadRun where
  job : Nat
  bad : List Nat
deriving DecidableEq, Repr

/-- A core whose thread reaches its run limit, with the jobs whose step the thread had taken up and not handed on (R363). -/
structure LimitRun where
  core : Nat
  steps : List Nat
deriving DecidableEq, Repr

/-- The size of a cell to allocate, and the other accesses of the combs in the same cycle (R345). -/
structure CellRequest where
  size : Nat
  meets : List CombAccess
deriving DecidableEq, Repr

/-- The reports that the Guard takes in one cycle. -/
structure GuardCycle where
  report : Report
  meets : List Report
deriving DecidableEq, Repr

/-- The commands of the module. -/
inductive Instr where
  -- registers and the management port
  | registerWrite (path : Path) (offset size : Nat) (value : Word) (cycle : WriteCycle)
  | counterLowWordRead (path : Path) (access : ReadAccess)
  | counterLowWordWrite (path : Path) (offset : Nat) (value : Word)
  | counterHighWordWrite (path : Path) (offset : Nat) (value : Word) (increment : Bool)
  | go (path : Path)
  | warmRestart (path : Path) (immediate : Bool)
  | coldRestart (path : Path) (immediate : Bool)
  | rescueBootRequest (path : Path) (cold immediate : Bool)
  | resetPoint (env : BootEnv)
  /-- `writeOk`: MRAM reads back as programmed (R466). -/
  | rescueProgram (path : Path) (len : Nat) (slots : RescueSlots) (env : BootEnv)
  | advance (path : Path) (fuseOk : Bool) (env : BootEnv)
  | fwEpochSet (path : Path) (fuseOk : Bool)
  | patchEpochSet (path : Path) (fuseOk : Bool)
  | modeRequestDeepStandby (path : Path)
  | modeRequestRetain (path : Path)
  | modeRequestIdle (path : Path)
  | modeRequestRun (path : Path)
  | softwareWake (path : Path)
  | combBuild (path : Path)
  | buildComplete
  | displayEnable (path : Path) (display : Nat) (value : Word)
  | tickPeriodWrite (path : Path) (value : Word)
  | tckLimitWrite (path : Path) (admission : Bool) (value : Word)
  | clockOutputEnable (path : Path) (output : Nat) (value : Word)
  | msixTableWrite (offset : Nat) (value : Word)
  | faultStatusClear (path : Path) (block : Nat) (value : Word) (raisedNow : Nat)
  | logWindowRead (path : Path) (offset : Nat) (uncorrectable : Bool)
  | spiWrite (frame : List Byte)
  | spiRead (address clocks : Nat)
  | spiStatus
  -- the tick
  | tickEdge (frameErrors : List Int)
  | tickOutPulseEnd
  | doorbellRead (served : Served (List Byte))
  | descriptorFetch (arrivals : List (Served (List Byte)))
  | subTickPoll (served : Served (List Byte)) (arrivals : List (Served (List Byte)))
  | admissionDecision
  | settleFlag
  | settleLate
  | settleAbandon
  | workWindowStart
  | guardWindowStart
  | moderationTimeout (ring : Nat)
  -- the link
  | pcieLinkDown
  | busMasterDisable
  | perstAssert
  | perstRelease
  | pcieRequestInRetain (configuration : Bool) (offset : Nat) (value : Option Word)
  | dmaWriteFailure (target : DmaTarget)
  -- tick source and Ethernet
  | tickSourceEdge (instant : Nat)
  | predictedEdgeMissed
  | ptpSyncMessage (port : Nat) (arrival : PtpArrival)
  | ptpSyncTimeout (port : Nat)
  | ethFrameReceive (port : Nat) (frame : EthFrame)
  | flowSilenceTimeout (flow : Nat)
  | ethLinkDown (port : Nat)
  | ethLinkUp (port : Nat)
  | queueCreditAvailable (queue : Nat)
  | frameTransmitEnd (port : Nat)
  -- cameras, USB and panels
  | csiFrameComplete (port vc : Nat) (how : CsiEnd)
  | vcFrameStart (port vc : Nat)
  | uvcFrameComplete (port : Nat) (frame : UvcFrame)
  | camDetectAssert (port : Nat)
  | probeDelayExpiry (port : Nat)
  | identityReadDone (port : Nat) (read : IdentRead)
  | identityRetryTimer (port : Nat)
  | initWriteDone (port : Nat)
  | initDelayExpiry (port : Nat)
  | i2cBusHeldLow (port : Nat)
  | camDetectDeassert (port : Nat)
  | usbEnumerationEnd (port : Nat) (device : UsbDevice)
  | usbDisconnect (port : Nat)
  | usbOvercurrent (port : Nat)
  | usbVbusLow (port : Nat)
  | usbOcRetry (port : Nat)
  | panelDetectAssert (display : Nat) (edid : Option (List Byte)) (width height : Nat)
  | panelDepart (display : Nat)
  | irqHpd (linkLost : Bool)
  | linkTrainingEnd (trained : List (Nat × Nat))
  | hpdWaitTimeout
  | vddLinkTimer (display : Nat)
  | frameBlTimer (display : Nat)
  | blLinkTimer (display : Nat)
  | linkVddTimer (display : Nat)
  | offWaitTimer (display : Nat)
  | holdTimeout
  -- channel jobs
  | chanCreate (job : Nat)
  | chanDestroy (job : Nat)
  | chanPause (job : Nat)
  | chanResume (job : Nat)
  | chanExport (job : Nat)
  | exportPoint (chan : Nat)
  | exportTimeout (chan : Nat)
  | chanImport (job : Nat) (image : Served (List Byte))
  | chanBind (job : Nat)
  -- decoding
  | decode (job : Nat) (au : Au)
  | decodeEnd (job : Nat) (report : DecReport)
  | bitLimitExceeded (job row col : Nat)
  | blockCycleLimit (job row col : Nat)
  | cycleCapReached (job : Nat) (kind : CapKind) (point : CapPoint)
  | bufferRoomAvailable (engine : Nat)
  | syntaxEngineInterrupt (engine : Nat) (job bitPosition arithmetic : Nat)
  -- encoding
  | encodeFrame (run : FrameRun)
  | encodeStart (job : Nat) (block : Served (List Byte))
  | encodeStop (job : Nat)
  | encodeUpdate (job : Nat) (block : Served (List Byte))
  | forceIdr (job : Nat)
  | encodeRowCoded (job bytes qp : Nat)
  | encodeEnd (job : Nat) (report : EncReport)
  -- composition
  | layerSet (job : Nat)
  | displayControl (job : Nat)
  | overlayLoad (job : Nat)
  | overlayCopyEnd (slot : Nat) (data : Served (List Byte))
  | compositionDeadline
  | compositionEnd (display : Nat)
  -- the other jobs
  | fioSet (job : Nat)
  /-- `bad`: places of the log whose error the copy finds uncorrectable (R419). -/
  | logRead (run : LogReadRun)
  | statsRead (job : Nat)
  | fwStageWrite (job : Nat) (data : Served (List Byte)) (writeOk : Bool)
  | fwStageCommit (job : Nat)
  | fwStageConfirm (job : Nat)
  | userWrite (job : Nat) (data : Served (List Byte)) (writeOk : Bool)
  | userRead (job : Nat)
  | netTx (job : Nat) (data : Served (List Byte))
  -- the Dispatcher
  | spawn (slot prio : Nat) (flagsMode all : Bool) (affinity tag runLimit reload : Nat) (mask : Word)
  | retire (slot : Nat)
  | yield (core : Nat)
  | signal (slot : Nat) (flags : Word)
  | dec (slot : Nat)
  | bind (slot : Nat) (what : Bound)
  | threadRunLimit (run : LimitRun)
  -- combs and memories
  | cellAllocate (who : Requester) (request : CellRequest)
  | cellFree (handle tag : Nat)
  | freeStoreRefill (comb : Nat)
  | freeStoreSpill (comb : Nat)
  | sramScrub (address : Nat) (found : ScrubFind)
  | dramMaintenanceStep (inRange : Bool)
  | mr4Change (code : Nat) (aboveRated : Bool)
  | dramRefresh
  -- the Guard
  /-- `meets`: what other pairs show in the same Guard cycle. -/
  | faultReport (cycle : GuardCycle)
  | dataPathRestartEnd
  | reactionTimeout
  | unitRetest (kind : UnitKind) (unit : Nat) (passed digestOk readBackOk : Bool)
  -- resets and power
  | powerOnReset (env : BootEnv)
  | padReset
  | bootComplete
  | bootWatchdog (env : BootEnv)
  | powerSequenceRetry (env : BootEnv)
  | vinBelowStop
  | brownoutWarning
  | surgeClamp (ms : Nat)
  | surgeRecovery (env : BootEnv)
  | vbus5OutOfWindow (corruptCopies : Nat) (held : Bool)
  | railOutOfWindow (rail : Nat) (held : Bool)
  | phaseOpenDetect (phases : List Nat)
  | phaseSenseCheck (readings : List PhaseSense) (inputSenseOk : Bool)
  | spareCheck (passed openPhase : Bool)
  | phasePark (first second : Nat)
  | phaseUnpark
  | currentCapExceeded
  | throttleEnd
  | thermalReading (tj treg : Int)
  | auxOverload (output : Nat)
  | auxRetry (output : Nat) (holds : Bool)
  | meterInterval (sample : MeterSample)
  -- clocks
  | referenceFailure
  | cpllUnlock (pll : Nat) (suppressedPulse : Bool)
  | cpllRetune (pll : Nat)
  | cpllStandbyReady (pll : Nat)
  | synthLock (synth : Nat) (method : LockMethod) (band us : Nat)
  | synthLockTimeout (synth : Nat)
  | keeperOscillatorFailure
  -- standby, wake and modes
  | stbyRequest
  | stbyRelease
  | wakeInputEdge (input : Nat) (rising : Bool) (instant : Nat)
  | keeperAlarm
  | entryComplete
  | runReached (present : List Nat) (trainOk : Bool) (badBank : Option Nat)
  -- field I/O
  | fieldInputEdge (input : Nat) (rising : Bool) (instant : Nat)
  | fieldPulseStart (output : Nat)
  | fieldPulseEnd (output : Nat)
  | openLoadDetect (output : Nat) (whileOn : Bool)
  | shortToGround (output : Nat)
  | shortRetry (output : Nat) (stillShort : Bool)
  | externalDrive (output : Nat)
  | vfieldLoss
  | vfieldRestore (millivolts : Nat)
  -- rows added after the first reading
  | resetRelease (env : BootEnv)
  | csiPacketReceive (port vc : Nat) (packet : CsiPacket)
  | detectPadChange (pad : DetectPad)
  | pcieLinkUp (gen width : Nat)
  | busMasterEnable
  | deviceStateChange (d3hot : Bool)
  | sramWindowWrite (path : Path) (offset : Nat) (value : Word) (sram : SramAccess)
  | ppsPulseStart (port : Nat)
  | ppsPulseEnd (port : Nat)
  | keeperSupplyLoss
  | brownoutEnd (millivolts : Nat)
  | usbConnect (port : Nat)
  | i2cBusReleased (port : Nat)
  | fieldDiagnosisEnd (output : Nat) (external : Bool)
  | keeperOscillatorRestored
deriving DecidableEq, Repr

end Sys2Proof
end

