-- ==== Sys2Proof/Decode.lean ====
section
/-! DEFINITION. The module takes commands, not encoded words: no row of spec/opcode_table.json gives bits, so no word
spells a command. -/

namespace Sys2Proof

/-- The command that a table word spells: none, since no row of the table gives bits. -/
def decodeTableWord (_nbits _w : Nat) : Option Instr := none

end Sys2Proof
end

