-- ==== Sys2Proof/Config.lean ====
section
/-! DEFINITION. What one module fixes for its life, and the values that the spec leaves open. None of these
has a body, so no statement can rest on a value. Cryptographic checks stand here too: the spec names their
algorithms and leaves their arithmetic to the standards (notes/assumptions/4.md). -/

namespace Sys2Proof

/-- What the parameter sets of a coded stream say (R244, R254, Tables 7.1 and 7.4). -/
structure StreamParams where
  codec : Nat
  profile : Nat
  level : Nat
  width : Nat
  height : Nat
  /-- 1 for 4:2:0, 2 for 4:2:2. -/
  chroma : Nat
  refs : Nat
  numB : Nat
  /-- Colour information of the VUI as the coding standards number it: primaries, transfer, matrix, full range. -/
  primaries : Nat
  transfer : Nat
  matrix : Nat
  fullRange : Bool
deriving DecidableEq, Repr

end Sys2Proof

namespace Sys2Proof.Config

/-! Values fixed in one part. -/

/-- SYS_ID_HI.ISSUE. -/
opaque issue : BitVec 8
/-- SYS_ID_HI.DIE_REV. -/
opaque dieRev : BitVec 8
/-- MCS_ROM_ID. -/
opaque romId : BitVec 32
/-- The microcode ROM by micro-address, and the ROM default of each dispatch entry, which are not published (R375, R378). -/
opaque romWord : Nat → BitVec 96
opaque romDispatch : Nat → BitVec 13
/-- CLK_BAND_s_b as the factory programs it (R485). -/
opaque clkBand : Nat → Nat → BitVec 32
/-- The MRAM as delivered, by byte address. -/
opaque mram : Nat → BitVec 8
/-- Firmware-key and patch-key hashes in fuses (R386, R460). -/
opaque fwKeyHash : Nat
opaque patchKeyHash : Nat
/-- Factory weight of a unit (kind 0 to 3, number) at an operating point (R533). -/
opaque weight : Nat → Nat → Nat → Nat
/-- η_rail × η_pre in parts per million for rail 0 core or 1 memory, at an operating point, VIN in mV and energy
of the interval in nJ (R534). -/
opaque efficiency : Nat → Nat → Nat → Nat → Nat

/-! Free values: applied to the counter `State.fresh`, to the operands or to both. -/

/-- A fresh number: a choice that the spec leaves to the module. -/
opaque free : Nat → Nat
/-- A fresh word. -/
opaque freeWord : Nat → BitVec 64

/-- A fresh number, by draw and position. -/
opaque freeAt : Nat → Nat → Nat

/-- Double words of the PCI Express configuration space that the spec does not describe, by offset (R90). -/
opaque configSpace : Nat → BitVec 32

/-- A fresh byte string, by draw and position: coded bytes, whose values the spec does not give. -/
opaque freeByte : Nat → Nat → BitVec 8

/-- Result of the 4-tap scaling filter at a phase from four neighbouring samples: the spec gives the taps and the phases
but no coefficients (R278). -/
opaque filter4 : Nat → Nat → Nat → Nat → Nat → Nat
/-- First sample position of a scaled line in 64ths of a source sample, for a source and a destination size (R278). -/
opaque scaleStart : Nat → Nat → Nat
/-- Where the first chroma sample stands, in quarters of a chroma sample, for a chroma format and an axis (R278). -/
opaque chromaSite : Nat → Nat → Nat

/-- Colour information of a camera that sends YCbCr, by partner ID and item: the spec names no way to learn it (R244). -/
opaque cameraColour : Nat → Nat → Nat

/-! Algorithms of other standards. -/

/-- The bytes of a parameter set after its NAL unit header, by NAL unit type and content (R254). -/
opaque paramSet : Nat → StreamParams → List (BitVec 8)

/-- SHA-256 of a byte string, as a number (R459, R466). -/
opaque sha256 : List (BitVec 8) → Nat
/-- The signature over an image checks against a key hash or key (R386, R459). -/
opaque signatureOk : List (BitVec 8) → Bool
/-- Authenticated decryption of a patch with the device key: the plain text, or none (R386). -/
opaque decrypt : List (BitVec 8) → Option (List (BitVec 8))

end Sys2Proof.Config
end

