-- ==== Sys2Proof/Machine/Bits.lean ====
section
/-! DEFINITION. Bit fields, little-endian byte strings and the two cyclic redundancy checks that the spec
gives (R5, R139, R173). Everything here is arithmetic on numbers and recursion on lists. -/

namespace Sys2Proof.Machine

/-- Bits `hi`:`lo` of `v`, numbered as the spec writes them. -/
def bits (v hi lo : Nat) : Nat := (v >>> lo) % 2 ^ (hi + 1 - lo)

/-- Bit `i` of `v`. -/
def bitAt (v i : Nat) : Bool := (v >>> i) % 2 == 1

/-- `v` with bits `hi`:`lo` replaced by `x`. -/
def putBits (v hi lo x : Nat) : Nat :=
  v - bits v hi lo * 2 ^ lo + (x % 2 ^ (hi + 1 - lo)) * 2 ^ lo

/-- 1 for true. -/
def b2n (b : Bool) : Nat := if b then 1 else 0

/-- A number with the given bits set. -/
def maskOf : List Nat → Nat
  | [] => 0
  | i :: t => (2 ^ i) ||| maskOf t

/-- The set bits among the first `n`, rising. -/
def setBits (v n : Nat) : List Nat := (List.range n).filter (bitAt v)

/-- A signed value as `w`-bit two's complement. -/
def twos (w : Nat) (x : Int) : Nat := (x % (2 ^ w : Nat)).toNat

/-- The signed value of a `w`-bit two's complement field. -/
def signed (w v : Nat) : Int := if v < 2 ^ (w - 1) then (v : Int) else (v : Int) - (2 ^ w : Nat)

/-- Division rounded up. -/
def ceilDiv (a b : Nat) : Nat := (a + b - 1) / b

/-- `v` between `lo` and `hi`, the nearest limit outside. -/
def clamp (lo hi v : Nat) : Nat := max lo (min hi v)

/-- 0 acts as 1. -/
def atLeast1 (v : Nat) : Nat := max 1 v

/-- The `n` low bytes of `v`, least significant first (R5). -/
def leBytes : Nat → Nat → List Byte
  | 0, _ => []
  | n + 1, v => BitVec.ofNat 8 v :: leBytes n (v / 256)

/-- The number that a little-endian byte string holds (R5). -/
def leNat : List Byte → Nat
  | [] => 0
  | b :: t => b.toNat + 256 * leNat t

/-- `n` bytes at offset `off` of a byte string, as a number; missing bytes read 0. -/
def leAt (bs : List Byte) (off n : Nat) : Nat := leNat ((bs.drop off).take n)

/-- The number that a big-endian byte string holds. -/
def beNat (bs : List Byte) : Nat := leNat bs.reverse

/-- `n` bytes at offset `off`, most significant first (network order). -/
def beAt (bs : List Byte) (off n : Nat) : Nat := beNat ((bs.drop off).take n)

/-- A byte string cut or filled with zeros to `n` bytes. -/
def padTo : Nat → List Byte → List Byte
  | 0, _ => []
  | n + 1, [] => 0 :: padTo n []
  | n + 1, b :: t => b :: padTo n t

/-- One step of a reflected CRC of polynomial `poly`. -/
def crcStep (poly c : Nat) : Nat := if c % 2 == 1 then (c / 2) ^^^ poly else c / 2

/-- `n` steps of a reflected CRC. -/
def crcSteps (poly : Nat) : Nat → Nat → Nat
  | 0, c => c
  | n + 1, c => crcSteps poly n (crcStep poly c)

/-- CRC-32 with reflected polynomial 0xEDB8_8320, start value and final inversion 0xFFFF_FFFF (R167, R173). -/
def crc32 (bs : List Byte) : Nat :=
  (bs.foldl (fun c b => crcSteps 0xEDB88320 8 (c ^^^ b.toNat)) 0xFFFFFFFF) ^^^ 0xFFFFFFFF

/-- One step of the SPI CRC-8, polynomial x^8 + x^2 + x + 1, most significant bit first (R139). -/
def crc8Step (c : Nat) : Nat := if c ≥ 128 then ((c * 2) % 256) ^^^ 0x07 else c * 2

/-- `n` steps of the SPI CRC-8. -/
def crc8Steps : Nat → Nat → Nat
  | 0, c => c
  | n + 1, c => crc8Steps n (crc8Step c)

/-- CRC-8 of a byte string, start value 0 (R139). -/
def crc8 (bs : List Byte) : Nat := bs.foldl (fun c b => crc8Steps 8 (c ^^^ b.toNat)) 0

end Sys2Proof.Machine
end

