-- ==== Sys2Proof/Machine/State.lean ====
section
/-! DEFINITION. The state of the module, all of it plain data: what the spec names as registers, memories,
queues, counters, modes, latches and pads, block by block, and the queue of commands that wait.
Registers that the host writes, and read-only registers that hold a value of their own, stand in `regs`
under their BAR0 offset (Machine/RegMap.lean gives their fields and reset values); read-only registers that
mirror a piece of the state below are computed when they are read (Machine/RegRead.lean). -/

namespace Sys2Proof.Machine

/-- A sparse table by number: numbers strictly rising; what an unlisted number holds is given by each
table's own default (Machine/Table.lean). -/
abbrev Table (α : Type) := List (Nat × α)

/-- Why a command stops: no command does. Every command completes in every state; one that names a unit that the module
does not have reaches nothing and changes nothing (notes/assumptions/7.md). -/
inductive Fault where
deriving DecidableEq, Repr

/-- Why a command has no meaning. -/
inductive Refusal where
  /-- The meaning is not written yet; no command is left so in this model. Safe. -/
  | notModelled (mnemonic : String)
deriving DecidableEq, Repr

/-- Configuration state (Table 0.3). -/
inductive CfgState where
  | config
  | active
deriving DecidableEq, Repr

/-- Fault classes in ascending severity (R394). -/
inductive FClass where
  | i
  | c
  | e
  | m
  | s
deriving DecidableEq, Repr

/-- Operating modes (Table 14.1). -/
inductive Mode where
  | off
  | deepStandby
  | retain
  | idle
  | run
  | safe
deriving DecidableEq, Repr

/-- A 64-byte submission descriptor, its fixed fields read out (Table 3.6). -/
structure Desc where
  opcode : Nat
  flags : Nat
  channel : Nat
  cq : Nat
  tag : Nat
  /-- All 64 bytes; the payload is at offsets 0x10 to 0x3F. -/
  bytes : List Byte
deriving DecidableEq, Repr

/-- A completion entry (Table 3.8), PHASE apart, which belongs to the slot it is written to. -/
structure Cpl where
  tag : Nat
  status : Nat
  reason : Nat
  deferred : Nat
  estimated : Bool
  ordered : Bool
  opcode : Nat
  channel : Nat
  sq : Nat
  energy : Nat
  fault : Nat
  detail : Nat
  result : Nat
  /-- IRQ_NOW of the descriptor (R130). -/
  irqNow : Bool
deriving DecidableEq, Repr

/-- An event (Table 3.12) with its moment of occurrence. -/
structure Event where
  ktime : Nat
  code : Nat
  source : Nat
  tick : Nat
  /-- DATA bytes, in order; bytes not listed are 0 (R129). -/
  data : List Nat
deriving DecidableEq, Repr

/-- What a job is doing. -/
inductive JobPhase where
  /-- In the job table, not taken up yet. -/
  | waiting
  /-- Taken up by the firmware: a copy, an export or a transmission is under way. -/
  | executing
  /-- Admitted to the engines in this tick (R70). -/
  | admitted
  /-- Ended; the completion waits for its ring or for its ordered flow (R126, R133). -/
  | done (c : Cpl)
deriving DecidableEq, Repr

/-- Where a job came from. -/
inductive Origin where
  /-- A descriptor of submission ring `sq`. -/
  | host
  /-- A live decode of a VIEW_CODED channel (R221). -/
  | liveDecode
  /-- A live encode (R247). -/
  | liveEncode
deriving DecidableEq, Repr

/-- Samples of a picture, plane by plane (Y, Cb, Cr, or R, G, B), each plane row by row. A sample that is not listed
is 0. -/
structure Image where
  width : Nat
  height : Nat
  /-- 0 for 4:0:0, 1 for 4:2:0, 2 for 4:2:2, 3 for 4:4:4, 4 for RGB. -/
  chroma : Nat
  /-- Bits per sample. -/
  depth : Nat
  planes : List (List Nat)
deriving DecidableEq, Repr

/-- A picture ready for output, or a raw frame. -/
structure Pic where
  /-- Capture tick (R287). -/
  captured : Nat
  poc : Int
  width : Nat
  height : Nat
  /-- Cells of a raw frame, by handle; a decoded picture stands in the channel's own buffers. -/
  cells : List Nat
  /-- Its samples. -/
  image : Image
deriving DecidableEq, Repr

/-- A frame buffer that holds a decoded picture (R229, R230). -/
structure DpbPic where
  pic : Pic
  /-- It is marked as a reference. -/
  ref : Bool
  /-- It waits for output. -/
  waiting : Bool
  /-- It is concealed, or predicted from a concealed picture since the last IRAP (R241). -/
  tainted : Bool
deriving DecidableEq, Repr

/-- A source frame that waits for the frames after it (R262). -/
structure HeldFrame where
  /-- Keeper time in ns of its capture (R246). -/
  captured : Nat
  luma : Nat
  cells : List Nat
  source : Image
  /-- The ENCODE job of a host frame. -/
  job : Option Nat
deriving DecidableEq, Repr

/-- A record in a bitstream ring: its bytes with any wrap before it, the TAG of its completion, and the
producer index at which that completion stands (R255, R256). -/
structure BsRecord where
  bytes : Nat
  tag : Nat
  pi : Option Nat
deriving DecidableEq, Repr

/-- An encode in progress: the parameter block (Table 7.4) and the coding state. -/
structure Encoder where
  source : Nat
  profile : Nat
  level : Nat
  rcMode : Nat
  bitrate : Nat
  maxKbps : Nat
  window : Nat
  qpI : Nat
  qpP : Nat
  qpB : Nat
  qpMin : Nat
  qpMax : Nat
  numB : Nat
  gopLen : Nat
  irPeriod : Nat
  frameDiv : Nat
  out : Nat
  queue : Nat
  ctb : Nat
  pktPayload : Nat
  pt : Nat
  targetPct : Nat
  ssrc : Nat
  dstIp : Nat
  dstPort : Nat
  srcPort : Nat
  dstMac : Nat
  maxFrame : Nat
  bsBase : Nat
  bsSize : Nat
  /-- Motion search range at START (Table 7.9). -/
  meRange : Nat
  /-- Completion ring of the START descriptor (R258). -/
  cq : Nat
  /-- Next frame sequence number (Table 7.5). -/
  seq : Nat
  /-- Frames since the last IDR, and position in the intra-refresh cycle (R268, R269). -/
  gopPos : Nat
  irPos : Nat
  /-- The next frame is coded as IDR (R253, R259, R268); and at QP_MAX (row 0 failed). -/
  idrNext : Bool
  qpMaxNext : Bool
  /-- A STOP is in progress: its job (R252). -/
  stopping : Option Nat
  /-- Source frames held until the NUM_B frames after them have arrived, in display order (R262). -/
  heldFrames : List HeldFrame
  /-- Tick and bytes of the frames in the peak window (Table 7.8, VBR). -/
  history : List (Nat × Nat)
  /-- The next IDR follows a discard (R64). -/
  afterDiscard : Bool
  /-- Source frames or ticks seen, for FRAME_DIV. -/
  divCount : Nat
  /-- Write offset in the bitstream ring, and records not freed (R255, R256). -/
  bsWrite : Nat
  bsRecords : List BsRecord
  /-- Coded bits of the last frame of picture types I, P, B (R64). -/
  prevBits : List Nat
  lastQp : Nat
  lastBytes : Nat
  /-- Bytes of the CBR buffer in use (Table 7.8). -/
  buffer : Nat
  /-- Tick from which it encodes (R250). -/
  startTick : Nat
  /-- Picture order count that an image carries: frames admitted since START, or since before an import (R171;
  notes/assumptions/176.md). -/
  poc : Nat
  /-- Sequence number of the next RTP packet (R254). -/
  rtpSeq : Nat
deriving DecidableEq, Repr

/-- A job: an entry of the job table (R133), or a live decode or encode, which holds none (R222, R247). -/
structure Job where
  /-- Fetch order; unique. -/
  id : Nat
  /-- Place in class order: `id`, or that of the unit it superseded (R82). -/
  order : Nat
  origin : Origin
  /-- Submission ring, 0xFF for a live job. -/
  sq : Nat
  /-- Completion ring the completion goes to (R123, R221, R258). -/
  cq : Nat
  desc : Desc
  phase : JobPhase
  /-- Ordered flow and sequence number (R366, R368). -/
  flow : Option (Nat × Nat)
  /-- Class of the job: 1 Critical, 2 Standard, 3 Bulk (R118). -/
  cls : Nat
  /-- Ticks deferred (R79). -/
  deferred : Nat
  /-- The access unit has been presented (R218), or the source frame (R249). -/
  ready : Bool
  /-- First tick whose decision may consider the job (R60, R29). -/
  fromTick : Nat
  /-- Keeper time in ns of the fetch, or of the access unit or frame of a live job (R77). -/
  fetchNs : Nat
  /-- The sub-tick poll whose admission is to consider it, 0 for none (R60, R72). -/
  atPoll : Nat
  /-- The access unit of a decode. -/
  au : Option Au
  /-- Luma samples of an encode source, and its capture Keeper time (R246). -/
  luma : Nat
  captured : Nat
  /-- Capture tick of the picture (R287). -/
  captureTick : Nat
  /-- Admitted cost on syntax engines, pixel slices and encode slices (R65). -/
  costSyn : Nat
  costPix : Nat
  costEnc : Nat
  /-- Syntax engine of a single-segment picture (R68). -/
  engine : Option Nat
  /-- Places concealed or cut so far (R240). -/
  hits : List Hit
  /-- Cut at a cycle cap, the guard window or a cell failure (R86). -/
  cut : Bool
  /-- Rows before this one may still be processed after a cut of the kind that produces their input (R86). -/
  cutRow : Nat
  /-- Cut at the byte cap (R263). -/
  sizeCut : Bool
  /-- Bytes coded and charged so far, rows coded, and sum of row QPs (R263). -/
  bytes : Nat
  charged : Nat
  rowsDone : Nat
  qpSum : Nat
  /-- Energy attributed, in nanojoules, and ESTIMATED (R533, R536). -/
  energyNj : Nat
  estimated : Bool
  /-- Tick of admission. -/
  admittedTick : Nat
  /-- A slot of its completion ring is reserved for it (R247). -/
  reserved : Bool
  /-- Its frame is coded as IDR (R268), decided when it is admitted. -/
  idr : Bool
  /-- Byte cap of an encode (R263), fixed when it is admitted. -/
  cap : Nat
  /-- Cells of a live frame or access unit, by handle (Table 10.2). -/
  cells : List Nat
  /-- Coding-block rows and entropy segments of its picture, set at admission; rows whose records stand in the syntax or
  row buffer; segments taken up by engines (R224 to R226, R260). -/
  rows : Nat
  segs : Nat
  parsed : Nat
  segsTaken : Nat
  /-- Source picture of an encode, converted (R244). -/
  source : Option Image
  /-- The encoder's settings when the frame was admitted; an UPDATE after that is for the next frame (R251). -/
  settings : Option Encoder
  /-- Picture type of an encode: 0 I, 1 P, 2 B, 3 JPEG (R262, Table 7.6). -/
  picType : Nat
  /-- Keeper time in ps at which its first packet was queued (R205). -/
  firstPs : Option Nat
deriving DecidableEq, Repr

/-- A submission ring as the module sees it (R100 to R103). -/
structure Sq where
  pi : Nat
  ci : Nat
  /-- A descriptor read of this ring failed at the present doorbell read (R144). -/
  failed : Bool
  /-- Tick in which HIF 0x0202 was last logged for this ring, if it was (R144). -/
  loggedTick : Option Nat
deriving DecidableEq, Repr

/-- An entry that a ring of the module's holds: its 32 bytes with PHASE 0, and what host memory listed in its slot
before it (R131). -/
structure RingPost where
  entry : List Byte
  before : List (Nat × Byte)
deriving DecidableEq, Repr

/-- A completion ring as the module sees it (R100, R104, R130). -/
structure Cq where
  pi : Nat
  ci : Nat
  /-- Completions posted since the last signal, and Keeper time in ns of the first of them. -/
  unsignalled : Nat
  sinceNs : Nat
  /-- The entries that the host has not consumed, newest first: a failed write takes one back (R131). -/
  recent : List RingPost
  /-- Slots reserved for live encodes (R247). -/
  reserved : Nat
deriving DecidableEq, Repr

/-- Paths, link, MSI-X and the management port. -/
structure Bus where
  /-- High-word latches for reads (R20, R21). -/
  latchPcie : Nat
  latchSpi : Nat
  /-- Words staged for a 64-bit write: counter offset and word (R22). -/
  stagedPcie : Option (Nat × Nat)
  stagedSpi : Option (Nat × Nat)
  /-- What the last register read returned on each path (the model's own: the data bus). -/
  readPcie : Nat
  readSpi : Nat
  /-- The last register read over PCIe was answered with a poisoned completion (R311; the model's own). -/
  readPoisoned : Bool
  /-- Bytes that MGMT_MISO drove in the last frame (R138; the model's own). -/
  spiOut : List Byte
  /-- STATUS.LAST_CRC_ERR (R140). -/
  spiCrcErr : Bool
  /-- MSI-X table words, four for each vector (R92). -/
  msixTable : Table Word
  /-- Vectors with their pending bit set (R94). -/
  pba : List Nat
  /-- Messages sent on each vector (the model's own: the interrupts the host has seen). -/
  msixSent : Table Nat
  /-- 0 link down; 1 to 3 Gen1 to Gen3 (HIF_STATUS.LINK_GEN). -/
  linkGen : Nat
  linkWidth : Nat
  bme : Bool
  d3hot : Bool
  /-- HIF_STATUS.LINK_LOST (R116). -/
  linkLost : Bool
  /-- PERST_N is low. -/
  perst : Bool
  /-- The endpoint is held in reset or unpowered (R465, R427). -/
  endpointOff : Bool
  /-- Requests held in RETAIN: configuration or memory, offset, and the value of a write (R432). -/
  held : List (Bool × Nat × Option Word)
  /-- Configuration requests answered with Retry Status in RETAIN (R432). -/
  crs : Nat
deriving DecidableEq, Repr

/-- A firmware slot of the boot record (R459). STATE: 0 EMPTY, 1 VALID, 2 TRIAL, 3 BAD. -/
structure FwSlot where
  state : Nat
  version : Nat
  epoch : Nat
deriving DecidableEq, Repr

/-- Start-up, reset, boot record and fuses (SYS, LCS, MCS load results). -/
structure Sys where
  cfg : CfgState
  /-- SYS_STATUS.BOOT_STAGE (Table 15.3). -/
  bootStage : Nat
  rescue : Bool
  /-- Rescue boot was entered because no slot could be booted (R462, R465). -/
  rescueNoSlot : Bool
  /-- A fuse read error stopped the boot ROM at stage 1 (LCS 0x1601). -/
  bootStopped : Bool
  /-- RESET_N is held low after a pad reset (R455). -/
  resetLow : Bool
  resetCause : Nat
  slotFail : Bool
  bootSlot : Nat
  /-- A restart written and not yet at its reset point: reset cause, rescue, immediate (R452). -/
  restart : Option (Nat × Bool × Bool)
  /-- Fitted DRAM in GiB, 4 or 8 (R1, R2). -/
  dramGib : Nat
  slotA : FwSlot
  slotB : FwSlot
  preferred : Nat
  trialBooted : Bool
  /-- WIPE_PENDING with its target state (R459, R473). -/
  wipePending : Option Nat
  /-- LCS_STATUS.RESULT and LAST_CMD, LCS_WIPE_US (R476). -/
  lcsResult : Nat
  lcsLast : Nat
  wipeUs : Nat
  /-- Fuses: life-cycle state, device patch key, both anti-rollback thermometers (R389, R468, R472). -/
  lifeState : Nat
  patchKey : Bool
  fwEpochFuse : Nat
  patchEpochFuse : Nat
  /-- VERSION and EPOCH of the running image. -/
  fwVersion : Nat
  fwEpoch : Nat
  /-- A WRITE has marked the inactive slot EMPTY since the last COMMIT (R464). -/
  staging : Bool
  rescueResult : Nat
  /-- SYS 0x0101 is to be logged once the kernel runs (R460, R461). -/
  slotFaultDue : Bool
  /-- DRAM wipe still to come in a wipe that a boot resumes (R475). -/
  dramWipeDue : Bool
  /-- MCS_STATUS.LOAD_RESULT, OVERRIDES, MCS_PATCH_VERSION, MCS_EPOCH.IMAGE_EPOCH (R387, R388). -/
  loadResult : Nat
  overrides : List (Nat × Nat)
  patchWords : List Nat
  patchVersion : Nat
  imageEpoch : Nat
deriving DecidableEq, Repr

/-- A saved syntax-engine context (R382). -/
structure SynContext where
  upc : Nat
  stack : List Nat
  job : Nat
  bitPosition : Nat
  arithmetic : Nat
deriving DecidableEq, Repr

/-- A syntax engine (Table 12.5). -/
structure SynEngine where
  upc : Nat
  stack : List Nat
  /-- Waiting under R379, stalled under R227. -/
  waiting : Bool
  job : Option Nat
  saved : List SynContext
deriving DecidableEq, Repr

/-- Keeper time and what it counts from (R13, R14). -/
structure Clock where
  /-- Keeper time in picoseconds. -/
  ps : Nat
  /-- The 25 MHz reference has failed (R480). -/
  refFailed : Bool
  /-- The 32.768 kHz oscillator has failed (R14). -/
  oscFailed : Bool
deriving DecidableEq, Repr

/-- The windows of a tick (R59). -/
inductive Window where
  /-- Admission window, before the decision. -/
  | admission
  /-- After the decision, before the work window. -/
  | decided
  | work
  | guard
deriving DecidableEq, Repr

/-- The tick timer, its source and the budgets of the tick. -/
structure Tick where
  /-- The 48-bit tick number (R15). -/
  number : BitVec 48
  /-- Settings in force (they are taken over at a tick edge). -/
  src : Nat
  ptpPort : Nat
  periodNs : Nat
  tolUs : Nat
  polls : Nat
  /-- Keeper time of the last edge, and ideal instant of the next, in picoseconds (R50). -/
  edgePs : Nat
  nextPs : Nat
  stopped : Bool
  window : Window
  /-- Sub-tick polls made in this tick (R61). -/
  pollsDone : Nat
  /-- 0 internal, 1 locked, 2 acquiring, 3 holdover. -/
  srcState : Nat
  /-- Consecutive accepted edges and consecutive missed edges (R54, R55). -/
  run : Nat
  missed : Nat
  /-- Tick that the last accepted edge opens, and its instant in ns; none once a predicted edge has been
  missed (R53). -/
  lastAccepted : Option (Nat × Nat)
  lastAcceptedTick : Nat
  /-- Up to 16 measured intervals, newest first (R53). -/
  intervals : List Nat
  /-- Consistent run of source edges, newest first: instant in ns and error in ns against the timer (R56). -/
  edges : List (Nat × Int)
  /-- Target phase of a slew: an instant in ns that edges should meet (R56). -/
  target : Option Nat
  /-- Held period, ticks in holdover, and the error of the first of the accepted edges in a row
  (R54, Table 3.21). -/
  heldNs : Nat
  holdTicks : Nat
  firstErr : Int
  /-- Holdover was in force at the entry edge; its event is still owed (R581). -/
  owedRestore : Bool
  /-- Correction already applied to the running tick, in ps (R52). -/
  correction : Int
  /-- TICK_OUT is high (R58). -/
  out : Bool
  /-- Ceiling at the last edge, which the admission of this tick uses (R88, R447). -/
  ceiling : Nat
  /-- Operating point that the admission of this tick chose (R70). -/
  curOp : Nat
  /-- Budgets and admitted cost of kinds 0 to 3 in this tick (Table 2.8). -/
  budget : List Nat
  spent : List Nat
  /-- Unspent budget of each syntax engine at the decision, times 6 (R68). -/
  synRoom : List Nat
  /-- Kinds on which a Standard job was deferred for lack of budget (R81). -/
  shortKinds : List Nat
  /-- Displays whose composition is admitted this tick, and those composed (R69, R284). -/
  composing : List Nat
  composed : List Nat
  cmpStarted : Bool
deriving DecidableEq, Repr

/-- A scheduled pause (R155, R156). -/
structure Pause where
  /-- The job that set it, for the order of what acts at an edge (R149). -/
  job : Nat
  /-- Tick at which it begins, and its duration in ticks, 0 for no end. -/
  start : Nat
  duration : Nat
deriving DecidableEq, Repr

/-- A channel (R146, Tables 4.1, 4.4, 4.11, 6.12). -/
structure Channel where
  /-- 0 FREE, 1 RUNNING, 3 PAUSED; the other codes of Table 4.1 follow from `pause`, `exporting` and
  `closing`. -/
  state : Nat
  kind : Nat
  cls : Nat
  rank : Nat
  maxDefer : Nat
  codec : Nat
  decMode : Nat
  bindMode : Nat
  bindRef : Nat
  bindGen : Nat
  /-- Type and valid identity digest of the partner bound by identity (R163). -/
  bindIdent : Option (Nat × Nat)
  synbufMib : Nat
  width : Nat
  height : Nat
  refs : Nat
  resSyn : Nat
  resPix : Nat
  resEnc : Nat
  /-- Completion ring of its live decodes (R221). -/
  cq : Nat
  /-- Partner whose frames the channel takes (Table 4.11, BOUND). -/
  bound : Option Nat
  /-- CHAN_BINDs to apply at the next edge: job, mode, reference, generation (R149, R162). -/
  binds : List (Nat × Nat × Nat × Nat)
  /-- Partners already reported as not matching (R165). -/
  rejected : List Nat
  pause : Option Pause
  /-- A resume waits for the next edge: its job (R149, R160). -/
  resume : Option Nat
  /-- CHAN_EXPORT in progress: its job, the last tick it waits for, PAUSE_AFTER (R166 to R169). -/
  exporting : Option (Nat × Nat × Bool)
  /-- CHAN_DESTROY jobs to complete at the next edge (R154). -/
  closing : List Nat
  /-- Restart at the next edge after a Class C reaction (R398). -/
  restart : Bool
  /-- Waits for an intra random-access picture (R161, R223). -/
  waitIrap : Bool
  /-- DEC_CHAN_n.STATE and the active header. -/
  decState : Nat
  depth : Nat
  profile : Nat
  level : Nat
  unsup : Nat
  picWidth : Nat
  picHeight : Nat
  /-- 0 for 4:0:0, 1 for 4:2:0, 2 for 4:2:2, 3 for 4:4:4. -/
  chroma : Nat
  /-- The active header set (R167, R215). -/
  params : Option Header
  /-- The header set that was refused last (R216, R217). -/
  refused : Option Header
  /-- Frame buffers that hold pictures: references, and pictures held for output order, in decoding order (R229, R230). -/
  dpb : List DpbPic
  /-- Picture order counts of pictures discarded since the last IRAP (R231). -/
  discarded : List Int
  /-- Cells of its frame buffers and syntax buffer, in the order in which they were taken: its windows (R229, R235). -/
  windows : List Nat
  tainted : Bool
  /-- Access-unit sequence number (R221). -/
  auSeq : Nat
  /-- Live decode slots: job numbers (R222). -/
  slot1 : Option Nat
  slot2 : Option Nat
  /-- Tick of the last decode-raised REFRESH_REQUEST (R242). -/
  refreshTick : Option Nat
  /-- Newest picture ready for output (R285). -/
  pic : Option Pic
  /-- A raw frame complete, to be taken from the tick it names (R28, R29). -/
  nextPic : Option (Nat × Pic)
  /-- Row buffer bytes of ROW_LOCKSTEP (R228). -/
  rowBuf : Nat
  /-- DRAM held, in KiB (R152). -/
  dramKib : Nat
  /-- Tick from which admission takes its work (R147). -/
  startTick : Nat
  enc : Option Encoder
  /-- QP and bytes of the last frame of a stream that has ended (Table 7.10). -/
  encQp : Nat
  encBytes : Nat
deriving DecidableEq, Repr

/-- A tracked partner (R172, Table 4.12). -/
structure Partner where
  type : Nat
  port : Nat
  gen : Nat
  flags : Nat
  width : Nat
  height : Nat
  format : Nat
  ident : Nat
  arriveTick : Nat
  /-- Keeper times of up to 17 frames, newest first, for FRAME_NS. -/
  frames : List Nat
  /-- It has left; its ID becomes free at the edge that posts PARTNER_LEFT (R172). -/
  leaving : Bool
deriving DecidableEq, Repr

/-- Where a CSI-2 port is in its arrival (R177, R178). -/
inductive ProbeStage where
  | absent
  | delay
  /-- Reading identity entry `k`, with `tries` failures so far. -/
  | identity (k tries : Nat)
  | retryWait (k tries : Nat)
  /-- Writing init entry `k`, or waiting for its delay. -/
  | init (k : Nat)
  | initWait (k : Nat)
  | present
deriving DecidableEq, Repr

/-- A frame in progress on a virtual channel. -/
structure CsiFrame where
  /-- Capture tick (R287). -/
  started : Nat
  dataType : Nat
  width : Nat
  lines : Nat
  /-- Lines of the frame size that its first line gives (R184). -/
  height : Nat
  /-- Payload so far. -/
  data : List Byte
  /-- A line differs in width or data type. -/
  broken : Bool
  /-- No cell for it (R341, Table 10.2). -/
  noCell : Bool
deriving DecidableEq, Repr

/-- A CSI-2 port (Table 4.13). -/
structure CsiPort where
  /-- Debounced detect. -/
  det : Bool
  /-- Raw level active, and debounce running since (R357, R181). -/
  rawDet : Bool
  stage : ProbeStage
  /-- Bytes read by the probe (R173). -/
  probe : List Byte
  identValid : Bool
  i2cLow : Bool
  lastDt : Nat
  hsActive : Bool
  /-- CAMp_EN is high; CAMp_RST_N is high from `rstPs` on (R562). -/
  camEn : Bool
  rstPs : Nat
  /-- Frames in progress by virtual channel. -/
  frames : Table CsiFrame
  /-- Virtual channels whose partner found the table full (R176). -/
  untracked : List Nat
  /-- Keeper time in ps at which the stage of its arrival began. -/
  since : Nat
deriving DecidableEq, Repr

/-- A USB port (Table 4.14). -/
structure UsbPort where
  conn : Bool
  superSpeed : Bool
  oc : Bool
  /-- Enumeration in progress (R185). -/
  enumerating : Bool
  /-- Streams of an attached UVC device, and the one in which it streams (R180). -/
  modes : List UvcMode
  stream : Option UvcMode
  /-- Keeper time in ps at which VBUS was switched off (R186). -/
  since : Nat
deriving DecidableEq, Repr

/-- A received access unit that is still open on a flow (R194, R195). -/
structure OpenAu where
  stamp : Nat
  /-- RTP payload type of its first packet (R175). -/
  pt : Nat
  bytes : Nat
  incomplete : Bool
  /-- Tick of the first loss. -/
  lostTick : Nat
  /-- No cell: the unit is discarded whole (R197). -/
  dead : Bool
  /-- Cells of the unit, by handle. -/
  cells : List Nat
deriving DecidableEq, Repr

/-- The state of an ingress flow (R191 to R197). -/
structure Flow where
  /-- Tokens in nano-bytes, and the Keeper time in ns at which they were counted (R191). -/
  tokens : Nat
  tokenNs : Nat
  expected : Option Nat
  ssrc : Nat
  srcIp : Nat
  srcPort : Nat
  unit : Option OpenAu
  lastTick : Nat
  refreshTick : Option Nat
deriving DecidableEq, Repr

/-- Who queued an egress frame. -/
inductive TxOwner where
  | netTx (job : Nat)
  /-- A packet of the frame that an ENCODE channel coded in a job, or of the end of its stream. -/
  | encode (chan job : Nat)
  /-- The firmware's PTP clock: the delay request with this sequence number (R203, R211). -/
  | ptp (seq : Nat)
deriving DecidableEq, Repr

/-- A frame in an egress queue (R201, R207). -/
structure TxFrame where
  owner : TxOwner
  /-- Bytes charged. -/
  charge : Nat
  len : Nat
  /-- Keeper time in ps at which it was queued; of a packet of an encode, when the first packet of its picture was
  (R205). -/
  queuedPs : Nat
  queuedTick : Nat
  /-- The cell that holds a NET_TX frame (R207). -/
  cell : Option Nat
  /-- The frame from its destination MAC address on, without the FCS. -/
  data : List Byte
deriving DecidableEq, Repr

/-- An egress queue (R202). -/
structure Queue where
  /-- Signed credit in nano-bytes, and the Keeper time in ns at which it was counted. -/
  credit : Int
  creditNs : Nat
  frames : List TxFrame
  /-- Bytes of NET_TX frames held (R208). -/
  netBytes : Nat
deriving DecidableEq, Repr

/-- A PTP master as its Announce messages describe it (R211, IEEE 1588-2008). -/
structure PtpMaster where
  /-- sourcePortIdentity. -/
  identity : Nat
  /-- What the best master clock algorithm compares, in order: priority1, class, accuracy, variance, priority2,
  grandmaster identity, steps removed. -/
  rank : List Nat
deriving DecidableEq, Repr

/-- The ordinary clock that the firmware runs on a port (R210, R211). Times are in ns. -/
structure PtpClock where
  /-- The port's PTP time at Keeper time `basePs`. -/
  baseNs : Nat
  basePs : Nat
  /-- Masters heard in the domain. -/
  masters : List PtpMaster
  /-- A two-step Sync that waits for its Follow_Up: sequence number, receive stamp and correction. -/
  sync : Option (Nat × Nat × Int)
  /-- Corrected send and receive times of the last Sync. -/
  last : Option (Int × Nat)
  /-- Next sequence number of a delay request; the request sent last and its transmit stamp. -/
  reqSeq : Nat
  req : Option (Nat × Nat)
  /-- Mean path delay. -/
  delay : Int
  /-- Keeper time in ps of the last Sync, and its announced interval in ps. -/
  syncPs : Nat
  intervalPs : Nat
deriving DecidableEq, Repr

/-- An Ethernet port and its PTP clock (R187, R203, R212). -/
structure EthPort where
  link : Bool
  /-- The frame being sent, with its queue. -/
  sending : Option (Nat × TxFrame)
  /-- Keeper time in ps at which the frame being sent has left. -/
  sendEnd : Nat
  ptpState : Nat
  offset : Int
  good : Nat
  bad : Nat
  /-- Frames of the PTP clock waiting to be sent (R203). -/
  ptpQueue : List TxFrame
  /-- The stamps that the MAC took last, of a received and of a sent frame, in ns of the port's PTP time (R210). -/
  rxStamp : Nat
  txStamp : Nat
  ptp : PtpClock
  pps : Bool
deriving DecidableEq, Repr

/-- A layer setting: bytes 0x12 to 0x31 of LAYER_SET, read out (Table 8.1). -/
structure Layer where
  srcType : Nat
  srcRef : Nat
  srcX : Nat
  srcY : Nat
  srcW : Nat
  srcH : Nat
  dstX : Nat
  dstY : Nat
  dstW : Nat
  dstH : Nat
  alpha : Nat
  ageLimit : Nat
  borderPx : Nat
  matrix : Nat
  colour : Nat
  borderRgb : Nat
  /-- The bytes as CMP_LAYER_d_l shows them. -/
  raw : List Byte
deriving DecidableEq, Repr

/-- What a LAYER_SET changes (R277). -/
inductive LayerChange where
  | layer (display layer : Nat) (set : Layer)
  | control (display power backlight bg : Nat)
deriving DecidableEq, Repr

/-- What one layer of a composed frame shows. -/
structure Shown where
  layer : Nat
  set : Layer
  /-- Capture tick of the picture shown, for a camera or decode layer. -/
  captured : Option Nat
  /-- What it was composed from: the picture, or the overlay with its alpha as a fourth plane (R282, R285). -/
  image : Image
deriving DecidableEq, Repr

/-- A composed frame (R280, R285). -/
structure Frame where
  bg : Nat
  layers : List Shown
deriving DecidableEq, Repr

/-- An executed LAYER_SET that waits for its edge (R277). -/
structure DueChange where
  /-- Tick whose opening edge it applies at. -/
  tick : Nat
  /-- Its job: settings of one edge apply in fetch order. -/
  job : Nat
  change : LayerChange
deriving DecidableEq, Repr

/-- An overlay slot (R282). -/
structure Overlay where
  width : Nat
  height : Nat
  format : Nat
  data : List Byte
  cells : List Nat
deriving DecidableEq, Repr

/-- An OVERLAY_LOAD copy: the job, the slot and the cells taken (R282). -/
structure Copy where
  job : Nat
  slot : Nat
  cells : List Nat
  width : Nat
  height : Nat
  format : Nat
deriving DecidableEq, Repr

/-- The compositor. -/
structure Cmp where
  /-- Settings applied, by 16 × display + layer. -/
  layers : Table Layer
  /-- Settings waiting for their edge (R277). -/
  changes : List DueChange
  overlays : Table Overlay
  copies : List Copy
  /-- Images copied that switch at the next edge: slot and image (R282). -/
  switching : List (Nat × Overlay)
  /-- Layers stale at the last edge, by 16 × display + layer (R290). -/
  stale : List Nat
  /-- Keeper time in ns at which a Class M restart began and no display has flipped since (R291). -/
  holdFrom : Option Nat
  /-- Displays showing HOLD_RGB. -/
  holding : List Nat
deriving DecidableEq, Repr

/-- Steps of panel power (R297, R298). -/
inductive PanelStep where
  | off
  /-- VDD_EN high, waiting for HPD (eDP). -/
  | waitHpd
  /-- VDD_EN high, waiting T_VDD_LINK. -/
  | waitLink
  /-- eDP link training. -/
  | training
  /-- The link runs; video starts at the next edge. -/
  | waitVideo
  /-- Video runs; the backlight waits T_FRAME_BL. -/
  | waitBacklight
  | on
  /-- The backlight is off, waiting T_BL_LINK. -/
  | waitLinkOff
  /-- The link is off, waiting T_LINK_VDD. -/
  | waitVddOff
  /-- VDD_EN is low, waiting T_OFF. -/
  | waitOff
deriving DecidableEq, Repr

/-- A display output. -/
structure Display where
  step : PanelStep
  /-- Frames are scanned out: from the first frame until the link stops (R297, R298). -/
  scans : Bool
  /-- Keeper time in ps at which the step began; from VDD_EN on for the wait for the link. -/
  since : Nat
  /-- Raw level of PANELn_DET or HPD: active. -/
  raw : Bool
  present : Bool
  /-- The link failed to train; the display stays dark (R296). -/
  dark : Bool
  /-- A lost link is being retrained without a power cycle (R300). -/
  retrain : Bool
  trLanes : Nat
  trRate : Nat
  backlight : Nat
  bg : Nat
  /-- Power up again when T_OFF has passed (R298), or after an output restart (DSP 0x0B05). -/
  again : Bool
  /-- Identity of the panel: its digest (R173). -/
  ident : Option Nat
  /-- Index of the front buffer, frame scanned out and frame composed for the next flip. -/
  frontBuf : Nat
  front : Option Frame
  back : Option Frame
  /-- Frequency offset y in ppb, last E (R499, R500). -/
  y : Int
  lastE : Int
deriving DecidableEq, Repr

/-- The memories whose bytes the module writes. -/
structure Mem where
  /-- On-chip SRAM, by byte address; unlisted bytes are 0 (R453). -/
  sram : Table Byte
  /-- Cells of the SRAM banks that a RETAIN entry copies to the firmware region of DRAM (R427). -/
  saved : Table Byte
  /-- Host memory as the module's DMA has written it; unlisted bytes were not written by it. -/
  host : Table Byte
  /-- DRAM bytes of the Waggle trace ring and of the frame buffers of displays (R281, R372). -/
  dram : Table Byte
  /-- MRAM as FW_STAGE, rescue and the wipe have written it; unlisted bytes are as delivered. -/
  mram : Table Byte
  /-- Banks powered (MEM_STATUS.BANK_ON). -/
  bankOn : Nat
  trained : Nat
  selfRefresh : Bool
  mr4 : Nat
  /-- Ticks since the last maintenance step. -/
  maintTicks : Nat
  /-- Channels that the present maintenance has updated (R322). -/
  maintChan : Nat
  /-- DRAM address that the patrol reads next. -/
  patrol : Nat
  /-- IECC in force, taken at GO (R320). -/
  iecc : Bool
  /-- Refreshes issued (R323; the model's own). -/
  refreshes : Nat
deriving DecidableEq, Repr

/-- The comb manager. -/
structure Bpm where
  /-- Owner tag of each allocated cell, by handle; unlisted cells are free (R336). -/
  cells : Table Nat
  /-- Cells of each comb of the last successful build, and base (R333). -/
  counts : List Nat
  base : Nat
  built : Bool
  /-- COUNTs and base of the running build (R333). -/
  building : Option (List Nat × Nat)
  buildErr : Nat
  /-- Handles in the on-chip cache of combs 0 to 3 (R338). -/
  cache : List Nat
  /-- Combs whose list or cache is broken until a restart (BPM 0x0E01, 0x0E02), and the comb whose wrong check word has
  not been raised yet. -/
  broken : List Nat
  mismatch : Option Nat
  /-- Handles pushed onto the list of each comb since the stores were filled, head first; combs 4 to 7 (R339). -/
  lists : List (List Nat)
  /-- Lowest free count and policy failures of this tick; lowest of the previous tick. -/
  low : List Nat
  fails : List Nat
  prevLow : List Nat
  lowState : List Nat
  /-- Cells lost to map errors: they stay allocated with tag 0xFF. -/
  lost : Nat
  /-- Tags to reclaim at the next edge (R347), and tags reclaimed since the last edge (R348). -/
  due : List Nat
  recent : List Nat
deriving DecidableEq, Repr

/-- A Dispatcher thread slot (R353). STATE: 0 EMPTY, 1 WAITING, 2 READY, 3 RUNNING. -/
structure Thread where
  state : Nat
  prio : Nat
  flagsMode : Bool
  /-- Rule ALL, otherwise ANY (R357). -/
  all : Bool
  affinity : Nat
  lastCore : Nat
  /-- It has run since it was spawned, so that there is a core it last ran on (R358). -/
  ran : Bool
  tag : Nat
  runLimit : Nat
  reload : Nat
  counter : Nat
  pending : Nat
  flags : Word
  mask : Word
  /-- Keeper time in ns at which it last became READY. -/
  readyNs : Nat
  /-- Run time in ns before the present dispatch, and Keeper time in ns of that dispatch (R362). -/
  usedNs : Nat
  sinceNs : Nat
  bounds : List Bound
deriving DecidableEq, Repr

/-- A control core. -/
structure Core where
  thread : Option Nat
  prev : Option Nat
  fenceCause : Nat
deriving DecidableEq, Repr

/-- An ordered flow (R366, R367). -/
structure OFlow where
  next : Nat
  release : Nat
deriving DecidableEq, Repr

/-- The Dispatcher. -/
structure Sch where
  threads : Table Thread
  cores : List Core
  flows : Table OFlow
  /-- Tracing is on, taken at GO; next record number; records written since GO (R372, R373). -/
  tracing : Bool
  traceErr : Bool
  traceSeq : Nat
deriving DecidableEq, Repr

/-- A trouble-log entry (Table 13.6). -/
structure LogEntry where
  ktime : Nat
  tick : Nat
  code : Nat
  source : Nat
  cls : Nat
  rep : Nat
  channel : Nat
  link : Nat
  discarded : Nat
  addr : Nat
deriving DecidableEq, Repr

/-- The trouble log (R415). -/
structure Log where
  /-- Entries by number mod 2048. -/
  entries : Table LogEntry
  /-- KPR_LOG_WR. -/
  wr : Nat
  /-- Entries held since the last wipe, up to 2048. -/
  held : Nat
deriving DecidableEq, Repr

/-- A reaction in progress (R397 to R405). -/
structure Reaction where
  first : Nat
  acting : FClass
  startNs : Nat
  /-- Tick edges since its start (R404). -/
  edges : Nat
  /-- Codes of the reaction with their source, to end their causes with it. -/
  codes : List (Nat × Nat)
deriving DecidableEq, Repr

/-- The Guard. -/
structure Guard where
  /-- Status bits by block (GRD_FSTAT_b 15:0). -/
  status : Table Nat
  /-- Causes present: code and source (CAUSE_LIVE, R410). -/
  live : List (Nat × Nat)
  /-- Pairs held asserted: block and unit. -/
  asserted : List (Nat × Nat)
  reaction : Option Reaction
  firstCode : Nat
  /-- Reactions deferred by a low-power entry or mode: code, source, channels, and the number of the log
  entry written (R428). -/
  waiting : List (Nat × Nat × List Nat × Nat)
  /-- Keeper times in ns of Class M starts (R408). -/
  mStarts : List Nat
  safe : Bool
  /-- Fenced units with the code that fenced them (R393). -/
  fenced : List (UnitKind × Nat × Nat)
  /-- Units that passed their retest and return at the next edge (R37). -/
  returning : List (UnitKind × Nat)
  /-- A Class M restart runs; it ended and admission waits for the edge (R401). -/
  restarting : Bool
  resumeAtEdge : Bool
deriving DecidableEq, Repr

/-- A latched wake event (R439). -/
structure Wake where
  ns : Nat
  tick : Nat
  source : Nat
  /-- 0 during entry, 1 during the mode, 2 during exit (Table 14.6). -/
  when_ : Nat
deriving DecidableEq, Repr

/-- Where a mode change stands. -/
inductive Transition where
  | none
  /-- Accepted; begins at the next edge: target and CAUSE. -/
  | requested (target : Mode) (cause : Nat)
  /-- From the entry edge to the quiesce edge. -/
  | entering (target : Mode)
  /-- From the quiesce edge to entry completion. -/
  | quiesced (target : Mode)
  /-- The exit of a mode runs. -/
  | exiting (source : Mode)
deriving DecidableEq, Repr

/-- Modes and the wake latch. -/
structure Power where
  mode : Mode
  trans : Transition
  result : Nat
  from_ : Nat
  cause : Nat
  /-- CAUSE of the last low-power entry, for the event that its exit posts (R441). -/
  entryCause : Nat
  /-- Mode that the last low-power entry left, for the same event. -/
  entryFrom : Nat
  armed : Bool
  latched : List Wake
  seen : Nat
  /-- STBY_REQ_N has been high for the debounce time since the last request (R423). -/
  stbyReady : Bool
  /-- Tick number and Keeper time in ns of the quiesce edge, and entry completion (R433, R441). -/
  quiesceTick : Nat
  quiesceNs : Nat
  completeNs : Nat
  /-- Displays on at the entry edge (R435). -/
  displays : List Nat
  /-- Replay is due at the next edge, from this mode (R441); after GO for DEEP STANDBY. -/
  replay : Option Mode
  /-- Alarm in force (KPR_ALARM), 0 for none. -/
  alarm : Nat
  /-- The alarm has passed since it was written or since the last entry edge (R439). -/
  alarmPassed : Bool
  /-- PCIE_WAKE_N is held low (R561). -/
  wakeOut : Bool
deriving DecidableEq, Repr

/-- The noise-shaping modulator of a synthesiser (R482 to R484): three 24-bit accumulators, the carries that
the shaping still holds, and the 23-bit LFSR. -/
structure Modulator where
  acc1 : Nat
  acc2 : Nat
  acc3 : Nat
  /-- Last carry of the second stage, and last two of the third. -/
  c2 : Nat
  c3 : Nat
  c3' : Nat
  lfsr : Nat
deriving DecidableEq, Repr

/-- A synthesiser (Table 16.5). STATE: 0 off, 1 hopping, 2 table, 3 searching, 4 locked, 5 failed. -/
structure Synth where
  n : Nat
  k : Nat
  p : Nat
  state : Nat
  band : Nat
  us : Nat
  /-- Hop slots 0 to 3: N, BAND, P (R487). -/
  hops : List (Nat × Nat × Nat)
  mod : Modulator
deriving DecidableEq, Repr

/-- The clock unit. -/
structure Clk where
  /-- Active CPLL. -/
  active : Nat
  /-- The other CPLL has held lock long enough to be the standby (R493). -/
  standby : Bool
  synths : List Synth
  dramDll : Nat
  lvdsDll : Nat
  backup : Bool
deriving DecidableEq, Repr

/-- A core-regulator phase (Table 17.4). -/
structure Phase where
  state : Nat
  /-- For a phase shed at the power-sequence test: the open-phase check failed, not the current sense. -/
  byOpen : Bool
  distrust : Bool
  /-- Consecutive failing checks of both references, and passing checks (R522). -/
  fails : Nat
  passes : Nat
  ma : Nat
deriving DecidableEq, Repr

/-- The power stage. -/
structure Pwr where
  vinMv : Nat
  iinMa : Nat
  phases : List Phase
  /-- PWR_CORE_STATUS.SPARE, 7 for none. -/
  spare : Nat
  capA : Nat
  throttle : Bool
  /-- Present, target and confirmed operating point; settle flag (R443). -/
  op : Nat
  target : Nat
  settled : Bool
  /-- Keeper time in ns at which the present raise began (R528). -/
  rampNs : Nat
  coreMv : Nat
  tj : Int
  treg : Int
  /-- Thermal ceiling as the sequence has it, and as it is in force since the last edge (R529). -/
  thermCeil : Nat
  thermNow : Nat
  /-- Keeper times in ns of the next fall or rise of the thermal ceiling (R529). -/
  fallNs : Option Nat
  riseNs : Option Nat
  /-- Keeper time in ns of the last reading, and since when the shutdown temperature holds (R531). -/
  readNs : Nat
  hotNs : Option Nat
  /-- The second phase loss holds the ceiling at OP3 (R525). -/
  phaseCeil : Bool
  /-- Clamp episodes within the last second: end in ns and milliseconds (R506). -/
  clamps : List (Nat × Nat)
  inputOpen : Bool
  /-- The rails of the core domain stand (R511, R513, R517). -/
  pwrGood : Bool
  /-- V1P8 or V3P3 has left its window while the bus is held: the pad PWR_GOOD is low (R512). -/
  lowGood : Bool
  railOk : Nat
  /-- Auxiliary outputs in overload retry. -/
  auxOvl : List Nat
  /-- KPR_PWR_SEQ: the failing step; a retry is due after 1 s (R513). -/
  seqStep : Nat
  seqFailed : Bool
  /-- Keeper time in ns of that failure. -/
  seqNs : Nat
  /-- A corrupt copy of the controller settings waits for the edge (R516). -/
  badCopy : Bool
  /-- VIN or IIN sense failed until the next power sequence. -/
  senseLost : Bool
  /-- Nanojoule remainders of the four energy counters. -/
  inNj : Nat
  coreNj : Nat
  memNj : Nat
  ovhNj : Nat
  cmpNj : Table Nat
  /-- The Keeper's supply is above its minimum. -/
  keeperOn : Bool
deriving DecidableEq, Repr

/-- A pulse schedule and mode that FIO_SET gives one output (Table 18.2). MODE: 1 off, 2 on, 3 pulse. -/
structure FoutSet where
  mode : Nat
  div : Nat
  width : Nat
  offset : Nat
deriving DecidableEq, Repr

/-- A field output. -/
structure Fout where
  set : FoutSet
  /-- Tick at which the setting applied (R541). -/
  since : Nat
  /-- The switch is commanded on by the schedule; a pulse is in progress. -/
  pulsing : Bool
  ol : Bool
  short : Bool
  ext : Bool
  /-- Tick of the last scheduled pulse (R541). -/
  lastPulse : Option Nat
  /-- A retry after a short is in progress. -/
  retrying : Bool
  /-- Tick in which it last switched on (R548). -/
  onTick : Option Nat
deriving DecidableEq, Repr

/-- A field input. -/
structure Fin' where
  level : Bool
  stamp : Nat
deriving DecidableEq, Repr

/-- Field I/O. -/
structure Fio where
  vfieldMv : Nat
  present : Bool
  /-- Outputs wait for the edge after VFIELD returned (R538). -/
  restoreAtEdge : Bool
  outs : List Fout
  ins : List Fin'
  /-- Settings waiting for their edge: tick and the four settings (R540). -/
  sets : List (Nat × List FoutSet)
  pairs : Nat
  locked : Nat
  /-- The safe levels are in force (R544); schedules are stopped. -/
  safeLevels : Bool
  stopped : Bool
deriving DecidableEq, Repr

/-- The level of a pad. -/
inductive Level where
  | low
  | high
  /-- Released, for an open drain, or high-impedance. -/
  | z
deriving DecidableEq, Repr

/-- The output pads (Table 19.3). -/
structure Pads where
  faultN : Level
  safeN : Level
  mgmtIrqN : Level
  pwrGood : Level
  mgmtReady : Level
  clkreqN : Level
  wakeN : Level
  tickOut : Level
  camEn : List Level
  camRstN : List Level
  vddEn : List Level
  blEn : List Level
  /-- High share of each backlight PWM, 0 to 255. -/
  blPwm : List Nat
  vbusEn : List Level
  phyRstN : List Level
  pps : List Level
  /-- The clock output toggles. -/
  clkOut : List Bool
  /-- The field output drives its load. -/
  fout : List Bool
  dbgTxd : Level
deriving DecidableEq, Repr

/-- Host link state: rings, job table, events and the status block. -/
structure Hif where
  sqs : Table Sq
  cqs : Table Cq
  evPi : Nat
  evCi : Nat
  /-- Events due at the next edge, and events held on chip for want of room (R127, R128). -/
  evDue : List Event
  evHeld : List Event
  /-- Events were lost: before the next event posted, and since the last status block. -/
  lostBefore : Bool
  lostNow : Bool
  /-- The events that the host has not consumed, newest first: a failed write takes one back (R131). -/
  evRecent : List RingPost
  /-- Sequence number of the last status block (R111). -/
  seq : Word
  /-- The next status block sets DP_RESTART (R132). -/
  dpRestart : Bool
  /-- Jobs numbered below this were fetched before the last Class M restart (R132). -/
  restartJobs : Nat
  jobs : List Job
  /-- Live decodes and encodes (R222, R247). -/
  live : List Job
  nextJob : Nat
  peak : Nat
  jtFull : Bool
  /-- Ring last served at each priority (R134). -/
  served : List Nat
  /-- A doorbell read has been made and its fetch is not finished. -/
  fetching : Bool
  /-- The doorbell block has been read for this edge or poll. -/
  dbRead : Bool
  /-- Fetching and the status block have stopped after a link loss (R116, R117). -/
  linkStopped : Bool
  /-- The first edge after GO has come: ring traffic runs (R99). -/
  started : Bool
  /-- The sub-tick poll whose fetch is not finished, and the number that the next job had when it began (R110). -/
  polling : Option (Nat × Nat)
  /-- Channels named by a create that is in the job table (R148). -/
  creating : List Nat
deriving DecidableEq, Repr

/-- The whole module. -/
structure State where
  /-- Commands waiting, first in, first out. -/
  pending : List Instr
  /-- Registers by BAR0 offset, where they differ from their reset value. -/
  regs : Table Word
  bus : Bus
  sys : Sys
  engines : List SynEngine
  clock : Clock
  tick : Tick
  hif : Hif
  chans : Table Channel
  partners : Table Partner
  /-- Generation of each partner ID (R172). -/
  gens : Table Nat
  csi : List CsiPort
  usb : List UsbPort
  flows : Table Flow
  queues : Table Queue
  eth : List EthPort
  cmp : Cmp
  displays : List Display
  mem : Mem
  bpm : Bpm
  sch : Sch
  log : Log
  guard : Guard
  power : Power
  clk : Clk
  pwr : Pwr
  fio : Fio
  pads : Pads
  /-- The model's own counter of free values (Config.free). -/
  fresh : Nat
deriving DecidableEq, Repr

/-! Reset values. -/

def Sq.reset : Sq := { pi := 0, ci := 0, failed := false, loggedTick := none }
def Cq.reset : Cq := { pi := 0, ci := 0, unsignalled := 0, sinceNs := 0, recent := [], reserved := 0 }

/-- Both high-word latches are 0 before the first low-word read on their path (notes/assumptions/167.md). -/
def Bus.reset : Bus :=
  { latchPcie := 0, latchSpi := 0, stagedPcie := none, stagedSpi := none, readPcie := 0, readSpi := 0, readPoisoned := false,
    spiOut := [], spiCrcErr := false, msixTable := [], pba := [], msixSent := [], linkGen := 0,
    linkWidth := 0, bme := false, d3hot := false, linkLost := false, perst := false,
    endpointOff := false, held := [], crs := 0 }

def FwSlot.empty : FwSlot := { state := 0, version := 0, epoch := 0 }

/-- No picture. -/
def Image.empty : Image := { width := 0, height := 0, chroma := 0, depth := 8, planes := [] }

/-- Reset values of the SYS and LCS blocks; the boot record and the fuses, which no reset changes, stand as
delivered (notes/assumptions/6.md). -/
def Sys.reset : Sys :=
  { cfg := .config, bootStage := 0, rescue := false, rescueNoSlot := false, bootStopped := false,
    resetLow := false, resetCause := 0, slotFail := false, bootSlot := 0, restart := none, dramGib := 8,
    slotA := { state := 1, version := 1, epoch := 0 }, slotB := .empty, preferred := 0,
    trialBooted := false, wipePending := none, lcsResult := 0, lcsLast := 0, wipeUs := 0, lifeState := 0,
    patchKey := true, fwEpochFuse := 0, patchEpochFuse := 0, fwVersion := 0, fwEpoch := 0,
    staging := false, rescueResult := 0, slotFaultDue := false, dramWipeDue := false, loadResult := 1,
    overrides := [], patchWords := [], patchVersion := 0, imageEpoch := 0 }

def SynEngine.reset : SynEngine :=
  { upc := 0, stack := [], waiting := false, job := none, saved := [] }

def Clock.reset : Clock := { ps := 0, refFailed := false, oscFailed := false }

def Tick.reset : Tick :=
  { number := 0, src := 0, ptpPort := 0, periodNs := 20000000, tolUs := 50, polls := 0, edgePs := 0,
    nextPs := 20000000000, stopped := false, window := .admission, pollsDone := 0, srcState := 0,
    run := 0, missed := 0, lastAccepted := none, lastAcceptedTick := 0, intervals := [], edges := [],
    target := none, heldNs := 20000000, holdTicks := 0, firstErr := 0, owedRestore := false,
    correction := 0, out := false, ceiling := 5, curOp := 0, budget := [0, 0, 0, 0],
    spent := [0, 0, 0, 0], synRoom := [0, 0, 0], shortKinds := [], composing := [], composed := [],
    cmpStarted := false }

def Hif.reset : Hif :=
  { sqs := [], cqs := [], evPi := 0, evCi := 0, evDue := [], evHeld := [], lostBefore := false,
    lostNow := false, evRecent := [], seq := 0, dpRestart := false, restartJobs := 0, jobs := [], live := [], nextJob := 0,
    peak := 0, jtFull := false, served := [63, 63, 63, 63], fetching := false, dbRead := false,
    linkStopped := false, started := false, polling := none, creating := [] }

def Channel.free : Channel :=
  { state := 0, kind := 0, cls := 0, rank := 0, maxDefer := 0, codec := 0, decMode := 0, bindMode := 0,
    bindRef := 0, bindGen := 0, bindIdent := none, synbufMib := 0, width := 0, height := 0, refs := 0,
    resSyn := 0, resPix := 0, resEnc := 0, cq := 0, bound := none, binds := [], rejected := [],
    pause := none, resume := none, exporting := none, closing := [], restart := false,
    waitIrap := false, decState := 0, depth := 0, profile := 0, level := 0, unsup := 0, picWidth := 0,
    picHeight := 0, chroma := 1, params := none, refused := none, dpb := [], discarded := [], windows := [], tainted := false, auSeq := 0, slot1 := none,
    slot2 := none, refreshTick := none, pic := none, nextPic := none, rowBuf := 0, dramKib := 0, startTick := 0,
    enc := none, encQp := 0, encBytes := 0 }

def Partner.free : Partner :=
  { type := 0, port := 0, gen := 0, flags := 0, width := 0, height := 0, format := 0, ident := 0,
    arriveTick := 0, frames := [], leaving := false }

def CsiPort.reset : CsiPort :=
  { det := false, rawDet := false, stage := .absent, probe := [], identValid := false, i2cLow := false,
    lastDt := 0, hsActive := false, camEn := false, rstPs := 0, frames := [], untracked := [], since := 0 }

def UsbPort.reset : UsbPort :=
  { conn := false, superSpeed := false, oc := false, enumerating := false, modes := [], stream := none, since := 0 }

def Flow.reset : Flow :=
  { tokens := 0, tokenNs := 0, expected := none, ssrc := 0, srcIp := 0, srcPort := 0, unit := none,
    lastTick := 0, refreshTick := none }

def Queue.reset : Queue := { credit := 0, creditNs := 0, frames := [], netBytes := 0 }

def PtpClock.reset : PtpClock :=
  { baseNs := 0, basePs := 0, masters := [], sync := none, last := none, reqSeq := 0, req := none, delay := 0, syncPs := 0,
    intervalPs := 0 }

def EthPort.reset : EthPort :=
  { link := false, sending := none, sendEnd := 0, ptpState := 0, offset := 0, good := 0, bad := 0, ptpQueue := [],
    rxStamp := 0, txStamp := 0, ptp := .reset, pps := false }

def Layer.off : Layer :=
  { srcType := 0, srcRef := 0, srcX := 0, srcY := 0, srcW := 0, srcH := 0, dstX := 0, dstY := 0,
    dstW := 0, dstH := 0, alpha := 0, ageLimit := 0, borderPx := 0, matrix := 0, colour := 0,
    borderRgb := 0, raw := [] }

def Overlay.empty : Overlay := { width := 0, height := 0, format := 0, data := [], cells := [] }

def Cmp.reset : Cmp :=
  { layers := [], changes := [], overlays := [], copies := [], switching := [], stale := [],
    holdFrom := none, holding := [] }

def Display.reset : Display :=
  { step := .off, scans := false, since := 0, raw := false, present := false, dark := false, retrain := false, trLanes := 0, trRate := 0, backlight := 255, bg := 0,
    again := false, ident := none, frontBuf := 0, front := none, back := none, y := 0, lastE := 0 }

def Mem.reset : Mem :=
  { sram := [], saved := [], host := [], dram := [], mram := [], bankOn := 0xFFFF, trained := 0,
    selfRefresh := false, mr4 := 0, maintTicks := 0, maintChan := 0, patrol := 0, iecc := false, refreshes := 0 }

def Bpm.reset : Bpm :=
  { cells := [], counts := [0, 0, 0, 0, 0, 0, 0, 0], base := 0, built := false, building := none,
    buildErr := 0, cache := [0, 0, 0, 0], broken := [], mismatch := none, lists := [[], [], [], [], [], [], [], []],
    low := [0, 0, 0, 0, 0, 0, 0, 0],
    fails := [0, 0, 0, 0, 0, 0, 0, 0], prevLow := [0, 0, 0, 0, 0, 0, 0, 0], lowState := [], lost := 0,
    due := [], recent := [] }

def Thread.empty : Thread :=
  { state := 0, prio := 0, flagsMode := false, all := false, affinity := 0, lastCore := 0, ran := false, tag := 0xFF,
    runLimit := 0, reload := 0, counter := 0, pending := 0, flags := 0, mask := 0, readyNs := 0, usedNs := 0, sinceNs := 0,
    bounds := [] }

def Core.idle : Core := { thread := none, prev := none, fenceCause := 0 }
def OFlow.reset : OFlow := { next := 0, release := 0 }

def Sch.reset : Sch :=
  { threads := [], cores := [.idle, .idle, .idle, .idle], flows := [], tracing := false,
    traceErr := false, traceSeq := 0 }

def LogEntry.zero : LogEntry :=
  { ktime := 0, tick := 0, code := 0, source := 0, cls := 0, rep := 0, channel := 0, link := 0,
    discarded := 0, addr := 0 }

def Log.reset : Log := { entries := [], wr := 0, held := 0 }

def Guard.reset : Guard :=
  { status := [], live := [], asserted := [], reaction := none, firstCode := 0, waiting := [],
    mStarts := [], safe := false, fenced := [], returning := [], restarting := false, resumeAtEdge := false }

def Power.reset : Power :=
  { mode := .run, trans := .none, result := 0, from_ := 0, cause := 0, entryCause := 0, entryFrom := 4, armed := false, latched := [],
    seen := 0, stbyReady := true, quiesceTick := 0, quiesceNs := 0, completeNs := 0, displays := [],
    replay := none, alarm := 0, alarmPassed := false, wakeOut := false }

/-- A modulator as a tuning starts it: accumulators clear, LFSR loaded (R484). -/
def Modulator.load (seed : Nat) : Modulator :=
  { acc1 := 0, acc2 := 0, acc3 := 0, c2 := 0, c3 := 0, c3' := 0, lfsr := if seed = 0 then 1 else seed }

def Synth.reset : Synth :=
  { n := 0, k := 0, p := 0, state := 0, band := 0, us := 0, hops := [], mod := .load 1 }

def Clk.reset : Clk :=
  { active := 0, standby := false, synths := [.reset, .reset, .reset, .reset, .reset, .reset], dramDll := 0, lvdsDll := 0,
    backup := false }

def Phase.active : Phase := { state := 0, byOpen := false, distrust := false, fails := 0, passes := 0, ma := 0 }

def Pwr.reset : Pwr :=
  { vinMv := 0, iinMa := 0, phases := [.active, .active, .active, .active, { Phase.active with state := 1 }],
    spare := 4, capA := 27, throttle := false, op := 0, target := 0, settled := true, rampNs := 0,
    coreMv := 0, tj := 0, treg := 0, thermCeil := 5, thermNow := 5, fallNs := none, riseNs := none, readNs := 0, hotNs := none,
    phaseCeil := false, clamps := [], inputOpen := false, pwrGood := true, lowGood := false, railOk := 0,
    auxOvl := [], seqStep := 0, seqFailed := false, seqNs := 0, badCopy := false, senseLost := false, inNj := 0,
    coreNj := 0, memNj := 0, ovhNj := 0, cmpNj := [], keeperOn := true }

def FoutSet.off : FoutSet := { mode := 1, div := 0, width := 0, offset := 0 }

def Fout.reset : Fout :=
  { set := .off, since := 0, pulsing := false, ol := false, short := false, ext := false,
    lastPulse := none, retrying := false, onTick := none }

def Fin'.reset : Fin' := { level := false, stamp := 0 }

def Fio.reset : Fio :=
  { vfieldMv := 0, present := false, restoreAtEdge := false, outs := [.reset, .reset, .reset, .reset],
    ins := [.reset, .reset, .reset, .reset], sets := [], pairs := 0, locked := 0, safeLevels := false,
    stopped := false }

/-- The pads while the module boots (Table 19.3, "Reset and boot"). -/
def Pads.boot : Pads :=
  { faultN := .z, safeN := .z, mgmtIrqN := .z, pwrGood := .high, mgmtReady := .high, clkreqN := .low,
    wakeN := .z, tickOut := .low, camEn := [.low, .low, .low, .low], camRstN := [.low, .low, .low, .low],
    vddEn := [.low, .low, .low], blEn := [.low, .low, .low], blPwm := [0, 0, 0], vbusEn := [.low, .low, .low],
    phyRstN := [.low, .low], pps := [.low, .low], clkOut := [false, false, false, false],
    fout := [false, false, false, false], dbgTxd := .high }

/-- The module right after a power-on reset: the power sequence has ended with PWR_GOOD high, the boot ROM
starts at stage 0, and every register holds its reset value. -/
def State.reset : State :=
  { pending := [], regs := [], bus := .reset, sys := .reset,
    engines := [.reset, .reset, .reset], clock := .reset, tick := .reset, hif := .reset, chans := [],
    partners := [], gens := [], csi := [.reset, .reset, .reset, .reset], usb := [.reset, .reset, .reset],
    flows := [], queues := [], eth := [.reset, .reset], cmp := .reset,
    displays := [.reset, .reset, .reset], mem := .reset, bpm := .reset, sch := .reset, log := .reset,
    guard := .reset, power := .reset, clk := .reset, pwr := .reset, fio := .reset, pads := .boot,
    fresh := 0 }

end Sys2Proof.Machine
end

