-- ==== Sys2Proof/Machine/Table.lean ====
section
/-! DEFINITION. Sparse tables: rising numbers, and no entry equal to what an unlisted number holds. -/

namespace Sys2Proof.Machine

/-- What number `i` holds; `d` where it is not listed. -/
def tget {α : Type} (d : α) : Table α → Nat → α
  | [], _ => d
  | (k, v) :: t, i => if i = k then v else tget d t i

/-- Number `i` is no longer listed. -/
def tdel {α : Type} (t : Table α) (i : Nat) : Table α := t.filter (fun p => !(p.1 == i))

/-- Number `i` now holds `v`; holding `d` takes the entry away. -/
def tput {α : Type} [DecidableEq α] (d : α) : Table α → Nat → α → Table α
  | [], i, v => if v = d then [] else [(i, v)]
  | (k, x) :: t, i, v =>
    if i < k then (if v = d then tdel ((k, x) :: t) i else (i, v) :: (k, x) :: t)
    else if i = k then (if v = d then tdel t i else (i, v) :: t)
    else (k, x) :: tput d t i v

/-- Number `i` now holds `v`, listed whatever `v` is. -/
def tset {α : Type} : Table α → Nat → α → Table α
  | [], i, v => [(i, v)]
  | (k, x) :: t, i, v =>
    if i < k then (i, v) :: (k, x) :: t else if i = k then (i, v) :: t else (k, x) :: tset t i v

/-- Whether number `i` is listed. -/
def thas {α : Type} (t : Table α) (i : Nat) : Bool := t.any (fun p => p.1 == i)

/-- Change what number `i` holds. -/
def tmod {α : Type} [DecidableEq α] (d : α) (t : Table α) (i : Nat) (f : α → α) : Table α :=
  tput d t i (f (tget d t i))

/-- The canonical form: every number above `lo` and rising, no entry equal to `d`. -/
def twfFrom {α : Type} [DecidableEq α] (d : α) : Nat → Table α → Bool
  | _, [] => true
  | lo, (k, v) :: t => decide (lo ≤ k) && !decide (v = d) && twfFrom d (k + 1) t

/-- The canonical form of a table. -/
def twf {α : Type} [DecidableEq α] (d : α) (t : Table α) : Bool := twfFrom d 0 t

/-- Consecutive numbers from `a` hold the given values. -/
def tputs {α : Type} [DecidableEq α] (d : α) (t : Table α) (a : Nat) : List α → Table α
  | [] => t
  | v :: vs => tputs d (tput d t a v) (a + 1) vs

/-- Bytes `bs` pair up with the addresses from `a` on. -/
def cellsFrom (a : Nat) : List Byte → Table Byte
  | [] => []
  | b :: t => (a, b) :: cellsFrom (a + 1) t

/-- A memory after bytes `bs` are written from address `a` on, every written byte listed. -/
def splice (m : Table Byte) (a : Nat) (bs : List Byte) : Table Byte :=
  m.filter (fun p => decide (p.1 < a)) ++ cellsFrom a bs ++
    m.filter (fun p => decide (a + bs.length ≤ p.1))

/-- `n` bytes from address `a` on, `d` where nothing is listed. -/
def readBytes (d : Byte) (m : Table Byte) (a : Nat) : Nat → List Byte
  | 0 => []
  | n + 1 => tget d m a :: readBytes d m (a + 1) n

/-- Element `i` of a list, `d` outside it. -/
def lget {α : Type} (d : α) (l : List α) (i : Nat) : α := (l[i]?).getD d

/-- Change element `i` of a list. -/
def lmod {α : Type} : List α → Nat → (α → α) → List α
  | [], _, _ => []
  | x :: t, 0, f => f x :: t
  | x :: t, i + 1, f => x :: lmod t i f

/-- `x` added to a list without repeats. -/
def ladd (l : List Nat) (x : Nat) : List Nat := if l.contains x then l else l ++ [x]

/-- `x` taken out of a list. -/
def ldel (l : List Nat) (x : Nat) : List Nat := l.filter (fun y => !(y == x))

/-- Insert into a list kept in the order of a Boolean comparison: after every element that may precede it. -/
def insertBy {α : Type} (le : α → α → Bool) (x : α) : List α → List α
  | [] => [x]
  | y :: t => if le y x then y :: insertBy le x t else x :: y :: t

/-- Sort by a Boolean comparison; equal elements keep their order. -/
def sortBy {α : Type} (le : α → α → Bool) (l : List α) : List α :=
  l.foldl (fun acc x => insertBy le x acc) []

end Sys2Proof.Machine
end

