-- ==== Sys2Proof/Machine/RegMap.lean ====
section
/-! DEFINITION. The register map: every register of the register tables of spec/, under the manual's own
name, with its BAR0 offset (Table 0.4 gives the blocks), its fields, their access types (Table 0.3, R577)
and their reset values. Neighbouring fields of one access type are joined where nothing tells them apart.
Reserved bits belong to no field. -/

namespace Sys2Proof.Machine

/-- Access types (Table 0.3). -/
inductive Access where
  | cfg
  | svc
  | ro
  | w1c
deriving DecidableEq, Repr

/-- A field: its bits, access type and reset value. -/
structure Field where
  hi : Nat
  lo : Nat
  access : Access
  reset : Nat
deriving DecidableEq, Repr

/-- What is special about a register. -/
inductive RegKind where
  | plain
  /-- A counter under R18. -/
  | counter
  /-- A 64-bit counter under R19; it takes two consecutive words. -/
  | counter64
  /-- A register whose reset value the factory programs (R485). -/
  | factory
deriving DecidableEq, Repr

/-- A register, or an array of `n` registers `stride` apart, or of `n` × `m`. -/
structure RegDef where
  off : Nat
  n : Nat := 1
  stride : Nat := 0
  m : Nat := 1
  stride2 : Nat := 0
  kind : RegKind := .plain
  fields : List Field := []
deriving DecidableEq, Repr

/-- The offset of element (`i`, `j`). -/
def RegDef.at (d : RegDef) (i : Nat := 0) (j : Nat := 0) : Nat := d.off + i * d.stride + j * d.stride2

/-- The reset value that the fields give. -/
def RegDef.resetNat (d : RegDef) : Nat :=
  d.fields.foldl (fun a f => a + f.reset % 2 ^ (f.hi + 1 - f.lo) * 2 ^ f.lo) 0

/-- How many words an element takes. -/
def RegDef.words (d : RegDef) : Nat := if d.kind = .counter64 then 2 else 1

/-- The element and the word within it that `off` names, when it names one. -/
def RegDef.index? (d : RegDef) (off : Nat) : Option (Nat × Nat × Nat) :=
  if off < d.off then none
  else
    let r := off - d.off
    let i := if d.stride = 0 then 0 else r / d.stride
    let q := if d.stride = 0 then r else r % d.stride
    let j := if d.stride2 = 0 then 0 else q / d.stride2
    let p := if d.stride2 = 0 then q else q % d.stride2
    let w := p / 4
    if i < d.n ∧ j < d.m ∧ p % 4 = 0 ∧ w < d.words then some (i, j, w) else none

/-! SYS (Tables 15.11, 15.12, 4.11, 4.12). -/

def SYS_ID_LO : RegDef := { off := 0x0, fields := [⟨31, 0, .ro, 0x32534D41⟩] }
def SYS_ID_HI : RegDef := { off := 0x4, fields := [⟨7, 0, .ro, 0⟩, ⟨15, 8, .ro, 0⟩, ⟨19, 16, .ro, 0⟩] }
def SYS_CTL : RegDef := { off := 0x8, fields := [⟨0, 0, .cfg, 0⟩] }
def SYS_STATUS : RegDef := { off := 0xC, fields := [⟨11, 0, .ro, 0⟩] }
def SYS_RESTART : RegDef := { off := 0x10, fields := [⟨15, 0, .svc, 0⟩, ⟨18, 16, .svc, 0⟩] }
def SYS_FW_VERSION : RegDef := { off := 0x14, fields := [⟨31, 0, .ro, 0⟩] }
def SYS_FW_EPOCH : RegDef := { off := 0x18, fields := [⟨6, 0, .ro, 0⟩] }
def SYS_SLOT : RegDef := { off := 0x20, n := 2, stride := 0x8, fields := [⟨2, 0, .ro, 0⟩, ⟨14, 8, .ro, 0⟩] }
def SYS_SLOT_VER : RegDef := { off := 0x24, n := 2, stride := 0x8, fields := [⟨31, 0, .ro, 0⟩] }
def SYS_RESCUE_CTL : RegDef :=
  { off := 0x40,
    fields := [⟨20, 0, .svc, 0⟩, ⟨22, 21, .svc, 0⟩, ⟨31, 31, .svc, 0⟩] }
def SYS_RESCUE_STATUS : RegDef := { off := 0x44, fields := [⟨0, 0, .ro, 0⟩, ⟨15, 8, .ro, 0⟩] }
def SYS_LATE_WRITES : RegDef := { off := 0x80, kind := .counter }
def SYS_RESTART_REJECT_COUNT : RegDef := { off := 0x84, kind := .counter }
def SYS_CHAN : RegDef :=
  { off := 0x4000, n := 32, stride := 0x10,
    fields := [⟨9, 0, .ro, 0⟩, ⟨23, 16, .ro, 0⟩, ⟨31, 24, .ro, 255⟩] }
def SYS_CHAN_IN_COUNT : RegDef := { off := 0x4004, n := 32, stride := 0x10, kind := .counter }
def SYS_CHAN_PDROP_COUNT : RegDef := { off := 0x4008, n := 32, stride := 0x10, kind := .counter }
def SYS_CHAN_MDROP_COUNT : RegDef := { off := 0x400C, n := 32, stride := 0x10, kind := .counter }
def SYS_PARTNER_OVF_COUNT : RegDef := { off := 0x4200, kind := .counter }
def SYS_PARTNER : RegDef :=
  { off := 0x5000, n := 24, stride := 0x20, m := 8, stride2 := 4,
    fields := [⟨31, 0, .ro, 0⟩] }

/-! HIF (Tables 3.15 to 3.18). -/

def HIF_CTL : RegDef := { off := 0x10000, fields := [⟨7, 0, .cfg, 32⟩] }
def HIF_STATUS : RegDef :=
  { off := 0x10004,
    fields := [⟨5, 0, .ro, 0⟩, ⟨6, 6, .w1c, 0⟩, ⟨23, 16, .ro, 255⟩] }
def HIF_JT_OCC : RegDef := { off := 0x10008, fields := [⟨9, 0, .ro, 0⟩, ⟨25, 16, .ro, 0⟩] }
def HIF_DB_BASE_LO : RegDef := { off := 0x10010, fields := [⟨31, 0, .cfg, 0⟩] }
def HIF_DB_BASE_HI : RegDef := { off := 0x10014, fields := [⟨31, 0, .cfg, 0⟩] }
def HIF_ST_BASE_LO : RegDef := { off := 0x10018, fields := [⟨31, 0, .cfg, 0⟩] }
def HIF_ST_BASE_HI : RegDef := { off := 0x1001C, fields := [⟨31, 0, .cfg, 0⟩] }
def HIF_EVQ_BASE_LO : RegDef := { off := 0x10020, fields := [⟨31, 0, .cfg, 0⟩] }
def HIF_EVQ_BASE_HI : RegDef := { off := 0x10024, fields := [⟨31, 0, .cfg, 0⟩] }
def HIF_EVQ_CFG : RegDef := { off := 0x10028, fields := [⟨3, 0, .cfg, 0⟩] }
def HIF_DESC_FETCH_COUNT : RegDef := { off := 0x10100, kind := .counter64 }
def HIF_CPL_POST_COUNT : RegDef := { off := 0x10108, kind := .counter64 }
def HIF_INVALID_COUNT : RegDef := { off := 0x10110, kind := .counter }
def HIF_JOBTABLE_FULL_COUNT : RegDef := { off := 0x10114, kind := .counter }
def HIF_EVQ_LOST_COUNT : RegDef := { off := 0x10118, kind := .counter }
def HIF_CPL_LOST_COUNT : RegDef := { off := 0x1011C, kind := .counter }
def HIF_DMA_ERR_COUNT : RegDef := { off := 0x10120, kind := .counter }
def HIF_SPI_CRC_ERR_COUNT : RegDef := { off := 0x10124, kind := .counter }
def HIF_LINK_DOWN_COUNT : RegDef := { off := 0x10128, kind := .counter }
def HIF_SQ_BASE_LO : RegDef := { off := 0x11000, n := 64, stride := 0x10, fields := [⟨31, 0, .cfg, 0⟩] }
def HIF_SQ_BASE_HI : RegDef := { off := 0x11004, n := 64, stride := 0x10, fields := [⟨31, 0, .cfg, 0⟩] }
def HIF_SQ_CFG : RegDef :=
  { off := 0x11008, n := 64, stride := 0x10,
    fields := [⟨3, 0, .cfg, 0⟩, ⟨4, 4, .cfg, 0⟩, ⟨6, 5, .cfg, 0⟩, ⟨13, 8, .cfg, 0⟩] }
def HIF_CQ_BASE_LO : RegDef := { off := 0x11400, n := 64, stride := 0x10, fields := [⟨31, 0, .cfg, 0⟩] }
def HIF_CQ_BASE_HI : RegDef := { off := 0x11404, n := 64, stride := 0x10, fields := [⟨31, 0, .cfg, 0⟩] }
def HIF_CQ_CFG : RegDef :=
  { off := 0x11408, n := 64, stride := 0x10,
    fields := [⟨3, 0, .cfg, 0⟩, ⟨4, 4, .cfg, 0⟩, ⟨5, 5, .cfg, 0⟩, ⟨11, 6, .cfg, 0⟩, ⟨12, 12, .cfg, 0⟩] }
def HIF_CQ_MOD : RegDef :=
  { off := 0x1140C, n := 64, stride := 0x10,
    fields := [⟨7, 0, .cfg, 0⟩, ⟨31, 16, .cfg, 0⟩] }

/-! TCK (Tables 2.7 to 2.9). -/

def TCK_CTL : RegDef :=
  { off := 0x20000,
    fields := [⟨1, 0, .cfg, 0⟩, ⟨2, 2, .cfg, 0⟩, ⟨3, 3, .cfg, 0⟩, ⟨15, 8, .cfg, 10⟩] }
def TCK_PERIOD : RegDef := { off := 0x20004, fields := [⟨31, 0, .cfg, 0x1312D00⟩] }
def TCK_SRC_TOL : RegDef := { off := 0x20008, fields := [⟨8, 0, .cfg, 50⟩] }
def TCK_ADM_CTL : RegDef := { off := 0x2000C, fields := [⟨4, 0, .cfg, 10⟩, ⟨13, 8, .cfg, 0⟩] }
def TCK_SUBTICK : RegDef := { off := 0x20010, fields := [⟨3, 0, .svc, 0⟩] }
def TCK_STATUS : RegDef :=
  { off := 0x20014,
    fields := [⟨1, 0, .ro, 0⟩, ⟨6, 4, .ro, 0⟩, ⟨10, 8, .ro, 5⟩, ⟨16, 16, .ro, 0⟩] }
def TCK_NOW_LO : RegDef := { off := 0x20018, fields := [⟨31, 0, .ro, 0⟩] }
def TCK_NOW_HI : RegDef := { off := 0x2001C, fields := [⟨15, 0, .ro, 0⟩] }
def TCK_MEAS_PERIOD : RegDef := { off := 0x20020, fields := [⟨31, 0, .ro, 0⟩] }
def TCK_PHASE_ERR : RegDef := { off := 0x20024, fields := [⟨31, 0, .ro, 0⟩] }
def TCK_BUDGET : RegDef := { off := 0x20040, n := 4, stride := 0x4, fields := [⟨31, 0, .ro, 0⟩] }
def TCK_SPENT : RegDef := { off := 0x20050, n := 4, stride := 0x4, fields := [⟨31, 0, .ro, 0⟩] }
def TCK_CRIT : RegDef := { off := 0x20060, n := 4, stride := 0x4, fields := [⟨31, 0, .ro, 0⟩] }
def TCK_FLOOR : RegDef := { off := 0x20070, n := 4, stride := 0x4, fields := [⟨31, 0, .ro, 0⟩] }
def TCK_DEFER_COUNT : RegDef := { off := 0x20080, kind := .counter }
def TCK_DROP_COUNT : RegDef := { off := 0x20084, kind := .counter }
def TCK_REFUSE_COUNT : RegDef := { off := 0x20088, kind := .counter }
def TCK_CUT_COUNT : RegDef := { off := 0x2008C, kind := .counter }
def TCK_HOLDOVER_COUNT : RegDef := { off := 0x20090, kind := .counter }
def TCK_EDGE_REJECT_COUNT : RegDef := { off := 0x20094, kind := .counter }

/-! CSI (Tables 4.13). -/

def CSI_PORT_CFG : RegDef :=
  { off := 0x30000, n := 4, stride := 0x100,
    fields := [⟨0, 0, .cfg, 0⟩, ⟨3, 1, .cfg, 4⟩, ⟨4, 4, .cfg, 0⟩, ⟨7, 5, .cfg, 1⟩, ⟨15, 8, .cfg, 150⟩, ⟨16, 16, .cfg, 0⟩] }
def CSI_DET_CFG : RegDef :=
  { off := 0x30004, n := 4, stride := 0x100,
    fields := [⟨7, 0, .cfg, 20⟩, ⟨15, 8, .cfg, 50⟩, ⟨16, 16, .cfg, 1⟩, ⟨17, 17, .cfg, 1⟩] }
def CSI_STATUS : RegDef :=
  { off := 0x30008, n := 4, stride := 0x100,
    fields := [⟨2, 0, .ro, 0⟩, ⟨15, 8, .ro, 0⟩, ⟨23, 16, .ro, 255⟩] }
def CSI_ID : RegDef :=
  { off := 0x30010, n := 4, stride := 0x100, m := 4, stride2 := 4,
    fields := [⟨15, 0, .cfg, 0⟩, ⟨16, 16, .cfg, 0⟩, ⟨17, 17, .cfg, 0⟩, ⟨30, 24, .cfg, 0⟩] }
def CSI_INIT : RegDef :=
  { off := 0x30040, n := 4, stride := 0x100, m := 32, stride2 := 4,
    fields := [⟨6, 0, .cfg, 0⟩, ⟨7, 7, .cfg, 0⟩, ⟨23, 8, .cfg, 0⟩, ⟨31, 24, .cfg, 0⟩] }
def CSI_FRAME_COUNT : RegDef := { off := 0x300C0, n := 4, stride := 0x100, kind := .counter }
def CSI_DT_REJECT_COUNT : RegDef := { off := 0x300C4, n := 4, stride := 0x100, kind := .counter }
def CSI_ECC_CORR_COUNT : RegDef := { off := 0x300C8, n := 4, stride := 0x100, kind := .counter }
def CSI_ECC_ERR_COUNT : RegDef := { off := 0x300CC, n := 4, stride := 0x100, kind := .counter }
def CSI_CRC_ERR_COUNT : RegDef := { off := 0x300D0, n := 4, stride := 0x100, kind := .counter }
def CSI_FRAME_ERR_COUNT : RegDef := { off := 0x300D4, n := 4, stride := 0x100, kind := .counter }
def CSI_PROBE_FAIL_COUNT : RegDef := { off := 0x300D8, n := 4, stride := 0x100, kind := .counter }
def CSI_DET_GLITCH_COUNT : RegDef := { off := 0x300DC, n := 4, stride := 0x100, kind := .counter }

/-! USB (Tables 4.14). -/

def USB_CTL : RegDef := { off := 0x38000, fields := [⟨2, 0, .cfg, 0⟩, ⟨15, 8, .cfg, 2⟩] }
def USB_STATUS : RegDef := { off := 0x38004, fields := [⟨2, 0, .ro, 0⟩, ⟨10, 8, .ro, 0⟩, ⟨17, 16, .ro, 0⟩] }
def USB_ENUM_COUNT : RegDef := { off := 0x38100, kind := .counter }
def USB_ENUM_FAIL_COUNT : RegDef := { off := 0x38104, kind := .counter }
def USB_OC_COUNT : RegDef := { off := 0x38108, kind := .counter }
def USB_FRAME_DROP_COUNT : RegDef := { off := 0x3810C, kind := .counter }

/-! ETH (Tables 4.14). -/

def ETH_CFG : RegDef :=
  { off := 0x40000, n := 2, stride := 0x100,
    fields := [⟨0, 0, .cfg, 0⟩, ⟨2, 1, .cfg, 0⟩, ⟨4, 3, .cfg, 2⟩] }
def ETH_MAC_LO : RegDef := { off := 0x40004, n := 2, stride := 0x100, fields := [⟨31, 0, .cfg, 0⟩] }
def ETH_MAC_HI : RegDef := { off := 0x40008, n := 2, stride := 0x100, fields := [⟨15, 0, .cfg, 0⟩] }
def ETH_IP : RegDef := { off := 0x4000C, n := 2, stride := 0x100, fields := [⟨31, 0, .cfg, 0⟩] }
def ETH_STATUS : RegDef := { off := 0x40010, n := 2, stride := 0x100, fields := [⟨0, 0, .ro, 0⟩] }
def ETH_RX_FRAME_COUNT : RegDef := { off := 0x40040, n := 2, stride := 0x100, kind := .counter64 }
def ETH_RX_FCS_ERR_COUNT : RegDef := { off := 0x40048, n := 2, stride := 0x100, kind := .counter }
def ETH_RX_OVERRUN_COUNT : RegDef := { off := 0x4004C, n := 2, stride := 0x100, kind := .counter }
def ETH_SILENCE : RegDef := { off := 0x40800, n := 32, stride := 0x4, fields := [⟨15, 0, .cfg, 50⟩] }

/-! TRF (Tables 5.3 to 5.5). -/

def TRF_FLOW_CTL : RegDef :=
  { off := 0x48000, n := 32, stride := 0x20,
    fields := [⟨0, 0, .cfg, 0⟩, ⟨1, 1, .cfg, 0⟩, ⟨3, 2, .cfg, 0⟩, ⟨10, 4, .cfg, 96⟩, ⟨13, 11, .cfg, 0⟩, ⟨18, 16, .cfg, 3⟩, ⟨31, 24, .cfg, 25⟩] }
def TRF_FLOW_DIP : RegDef := { off := 0x48004, n := 32, stride := 0x20, fields := [⟨31, 0, .cfg, 0⟩] }
def TRF_FLOW_UDP : RegDef :=
  { off := 0x48008, n := 32, stride := 0x20,
    fields := [⟨15, 0, .cfg, 0⟩, ⟨31, 16, .cfg, 0⟩] }
def TRF_FLOW_SIP : RegDef := { off := 0x4800C, n := 32, stride := 0x20, fields := [⟨31, 0, .cfg, 0⟩] }
def TRF_FLOW_SSRC : RegDef := { off := 0x48010, n := 32, stride := 0x20, fields := [⟨31, 0, .cfg, 0⟩] }
def TRF_FLOW_RATE : RegDef := { off := 0x48014, n := 32, stride := 0x20, fields := [⟨21, 0, .cfg, 0⟩] }
def TRF_FLOW_BUCKET : RegDef :=
  { off := 0x48018, n := 32, stride := 0x20,
    fields := [⟨23, 0, .cfg, 0x10000⟩] }
def TRF_Q_CFG : RegDef :=
  { off := 0x48400, n := 16, stride := 0x10,
    fields := [⟨0, 0, .cfg, 0⟩, ⟨1, 1, .cfg, 0⟩, ⟨15, 8, .cfg, 64⟩] }
def TRF_Q_RATE : RegDef := { off := 0x48404, n := 16, stride := 0x10, fields := [⟨21, 0, .cfg, 0x3E8⟩] }
def TRF_Q_BURST : RegDef := { off := 0x48408, n := 16, stride := 0x10, fields := [⟨23, 0, .cfg, 0xC04⟩] }
def TRF_Q_TICKCR : RegDef := { off := 0x4840C, n := 16, stride := 0x10, fields := [⟨31, 0, .ro, 0⟩] }
def TRF_HRX_CTL : RegDef := { off := 0x48600, fields := [⟨0, 0, .cfg, 0⟩, ⟨6, 1, .cfg, 0⟩] }
def TRF_HRX_BASE_LO : RegDef := { off := 0x48604, fields := [⟨31, 0, .cfg, 0⟩] }
def TRF_HRX_BASE_HI : RegDef := { off := 0x48608, fields := [⟨31, 0, .cfg, 0⟩] }
def TRF_PTP_CTL : RegDef :=
  { off := 0x48700, n := 2, stride := 0x40,
    fields := [⟨0, 0, .cfg, 0⟩, ⟨15, 8, .cfg, 0⟩, ⟨31, 16, .cfg, 0x3E8⟩] }
def TRF_PTP_PHASE : RegDef := { off := 0x48704, n := 2, stride := 0x40, fields := [⟨31, 0, .cfg, 0⟩] }
def TRF_PTP_STATE : RegDef := { off := 0x48708, n := 2, stride := 0x40, fields := [⟨1, 0, .ro, 0⟩] }
def TRF_PTP_OFFSET : RegDef := { off := 0x4870C, n := 2, stride := 0x40, fields := [⟨31, 0, .ro, 0⟩] }
def TRF_RX_PKT_COUNT : RegDef := { off := 0x48800, n := 32, stride := 0x10, kind := .counter }
def TRF_POL_DROP_COUNT : RegDef := { off := 0x48804, n := 32, stride := 0x10, kind := .counter }
def TRF_SEQ_LOSS_COUNT : RegDef := { off := 0x48808, n := 32, stride := 0x10, kind := .counter }
def TRF_POOL_DROP_COUNT : RegDef := { off := 0x4880C, n := 32, stride := 0x10, kind := .counter }
def TRF_MAC_DROP_COUNT : RegDef := { off := 0x48A00, kind := .counter }
def TRF_IP_ERR_COUNT : RegDef := { off := 0x48A04, kind := .counter }
def TRF_FRAG_DROP_COUNT : RegDef := { off := 0x48A08, kind := .counter }
def TRF_RTP_ERR_COUNT : RegDef := { off := 0x48A0C, kind := .counter }
def TRF_HRX_COUNT : RegDef := { off := 0x48A10, kind := .counter }
def TRF_HRX_DROP_COUNT : RegDef := { off := 0x48A14, kind := .counter }
def TRF_Q_TX_COUNT : RegDef := { off := 0x48B00, n := 16, stride := 0x10, kind := .counter }
def TRF_Q_LATE_COUNT : RegDef := { off := 0x48B04, n := 16, stride := 0x10, kind := .counter }

/-! DEC (Tables 6.11 to 6.13). -/

def DEC_CTL : RegDef := { off := 0x50000, fields := [⟨0, 0, .cfg, 0⟩, ⟨1, 1, .cfg, 1⟩, ⟨15, 8, .cfg, 25⟩] }
def DEC_ROWBUF_CFG : RegDef := { off := 0x50004, fields := [⟨11, 0, .cfg, 0x400⟩] }
def DEC_UNIT_STATUS : RegDef :=
  { off := 0x50008,
    fields := [⟨2, 0, .ro, 0⟩, ⟨6, 4, .ro, 0⟩, ⟨10, 8, .ro, 0⟩] }
def DEC_CHAN : RegDef :=
  { off := 0x50100, n := 32, stride := 0x10,
    fields := [⟨2, 0, .ro, 0⟩, ⟨7, 4, .ro, 0⟩, ⟨15, 8, .ro, 0⟩, ⟨23, 16, .ro, 0⟩, ⟨31, 24, .ro, 0⟩] }
def DEC_CHAN_SIZE : RegDef :=
  { off := 0x50104, n := 32, stride := 0x10,
    fields := [⟨15, 0, .ro, 0⟩, ⟨31, 16, .ro, 0⟩] }
def DEC_CHAN_DPB : RegDef :=
  { off := 0x50108, n := 32, stride := 0x10,
    fields := [⟨4, 0, .ro, 0⟩, ⟨9, 8, .ro, 0⟩] }
def DEC_CHAN_PIC_COUNT : RegDef := { off := 0x5010C, n := 32, stride := 0x10, kind := .counter }
def DEC_PIC_COUNT : RegDef := { off := 0x50400, kind := .counter64 }
def DEC_CONCEAL_COUNT : RegDef := { off := 0x50408, kind := .counter }
def DEC_SEG_ABANDON_COUNT : RegDef := { off := 0x5040C, kind := .counter }
def DEC_BITLIM_COUNT : RegDef := { off := 0x50410, kind := .counter }
def DEC_CYCLIM_COUNT : RegDef := { off := 0x50414, kind := .counter }
def DEC_UNSUP_COUNT : RegDef := { off := 0x50418, kind := .counter }
def DEC_REDUNDANT_DROP_COUNT : RegDef := { off := 0x5041C, kind := .counter }
def DEC_WAIT_IRAP_COUNT : RegDef := { off := 0x50420, kind := .counter }
def DEC_LIVE_CPL_LOST_COUNT : RegDef := { off := 0x50424, kind := .counter }
def DEC_WINDOW_VIOL_COUNT : RegDef := { off := 0x50428, kind := .counter }

/-! ENC (Tables 7.9 to 7.11). -/

def ENC_CTL : RegDef := { off := 0x58000, fields := [⟨0, 0, .cfg, 1⟩] }
def ENC_UNIT_STATUS : RegDef := { off := 0x58008, fields := [⟨2, 0, .ro, 0⟩, ⟨6, 4, .ro, 0⟩] }
def ENC_CHAN : RegDef :=
  { off := 0x58100, n := 32, stride := 0x10,
    fields := [⟨3, 0, .ro, 0⟩, ⟨15, 8, .ro, 0⟩, ⟨31, 16, .ro, 0⟩] }
def ENC_CHAN_BYTES : RegDef := { off := 0x58104, n := 32, stride := 0x10, fields := [⟨31, 0, .ro, 0⟩] }
def ENC_CHAN_FRAME_COUNT : RegDef := { off := 0x58108, n := 32, stride := 0x10, kind := .counter }
def ENC_FRAME_COUNT : RegDef := { off := 0x58400, kind := .counter64 }
def ENC_SIZECAP_COUNT : RegDef := { off := 0x58408, kind := .counter }
def ENC_SRC_SKIP_COUNT : RegDef := { off := 0x5840C, kind := .counter }
def ENC_IDR_COUNT : RegDef := { off := 0x58410, kind := .counter }
def ENC_WINDOW_VIOL_COUNT : RegDef := { off := 0x58414, kind := .counter }

/-! CMP (Tables 8.5). -/

def CMP_CTL : RegDef := { off := 0x60000, fields := [⟨23, 0, .cfg, 0⟩] }
def CMP_STATUS : RegDef := { off := 0x60004, fields := [⟨6, 0, .ro, 0⟩, ⟨8, 8, .ro, 0⟩] }
def CMP_LAYER : RegDef :=
  { off := 0x61000, n := 3, stride := 0x400, m := 128, stride2 := 4,
    fields := [⟨31, 0, .ro, 0⟩] }
def CMP_AGE : RegDef :=
  { off := 0x61C00, n := 3, stride := 0x40, m := 16, stride2 := 4,
    fields := [⟨16, 0, .ro, 0⟩] }
def CMP_OVL : RegDef :=
  { off := 0x62000, n := 64, stride := 0x8, m := 2, stride2 := 4,
    fields := [⟨31, 0, .ro, 0⟩] }
def CMP_COMPOSE_COUNT : RegDef := { off := 0x63000, kind := .counter64 }
def CMP_LATE_SRC_COUNT : RegDef := { off := 0x63008, kind := .counter }
def CMP_STALE_COUNT : RegDef := { off := 0x6300C, kind := .counter }
def CMP_ENERGY_UJ : RegDef := { off := 0x63010, n := 3, stride := 0x8, kind := .counter64 }

/-! DSP (Tables 8.6). -/

def DSP_CFG : RegDef :=
  { off := 0x68000, n := 3, stride := 0x100,
    fields := [⟨0, 0, .cfg, 0⟩, ⟨5, 1, .cfg, 2⟩, ⟨6, 6, .cfg, 0⟩, ⟨7, 7, .cfg, 0⟩] }
def DSP_BG : RegDef := { off := 0x68004, n := 3, stride := 0x100, fields := [⟨23, 0, .cfg, 0⟩] }
def DSP_H1 : RegDef :=
  { off := 0x68008, n := 3, stride := 0x100,
    fields := [⟨15, 0, .cfg, 0⟩, ⟨31, 16, .cfg, 0⟩] }
def DSP_H2 : RegDef :=
  { off := 0x6800C, n := 3, stride := 0x100,
    fields := [⟨15, 0, .cfg, 0⟩, ⟨31, 16, .cfg, 0⟩] }
def DSP_V1 : RegDef :=
  { off := 0x68010, n := 3, stride := 0x100,
    fields := [⟨15, 0, .cfg, 0⟩, ⟨31, 16, .cfg, 0⟩] }
def DSP_V2 : RegDef :=
  { off := 0x68014, n := 3, stride := 0x100,
    fields := [⟨15, 0, .cfg, 0⟩, ⟨31, 16, .cfg, 0⟩] }
def DSP_LINK : RegDef :=
  { off := 0x68018, n := 3, stride := 0x100,
    fields := [⟨2, 0, .cfg, 0⟩, ⟨5, 4, .cfg, 2⟩, ⟨7, 6, .cfg, 1⟩, ⟨9, 8, .cfg, 0⟩] }
def DSP_SEQ : RegDef :=
  { off := 0x6801C, n := 3, stride := 0x100,
    fields := [⟨7, 0, .cfg, 20⟩, ⟨15, 8, .cfg, 50⟩, ⟨23, 16, .cfg, 50⟩, ⟨31, 24, .cfg, 20⟩] }
def DSP_SEQ2 : RegDef :=
  { off := 0x68020, n := 3, stride := 0x100,
    fields := [⟨15, 0, .cfg, 0x1F4⟩, ⟨23, 16, .cfg, 200⟩] }
def DSP_BL : RegDef :=
  { off := 0x68024, n := 3, stride := 0x100,
    fields := [⟨15, 0, .cfg, 0x3E8⟩, ⟨23, 16, .cfg, 255⟩, ⟨24, 24, .cfg, 0⟩] }
def DSP_STATUS : RegDef :=
  { off := 0x68028, n := 3, stride := 0x100,
    fields := [⟨2, 0, .ro, 0⟩, ⟨11, 8, .ro, 0⟩, ⟨15, 12, .ro, 0⟩, ⟨16, 16, .ro, 0⟩] }
def DSP_PCLK : RegDef := { off := 0x6802C, n := 3, stride := 0x100, fields := [⟨31, 0, .ro, 0⟩] }
def DSP_FB_BASE_LO : RegDef := { off := 0x68030, n := 3, stride := 0x100, fields := [⟨31, 0, .cfg, 0⟩] }
def DSP_FB_BASE_HI : RegDef := { off := 0x68034, n := 3, stride := 0x100, fields := [⟨31, 0, .cfg, 0⟩] }
def DSP_FRAME_COUNT : RegDef := { off := 0x68040, n := 3, stride := 0x100, kind := .counter }
def DSP_SLIP_COUNT : RegDef := { off := 0x68044, n := 3, stride := 0x100, kind := .counter }
def DSP_UNDERRUN_COUNT : RegDef := { off := 0x68048, n := 3, stride := 0x100, kind := .counter }
def DSP_RETRAIN_COUNT : RegDef := { off := 0x6804C, n := 3, stride := 0x100, kind := .counter }

/-! MEM (Tables 9.3, 9.5). -/

def MEM_SCRUB : RegDef := { off := 0x70000, fields := [⟨0, 0, .cfg, 1⟩, ⟨15, 8, .cfg, 10⟩] }
def MEM_RET_MASK : RegDef := { off := 0x70004, fields := [⟨15, 0, .cfg, 0xFFFF⟩] }
def MEM_STATUS : RegDef := { off := 0x70008, fields := [⟨15, 0, .ro, 0xFFFF⟩] }
def MEM_UE_ADDR : RegDef := { off := 0x7000C, fields := [⟨22, 0, .ro, 0⟩] }
def MEM_BUSY_COUNT : RegDef := { off := 0x70100, kind := .counter }
def MEM_CE_COUNT : RegDef := { off := 0x70104, kind := .counter }
def MEM_UE_COUNT : RegDef := { off := 0x70108, kind := .counter }

/-! DRC (Tables 9.4, 9.5). -/

def DRC_CTL : RegDef := { off := 0x78000, fields := [⟨0, 0, .cfg, 0⟩, ⟨1, 1, .cfg, 0⟩] }
def DRC_CAP : RegDef := { off := 0x78004, fields := [⟨15, 0, .ro, 0⟩] }
def DRC_STATUS : RegDef := { off := 0x78008, fields := [⟨2, 0, .ro, 0⟩, ⟨10, 8, .ro, 0⟩] }
def DRC_MAINT : RegDef := { off := 0x7800C, fields := [⟨15, 0, .cfg, 50⟩] }
def DRC_UE_ADDR_LO : RegDef := { off := 0x78010, fields := [⟨31, 0, .ro, 0⟩] }
def DRC_UE_ADDR_HI : RegDef := { off := 0x78014, fields := [⟨0, 0, .ro, 0⟩] }
def DRC_CE_COUNT : RegDef := { off := 0x78100, kind := .counter }
def DRC_UE_COUNT : RegDef := { off := 0x78104, kind := .counter }
def DRC_MAINT_COUNT : RegDef := { off := 0x78108, kind := .counter }

/-! BPM (Tables 10.7, 10.8). -/

def BPM_CTL : RegDef := { off := 0x80000, fields := [⟨0, 0, .cfg, 0⟩] }
def BPM_STATUS : RegDef := { off := 0x80004, fields := [⟨3, 0, .ro, 0⟩] }
def BPM_BASE_LO : RegDef := { off := 0x80008, fields := [⟨31, 0, .cfg, 0⟩] }
def BPM_BASE_HI : RegDef := { off := 0x8000C, fields := [⟨0, 0, .cfg, 0⟩] }
def BPM_AREA_KIB : RegDef := { off := 0x80010, fields := [⟨31, 0, .ro, 0⟩] }
def BPM_POLICY : RegDef := { off := 0x80014, fields := [⟨0, 0, .cfg, 0⟩, ⟨1, 1, .cfg, 1⟩, ⟨2, 2, .cfg, 0⟩] }
def BPM_LAST_ERR : RegDef := { off := 0x80018, fields := [⟨23, 0, .ro, 0⟩, ⟨31, 24, .ro, 0⟩] }
def BPM_LOST_CELLS : RegDef := { off := 0x8001C, fields := [⟨18, 0, .ro, 0⟩] }
def BPM_COMB_CFG : RegDef := { off := 0x80100, n := 8, stride := 0x10, fields := [⟨18, 0, .cfg, 0⟩] }
def BPM_COMB_WATER : RegDef :=
  { off := 0x80104, n := 8, stride := 0x10,
    fields := [⟨15, 0, .cfg, 0⟩, ⟨31, 16, .cfg, 0⟩] }
def BPM_COMB_FREE : RegDef :=
  { off := 0x80108, n := 8, stride := 0x10,
    fields := [⟨18, 0, .ro, 0⟩, ⟨31, 31, .ro, 0⟩] }
def BPM_COMB_MIN : RegDef := { off := 0x8010C, n := 8, stride := 0x10, fields := [⟨18, 0, .ro, 0⟩] }
def BPM_COMB_ALLOC_COUNT : RegDef := { off := 0x80200, n := 8, stride := 0x10, kind := .counter }
def BPM_COMB_FAIL_COUNT : RegDef := { off := 0x80204, n := 8, stride := 0x10, kind := .counter }
def BPM_COMB_FALLBACK_COUNT : RegDef := { off := 0x80208, n := 8, stride := 0x10, kind := .counter }
def BPM_ING_DROP_COUNT : RegDef := { off := 0x80300, kind := .counter }
def BPM_DOUBLE_FREE_COUNT : RegDef := { off := 0x80304, kind := .counter }
def BPM_FREE_REJECT_COUNT : RegDef := { off := 0x80308, kind := .counter }
def BPM_RECLAIM_COUNT : RegDef := { off := 0x8030C, kind := .counter }
def BPM_RECLAIM_RACE_COUNT : RegDef := { off := 0x80310, kind := .counter }

/-! SCH (Tables 11.5, 11.6). -/

def SCH_CTL : RegDef := { off := 0x90000, fields := [⟨15, 0, .cfg, 0x7D0⟩] }
def SCH_STATUS : RegDef := { off := 0x90004, fields := [⟨7, 0, .ro, 0⟩, ⟨16, 8, .ro, 0⟩, ⟨24, 24, .ro, 0⟩] }
def SCH_TRACE_CTL : RegDef :=
  { off := 0x90008,
    fields := [⟨0, 0, .cfg, 0⟩, ⟨1, 1, .cfg, 0⟩, ⟨2, 2, .cfg, 0⟩, ⟨15, 8, .cfg, 3⟩, ⟨20, 16, .cfg, 12⟩] }
def SCH_TRACE_BASE_LO : RegDef := { off := 0x90010, fields := [⟨31, 0, .cfg, 0⟩] }
def SCH_TRACE_BASE_HI : RegDef := { off := 0x90014, fields := [⟨31, 0, .cfg, 0⟩] }
def SCH_TRACE_WR : RegDef := { off := 0x90018, fields := [⟨31, 0, .ro, 0⟩] }
def SCH_CORE : RegDef :=
  { off := 0x90020, n := 4, stride := 0x4,
    fields := [⟨7, 0, .ro, 0⟩, ⟨8, 8, .ro, 1⟩, ⟨31, 16, .ro, 0⟩] }
def SCH_DISPATCH_COUNT : RegDef := { off := 0x90100, kind := .counter64 }
def SCH_PREEMPT_COUNT : RegDef := { off := 0x90108, kind := .counter }
def SCH_WDOG_COUNT : RegDef := { off := 0x9010C, kind := .counter }
def SCH_PENDING_SAT_COUNT : RegDef := { off := 0x90110, kind := .counter }
def SCH_TRACE_LOST_COUNT : RegDef := { off := 0x90114, kind := .counter }
def SCH_THREAD : RegDef :=
  { off := 0x91000, n := 256, stride := 0x8,
    fields := [⟨13, 0, .ro, 0⟩, ⟨31, 24, .ro, 255⟩] }
def SCH_THREAD_1 : RegDef := { off := 0x91004, n := 256, stride := 0x8, fields := [⟨31, 0, .ro, 0⟩] }
def SCH_FLOW : RegDef :=
  { off := 0x92000, n := 64, stride := 0x4,
    fields := [⟨15, 0, .ro, 0⟩, ⟨26, 16, .ro, 0⟩] }

/-! MCS (Tables 12.5, 12.6). -/

def MCS_STATUS : RegDef :=
  { off := 0xA0000,
    fields := [⟨3, 0, .ro, 1⟩, ⟨4, 4, .ro, 0⟩, ⟨10, 8, .ro, 0⟩, ⟨14, 12, .ro, 0⟩, ⟨24, 16, .ro, 0⟩] }
def MCS_PATCH_VERSION : RegDef := { off := 0xA0004, fields := [⟨31, 0, .ro, 0⟩] }
def MCS_EPOCH : RegDef := { off := 0xA0008, fields := [⟨6, 0, .ro, 0⟩, ⟨14, 8, .ro, 0⟩] }
def MCS_ROM_ID : RegDef := { off := 0xA000C, fields := [⟨31, 0, .ro, 0⟩] }
def MCS_UPC : RegDef :=
  { off := 0xA0010, n := 3, stride := 0x4,
    fields := [⟨12, 0, .ro, 0⟩, ⟨16, 16, .ro, 0⟩, ⟨17, 17, .ro, 1⟩] }
def MCS_SEGMENT_COUNT : RegDef := { off := 0xA0100, kind := .counter64 }
def MCS_INTR_COUNT : RegDef := { off := 0xA0108, kind := .counter }
def MCS_INTR_CANCEL_COUNT : RegDef := { off := 0xA010C, kind := .counter }

/-! GRD (Tables 13.10, 13.11). -/

def GRD_CTL : RegDef := { off := 0xB0000, fields := [⟨3, 0, .cfg, 3⟩, ⟨15, 8, .cfg, 60⟩] }
def GRD_STATUS : RegDef := { off := 0xB0004, fields := [⟨4, 0, .ro, 0⟩, ⟨31, 16, .ro, 0⟩] }
def GRD_CLASS_SUM : RegDef := { off := 0xB0008, fields := [⟨4, 0, .ro, 0⟩] }
def GRD_BLOCK_SUM : RegDef := { off := 0xB000C, fields := [⟨22, 1, .ro, 0⟩] }
def GRD_UNITS : RegDef :=
  { off := 0xB0010,
    fields := [⟨2, 0, .ro, 0⟩, ⟨6, 4, .ro, 0⟩, ⟨10, 8, .ro, 0⟩, ⟨15, 12, .ro, 0⟩] }
def GRD_FSTAT : RegDef :=
  { off := 0xB0104, n := 22, stride := 0x4,
    fields := [⟨15, 0, .w1c, 0⟩, ⟨31, 16, .ro, 0⟩] }
def GRD_REACT_COUNT : RegDef := { off := 0xB0200, n := 5, stride := 0x4, kind := .counter }
def GRD_MERGE_COUNT : RegDef := { off := 0xB0214, kind := .counter }
def GRD_GLITCH_COUNT : RegDef := { off := 0xB0218, kind := .counter }
def GRD_CLEAR_IGNORED_COUNT : RegDef := { off := 0xB021C, kind := .counter }

/-! KPR (Tables 3.14, 13.12, 14.11, 17.8). -/

def KPR_WAKE_EN : RegDef := { off := 0xC0100, fields := [⟨9, 0, .svc, 0x100⟩] }
def KPR_WAKE_POL : RegDef := { off := 0xC0104, fields := [⟨1, 0, .svc, 0⟩] }
def KPR_WAKE_CMD : RegDef := { off := 0xC0108, fields := [⟨0, 0, .svc, 0⟩] }
def KPR_ALARM_LO : RegDef := { off := 0xC0110, fields := [⟨31, 0, .svc, 0⟩] }
def KPR_ALARM_HI : RegDef := { off := 0xC0114, fields := [⟨31, 0, .svc, 0⟩] }
def KPR_WAKE_CAUSE : RegDef := { off := 0xC0118, fields := [⟨9, 0, .ro, 0⟩, ⟨20, 16, .ro, 0⟩] }
def KPR_WAKE_LOST_COUNT : RegDef := { off := 0xC011C, kind := .counter }
def KPR_LOG_CTL : RegDef := { off := 0xC0200, fields := [⟨7, 0, .cfg, 255⟩] }
def KPR_LOG_WR : RegDef := { off := 0xC0204, fields := [⟨31, 0, .ro, 0⟩] }
def KPR_LOG_LOST : RegDef := { off := 0xC0208, kind := .counter }
def KPR_LOG_CE_COUNT : RegDef := { off := 0xC020C, kind := .counter }
def KPR_PWR_SEQ : RegDef := { off := 0xC0300, fields := [⟨3, 0, .ro, 0⟩] }
def KPR_WAKE_EVT : RegDef :=
  { off := 0xC0400, n := 16, stride := 0x10, m := 4, stride2 := 4,
    fields := [⟨31, 0, .ro, 0⟩] }

/-! PWR (Tables 14.9, 14.10, 17.8, 17.9). -/

def PWR_MODE_REQ : RegDef := { off := 0xE0000, fields := [⟨2, 0, .svc, 0⟩] }
def PWR_MODE_STATUS : RegDef :=
  { off := 0xE0004,
    fields := [⟨2, 0, .ro, 4⟩, ⟨3, 3, .ro, 0⟩, ⟨7, 4, .ro, 0⟩, ⟨10, 8, .ro, 0⟩, ⟨15, 12, .ro, 0⟩] }
def PWR_CFG : RegDef := { off := 0xE0008, fields := [⟨0, 0, .cfg, 0⟩, ⟨1, 1, .cfg, 1⟩, ⟨15, 8, .cfg, 10⟩] }
def PWR_OP_CEIL : RegDef := { off := 0xE000C, fields := [⟨2, 0, .svc, 5⟩] }
def PWR_OP_STATUS : RegDef :=
  { off := 0xE0010,
    fields := [⟨2, 0, .ro, 0⟩, ⟨6, 4, .ro, 5⟩, ⟨10, 8, .ro, 0⟩, ⟨12, 12, .ro, 1⟩, ⟨18, 16, .ro, 0⟩] }
def PWR_ENTRY_COUNT : RegDef := { off := 0xE0040, n := 3, stride := 0x4, kind := .counter }
def PWR_OP_CHANGE_COUNT : RegDef := { off := 0xE004C, kind := .counter }
def PWR_SETTLE_LATE_COUNT : RegDef := { off := 0xE0050, kind := .counter }
def PWR_SHED_COUNT : RegDef := { off := 0xE0054, kind := .counter }
def PWR_THROTTLE_COUNT : RegDef := { off := 0xE0058, kind := .counter }
def PWR_CLAMP_COUNT : RegDef := { off := 0xE005C, kind := .counter }
def PWR_AUX_OVL_COUNT : RegDef := { off := 0xE0060, kind := .counter }
def PWR_SETTLE_ABANDON_COUNT : RegDef := { off := 0xE0064, kind := .counter }
def PWR_CFG_VOTE_COUNT : RegDef := { off := 0xE0068, kind := .counter }
def PWR_ENERGY_IN_UJ : RegDef := { off := 0xE0080, kind := .counter64 }
def PWR_ENERGY_CORE_UJ : RegDef := { off := 0xE0088, kind := .counter64 }
def PWR_ENERGY_MEM_UJ : RegDef := { off := 0xE0090, kind := .counter64 }
def PWR_ENERGY_OVH_UJ : RegDef := { off := 0xE0098, kind := .counter64 }
def PWR_VIN : RegDef := { off := 0xE0100, fields := [⟨15, 0, .ro, 0⟩, ⟨31, 16, .ro, 0⟩] }
def PWR_VIN_CFG : RegDef := { off := 0xE0104, fields := [⟨15, 0, .cfg, 0x2328⟩] }
def PWR_PHASE : RegDef :=
  { off := 0xE0110, n := 5, stride := 0x4,
    fields := [⟨3, 0, .ro, 0⟩, ⟨31, 16, .ro, 0⟩] }
def PWR_CORE : RegDef := { off := 0xE0130, fields := [⟨11, 0, .ro, 0⟩, ⟨31, 16, .ro, 0⟩] }
def PWR_CORE_STATUS : RegDef :=
  { off := 0xE0134,
    fields := [⟨2, 0, .ro, 5⟩, ⟨6, 4, .ro, 4⟩, ⟨12, 8, .ro, 27⟩, ⟨16, 16, .ro, 0⟩] }
def PWR_RAIL_STATUS : RegDef := { off := 0xE0138, fields := [⟨6, 0, .ro, 0⟩, ⟨11, 8, .ro, 0⟩] }
def PWR_THERM : RegDef := { off := 0xE0140, fields := [⟨19, 0, .ro, 0⟩, ⟨26, 24, .ro, 5⟩] }
def PWR_THERM_CFG : RegDef := { off := 0xE0144, fields := [⟨7, 0, .cfg, 110⟩, ⟨31, 16, .cfg, 0x3E8⟩] }
def PWR_AUX_CFG : RegDef := { off := 0xE0148, fields := [⟨0, 0, .cfg, 1⟩, ⟨1, 1, .cfg, 1⟩] }
def PWR_ENERGY_STATUS : RegDef := { off := 0xE0150, fields := [⟨0, 0, .ro, 0⟩] }

/-! CLK (Tables 16.5, 16.6). -/

def CLK_CTL : RegDef := { off := 0xE8000, fields := [⟨0, 0, .cfg, 0⟩] }
def CLK_STATUS : RegDef := { off := 0xE8004, fields := [⟨11, 0, .ro, 0⟩, ⟨12, 12, .ro, 0⟩] }
def CLK_SYN_CFG01 : RegDef := { off := 0xE8100, n := 2, stride := 0x40, fields := [⟨0, 0, .cfg, 0⟩] }
def CLK_SYN_CFG : RegDef := { off := 0xE8180, n := 4, stride := 0x40, fields := [⟨0, 0, .cfg, 1⟩] }
def CLK_SYN_SEED : RegDef := { off := 0xE8104, n := 6, stride := 0x40, fields := [⟨22, 0, .cfg, 0x5A5A5A⟩] }
def CLK_SYN_DIV : RegDef :=
  { off := 0xE8108, n := 6, stride := 0x40,
    fields := [⟨8, 0, .ro, 0⟩, ⟨24, 16, .ro, 0⟩] }
def CLK_SYN_FRAC : RegDef := { off := 0xE810C, n := 6, stride := 0x40, fields := [⟨23, 0, .ro, 0⟩] }
def CLK_SYN_STATE : RegDef :=
  { off := 0xE8110, n := 6, stride := 0x40,
    fields := [⟨2, 0, .ro, 0⟩, ⟨13, 8, .ro, 0⟩, ⟨31, 16, .ro, 0⟩] }
def CLK_HOP : RegDef :=
  { off := 0xE8120, n := 6, stride := 0x40, m := 4, stride2 := 4,
    fields := [⟨14, 0, .ro, 0⟩, ⟨24, 16, .ro, 0⟩, ⟨31, 31, .ro, 0⟩] }
def CLK_STEER : RegDef :=
  { off := 0xE8400, n := 3, stride := 0x10,
    fields := [⟨4, 0, .cfg, 8⟩, ⟨25, 16, .cfg, 200⟩] }
def CLK_STEER_OFS : RegDef := { off := 0xE8404, n := 3, stride := 0x10, fields := [⟨31, 0, .ro, 0⟩] }
def CLK_STEER_ERR : RegDef := { off := 0xE8408, n := 3, stride := 0x10, fields := [⟨31, 0, .ro, 0⟩] }
def CLK_OUT : RegDef :=
  { off := 0xE8500, n := 4, stride := 0x10,
    fields := [⟨0, 0, .cfg, 0⟩, ⟨2, 1, .cfg, 0⟩, ⟨4, 3, .cfg, 0⟩, ⟨6, 5, .cfg, 1⟩, ⟨27, 16, .cfg, 1⟩] }
def CLK_OUT_FRAC : RegDef := { off := 0xE8504, n := 4, stride := 0x10, fields := [⟨23, 0, .cfg, 0⟩] }
def CLK_CPLL_SWITCH_COUNT : RegDef := { off := 0xE8600, kind := .counter }
def CLK_UNLOCK_COUNT : RegDef := { off := 0xE8610, n := 6, stride := 0x4, kind := .counter }
def CLK_STEER_CLAMP_COUNT : RegDef := { off := 0xE8630, n := 3, stride := 0x4, kind := .counter }
def CLK_PULSE_SUPPRESS_COUNT : RegDef := { off := 0xE8640, kind := .counter }
def CLK_BAND : RegDef :=
  { off := 0xE9000, n := 6, stride := 0x100, m := 64, stride2 := 4, kind := .factory,
    fields := [⟨15, 0, .cfg, 0⟩, ⟨31, 16, .cfg, 0⟩] }

/-! FIO (Tables 18.6, 18.7). -/

def FIO_CTL : RegDef := { off := 0xF0000, fields := [⟨5, 0, .cfg, 63⟩] }
def FIO_VFIELD : RegDef := { off := 0xF0004, fields := [⟨16, 0, .ro, 0⟩] }
def FIO_OUT_CFG : RegDef :=
  { off := 0xF0010, n := 4, stride := 0x4,
    fields := [⟨1, 0, .cfg, 0⟩, ⟨2, 2, .cfg, 1⟩, ⟨3, 3, .cfg, 1⟩, ⟨15, 8, .cfg, 10⟩, ⟨31, 16, .cfg, 100⟩] }
def FIO_OUT_STATUS : RegDef :=
  { off := 0xF0020, n := 4, stride := 0x4,
    fields := [⟨7, 0, .ro, 0⟩, ⟨31, 16, .ro, 0⟩] }
def FIO_PULSE : RegDef :=
  { off := 0xF0030, n := 4, stride := 0x8, m := 2, stride2 := 4,
    fields := [⟨31, 0, .ro, 0⟩] }
def FIO_IN_CFG : RegDef :=
  { off := 0xF0060, n := 4, stride := 0x4,
    fields := [⟨9, 0, .cfg, 10⟩, ⟨13, 12, .cfg, 0⟩] }
def FIO_IN_STATE : RegDef := { off := 0xF0070, fields := [⟨3, 0, .ro, 0⟩] }
def FIO_CONFLICT : RegDef := { off := 0xF0074, fields := [⟨5, 0, .ro, 0⟩, ⟨13, 8, .ro, 0⟩] }
def FIO_IN_TS_LO : RegDef := { off := 0xF0080, n := 4, stride := 0x8, fields := [⟨31, 0, .ro, 0⟩] }
def FIO_IN_TS_HI : RegDef := { off := 0xF0084, n := 4, stride := 0x8, fields := [⟨31, 0, .ro, 0⟩] }
def FIO_IN_EDGE_COUNT : RegDef := { off := 0xF0100, n := 4, stride := 0x4, kind := .counter }
def FIO_OUT_RETRY_COUNT : RegDef := { off := 0xF0110, n := 4, stride := 0x4, kind := .counter }
def FIO_CONFLICT_COUNT : RegDef := { off := 0xF0120, kind := .counter }

/-! LCS (Tables 15.12). -/

def LCS_STATE : RegDef := { off := 0xF8000, fields := [⟨1, 0, .ro, 0⟩, ⟨5, 4, .ro, 0⟩] }
def LCS_CMD : RegDef := { off := 0xF8004, fields := [⟨3, 0, .svc, 0⟩, ⟨31, 16, .svc, 0⟩] }
def LCS_STATUS : RegDef := { off := 0xF8008, fields := [⟨0, 0, .ro, 0⟩, ⟨11, 4, .ro, 0⟩] }
def LCS_FW_EPOCH : RegDef := { off := 0xF800C, fields := [⟨6, 0, .ro, 0⟩] }
def LCS_WIPE_US : RegDef := { off := 0xF8010, fields := [⟨31, 0, .ro, 0⟩] }

/-- The registers of the SYS block. -/
def sysRegs : List RegDef :=
  [SYS_ID_LO, SYS_ID_HI, SYS_CTL, SYS_STATUS,
   SYS_RESTART, SYS_FW_VERSION, SYS_FW_EPOCH, SYS_SLOT,
   SYS_SLOT_VER, SYS_RESCUE_CTL, SYS_RESCUE_STATUS, SYS_LATE_WRITES,
   SYS_RESTART_REJECT_COUNT, SYS_CHAN, SYS_CHAN_IN_COUNT, SYS_CHAN_PDROP_COUNT,
   SYS_CHAN_MDROP_COUNT, SYS_PARTNER_OVF_COUNT, SYS_PARTNER]

/-- The registers of the HIF block. -/
def hifRegs : List RegDef :=
  [HIF_CTL, HIF_STATUS, HIF_JT_OCC, HIF_DB_BASE_LO,
   HIF_DB_BASE_HI, HIF_ST_BASE_LO, HIF_ST_BASE_HI, HIF_EVQ_BASE_LO,
   HIF_EVQ_BASE_HI, HIF_EVQ_CFG, HIF_DESC_FETCH_COUNT, HIF_CPL_POST_COUNT,
   HIF_INVALID_COUNT, HIF_JOBTABLE_FULL_COUNT, HIF_EVQ_LOST_COUNT, HIF_CPL_LOST_COUNT,
   HIF_DMA_ERR_COUNT, HIF_SPI_CRC_ERR_COUNT, HIF_LINK_DOWN_COUNT, HIF_SQ_BASE_LO,
   HIF_SQ_BASE_HI, HIF_SQ_CFG, HIF_CQ_BASE_LO, HIF_CQ_BASE_HI,
   HIF_CQ_CFG, HIF_CQ_MOD]

/-- The registers of the TCK block. -/
def tckRegs : List RegDef :=
  [TCK_CTL, TCK_PERIOD, TCK_SRC_TOL, TCK_ADM_CTL,
   TCK_SUBTICK, TCK_STATUS, TCK_NOW_LO, TCK_NOW_HI,
   TCK_MEAS_PERIOD, TCK_PHASE_ERR, TCK_BUDGET, TCK_SPENT,
   TCK_CRIT, TCK_FLOOR, TCK_DEFER_COUNT, TCK_DROP_COUNT,
   TCK_REFUSE_COUNT, TCK_CUT_COUNT, TCK_HOLDOVER_COUNT, TCK_EDGE_REJECT_COUNT]

/-- The registers of the CSI block. -/
def csiRegs : List RegDef :=
  [CSI_PORT_CFG, CSI_DET_CFG, CSI_STATUS, CSI_ID,
   CSI_INIT, CSI_FRAME_COUNT, CSI_DT_REJECT_COUNT, CSI_ECC_CORR_COUNT,
   CSI_ECC_ERR_COUNT, CSI_CRC_ERR_COUNT, CSI_FRAME_ERR_COUNT, CSI_PROBE_FAIL_COUNT,
   CSI_DET_GLITCH_COUNT]

/-- The registers of the USB block. -/
def usbRegs : List RegDef :=
  [USB_CTL, USB_STATUS, USB_ENUM_COUNT, USB_ENUM_FAIL_COUNT,
   USB_OC_COUNT, USB_FRAME_DROP_COUNT]

/-- The registers of the ETH block. -/
def ethRegs : List RegDef :=
  [ETH_CFG, ETH_MAC_LO, ETH_MAC_HI, ETH_IP,
   ETH_STATUS, ETH_RX_FRAME_COUNT, ETH_RX_FCS_ERR_COUNT, ETH_RX_OVERRUN_COUNT,
   ETH_SILENCE]

/-- The registers of the TRF block. -/
def trfRegs : List RegDef :=
  [TRF_FLOW_CTL, TRF_FLOW_DIP, TRF_FLOW_UDP, TRF_FLOW_SIP,
   TRF_FLOW_SSRC, TRF_FLOW_RATE, TRF_FLOW_BUCKET, TRF_Q_CFG,
   TRF_Q_RATE, TRF_Q_BURST, TRF_Q_TICKCR, TRF_HRX_CTL,
   TRF_HRX_BASE_LO, TRF_HRX_BASE_HI, TRF_PTP_CTL, TRF_PTP_PHASE,
   TRF_PTP_STATE, TRF_PTP_OFFSET, TRF_RX_PKT_COUNT, TRF_POL_DROP_COUNT,
   TRF_SEQ_LOSS_COUNT, TRF_POOL_DROP_COUNT, TRF_MAC_DROP_COUNT, TRF_IP_ERR_COUNT,
   TRF_FRAG_DROP_COUNT, TRF_RTP_ERR_COUNT, TRF_HRX_COUNT, TRF_HRX_DROP_COUNT,
   TRF_Q_TX_COUNT, TRF_Q_LATE_COUNT]

/-- The registers of the DEC block. -/
def decRegs : List RegDef :=
  [DEC_CTL, DEC_ROWBUF_CFG, DEC_UNIT_STATUS, DEC_CHAN,
   DEC_CHAN_SIZE, DEC_CHAN_DPB, DEC_CHAN_PIC_COUNT, DEC_PIC_COUNT,
   DEC_CONCEAL_COUNT, DEC_SEG_ABANDON_COUNT, DEC_BITLIM_COUNT, DEC_CYCLIM_COUNT,
   DEC_UNSUP_COUNT, DEC_REDUNDANT_DROP_COUNT, DEC_WAIT_IRAP_COUNT, DEC_LIVE_CPL_LOST_COUNT,
   DEC_WINDOW_VIOL_COUNT]

/-- The registers of the ENC block. -/
def encRegs : List RegDef :=
  [ENC_CTL, ENC_UNIT_STATUS, ENC_CHAN, ENC_CHAN_BYTES,
   ENC_CHAN_FRAME_COUNT, ENC_FRAME_COUNT, ENC_SIZECAP_COUNT, ENC_SRC_SKIP_COUNT,
   ENC_IDR_COUNT, ENC_WINDOW_VIOL_COUNT]

/-- The registers of the CMP block. -/
def cmpRegs : List RegDef :=
  [CMP_CTL, CMP_STATUS, CMP_LAYER, CMP_AGE,
   CMP_OVL, CMP_COMPOSE_COUNT, CMP_LATE_SRC_COUNT, CMP_STALE_COUNT,
   CMP_ENERGY_UJ]

/-- The registers of the DSP block. -/
def dspRegs : List RegDef :=
  [DSP_CFG, DSP_BG, DSP_H1, DSP_H2,
   DSP_V1, DSP_V2, DSP_LINK, DSP_SEQ,
   DSP_SEQ2, DSP_BL, DSP_STATUS, DSP_PCLK,
   DSP_FB_BASE_LO, DSP_FB_BASE_HI, DSP_FRAME_COUNT, DSP_SLIP_COUNT,
   DSP_UNDERRUN_COUNT, DSP_RETRAIN_COUNT]

/-- The registers of the MEM block. -/
def memRegs : List RegDef :=
  [MEM_SCRUB, MEM_RET_MASK, MEM_STATUS, MEM_UE_ADDR,
   MEM_BUSY_COUNT, MEM_CE_COUNT, MEM_UE_COUNT]

/-- The registers of the DRC block. -/
def drcRegs : List RegDef :=
  [DRC_CTL, DRC_CAP, DRC_STATUS, DRC_MAINT,
   DRC_UE_ADDR_LO, DRC_UE_ADDR_HI, DRC_CE_COUNT, DRC_UE_COUNT,
   DRC_MAINT_COUNT]

/-- The registers of the BPM block. -/
def bpmRegs : List RegDef :=
  [BPM_CTL, BPM_STATUS, BPM_BASE_LO, BPM_BASE_HI,
   BPM_AREA_KIB, BPM_POLICY, BPM_LAST_ERR, BPM_LOST_CELLS,
   BPM_COMB_CFG, BPM_COMB_WATER, BPM_COMB_FREE, BPM_COMB_MIN,
   BPM_COMB_ALLOC_COUNT, BPM_COMB_FAIL_COUNT, BPM_COMB_FALLBACK_COUNT, BPM_ING_DROP_COUNT,
   BPM_DOUBLE_FREE_COUNT, BPM_FREE_REJECT_COUNT, BPM_RECLAIM_COUNT, BPM_RECLAIM_RACE_COUNT]

/-- The registers of the SCH block. -/
def schRegs : List RegDef :=
  [SCH_CTL, SCH_STATUS, SCH_TRACE_CTL, SCH_TRACE_BASE_LO,
   SCH_TRACE_BASE_HI, SCH_TRACE_WR, SCH_CORE, SCH_DISPATCH_COUNT,
   SCH_PREEMPT_COUNT, SCH_WDOG_COUNT, SCH_PENDING_SAT_COUNT, SCH_TRACE_LOST_COUNT,
   SCH_THREAD, SCH_THREAD_1, SCH_FLOW]

/-- The registers of the MCS block. -/
def mcsRegs : List RegDef :=
  [MCS_STATUS, MCS_PATCH_VERSION, MCS_EPOCH, MCS_ROM_ID,
   MCS_UPC, MCS_SEGMENT_COUNT, MCS_INTR_COUNT, MCS_INTR_CANCEL_COUNT]

/-- The registers of the GRD block. -/
def grdRegs : List RegDef :=
  [GRD_CTL, GRD_STATUS, GRD_CLASS_SUM, GRD_BLOCK_SUM,
   GRD_UNITS, GRD_FSTAT, GRD_REACT_COUNT, GRD_MERGE_COUNT,
   GRD_GLITCH_COUNT, GRD_CLEAR_IGNORED_COUNT]

/-- The registers of the KPR block. No table gives an offset for Keeper time, so none shows it (R14;
notes/assumptions/166.md). -/
def kprRegs : List RegDef :=
  [KPR_WAKE_EN, KPR_WAKE_POL, KPR_WAKE_CMD, KPR_ALARM_LO,
   KPR_ALARM_HI, KPR_WAKE_CAUSE, KPR_WAKE_LOST_COUNT, KPR_LOG_CTL,
   KPR_LOG_WR, KPR_LOG_LOST, KPR_LOG_CE_COUNT, KPR_PWR_SEQ,
   KPR_WAKE_EVT]

/-- The registers of the PWR block. -/
def pwrRegs : List RegDef :=
  [PWR_MODE_REQ, PWR_MODE_STATUS, PWR_CFG, PWR_OP_CEIL,
   PWR_OP_STATUS, PWR_ENTRY_COUNT, PWR_OP_CHANGE_COUNT, PWR_SETTLE_LATE_COUNT,
   PWR_SHED_COUNT, PWR_THROTTLE_COUNT, PWR_CLAMP_COUNT, PWR_AUX_OVL_COUNT,
   PWR_SETTLE_ABANDON_COUNT, PWR_CFG_VOTE_COUNT, PWR_ENERGY_IN_UJ, PWR_ENERGY_CORE_UJ,
   PWR_ENERGY_MEM_UJ, PWR_ENERGY_OVH_UJ, PWR_VIN, PWR_VIN_CFG,
   PWR_PHASE, PWR_CORE, PWR_CORE_STATUS, PWR_RAIL_STATUS,
   PWR_THERM, PWR_THERM_CFG, PWR_AUX_CFG, PWR_ENERGY_STATUS]

/-- The registers of the CLK block. -/
def clkRegs : List RegDef :=
  [CLK_CTL, CLK_STATUS, CLK_SYN_CFG01, CLK_SYN_CFG,
   CLK_SYN_SEED, CLK_SYN_DIV, CLK_SYN_FRAC, CLK_SYN_STATE,
   CLK_HOP, CLK_STEER, CLK_STEER_OFS, CLK_STEER_ERR,
   CLK_OUT, CLK_OUT_FRAC, CLK_CPLL_SWITCH_COUNT, CLK_UNLOCK_COUNT,
   CLK_STEER_CLAMP_COUNT, CLK_PULSE_SUPPRESS_COUNT, CLK_BAND]

/-- The registers of the FIO block. -/
def fioRegs : List RegDef :=
  [FIO_CTL, FIO_VFIELD, FIO_OUT_CFG, FIO_OUT_STATUS,
   FIO_PULSE, FIO_IN_CFG, FIO_IN_STATE, FIO_CONFLICT,
   FIO_IN_TS_LO, FIO_IN_TS_HI, FIO_IN_EDGE_COUNT, FIO_OUT_RETRY_COUNT,
   FIO_CONFLICT_COUNT]

/-- The registers of the LCS block. -/
def lcsRegs : List RegDef :=
  [LCS_STATE, LCS_CMD, LCS_STATUS, LCS_FW_EPOCH,
   LCS_WIPE_US]

/-- The registers of the block at `off`: blocks are aligned to 32 KiB (Table 0.4). -/
def blockRegs (off : Nat) : List RegDef :=
  match off >>> 15 with
  | 0 => sysRegs
  | 2 => hifRegs
  | 4 => tckRegs
  | 6 => csiRegs
  | 7 => usbRegs
  | 8 => ethRegs
  | 9 => trfRegs
  | 10 => decRegs
  | 11 => encRegs
  | 12 => cmpRegs
  | 13 => dspRegs
  | 14 => memRegs
  | 15 => drcRegs
  | 16 => bpmRegs
  | 18 => schRegs
  | 20 => mcsRegs
  | 22 => grdRegs
  | 24 => kprRegs
  | 28 => pwrRegs
  | 29 => clkRegs
  | 30 => fioRegs
  | 31 => lcsRegs
  | _ => []

/-- The register in a list that `off` names: its definition, element and word. -/
def findIn : List RegDef → Nat → Option (RegDef × Nat × Nat × Nat)
  | [], _ => none
  | d :: t, off =>
    match d.index? off with
    | some x => some (d, x)
    | none => findIn t off

/-- The register that a BAR0 offset names; `none` for an unimplemented offset (R10). -/
def findReg (off : Nat) : Option (RegDef × Nat × Nat × Nat) := findIn (blockRegs off) off

/-- The reset value of element (`i`, `j`) of a register. -/
def RegDef.resetAt (d : RegDef) (i j : Nat) : Nat :=
  if d.kind = .factory then (Config.clkBand i j).toNat else d.resetNat

/-- The value of element (`i`, `j`) of a register, as it was written or as the module set it. -/
def State.rd (s : State) (d : RegDef) (i : Nat := 0) (j : Nat := 0) : Nat :=
  (tget (BitVec.ofNat 32 (d.resetAt i j)) s.regs (d.at i j)).toNat

/-- Element (`i`, `j`) of a register takes the value `v`. -/
def State.wr (s : State) (d : RegDef) (i j v : Nat) : State :=
  { s with regs := tput (BitVec.ofNat 32 (d.resetAt i j)) s.regs (d.at i j) (BitVec.ofNat 32 v) }

/-- A field of element (`i`, `j`) of a register. -/
def State.fld (s : State) (d : RegDef) (hi lo : Nat) (i : Nat := 0) (j : Nat := 0) : Nat :=
  bits (s.rd d i j) hi lo

/-- One bit of element (`i`, `j`) of a register. -/
def State.flag (s : State) (d : RegDef) (b : Nat) (i : Nat := 0) (j : Nat := 0) : Bool :=
  bitAt (s.rd d i j) b

/-- A field of element (`i`, `j`) of a register takes a value. -/
def State.wrFld (s : State) (d : RegDef) (hi lo v : Nat) (i : Nat := 0) (j : Nat := 0) : State :=
  s.wr d i j (putBits (s.rd d i j) hi lo v)

/-- A two-register value: low word of `lo`, high word of `hi`. -/
def State.rd64 (s : State) (lo hi : RegDef) (i : Nat := 0) : Nat := s.rd lo i + 2 ^ 32 * s.rd hi i

/-! Counters (R18, R19, R25). -/

/-- A 31-bit counter after one increment (R18): COUNT in bits 30:0, sticky OVF in bit 31. -/
def bump32 (v : Nat) : Nat := if v % 2 ^ 31 = 2 ^ 31 - 1 then 2 ^ 31 else v + 1

/-- A 63-bit counter after an increment by `k` (R19). -/
def bump64 (v k : Nat) : Nat :=
  (v + k) % 2 ^ 63 + (if v ≥ 2 ^ 63 ∨ v % 2 ^ 63 + k ≥ 2 ^ 63 then 2 ^ 63 else 0)

/-- A counter goes up by one. -/
def State.bump (s : State) (d : RegDef) (i : Nat := 0) : State := s.wr d i 0 (bump32 (s.rd d i))

/-- A counter goes up by `k`. -/
def State.bumpBy (d : RegDef) (i : Nat) : Nat → State → State
  | 0, s => s
  | k + 1, s => State.bumpBy d i k (s.bump d i)

/-- The words of a 64-bit counter, together. -/
def State.cnt64 (s : State) (d : RegDef) (i : Nat := 0) : Nat :=
  (tget 0 s.regs (d.at i)).toNat + 2 ^ 32 * (tget 0 s.regs (d.at i + 4)).toNat

/-- A 64-bit counter takes the value `v`. -/
def State.setCnt64 (s : State) (d : RegDef) (i v : Nat) : State :=
  { s with regs := tput 0 (tput 0 s.regs (d.at i) (BitVec.ofNat 32 v)) (d.at i + 4)
                    (BitVec.ofNat 32 (v / 2 ^ 32)) }

/-- A 64-bit counter goes up by `k`. -/
def State.bump64 (s : State) (d : RegDef) (i : Nat := 0) (k : Nat := 1) : State :=
  s.setCnt64 d i (Machine.bump64 (s.cnt64 d i) k)

end Sys2Proof.Machine
end

