-- ==== Sys2Proof/Machine/Ops.lean ====
section
/-! DEFINITION. The operations that every family shares: Keeper time, the trouble log and the events, a
Class I fault,
the interrupt vectors, the rings as the module sees them and the writes to host memory. -/

namespace Sys2Proof.Machine

/-- What a command answers. -/
abbrev Res := Host.Outcome State Fault Refusal

/-! Keeper time (R13, R14). -/

/-- Keeper time in ns. -/
def State.ktime (s : State) : Nat := s.clock.ps / 1000 % 2 ^ 64

/-- Keeper time advances in steps of the 32.768 kHz oscillator (R14). -/
def State.slowTime (s : State) : Bool :=
  s.clock.refFailed ||
    match s.power.mode with
    | .off => true
    | .deepStandby => true
    | .retain => true
    | .idle => false
    | .run => false
    | .safe => false

/-- One step of Keeper time, in ps (R14). -/
def State.stepPs (s : State) : Nat := if s.slowTime then 30517578 else 40000

/-- The first step of Keeper time at or after `t` ps, and not before now (R14, R50). -/
def State.stepAt (s : State) (t : Nat) : Nat :=
  if t ≤ s.clock.ps then s.clock.ps else s.clock.ps + ceilDiv (t - s.clock.ps) s.stepPs * s.stepPs

/-- Keeper time stands at the first step at or after `t` ps; it never runs back (R13, R50). -/
def State.advanceTo (s : State) (t : Nat) : State := { s with clock := { s.clock with ps := s.stepAt t } }

/-- Keeper time in ns of the first sample at or after `ns`, which may lie before now: samples stand on the steps of Keeper
time (R14, R438, R551). -/
def State.sampleNs (s : State) (ns : Nat) : Nat :=
  let t := 1000 * ns
  (if t ≤ s.clock.ps then s.clock.ps - (s.clock.ps - t) / s.stepPs * s.stepPs else s.stepAt t) / 1000

/-- Keeper time advances by at least `ns`. -/
def State.advanceNs (s : State) (ns : Nat) : State := s.advanceTo (s.clock.ps + 1000 * ns)

/-- The present tick, low 32 bits (R15). -/
def State.tick32 (s : State) : Nat := s.tick.number.toNat % 2 ^ 32

/-- Ticks from the present tick to the 32-bit tick value `t` (R16). -/
def State.tickDiff (s : State) (t : Nat) : Nat := (t + 2 ^ 32 - s.tick32) % 2 ^ 32

/-- The tick that a 32-bit tick value in a descriptor means, and whether it is late: 0, the current tick and past
ticks mean the next edge (R16, R155, R277, R540). -/
def State.tickFor (s : State) (t : Nat) : Nat × Bool :=
  let d := s.tickDiff t
  if t ≠ 0 ∧ 1 ≤ d ∧ d < 2 ^ 31 then (s.tick.number.toNat + d, false) else (s.tick.number.toNat + 1, true)

/-- TCK_PERIOD.PERIOD_NS, in force from the next tick edge on; pixel clocks and floors are those of this value
(R49, R292, R294). -/
def State.period (s : State) : Nat := s.rd TCK_PERIOD

/-- ACTIVE (Table 0.3). -/
def State.isActive (s : State) : Bool := decide (s.sys.cfg = .active)

/-- The next free value counter; the value itself is `Config.free` of the old one. -/
def State.freshen (s : State) : State := { s with fresh := s.fresh + 1 }

/-! Little-endian byte lists of events. -/

/-- `n` bytes of `v`, least significant first. -/
def leNats : Nat → Nat → List Nat
  | 0, _ => []
  | n + 1, v => v % 256 :: leNats n (v / 256)

/-- The number in bytes `off` to `off + n − 1`. -/
def natsAt (l : List Nat) (off n : Nat) : Nat :=
  ((l.drop off).take n).reverse.foldl (fun a b => a * 256 + b) 0

/-! The trouble log (R415 to R417). -/

/-- An entry is written whole, over the oldest when the log is full. -/
def State.addLog (s : State) (e : LogEntry) : State :=
  if s.pwr.keeperOn then
    let s' := { s with log := { entries := tput .zero s.log.entries (s.log.wr % 2048) e,
                                wr := (s.log.wr + 1) % 2 ^ 32, held := min 2048 (s.log.held + 1) } }
    if s.log.held < 2048 then s' else s'.bump KPR_LOG_LOST
  else s

/-- An event's entry, where EVT_MASK selects the event (R416, Table 13.6). -/
def State.logEvent (s : State) (e : Event) : State :=
  if s.flag KPR_LOG_CTL (e.code / 16) then
    s.addLog { ktime := e.ktime, tick := e.tick, code := e.code, source := 0xFF, cls := 0, rep := 0,
               channel := 0xFF, link := e.source, discarded := natsAt e.data 0 4,
               addr := natsAt e.data 4 8 }
  else s

/-- An event occurs: it is logged, and posted at the next tick edge (R127, R416). -/
def State.event (s : State) (code source : Nat) (data : List Nat) : State :=
  let e : Event := { ktime := s.ktime, code := code, source := source, tick := s.tick32, data := data }
  let s := s.logEvent e
  { s with hif := { s.hif with evDue := s.hif.evDue ++ [e] } }

/-- Class codes of Table 3.21 and Table 13.6. -/
def FClass.num : FClass → Nat
  | .i => 0
  | .c => 1
  | .e => 2
  | .m => 3
  | .s => 4

/-- The status bit of a code is set (R409). -/
def State.setStatus (s : State) (code : Nat) : State :=
  let b := code / 256
  { s with guard := { s.guard with
      status := tmod 0 s.guard.status b (fun v => v ||| 2 ^ (code % 256 - 1)) } }

/-- The number of an entry of this tick with the same code and SOURCE, for R416; FIO 0x1504 also needs the same
pair (R549). -/
def State.repeated (s : State) (code src addr : Nat) : Option Nat :=
  (s.log.entries.find? (fun p => p.2.code == code && p.2.source == src && p.2.tick == s.tick32 &&
      (code != 0x1504 || p.2.addr == addr) &&
      decide (s.tick.edgePs ≤ p.2.ktime * 1000 + 999))).map (·.1)

/-- What a fault's log entry says beside its code. -/
structure FaultInfo where
  source : Nat := 0xFF
  channel : Nat := 0xFF
  merged : Bool := false
  link : Nat := 0
  discarded : Nat := 0
  addr : Nat := 0

/-- A fault is logged with the class carried out; FAULT_RAISED follows except in SAFE (R397, R416, R582). -/
def State.logFault (s : State) (code : Nat) (cls acted : FClass) (i : FaultInfo) : State :=
  let s := if acted = .i then s.bump GRD_REACT_COUNT 0 else s
  match (if cls = .i then s.repeated code i.source i.addr else none) with
  | some k =>
    { s with log := { s.log with
        entries := tmod .zero s.log.entries k (fun e => { e with rep := min 255 (e.rep + 1) }) } }
  | none =>
    let nr := s.log.wr
    let s := s.addLog { ktime := s.ktime, tick := s.tick32, code := code, source := i.source,
                        cls := cls.num + 8 * acted.num + 64 * b2n i.merged, rep := 0,
                        channel := i.channel, link := i.link, discarded := i.discarded, addr := i.addr }
    if s.guard.safe || decide (acted = .s) then s
    else s.event 0x10 code ([cls.num, acted.num, i.source, i.channel] ++ leNats 4 nr ++
                            [b2n i.merged] ++ leNats 2 i.link)

/-- A Class I fault: its status bit, its log entry and its event; it starts no reaction (R396, R406). -/
def State.raiseI (s : State) (code : Nat) (i : FaultInfo := {}) : State :=
  (s.setStatus code).logFault code .i .i i

/-- The cause of a code is present at a source (R410). -/
def State.present (s : State) (code src : Nat) : State :=
  { s with guard := { s.guard with
      live := if s.guard.live.contains (code, src) then s.guard.live else s.guard.live ++ [(code, src)] } }

/-- The cause of a code is gone at a source (R410). -/
def State.gone (s : State) (code src : Nat) : State :=
  { s with guard := { s.guard with live := s.guard.live.filter (fun p => !(p == (code, src))) } }

/-- A Class I condition cause of Table 13.5 is raised and present. -/
def State.raiseCond (s : State) (code : Nat) (i : FaultInfo := {}) : State :=
  (s.raiseI code i).present code i.source

/-! The link and the vectors (R91, R94, Table 3.3). -/

/-- From the quiesce edge of RETAIN or DEEP STANDBY until RUN: DMA has stopped (R427). -/
def State.asleep (s : State) : Bool :=
  (match s.power.mode with
   | .off => true
   | .deepStandby => true
   | .retain => true
   | .idle => false
   | .run => false
   | .safe => false) ||
  (match s.power.trans with
   | .quiesced _ => true
   | .none => false
   | .requested _ _ => false
   | .entering _ => false
   | .exiting _ => false)

/-- From the entry edge of a low-power mode until RUN: no admission, and live frames are dropped (R425). -/
def State.lowEntry (s : State) : Bool :=
  s.asleep || decide (s.power.mode = .idle) ||
  (match s.power.trans with
   | .entering _ => true
   | .exiting _ => true
   | .quiesced _ => true
   | .none => false
   | .requested _ _ => false)

/-- `n` bytes whose values the spec does not give. -/
def codedBytes (draw : Nat) : Nat → Nat → List Byte
  | _, 0 => []
  | k, n + 1 => Config.freeByte draw k :: codedBytes draw (k + 1) n

/-- Low 32 bits of the number of the tick in which a Keeper time of the last tick or this one lies. -/
def State.tickAt (s : State) (ns : Nat) : Nat :=
  if 1000 * ns + 999 < s.tick.edgePs ∧ s.asleep = false then (s.tick32 + 2 ^ 32 - 1) % 2 ^ 32 else s.tick32

/-- The function can send memory writes and messages. -/
def State.canSend (s : State) : Bool :=
  !s.asleep && decide (0 < s.bus.linkGen) && s.bus.bme && !s.bus.d3hot && !s.bus.endpointOff

/-- Ring traffic runs (R91, R116, R145). -/
def State.canDma (s : State) : Bool :=
  s.canSend && !s.hif.linkStopped && s.isActive && !s.guard.safe

/-- Word `w` of MSI-X table entry `v`; an entry that was not written is masked (notes/assumptions/9.md). -/
def State.msixWord (s : State) (v w : Nat) : Word := tget (if w = 3 then 1 else 0) s.bus.msixTable (4 * v + w)

/-- The mask bit of a vector. -/
def State.masked (s : State) (v : Nat) : Bool := bitAt (s.msixWord v 3).toNat 0

/-- A vector's message is sent. -/
def State.sendMsi (s : State) (v : Nat) : State :=
  { s with bus := { s.bus with msixSent := tmod 0 s.bus.msixSent v (· + 1), pba := ldel s.bus.pba v } }

/-- A vector falls due: its message is sent, or its pending bit set (R94). -/
def State.signal (s : State) (v : Nat) : State :=
  if s.canSend && !s.masked v then s.sendMsi v
  else { s with bus := { s.bus with pba := ladd s.bus.pba v } }

/-- Pending messages go out as far as the function can send them (R94). -/
def State.flushMsi (s : State) : State :=
  s.bus.pba.foldl (fun s v => if s.canSend && !s.masked v then s.sendMsi v else s) s

/-! On-chip SRAM and DRAM (R301, R315). -/

/-- The SRAM bank of a byte: consecutive 64-bit words lie in consecutive banks (R301). -/
def sramBank (a : Nat) : Nat := a / 8 % 16
/-- The word of a byte within its SRAM bank (R301). -/
def sramWord (a : Nat) : Nat := a / 128

/-- Bytes of the fitted DRAM: addresses at or above are never issued (R315). -/
def State.dramBytes (s : State) : Nat := s.sys.dramGib * 2 ^ 30

/-- The module writes bytes to DRAM, as far as the fitted capacity goes. -/
def State.dramWrite (s : State) (a : Nat) (bs : List Byte) : State :=
  { s with mem := { s.mem with dram := splice s.mem.dram a (bs.take (s.dramBytes - a)) } }

/-- A byte read from DRAM: a free value where nothing has been written or nothing is fitted. -/
def State.dramByte (s : State) (a : Nat) : Byte :=
  if thas s.mem.dram a then tget 0 s.mem.dram a else Config.freeByte s.fresh a

/-- The module writes bytes to host memory. -/
def State.hostWrite (s : State) (a : Nat) (bs : List Byte) : State :=
  { s with mem := { s.mem with host := splice s.mem.host a bs } }

/-! Cells, as far as the end of a job frees them (R335, R344). -/

/-- The comb of a handle (R335). -/
def handleComb (h : Nat) : Nat := h / 2 ^ 21
/-- The index of a handle (R335). -/
def handleIndex (h : Nat) : Nat := h % 2 ^ 21

/-- The cell size of a comb in bytes (R330). -/
def cellSize (c : Nat) : Nat := 256 * 4 ^ c

/-- The comb base address (R331). -/
def State.combBase (s : State) (c : Nat) : Nat :=
  s.bpm.base + ((List.range 8).filter (fun k => decide (c < k))).foldl
    (fun a k => a + lget 0 s.bpm.counts k * cellSize k) 0

/-- The DRAM address of a cell (R331). -/
def State.cellAddr (s : State) (h : Nat) : Nat :=
  s.combBase (handleComb h) + handleIndex h * cellSize (handleComb h)

/-- The check word of a listed cell: its own handle XOR 0xA5A5A5A5 (R339). -/
def linkCheck (h : Nat) : Nat := h ^^^ 0xA5A5A5A5

/-- The link words that a free writes into a cell of combs 4 to 7, which becomes the head of its list: the handle of the
cell that was the head, or 0xFFFFFF when none was free, and the check word. Which cell heads a list that has only been
built is not specified (R339, R340; notes/assumptions/178.md). -/
def State.linkCell (s : State) (h : Nat) : State :=
  let c := handleComb h
  if c < 4 then s
  else
    let used := (s.bpm.cells.filter (fun p => handleComb p.1 == c)).length
    let next := match lget [] s.bpm.lists c with
      | x :: _ => x
      | [] => if lget 0 s.bpm.counts c ≤ used then 0xFFFFFF else Config.freeAt s.fresh h % 2 ^ 24
    (s.dramWrite (s.cellAddr h) (leBytes 4 next ++ leBytes 4 (linkCheck h)))

/-- A cell goes back to its own comb's free store; a cell lost to a map error stays allocated (R338, R339). -/
def State.returnCell (s : State) (h : Nat) : State :=
  if tget 0xFF s.bpm.cells h = 0xFF then s
  else
    let s := s.linkCell h
    let b := s.bpm
    { s with bpm := { b with
        cells := tdel b.cells h,
        lists := if handleComb h < 4 then b.lists else lmod b.lists (handleComb h) (h :: ·),
        cache := lmod b.cache (handleComb h) (fun x => min 32 (x + 1)) } }

/-- Several cells go back. -/
def State.returnCells (s : State) (hs : List Nat) : State := hs.foldl (fun s h => s.returnCell h) s

/-! Rings (R100 to R105, R123). -/

/-- A submission ring as the module sees it. -/
def State.sq (s : State) (n : Nat) : Sq := tget .reset s.hif.sqs n
/-- A completion ring as the module sees it. -/
def State.cq (s : State) (n : Nat) : Cq := tget .reset s.hif.cqs n
/-- Change a submission ring. -/
def State.setSq (s : State) (n : Nat) (q : Sq) : State :=
  { s with hif := { s.hif with sqs := tput .reset s.hif.sqs n q } }
/-- Change a completion ring. -/
def State.setCq (s : State) (n : Nat) (q : Cq) : State :=
  { s with hif := { s.hif with cqs := tput .reset s.hif.cqs n q } }
/-- A submission ring is enabled. -/
def State.sqOn (s : State) (n : Nat) : Bool := decide (n < 64) && s.flag HIF_SQ_CFG 4 n
/-- A completion ring is enabled. -/
def State.cqOn (s : State) (n : Nat) : Bool := decide (n < 64) && s.flag HIF_CQ_CFG 4 n
/-- Entries in a ring (R101). -/
def ringCount (pi ci : Nat) : Nat := (pi + 65536 - ci) % 65536
/-- Size of a ring in entries (R100). -/
def State.sqSize (s : State) (n : Nat) : Nat := 2 ^ s.fld HIF_SQ_CFG 3 0 n
/-- Size of a completion ring in entries (R100). -/
def State.cqSize (s : State) (n : Nat) : Nat := 2 ^ s.fld HIF_CQ_CFG 3 0 n
/-- Free slots of a completion ring by the last CQ_CI read, reserved ones apart (R104, R247). -/
def State.cqRoom (s : State) (n : Nat) : Nat :=
  s.cqSize n - ringCount (s.cq n).pi (s.cq n).ci - (s.cq n).reserved
/-- The ordered flow of a completion ring, if it has one (R124). -/
def State.cqFlow (s : State) (n : Nat) : Option Nat :=
  if s.cqOn n && s.flag HIF_CQ_CFG 5 n then some (s.fld HIF_CQ_CFG 11 6 n) else none
/-- PHASE of an entry (R105). -/
def phaseOf (pi log2 : Nat) : Nat := 1 - pi / 2 ^ log2 % 2

/-! Entries of the completion rings and the event ring (R104, R105, R131). -/

/-- A ring of 32-byte entries in host memory: its base, its SIZE_LOG2 and the offset of an entry's FLAGS byte. -/
structure RingAt where
  base : Nat
  log2 : Nat
  flags : Nat
deriving DecidableEq, Repr

/-- A completion ring in host memory (Table 3.8). -/
def State.cqAt (s : State) (n : Nat) : RingAt :=
  { base := s.rd64 HIF_CQ_BASE_LO HIF_CQ_BASE_HI n, log2 := s.fld HIF_CQ_CFG 3 0 n, flags := 0x0B }

/-- The event ring in host memory (Table 3.12). -/
def State.evAt (s : State) : RingAt :=
  { base := s.rd64 HIF_EVQ_BASE_LO HIF_EVQ_BASE_HI, log2 := s.fld HIF_EVQ_CFG 3 0, flags := 0x09 }

/-- Where the entry with a producer index sits (R100). -/
def RingAt.slot (r : RingAt) (pi : Nat) : Nat := r.base + pi % 2 ^ r.log2 * 32

/-- An entry is written at a producer index with the PHASE of that index; what the slot held is noted (R105). -/
def State.putEntry (s : State) (r : RingAt) (pi : Nat) (entry : List Byte) : State × RingPost :=
  let a := r.slot pi
  (s.hostWrite a (lmod entry r.flags (· ||| BitVec.ofNat 8 (phaseOf pi r.log2))),
   { entry := entry, before := s.mem.host.filter (fun p => decide (a ≤ p.1) && decide (p.1 < a + 32)) })

/-- The write of an entry is undone: its slot holds what it held before. -/
def State.unputEntry (s : State) (r : RingAt) (pi : Nat) (p : RingPost) : State :=
  let a := r.slot pi
  let m := s.mem.host
  let old := m.filter (fun c => decide (c.1 < a)) ++ p.before ++ m.filter (fun c => decide (a + 32 ≤ c.1))
  { s with mem := { s.mem with host := old } }

/-- Entries are written from a producer index on, oldest first; the ring's entries newest first are answered. -/
def State.putEntries (r : RingAt) : State → Nat → List (List Byte) → List RingPost → State × List RingPost
  | s, _, [], posts => (s, posts)
  | s, pi, e :: t, posts =>
    let (s, p) := s.putEntry r pi e
    State.putEntries r s ((pi + 1) % 65536) t (p :: posts)

/-- The entry written `back` entries before the newest of a ring is lost: the ring's producer index, which was `pi`,
goes back by one, and the entries after the lost one, `mark` applied to the first of them, move one slot down, so that
the ring has no gap (R131; notes/assumptions/158.md). -/
def State.loseSlot (s : State) (r : RingAt) (pi back : Nat) (posts : List RingPost) (mark : List Byte → List Byte) :
    State × List RingPost :=
  let undone := posts.take (back + 1)
  let s := (undone.zipIdx.foldl (fun s p => s.unputEntry r ((pi + 65535 - p.2) % 65536) p.1) s)
  let again := ((undone.take back).reverse).map (·.entry)
  let again := match again with
    | [] => []
    | e :: t => mark e :: t
  State.putEntries r s ((pi + 65535 - back) % 65536) again (posts.drop (back + 1))

/-- The 32 bytes of a completion entry (Table 3.8). -/
def Cpl.bytes (c : Cpl) (phase tick : Nat) : List Byte :=
  leBytes 8 c.tag ++ leBytes 1 c.status ++ leBytes 1 c.reason ++ leBytes 1 c.deferred ++
  leBytes 1 (phase + 2 * b2n c.estimated + 4 * b2n c.ordered) ++ leBytes 1 c.opcode ++
  leBytes 1 c.channel ++ leBytes 1 c.sq ++ [0] ++ leBytes 4 tick ++ leBytes 4 c.energy ++
  leBytes 2 c.fault ++ leBytes 2 c.detail ++ leBytes 4 c.result

/-- The 32 bytes of an event entry (Table 3.12). -/
def Event.bytes (e : Event) (phase : Nat) (lostBefore : Bool) : List Byte :=
  leBytes 8 e.ktime ++ leBytes 1 e.code ++ leBytes 1 (phase + 2 * b2n lostBefore) ++
  leBytes 2 e.source ++ leBytes 4 e.tick ++
  (padTo 16 (e.data.map (BitVec.ofNat 8)))

end Sys2Proof.Machine
end

