-- ==== Sys2Proof/Machine/Sched.lean ====
section
/-! DEFINITION. The Dispatcher's operations: readiness, selection, pre-emption and the Waggle trace
(R353 to R365, R372 to R374). -/

namespace Sys2Proof.Machine

/-- The thread in a slot. -/
def State.thread (s : State) (n : Nat) : Thread := tget .empty s.sch.threads n
/-- Change a thread. -/
def State.setThread (s : State) (n : Nat) (t : Thread) : State :=
  { s with sch := { s.sch with threads := tput .empty s.sch.threads n t } }
/-- A control core. -/
def State.core (s : State) (c : Nat) : Core := lget .idle s.sch.cores c
/-- Change a core. -/
def State.setCore (s : State) (c : Nat) (x : Core) : State :=
  { s with sch := { s.sch with cores := lmod s.sch.cores c (fun _ => x) } }
/-- A unit is fenced (R393). -/
def State.isFenced (s : State) (k : UnitKind) (u : Nat) : Bool :=
  s.guard.fenced.any (fun f => decide (f.1 = k) && f.2.1 == u)
/-- A core that runs no thread and is not fenced. -/
def State.coreFree (s : State) (c : Nat) : Bool := (s.core c).thread.isNone && !s.isFenced .core c

/-- The thread may run on the core: fenced cores are left out of the mask, and a mask that holds only
fenced cores allows every healthy core (R361). -/
def State.mayRun (s : State) (t : Thread) (c : Nat) : Bool :=
  !s.isFenced .core c &&
    (bitAt t.affinity c ||
      (List.range 4).all (fun k => !bitAt t.affinity k || s.isFenced .core k))

/-- The readiness rule of a thread holds (R354, R357). -/
def Thread.due (t : Thread) : Bool :=
  if t.flagsMode then
    let f := t.flags &&& t.mask
    if t.all then decide (f = t.mask) else !decide (f = 0)
  else t.counter == 0

/-! The Waggle trace. -/

/-- The trace ring in records (Table 11.5). -/
def State.traceSize (s : State) : Nat :=
  let l := s.fld SCH_TRACE_CTL 20 16
  2 ^ (if 8 ≤ l ∧ l ≤ 20 then l else 12)

/-- The 32 bytes of a Waggle record (Table 11.4). -/
def traceBytes (seq tick sub kind core thread prio rule prev counter flags age : Nat) : List Byte :=
  leBytes 4 seq ++ leBytes 4 tick ++ leBytes 4 sub ++ leBytes 1 kind ++ leBytes 1 (core % 4) ++
  leBytes 2 thread ++ leBytes 1 prio ++ leBytes 1 rule ++ leBytes 2 prev ++ leBytes 2 counter ++
  [0, 0] ++ leBytes 4 flags ++ leBytes 4 (min age (2 ^ 32 - 1))

/-- A decision is recorded when its kind is selected; a record that cannot be written is dropped and
counted, and its number is used up (R372 to R374). `before`: the thread before the decision. -/
def State.trace (s : State) (kind core slot rule : Nat) (prev : Option Nat) (before : Thread) : State :=
  if s.sch.tracing && s.flag SCH_TRACE_CTL (8 + (kind - 1)) &&
      !(s.flag SCH_TRACE_CTL 2 && decide (s.traceSize ≤ s.sch.traceSeq)) then
    let t := s.thread slot
    let sub := (s.clock.ps - s.tick.edgePs) / 40000 * 40
    let rec' := traceBytes s.sch.traceSeq s.tick32 sub kind core slot before.prio rule
      (prev.getD 0xFFFF) (if before.flagsMode then 0 else t.counter)
      (if before.flagsMode then before.flags.toNat else 0) (s.ktime - before.readyNs)
    let a := s.rd64 SCH_TRACE_BASE_LO SCH_TRACE_BASE_HI + s.sch.traceSeq % s.traceSize * 32
    let s := if s.flag SCH_TRACE_CTL 1 then
               (if a + 32 ≤ s.dramBytes then s.dramWrite a rec' else s.bump SCH_TRACE_LOST_COUNT)
             else if s.canDma then s.hostWrite a rec'
             else s.bump SCH_TRACE_LOST_COUNT
    { s with sch := { s.sch with traceSeq := (s.sch.traceSeq + 1) % 2 ^ 32 } }
  else s

/-! Dispatch and pre-emption. -/

/-- A thread takes a core: the counter is reloaded with RELOAD minus PENDING, or the flags that MASK selects
are cleared (R354, R357). -/
def State.runOn (s : State) (slot core : Nat) : State :=
  let t := s.thread slot
  let t := if t.flagsMode then { t with flags := t.flags &&& ~~~t.mask }
           else { t with counter := t.reload - t.pending, pending := 0 }
  let s := s.setThread slot { t with state := 3, lastCore := core, ran := true, sinceNs := s.ktime }
  let s := s.setCore core { s.core core with thread := some slot }
  s.bump64 SCH_DISPATCH_COUNT

/-- The candidates of a free core (R358): slots that hold a READY thread. -/
def State.candidates (s : State) (c : Nat) : List (Nat × Thread) :=
  s.sch.threads.filter (fun p => p.2.state == 2 && s.mayRun p.2 c && decide (s.thread p.1 = p.2))

/-- The thread that R358 chooses, with the number of the rule that decided. -/
def chooseThread (c : Nat) (l : List (Nat × Thread)) : Option (Nat × Nat) :=
  let top := l.foldl (fun m p => min m p.2.prio) 32
  let l1 := l.filter (fun p => p.2.prio == top)
  let warm := l1.filter (fun p => p.2.ran && p.2.lastCore == c)
  let l2 := if warm.isEmpty then l1 else warm
  let old := l2.foldl (fun m p => min m p.2.readyNs) (2 ^ 64)
  let l3 := l2.filter (fun p => p.2.readyNs == old)
  match l3 with
  | [] => none
  | p :: _ =>
    some (p.1, if l.length = 1 then 0 else if l1.length = 1 then 1 else if l2.length = 1 then 2
               else if l3.length = 1 then 3 else 4)

/-- A free core takes the thread chosen for it (R358). -/
def State.dispatchOn (s : State) (c : Nat) : State :=
  if s.coreFree c then
    match chooseThread c (s.candidates c) with
    | none => s
    | some (slot, rule) =>
      let before := s.thread slot
      let prev := (s.core c).prev
      (s.runOn slot c).trace 1 c slot rule prev before
  else s

/-- Every free core takes a thread, the lowest-numbered core first. -/
def State.dispatch (s : State) : State := (List.range 4).foldl (fun s c => s.dispatchOn c) s

/-- The allowed core that runs the lowest-priority thread, the lowest-numbered among equals (R359). -/
def State.victim (s : State) (t : Thread) : Option (Nat × Nat × Thread) :=
  ((List.range 4).filterMap (fun c =>
      match (s.core c).thread with
      | some v => if s.mayRun t c then some (c, v, s.thread v) else none
      | none => none)).foldl
    (fun (m : Option (Nat × Nat × Thread)) x =>
      match m with
      | none => some x
      | some y => if y.2.2.prio < x.2.2.prio then some x else some y) none

/-- A thread that is READY while no allowed core is free takes the core of a thread of lower priority, which
returns to READY with its ready age and may displace another in turn (R359, R360). -/
def State.preempt : Nat → State → Nat → State
  | 0, s, _ => s
  | n + 1, s, slot =>
    let t := s.thread slot
    if t.state == 2 then
      match s.victim t with
      | none => s
      | some (c, v, vt) =>
        if t.prio < vt.prio then
          let s := s.setThread v { vt with state := 2, usedNs := vt.usedNs + (s.ktime - vt.sinceNs) }
          let s := s.setCore c { s.core c with thread := none, prev := some v }
          let s := (s.runOn slot c).bump SCH_PREEMPT_COUNT
          let s := s.trace 2 c slot 1 (some v) t
          State.preempt n s.dispatch v
        else s
    else s

/-- A WAITING thread becomes READY. -/
def State.markReady (s : State) (slot : Nat) : State :=
  let t := s.thread slot
  let s := s.setThread slot { t with state := 2, readyNs := s.ktime }
  s.trace 4 t.lastCore slot 0 none (s.thread slot)

/-- Threads that became READY in one cycle are considered together: free cores first, then pre-emption by the highest
priority and the lowest slot (R358, R359). -/
def State.seatThreads (s : State) (slots : List Nat) : State :=
  (sortBy (fun a b => decide ((s.thread a).prio ≤ (s.thread b).prio)) slots).foldl
    (fun s n => State.preempt 4 s n) (if slots.isEmpty then s else s.dispatch)

/-- A WAITING thread becomes READY, and takes a core if R358 or R359 gives it one. -/
def State.makeReady (s : State) (slot : Nat) : State := (s.markReady slot).seatThreads [slot]

/-- A thread's counter is decremented; at 0 the decrement goes to PENDING, which saturates at 255 with
SCH 0x0F05 (R354, R355). A thread that becomes READY joins `ready`. -/
def State.countDown (acc : State × List Nat) (slot : Nat) : State × List Nat :=
  let (s, ready) := acc
  let t := s.thread slot
  if t.state = 0 ∨ t.flagsMode = true then (s, ready)
  else if t.counter = 0 then
    if t.pending = 255 then ((s.bump SCH_PENDING_SAT_COUNT).raiseI 0x0F05, ready)
    else (s.setThread slot { t with pending := t.pending + 1 }, ready)
  else
    let s := s.setThread slot { t with counter := t.counter - 1 }
    if t.counter = 1 ∧ t.state = 1 then (s.markReady slot, ready ++ [slot]) else (s, ready)

/-- The counters of threads are decremented in one cycle, all of them before any dispatch (R354, R356). -/
def State.decThreads (s : State) (slots : List Nat) : State :=
  let r := slots.foldl State.countDown (s, [])
  r.1.seatThreads r.2

/-- One thread's counter is decremented. -/
def State.decThread (s : State) (slot : Nat) : State := s.decThreads [slot]

/-- Every thread bound to `b` is decremented (R354). -/
def State.decBound (s : State) (b : Bound) : State :=
  s.decThreads ((s.sch.threads.filter (fun p => p.2.bounds.contains b)).map (·.1))

/-- Event flags of a thread are set; when its rule then holds it becomes READY and joins `ready` (R357). -/
def State.raiseFlags (flags : Word) (acc : State × List Nat) (slot : Nat) : State × List Nat :=
  let (s, ready) := acc
  let t := s.thread slot
  if t.state = 0 ∨ t.flagsMode = false then (s, ready)
  else
    let t := { t with flags := t.flags ||| flags }
    let s := s.setThread slot t
    if t.state = 1 ∧ t.due = true then (s.markReady slot, ready ++ [slot]) else (s, ready)

/-- Event flags of threads are set in one cycle (R357). -/
def State.signalThreads (s : State) (slots : List Nat) (flags : Word) : State :=
  let r := slots.foldl (State.raiseFlags flags) (s, [])
  r.1.seatThreads r.2

/-- Event flags of one thread are set (R357). -/
def State.signalThread (s : State) (slot : Nat) (flags : Word) : State := s.signalThreads [slot] flags

/-- A hardware source sets bit `b` in every thread that has it in its MASK (Table 11.3). -/
def State.hwFlag (s : State) (b : Nat) : State :=
  s.signalThreads ((s.sch.threads.filter (fun p => bitAt p.2.mask.toNat b)).map (·.1)) (BitVec.ofNat 32 (2 ^ b))

/-- A core stops running its thread. -/
def State.freeCore (s : State) (c : Nat) : State :=
  s.setCore c { s.core c with thread := none, prev := (s.core c).thread }

/-- The core that runs a thread. -/
def State.coreOf (s : State) (slot : Nat) : Option Nat :=
  (List.range 4).find? (fun c => (s.core c).thread == some slot)

/-- A slot becomes EMPTY; a RUNNING thread stops first (R365). -/
def State.emptySlot (s : State) (slot : Nat) : State :=
  let s := match s.coreOf slot with
    | some c => s.freeCore c
    | none => s
  s.setThread slot .empty

/-- Every slot with a reclaimed tag becomes EMPTY, and the freed cores take other threads (R365). -/
def State.emptyTag (s : State) (tag : Nat) : State :=
  let s := (s.sch.threads.filter (fun p => p.2.state != 0 && p.2.tag == tag)).foldl
    (fun s p => (s.emptySlot p.1).trace 8 p.2.lastCore p.1 0 none p.2) s
  s.dispatch

end Sys2Proof.Machine
end

