-- ==== Sys2Proof/Machine/Budgets.lean ====
section
/-! DEFINITION. Tick capacity: the work window, the budgets of the engine kinds and the floor (R31 to R39, R59,
R66, Table 2.2). Kinds are numbered 0 syntax engine, 1 pixel slice, 2 encode slice, 3 compositor. -/

namespace Sys2Proof.Machine

/-- Length of the guard window in ns: 6 % of the period (R59). -/
def guardNs (period : Nat) : Nat := period * 6 / 100

/-- Start of the guard window after the edge in ns: G (R59, R284). -/
def guardAt (period : Nat) : Nat := period - guardNs period

/-- The work window in ns: from 150 µs after the edge to the guard window (R59). -/
def workNs (period : Nat) : Nat := guardAt period - 150000

/-- Units that `n` engines of a kind can do in `ns` nanoseconds at an operating point (R31, Table 2.2). -/
def unitsIn (kind n op ns : Nat) : Nat :=
  match kind with
  | 0 => n * ns * (op + 1) / 12
  | 1 => n * ns * (op + 1) / 12
  | 2 => n * ns * (op + 1) / 24
  | _ => 2 * (op + 1) * ns / 5

/-- The fenceable kind of an engine number (R393). -/
def kindOf (kind : Nat) : Option UnitKind :=
  match kind with
  | 0 => some .syn
  | 1 => some .pix
  | 2 => some .enc
  | _ => none

/-- Healthy units of a kind; the compositor is one (R40). -/
def State.healthy (s : State) (kind : Nat) : Nat :=
  match kindOf kind with
  | none => 1
  | some k => ((List.range 3).filter (fun u => !s.isFenced k u)).length

/-- The budget of a kind in this tick at an operating point, from the units that are healthy now: one fenced inside an
admission window is out at its decision (R67, R89; notes/assumptions/169.md). -/
def State.budgetAt (s : State) (kind op : Nat) : Nat :=
  unitsIn kind (s.healthy kind) op (workNs s.tick.periodNs)

/-- The floor of a kind: one unit fenced, at OP3 (R39). -/
def State.floorOf (s : State) (kind : Nat) : Nat :=
  unitsIn kind (if kind = 3 then 1 else 2) 3 (workNs s.period)

/-- CAP_MARGIN in percent. -/
def State.capMargin (s : State) : Nat := s.fld TCK_ADM_CTL 4 0

/-- A cost or cap: an estimate with the margin added, rounded up (R65, R85). -/
def State.withMargin (s : State) (estimate : Nat) : Nat := ceilDiv (estimate * (100 + s.capMargin)) 100

end Sys2Proof.Machine
end

