-- ==== Sys2Proof/Machine/Clocks.lean ====
section
/-! DEFINITION. The clock unit: synthesiser arithmetic, tuning and hop slots, pixel-clock steering and the
clock outputs (R477 to R504). Tables 16.1 to 16.6 name the fields. -/

namespace Sys2Proof.Machine

/-! The modulator (R482, R483). -/

/-- One step of the LFSR of polynomial x^23 + x^18 + 1. -/
def lfsrStep (l : Nat) : Nat := (l * 2) % 2 ^ 23 + (b2n (bitAt l 22 != bitAt l 17))

/-- The first accumulator's input: K, one more or one less with DITHER (R483). At K 0 the step down adds
nothing (notes/assumptions/27.md). -/
def Modulator.input (m : Modulator) (k : Nat) (dither : Bool) : Nat :=
  if dither then (if bitAt m.lfsr 0 then k + 1 else k - 1) else k

/-- One reference cycle of the third-order MASH 1-1-1 modulator with fraction `k` (R482). -/
def Modulator.cycle (m : Modulator) (k : Nat) (dither : Bool) : Modulator :=
  if k = 0 ∧ dither = false then m
  else
    let a1 := m.acc1 + m.input k dither
    let a2 := m.acc2 + a1 % 2 ^ 24
    let a3 := m.acc3 + a2 % 2 ^ 24
    { acc1 := a1 % 2 ^ 24, acc2 := a2 % 2 ^ 24, acc3 := a3 % 2 ^ 24, c2 := a2 / 2 ^ 24, c3 := a3 / 2 ^ 24,
      c3' := m.c3, lfsr := lfsrStep m.lfsr }

/-- The instantaneous divisor of that cycle, less N (R482). -/
def Modulator.divisor (m : Modulator) (k : Nat) (dither : Bool) : Int :=
  if k = 0 ∧ dither = false then 0
  else
    let a1 := m.acc1 + m.input k dither
    let a2 := m.acc2 + a1 % 2 ^ 24
    let a3 := m.acc3 + a2 % 2 ^ 24
    ((a1 / 2 ^ 24 : Nat) : Int) + (((a2 / 2 ^ 24 : Nat) : Int) - (m.c2 : Int)) +
      (((a3 / 2 ^ 24 : Nat) : Int) - 2 * (m.c3 : Int) + (m.c3' : Int))

/-! Synthesisers. -/

/-- A synthesiser. -/
def State.synth (s : State) (i : Nat) : Synth := lget .reset s.clk.synths i
/-- Change a synthesiser. -/
def State.setSynth (s : State) (i : Nat) (x : Synth) : State :=
  { s with clk := { s.clk with synths := lmod s.clk.synths i (fun _ => x) } }
/-- STATE 4: locked. -/
def State.locked (s : State) (i : Nat) : Bool := (s.synth i).state == 4
/-- STATE 1 to 3: tuning. -/
def Synth.tuning (x : Synth) : Bool := decide (1 ≤ x.state) && decide (x.state ≤ 3)

/-- f_vco in units of 25 MHz / 2^24 (R481). -/
def vcoUnits (n k : Nat) : Nat := n * 2 ^ 24 + k

/-- A hop slot (N, BAND, P) suits a target: equal P, f_vco within 0.5 % (R486). -/
def hopSuits (p n k : Nat) (slot : Nat × Nat × Nat) : Bool :=
  let v := vcoUnits n k
  let w := vcoUnits slot.1 0
  slot.2.2 == p && decide ((if v ≤ w then w - v else v - w) * 200 ≤ v)

/-- Band `b` of a synthesiser: F_LO and F_HI in MHz (R485). -/
def State.band (s : State) (i b : Nat) : Nat × Nat := (s.fld CLK_BAND 15 0 i b, s.fld CLK_BAND 31 16 i b)

/-- A known band holds a target at least 1 % of its range inside either edge (R486). -/
def bandHolds (r : Nat × Nat) (n k : Nat) : Bool :=
  let f := 2500 * vcoUnits n k
  r.2 != 0 && decide ((100 * r.1 + (r.2 - r.1)) * 2 ^ 24 ≤ f) && decide (f ≤ (100 * r.2 - (r.2 - r.1)) * 2 ^ 24)

/-- Twice the distance in MHz, times 2^24, between the centre of a band and a target. -/
def bandOff (r : Nat × Nat) (n k : Nat) : Nat :=
  let c := (r.1 + r.2) * 2 ^ 24
  let f := 50 * vcoUnits n k
  if c ≤ f then f - c else c - f

/-- The band that the table gives for a target: of those that hold it, the one whose centre is nearest (R486). -/
def State.tableBand (s : State) (i n k : Nat) : Nat :=
  let l := (List.range 64).filter (fun b => bandHolds (s.band i b) n k)
  l.foldl (fun m b => if bandOff (s.band i b) n k < bandOff (s.band i m) n k then b else m) (l.headD 0)

/-- The band of a lock by table: the control voltage moves it by at most 4 from the one that the table gives (R486). -/
def nearBand (start band : Nat) : Nat := if start ≤ band + 4 ∧ band ≤ start + 4 then band else start

/-- The method that R486 applies: 1 hop, 2 table, 3 search. -/
def State.tuneMethod (s : State) (i n k p : Nat) : Nat :=
  if (s.synth i).hops.any (hopSuits p n k) then 1
  else if (List.range 64).any (fun b => bandHolds (s.band i b) n k) then 2
  else 3

/-- A tuning starts (R484, R486): the output is held at its idle level until lock. -/
def State.startTune (s : State) (i n k p : Nat) : State :=
  let x := s.synth i
  let seed := s.fld CLK_SYN_SEED 22 0 i
  s.setSynth i { x with n := n, k := k, p := p, state := s.tuneMethod i n k p, us := 0, mod := .load seed }

/-- A result moves to hop slot 0; the slots before it move down by one (R487). -/
def pushHop (hops : List (Nat × Nat × Nat)) (x : Nat × Nat × Nat) : List (Nat × Nat × Nat) :=
  (x :: hops).take 4

/-- The hop slot used moves to slot 0 (R487). -/
def raiseHop (hops : List (Nat × Nat × Nat)) (i : Nat) : List (Nat × Nat × Nat) :=
  match hops[i]? with
  | none => hops
  | some x => x :: (hops.take i ++ hops.drop (i + 1))

/-- The slot of a hop: the one named when it suits, else the first that suits. -/
def Synth.hopSlot (x : Synth) (named : Nat) : Nat :=
  if hopSuits x.p x.n x.k (lget (0, 0, 0) x.hops named) && decide (named < x.hops.length) then named
  else (x.hops.findIdx? (hopSuits x.p x.n x.k)).getD 0

/-- A synthesiser under tuning locks after `us` microseconds (R486, R487). -/
def State.lockSynth (s : State) (i named band us : Nat) : State :=
  let x := s.synth i
  if x.tuning = false then s
  else if x.state = 1 then
    let h := x.hopSlot named
    s.setSynth i { x with state := 4, us := us % 65536, band := (lget (0, 0, 0) x.hops h).2.1,
                          hops := raiseHop x.hops h }
  else
    let b := if x.state = 2 then nearBand (s.tableBand i x.n x.k) (band % 64) else band % 64
    s.setSynth i { x with state := 4, us := us % 65536, band := b, hops := pushHop x.hops (x.n, b, x.p) }

/-- A synthesiser that the module tunes inside another step locks; its band and its time are not specified. -/
def State.lockFree (s : State) (i : Nat) : State :=
  ((s.lockSynth i 0 (Config.free s.fresh) (Config.free (s.fresh + 1))).freshen).freshen

/-- A synthesiser has lost its lock, or has not found it. -/
def State.loseSynth (s : State) (i : Nat) : State :=
  (s.setSynth i { s.synth i with state := 5 }).bump CLK_UNLOCK_COUNT i

/-- A synthesiser is off. -/
def State.synthOff (s : State) (i : Nat) : State := s.setSynth i { s.synth i with state := 0 }

/-- 2 × Q at an operating point (R490). -/
def twoQ (op : Nat) : Nat := lget 10 [60, 30, 20, 15, 12, 10] op

/-- A CPLL starts tuning to 6000 MHz (R489). -/
def State.tuneCpll (s : State) (i : Nat) : State := s.startTune i 240 0 (twoQ s.pwr.op)

/-- The MPLL starts tuning (R495). -/
def State.tuneMpll (s : State) : State := s.startTune 5 170 10737418 2

/-- The core PLLs and the MPLL tune and lock, and the DRAM's delay-locked loops with them. -/
def State.lockPlls (s : State) : State :=
  let s := ((s.tuneCpll 0).tuneCpll 1).tuneMpll
  let s := ((s.lockFree 0).lockFree 1).lockFree 5
  { s with clk := { s.clk with standby := true, dramDll := 3 } }

/-! Pixel clocks (R292, R497). -/

/-- Totals of a display: HTOTAL and VTOTAL. -/
def State.hTotal (s : State) (d : Nat) : Nat :=
  s.fld DSP_H1 15 0 d + s.fld DSP_H1 31 16 d + s.fld DSP_H2 15 0 d + s.fld DSP_H2 31 16 d
/-- VTOTAL. -/
def State.vTotal (s : State) (d : Nat) : Nat :=
  s.fld DSP_V1 15 0 d + s.fld DSP_V1 31 16 d + s.fld DSP_V2 15 0 d + s.fld DSP_V2 31 16 d
/-- Pixel clocks of a frame. -/
def State.framePixels (s : State) (d : Nat) : Nat := s.hTotal d * s.vTotal d

/-- f_pix in hertz, rounded down. -/
def State.fPix (s : State) (d : Nat) : Nat := s.framePixels d * 10 ^ 9 / s.period

/-- P, N and K for the pixel clock of a display at an offset of `y` ppb (R497, R500). -/
def State.vpllSetting (s : State) (d : Nat) (y : Int) : Nat × Nat × Nat :=
  let px := s.framePixels d
  let p := min 511 (8 * s.period / px)
  let num := p * px * 40 * ((10 ^ 9 + y).toNat)
  let den := s.period * 10 ^ 9
  let u := (num * 2 ^ 24 * 2 + den) / (2 * den)
  (p, u / 2 ^ 24, u % 2 ^ 24)

/-- VPLL channel `d` is tuned to the nominal pixel clock (R497). -/
def State.tuneVpll (s : State) (d : Nat) : State :=
  let (p, n, k) := s.vpllSetting d 0
  s.startTune (2 + d) n k p

/-- GAIN of a channel: 1 to 16 (Table 16.5). -/
def State.steerGain (s : State) (d : Nat) : Nat := clamp 1 16 (s.fld CLK_STEER 4 0 d)
/-- LIMIT_PPM of a channel: 1 to 1000 (Table 16.5). -/
def State.steerLimit (s : State) (d : Nat) : Nat := clamp 1 1000 (s.fld CLK_STEER 25 16 d)

/-- The offset before limiting (R500): the change is rounded toward zero. -/
def steerRaw (y e : Int) (gain px : Nat) : Int := y - (e * 10 ^ 9 * gain).tdiv (16 * px)

/-! Clock outputs (R502, R503). -/

/-- Frequency range of a format in kHz (Table 16.3). -/
def formatRange (f : Nat) : Nat × Nat :=
  match f with
  | 0 => (1000, 133000)
  | 1 => (1000, 100000)
  | 2 => (10000, 312500)
  | _ => (25000, 200000)

/-- The frequency of an output as kHz numerator and denominator; `none` for a reserved source or a divider
out of range (Table 16.4). -/
def outFreq (src d df : Nat) : Option (Nat × Nat) :=
  match src with
  | 0 => if 1 ≤ d then some (25000, d) else none
  | 1 => if 4 ≤ d then some (6000000, d) else none
  | 2 => if 4 ≤ d then some (6000000 * 2 ^ 24, d * 2 ^ 24 + df) else none
  | _ => none

/-- An output setting lies in its format's range; a range limit is accepted (R503). -/
def outInRange (v df : Nat) : Bool :=
  match outFreq (bits v 4 3) (bits v 27 16) df with
  | none => false
  | some (num, den) =>
    let r := formatRange (bits v 2 1)
    decide (r.1 * den ≤ num) && decide (num ≤ r.2 * den)

/-- An output runs: EN is set with a source that is not reserved, and its source runs (R503, R504). -/
def State.outRuns (s : State) (n : Nat) : Bool :=
  let v := s.rd CLK_OUT n
  bitAt v 0 && decide (bits v 4 3 ≠ 3) &&
    (match s.power.mode with
     | .off => false
     | .deepStandby => false
     | .retain => false
     | .idle => true
     | .run => true
     | .safe => true) &&
    (if bits v 4 3 = 0 then !s.clock.refFailed else s.locked s.clk.active && !s.clock.refFailed)

end Sys2Proof.Machine
end

