-- ==== Sys2Proof/Machine/Jobs.lean ====
section
/-! DEFINITION. Completions and the job table: how a job ends, and how its entry is written, moderated, held
or dropped (R104, R116, R122 to R126, R130, R133). -/

namespace Sys2Proof.Machine

/-- What became of a completion. -/
inductive Posted where
  | posted
  | full
  | dropped
deriving DecidableEq, Repr

/-- The completion of an encode frame stands at producer index `pi`: its bitstream record is freed once the
host has passed it (R256). The other actions of ENCODE complete with RESULT 0 and have no record. -/
def State.noteRecord (s : State) (c : Cpl) (pi : Nat) : State :=
  if c.opcode = 0x11 ∧ c.status = 0 ∧ 0 < c.result then
    let x := tget Channel.free s.chans c.channel
    match x.enc with
    | none => s
    | some e =>
      match e.bsRecords.findIdx? (fun r => r.tag == c.tag && r.pi.isNone) with
      | none => s
      | some k =>
        let e := { e with bsRecords := lmod e.bsRecords k (fun r => { r with pi := some pi }) }
        { s with chans := tput .free s.chans c.channel { x with enc := some e } }
  else s

/-- A completion entry is written to slot PI, PI advances, and the vector may be signalled
(R104, R105, R130). -/
def State.writeCpl (s : State) (n : Nat) (c : Cpl) : State :=
  let q := s.cq n
  let (s, p) := s.putEntry (s.cqAt n) q.pi (c.bytes 0 s.tick32)
  let s := s.bump64 HIF_CPL_POST_COUNT
  let s := (s.decBound (.completion n)).noteRecord c q.pi
  let u := q.unsignalled + 1
  let fire := s.flag HIF_CQ_CFG 12 n && (c.irqNow || decide (s.fld HIF_CQ_MOD 7 0 n ≤ u))
  let s := s.setCq n { q with pi := (q.pi + 1) % 65536, recent := p :: q.recent,
                              sinceNs := if q.unsignalled = 0 then s.ktime else q.sinceNs,
                              unsignalled := if fire then 0 else u }
  if fire then s.signal n else s

/-- A completion is posted, or finds its ring full, or is dropped because it cannot be written
(R104, R116, R402). `rsv`: it uses a slot reserved for it (R247). -/
def State.postCpl (s : State) (n : Nat) (c : Cpl) (rsv : Bool := false) : State × Posted :=
  if s.guard.safe then (s, .dropped)
  else if !s.canDma then (s.bump HIF_CPL_LOST_COUNT, .dropped)
  else
    let s := if rsv then s.setCq n { s.cq n with reserved := (s.cq n).reserved - 1 } else s
    if s.cqRoom n = 0 then (s, .full) else (s.writeCpl n c, .posted)

/-! Jobs (R133). -/

/-- A job by number, in the job table or live. -/
def State.job? (s : State) (id : Nat) : Option Job := (s.hif.jobs ++ s.hif.live).find? (fun j => j.id == id)

/-- Change a job. -/
def State.modJob (s : State) (id : Nat) (f : Job → Job) : State :=
  let g := fun j : Job => if j.id = id then f j else j
  { s with hif := { s.hif with jobs := s.hif.jobs.map g, live := s.hif.live.map g } }

/-- A job leaves: its job-table entry or live slot is free, and so are the cells of its frame. -/
def State.dropJob (s : State) (id : Nat) : State :=
  let s := s.returnCells (((s.job? id).map (·.cells)).getD [])
  let p := fun j : Job => !(j.id == id)
  { s with hif := { s.hif with jobs := s.hif.jobs.filter p, live := s.hif.live.filter p } }

/-- Counts of completions by status (Tables 2.9, 3.18, 6.13). -/
def State.countCpl (s : State) (status : Nat) : State :=
  match status with
  | 0x01 => s.bump DEC_CONCEAL_COUNT
  | 0x20 => s.bump TCK_REFUSE_COUNT
  | 0x23 => s.bump HIF_INVALID_COUNT
  | 0x30 => s.bump TCK_DROP_COUNT
  | _ => s

/-- How a job ends. -/
structure End where
  status : Nat
  reason : Nat := 0
  detail : Nat := 0
  result : Nat := 0
  fault : Nat := 0
deriving DecidableEq, Repr

/-- The completion of a job (Table 3.8, R79, R534). -/
def Job.cpl (j : Job) (e : End) : Cpl :=
  { tag := j.desc.tag, status := e.status, reason := e.reason, deferred := min 255 j.deferred,
    estimated := j.estimated, ordered := j.flow.isSome, opcode := j.desc.opcode,
    channel := j.desc.channel, sq := j.sq, energy := min (2 ^ 32 - 1) ((j.energyNj + 500) / 1000), fault := e.fault,
    detail := e.detail % 2 ^ 16, result := e.result % 2 ^ 32, irqNow := bitAt j.desc.flags 2 }

/-- The completion of a job goes out: at once, when its ring has room, or at an edge, when it is ordered
(R104, R124, R133). A live decode's completion that finds its ring full is dropped (R222); a live encode's
slot was reserved (R247). -/
def State.postJob (s : State) (j : Job) (c : Cpl) : State :=
  if j.flow.isSome then s.modJob j.id (fun j => { j with phase := .done c })
  else
    match s.postCpl j.cq c j.reserved with
    | (s, .posted) => s.dropJob j.id
    | (s, .dropped) => s.dropJob j.id
    | (s, .full) =>
      match j.origin with
      | .liveDecode => (s.bump DEC_LIVE_CPL_LOST_COUNT).dropJob j.id
      | .host => s.modJob j.id (fun j => { j with phase := .done c })
      | .liveEncode => s.modJob j.id (fun j => { j with phase := .done c })

/-- A core phase or the input sense is distrusted (R536, PWR_ENERGY_STATUS.EST). -/
def State.distrusted (s : State) : Bool := s.pwr.senseLost || s.pwr.phases.any (·.distrust)

/-- The job is being executed: admitted to the engines, or taken up by the firmware. -/
def Job.underWay (j : Job) : Bool := decide (j.phase = .admitted) || decide (j.phase = .executing)

/-- Energy figures of a job that ends now are estimates (R42, R536): some of its execution overlaps a time in which a
sense is distrusted. A job that ends with a refusal or a drop before it was taken up was not executed. -/
def State.estimatedNow (s : State) (j : Job) (status : Nat) : Bool :=
  j.estimated || (s.distrusted && (j.underWay || decide (status < 0x20)))

/-- An engine without a segment. -/
def SynEngine.idle (e : SynEngine) : SynEngine := { e with job := none, waiting := false, saved := [] }

/-- A job's segments leave the syntax engines; suspended ones are given up. -/
def State.leaveEngines (s : State) (id : Nat) : State :=
  { s with engines := s.engines.map (fun x =>
      let x := { x with saved := x.saved.filter (fun c => !(c.job == id)) }
      if x.job = some id then { x with job := none, waiting := false } else x) }

/-- Segments of a job that have ended on the engines while it was at work: those taken up that no engine holds
(Table 12.6). -/
def State.countSegments (s : State) (id : Nat) : State :=
  match s.job? id with
  | none => s
  | some j =>
    let held := (s.engines.map (fun x => b2n (x.job == some id) + (x.saved.filter (fun c => c.job == id)).length)).sum
    if decide (j.phase = .admitted) && !j.cut then s.bump64 MCS_SEGMENT_COUNT 0 (j.segsTaken - held) else s

/-- The cells of a job's frame when it ends: free, but the cells of discarded work wait for the reclaim of their
tag (R347, Table 10.6). -/
def State.freeJobCells (s : State) (id status : Nat) : State :=
  let hs := ((s.job? id).map (·.cells)).getD []
  let s := if status = 0x40 ∨ status = 0x41 then s else s.returnCells hs
  s.modJob id (fun j => { j with cells := [] })

/-- A job ends with its one completion (R48, R133); an engine job leaves the engines and decrements the counters bound to
it (R354). -/
def State.endJob (s : State) (id : Nat) (e : End) : State :=
  match s.job? id with
  | none => s
  | some j =>
    let j := { j with estimated := s.estimatedNow j e.status, cells := [] }
    let s := s.freeJobCells id e.status
    match j.phase with
    | .done _ => s
    | .waiting => (s.countCpl e.status).postJob j (j.cpl e)
    | .executing => (s.countCpl e.status).postJob j (j.cpl e)
    | .admitted => (((s.leaveEngines id).countCpl e.status).decBound (.job id)).postJob j (j.cpl e)

/-- A job ends REFUSED_INVALID. -/
def State.refuse (s : State) (id reason : Nat) : State := s.endJob id { status := 0x23, reason := reason }

/-- A job ends DONE. -/
def State.finish (s : State) (id : Nat) (detail result : Nat := 0) : State :=
  s.endJob id { status := 0, detail := detail, result := result }

/-- One byte of a job's descriptor. -/
def Job.u8 (j : Job) (o : Nat) : Nat := leAt j.desc.bytes o 1
/-- Two bytes of a job's descriptor. -/
def Job.u16 (j : Job) (o : Nat) : Nat := leAt j.desc.bytes o 2
/-- Four bytes of a job's descriptor. -/
def Job.u32 (j : Job) (o : Nat) : Nat := leAt j.desc.bytes o 4
/-- Eight bytes of a job's descriptor. -/
def Job.u64 (j : Job) (o : Nat) : Nat := leAt j.desc.bytes o 8

/-- Completions that waited for room are posted, in fetch order, when a doorbell read shows room (R104). -/
def State.drainDone (s : State) : State :=
  (s.hif.jobs ++ s.hif.live).foldl
    (fun s j =>
      match j.phase with
      | .done c => if j.flow.isSome then s else s.postJob j c
      | _ => s) s

end Sys2Proof.Machine
end

