-- ==== Sys2Proof/Machine/Combs.lean ====
section
/-! DEFINITION. The comb manager: build, allocation, free and reclaim of cells (R330 to R348). -/

namespace Sys2Proof.Machine

/-- The smallest comb whose cells hold `size` bytes; 7 for more than 4 MiB (R341). -/
def combFor (size : Nat) : Nat := ((List.range 8).find? (fun c => decide (size ≤ cellSize c))).getD 7

/-- Allocated cells of a comb. -/
def State.combUsed (s : State) (c : Nat) : Nat :=
  (s.bpm.cells.filter (fun p => handleComb p.1 == c)).length

/-- Free cells of a comb, as the cell map has them (R336). -/
def State.combFreeMap (s : State) (c : Nat) : Nat := lget 0 s.bpm.counts c - s.combUsed c

/-- Cells that an allocation can get: none from a comb whose list or cache is broken until the restart. -/
def State.combFree (s : State) (c : Nat) : Nat := if s.bpm.broken.contains c then 0 else s.combFreeMap c

/-- The `k`-th number from `base` on that a rising list leaves out. -/
def nthFree : List Nat → Nat → Nat → Nat
  | [], base, k => base + k
  | a :: t, base, k => if base + k < a then base + k else nthFree t (a + 1) (k - (a - base))

/-- The free cell that an allocation from comb `c` gets: the head of the list for combs 4 to 7, as far as cells have been
pushed since it was built, and otherwise one that is not specified (R339, R340). -/
def State.pickCell (s : State) (c : Nat) : Nat :=
  match lget [] s.bpm.lists c with
  | h :: _ => h
  | [] =>
    let n := s.combFree c
    let used := (s.bpm.cells.filter (fun p => handleComb p.1 == c)).map (fun p => handleIndex p.1)
    c * 2 ^ 21 + nthFree used 0 (if n = 1 then 0 else Config.free s.fresh % n)

/-- The check word of a listed cell stands as it was written, by a free or, where DRAM lists nothing, by the build
(R339). -/
def State.linkOk (s : State) (h : Nat) : Bool :=
  decide (handleComb h < 4) ||
    (List.range 4).all (fun k =>
      let a := s.cellAddr h + 4 + k
      !thas s.mem.dram a || tget 0 s.mem.dram a == lget 0 (leBytes 4 (linkCheck h)) k)

/-- A cell of comb `c` is allocated to `tag`. -/
def State.takeCell (s : State) (c tag : Nat) : State × Nat :=
  let n := s.combFree c
  let h := s.pickCell c
  let b := s.bpm
  let b := { b with
    cells := tset b.cells h tag,
    lists := lmod b.lists c List.tail,
    low := lmod b.low c (fun l => min l (n - 1)),
    cache := lmod b.cache c (fun x => if x = 0 then min 15 (n - 1) else x - 1) }
  (({ s with bpm := b, fresh := s.fresh + 1 }).bump BPM_COMB_ALLOC_COUNT c, h)

/-- An allocation with comb `c` requested fails. -/
def State.allocFails (s : State) (c : Nat) : State :=
  let s := s.bump BPM_COMB_FAIL_COUNT c
  { s with bpm := { s.bpm with fails := lmod s.bpm.fails c (· + 1) } }

/-- An allocation of at least `size` bytes (R341 to R343): the cell's handle, or none. A pop that finds a wrong check word
fails, and the comb counts as empty until the restart ("When it fails" of allocation). -/
def State.allocCell (s : State) (size tag : Nat) (fallback : Bool) : State × Option Nat :=
  let c := combFor size
  if 2 ^ 22 < size then (s.allocFails c, none)
  else
    match ((List.range 8).filter (fun k => decide (c ≤ k) && (k == c || fallback))).find?
        (fun k => decide (0 < s.combFree k)) with
    | none => (s.allocFails c, none)
    | some k =>
      if s.linkOk (s.pickCell k) then
        let (s, h) := s.takeCell k tag
        (if k = c then s else s.bump BPM_COMB_FALLBACK_COUNT c, some h)
      else
        let s := s.allocFails c
        ({ s with bpm := { s.bpm with broken := ladd s.bpm.broken k, mismatch := some k } }, none)

/-- Several cells, all or none: cells already taken are returned, and the requested comb of the failure is
answered (R343, Table 10.2). -/
def State.allocMany (s : State) (tag : Nat) (fallback : Bool) : List Nat → List Nat → State × Except Nat (List Nat)
  | [], got => (s, .ok got)
  | z :: t, got =>
    match s.allocCell z tag fallback with
    | (s, some h) => State.allocMany s tag fallback t (got ++ [h])
    | (s, none) => (got.foldl (fun s h => s.returnCell h) s, .error (combFor z))

/-- The cells of a buffer: a chain of 4 MiB cells and one for the rest (R341). -/
def chainOf (bytes : Nat) : List Nat :=
  List.replicate (bytes / 2 ^ 22) (2 ^ 22) ++ (if bytes % 2 ^ 22 = 0 then [] else [bytes % 2 ^ 22])

/-- The channel that an owner tag names (R344, Table 10.5). -/
def tagChannel (tag : Nat) : Nat := if tag < 0x40 then tag % 0x20 else 0xFF

/-- A free is rejected: neither the map nor the free store changes (R344). -/
def State.rejectFree (s : State) (h tag code : Nat) (d : RegDef) : State :=
  let s := s.bump d
  let s := s.wr BPM_LAST_ERR 0 0 (h % 2 ^ 24 + tag % 256 * 2 ^ 24)
  s.raiseI code { addr := h % 2 ^ 24 + tag % 256 * 2 ^ 24, channel := tagChannel tag }

/-- A free with the checks of R344, after that of R348. -/
def State.freeCell (s : State) (h tag : Nat) : State :=
  if s.bpm.recent.contains tag then s.bump BPM_RECLAIM_RACE_COUNT
  else if h ≥ 2 ^ 24 - 1 ∨ handleIndex h ≥ lget 0 s.bpm.counts (handleComb h) then
    s.rejectFree h tag 0x0E05 BPM_FREE_REJECT_COUNT
  else if thas s.bpm.cells h = false then s.rejectFree h tag 0x0E03 BPM_DOUBLE_FREE_COUNT
  else if tget 0xFF s.bpm.cells h = tag ∧ tag ≠ 0xFF then s.returnCell h
  else s.rejectFree h tag 0x0E04 BPM_FREE_REJECT_COUNT

/-- What a channel still held of its transient cells is gone with them. -/
def Channel.withoutCells (c : Channel) : Channel :=
  { c with pic := c.pic.map (fun p => { p with cells := [] })
           nextPic := c.nextPic.map (fun p => (p.1, { p.2 with cells := [] })) }

/-- The frames of a channel whose transient tag is reclaimed hold no cells any more. -/
def State.forgetCells (s : State) (tag : Nat) : State :=
  let f := fun (p : Nat × Channel) => if p.1 + 0x20 = tag then (p.1, p.2.withoutCells) else p
  { s with chans := s.chans.map f }

/-- A reclaim of a tag frees every cell that carries it and empties the thread slots with it
(R347, R365). -/
def State.reclaimTag (s : State) (tag : Nat) : State :=
  let hs := s.bpm.cells.filter (fun p => p.2 == tag && tag != 0xFF)
  let s := hs.foldl (fun s p => (s.returnCell p.1).bump BPM_RECLAIM_COUNT) s
  let s := { s with bpm := { s.bpm with recent := ladd s.bpm.recent tag } }
  (s.forgetCells tag).emptyTag tag

/-- Tags that the next edge reclaims (Table 10.6). -/
def State.dueTags (s : State) (tags : List Nat) : State :=
  { s with bpm := { s.bpm with due := tags.foldl ladd s.bpm.due } }

/-- Step 4 of R63: the tags due are reclaimed. -/
def State.reclaimDue (s : State) : State :=
  s.bpm.due.foldl (fun s t => s.reclaimTag t) { s with bpm := { s.bpm with due := [], recent := [] } }

/-- KiB of the comb area for given COUNTs: the arrays, and the rings of combs 0 to 3 in 4 KiB steps
(R331). -/
def areaBytes (counts : List Nat) : Nat :=
  ((List.range 8).map (fun c => lget 0 counts c * cellSize c)).sum +
  ((List.range 4).map (fun c => ceilDiv (lget 0 counts c * 4) 4096 * 4096)).sum

/-- The COUNT settings. -/
def State.combCounts (s : State) : List Nat := (List.range 8).map (fun c => s.fld BPM_COMB_CFG 18 0 c)

/-- DRAM that inline ECC leaves (R316, R320). -/
def State.usableMib (s : State) : Nat :=
  let full := s.sys.dramGib * 1024
  if s.flag DRC_CTL 0 then full / 8 * 7 else full

/-- The first check of R333 that fails: BUILD_ERR. -/
def State.buildErr (s : State) : Nat :=
  let base := s.rd64 BPM_BASE_LO BPM_BASE_HI
  let counts := s.combCounts
  if base % 2 ^ 22 ≠ 0 ∨ base < 0x04000000 then 1
  else if 262144 < counts.sum then 2
  else if s.usableMib * 2 ^ 20 < base + areaBytes counts then 3
  else 0

/-- A write of 1 to BUILD (R333): ignored while a build runs; a failing check builds nothing and leaves the
combs empty. -/
def State.startBuild (s : State) : State :=
  match s.bpm.building with
  | some _ => s
  | none =>
    let e := s.buildErr
    let b := { s.bpm with cells := [], counts := List.replicate 8 0, built := false, buildErr := e,
                          cache := [0, 0, 0, 0], broken := [], mismatch := none, lists := List.replicate 8 [], lost := 0, recent := [], due := [] }
    let build := if e = 0 then some (s.combCounts, s.rd64 BPM_BASE_LO BPM_BASE_HI) else none
    { s with bpm := { b with building := build } }

/-- The free stores are filled from the cell map: the order of each is not specified, and every free cell of combs 4 to 7
holds its link words (R333, R339, "When it fails" of allocation). -/
def State.fillStores (s : State) : State :=
  let isLink := fun (a : Nat) => (List.range 8).any (fun c =>
    let o := a - s.combBase c
    decide (4 ≤ c) && decide (s.combBase c ≤ a) && decide (o / cellSize c < lget 0 s.bpm.counts c) &&
      decide (o % cellSize c < 8) && !thas s.bpm.cells (c * 2 ^ 21 + o / cellSize c))
  let dram := s.mem.dram.filter (fun p => !isLink p.1)
  let s := { s with bpm := { s.bpm with broken := [], mismatch := none, lists := List.replicate 8 [] },
                    mem := { s.mem with dram := dram } }
  { s with bpm := { s.bpm with cache := (List.range 4).map (fun c => min 16 (s.combFreeMap c)) } }

/-- The build ends: every cell is free with tag 0xFF and the free stores are filled (R333). -/
def State.endBuild (s : State) : State :=
  match s.bpm.building with
  | none => s
  | some (counts, base) =>
    ({ s with bpm := { s.bpm with building := none, counts := counts, base := base, built := true,
                                  cells := [], low := counts, prevLow := counts } }).fillStores

end Sys2Proof.Machine
end

