-- ==== Sys2Proof/Machine/Queues.lean ====
section
/-! DEFINITION. The egress queues: their settings, their credit, and the packets of a discarded frame (R201, R202, R204,
R259). Credits are held in billionths of a byte. -/

namespace Sys2Proof.Machine

/-- An egress queue. -/
def State.queue (s : State) (q : Nat) : Queue := tget .reset s.queues q
/-- Change a queue. -/
def State.setQueue (s : State) (q : Nat) (x : Queue) : State := { s with queues := tput .reset s.queues q x }
/-- RATE_KBPS of a queue: 1 to 2 500 000 (Table 5.4). -/
def State.qRate (s : State) (q : Nat) : Nat := clamp 1 2500000 (s.fld TRF_Q_RATE 21 0 q)
/-- BURST of a queue in bytes (Table 5.4). -/
def State.qBurst (s : State) (q : Nat) : Nat := max 1538 (s.fld TRF_Q_BURST 23 0 q)
/-- The MAC port of a queue (R201). -/
def State.qPort (s : State) (q : Nat) : Nat := s.fld TRF_Q_CFG 1 1 q
/-- A queue is enabled. -/
def State.qOn (s : State) (q : Nat) : Bool := s.flag TRF_Q_CFG 0 q
/-- TRF_Q_TICKCR_q: the tick credit in bytes (R204). -/
def State.tickCredit (s : State) (q : Nat) : Nat := s.qRate q * 125 * s.tick.periodNs / 10 ^ 9

/-- The credit of a queue now (R202). -/
def State.creditNow (s : State) (q : Nat) : Int :=
  let x := s.queue q
  let gain : Int := s.qRate q * 125 * (s.ktime - x.creditNs)
  if x.frames.isEmpty then (if x.credit < 0 then min 0 (x.credit + gain) else 0)
  else max x.credit (min (s.qBurst q * 10 ^ 9 : Nat) (x.credit + gain))

/-- The credit of a queue is brought up to now. -/
def State.touchQueue (s : State) (q : Nat) : State :=
  s.setQueue q { s.queue q with credit := s.creditNow q, creditNs := s.ktime }

/-- The frame is a packet of the frame that a job coded. -/
def TxFrame.codedBy (f : TxFrame) (job : Nat) : Bool :=
  match f.owner with
  | .netTx _ => false
  | .encode _ j => j == job
  | .ptp _ => false

/-- The packets of a discarded frame that wait in a queue are not sent (R259). -/
def State.dropPackets (s : State) (job : Nat) : State :=
  ((s.queues.filter (fun p => p.2.frames.any (fun f => f.codedBy job))).map (·.1)).foldl (fun s q =>
    let s := s.touchQueue q
    let x := s.queue q
    let rest := x.frames.filter (fun f => !f.codedBy job)
    s.setQueue q { x with frames := rest, credit := if rest.isEmpty then min 0 x.credit else x.credit }) s

end Sys2Proof.Machine
end

