-- ==== Sys2Proof/Machine/Channels.lean ====
section
/-! DEFINITION. Channels and partners: the tables, discards, arrivals and departures, refresh requests and the live
decode slots (R146, R161, R172 to R176, R182, R222, R242, R259, R398). -/

namespace Sys2Proof.Machine

/-! Channels. -/

/-- A channel. -/
def State.chan (s : State) (n : Nat) : Channel := tget .free s.chans n
/-- Change a channel. -/
def State.setChan (s : State) (n : Nat) (c : Channel) : State := { s with chans := tput .free s.chans n c }
/-- Change a channel in place. -/
def State.modChan (s : State) (n : Nat) (f : Channel → Channel) : State := s.setChan n (f (s.chan n))
/-- The channel exists. -/
def State.chanExists (s : State) (n : Nat) : Bool := decide (n < 32) && (s.chan n).state != 0
/-- SYS_CHAN_n.STATE (Table 4.1). -/
def Channel.shown (c : Channel) : Nat :=
  if c.state = 0 then 0 else if c.closing ≠ [] then 5 else if c.state = 3 then 3
  else if c.exporting.isSome then 4 else if c.pause.isSome then 2 else 1
/-- Channel kinds (Table 4.2). -/
def kindRaw : Nat := 0
def kindCoded : Nat := 1
def kindHost : Nat := 2
def kindEncode : Nat := 3

/-- Frame buffers that hold pictures: the decoded ones and the picture held for scan-out (R229, Table 6.12). -/
def Channel.dpbUsed (c : Channel) : Nat :=
  min 31 (c.dpb.length + (match c.pic with
    | some p => if c.kind = kindRaw ∨ c.dpb.any (fun q => decide (q.pic = p)) then 0 else 1
    | none => 0))

/-- Sum of the Critical reservations on a kind: 0 syntax, 1 pixel, 2 encode (R39). -/
def State.critSum (s : State) (k : Nat) : Nat :=
  ((s.chans.filter (fun p => p.2.cls == 1)).map (fun p =>
    match k with
    | 0 => p.2.resSyn
    | 1 => p.2.resPix
    | _ => p.2.resEnc)).sum

/-- A job with nothing done yet. -/
def Job.blank (id : Nat) (o : Origin) (sq cq : Nat) (d : Desc) (cls fromTick : Nat) : Job :=
  { id := id, order := id, origin := o, sq := sq, cq := cq, desc := d, phase := .waiting, flow := none, cls := cls,
    deferred := 0, ready := false, fromTick := fromTick, fetchNs := 0, atPoll := 0, au := none, luma := 0,
    captured := 0, captureTick := 0, costSyn := 0, costPix := 0, costEnc := 0, engine := none, hits := [],
    cut := false, cutRow := 0, sizeCut := false, bytes := 0, charged := 0, rowsDone := 0, qpSum := 0, energyNj := 0,
    estimated := false, admittedTick := 0, reserved := false, idr := false,
    cap := 0, cells := [], rows := 0, segs := 0, parsed := 0, segsTaken := 0, source := none, settings := none,
    picType := 0, firstPs := none }

/-- The next sequence number of the ordered flow of a completion ring (R366, R368). -/
def State.takeFlow (s : State) (cq : Nat) : State × Option (Nat × Nat) :=
  match s.cqFlow cq with
  | none => (s, none)
  | some f =>
    let x := tget OFlow.reset s.sch.flows f
    let fl := tput OFlow.reset s.sch.flows f { x with next := (x.next + 1) % 65536 }
    ({ s with sch := { s.sch with flows := fl } }, some (f, x.next))

/-! Discards. -/

/-- A job is discarded by a fault: its one completion is DISCARDED_FAULT with the code; no further packet of its frame is
sent, and the next frame of its encode is an IDR (R231, R259, R396). -/
def State.discardJob (s : State) (fault id : Nat) : State :=
  match s.job? id with
  | none => s
  | some j =>
    match j.phase with
    | .done _ => s
    | _ =>
      let s := ((s.countSegments id).endJob id { status := 0x40, fault := fault }).dropPackets id
      if s.chanExists j.desc.channel then
        s.modChan j.desc.channel (fun c =>
          { c with enc := c.enc.map (fun e => { e with idrNext := true, afterDiscard := true }),
                   discarded := match j.au with
                     | some a => c.discarded ++ [a.poc]
                     | none => c.discarded })
      else s

/-- Jobs and live units of a channel that have not ended, in fetch order. -/
def State.chanWork (s : State) (n : Nat) : List Nat :=
  ((s.hif.jobs ++ s.hif.live).filter (fun j => j.desc.channel == n &&
    (match j.phase with
     | .done _ => false
     | _ => true))).map (·.id)

/-- The access unit that a channel's flow is receiving is given up; its cells wait for the reclaim. -/
def State.dropUnit (s : State) (n : Nat) : State :=
  match (s.chan n).bound with
  | none => s
  | some p =>
    let x := tget Partner.free s.partners p
    let f := x.port % 32
    let y := tget Flow.reset s.flows f
    if x.type = 4 then { s with flows := tput Flow.reset s.flows f { y with unit := none } } else s

/-- Class C on a channel: all its work is discarded at once and it restarts at the next edge; its transient
cells are reclaimed there (R398, Table 10.6). -/
def State.discardChan (s : State) (fault n : Nat) : State :=
  if s.chanExists n then
    let s := (s.chanWork n).foldl (fun s id => s.discardJob fault id) s
    let s := s.modChan n (fun c => { c with restart := true, slot1 := none, slot2 := none,
                                            closing := [], exporting := none,
                                            enc := c.enc.map (fun e => { e with heldFrames := [] }) })
    (s.dropUnit n).dueTags [0x20 + n]
  else s

/-! Partners (R172 to R176). -/

/-- A partner. -/
def State.partner (s : State) (p : Nat) : Partner := tget .free s.partners p
/-- Change a partner. -/
def State.setPartner (s : State) (p : Nat) (x : Partner) : State :=
  { s with partners := tput .free s.partners p x }
/-- Present: tracked and not leaving. -/
def State.isPresent (s : State) (p : Nat) : Bool := (s.partner p).type != 0 && !(s.partner p).leaving
/-- The partner present at a port code. -/
def State.atPort (s : State) (port : Nat) : Option Nat :=
  (s.partners.find? (fun p => p.2.type != 0 && !p.2.leaving && p.2.port == port)).map (·.1)

/-- The 16 DATA bytes of a partner event (Table 4.8). -/
def partnerData (p : Partner) (change chan : Nat) : List Nat :=
  [p.type, p.port, p.gen, p.flags, change, chan] ++ leNats 2 p.width ++ leNats 2 p.height ++
  leNats 2 p.format ++ leNats 4 p.ident

/-- PARTNER_CHANGED (Table 4.8). -/
def State.partnerChanged (s : State) (p change chan : Nat) : State :=
  s.event 0x03 p (partnerData (s.partner p) change chan)

/-- A partner arrives with the lowest free ID; the 25th is not tracked (R172, R174, R176). -/
def State.arrive (s : State) (x : Partner) : State :=
  match (List.range 24).find? (fun p => (s.partner p).type == 0) with
  | none =>
    (s.event 0x01 0xFFFF (partnerData { x with flags := x.flags ||| 4, gen := 0 } 0 0xFF)).bump
      SYS_PARTNER_OVF_COUNT
  | some p =>
    let g := (tget 0 s.gens p + 1) % 256
    let x := { x with gen := g, arriveTick := s.tick32, leaving := false }
    let s := { s with gens := tput 0 s.gens p g }
    (s.setPartner p x).event 0x01 p (partnerData x 0 0xFF)

/-- A header set becomes the active one (R215). -/
def Channel.activate (c : Channel) (h : Header) : Channel :=
  { c with decState := 1, depth := h.depth, chroma := h.chroma, params := some h, unsup := 0, refused := none,
           profile := if c.codec = 1 then 0 else h.profile, level := if c.codec = 1 then 0 else h.level,
           picWidth := h.width, picHeight := h.height }

/-- A channel no longer takes a partner's frames; it binds again at a decodable frame, which an ENCODE channel codes as
IDR (R164, R223). -/
def Channel.unbound (c : Channel) : Channel :=
  { c with bound := none, waitIrap := c.waitIrap || c.kind == kindCoded,
           enc := c.enc.map (fun e => { e with idrNext := true }) }

/-- The partner leaves: PARTNER_LEFT is due, its ID is free at the edge that posts it, and channels that took
its frames wait; a refusal of its frames is forgotten with it (R163, R165, R172, R182). -/
def State.depart (s : State) (p : Nat) : State :=
  if s.isPresent p then
    let x := s.partner p
    let s := (s.event 0x02 p (partnerData x 0 0xFF)).setPartner p { x with leaving := true }
    let off := fun c : Channel =>
      let c := { c with rejected := c.rejected.filter (fun q => decide (q ≠ p)) }
      if c.bound = some p then c.unbound else c
    { s with chans := s.chans.map (fun q => (q.1, off q.2)) }
  else s

/-- Every partner at a port of a type leaves, in ascending port code (R179). -/
def State.departAll (s : State) (ports : List Nat) : State :=
  ports.foldl (fun s q =>
    match s.atPort q with
    | some p => s.depart p
    | none => s) s

/-- PARTNER_LEFT of a partner is due or held, not posted yet. -/
def State.leftOwed (s : State) (p : Nat) : Bool :=
  (s.hif.evDue ++ s.hif.evHeld).any (fun e => e.code == 0x02 && e.source == p)

/-- IDs of partners that left become free at the edge that posts PARTNER_LEFT (R172). -/
def State.freePartners (s : State) : State :=
  { s with partners := s.partners.filter (fun p => !(p.2.leaving && !s.leftOwed p.1)) }

/-- The binding of a channel names the partner: by its port, or by an identity that is equal and valid and of the same
type, or, where the partner named had no valid identity, by the partner itself (R163, R164). -/
def bindingNames (c : Channel) (p : Nat) (x : Partner) : Bool :=
  (c.bindMode == 2 && c.bindRef == x.port) ||
  (c.bindMode == 1 &&
    (match c.bindIdent with
     | some i => bitAt x.flags 0 && decide (i = (x.type, x.ident))
     | none => c.bindRef == p && c.bindGen == x.gen))

/-- Format and codec of a partner suit a channel (R165, Table 4.2). -/
def formatSuits (c : Channel) (x : Partner) (codec : Nat) : Bool :=
  if c.kind = 0 ∨ c.kind = 3 then
    codec == 0 && (x.type == 1 || (x.type == 2 && (x.format == 1 || x.format == 2)))
  else if c.kind = 1 then codec != 0 && codec == c.codec && (x.type == 4 || x.type == 2)
  else false

/-- REFRESH_REQUEST of a flow, at most once per REFRESH_HOLD ticks (R196). -/
def State.refreshFlow (s : State) (f lost : Nat) : State :=
  let x := tget Flow.reset s.flows f
  let hold := atLeast1 (s.fld TRF_FLOW_CTL 31 24 f)
  let now := s.tick.number.toNat
  let ok := match x.refreshTick with
    | none => true
    | some t => decide (t + hold ≤ now)
  if ok then
    let s := s.event 0x40 f (leNats 4 lost)
    { s with flows := tput Flow.reset s.flows f { x with refreshTick := some now } }
  else s

/-- The RTP flow whose frames a channel takes or waits for: that of its partner, or the one that its binding names
(R161, R166). -/
def State.chanFlow (s : State) (n : Nat) : Option Nat :=
  let c := s.chan n
  let flowOf := fun (x : Partner) => if x.type = 4 then some (x.port % 32) else none
  match c.bound with
  | some p => flowOf (s.partner p)
  | none =>
    if c.bindMode = 2 then (if c.bindRef / 32 = 2 then some (c.bindRef % 32) else none)
    else
      match s.partners.find? (fun p => p.2.type != 0 && !p.2.leaving && bindingNames c p.1 p.2) with
      | some p => flowOf p.2
      | none => none

/-- REFRESH_REQUEST for a channel: from its flow, or under DEC_CTL.REFRESH_HOLD (R161, R242). -/
def State.refresh (s : State) (n lost : Nat) : State :=
  let c := s.chan n
  match s.chanFlow n with
  | some f => s.refreshFlow f lost
  | none =>
    let hold := atLeast1 (s.fld DEC_CTL 15 8)
    let now := s.tick.number.toNat
    let ok := match c.refreshTick with
      | none => true
      | some t => decide (t + hold ≤ now)
    if ok then (s.event 0x40 (0x100 + n) (leNats 4 lost)).setChan n { c with refreshTick := some now }
    else s

/-! Live decode slots (R222). -/

/-- A live unit of a slot that has not ended. -/
def State.liveOpen (s : State) (id : Option Nat) : Bool :=
  match id with
  | none => false
  | some i => s.hif.live.any (fun j => j.id == i &&
      (match j.phase with
       | .done _ => false
       | _ => true))

/-- Slots of ended units are empty, and the unit of the second slot moves to the first. -/
def State.tidySlots (s : State) (n : Nat) : State :=
  let c := s.chan n
  let a := if s.liveOpen c.slot1 then c.slot1 else none
  let b := if s.liveOpen c.slot2 then c.slot2 else none
  if c.state = 0 then s
  else match a with
    | some _ => s.setChan n { c with slot1 := a, slot2 := b }
    | none => s.setChan n { c with slot1 := b, slot2 := none }

/-- The descriptor that a live decode's or encode's completion carries (R221, R258). -/
def liveDesc (opcode chan cq tag : Nat) : Desc :=
  { opcode := opcode, flags := 0, channel := chan, cq := cq, tag := tag, bytes := [] }

/-- A live job enters; an ordered ring gives it its place now (R368). -/
def State.addLive (s : State) (j : Job) : State :=
  let (s, f) := s.takeFlow j.cq
  { s with hif := { s.hif with live := s.hif.live ++ [{ j with flow := f }], nextJob := s.hif.nextJob + 1 } }

/-- A complete access unit takes a live decode slot: the first, the second, or the second by displacing a
unit that was neither admitted nor deferred (R222). -/
def State.offerUnit (s : State) (n : Nat) (au : Au) (cells : List Nat) : State :=
  let s := s.tidySlots n
  let c := s.chan n
  let id := s.hif.nextJob
  let j := { Job.blank id .liveDecode 0xFF c.cq
               (liveDesc 0x10 n c.cq (s.tick32 + 2 ^ 32 * (c.auSeq % 2 ^ 32))) c.cls
               (s.tick.number.toNat + 1) with
             fetchNs := s.ktime, au := some au, ready := true, captureTick := s.tick.number.toNat, cells := cells }
  let s := s.modChan n (fun c => { c with auSeq := c.auSeq + 1 })
  match c.slot1, c.slot2 with
  | none, _ => (s.addLive j).modChan n (fun c => { c with slot1 := some id })
  | some _, none => (s.addLive j).modChan n (fun c => { c with slot2 := some id })
  | some _, some b =>
    match s.job? b with
    | some old =>
      if old.phase = .waiting ∧ old.deferred = 0 then
        let s := s.endJob b { status := 0x30, reason := 0x20 }
        (s.addLive j).modChan n (fun c => { c with slot2 := some id })
      else (s.addLive j).endJob id { status := 0x30, reason := 0x20 }
    | none => (s.addLive j).modChan n (fun c => { c with slot2 := some id })

end Sys2Proof.Machine
end

