-- ==== Sys2Proof/Machine/Export.lean ====
section
/-! DEFINITION. The export image of a channel, and the export point at which it is written (R166 to R168, R171, R268). What
follows the header of an image is laid out by the model (notes/assumptions/37.md): the fields of Table 4.4 at 16, the
binding's identity at 44, the parameter block of an encode at 64, its coding state at 192, the active header set at 256,
the numbers of window entries and layers at 288, and then these. -/

namespace Sys2Proof.Machine

/-- The parameter block of an encode (Table 7.4). -/
def Encoder.block (e : Encoder) : List Byte :=
  leBytes 1 e.source ++ leBytes 1 e.profile ++ leBytes 1 e.level ++ leBytes 1 e.rcMode ++ leBytes 4 e.bitrate ++
  leBytes 4 e.maxKbps ++ leBytes 2 e.window ++ leBytes 1 e.qpI ++ leBytes 1 e.qpP ++ leBytes 1 e.qpB ++
  leBytes 1 e.qpMin ++ leBytes 1 e.qpMax ++ leBytes 1 e.numB ++ leBytes 2 e.gopLen ++ leBytes 2 e.irPeriod ++
  leBytes 1 e.frameDiv ++ leBytes 1 e.out ++ leBytes 1 e.queue ++ leBytes 1 e.ctb ++ leBytes 2 e.pktPayload ++
  leBytes 1 e.pt ++ leBytes 1 e.targetPct ++ leBytes 4 e.ssrc ++ leBytes 4 e.dstIp ++ leBytes 2 e.dstPort ++
  leBytes 2 e.srcPort ++ leBytes 6 e.dstMac ++ leBytes 2 0 ++ leBytes 4 e.maxFrame ++ leBytes 8 e.bsBase ++
  leBytes 4 e.bsSize ++ leBytes 60 0

/-- The rate-control and GOP state of an encode in an image: 64 bytes. -/
def Encoder.stateBytes (e : Encoder) : List Byte :=
  padTo 64 (leBytes 1 e.meRange ++ leBytes 1 e.cq ++ leBytes 2 e.lastQp ++ leBytes 4 e.seq ++ leBytes 4 e.gopPos ++
    leBytes 4 e.irPos ++ leBytes 4 (lget 0 e.prevBits 0) ++ leBytes 4 (lget 0 e.prevBits 1) ++
    leBytes 4 (lget 0 e.prevBits 2) ++ leBytes 4 e.lastBytes ++ leBytes 8 e.buffer ++ leBytes 4 e.poc ++
    leBytes 2 e.rtpSeq ++ leBytes 1 e.divCount ++ leBytes 1 (b2n e.afterDiscard))

/-- The peak window of an encode in an image: the age in ticks and the bytes of each entry. -/
def Encoder.windowList (e : Encoder) (now : Nat) : List Byte :=
  e.history.flatMap (fun x => leBytes 4 (now - x.1) ++ leBytes 4 x.2)

/-- The fields of Table 4.4 of a channel: 28 bytes. -/
def Channel.fields (c : Channel) : List Byte :=
  leBytes 1 c.kind ++ leBytes 1 c.cls ++ leBytes 1 c.rank ++ leBytes 1 c.maxDefer ++ leBytes 1 c.codec ++
  leBytes 1 c.decMode ++ leBytes 1 c.bindMode ++ leBytes 1 c.bindRef ++ leBytes 1 c.bindGen ++
  leBytes 1 c.synbufMib ++ leBytes 2 c.width ++ leBytes 2 c.height ++ leBytes 1 c.refs ++ leBytes 1 0 ++
  leBytes 4 c.resSyn ++ leBytes 4 c.resPix ++ leBytes 4 c.resEnc

/-- The identity that the binding of a channel holds, in an image: 20 bytes. -/
def Channel.headBytes (c : Channel) : List Byte :=
  let i := c.bindIdent.getD (0, 0)
  padTo 20 (leBytes 1 (b2n c.bindIdent.isSome) ++ leBytes 1 i.1 ++ leBytes 1 (b2n c.enc.isSome) ++ leBytes 1 0 ++ leBytes 4 i.2)

/-- A header set in an image: 32 bytes. -/
def headerBytes (h : Option Header) : List Byte :=
  padTo 32 (match h with
    | none => []
    | some h =>
      [1] ++ leBytes 2 h.width ++ leBytes 2 h.height ++ leBytes 2 h.codedWidth ++ leBytes 2 h.codedHeight ++
        leBytes 1 h.profile ++ leBytes 1 h.level ++ leBytes 1 h.chroma ++ leBytes 1 h.depth ++ leBytes 1 h.dpb ++
        [h.highTier, h.interlaced, h.sliceGroups, h.layered, h.jBaseline, h.jArithmetic, h.jPrec8, h.jSampling,
          h.jDnl].map (fun b => BitVec.ofNat 8 (b2n b)))

/-- The layers that show a channel: their key and bytes. -/
def State.layerBytes (s : State) (n : Nat) : List Byte :=
  (s.cmp.layers.filter (fun l => l.2.srcType == 1 && l.2.srcRef == n)).flatMap (fun l =>
    leBytes 4 l.1 ++ padTo 32 l.2.raw)

/-- What follows the header of an image (R167). -/
def State.imageBody (s : State) (n : Nat) : List Byte :=
  let c := s.chan n
  let window := (c.enc.map (fun e => e.windowList s.tick.number.toNat)).getD []
  let layers := s.layerBytes n
  c.fields ++ c.headBytes ++ ((c.enc.map (·.block)).getD (leBytes 128 0)) ++
    ((c.enc.map (·.stateBytes)).getD (leBytes 64 0)) ++ headerBytes c.params ++ leBytes 4 (window.length / 8) ++
    leBytes 4 (layers.length / 36) ++ window ++ layers

/-- The version of the image format that this model writes (DESIGN CHOICE, notes/assumptions/37.md). -/
def imageVersion : Nat := 1

/-- The export image of a channel (R167): "SQCX", version, length, CRC-32 over the rest. -/
def State.exportImage (s : State) (n : Nat) : List Byte :=
  let body := s.imageBody n
  [0x53, 0x51, 0x43, 0x58] ++ leBytes 4 imageVersion ++ leBytes 4 (16 + body.length) ++ leBytes 4 (crc32 body) ++ body

/-- The GOP boundary has come: the image is written, and the channel runs on or, with PAUSE_AFTER, pauses from the edge
after the export point, whatever pause was set before (R166 to R168; notes/assumptions/184.md). -/
def State.exportNow (s : State) (n : Nat) : State :=
  match (s.chan n).exporting with
  | none => s
  | some (id, _, pause) =>
    match s.job? id with
    | none => s.modChan n (fun c => { c with exporting := none })
    | some j =>
      let image := s.exportImage n
      let s := if s.canDma then s.hostWrite (j.u64 0x10) image else s
      let start := s.tick.number.toNat + 1
      let s := s.modChan n (fun c =>
        { c with exporting := none, pause := if pause then some { job := id, start := start, duration := 0 } else c.pause })
      s.finish id 0 image.length

/-- The job is at a GOP boundary of its channel: the decode of an IRAP picture that has not begun, or the first picture of
a new GOP before any row of it is coded; every JPEG picture is one (R166, R268). -/
def State.opensGop (s : State) (j : Job) : Bool :=
  decide (j.phase = .admitted) &&
    (match j.au with
     | some a => a.irap && j.segsTaken == 0
     | none => (j.idr || (s.chan j.desc.channel).codec == 1) && j.rowsDone == 0)

/-- The channel is at a boundary now: a VIEW_RAW channel always is, the others where the next picture on the engines opens
a GOP (R166). -/
def State.atBoundary (s : State) (n : Nat) : Bool :=
  (s.chan n).kind == kindRaw ||
    (match (s.hif.jobs ++ s.hif.live).find? (fun j => j.desc.channel == n && decide (j.phase = .admitted)) with
     | some j => s.opensGop j
     | none => false)

/-- A channel that runs, and is not CLOSING, exports at a boundary (R146, R166). -/
def State.exportDue (s : State) (n : Nat) : State :=
  if s.chanExists n && decide ((s.chan n).state = 1) && decide ((s.chan n).closing = []) && s.atBoundary n then s.exportNow n
  else s

/-- Just before a picture is decoded or coded, its channel exports if the picture opens a GOP (R166). -/
def State.exportBefore (s : State) (j : Job) : State :=
  if s.opensGop j then s.exportDue j.desc.channel else s

end Sys2Proof.Machine
end

