-- ==== Sys2Proof/Machine/Pixels.lean ====
section
/-! DEFINITION. Arithmetic on pictures: reading samples with clamped positions, filling concealed blocks, native byte
formats, colour conversion, chroma subsampling, scaling, and blending (R218, R235, R238, R239, R244, R278 to R281).
Pictures are values here; nothing in this file is time-dependent. -/

namespace Sys2Proof.Machine

/-! Samples. -/

/-- Width of a chroma plane (Table 6.1 to 6.3). -/
def chromaWidth (chroma w : Nat) : Nat := if chroma = 1 ∨ chroma = 2 then ceilDiv w 2 else w
/-- Height of a chroma plane. -/
def chromaHeight (chroma h : Nat) : Nat := if chroma = 1 then ceilDiv h 2 else h
/-- Width of plane `p`. -/
def Image.planeW (i : Image) (p : Nat) : Nat := if p = 0 then i.width else chromaWidth i.chroma i.width
/-- Height of plane `p`. -/
def Image.planeH (i : Image) (p : Nat) : Nat := if p = 0 then i.height else chromaHeight i.chroma i.height
/-- Number of planes. -/
def planeCount (chroma : Nat) : Nat := if chroma = 0 then 1 else 3

/-- Mid-grey at a depth: 128 at 8 bits, 512 at 10 (Table 6.9). -/
def midGrey (depth : Nat) : Nat := 2 ^ (depth - 1)

/-- A sample of a plane. -/
def Image.at (i : Image) (p x y : Nat) : Nat := lget 0 (lget [] i.planes p) (y * i.planeW p + x)

/-- A coordinate clamped to a side of `n` samples (R235). -/
def clampPos (n : Nat) (v : Int) : Nat := min (n - 1) v.toNat

/-- A sample at a position that is clamped to the picture, as the padding of the coding standard requires (R235). -/
def Image.clamped (i : Image) (p : Nat) (x y : Int) : Nat := i.at p (clampPos (i.planeW p) x) (clampPos (i.planeH p) y)

/-- The samples of a plane, from a function of the position. -/
def planeOf (w h : Nat) (f : Nat → Nat → Nat) : List Nat := (List.range (w * h)).map (fun k => f (k % w) (k / w))

/-- A picture from a function of plane and position. -/
def imageOf (w h chroma depth : Nat) (f : Nat → Nat → Nat → Nat) : Image :=
  { width := w, height := h, chroma := chroma, depth := depth,
    planes := (List.range (planeCount chroma)).map (fun p =>
      planeOf (if p = 0 then w else chromaWidth chroma w) (if p = 0 then h else chromaHeight chroma h) (f p)) }

/-- A mid-grey picture (R239, Table 6.9). -/
def greyImage (w h chroma depth : Nat) : Image := imageOf w h chroma depth (fun _ _ _ => midGrey depth)

/-! Concealment (R238, R239). -/

/-- What concealment knows of a picture. -/
structure Concealment where
  /-- Luma size of a coding block. -/
  blockW : Nat
  blockH : Nat
  /-- The blocks that were not decoded. -/
  lost : List (Nat × Nat)
  /-- Motion of the decoded blocks that have any. -/
  vectors : List (Nat × Nat × Int × Int)
  /-- First picture of reference list 0, or its substitute. -/
  list0 : Option Image
  /-- The channel's last output picture, where method 2 may use it. -/
  last : Option Image

/-- Motion that a decoded block used; a block without any counts as zero. -/
def Concealment.decodedVector (c : Concealment) (row col : Nat) : Int × Int :=
  match c.vectors.find? (fun v => v.1 == row && v.2.1 == col) with
  | some v => v.2.2
  | none => (0, 0)

/-- The vector used for a block: of a concealed block, the one used for the block above, zero in the top row
(Table 6.9). -/
def Concealment.vector (c : Concealment) (col : Nat) : Nat → Int × Int
  | 0 => if c.lost.contains (0, col) then (0, 0) else c.decodedVector 0 col
  | row + 1 => if c.lost.contains (row + 1, col) then c.vector col row else c.decodedVector (row + 1) col

/-- The sample that fills position (x, y) of plane `p` of a concealed block: the first method of Table 6.9 that
applies (notes/assumptions/174.md). -/
def Concealment.sample (c : Concealment) (i : Image) (row col p x y : Nat) : Nat :=
  match c.list0 with
  | some r =>
    let v := c.vector col row
    let (dx, dy) := if p = 0 then v
      else (v.1 / (if i.planeW 1 = i.width then 1 else 2 : Int), v.2 / (if i.planeH 1 = i.height then 1 else 2 : Int))
    r.clamped p ((x : Int) + dx) ((y : Int) + dy)
  | none =>
    match c.last with
    | some l => if l.width = i.width ∧ l.height = i.height then l.at p x y else midGrey i.depth
    | none => midGrey i.depth

/-- Position of a plane's sample in luma samples. -/
def Image.lumaPos (i : Image) (p x y : Nat) : Nat × Nat :=
  if p = 0 then (x, y) else (x * i.width / atLeast1 (i.planeW p), y * i.height / atLeast1 (i.planeH p))

/-- A picture with its concealed blocks filled (R238). -/
def Concealment.fill (c : Concealment) (i : Image) : Image :=
  if c.lost.isEmpty then i
  else
    imageOf i.width i.height i.chroma i.depth (fun p x y =>
      let (lx, ly) := i.lumaPos p x y
      let row := ly / atLeast1 c.blockH
      let col := lx / atLeast1 c.blockW
      if c.lost.contains (row, col) then c.sample i row col p x y else i.at p x y)

/-! Native byte formats (R218, Table 7.3; the orders of camera formats: notes/assumptions/181.md). -/

/-- A sample as bytes: one byte at 8 bits; at 10 bits two, the value in the upper bits (P010). -/
def sampleBytes (depth v : Nat) : List Byte :=
  if 8 < depth then leBytes 2 (v * 2 ^ (16 - depth)) else [BitVec.ofNat 8 v]

/-- A row of one plane. -/
def Image.rowBytes (i : Image) (p y : Nat) : List Byte :=
  (List.range (i.planeW p)).flatMap (fun x => sampleBytes i.depth (i.at p x y))

/-- A row of both chroma planes, interleaved. -/
def Image.chromaRow (i : Image) (y : Nat) : List Byte :=
  (List.range (i.planeW 1)).flatMap (fun x => sampleBytes i.depth (i.at 1 x y) ++ sampleBytes i.depth (i.at 2 x y))

/-- The rows of a picture in its native format, luma first: NV12 or P010 for 4:2:0, semi-planar 4:2:2, planar 4:4:4,
luma only for grey (R218). -/
def Image.nativeRows (i : Image) : List (List Byte) :=
  (List.range i.height).map (i.rowBytes 0) ++
    (if i.chroma = 0 then []
     else if i.chroma = 3 then (List.range i.height).map (i.rowBytes 1) ++ (List.range i.height).map (i.rowBytes 2)
     else (List.range (i.planeH 1)).map i.chromaRow)

/-- A byte of a byte string as a sample. -/
def byteSample (b : List Byte) (k : Nat) : Nat := (lget 0 b k).toNat

/-- NV12: luma rows `pitch` bytes apart, then rows of interleaved chroma. -/
def nv12Image (w h pitch : Nat) (b : List Byte) : Image :=
  imageOf w h 1 8 (fun p x y =>
    if p = 0 then byteSample b (y * pitch + x) else byteSample b (pitch * h + y * pitch + 2 * x + (p - 1)))

/-- YUY2, as a USB camera sends it: Y0 U Y1 V. -/
def yuy2Image (w h : Nat) (b : List Byte) : Image :=
  imageOf w h 2 8 (fun p x y =>
    if p = 0 then byteSample b (y * 2 * w + 2 * x) else byteSample b (y * 2 * w + 4 * x + (2 * p - 1)))

/-- UYVY, as CSI-2 sends YUV422 8-bit: U Y0 V Y1. -/
def uyvyImage (w h : Nat) (b : List Byte) : Image :=
  imageOf w h 2 8 (fun p x y =>
    if p = 0 then byteSample b (y * 2 * w + 2 * x + 1) else byteSample b (y * 2 * w + 4 * x + 2 * (p - 1)))

/-- RGB888 as CSI-2 sends it: B, G, R. -/
def rgbImage (w h : Nat) (b : List Byte) : Image :=
  imageOf w h 4 8 (fun p x y => byteSample b ((y * w + x) * 3 + (2 - p)))

/-! Colour (R244, R279). -/

/-- Nearest integer of a fraction with a positive denominator, halves up. -/
def roundDiv (a : Int) (b : Nat) : Int := (2 * a + (b : Int)) / (2 * (b : Int))

/-- An integer limited to 0 to `m`. -/
def clampTo (m : Nat) (v : Int) : Nat := min m v.toNat

/-- Coefficients Kr and Kb in ten-thousandths, and whether the range is full, for a MATRIX code (Table 8.1;
notes/assumptions/172.md). -/
def matrixOf (m : Nat) : Nat × Nat × Bool :=
  let full := 2 ≤ m % 4
  if m % 2 = 0 then (2990, 1140, full) else (2126, 722, full)

/-- One pixel from YCbCr to RGB at a bit depth (R279). -/
def toRgb (matrix depth y cb cr : Nat) : Nat × Nat × Nat :=
  let (kr, kb, full) := matrixOf matrix
  let kg : Nat := 10000 - kr - kb
  let u : Nat := 2 ^ (depth - 8)
  let top : Nat := 2 ^ depth - 1
  let dy : Nat := if full then top else 219 * u
  let dc : Nat := if full then top else 224 * u
  let half : Nat := 2 ^ (depth - 1)
  let foot : Nat := if full then 0 else 16 * u
  let luma : Int := ((y : Int) - (foot : Int)) * (dc : Int)
  let b : Int := 2 * ((cb : Int) - (half : Int)) * (dy : Int)
  let r : Int := 2 * ((cr : Int) - (half : Int)) * (dy : Int)
  let scale : Int := (top : Int)
  let red := roundDiv (scale * (10000 * luma + ((10000 - kr : Nat) : Int) * r)) (dy * dc * 10000)
  let blue := roundDiv (scale * (10000 * luma + ((10000 - kb : Nat) : Int) * b)) (dy * dc * 10000)
  let green := roundDiv (scale * (((kg * 10000 : Nat) : Int) * luma - ((kb * (10000 - kb) : Nat) : Int) * b -
    ((kr * (10000 - kr) : Nat) : Int) * r)) (dy * dc * kg * 10000)
  (clampTo top red, clampTo top green, clampTo top blue)

/-- A component of a deeper source rounded to 8 bits (R279). -/
def toEight (depth v : Nat) : Nat :=
  if depth ≤ 8 then v else min 255 ((v + 2 ^ (depth - 9)) / 2 ^ (depth - 8))

/-- One pixel from RGB888 to YCbCr with BT.709 coefficients at limited range (R244). -/
def toYcc (r g b : Nat) : Nat × Nat × Nat :=
  let y : Int := 2126 * r + 7152 * g + 722 * b
  (clampTo 255 (16 + roundDiv (219 * y) 2550000),
   clampTo 255 (128 + roundDiv (224 * (10000 * (b : Int) - y)) (2 * 9278 * 255)),
   clampTo 255 (128 + roundDiv (224 * (10000 * (r : Int) - y)) (2 * 7874 * 255)))

/-- A picture in RGB888 as YCbCr 4:4:4 (R244). -/
def Image.ycc (i : Image) : Image :=
  imageOf i.width i.height 3 8 (fun p x y =>
    let (a, b, c) := toYcc (i.at 0 x y) (i.at 1 x y) (i.at 2 x y)
    if p = 0 then a else if p = 1 then b else c)

/-- Chroma of a picture at the size of another format: each sample is the mean of the samples it stands for, halves up
(R244; notes/assumptions/149.md). -/
def Image.subsampled (i : Image) (chroma : Nat) : Image :=
  let fx := i.planeW 1 / atLeast1 (chromaWidth chroma i.width)
  let fy := i.planeH 1 / atLeast1 (chromaHeight chroma i.height)
  imageOf i.width i.height chroma i.depth (fun p x y =>
    if p = 0 then i.at 0 x y
    else
      let l := (List.range fy).flatMap (fun b => (List.range fx).map (fun a =>
        i.clamped p ((x * fx + a : Nat) : Int) ((y * fy + b : Nat) : Int)))
      (2 * l.sum + l.length) / (2 * atLeast1 l.length))

/-- What an encoder takes from a source picture: YCbCr in the format that it codes (R244). -/
def Image.forEncode (i : Image) (chroma : Nat) : Image :=
  let i := if i.chroma = 4 then i.ycc else i
  if i.chroma = chroma ∨ i.chroma = 0 then i else i.subsampled chroma

/-! Scaling (R278; notes/assumptions/173.md). -/

/-- Chroma at full size by bilinear interpolation (R278). -/
def Image.fullChroma (i : Image) (p x y : Nat) : Nat :=
  let axis := fun (full part pos a : Nat) =>
    if full = part then ((pos : Int), 0)
    else
      let q : Int := 2 * (pos : Int) - (Config.chromaSite i.chroma a % 4 : Nat)
      (q / 4, (q % 4).toNat)
  let (x0, fx) := axis i.width (i.planeW p) x 0
  let (y0, fy) := axis i.height (i.planeH p) y 1
  let top := (4 - fx) * i.clamped p x0 y0 + fx * i.clamped p (x0 + 1) y0
  let bot := (4 - fx) * i.clamped p x0 (y0 + 1) + fx * i.clamped p (x0 + 1) (y0 + 1)
  ((4 - fy) * top + fy * bot + 8) / 16

/-- A sample at full chroma size. A crop is checked against the size of the channel, so it may reach beyond a smaller
picture: what stands there is a free value (R275; notes/assumptions/155.md). -/
def Image.full (i : Image) (p x y : Nat) : Nat :=
  if i.width ≤ x ∨ i.height ≤ y then Config.freeAt (65536 * y + x) p % 2 ^ i.depth
  else if p = 0 ∨ i.chroma = 3 ∨ i.chroma = 4 then i.at p x y
  else if i.chroma = 0 then midGrey i.depth
  else i.fullChroma p x y

/-- A crop rectangle and the size that it is scaled to. -/
structure Scale where
  srcX : Nat
  srcY : Nat
  srcW : Nat
  srcH : Nat
  dstW : Nat
  dstH : Nat
deriving DecidableEq, Repr

/-- Source position of a destination position, in 64ths of a sample: whole sample and one of 64 phases (R278). -/
def scalePos (src dst k : Nat) : Nat × Nat :=
  let q := k * src * 64 / atLeast1 dst + Config.scaleStart src dst
  (q / 64, q % 64)

/-- The four samples around a position, within the crop. -/
def taps (f : Nat → Nat) (origin size base : Nat) : Nat × Nat × Nat × Nat :=
  let g := fun (k : Int) => f (origin + clampPos size k)
  (g ((base : Int) - 1), g base, g ((base : Int) + 1), g ((base : Int) + 2))

/-- One pass of the 4-tap polyphase filter, limited to the range of the samples (R278). -/
def filterAt (depth phase : Nat) (t : Nat × Nat × Nat × Nat) : Nat :=
  min (2 ^ depth - 1) (Config.filter4 phase t.1 t.2.1 t.2.2.1 t.2.2.2)

/-- A scaled sample: four taps across in each of four rows, then four taps down (R278). -/
def Image.scaled (i : Image) (sc : Scale) (p x y : Nat) : Nat :=
  let (bx, px) := scalePos sc.srcW sc.dstW x
  let (by_, py) := scalePos sc.srcH sc.dstH y
  let across := fun row => filterAt i.depth px (taps (fun c => i.full p c row) sc.srcX sc.srcW bx)
  filterAt i.depth py (taps across sc.srcY sc.srcH by_)

/-- A pixel of a source as the layer shows it: scaled, then converted to 8-bit RGB; RGB888 passes unchanged (R278,
R279). -/
def Image.pixel (i : Image) (sc : Scale) (matrix x y : Nat) : Nat × Nat × Nat :=
  let a := i.scaled sc 0 x y
  let b := i.scaled sc 1 x y
  let c := i.scaled sc 2 x y
  if i.chroma = 4 then (a, b, c)
  else
    let (r, g, bl) := toRgb matrix i.depth a b c
    (toEight i.depth r, toEight i.depth g, toEight i.depth bl)

/-! Blending (R280). -/

/-- round(v / 255). -/
def div255 (v : Nat) : Nat := (v + 127) / 255

/-- The alpha used: round(a_p × ALPHA / 255) (R280). -/
def alphaUsed (pixel layer : Nat) : Nat := div255 (pixel * layer)

/-- One colour of a layer over what lies below it (R280). -/
def blend (a src dst : Nat) : Nat := div255 (a * src + (255 - a) * dst)

/-- A pixel of a layer over the pixel below it, colours as numbers 0xRRGGBB. -/
def blendRgb (a r g b below : Nat) : Nat :=
  blend a r (bits below 23 16) * 2 ^ 16 + blend a g (bits below 15 8) * 2 ^ 8 + blend a b (bits below 7 0)

/-! Overlay images (Table 8.2). -/

/-- A pixel of an overlay: alpha and colour. RGB565 is widened by repeating its top bits; I8 is looked up in the palette,
which follows the pixels (notes/assumptions/182.md). -/
def overlayColour (format w h : Nat) (b : List Byte) (x y : Nat) : Nat × Nat × Nat × Nat :=
  let argb := fun (o : Nat) => (byteSample b (o + 3), byteSample b (o + 2), byteSample b (o + 1), byteSample b o)
  match format with
  | 0 => argb ((y * w + x) * 4)
  | 1 =>
    let v := leAt b ((y * w + x) * 2) 2
    let r := bits v 15 11
    let g := bits v 10 5
    let bl := bits v 4 0
    (255, r * 8 + r / 4, g * 4 + g / 16, bl * 8 + bl / 4)
  | _ => argb (w * h + 4 * byteSample b (y * w + x))

/-- The image of an overlay slot: red, green and blue, and its alpha as a fourth plane (R278, R280). -/
def overlayImage (o : Overlay) : Image :=
  let plane := fun (f : Nat × Nat × Nat × Nat → Nat) =>
    planeOf o.width o.height (fun x y => f (overlayColour o.format o.width o.height o.data x y))
  { width := o.width, height := o.height, chroma := 4, depth := 8,
    planes := [plane (·.2.1), plane (·.2.2.1), plane (·.2.2.2), plane (·.1)] }

end Sys2Proof.Machine
end

