-- ==== Sys2Proof/Machine/Binding.lean ====
section
/-! DEFINITION. How frames of partners reach the channels that are bound to them, and what acts on channels at a tick edge
(R147 to R165, R175, R223, R244, R246, R262, R398). -/

namespace Sys2Proof.Machine

/-! Frames of partners reach channels (R157, R164, R165, R175). -/

/-- A frame of a partner as a channel sees it. -/
structure Arrival where
  width : Nat
  height : Nat
  /-- 0 for a raw frame, else the codec. -/
  codec : Nat
  /-- Capture tick (R287). -/
  start : Nat
  au : Option Au
  /-- Bytes of the frame, and the cells that already hold it (R197). -/
  bytes : Nat
  cells : List Nat
  /-- The samples of a raw frame. -/
  image : Image
deriving DecidableEq, Repr

/-- The channel binds to a partner at its first decodable frame: PARTNER_CHANGED with CHANGE 3 (R164). -/
def State.goLive (s : State) (n p : Nat) : State :=
  if (s.chan n).bound = some p then s
  else (s.modChan n (fun c => { c with bound := some p })).partnerChanged p 3 n

/-- The chroma format that an encoder codes a source in: 4:2:0, and for a 4:2:2 source of a JPEG channel 4:2:2 (R244,
Table 7.1; notes/assumptions/151.md). -/
def codedChroma (codec : Nat) (i : Image) : Nat := if codec = 1 ∧ i.chroma = 2 then 2 else 1

/-- A live encode of a channel enters for a source frame (R244, R246, R258, R368). -/
def State.addEncode (s : State) (n cq fromTick : Nat) (x : HeldFrame) : State :=
  let c := s.chan n
  let seq := (c.enc.map (·.seq)).getD 0
  let tag := fromTick % 2 ^ 32 + 2 ^ 32 * (seq % 2 ^ 32)
  s.addLive { Job.blank s.hif.nextJob .liveEncode 0xFF cq (liveDesc 0x11 n cq tag) c.cls fromTick with
              fetchNs := s.ktime, luma := x.luma, captured := x.captured, ready := true, cells := x.cells,
              source := some (x.source.forEncode (codedChroma c.codec x.source)) }

/-- A source frame of an ENCODE channel: every FRAME_DIV-th frame is encoded, and with NUM_B frames held back the oldest
held is the one that is coded (R246, R262). -/
def State.offerEncode (s : State) (n fromTick : Nat) (x : HeldFrame) : State :=
  let c := s.chan n
  match c.enc with
  | none => s.returnCells x.cells
  | some e =>
    let div := atLeast1 e.frameDiv
    let e' := { e with divCount := (e.divCount + 1) % div }
    if e.divCount % div = 0 ∧ e.stopping = none then
      match e.heldFrames ++ [x] with
      | [] => s
      | y :: rest =>
        if e.numB ≤ rest.length then
          (s.setChan n { c with enc := some { e' with heldFrames := rest } }).addEncode n e.cq fromTick y
        else s.setChan n { c with enc := some { e' with heldFrames := y :: rest } }
    else (s.setChan n { c with enc := some e' }).returnCells x.cells

/-- The transient tag of a channel (Table 10.5). -/
def transientTag (n : Nat) : Nat := 0x20 + n

/-- The cells of a live frame of a channel: those that hold it already, or a chain under FAILFAST. Without them the
frame is dropped whole and counted (R341, R342, Table 10.2). -/
def State.frameCells (s : State) (n : Nat) (a : Arrival) : State × Option (List Nat) :=
  if a.cells ≠ [] then (s, some (if s.hif.live.any (fun j => j.cells == a.cells) then [] else a.cells.filter (thas s.bpm.cells)))
  else
    match s.allocMany (transientTag n) false (chainOf a.bytes) [] with
    | (s, .ok hs) => (s, some hs)
    | (s, .error _) => (s.bump BPM_ING_DROP_COUNT, none)

/-- A frame that a channel takes goes to its layer, its encode or its live decode; for a VIEW_RAW channel it is a GOP
boundary (R166). -/
def State.takeFrame (s : State) (p : Nat) (a : Arrival) (n : Nat) (cells : List Nat) : State :=
  let c := s.chan n
  let s := (s.goLive n p).bump SYS_CHAN_IN_COUNT n
  let next := s.tick.number.toNat + 1
  if c.kind = 1 then
    match a.au with
    | none => s.returnCells cells
    | some au => (s.modChan n (fun c => { c with waitIrap := false })).offerUnit n au cells
  else if c.kind = 0 then
    let s := s.exportDue n
    let pic : Pic := { captured := a.start, poc := 0, width := a.width, height := a.height, cells := cells, image := a.image }
    let old := (c.nextPic.map (·.2.cells)).getD []
    (s.returnCells old).modChan n (fun c => { c with nextPic := some (next, pic) })
  else s.offerEncode n next { captured := s.ktime, luma := a.width * a.height, cells := cells, source := a.image, job := none }

/-- The channel takes frames of a partner: it exists and is no HOST_DECODE channel, nor one that encodes panels or host
frames, and its binding names the partner (Table 4.2, Table 7.2). -/
def State.takesFrom (s : State) (n p : Nat) : Bool :=
  let c := s.chan n
  c.state != 0 && bindingNames c p (s.partner p) && c.kind != kindHost && ((c.enc.map (·.source)).getD 0 == 0)

/-- A complete frame of partner `p` reaches channel `n`. Frames that do not suit the channel end a live binding
(notes/assumptions/139.md); a coded channel takes none until the edge of its restart, and then waits for an IRAP picture
(R223). -/
def State.frameTo (s : State) (p : Nat) (a : Arrival) (n : Nat) : State :=
  let c := s.chan n
  let x := s.partner p
  if s.takesFrom n p = false then s
  else if c.state = 3 ∨ s.lowEntry = true then s.bump SYS_CHAN_PDROP_COUNT n
  else if formatSuits c x a.codec = false ∨ c.width < a.width ∨ c.height < a.height then
    let s := s.bump SYS_CHAN_MDROP_COUNT n
    let s := if c.bound = some p then (s.modChan n Channel.unbound).partnerChanged p 4 n else s
    if c.rejected.contains p then s
    else (s.modChan n (fun c => { c with rejected := c.rejected ++ [p] })).partnerChanged p 5 n
  else if c.kind = 1 ∧ (c.restart = true ∨
      (c.waitIrap = true ∨ c.bound ≠ some p) ∧ (a.au.map (·.irap)).getD false = false) then
    s.bump DEC_WAIT_IRAP_COUNT
  else
    match s.frameCells n a with
    | (s, none) => s
    | (s, some cells) => s.takeFrame p a n cells

/-- A complete frame of a partner: capabilities and interval, then every channel in ascending order
(R164, R175). -/
def State.frameFrom (s : State) (p fmt : Nat) (a : Arrival) : State :=
  let x := s.partner p
  let new := !(bitAt x.flags 1) || (a.width != 0 && (x.width != a.width || x.height != a.height)) ||
    x.format != fmt
  let x := { x with flags := x.flags ||| 2, width := if a.width = 0 then x.width else a.width,
                    height := if a.width = 0 then x.height else a.height, format := fmt,
                    frames := (s.ktime :: x.frames).take 17 }
  let s := s.setPartner p x
  let s := if new then s.partnerChanged p 1 0xFF else s
  let s := (List.range 32).foldl (fun s n => s.frameTo p a n) s
  if s.hif.live.any (fun j => j.cells == a.cells) then s else s.returnCells (a.cells.filter (thas s.bpm.cells))

/-- Channels that take frames from a port, for a port-level Class C code (R398). -/
def State.boundToPort (s : State) (ports : List Nat) : List Nat :=
  (s.chans.filter (fun q =>
    match q.2.bound with
    | some p => ports.contains (s.partner p).port
    | none => q.2.bindMode == 2 && ports.contains q.2.bindRef)).map (·.1)

/-! What acts on channels at an edge (R149, R154, R156, R160, R161). -/

/-- A channel runs again after a pause (R161). -/
def State.resumed (s : State) (n : Nat) : State :=
  let c := s.chan n
  if c.kind = 1 then (s.setChan n { c with waitIrap := true }).refresh n s.tick32
  else if c.kind = 3 then s.setChan n { c with enc := c.enc.map (fun e => { e with idrNext := true }) }
  else s

/-- A pause begins: frames that fell into this tick are dropped and counted (R157, R158). -/
def State.pauseBegins (s : State) (n : Nat) : State :=
  let drop := (s.hif.live.filter (fun j => j.desc.channel == n && decide (j.phase = .waiting) &&
    j.deferred == 0)).map (·.id)
  let s := drop.foldl (fun s id => (s.dropJob id).bump SYS_CHAN_PDROP_COUNT n) s
  let s := match (s.chan n).nextPic with
    | some (_, p) => (s.returnCells p.cells).bump SYS_CHAN_PDROP_COUNT n
    | none => s
  (s.modChan n (fun c => { c with state := 3, nextPic := none })).tidySlots n

/-- A pause ends or is cancelled (R156, R160, R161). -/
def State.pauseEnds (s : State) (n : Nat) : State :=
  let c := s.chan n
  let s := s.setChan n { c with pause := none, resume := none, state := 1 }
  if c.state = 3 then s.resumed n else s

/-- Access units that stand in the slots of a coded channel when it binds anew belong to the old binding: they are skipped
and counted (R164, R223). -/
def State.skipUnits (s : State) (n : Nat) : State :=
  let drop := (s.hif.live.filter (fun j => j.desc.channel == n && j.origin == .liveDecode && decide (j.phase = .waiting))).map (·.id)
  (drop.foldl (fun s id => (s.dropJob id).bump DEC_WAIT_IRAP_COUNT) s).tidySlots n

/-- A CHAN_BIND applies. The new binding becomes live at the first decodable frame after it; a partner that it does not
name is unbound with CHANGE 4 (R162, R164, R223). -/
def State.bindEdge (s : State) (n mode ref gen : Nat) : State :=
  let c := s.chan n
  let ident := if mode = 1 ∧ bitAt (s.partner ref).flags 0 = true then
      some ((s.partner ref).type, (s.partner ref).ident) else none
  let c' := { c with binds := c.binds.drop 1, bindMode := mode, bindRef := ref, bindGen := gen, bindIdent := ident,
                     bound := none, waitIrap := c.waitIrap || c.kind == kindCoded }
  let s := (s.setChan n c').skipUnits n
  match c.bound with
  | none => s
  | some p => if bindingNames c' p (s.partner p) then s else s.partnerChanged p 4 n

/-- A channel closes: its work completes DISCARDED_DESTROY, its cells are due for reclaim, its layers turn
off, and then its CHAN_DESTROY job completes (R154, R273). -/
def State.closeChan (s : State) (n : Nat) : State :=
  let c := s.chan n
  let work := (s.chanWork n).filter (fun id => !c.closing.contains id)
  let s := work.foldl (fun s id => s.endJob id { status := 0x41 }) s
  let off := s.cmp.layers.filter (fun l => !(l.2.srcType == 1 && l.2.srcRef == n))
  let s := { s with cmp := { s.cmp with layers := off } }
  let s := (s.setChan n .free).dueTags [n, 0x20 + n]
  c.closing.foldl (fun s id => s.endJob id { status := 0 }) s

/-- The restart of a channel after a Class C reaction (R223, R398). -/
def State.restartChan (s : State) (n : Nat) : State :=
  let c := s.chan n
  if c.restart then
    s.setChan n { c with restart := false, dpb := [], waitIrap := c.waitIrap || c.kind == kindCoded,
                         enc := c.enc.map (fun e => { e with idrNext := true }) }
  else s

/-- What a channel job does at a tick edge (Table 4.3). -/
inductive EdgeAct where
  | close
  | bind (mode ref gen : Nat)
  | pauseBegin
  | pauseEnd
deriving DecidableEq, Repr

/-- An act that is due: the job that asked for it, the channel and the act. -/
structure DueAct where
  job : Nat
  chan : Nat
  act : EdgeAct
deriving DecidableEq, Repr

/-- What the pause schedule of a channel does at the edge that opens tick `t`: a resume fetched after a pause that would
begin here cancels it (R156, R160; "At the limits"). -/
def Channel.pauseAct (c : Channel) (t : Nat) : Option (Nat × EdgeAct) :=
  match c.pause with
  | none => none
  | some p =>
    match c.resume with
    | some id => some (id, .pauseEnd)
    | none =>
      if p.duration ≠ 0 ∧ p.start + p.duration ≤ t then some (p.job, .pauseEnd)
      else if p.start ≤ t ∧ c.state = 1 then some (p.job, .pauseBegin)
      else none

/-- The acts of a channel at the edge that opens tick `t`. -/
def Channel.acts (c : Channel) (t n : Nat) : List DueAct :=
  c.binds.map (fun b => { job := b.1, chan := n, act := .bind b.2.1 b.2.2.1 b.2.2.2 }) ++
    c.closing.map (fun id => { job := id, chan := n, act := .close }) ++
    (match c.pauseAct t with
     | none => []
     | some (id, a) => [{ job := id, chan := n, act := a }])

/-- One act. -/
def State.edgeAct (s : State) (a : DueAct) : State :=
  if s.chanExists a.chan then
    match a.act with
    | .close => s.closeChan a.chan
    | .bind mode ref gen => s.bindEdge a.chan mode ref gen
    | .pauseBegin => s.pauseBegins a.chan
    | .pauseEnd => s.pauseEnds a.chan
  else s

/-- A raw frame that completed before the edge is the channel's picture from now on (R28). -/
def State.promote (t : Nat) (s : State) (n : Nat) : State :=
  let c := s.chan n
  match c.nextPic with
  | some (k, p) =>
    if k ≤ t then
      (s.returnCells ((c.pic.map (·.cells)).getD [])).setChan n { c with pic := some p, nextPic := none }
    else s
  | none => s

/-- Everything that acts on channels at the edge that opens tick `t`: what channel jobs asked for goes in fetch order
(R149). -/
def State.chanEdges (s : State) (t : Nat) : State :=
  let s := (List.range 32).foldl State.restartChan s
  let due := (List.range 32).flatMap (fun n => (s.chan n).acts t n)
  let s := (sortBy (fun a b : DueAct => decide (a.job ≤ b.job)) due).foldl State.edgeAct s
  (List.range 32).foldl (State.promote t) s

end Sys2Proof.Machine
end

