-- ==== Sys2Proof/Machine/Engines.lean ====
section
/-! DEFINITION. Engines at work: which segment a syntax engine takes up, how far the rows of a picture have come, and which
pixel or encode slice holds which row (R89, R224 to R227, R231, R260, R271, R379, R382). When an engine ends a segment or
a row, and when a buffer has no room, are its own timing, which the spec does not give: how far work has come between two
commands is a free value within the bounds that the rules set (notes/assumptions/150.md). -/

namespace Sys2Proof.Machine

/-! Rows (R225, R226, R260). -/

/-- The job is a decode. -/
def Job.isDecode (j : Job) : Bool := j.desc.opcode == 0x10

/-- Healthy units of a kind, rising. -/
def State.healthyUnits (s : State) (k : UnitKind) : List Nat :=
  (List.range (match k with
    | .syn => 3
    | .pix => 3
    | .enc => 3
    | .core => 4)).filter (fun u => !s.isFenced k u)

/-- The kind of slice that works on a job's rows. -/
def Job.sliceKind (j : Job) : UnitKind := if j.isDecode then .pix else .enc

/-- The job's channel decodes in ROW_LOCKSTEP (Table 6.7). -/
def State.lockstep (s : State) (j : Job) : Bool := j.isDecode && (s.chan j.desc.channel).decMode == 1

/-- Rows that have been handed to slices: every row whose records are in the buffer, in ROW_LOCKSTEP only while fewer than
two slices hold unfinished rows (R225). An encode's rows need no records. -/
def State.handed (s : State) (j : Job) : Nat :=
  if !j.isDecode then j.rows else if s.lockstep j then min j.parsed (j.rowsDone + 2) else j.parsed

/-- Rows on which work has begun: each slice works on one row of the picture at a time, and a row waits for the one above
it (R225, R260; notes/assumptions/185.md). -/
def State.begun (s : State) (j : Job) : Nat :=
  min (s.handed j) (j.rowsDone + (s.healthyUnits j.sliceKind).length)

/-- The slice that row `r` is handed to: the healthy slices in turn (R225, R260). -/
def State.sliceOf (s : State) (j : Job) (r : Nat) : Option Nat :=
  let l := s.healthyUnits j.sliceKind
  l[r % atLeast1 l.length]?

/-- Slice `u` has begun a row of the job, or holds one (R231, R271). -/
def State.sliceBegan (s : State) (j : Job) (u : Nat) : Bool :=
  (List.range (s.begun j)).any (fun r => s.sliceOf j r == some u)

/-- Slice `u` works on a row of the job now. -/
def State.sliceHolds (s : State) (j : Job) (u : Nat) : Bool :=
  (List.range (s.begun j)).any (fun r => decide (j.rowsDone ≤ r) && s.sliceOf j r == some u)

/-- Jobs on the engines, in fetch order. -/
def State.onEngines (s : State) : List Job :=
  (s.hif.jobs ++ s.hif.live).filter (fun j => decide (j.phase = .admitted))

/-- The jobs that a fenced slice discards: it had begun a row of them in this tick, or holds one (R231, R271). -/
def State.sliceJobs (s : State) (k : UnitKind) (u : Nat) : List Nat :=
  (s.onEngines.filter (fun j => decide (j.sliceKind = k) && s.sliceBegan j u)).map (·.id)

/-- Rows whose records may stand in the buffer: any in the syntax buffer, one row ahead of pixel work in the two-row
buffer of ROW_LOCKSTEP (R226, Table 6.7). -/
def State.parseLimit (s : State) (j : Job) : Nat := if s.lockstep j then min j.rows (j.rowsDone + 2) else j.rows

/-- A decode has come on by free amounts. -/
def State.progressJob (s : State) (draw : Nat) (j : Job) : Job :=
  if decide (j.phase = .admitted) && j.isDecode && !j.cut && decide (0 < j.segsTaken) then
    { j with parsed := min (s.parseLimit j) (j.parsed + Config.free draw),
             rowsDone := min (s.handed j) (j.rowsDone + Config.free (draw + 1)) }
  else j

/-- The decodes on the engines have come on. -/
def State.progress (s : State) : State :=
  { s with hif := { s.hif with jobs := s.hif.jobs.map (s.progressJob s.fresh), live := s.hif.live.map (s.progressJob s.fresh) }
           fresh := s.fresh + 2 }

/-! Segments (R68, R224, R226, R382). -/

/-- Decodes of the same channel that were admitted before a job and have not ended. -/
def State.picturesBefore (s : State) (j : Job) : List Job :=
  s.onEngines.filter (fun k => k.isDecode && k.desc.channel == j.desc.channel && decide (k.id < j.id))

/-- The syntax engine may begin a picture: the next one of a channel while pixel slices still work on the one before, in
ROW_LOCKSTEP once pixel work takes up its last row; never the one after that (R226). -/
def State.mayParse (s : State) (j : Job) : Bool :=
  if !j.isDecode then true
  else
    match s.picturesBefore j with
    | [] => true
    | [k] => !s.lockstep j || decide (k.rows ≤ s.begun k)
    | _ => false

/-- The jobs of which engine `e` may take up a segment, in fetch order: single-segment pictures placed there, and pictures
of several segments, which run on every engine (R68, R224). -/
def State.workOn (s : State) (e : Nat) : List Nat :=
  (s.onEngines.filter (fun j =>
    !j.cut && (j.engine == some e || j.engine.isNone) && decide (j.segsTaken < j.segs) && s.mayParse j)).map (·.id)

/-- An engine takes up the next segment of a job. Its micro-address is not published, and when it waits for buffer room is
its own timing: both are free values. -/
def State.takeSegment (s : State) (e id : Nat) : State :=
  let s := match s.job? id with
    | some j => s.exportBefore j
    | none => s
  let s := s.modJob id (fun j => { j with segsTaken := j.segsTaken + 1 })
  { s with
    engines := lmod s.engines e (fun x =>
      { x with job := some id, upc := Config.free s.fresh % 0x1400, waiting := Config.free (s.fresh + 1) % 2 == 1 })
    fresh := s.fresh + 2 }

/-- An idle engine resumes a saved context, or takes up work that is placed on it (R382, Table 12.2). -/
def State.feedEngine (s : State) (e : Nat) : State :=
  let x := lget SynEngine.reset s.engines e
  if s.isFenced .syn e || x.job.isSome then s
  else
    match x.saved with
    | c :: rest =>
      { s with engines := lmod s.engines e (fun x =>
          { x with saved := rest, job := some c.job, upc := c.upc, stack := c.stack, waiting := false }) }
    | [] =>
      match s.workOn e with
      | [] => s
      | id :: _ => s.takeSegment e id

/-- Engines that hold a decode may have come to a full buffer: they stall until pixel work frees room (R227). -/
def State.stall (s : State) : State :=
  let decoding := fun (id : Nat) => ((s.job? id).map (·.isDecode)).getD false
  { s with
    engines := s.engines.map (fun x =>
      if (x.job.map decoding).getD false then { x with waiting := x.waiting || Config.free s.fresh % 2 == 1 } else x)
    fresh := s.fresh + 1 }

/-- In the work window work comes on, and idle engines take up more. -/
def State.feedEngines (s : State) : State :=
  if s.tick.window = .work then (List.range 3).foldl State.feedEngine s.progress.stall else s

/-- An engine's segment of a job ends before the others: the first engine that holds one takes up what comes next (R224,
R234). -/
def State.endSegment (s : State) (id : Nat) : State :=
  match (List.range 3).find? (fun e => (lget SynEngine.reset s.engines e).job == some id) with
  | none => s
  | some e => ({ s with engines := lmod s.engines e (fun x => { x with job := none, waiting := false }) }).feedEngines

/-! Work of a fenced engine (R89). -/

/-- The syntax work of a picture goes to the healthy engine with the most unspent budget, the lowest-numbered among
equals, and is charged there (R89). -/
def State.placeAgain (s : State) (id : Nat) : State :=
  match s.job? id, sortBy (fun a b => decide (lget 0 s.tick.synRoom b ≤ lget 0 s.tick.synRoom a)) (s.healthyUnits .syn) with
  | some j, e :: _ =>
    let s := s.modJob id (fun j => { j with engine := some e })
    { s with tick := { s.tick with synRoom := lmod s.tick.synRoom e (fun r => r - 6 * j.costSyn) } }
  | _, _ => s

/-- Work that was placed on a fenced syntax engine and not begun goes to the others, in fetch order (R89). -/
def State.moveWork (s : State) (u : Nat) : State :=
  ((s.onEngines.filter (fun j => j.engine == some u)).map (·.id)).foldl State.placeAgain s

end Sys2Proof.Machine
end

