-- ==== Sys2Proof/Machine/Displays.lean ====
section
/-! DEFINITION. Display outputs and composition: the checks of an enable, panel power, the flip, the age and the
stale border, and the arithmetic of blending (R272 to R300, R499, R500). -/

namespace Sys2Proof.Machine

/-! Displays. -/

/-- A display. -/
def State.disp (s : State) (d : Nat) : Display := lget .reset s.displays d
/-- Change a display. -/
def State.modDisp (s : State) (d : Nat) (f : Display → Display) : State :=
  { s with displays := lmod s.displays d f }
/-- DSP_CFG_d.EN. -/
def State.enabled (s : State) (d : Nat) : Bool := s.flag DSP_CFG 0 d
/-- HACTIVE. -/
def State.hActive (s : State) (d : Nat) : Nat := s.fld DSP_H1 15 0 d
/-- VACTIVE. -/
def State.vActive (s : State) (d : Nat) : Nat := s.fld DSP_V1 15 0 d
/-- VFP. -/
def State.vfp (s : State) (d : Nat) : Nat := s.fld DSP_V1 31 16 d
/-- HACTIVE × VACTIVE. -/
def State.activePixels (s : State) (d : Nat) : Nat := s.hActive d * s.vActive d
/-- Samples that a display's layers may sum to: HACTIVE × VACTIVE × RES_LAYERS (R276). -/
def State.layerLimit (s : State) (d : Nat) : Nat := s.activePixels d * s.fld DSP_CFG 5 1 d
/-- The composition reservation of a display (R295). -/
def State.reservation (s : State) (d : Nat) : Nat := s.withMargin (s.layerLimit d)
/-- Reservations of the enabled displays: TCK_CRIT_3 (R295). -/
def State.reserved (s : State) : Nat :=
  (((List.range 3).filter s.enabled).map s.reservation).sum

/-- Lanes that a LANES code names (Table 8.6); code 3 names none. -/
def laneCount (c : Nat) : Nat := lget 0 [1, 2, 4] c
/-- The link rate that a RATE code names, in units of 10 Mb/s; code 3 names none. -/
def rateOf (c : Nat) : Nat := lget 0 [162, 270, 540] c
/-- Bits per pixel: BPP18 or 24. -/
def State.bpp (s : State) (d : Nat) : Nat := if s.flag DSP_LINK 1 d then 18 else 24

/-- The bandwidth condition of Table 8.4: f_pix × bpp ≤ lanes × rate × 0.8. -/
def State.edpFits (s : State) (d lanes rate : Nat) : Bool :=
  decide (s.framePixels d * 10 ^ 9 * s.bpp d * 10 ≤
    laneCount lanes * rateOf rate * 10 ^ 7 * 8 * s.period)

/-- f_pix lies within limits given in MHz (Table 8.3). -/
def State.pclkWithin (s : State) (d lo hi : Nat) : Bool :=
  let f := s.framePixels d * 1000
  decide (lo * s.period ≤ f) && decide (f ≤ hi * s.period)

/-- The first check of R294 that fails, as CFG_ERR; `others` is what the other displays reserve. -/
def State.displayErr (s : State) (d others : Nat) : Nat :=
  let dual := s.flag DSP_LINK 0 d
  let odd := [s.fld DSP_H1 15 0 d, s.fld DSP_H1 31 16 d, s.fld DSP_H2 15 0 d, s.fld DSP_H2 31 16 d].any
    (fun x => x % 2 == 1)
  if s.vfp d < 2 ∨ s.framePixels d = 0 ∨ (d < 2 ∧ dual = true ∧ odd = true) then 1
  else if d < 2 ∧ s.pclkWithin d (if dual then 50 else 25) (if dual then 224 else 112) = false then 2
  else if d = 2 ∧ s.edpFits d (s.fld DSP_LINK 5 4 d) (s.fld DSP_LINK 7 6 d) = false then 3
  else if s.floorOf 3 < others + s.reservation d then 4
  else 0

/-! Panel power (R297, R298). -/

/-- The panel is powered down: VDD_EN is low. -/
def PanelStep.isOff : PanelStep → Bool
  | .off => true
  | .waitOff => true
  | .waitHpd => false
  | .waitLink => false
  | .training => false
  | .waitVideo => false
  | .waitBacklight => false
  | .on => false
  | .waitLinkOff => false
  | .waitVddOff => false

/-- A power-down runs. -/
def PanelStep.falling : PanelStep → Bool
  | .waitLinkOff => true
  | .waitVddOff => true
  | .waitOff => true
  | .off => false
  | .waitHpd => false
  | .waitLink => false
  | .training => false
  | .waitVideo => false
  | .waitBacklight => false
  | .on => false

/-- DSP_STATUS_d.STATE (Table 8.6). -/
def PanelStep.code : PanelStep → Nat
  | .off => 0
  | .waitHpd => 1
  | .waitLink => 1
  | .training => 1
  | .waitVideo => 1
  | .waitBacklight => 1
  | .on => 2
  | .waitLinkOff => 3
  | .waitVddOff => 3
  | .waitOff => 4

/-- Every display is off (R427, R452). -/
def State.allDark (s : State) : Bool := s.displays.all (fun x => x.step.isOff)

/-- The panel is present: its detection, or DET_IGNORE for LVDS; for eDP, HPD (R297). -/
def State.panelHere (s : State) (d : Nat) : Bool :=
  (s.disp d).present || (decide (d < 2) && s.flag DSP_CFG 7 d)

/-- Power-up starts: VDD_EN goes high and the pixel clock is tuned (R297, R497, R501). -/
def State.panelUp (s : State) (d : Nat) : State :=
  if s.enabled d = false ∨ s.panelHere d = false then s
  else
    match (s.disp d).step with
    | .off =>
      let step := if d = 2 ∧ (s.disp d).raw = false then PanelStep.waitHpd else PanelStep.waitLink
      (s.modDisp d (fun x => { x with step := step, since := s.clock.ps, dark := false, retrain := false, again := false,
                                      y := 0 })).tuneVpll d
    | .waitLinkOff => s.modDisp d (fun x => { x with again := true })
    | .waitVddOff => s.modDisp d (fun x => { x with again := true })
    | .waitOff => s.modDisp d (fun x => { x with again := true })
    | .waitHpd => s
    | .waitLink => s
    | .training => s
    | .waitVideo => s
    | .waitBacklight => s
    | .on => s

/-- Power-down starts: BL_EN and the PWM stop (R298). -/
def State.panelDown (s : State) (d : Nat) : State :=
  s.modDisp d (fun x =>
    if x.step = .off ∨ x.step.falling = true then { x with again := false, retrain := false }
    else { x with again := false, retrain := false, since := s.clock.ps, step := .waitLinkOff })

/-- An output runs power-down and power-up without a new POWER request (DSP 0x0B05, CLK 0x1406). -/
def State.panelRestart (s : State) (d : Nat) : State :=
  if (s.disp d).step.isOff || (s.disp d).step.falling then s
  else (s.panelDown d).modDisp d (fun x => { x with again := true })

/-- The link of a display stops: its DLL loses its clock. -/
def State.linkOff (s : State) (d : Nat) : State :=
  let s := s.modDisp d (fun x => { x with step := .waitVddOff, scans := false, since := s.clock.ps, dark := false })
  { s with clk := { s.clk with lvdsDll := putBits s.clk.lvdsDll d d 0 } }

/-- The link of an LVDS display runs; its DLL locks (R498). -/
def State.linkOn (s : State) (d : Nat) : State :=
  let s := s.modDisp d (fun x => { x with step := .waitVideo, since := s.clock.ps })
  if d < 2 then { s with clk := { s.clk with lvdsDll := putBits s.clk.lvdsDll d d 1 } } else s

/-- The configurations that training tries, in order (R296): the configured lanes at the configured rate and
each lower rate, then each smaller lane count from the configured rate downward. -/
def trainingOrder (lanes rate : Nat) : List (Nat × Nat) :=
  ((List.range (lanes + 1)).reverse).flatMap (fun l => ((List.range (rate + 1)).reverse).map (fun r => (l, r)))

/-- The first configuration that trains and meets the bandwidth condition. -/
def State.trainedAs (s : State) (d : Nat) (trained : List (Nat × Nat)) : Option (Nat × Nat) :=
  (trainingOrder (s.fld DSP_LINK 5 4 d) (s.fld DSP_LINK 7 6 d)).find? (fun c =>
    trained.contains c && s.edpFits d c.1 c.2)

/-! Enable and the repeated checks (R294). -/

/-- A display is disabled with the check that failed. -/
def State.disableDisplay (s : State) (d err : Nat) : State :=
  let s := (s.wrFld DSP_CFG 0 0 0 d).wrFld DSP_STATUS 11 8 err d
  (s.panelDown d).synthOff (2 + d)

/-- One display of the repeated checks; `held` is what the displays before it reserve. -/
def State.recheckOne (acc : State × Nat) (d : Nat) : State × Nat :=
  let (s, held) := acc
  if s.enabled d then
    let err := s.displayErr d held
    if err = 0 then (s, held + s.reservation d) else (s.disableDisplay d err, held)
  else (s, held)

/-- The checks repeated for every enabled display, in ascending order. -/
def State.recheckDisplays (s : State) : State := ((List.range 3).foldl State.recheckOne (s, 0)).1

/-- A write of EN to DSP_CFG_d in CONFIG, the other fields already in place: a write of 1 enables and powers up
the display, or sets CFG_ERR (R294, R297). `was`: EN before the write. -/
def State.enableWrite (s : State) (d : Nat) (was : Bool) : State :=
  if s.enabled d then
    if was then s.recheckDisplays
    else
      let err := s.displayErr d (s.reserved - s.reservation d)
      if err = 0 then
        let s := (s.wrFld DSP_STATUS 11 8 0 d).modDisp d (fun x =>
          { x with bg := s.fld DSP_BG 23 0 d, backlight := s.fld DSP_BL 23 16 d, frontBuf := 1 })
        (s.tuneVpll d).panelUp d
      else (s.wrFld DSP_CFG 0 0 0 d).wrFld DSP_STATUS 11 8 err d
  else if was then s.disableDisplay d 0
  else s

/-! Layers and composition (R272 to R286). -/

/-- The key of a layer in the tables: 16 × display + layer. -/
def layerKey (d l : Nat) : Nat := 16 * d + l
/-- The setting applied to a layer. -/
def State.layer (s : State) (d l : Nat) : Layer := tget .off s.cmp.layers (layerKey d l)
/-- Samples that a display's layers cost in a table of settings (R286). -/
def layerCost (t : Table Layer) (d : Nat) : Nat :=
  (((List.range 16).map (fun l => tget Layer.off t (layerKey d l))).map
    (fun x => if x.srcType = 0 then 0 else x.dstW * x.dstH)).sum

/-- One change applied to a table of settings. -/
def LayerChange.onTable (t : Table Layer) : LayerChange → Table Layer
  | .layer d l set => tput .off t (layerKey d l) set
  | .control _ _ _ _ => t

/-- Changes in the order in which they apply: by edge, and those of one edge in fetch order (R277). -/
def changeOrder (l : List DueChange) : List DueChange :=
  sortBy (fun a b : DueChange => decide (a.tick < b.tick) || (a.tick == b.tick && decide (a.job ≤ b.job))) l

/-- The layer set that every display will have once all executed LAYER_SETs have applied (R276). -/
def State.futureLayers (s : State) : Table Layer :=
  (changeOrder s.cmp.changes).foldl (fun t c => c.change.onTable t) s.cmp.layers

/-- One change takes effect at its edge (R277). A channel layer whose channel is gone turns off (R273). -/
def State.applyChange (s : State) (c : LayerChange) : State :=
  match c with
  | .layer d l set =>
    let set := if set.srcType = 1 ∧ s.chanExists set.srcRef = false then Layer.off else set
    { s with cmp := { s.cmp with layers := tput .off s.cmp.layers (layerKey d l) set } }
  | .control d power backlight bg =>
    let s := s.modDisp d (fun x => { x with backlight := backlight, bg := bg })
    if power = 1 then s.panelUp d else s.panelDown d

/-- The changes due at the edge that opens tick `t`, in fetch order (R277). -/
def State.applyChanges (s : State) (t : Nat) : State :=
  let due := changeOrder (s.cmp.changes.filter (fun c => decide (c.tick ≤ t)))
  let s := { s with cmp := { s.cmp with changes := s.cmp.changes.filter (fun c => !decide (c.tick ≤ t)) } }
  due.foldl (fun s c => s.applyChange c.change) s

/-- What a layer shows now: the newest picture of a channel, an overlay or a colour (R282, R285). A channel that has no
picture yet gives none, and its layer no age (notes/assumptions/155.md). -/
def State.shownNow (s : State) (d l : Nat) : Option Shown :=
  let x := s.layer d l
  let pic := if x.srcType = 1 then (s.chan x.srcRef).pic else none
  if x.srcType = 0 then none
  else some { layer := l, set := x, captured := pic.map (·.captured),
              image := if x.srcType = 2 then overlayImage (tget .empty s.cmp.overlays x.srcRef)
                       else (pic.map (·.image)).getD .empty }

/-- Composition of a display starts: each layer takes its picture (R285). -/
def State.composeStart (s : State) (d : Nat) : State :=
  s.modDisp d (fun x => { x with back := some { bg := x.bg, layers := (List.range 16).filterMap (s.shownNow d) } })

/-- The first display of the tick that is admitted and not composed. -/
def State.nextCompose (s : State) : Option Nat :=
  s.tick.composing.find? (fun d => !s.tick.composed.contains d)

/-- The compositor starts: the first display's composition begins (R284). -/
def State.startCompositor (s : State) : State :=
  if s.tick.cmpStarted then s
  else
    let s := { s with tick := { s.tick with cmpStarted := true } }
    match s.nextCompose with
    | none => s
    | some d => s.composeStart d

/-- The compositor is at work on a display (R284). -/
def State.composesNow (s : State) (d : Nat) : Bool := s.tick.cmpStarted && decide (s.nextCompose = some d)

/-- Where the compositor was at work on a display that is out now, it begins the next one (R284). -/
def State.composeNext (s : State) (atWork : Bool) : State :=
  match s.nextCompose with
  | none => s
  | some e => if atWork then s.composeStart e else s

/-- A job is a decode that was admitted in this tick and has not ended. -/
def Job.decoding (j : Job) : Bool :=
  decide (j.phase = .admitted) && j.desc.opcode == 0x10

/-- A decode of the tick feeds a layer of a display that is composed in it (R284). -/
def State.feeds (s : State) (j : Job) : Bool :=
  s.tick.composing.any (fun d => (List.range 16).any (fun l =>
    (s.layer d l).srcType == 1 && (s.layer d l).srcRef == j.desc.channel))

/-- In the work window the compositor starts once every admitted decode that feeds a layer has ended (R284). -/
def State.maybeCompose (s : State) : State :=
  if decide (s.tick.window = .work) && !(s.hif.jobs ++ s.hif.live).any (fun j => j.decoding && s.feeds j) then
    s.startCompositor
  else s

/-! Frame buffers (R278 to R281). -/

/-- Pitch of a composed row in bytes (R281). -/
def State.fbPitch (s : State) (d : Nat) : Nat := ceilDiv (s.hActive d * 4) 128 * 128
/-- Size of one buffer (R281). -/
def State.fbSize (s : State) (d : Nat) : Nat := ceilDiv (s.fbPitch d * s.vActive d) 4096 * 4096
/-- DRAM address of buffer `b` of a display (R281). -/
def State.fbAddr (s : State) (d b : Nat) : Nat := s.rd64 DSP_FB_BASE_LO DSP_FB_BASE_HI d + b * s.fbSize d

/-- How a layer's crop is scaled (R278). -/
def Layer.scale (x : Layer) : Scale :=
  { srcX := x.srcX, srcY := x.srcY, srcW := x.srcW, srcH := x.srcH, dstW := x.dstW, dstH := x.dstH }

/-- A point lies in a layer's destination. -/
def Layer.covers (x : Layer) (px py : Nat) : Bool :=
  decide (x.dstX ≤ px) && decide (px < x.dstX + x.dstW) && decide (x.dstY ≤ py) && decide (py < x.dstY + x.dstH)

/-- Pixel alpha and colour that a layer shows at a point of its destination. A channel layer without a picture shows a free
value (R273, R278 to R280; notes/assumptions/155.md). -/
def Shown.colour (v : Shown) (draw x y : Nat) : Nat × Nat × Nat × Nat :=
  let c := v.set.colour
  let p := v.image.pixel v.set.scale v.set.matrix x y
  match v.set.srcType with
  | 3 => (bits c 31 24, bits c 23 16, bits c 15 8, bits c 7 0)
  | 2 => (v.image.scaled v.set.scale 3 x y, p)
  | _ =>
    if v.captured.isSome then (255, p)
    else (255, Config.freeAt draw 0 % 256, Config.freeAt draw 1 % 256, Config.freeAt draw 2 % 256)

/-- A pixel of a composed frame: the layers in ascending order over the background (R280). -/
def Frame.pixel (f : Frame) (draw x y : Nat) : Nat :=
  f.layers.foldl (fun below v =>
    if v.set.covers x y then
      let (a, r, g, b) := v.colour draw (x - v.set.dstX) (y - v.set.dstY)
      blendRgb (alphaUsed a v.set.alpha) r g b below
    else below) f.bg

/-- A row of a composed frame as XRGB8888: blue, green, red, and a byte that the spec leaves open (R281;
notes/assumptions/156.md). -/
def Frame.row (f : Frame) (draw w y : Nat) : List Byte :=
  (List.range w).flatMap (fun x => leBytes 3 (f.pixel draw x y) ++ [Config.freeByte draw (y * w + x)])

/-- A frame is composed into buffer `b` of a display (R281). -/
def State.paint (s : State) (d b : Nat) (f : Frame) : State :=
  ((List.range (s.vActive d)).foldl (fun s y =>
    s.dramWrite (s.fbAddr d b + y * s.fbPitch d) (f.row s.fresh (s.hActive d) y)) s).freshen

/-- The picture in the front buffer of a display, as panel capture reads it (R246). -/
def State.frontImage (s : State) (d : Nat) : Image :=
  let a := s.fbAddr d (s.disp d).frontBuf
  let pitch := s.fbPitch d
  { width := s.hActive d, height := s.vActive d, chroma := 4, depth := 8,
    planes := [2, 1, 0].map (fun k =>
      planeOf (s.hActive d) (s.vActive d) (fun x y => (s.dramByte (a + y * pitch + 4 * x + k)).toNat)) }

/-! The edge: flips, steering, ages (R57, R287 to R293, R499, R500). -/

/-- The timing generator slips: the edge came before the front porch (R293). -/
def State.slips (s : State) (d : Nat) (e : Int) : Bool := decide ((s.vfp d * s.hTotal d : Nat) < -e)

/-- The frequency offset after an edge that did not slip, limited (R500). -/
def State.steer (s : State) (d : Nat) (e : Int) : State :=
  let px := s.framePixels d
  let raw := steerRaw (s.disp d).y e (s.steerGain d) px
  let lim : Int := 1000 * s.steerLimit d
  let y := max (-lim) (min lim raw)
  let s := if y = raw then s else s.bump CLK_STEER_CLAMP_COUNT d
  let s := s.modDisp d (fun x => { x with y := y })
  let (_, n, k) := s.vpllSetting d y
  s.setSynth (2 + d) { s.synth (2 + d) with n := n, k := k }

/-- A frame of the background alone. -/
def Display.plain (x : Display) : Frame := { bg := x.bg, layers := [] }

/-- The background as it is becomes the front buffer's frame: at the first flip of a display that has composed nothing, and
in CONFIG, where the frames carry the background only (R297). -/
def State.plainFront (s : State) (d : Nat) : State :=
  let f := (s.disp d).plain
  if (s.disp d).front = some f then s
  else (s.paint d (s.disp d).frontBuf f).modDisp d (fun x => { x with front := some f })

/-- The buffers of a display change roles: what was composed in the tick that ends comes to the front, and a hold after a
Class M restart ends (R281, R291). -/
def State.exchange (s : State) (d : Nat) : State :=
  let s := s.modDisp d (fun x => { x with front := x.back, back := none, frontBuf := 1 - x.frontBuf })
  { s with cmp := { s.cmp with holdFrom := none, holding := ldel s.cmp.holding d } }

/-- A display has a frame composed in the tick that ends. -/
def State.hasBack (s : State) (d : Nat) : Bool := s.tick.composed.contains d && (s.disp d).back.isSome

/-- The first flip of a power-up starts video (R297, step 4); buffer 0 is the front buffer at the first flip after EN
(R281). -/
def State.firstFlip (s : State) (d : Nat) : State :=
  let s := if s.hasBack d then s.exchange d
           else (s.modDisp d (fun x => { x with front := none, back := none, frontBuf := 1 - x.frontBuf })).plainFront d
  (s.modDisp d (fun x => { x with step := .waitBacklight, scans := true, since := s.clock.ps })).bump DSP_FRAME_COUNT d

/-- One display at the edge, with its measured frame error `e`: the frame starts from the buffer composed in
the tick that ends, or repeats, or slips; while the link is retrained no frame is shown, and what was composed is lost
(R57, R281, R293, R300, R499; notes/assumptions/179.md). -/
def State.flip (s : State) (d : Nat) (e : Int) : State :=
  if (s.disp d).step = .waitVideo then (if (s.disp d).retrain then s else s.firstFlip d)
  else if (s.disp d).scans = false then s
  else
    let s := s.modDisp d (fun x => { x with lastE := e })
    if s.slips d e then (s.bump DSP_SLIP_COUNT d).raiseI 0x0B04 { source := d }
    else
      let s := s.steer d e
      if (s.disp d).retrain then s
      else
        let s := s.bump DSP_FRAME_COUNT d
        if s.hasBack d then s.exchange d else if s.isActive then s else s.plainFront d

/-- Displayed age of a picture captured in tick `c` during tick `t` (R288). -/
def ageOf (t c : Nat) : Nat := t - 1 - c

/-- Layers shown by a display's front buffer, where it scans out. -/
def State.scanned (s : State) (d : Nat) : List Shown :=
  if (s.disp d).scans then ((s.disp d).front.map (·.layers)).getD [] else []

/-- A shown layer is stale in tick `t` (R289). One that shows no picture has no age (notes/assumptions/155.md). -/
def Shown.stale (x : Shown) (t : Nat) : Bool :=
  match x.captured with
  | none => false
  | some c => decide (0 < x.set.ageLimit) && decide (x.set.ageLimit < ageOf t c)

/-- The stale layers of tick `t`. -/
def State.staleIn (s : State) (t : Nat) : List Nat :=
  (List.range 3).flatMap (fun d =>
    ((s.scanned d).filter (fun x => x.stale t)).map (fun x => layerKey d x.layer))

/-- STALE_VIEW for a layer (R290). -/
def State.staleView (s : State) (t key state : Nat) : State :=
  let d := key / 16
  let l := key % 16
  let x := (s.scanned d).find? (fun x => x.layer == l)
  let set := (x.map (·.set)).getD (s.layer d l)
  let c := (x.bind (·.captured)).getD 0
  let age := if (x.bind (·.captured)).isSome then min 255 (ageOf t c) else 0
  let s := if state = 1 then s.bump CMP_STALE_COUNT else s
  s.event 0x70 (d * 256 + l) ([state, age, set.ageLimit, set.srcRef] ++ leNats 4 c)

/-- STALE_VIEW at the edge that opens tick `t`, for every layer whose stale state changes (R290). -/
def State.staleEdge (s : State) (t : Nat) : State :=
  let now := s.staleIn t
  let old := s.cmp.stale
  let s := (now.filter (fun k => !old.contains k)).foldl (fun s k => s.staleView t k 1) s
  let s := (old.filter (fun k => !now.contains k)).foldl (fun s k => s.staleView t k 0) s
  { s with cmp := { s.cmp with stale := now } }

/-! The border, as arithmetic on one pixel (R289). -/

/-- A point of a stale layer's destination lies in its border (R289). -/
def inBorder (set : Layer) (x y : Nat) : Bool :=
  decide (set.dstX ≤ x) && decide (x < set.dstX + set.dstW) && decide (set.dstY ≤ y) &&
    decide (y < set.dstY + set.dstH) &&
    (decide (x < set.dstX + set.borderPx) || decide (set.dstX + set.dstW ≤ x + set.borderPx) ||
      decide (y < set.dstY + set.borderPx) || decide (set.dstY + set.dstH ≤ y + set.borderPx))

/-- What scan-out shows at a point, given the composed colour: the hold colour, the border of the highest
stale layer there, or the composed frame (R289, R291). -/
def State.scanColour (s : State) (d t x y composed : Nat) : Nat :=
  if s.cmp.holding.contains d then s.fld CMP_CTL 23 0
  else
    match ((s.scanned d).filter (fun v => v.stale t && inBorder v.set x y)).getLast? with
    | some v => v.set.borderRgb
    | none => composed

end Sys2Proof.Machine
end

