-- ==== Sys2Proof/Machine/Guard.lean ====
section
/-! DEFINITION. The Guard: the class of every fault code, the reactions and how they merge, fencing, the Class M
restart, SAFE, and clearing (R391 to R414, R428, R579, R582). -/

namespace Sys2Proof.Machine

/-! The code table (Tables 13.1 and 13.2). -/

/-- Causes of a block by class: I, C, E, M, S. -/
def blockCauses (b : Nat) : List (List Nat) :=
  match b with
  | 0x01 => [[1], [], [], [3, 4], [2]]
  | 0x02 => [[1, 2, 3, 4, 5, 6, 8, 9, 10], [], [], [7], []]
  | 0x03 => [[1, 2, 3], [], [6], [4, 5], []]
  | 0x04 => [[1, 2, 3, 5], [4], [], [], []]
  | 0x05 => [[1, 2, 4], [3], [], [], []]
  | 0x06 => [[1, 2, 4], [3], [], [], []]
  | 0x07 => [[2, 4], [1], [], [3], []]
  | 0x08 => [[7], [2, 3, 6], [1, 4, 5], [], []]
  | 0x09 => [[6], [3, 4], [1, 2, 5], [], []]
  | 0x0A => [[2, 4, 5], [], [], [1], [3]]
  | 0x0B => [[1, 2, 3, 4, 5], [], [], [], []]
  | 0x0C => [[1], [], [], [2, 3, 4], []]
  | 0x0D => [[1, 5], [], [], [2, 4, 6], [3, 7]]
  | 0x0E => [[3, 4, 5], [], [], [1, 2], []]
  | 0x0F => [[3, 5, 8, 9], [], [1, 2], [4, 7], [6]]
  | 0x10 => [[8, 9, 10], [], [1, 2, 3, 4, 5, 6, 7], [], []]
  | 0x11 => [[6], [], [2], [], [1, 3, 4, 5]]
  | 0x12 => [[1, 2, 3], [], [], [], []]
  | 0x13 => [[1, 2, 3, 6, 7, 10], [], [], [], [4, 5, 8, 9]]
  | 0x14 => [[1, 6], [], [], [3, 4, 5], [2, 7]]
  | 0x15 => [[1, 2, 3, 4, 5], [], [], [], [6]]
  | 0x16 => [[], [], [], [], [1, 2, 3]]
  | _ => []

/-- Classes in ascending severity (R394). -/
def classes : List FClass := [.i, .c, .e, .m, .s]

/-- The class of a fault code; `none` for a code of neither table (R394). -/
def faultClass (code : Nat) : Option FClass :=
  ((classes.zip (blockCauses (code / 256))).find? (fun p => p.2.contains (code % 256))).map (·.1)

/-- Every fault code of Tables 13.1 and 13.2 (R12). -/
def faultCodes : List Nat :=
  (List.range 0x17).flatMap (fun b => (blockCauses b).flatten.map (fun c => 256 * b + c))

/-- A code that is in Table 13.1 or 13.2. -/
def isFault (code : Nat) : Bool := (faultClass code).isSome

/-- The higher of two classes. -/
def FClass.max (a b : FClass) : FClass := if a.num < b.num then b else a

/-! Fenceable units (R393). -/

/-- The fenceable kind that a block's sources are. -/
def blockKind (b : Nat) : Option UnitKind :=
  match b with
  | 0x08 => some .pix
  | 0x09 => some .enc
  | 0x0F => some .core
  | 0x10 => some .syn
  | _ => none

/-- Units of a kind (R393). -/
def unitCount : UnitKind → Nat
  | .syn => 3
  | .pix => 3
  | .enc => 3
  | .core => 4

/-- The owner tag of an engine (Table 10.5), which also marks its causes; cores own no cells. -/
def unitTag (k : UnitKind) (u : Nat) : Nat :=
  match k with
  | .syn => 0x90 + u
  | .pix => 0x93 + u
  | .enc => 0x96 + u
  | .core => 0xC0 + u

/-- The code logged when a fenced unit fails its retest. -/
def retestCode : UnitKind → Nat
  | .syn => 0x100A
  | .pix => 0x0807
  | .enc => 0x0906
  | .core => 0x0F09

/-- Healthy units of a fenceable kind. -/
def State.healthyOf (s : State) (k : UnitKind) : Nat :=
  ((List.range (unitCount k)).filter (fun u => !s.isFenced k u)).length

/-- What a fault acts on. -/
structure Targets where
  /-- The fenceable unit that reports it. -/
  unit : Option (UnitKind × Nat) := none
  /-- Channels that a Class C code names. -/
  chans : List Nat := []
  /-- Jobs that the unit had begun or holds, or whose entries cannot be read (HIF 0x0207). -/
  jobs : List Nat := []

/-! SAFE (R402, R449, Table 14.8). -/

/-- The states of Table 14.8: displays run their power-down, field outputs take their safe levels, the data
path and the tick stop; from RETAIN the rails, the SRAM banks and the PLLs run again (R449). Pads follow from the state (Machine/Pads.lean). -/
def State.enterSafe (s : State) : State :=
  if s.guard.safe then s
  else
    let s := s.bump GRD_REACT_COUNT 4
    let s := (List.range 3).foldl (fun s d => s.panelDown d) s
    let p := s.power
    let s : State := { s with
      guard := { s.guard with safe := true, restarting := false, resumeAtEdge := false, waiting := [] },
      power := { p with mode := .safe, from_ := (match p.mode with
                                                  | .off => 0
                                                  | .deepStandby => 1
                                                  | .retain => 2
                                                  | .idle => 3
                                                  | .run => 4
                                                  | .safe => 5),
                        trans := .none, cause := 4 },
      bus := { s.bus with endpointOff := false },
      tick := { s.tick with stopped := true, out := false, composing := [], composed := [], cmpStarted := false },
      pwr := { s.pwr with op := 0, target := 0, throttle := false },
      mem := { s.mem with selfRefresh := false },
      csi := s.csi.map (fun c => { c with hsActive := false, i2cLow := false, frames := [] }),
      eth := s.eth.map (fun e => { e with sending := none }),
      fio := { s.fio with safeLevels := true, stopped := true } }
    (if p.mode = .retain ∨ p.mode = .deepStandby then
       ({ s with mem := { s.mem with bankOn := 0xFFFF } }).lockPlls
     else s).flushMsi

/-! Discards. -/

/-- Jobs of the same channels that were admitted later in the same tick (R399). -/
def State.dependants (s : State) (ids : List Nat) : List Nat :=
  let js := (s.hif.jobs ++ s.hif.live)
  let hit := js.filter (fun j => ids.contains j.id)
  let later := js.filter (fun j => decide (j.phase = .admitted) &&
    hit.any (fun h => h.desc.channel == j.desc.channel && decide (h.desc.channel < 32) && decide (h.id < j.id)))
  later.foldl (fun l j => ladd l j.id) (ids.foldl ladd [])

/-- Jobs among `ids` that have not ended. -/
def State.openJobs (s : State) (ids : List Nat) : List Nat :=
  ids.filter (fun i =>
    match s.job? i with
    | none => false
    | some j =>
      match j.phase with
      | .done _ => false
      | _ => true)

/-- The channels of jobs, each once. -/
def State.jobChans (s : State) (ids : List Nat) : List Nat :=
  ids.foldl (fun l i =>
    match s.job? i with
    | none => l
    | some j => if j.desc.channel < 32 then ladd l j.desc.channel else l) []



/-- A core stops: its thread waits again with its counter reloaded or its flags cleared (R363). -/
def State.stopCore (s : State) (c code : Nat) : State :=
  let s' := s.setCore c { s.core c with thread := none, prev := (s.core c).thread, fenceCause := code }
  match (s.core c).thread with
  | none => s'.trace 6 c 0xFFFF 0 none .empty
  | some t =>
    let x := s.thread t
    let x := { x with usedNs := 0 }
    let x := if x.flagsMode then { x with state := 1, flags := 0 }
             else { x with state := 1, counter := x.reload - x.pending, pending := 0 }
    let s' := s'.setThread t x
    let s' := if code = 0x0F01 then s'.trace 5 c t 0 none x else s'
    let s' := s'.trace 6 c t 0 none x
    if x.due then s'.makeReady t else s'.dispatch

/-- Jobs that the thread on a core serves: those bound to its counter (R363). -/
def State.servedBy (s : State) (c : Nat) : List Nat :=
  match (s.core c).thread with
  | none => []
  | some t => (s.thread t).bounds.filterMap (fun b =>
      match b with
      | .job id => some id
      | .submission _ => none
      | .completion _ => none)

/-- A unit is fenced at once (R399); the last of its kind raises GRD 0x1106 (R400). -/
def State.fence (s : State) (k : UnitKind) (u code : Nat) : State :=
  if s.isFenced k u then s
  else
    let s := { s with guard := { s.guard with fenced := s.guard.fenced ++ [(k, u, code)] } }
    let s := s.present code (unitTag k u)
    let s := match k with
      | .core => s.stopCore u code
      | .syn => { s with engines := lmod s.engines u SynEngine.idle }
      | .pix => s
      | .enc => s
    match k with
    | .core => s
    | _ => if s.healthyOf k = 0 then s.raiseCond 0x1106 { source := unitTag k 0 } else s

/-- What a Class E fault discards: the unit's jobs and their dependants; tags are due for reclaim
(R399, Table 10.6). What the unit had not begun goes to the other units of its kind, which begin it (R89), and displays
that waited for a discarded decode are composed (R284). -/
def State.discardE (s : State) (k : UnitKind) (u code : Nat) (ids : List Nat) : State :=
  let chans := s.jobChans ids
  let s := ids.foldl (fun s id => s.discardJob code id) s
  let s := s.dueTags ((match k with
              | .core => []
              | _ => [unitTag k u]) ++ chans.map (0x20 + ·))
  let s := match k with
    | .syn => s.moveWork u
    | .pix => s
    | .enc => s
    | .core => s
  s.feedEngines.maybeCompose

/-! The Class M restart (R371, R401, Table 10.6). -/

/-- Tags that a Class M restart reclaims. -/
def classMTags : List Nat :=
  (List.range 32).map (0x20 + ·) ++ (List.range 11).map (0x90 + ·) ++ (List.range 16).map (0x80 + ·) ++
    (List.range 32).map (0xA0 + ·)

/-- Jobs that a Class M restart discards. -/
def State.allWork (s : State) : List Nat := s.openJobs ((s.hif.jobs ++ s.hif.live).map (·.id))

/-- The end of one job in a Class M restart: DISCARDED_FAULT on an unordered ring when its entry can be read;
every other job falls under R132, and a completion held for an ordered flow is lost and counted (R371). -/
def State.restartJob (code : Nat) (unreadable : List Nat) (s : State) (j : Job) : State :=
  match j.phase with
  | .done _ => if j.flow.isSome then (s.bump HIF_CPL_LOST_COUNT).dropJob j.id else s
  | _ =>
    if j.flow.isSome || j.origin != .host || unreadable.contains j.id then s.dropJob j.id
    else s.endJob j.id { status := 0x40, fault := code }

/-- A channel in a Class M restart: its configuration is kept and its work is gone. -/
def Channel.afterM (c : Channel) : Channel :=
  { c with slot1 := none, slot2 := none, closing := [], exporting := none, restart := false, dpb := [],
           enc := c.enc.map (fun e => { e with idrNext := true, stopping := none, heldFrames := [] }) }

/-- What a Class M restart resets: the engines, the Dispatcher and its flows, open access units, the egress
queues, the composition of the tick and the overlay copies (R401). -/
def State.resetPath (s : State) : State :=
  let core := fun c : Core => { c with thread := none, prev := none }
  let flow := fun f : Flow => { f with unit := none }
  let queue := fun q : Queue => { q with frames := [], netBytes := 0 }
  { s with
    hif := { s.hif with restartJobs := s.hif.nextJob, creating := [] }
    chans := s.chans.map (fun p => (p.1, p.2.afterM))
    engines := s.engines.map (fun _ => SynEngine.reset)
    sch := { s.sch with threads := [], flows := [], cores := s.sch.cores.map core }
    flows := s.flows.map (fun p => (p.1, flow p.2))
    queues := s.queues.map (fun p => (p.1, queue p.2))
    tick := { s.tick with composing := [], composed := [], cmpStarted := false }
    cmp := { s.cmp with copies := [], holdFrom := some s.ktime } }

/-- A Class M restart starts. -/
def State.startM (s : State) (code : Nat) (unreadable : List Nat) : State :=
  let g := { s.guard with restarting := true, resumeAtEdge := false, mStarts := s.guard.mStarts ++ [s.ktime] }
  let bare := fun j : Job => { j with cells := [] }
  let s := { s with guard := g, hif := { s.hif with jobs := s.hif.jobs.map bare, live := s.hif.live.map bare } }
  let s := (s.hif.jobs ++ s.hif.live).foldl (State.restartJob code unreadable) s
  let back := s.cmp.copies.flatMap (·.cells)
  (back.foldl (fun s h => s.returnCell h) s.resetPath).dueTags classMTags

/-- One more Class M start now would exceed M_LIMIT within M_WINDOW_S (R408). -/
def State.overLimit (s : State) : Bool :=
  let limit := s.fld GRD_CTL 3 0
  let window := atLeast1 (s.fld GRD_CTL 15 8) * 10 ^ 9
  limit != 0 && decide (limit ≤ (s.guard.mStarts.filter (fun t => decide (s.ktime < t + window))).length)

/-! Raising a fault (R394 to R408, R428, R579). -/

/-- The class that a fault is carried out as by itself: Class E from a source that is not fenceable acts as M
(R393). -/
def effClass (cls : FClass) (t : Targets) : FClass :=
  match cls with
  | .e => if t.unit.isSome then .e else .m
  | .i => .i
  | .c => .c
  | .m => .m
  | .s => .s

/-- The fault starts no reaction: a Class C code that names no channel, or Class E on a unit that is already
fenced (R579). -/
def State.idleFault (s : State) (cls : FClass) (t : Targets) : Bool :=
  match cls with
  | .c => t.chans.isEmpty
  | .e =>
    match t.unit with
    | some (k, u) => s.isFenced k u
    | none => false
  | _ => false

/-- A low-power entry, mode or exit defers Class C and M reactions (R428). -/
def State.lowPower (s : State) : Bool :=
  match s.power.trans with
  | .none => decide (s.power.mode = .retain ∨ s.power.mode = .deepStandby)
  | .requested _ _ => decide (s.power.mode = .retain ∨ s.power.mode = .deepStandby)
  | .entering m => decide (m ≠ .idle)
  | .quiesced _ => true
  | .exiting m => decide (m ≠ .idle)

/-- A fence of this unit would leave fewer than two healthy cores (R364). -/
def State.lastCores (s : State) (t : Targets) : Bool :=
  match t.unit with
  | some (.core, u) => !s.isFenced .core u && decide (s.healthyOf .core ≤ 2)
  | _ => false

/-- The jobs that one fault discards by its own targets. -/
def State.ownWork (s : State) (cls : FClass) (t : Targets) : List Nat :=
  match cls with
  | .c => (t.chans.flatMap s.chanWork).foldl ladd []
  | .e =>
    match t.unit with
    | some (.core, u) => s.openJobs (s.dependants (t.jobs ++ s.servedBy u))
    | _ => s.openJobs (s.dependants t.jobs)
  | _ => []

/-- One fault's own targets are acted on (R398, R399); a Class M restart already covers the channels. -/
def State.actOn (s : State) (code : Nat) (cls : FClass) (t : Targets) (acting : FClass) : State :=
  match cls with
  | .c => if acting = .m then s else (t.chans.foldl (fun s n => s.discardChan code n) s).feedEngines.maybeCompose
  | .e =>
    match t.unit with
    | none => s
    | some (k, u) =>
      let ids := s.ownWork .e t
      (s.fence k u code).discardE k u code ids
  | _ => s

/-- The reaction in progress takes a class and a code. -/
def State.setReaction (s : State) (r : Reaction) : State := { s with guard := { s.guard with reaction := some r } }

/-- A fault is merged into the reaction in progress: log with MERGED and LINK, no vector (R405). -/
def State.logMerged (s : State) (code : Nat) (cls acting : FClass) (i : FaultInfo) (link : Nat) : State :=
  (s.bump GRD_MERGE_COUNT).logFault code cls acting { i with merged := true, link := link }

/-- SAFE follows from a reaction acting as Class S; above M_LIMIT or at the last two cores the Guard's own code
is raised with it, merged (R364, R408). -/
def State.toSafe (s : State) (link extra : Nat) : State :=
  let s := if extra = 0 then s
           else (((s.setStatus extra).present extra 0xFF).logMerged extra .s .s {} link)
  s.enterSafe

/-- A fault of class C, E, M or S is taken outside SAFE, with or without a reaction in progress. -/
def State.react (s : State) (code : Nat) (cls : FClass) (i : FaultInfo) (t : Targets) : State :=
  let eff := effClass cls t
  let old : FClass := match s.guard.reaction with
    | none => .i
    | some r => r.acting
  let newM := decide (eff = .m) && decide (old ≠ .m)
  let extra := if newM && s.overLimit then 0x1105 else if s.lastCores t then 0x0F06 else 0
  let acting := if extra = 0 then old.max eff else .s
  let ids := if acting = .s then [] else if newM then s.allWork else if acting = .m then [] else s.ownWork cls t
  let i := { i with discarded := ids.length }
  let first := match s.guard.reaction with
    | none => code
    | some r => r.first
  let s := match s.guard.reaction with
    | none =>
      let s := { s with guard := { s.guard with firstCode := code } }
      let s := s.setReaction
        { first := code, acting := acting, startNs := s.ktime, edges := 0, codes := [(code, i.source)] }
      ((s.logFault code cls acting i).signal 65).hwFlag 4
    | some r =>
      let s := s.setReaction { r with acting := acting, codes := r.codes ++ [(code, i.source)] }
      s.logMerged code cls acting i r.first
  let s := if cls = .e ∧ t.unit.isSome = true then s else s.present code i.source
  if acting = .s then s.toSafe first extra
  else
    let s := if newM then s.startM code t.jobs else s
    s.actOn code cls t acting

/-- A fault is raised (R394 to R408). -/
def State.raise (s : State) (code : Nat) (i : FaultInfo := {}) (t : Targets := {}) : State :=
  match faultClass code with
  | none => s
  | some cls =>
    let i := if i.channel = 0xFF then { i with channel := t.chans.headD 0xFF } else i
    let eff := effClass cls t
    let s := s.setStatus code
    if cls = .i then s.logFault code .i .i i
    else if s.guard.safe then
      let s := s.logFault code cls .i i
      if cls = .s then s.present code i.source else s
    else if s.idleFault cls t then s.logFault code cls .i i
    else if s.lowPower ∧ (eff = .c ∨ eff = .m) then
      let nr := s.log.wr
      let s := (s.logFault code cls eff i).present code i.source
      { s with guard := { s.guard with waiting := s.guard.waiting ++ [(code, i.source, t.chans, nr)] } }
    else s.react code cls i t

/-- A wrong check word found by an allocation is BPM 0x0E02, Class M ("When it fails" of allocation). -/
def State.raiseMismatch (s : State) : State :=
  match s.bpm.mismatch with
  | none => s
  | some c => ({ s with bpm := { s.bpm with mismatch := none } }).raise 0x0E02 { source := c }

/-- What a failed allocation leads to: the requester's outcome, or, where a wrong check word was found, the fault, whose
reaction discards the requester's job. -/
def State.poolFails (s : State) (outcome : State → State) : State :=
  if s.bpm.mismatch.isSome then s.raiseMismatch else outcome s

/-- A deferred fault after the first sets MERGED and LINK in its entry (R405, R428). -/
def State.mergeEntry (s : State) (nr code link : Nat) : State :=
  { s with log := { s.log with entries := tmod .zero s.log.entries (nr % 2048) (fun e =>
      if e.code = code then { e with cls := putBits e.cls 6 6 1, link := link } else e) } }

/-- Deferred reactions start as one at the exit from a low-power mode, and vector 65 is signalled (R428). -/
def State.startWaiting (s : State) : State :=
  match s.guard.waiting with
  | [] => s
  | (code, src, chans, _) :: rest =>
    let eff := fun (c : Nat) => match faultClass c with
      | some .c => FClass.c
      | _ => FClass.m
    let top : FClass := rest.foldl (fun cl x => FClass.max cl (eff x.1)) (eff code)
    let s := { s with guard := { s.guard with waiting := [], firstCode := code } }
    let mcode := (((code, src, chans, 0) :: rest).find? (fun x => decide (eff x.1 = .m))).map (·.1)
    let extra : Nat := if decide (top = FClass.m) && s.overLimit then 0x1105 else 0
    let acting : FClass := if extra = 0 then top else FClass.s
    let s := rest.foldl (fun s x => (s.mergeEntry x.2.2.2 x.1 code).bump GRD_MERGE_COUNT) s
    let codes := (code, src) :: rest.map (fun x => (x.1, x.2.1))
    let r : Reaction := { first := code, acting := acting, startNs := s.ktime, edges := 0, codes := codes }
    let s := ((s.setReaction r).signal 65).hwFlag 4
    if acting = .s then s.toSafe code extra
    else if acting = .m then s.startM (mcode.getD code) []
    else ((code, src, chans, 0) :: rest).foldl (fun s x => x.2.2.1.foldl (fun s n => s.discardChan x.1 n) s) s

/-! Completion of reactions. -/

/-- The reaction ends: it is counted under the class carried out, and its Class C and M causes are gone
(R410, R582). -/
def State.endReaction (s : State) : State :=
  match s.guard.reaction with
  | none => s
  | some r =>
    let s := s.bump GRD_REACT_COUNT r.acting.num
    let gone := fun (p : Nat × Nat) =>
      r.codes.contains p && !s.guard.fenced.any (fun f => f.2.2 == p.1 && unitTag f.1 f.2.1 == p.2)
    { s with guard := { s.guard with reaction := none, live := s.guard.live.filter (fun p => !gone p) } }

/-- The reaction at a tick edge: Class C and E complete there (Table 13.3, R404). -/
def State.reactionEdge (s : State) : State :=
  match s.guard.reaction with
  | none => s
  | some r =>
    match r.acting with
    | .c => s.endReaction
    | .e => s.endReaction
    | .i => s
    | .m => s.setReaction { r with edges := r.edges + 1 }
    | .s => s

/-- Units that passed their retest return at the edge; their causes are gone (R37, R410). -/
def State.returnUnits (s : State) : State :=
  let back := s.guard.returning
  let s := { s with guard := { s.guard with returning := [],
                                            fenced := s.guard.fenced.filter (fun f => !back.contains (f.1, f.2.1)) } }
  let left := fun (code : Nat) => s.guard.fenced.any (fun f => f.2.2 == code)
  let s := back.foldl (fun s p =>
    let s := s.gone (retestCode p.1) p.2
    let s := if s.healthyOf p.1 = 0 then s else s.gone 0x1106 (unitTag p.1 0)
    match p.1 with
    | .core => (s.trace 7 p.2 0xFFFF 0 none .empty).dispatch
    | _ => s) s
  -- A Class E cause is present while any unit it fenced remains fenced.
  { s with guard := { s.guard with live := s.guard.live.filter (fun p =>
      !(decide (faultClass p.1 = some .e) && decide (0x90 ≤ p.2) && decide (p.2 < 0xD0) && !left p.1)) } }

/-! Status and clearing (R409 to R414). -/

/-- GRD_FSTAT_b bits 15:0. -/
def State.fstat (s : State) (b : Nat) : Nat := tget 0 s.guard.status b
/-- CAUSE_LIVE of a code (R409, R410). -/
def State.causeLive (s : State) (code : Nat) : Bool := s.guard.live.any (fun p => p.1 == code)
/-- CAUSE_LIVE bits of a block. -/
def State.liveBits (s : State) (b : Nat) : Nat :=
  maskOf ((List.range 16).filter (fun k => s.causeLive (b * 256 + k + 1)))

/-- One addressed bit of a clear (R411, R412). -/
def State.clearBit (b : Nat) (s : State) (k : Nat) : State :=
  let code := b * 256 + k + 1
  if bitAt (s.fstat b) k then
    if s.causeLive code then s.bump GRD_CLEAR_IGNORED_COUNT
    else
      let s := { s with guard := { s.guard with status := tput 0 s.guard.status b (putBits (s.fstat b) k k 0) } }
      s.event 0x11 code [0xFF, ((faultClass code).getD .i).num]
  else s

/-- A W1C write to GRD_FSTAT_b (R411). -/
def State.clearStatus (s : State) (b v : Nat) : State :=
  (setBits (v % 65536) 16).foldl (State.clearBit b) s

/-- Any status bit of a class is set: GRD_CLASS_SUM. -/
def State.classSet (s : State) (cl : FClass) : Bool :=
  s.guard.status.any (fun p => (setBits p.2 16).any (fun k => decide (faultClass (p.1 * 256 + k + 1) = some cl)))
/-- Any status bit is set. -/
def State.anyStatus (s : State) : Bool := s.guard.status.any (fun p => p.2 != 0)
/-- Any status bit of a Class C, E, M or S cause is set (R414). -/
def State.severeStatus (s : State) : Bool :=
  s.classSet .c || s.classSet .e || s.classSet .m || s.classSet .s

end Sys2Proof.Machine
end

