-- ==== Sys2Proof/Machine/Wire.lean ====
section
/-! DEFINITION. Byte strings on Ethernet: the parts of a received frame, and the frames that the module builds
(R188 to R190, R211, R254). Byte strings are in network order. Header fields that the spec leaves to the module (type of
service, identification, don't-fragment, time to live, whether UDP carries a checksum) come from a free word
(notes/assumptions/147.md). -/

namespace Sys2Proof.Machine

/-- Byte `i` of a byte string, 0 past its end. -/
def byteAt (b : List Byte) (i : Nat) : Nat := (lget 0 b i).toNat

/-- Bytes of a number in network order. -/
def beBytes (n v : Nat) : List Byte := (leBytes n v).reverse

/-- Sum of the 16-bit words of a byte string; an odd last byte is filled with zero. -/
def sum16 : List Byte → Nat
  | [] => 0
  | [a] => 256 * a.toNat
  | a :: b :: t => 256 * a.toNat + b.toNat + sum16 t

/-- The ones' complement sum of a string is all ones: its Internet checksum holds. -/
def checksumOk (n : Nat) : Bool := n != 0 && n % 65535 == 0

/-- The Internet checksum of a string with the given sum of words, its own field being zero. -/
def checksumOf (n : Nat) : Nat := 65535 - n % 65535

/-- A frame as steps 3 to 8 of R188 read it. -/
structure Packet where
  ethertype : Nat
  /-- From the IPv4 header on. -/
  ip : List Byte
deriving DecidableEq, Repr

/-- One 802.1Q tag is skipped (R188, step 3). -/
def packetOf (b : List Byte) : Packet :=
  if beAt b 12 2 = 0x8100 then { ethertype := beAt b 16 2, ip := b.drop 18 }
  else { ethertype := beAt b 12 2, ip := b.drop 14 }

/-- Length of the IPv4 header in bytes. -/
def Packet.headLen (p : Packet) : Nat := byteAt p.ip 0 % 16 * 4
/-- IPv4 total length. -/
def Packet.totalLen (p : Packet) : Nat := beAt p.ip 2 2
/-- The header is whole and its checksum holds. -/
def Packet.headerOk (p : Packet) : Bool :=
  byteAt p.ip 0 / 16 == 4 && decide (20 ≤ p.headLen) && decide (p.headLen ≤ p.totalLen) &&
    decide (p.totalLen ≤ p.ip.length) && checksumOk (sum16 (p.ip.take p.headLen))
/-- MF is set or the fragment offset is not zero. -/
def Packet.fragment (p : Packet) : Bool := beAt p.ip 6 2 % 16384 != 0
/-- Source and destination address. -/
def Packet.src (p : Packet) : Nat := beAt p.ip 12 4
def Packet.dst (p : Packet) : Nat := beAt p.ip 16 4
/-- The packet carries UDP with a whole header. -/
def Packet.isUdp (p : Packet) : Bool := byteAt p.ip 9 == 17 && decide (p.headLen + 8 ≤ p.totalLen)
/-- The UDP datagram. -/
def Packet.udp (p : Packet) : List Byte := (p.ip.take p.totalLen).drop p.headLen
/-- UDP ports. -/
def Packet.srcPort (p : Packet) : Nat := beAt p.udp 0 2
def Packet.dstPort (p : Packet) : Nat := beAt p.udp 2 2
/-- The UDP checksum is zero or holds over the pseudo-header and the datagram. -/
def Packet.udpOk (p : Packet) : Bool :=
  beAt p.udp 6 2 == 0 || checksumOk (sum16 ((p.ip.drop 12).take 8) + 17 + beAt p.udp 4 2 + sum16 (p.udp.take (beAt p.udp 4 2)))

/-! Frames that the module builds (R211, R254). -/

/-- Where a frame of the module goes and comes from. -/
structure Addresses where
  dstMac : Nat
  srcMac : Nat
  srcIp : Nat
  dstIp : Nat
  srcPort : Nat
  dstPort : Nat
deriving DecidableEq, Repr

/-- A UDP datagram; its checksum is filled in when bit 33 of `choice` is set, otherwise it is 0. -/
def udpDatagram (a : Addresses) (choice : Nat) (payload : List Byte) : List Byte :=
  let len := payload.length + 8
  let ports := beBytes 2 a.srcPort ++ beBytes 2 a.dstPort ++ beBytes 2 len
  let sum := checksumOf (sum16 (beBytes 4 a.srcIp ++ beBytes 4 a.dstIp) + 17 + len + sum16 (ports ++ payload))
  let sum := if sum = 0 then 65535 else sum
  ports ++ beBytes 2 (if bitAt choice 33 then sum else 0) ++ payload

/-- An IPv4 packet that carries UDP: no options, not a fragment. -/
def ipv4Packet (a : Addresses) (choice : Nat) (payload : List Byte) : List Byte :=
  let udp := udpDatagram a choice payload
  let head := [0x45, BitVec.ofNat 8 (choice % 256)] ++ beBytes 2 (udp.length + 20) ++ beBytes 2 (choice / 2 ^ 8 % 2 ^ 16) ++
    beBytes 2 (if bitAt choice 32 then 0x4000 else 0) ++ [BitVec.ofNat 8 (atLeast1 (choice / 2 ^ 24 % 256)), 17]
  let tail := beBytes 4 a.srcIp ++ beBytes 4 a.dstIp
  head ++ beBytes 2 (checksumOf (sum16 (head ++ tail))) ++ tail ++ udp

/-- An Ethernet frame that carries a UDP payload, from the destination address to the last byte, padded to 60 bytes. -/
def udpFrame (a : Addresses) (choice : Nat) (payload : List Byte) : List Byte :=
  let b := beBytes 6 a.dstMac ++ beBytes 6 a.srcMac ++ beBytes 2 0x0800 ++ ipv4Packet a choice payload
  padTo (max 60 b.length) b

end Sys2Proof.Machine
end

