-- ==== Sys2Proof/Machine/Egress.lean ====
section
/-! DEFINITION. Egress shaping: the credit of the queues, what waits in them, and what the ports send
(R201 to R209). Credits are held in billionths of a byte. -/

namespace Sys2Proof.Machine

/-- A queue may start its head frame (R202). -/
def State.eligible (s : State) (q : Nat) : Bool :=
  s.qOn q && !(s.queue q).frames.isEmpty && decide (0 ≤ s.creditNow q)

/-- An Ethernet port. -/
def State.ethPort (s : State) (m : Nat) : EthPort := lget .reset s.eth m
/-- Change an Ethernet port. -/
def State.modEth (s : State) (m : Nat) (f : EthPort → EthPort) : State := { s with eth := lmod s.eth m f }

/-- The station MAC address of a port. -/
def State.stationMac (s : State) (m : Nat) : Nat := s.fld ETH_MAC_HI 15 0 m * 2 ^ 32 + s.rd ETH_MAC_LO m

/-- Picoseconds that one byte takes on a port's line (R187). -/
def State.bytePs (s : State) (m : Nat) : Nat :=
  match s.fld ETH_CFG 2 1 m with
  | 0 =>
    match s.fld ETH_CFG 4 3 m with
    | 0 => 800000
    | 1 => 80000
    | _ => 8000
  | 1 => 8000
  | _ => 3200

/-! Time stamps of the MACs (R210). -/

/-- A port's PTP time at Keeper time `ps`, in ns. -/
def State.ptpTime (s : State) (m ps : Nat) : Nat :=
  let c := (s.ethPort m).ptp
  c.baseNs + (ps - c.basePs) / 1000

/-- The stamp of a start-of-frame delimiter at Keeper time `ps`: the port's PTP time in steps of 8 ns (R210). -/
def State.stamp (s : State) (m ps : Nat) : Nat := s.ptpTime m ps / 8 * 8

/-- What a frame of `len` bytes, without FCS, is charged (R201). -/
def frameCharge (len : Nat) : Nat := max 64 (len + 4) + 20

/-- The frame is a packet of an encode. -/
def TxFrame.isEncode (f : TxFrame) : Bool :=
  match f.owner with
  | .netTx _ => false
  | .encode _ _ => true
  | .ptp _ => false

/-- A port starts a frame: `q` is its queue, 16 for the PTP clock. The start-of-frame delimiter follows seven bytes of
preamble, and the MAC stamps it; the stamp of a delay request is kept for the clock (R210, R211). -/
def State.sendFrame (s : State) (m q : Nat) (f : TxFrame) : State :=
  let stamp := s.stamp m (s.clock.ps + 7 * s.bytePs m)
  s.modEth m (fun e =>
    { e with sending := some (q, f), sendEnd := s.clock.ps + f.charge * s.bytePs m, txStamp := stamp,
             ptp := match f.owner with
               | .netTx _ => e.ptp
               | .encode _ _ => e.ptp
               | .ptp n => { e.ptp with req := some (n, stamp) } })

/-- A free port starts the next frame: the PTP clock's, or the head of the lowest-numbered eligible queue
(R203). A packet of an encode that starts more than a tick after it was queued is late (R205). -/
def State.startPort (s : State) (m : Nat) : State :=
  let e := s.ethPort m
  if e.link = false ∨ e.sending.isSome = true ∨ s.guard.safe = true then s
  else
    match e.ptpQueue, (List.range 16).find? (fun q => s.qPort q == m && s.eligible q) with
    | f :: rest, _ => (s.modEth m (fun e => { e with ptpQueue := rest })).sendFrame m 16 f
    | [], none => s
    | [], some q =>
      let s := s.touchQueue q
      let x := s.queue q
      match x.frames with
      | [] => s
      | f :: rest =>
        let late := f.isEncode && decide (s.tick.periodNs * 1000 < s.clock.ps - f.queuedPs)
        let credit := x.credit - (f.charge * 10 ^ 9 : Nat)
        let credit := if rest.isEmpty ∧ 0 < credit then 0 else credit
        let s := s.setQueue q { x with frames := rest, credit := credit }
        let s := if late then s.bump TRF_Q_LATE_COUNT q else s
        s.sendFrame m q f

/-- A frame enters a queue; a port that is free starts it if it may. -/
def State.enqueue (s : State) (q : Nat) (f : TxFrame) : State :=
  let s := s.touchQueue q
  let x := s.queue q
  let net := match f.owner with
    | .netTx _ => f.len
    | .encode _ _ => 0
    | .ptp _ => 0
  let s := s.setQueue q { x with frames := x.frames ++ [f], netBytes := x.netBytes + net }
  s.startPort (s.qPort q)

/-- A NET_TX frame has left, or was flushed: its job ends and its cell is free (R207, R209). -/
def State.txDone (s : State) (q : Nat) (f : TxFrame) (e : End) : State :=
  match f.owner with
  | .netTx job =>
    let x := s.queue q
    let s := s.setQueue q { x with netBytes := x.netBytes - f.len }
    let s := match f.cell with
      | some h => s.freeCell h (0x80 + q)
      | none => s
    s.endJob job e
  | .encode _ _ => s
  | .ptp _ => s

/-- The queues of a port are flushed and their credit returns to 0 (R209). -/
def State.flushQueue (s : State) (q : Nat) : State :=
  let fs := (s.queue q).frames
  let s := s.setQueue q { s.queue q with frames := [], credit := 0, creditNs := s.ktime }
  fs.foldl (fun s f => s.txDone q f { status := 0x40, fault := 0x0601 }) s

/-- Jobs whose frames a flush of a port ends. -/
def State.flushedJobs (s : State) (m : Nat) : Nat :=
  (((List.range 16).filter (fun q => s.qPort q == m)).flatMap (fun q =>
    (s.queue q).frames.filter (fun f =>
      match f.owner with
      | .netTx _ => true
      | .encode _ _ => false
      | .ptp _ => false))).length

end Sys2Proof.Machine
end

