-- ==== Sys2Proof/Machine/Encoders.lean ====
section
/-! DEFINITION. Encoding: the parameter block and its checks, rate-control targets and byte caps, packets, the
bitstream ring and the end of a stream (R243 to R269). -/

namespace Sys2Proof.Machine

/-! The parameter block (Table 7.4). -/

/-- The parameter block read out; `me` is ENC_CTL.ME_RANGE and `cq` the completion ring of START. -/
def encoderOf (b : List Byte) (me cq : Nat) : Encoder :=
  { source := leAt b 0 1, profile := leAt b 1 1, level := leAt b 2 1, rcMode := leAt b 3 1,
    bitrate := leAt b 4 4, maxKbps := leAt b 8 4, window := leAt b 0xC 2, qpI := leAt b 0xE 1,
    qpP := leAt b 0xF 1, qpB := leAt b 0x10 1, qpMin := leAt b 0x11 1, qpMax := leAt b 0x12 1,
    numB := leAt b 0x13 1, gopLen := leAt b 0x14 2, irPeriod := leAt b 0x16 2, frameDiv := leAt b 0x18 1,
    out := leAt b 0x19 1, queue := leAt b 0x1A 1, ctb := leAt b 0x1B 1, pktPayload := leAt b 0x1C 2,
    pt := leAt b 0x1E 1, targetPct := leAt b 0x1F 1, ssrc := leAt b 0x20 4, dstIp := leAt b 0x24 4,
    dstPort := leAt b 0x28 2, srcPort := leAt b 0x2A 2, dstMac := leAt b 0x2C 6, maxFrame := leAt b 0x34 4,
    bsBase := leAt b 0x38 8, bsSize := leAt b 0x40 4, meRange := me, cq := cq, seq := 0, gopPos := 0,
    irPos := 0, idrNext := true, qpMaxNext := false, stopping := none, heldFrames := [], history := [],
    afterDiscard := false, divCount := 0, bsWrite := 0, bsRecords := [], prevBits := [0, 0, 0], lastQp := 0,
    lastBytes := 0, buffer := 0, startTick := 0, poc := 0, rtpSeq := 0 }

/-- OUT.HOST. -/
def Encoder.toHost (e : Encoder) : Bool := bitAt e.out 0
/-- OUT.NET. -/
def Encoder.toNet (e : Encoder) : Bool := bitAt e.out 1
/-- OUT.LOW_LATENCY. -/
def Encoder.lowLatency (e : Encoder) : Bool := bitAt e.out 2

/-- Codec numbers of a channel (Table 4.4): 1 JPEG, 2 H.264, 3 H.265. -/
def codecJpeg : Nat := 1
def codecH264 : Nat := 2
def codecH265 : Nat := 3

/-- Size of the pictures that an encode codes: the display's for panel capture, else the channel's. -/
def State.encSize (s : State) (n : Nat) (e : Encoder) : Nat × Nat :=
  if 1 ≤ e.source ∧ e.source ≤ 3 then (s.hActive (e.source - 1), s.vActive (e.source - 1))
  else ((s.chan n).width, (s.chan n).height)

/-- The partner that a channel's binding names, while it is present. -/
def State.boundPartner (s : State) (n : Nat) : Option Nat :=
  (s.partners.find? (fun p => p.2.type != 0 && !p.2.leaving && bindingNames (s.chan n) p.1 p.2)).map (·.1)

/-- The camera of a channel sends RGB888. -/
def Partner.isRgb (x : Partner) : Bool := x.type == 1 && x.format == 0x24

/-- The chroma format that an encode codes, as far as its source is known: 4:2:2 for a JPEG channel whose camera sends it
or is not known yet, else 4:2:0 (R244, Table 7.1; notes/assumptions/151.md). -/
def State.encChroma (s : State) (n : Nat) (e : Encoder) : Nat :=
  if (s.chan n).codec = 1 ∧ e.source = 0 then
    match s.boundPartner n with
    | none => 2
    | some p =>
      let x := s.partner p
      if bitAt x.flags 1 = false ∨ x.type = 1 ∧ x.format = 0x1E ∨ x.type = 2 ∧ x.format = 1 then 2 else 1
  else 1

/-- Lines of one coding-block row: MB, CTB, or JPEG MCU row of 4:2:0 or 4:2:2 (R260, Table 7.1). -/
def rowLines (codec ctb chroma : Nat) : Nat :=
  if codec = 3 then (if ctb = 1 then 64 else 32) else if codec = 1 ∧ chroma = 2 then 8 else 16

/-- Coding-block rows of a picture. -/
def State.encRows (s : State) (n : Nat) (e : Encoder) : Nat :=
  ceilDiv (s.encSize n e).2 (rowLines (s.chan n).codec e.ctb (s.encChroma n e))

/-- Coding-block rows of the frame of a job. -/
def State.frameRows (s : State) (j : Job) (e : Encoder) : Nat :=
  match j.source with
  | some i => ceilDiv i.height (rowLines (s.chan j.desc.channel).codec e.ctb i.chroma)
  | none => s.encRows j.desc.channel e

/-! Levels: luma size and luma rate limits of ITU-T H.264 Table A-1 and H.265 Tables A.8 and A.9. -/

/-- H.264 level limits: level_idc, macroblocks per second, macroblocks per frame. -/
def h264Levels : List (Nat × Nat × Nat) :=
  [(9, 1485, 99), (10, 1485, 99), (11, 3000, 396), (12, 6000, 396), (13, 11880, 396), (20, 11880, 396),
   (21, 19800, 792), (22, 20250, 1620), (30, 40500, 1620), (31, 108000, 3600), (32, 216000, 5120),
   (40, 245760, 8192), (41, 245760, 8192), (42, 522240, 8704), (50, 589824, 22080), (51, 983040, 36864)]

/-- H.265 level limits: general_level_idc, luma samples per second, luma samples per picture. -/
def h265Levels : List (Nat × Nat × Nat) :=
  [(30, 552960, 36864), (60, 3686400, 122880), (63, 7372800, 245760), (90, 16588800, 552960),
   (93, 33177600, 983040), (120, 66846720, 2228224), (123, 133693440, 2228224), (150, 267386880, 8912896),
   (153, 534773760, 8912896)]

/-- A level carries pictures of a size at `fps` = num / den pictures a second; sizes in units of `unit` lines. -/
def levelHolds (rows : List (Nat × Nat × Nat)) (level w h num den : Nat) : Bool :=
  match rows.find? (fun r => r.1 == level) with
  | none => false
  | some (_, rate, size) =>
    decide (w * h ≤ size) && decide (w * w ≤ 8 * size) && decide (h * h ≤ 8 * size) &&
      decide (w * h * num ≤ rate * den)

/-- The first REFUSED_UNSUPPORTED reason of a request, in table order; 0 for none (R245). -/
def State.encUnsupported (s : State) (n : Nat) (e : Encoder) : Nat :=
  let codec := (s.chan n).codec
  let (w, h) := s.encSize n e
  let jpegHost := codec == 1 && e.source == 4
  let maxW := if jpegHost then 8192 else 4096
  let maxH := if jpegHost then 8192 else 2304
  let num := if e.source = 4 then 0 else 10 ^ 9
  let den := s.tick.periodNs * atLeast1 e.frameDiv
  if w < 64 ∨ h < 64 ∨ maxW < w ∨ maxH < h ∨ w % 2 = 1 ∨ h % 2 = 1 ∨ (s.chan n).width < w ∨ (s.chan n).height < h then 0xA0
  else if (codec = 2 ∧ 2 < e.profile) ∨ (codec ≠ 2 ∧ e.profile ≠ 0) ∨
      (0 < e.numB ∧ (codec ≠ 2 ∨ e.profile = 0)) then 0xA1
  else if (codec = 2 ∧ levelHolds h264Levels e.level (ceilDiv w 16) (ceilDiv h 16) num den = false) ∨
      (codec = 3 ∧ levelHolds h265Levels e.level w h num den = false) ∨ (codec = 1 ∧ e.level ≠ 0) then 0xA2
  else 0

/-- `v` is a power of two between two bounds. -/
def powerWithin (v lo hi : Nat) : Bool := (List.range 33).any (fun k => 2 ^ k == v) && decide (lo ≤ v) && decide (v ≤ hi)

/-- A field of the parameter block lies out of its range (reason 0xB2, Table 7.4, R261). -/
def State.encInvalid (s : State) (n : Nat) (e : Encoder) (b : List Byte) : Bool :=
  let jpeg := (s.chan n).codec == 1
  let ratio := e.rcMode == 1 || e.rcMode == 2
  leAt b 0x32 2 != 0 || leNat (b.drop 0x44) != 0 ||
  decide (4 < e.source) || decide (3 < e.rcMode) ||
  (ratio && (e.window == 0 || decide (1000 < e.window))) ||
  (jpeg && e.rcMode == 0 && (e.qpI == 0 || decide (99 < e.qpI))) ||
  (!jpeg && e.rcMode == 0 && (decide (51 < e.qpI) || decide (51 < e.qpP) || decide (51 < e.qpB))) ||
  (e.rcMode != 0 && (decide (51 < e.qpMin) || decide (51 < e.qpMax))) ||
  decide (2 < e.numB) || e.irPeriod == 1 || decide (s.encRows n e < e.irPeriod) ||
  e.out % 4 == 0 || decide (7 < e.out) || decide (15 < e.queue) || decide (1 < e.ctb) ||
  (e.toNet && (decide (e.pktPayload < 256) || decide (1460 < e.pktPayload))) ||
  (e.toNet && !jpeg && (decide (e.pt < 96) || decide (127 < e.pt))) ||
  (e.rcMode == 3 && (decide (e.targetPct < 50) || decide (100 < e.targetPct))) ||
  (if e.toHost then e.bsBase % 4096 != 0 || !powerWithin e.bsSize 65536 (2 ^ 28) else e.bsBase != 0) ||
  (e.lowLatency && e.numB != 0)

/-- The tail reserve of `m` remaining rows (R264). -/
def tailReserve (rc m : Nat) : Nat := if m = 0 then 0 else (if rc = 3 then 110 else 32) + 16 * m

/-- Another channel's encode sends on the queue, and the encode that is to start, or that one, is in TICK_CBR (R265). -/
def State.queueTaken (s : State) (n : Nat) (e : Encoder) : Bool :=
  e.toNet && s.chans.any (fun p => p.1 != n &&
    (match p.2.enc with
     | some x => x.toNet && x.queue == e.queue && (e.rcMode == 3 || x.rcMode == 3)
     | none => false))

/-- The first failure of a START or UPDATE: status and reason (R245, R261, R265). -/
def State.encRefusal (s : State) (n : Nat) (e : Encoder) (b : List Byte) : Option (Nat × Nat) :=
  if s.encInvalid n e b then some (0x23, 0xB2)
  else if s.encUnsupported n e ≠ 0 then some (0x24, s.encUnsupported n e)
  else if e.rcMode = 3 ∧ e.toNet = false ∨ s.queueTaken n e = true then some (0x23, 0xB3)
  else if e.rcMode = 3 ∧ s.tickCredit e.queue < tailReserve 3 (s.encRows n e) + 110 then some (0x23, 0xB5)
  else none

/-! Frame buffers (R229). -/

/-- Bytes of one frame buffer for a size, bytes per sample and chroma planes in half luma sizes. -/
def frameBytes (w h sample halves : Nat) : Nat :=
  let luma := ceilDiv (w * sample) 128 * 128 * (ceilDiv h 64 * 64)
  luma + luma * halves / 2 + ceilDiv w 16 * ceilDiv h 16 * 16

/-- Bytes of a frame buffer of a codec: the largest format that the codec allows. -/
def codecFrameBytes (codec w h : Nat) : Nat :=
  if codec = 3 then frameBytes w h 2 1 else if codec = 1 then frameBytes w h 1 2 else frameBytes w h 1 1

/-- Bytes of a frame buffer of an encode, which codes 8-bit samples (R229, R250, Table 7.1). -/
def encFrameBytes (chroma w h : Nat) : Nat := frameBytes w h 1 (if chroma = 2 then 2 else 1)

/-! Rate control (R64, Table 7.8). -/

/-- The picture type that the next frame takes: 0 I, 1 P, 2 B; JPEG counts as I. After an anchor the NUM_B frames that
follow it are B pictures; frames that a STOP releases are P pictures (R252, R262). -/
def Encoder.nextType (e : Encoder) (codec : Nat) (idr : Bool) : Nat :=
  if codec = 1 ∨ idr = true then 0 else if 0 < e.numB ∧ (e.gopPos + 1) % (e.numB + 1) ≠ 0 then 2 else 1

/-- The next frame is coded as IDR (R250, R253, R259, R268). GOP_LEN opens no new GOP while a STOP codes the frames that
were held, which are P pictures (R252; notes/assumptions/152.md). -/
def Encoder.idrDue (e : Encoder) (asked : Bool) : Bool :=
  asked || e.idrNext || (e.gopLen != 0 && e.stopping.isNone && decide (e.gopLen ≤ e.gopPos + 1))

/-- The rows that a P picture codes as intra: a band of ceil(rows / p) rows that moves down by one band in each frame, so
that a cycle of p frames covers the picture (R269). -/
def Encoder.intraBand (e : Encoder) (rows : Nat) : List Nat :=
  let band := ceilDiv rows e.irPeriod
  if e.irPeriod = 0 then [] else (List.range rows).filter (fun r => decide (e.irPos * band ≤ r) && decide (r < (e.irPos + 1) * band))

/-- Row `r` of the frame of a job is coded as intra: all rows of an I picture, the band of a P picture (R269). -/
def Job.intraRow (j : Job) (r : Nat) : Bool :=
  j.picType == 0 || j.picType == 3 || (j.picType == 1 && ((j.settings.map (fun e => (e.intraBand j.rows).contains r)).getD false))

/-- The bit term of the cost estimate of a frame (Table 2.3, R64). -/
def State.targetBits (s : State) (n : Nat) (e : Encoder) (luma : Nat) (idr : Bool) : Nat :=
  match e.rcMode with
  | 0 =>
    let prev := lget 0 e.prevBits (e.nextType (s.chan n).codec idr)
    if prev = 0 ∨ (e.afterDiscard = true ∧ idr = true) then 2 * luma else prev * 3 / 2
  | 3 => s.tickCredit e.queue * 8 * e.targetPct / 100
  | _ => e.bitrate * s.tick.periodNs * atLeast1 e.frameDiv / 10 ^ 6

/-- Bytes that a rate in kb/s gives in `k` ticks (Table 7.8). -/
def State.rateBytes (s : State) (kbps k : Nat) : Nat := k * kbps * s.tick.periodNs / 8000000

/-- Bytes coded in the peak window that still count now. -/
def State.windowBytes (s : State) (e : Encoder) : Nat :=
  ((e.history.filter (fun x => decide (s.tick.number.toNat < x.1 + e.window))).map (·.2)).sum

/-- A limit with 0 meaning none. -/
def orLimit (a m : Nat) : Nat := if m = 0 then a else min a m

/-- Frames of a channel that are being coded. -/
def State.coding (s : State) (n : Nat) : List Job :=
  (s.hif.jobs ++ s.hif.live).filter (fun j => j.desc.channel == n && j.desc.opcode == 0x11 && decide (j.phase = .admitted))

/-- Bytes that the frames being coded may still add to the buffer or the peak window of their channel. -/
def State.capsOut (s : State) (n : Nat) : Nat := ((s.coding n).map (·.cap)).sum

/-- The byte cap of a frame (Table 7.8). What other frames of the channel may take in the same tick is not there for
it (R263). -/
def State.byteCap (s : State) (n : Nat) (e : Encoder) (luma : Nat) : Nat :=
  match e.rcMode with
  | 0 => if e.maxFrame = 0 then 3 * luma / 4 else e.maxFrame
  | 1 => orLimit (s.rateBytes e.bitrate e.window - (e.buffer + s.capsOut n)) e.maxFrame
  | 2 => orLimit (s.rateBytes e.maxKbps e.window - (s.windowBytes e + s.capsOut n)) e.maxFrame
  | _ => s.tickCredit e.queue

/-- What a tick gives back to the CBR buffer. -/
def State.drainBuffer (s : State) (c : Channel) : Channel :=
  match c.enc with
  | none => c
  | some e =>
    if e.rcMode = 1 then { c with enc := some { e with buffer := e.buffer - s.rateBytes e.bitrate 1 } }
    else if e.rcMode = 2 then
      { c with enc := some { e with history := e.history.filter (fun x =>
          decide (s.tick.number.toNat < x.1 + e.window)) } }
    else c

/-! Packets (R201, R254; payload formats and header choices: notes/assumptions/175.md, notes/assumptions/183.md). -/

/-- RTP payload header bytes of each packet of a fragmented unit, and of a unit that fits one packet. -/
def fragHeader (codec : Nat) : Nat × Nat := if codec = 1 then (8, 8) else if codec = 2 then (2, 0) else (3, 0)

/-- Bytes of the unit's own header that a fragmented unit does not repeat. -/
def unitHeader (codec : Nat) : Nat := if codec = 1 then 0 else if codec = 2 then 1 else 2

/-- RTP payload sizes of a coded unit of `bytes` bytes. -/
def packets (codec limit bytes : Nat) : List Nat :=
  let (frag, whole) := fragHeader codec
  if bytes = 0 then []
  else if bytes + whole ≤ limit then [bytes + whole]
  else
    let data := bytes - unitHeader codec
    let room := limit - frag
    List.replicate (data / room) limit ++ (if data % room = 0 then [] else [data % room + frag])

/-- What a packet is charged: RTP, UDP, IPv4 and Ethernet headers, FCS, padding, preamble and gap (R201). -/
def packetCharge (payload : Nat) : Nat := max 64 (payload + 58) + 20

/-- What a coded unit is charged. -/
def unitCharge (codec limit bytes : Nat) : Nat := ((packets codec limit bytes).map packetCharge).sum

/-- NAL unit header of H.264 and H.265; JPEG has none. Whether other pictures refer to an H.264 picture is a free
value. -/
def nalHeader (codec type draw : Nat) : List Byte :=
  if codec = 2 then
    let idc := if type = 1 then Config.free draw % 4 else if type = 11 then 0 else 1 + Config.free draw % 3
    [BitVec.ofNat 8 (32 * idc + type)]
  else if codec = 3 then [BitVec.ofNat 8 (2 * type), 1]
  else []

/-- NAL unit type of a slice: IDR or not. -/
def sliceType (codec : Nat) (idr : Bool) (draw : Nat) : Nat :=
  if codec = 2 then (if idr then 5 else 1) else (if idr then 19 + Config.free draw % 2 else Config.free draw % 2)

/-- NAL unit types of the parameter sets: SPS and PPS, or VPS, SPS and PPS. -/
def paramTypes (codec : Nat) : List Nat := if codec = 2 then [7, 8] else if codec = 3 then [32, 33, 34] else []

/-- A byte string cut into pieces of `k` bytes. -/
def pieces (k : Nat) : Nat → List Byte → List (List Byte)
  | 0, _ => []
  | _ + 1, [] => []
  | n + 1, b :: t => (b :: t).take k :: pieces k n ((b :: t).drop k)

/-- A fragmentation unit's flags: first and last piece, and the type of the unit. -/
def fuHeader (k count type : Nat) : Byte :=
  BitVec.ofNat 8 ((if k = 0 then 128 else 0) + (if k + 1 = count then 64 else 0) + type)

/-- The RTP payloads of a NAL unit: one packet, FU-A of H.264, or fragmentation units of H.265 without DONL (R254). -/
def nalPayloads (codec limit : Nat) (u : List Byte) : List (List Byte) :=
  if u.length ≤ limit then [u]
  else
    let h := byteAt u 0
    if codec = 2 then
      let l := pieces (limit - 2) u.length (u.drop 1)
      l.zipIdx.map (fun p => [BitVec.ofNat 8 (h / 32 * 32 + 28), fuHeader p.2 l.length (h % 32)] ++ p.1)
    else
      let l := pieces (limit - 3) u.length (u.drop 2)
      l.zipIdx.map (fun p => [98, BitVec.ofNat 8 (byteAt u 1), fuHeader p.2 l.length (h / 2 % 64)] ++ p.1)

/-- The RTP payloads of JPEG data that starts at `offset` in its frame: RFC 2435 type 1 for 4:2:0 and 0 for 4:2:2, with Q
equal to the quality (R254). A size that its header cannot hold shows a free value. -/
def jpegPayloads (limit offset quality draw : Nat) (i : Image) (b : List Byte) : List (List Byte) :=
  let eighth := fun (v k : Nat) => BitVec.ofNat 8 (if ceilDiv v 8 < 256 then ceilDiv v 8 else Config.free (draw + k))
  (pieces (limit - 8) b.length b).zipIdx.map (fun p =>
    [0] ++ beBytes 3 (offset + p.2 * (limit - 8)) ++
      [BitVec.ofNat 8 (if i.chroma = 2 then 0 else 1), BitVec.ofNat 8 quality, eighth i.width 0, eighth i.height 1] ++ p.1)

/-- An RTP packet. -/
def rtpBytes (marker : Bool) (pt seq stamp ssrc : Nat) (payload : List Byte) : List Byte :=
  [0x80, BitVec.ofNat 8 (128 * b2n marker + pt)] ++ beBytes 2 seq ++ beBytes 4 stamp ++ beBytes 4 ssrc ++ payload

/-- The RTP timestamp of a capture time in ns: 90 kHz from Keeper time (R246). -/
def rtpStamp (captured : Nat) : Nat := captured * 9 / 100000 % 2 ^ 32

/-- Where the packets of an encode go and come from (R254). -/
def State.encAddresses (s : State) (e : Encoder) : Addresses :=
  let m := s.qPort e.queue
  { dstMac := e.dstMac, srcMac := s.stationMac m, srcIp := s.rd ETH_IP m, dstIp := e.dstIp, srcPort := e.srcPort,
    dstPort := e.dstPort }

/-- The next RTP sequence number of a channel is used up. -/
def State.takeRtpSeq (s : State) (n : Nat) : State × Nat :=
  let seq := ((s.chan n).enc.map (·.rtpSeq)).getD 0
  (s.modChan n (fun c => { c with enc := c.enc.map (fun e => { e with rtpSeq := (e.rtpSeq + 1) % 65536 }) }), seq)

/-- A packet of an encode enters its queue (R206, R254). `since`: when the first packet of its frame was queued (R205). -/
def State.sendPacket (s : State) (n job : Nat) (e : Encoder) (captured since : Nat) (marker : Bool) (payload : List Byte) :
    State :=
  let (s, seq) := s.takeRtpSeq n
  let pt := if (s.chan n).codec = 1 then 26 else e.pt
  let data := udpFrame (s.encAddresses e) (Config.freeWord s.fresh).toNat
    (rtpBytes marker pt seq (rtpStamp captured) e.ssrc payload)
  s.freshen.enqueue e.queue { owner := .encode n job, charge := packetCharge payload.length, len := data.length,
                              queuedPs := since, queuedTick := s.tick.number.toNat, cell := none, data := data }

/-- Packets of a frame enter their queue; `last`: the frame ends with them, and its last packet carries the marker
(R254). -/
def State.sendPackets (s : State) (j : Job) (e : Encoder) (last : Bool) (l : List (List Byte)) : State :=
  let since := j.firstPs.getD s.clock.ps
  let s := if l.isEmpty then s else s.modJob j.id (fun j => { j with firstPs := some since })
  l.zipIdx.foldl (fun s p =>
    s.sendPacket j.desc.channel j.id e j.captured since (last && p.2 + 1 == l.length) p.1) s

/-- What the parameter sets of a channel's stream say: BT.709 at limited range for an RGB888 source, which is converted so,
otherwise what the camera uses (R244). -/
def State.streamParams (s : State) (n : Nat) (e : Encoder) : StreamParams :=
  let c := s.chan n
  let (w, h) := s.encSize n e
  let camera := if e.source = 0 then s.boundPartner n else none
  let rgb := decide (1 ≤ e.source ∧ e.source ≤ 3) || (camera.map (fun p => (s.partner p).isRgb)).getD false
  let colour := fun (k : Nat) => if rgb then 1 else Config.cameraColour (camera.getD 24) k
  { codec := c.codec, profile := e.profile, level := e.level, width := w, height := h, chroma := 1,
    refs := if c.refs = 0 then 2 else c.refs, numB := e.numB, primaries := colour 0, transfer := colour 1,
    matrix := colour 2, fullRange := !rgb && Config.cameraColour (camera.getD 24) 3 % 2 == 1 }

/-- The parameter sets go out before the first packet of an IDR frame (R254). They are no part of the frame (R263;
notes/assumptions/153.md). -/
def State.sendParams (s : State) (j : Job) (e : Encoder) : State :=
  let n := j.desc.channel
  let codec := (s.chan n).codec
  if j.idr && j.firstPs.isNone then
    let p := s.streamParams n e
    (paramTypes codec).foldl (fun s type =>
      (nalPayloads codec e.pktPayload (nalHeader codec type s.fresh ++ Config.paramSet type p)).foldl
        (fun s b => s.sendPacket n j.id e j.captured s.clock.ps false b) s.freshen) s
  else s

/-- The RTP payloads of coded data of a frame that starts at `offset`; `limit` is the largest payload. The coded bytes are
free values. -/
def State.payloads (s : State) (j : Job) (limit offset bytes quality : Nat) : List (List Byte) :=
  let codec := (s.chan j.desc.channel).codec
  if bytes = 0 then []
  else if codec = 1 then
    jpegPayloads limit offset quality s.fresh (j.source.getD .empty) (codedBytes s.fresh 0 bytes)
  else
    nalPayloads codec limit
      ((nalHeader codec (sliceType codec j.idr s.fresh) (s.fresh + 1) ++ codedBytes s.fresh 0 bytes).take bytes)

/-- A coded unit of a frame is packetised and queued (R206, R254). -/
def State.sendUnit (s : State) (j : Job) (e : Encoder) (limit offset bytes quality : Nat) (last : Bool) : State :=
  let s := if bytes = 0 then s else s.sendParams j e
  let l := s.payloads j limit offset bytes quality
  { s with fresh := s.fresh + 3 }.sendPackets j e last l

/-! The bitstream ring (R255 to R257). -/

/-- Bytes of a record: header and bitstream, padded to 64. -/
def recordBytes (len : Nat) : Nat := ceilDiv (32 + len) 64 * 64

/-- Bytes that a record takes where the ring stands, a wrap included. -/
def Encoder.recordNeed (e : Encoder) (len : Nat) : Nat :=
  let r := recordBytes len
  if e.bsWrite + r ≤ e.bsSize then r else (e.bsSize - e.bsWrite) + r

/-- Bytes of the ring that records hold. -/
def Encoder.bsUsed (e : Encoder) : Nat := (e.bsRecords.map (·.bytes)).sum

/-- The ring has room for a frame of `len` bytes (R247, R257). An empty ring takes it from offset 0. -/
def Encoder.bsRoom (e : Encoder) (len : Nat) : Bool :=
  if e.bsRecords.isEmpty then decide (recordBytes len ≤ e.bsSize)
  else decide (e.bsUsed + e.recordNeed len ≤ e.bsSize)

/-- The 32 bytes of a record header (Table 7.5). -/
def recordHeader (len tick ktime seq detail : Nat) : List Byte :=
  leBytes 4 len ++ leBytes 4 tick ++ leBytes 8 ktime ++ leBytes 4 seq ++ leBytes 2 detail ++
    [0, 0, 0, 0, 0, 0, 0, 0, 0, 0]

/-- Coded data is written into the bitstream ring as a record (R255). -/
def State.writeRecord (s : State) (n : Nat) (e : Encoder) (data : List Byte) (tag ktime detail : Nat) : State :=
  let len := data.length
  let wrap := decide (e.bsSize < e.bsWrite + recordBytes len)
  let s := if wrap && decide (e.bsWrite < e.bsSize) && s.canDma then
      s.hostWrite (e.bsBase + e.bsWrite) (recordHeader 0xFFFFFFFF s.tick32 ktime e.seq detail)
    else s
  let at' := if wrap then 0 else e.bsWrite
  let s := if s.canDma then
      s.hostWrite (e.bsBase + at') (recordHeader len s.tick32 ktime e.seq detail ++ data)
    else s
  s.modChan n (fun c => { c with enc := c.enc.map (fun x =>
    { x with bsWrite := (at' + recordBytes len) % e.bsSize,
             bsRecords := x.bsRecords ++ [{ bytes := e.recordNeed len, tag := tag, pi := none }] }) })

/-- Records whose completion the host has passed are free (R256). -/
def freeRecords (ci : Nat) (l : List BsRecord) : List BsRecord :=
  match l with
  | [] => []
  | r :: t =>
    match r.pi with
    | some p => if 0 < (ci + 65536 - p) % 65536 ∧ (ci + 65536 - p) % 65536 < 32768 then freeRecords ci t else r :: t
    | none => r :: t

/-- CQ_CI of ring `q` frees bitstream records of the channels that complete there (R256). -/
def State.freeBitstream (s : State) (q ci : Nat) : State :=
  let f := fun c : Channel =>
    match c.enc with
    | some e => if e.cq = q then { c with enc := some { e with bsRecords := freeRecords ci e.bsRecords } } else c
    | none => c
  { s with chans := s.chans.map (fun p => (p.1, f p.2)) }

/-! The end of a stream (R252). -/

/-- The end-of-stream NAL unit: its type (H.264 end of stream, H.265 end of bitstream) and its bytes; JPEG has none. -/
def endOfStream (codec : Nat) : Option (List Byte) :=
  if codec = 2 then some [11] else if codec = 3 then some [74, 1] else none

/-- The stream of an encode ends with its NAL unit, on the network and in the bitstream ring as far as that has room
(R252). -/
def State.sendEnd (s : State) (n job tag : Nat) (e : Encoder) : State :=
  match endOfStream (s.chan n).codec with
  | none => s
  | some b =>
    let s := if e.toNet then s.sendPacket n job e s.ktime s.clock.ps false b else s
    if e.toHost && e.bsRoom b.length then s.writeRecord n e b tag s.ktime 0 else s

/-- Frames of a channel that are still to be coded. -/
def State.framesOpen (s : State) (n : Nat) : Bool :=
  (s.hif.jobs ++ s.hif.live).any (fun j => j.desc.channel == n && j.desc.opcode == 0x11 &&
    (j.origin == .liveEncode || leAt j.desc.bytes 0x10 1 == 0) &&
    (match j.phase with
     | .done _ => false
     | _ => true))

/-- A STOP completes once no frame is left: the stream ends with its NAL unit, and the frame buffers are free (R252). -/
def State.finishStop (s : State) (n : Nat) : State :=
  match (s.chan n).enc with
  | none => s
  | some e =>
    match e.stopping with
    | none => s
    | some id =>
      if s.framesOpen n then s
      else
        let cells := (s.bpm.cells.filter (fun p => p.2 == n)).map (·.1)
        let s := s.sendEnd n id (((s.job? id).map (·.desc.tag)).getD 0) e
        let s := cells.foldl (fun s h => s.returnCell h) s
        let s := s.modChan n (fun c => { c with enc := none, encQp := e.lastQp, encBytes := e.lastBytes, dramKib := 0 })
        s.endJob id { status := 0 }

/-- Every STOP whose last frame has been coded, skipped, superseded, refused or discarded completes (R252). -/
def State.finishStops (s : State) : State := (List.range 32).foldl (fun s n => s.finishStop n) s

end Sys2Proof.Machine
end

