-- ==== Sys2Proof/Machine/OpPoint.lean ====
section
/-! DEFINITION. Operating points and the ceiling (R442 to R448, R490, R528, R529). The fall of the rail after a
lowered clock is taken as done at once (notes/assumptions/28.md). -/

namespace Sys2Proof.Machine

/-- Core rail of an operating point in millivolts (Table 14.7). -/
def opMv (op : Nat) : Nat := lget 880 [550, 610, 670, 730, 800, 880] op

/-- The host's ceiling (R448). -/
def State.hostCeil (s : State) : Nat := clamp 3 5 (s.fld PWR_OP_CEIL 2 0)
/-- The ceiling after phase loss. -/
def State.lossCeil (s : State) : Nat := if s.pwr.phaseCeil then 3 else 5
/-- The operating-point ceiling (R447). -/
def State.ceilNow (s : State) : Nat := min s.hostCeil (min s.pwr.thermNow s.lossCeil)

/-- CEIL_CAUSE: the limits below OP5 that equal the ceiling (R447). -/
def State.ceilCause (s : State) : Nat :=
  let at' := fun v => decide (v < 5) && decide (v = s.ceilNow)
  b2n (at' s.hostCeil) + 2 * b2n (at' s.pwr.thermNow) + 4 * b2n (at' s.lossCeil)

/-- The engine clock is that of point `op`, at a voltage that is confirmed for it; both CPLLs' dividers
hold its Q (R443, R490). -/
def State.clockAt (s : State) (op : Nat) : State :=
  let s := if s.pwr.op = op then s else s.bump PWR_OP_CHANGE_COUNT
  let q := fun x : Synth => { x with p := twoQ op }
  { s with
    pwr := { s.pwr with op := op, target := op, settled := true, coreMv := opMv op }
    clk := { s.clk with synths := lmod (lmod s.clk.synths 0 q) 1 q } }

/-- A point is requested: a lower clock at once, a raise after the settle flag (R443 to R445). A ramp that is
under way to the same point goes on. Parked phases resume before a raise (R519). -/
def State.requestOp (s : State) (op : Nat) : State :=
  if op ≤ s.pwr.op then s.clockAt op
  else if s.pwr.target = op then s
  else
    let unpark := fun x : Phase => if x.state = 2 then { x with state := 0 } else x
    { s with pwr := { s.pwr with target := op, settled := false, rampNs := s.ktime,
                                 phases := s.pwr.phases.map unpark } }

/-- A ceiling below the point in force or under way lowers it at once (R87). -/
def State.enforceCeil (s : State) : State :=
  if s.ceilNow < s.pwr.target then s.requestOp s.ceilNow else s

/-- The settle flag arrives (R443). -/
def State.settle_ (s : State) : State := if s.pwr.settled then s else s.clockAt s.pwr.target

/-- A raise is abandoned: the highest confirmed point stands (R528). -/
def State.abandonRaise (s : State) : State :=
  if s.pwr.settled then s else (s.clockAt s.pwr.op).bump PWR_SETTLE_ABANDON_COUNT

end Sys2Proof.Machine
end

