-- ==== Sys2Proof/Machine/Admission.lean ====
section
/-! DEFINITION. Admission: what a tick admits, by class and against budgets, and the operating point it chooses;
sub-tick polls, cuts and the windows of the tick (R27, R59 to R89, R222, R247, R248, R257). -/

namespace Sys2Proof.Machine

/-- Ns from the last edge to now. -/
def State.sinceEdge (s : State) : Nat := (s.clock.ps - s.tick.edgePs) / 1000
/-- Time goes on to `ns` after the last edge. -/
def State.toOffset (s : State) (ns : Nat) : State := s.advanceTo (s.tick.edgePs + 1000 * ns)

/-- Start of sub-tick poll `i`, in ns after the edge (R61). -/
def State.pollAt (s : State) (i : Nat) : Nat :=
  150000 + i * workNs s.tick.periodNs / (s.tick.polls + 1)

/-- Admission runs: in ACTIVE and RUN, outside SAFE, a Class M restart and a low-power entry (R63, R401, R425). -/
def State.admits (s : State) : Bool :=
  s.isActive && !s.guard.restarting && !s.guard.resumeAtEdge && !s.guard.safe && decide (s.power.mode = .run) &&
    (match s.power.trans with
     | .none => true
     | .requested _ _ => true
     | .entering _ => false
     | .quiesced _ => false
     | .exiting _ => false)

/-- Engines execute admitted work: the work window has opened; a job that the guard window stopped still reports its
end (R27, R62). -/
def State.enginesRun (s : State) : Bool := decide (s.tick.window = .work) || decide (s.tick.window = .guard)

/-! Jobs that use engines. -/

/-- A job that admission considers: a decode, or an encode of a frame (R66). -/
def Job.budgeted (j : Job) : Bool :=
  j.desc.opcode == 0x10 ||
    (j.desc.opcode == 0x11 && (j.origin == .liveEncode || leAt j.desc.bytes 0x10 1 == 0))

/-- The job waits for admission and its picture is there. -/
def Job.offered (j : Job) (now : Nat) : Bool :=
  j.budgeted && j.ready && decide (j.phase = .waiting) && decide (j.fromTick ≤ now)

/-- Admission may take up the job now: its picture is there, and so are its channel, and its encode, from this admission
window on (R147, R250); a channel that a Class C reaction restarts takes no work before the edge (R398). -/
def State.offered (s : State) (j : Job) : Bool :=
  let now := s.tick.number.toNat
  let c := s.chan j.desc.channel
  j.offered now && decide (c.startTick ≤ now) && !(decide (j.desc.channel < 32) && c.restart) &&
    (j.desc.opcode != 0x11 || decide ((c.enc.map (·.startTick)).getD 0 ≤ now))

/-- The frame is to be coded as IDR (R268, Table 7.3). -/
def Job.asksIdr (j : Job) : Bool := j.origin == .host && leAt j.desc.bytes 0x11 1 % 2 == 1

/-- Estimates on the syntax, pixel and encode engines (Table 2.3). -/
def State.estimate (s : State) (j : Job) : List Nat :=
  if j.desc.opcode = 0x10 then
    match j.au with
    | none => [0, 0, 0]
    | some a => [max (a.width * a.height) a.bits, a.width * a.height, 0]
  else
    match (s.chan j.desc.channel).enc with
    | none => [j.luma, 0, j.luma]
    | some e => [max j.luma (s.targetBits j.desc.channel e j.luma (e.idrDue j.asksIdr)), 0, j.luma]

/-- Admitted cost before any cap is limited (R65). -/
def State.costs (s : State) (j : Job) : List Nat := (s.estimate j).map s.withMargin

/-- The engine kinds that a job needs. -/
def Job.kinds (j : Job) : List Nat := if j.desc.opcode = 0x10 then [0, 1] else [0, 2]

/-- A picture of one entropy segment (R68, R224). A coded picture is one slice but in low latency (R261), and each MCU row
of a JPEG picture is a restart interval, and so a segment (R224, Table 7.1; notes/assumptions/63.md). -/
def State.single (s : State) (j : Job) : Bool :=
  match j.au with
  | none =>
    let c := s.chan j.desc.channel
    c.codec != 1 && !(c.enc.map (·.lowLatency)).getD false
  | some a => decide (a.segments ≤ 1)

/-! The account of a decision. -/

/-- What is unspent: by kind, and by syntax engine in sixths of a unit. -/
structure Purse where
  left : List Nat
  room : List Nat
  /-- What is left of the Critical reservations of the channels with Critical work. -/
  res : List (Nat × List Nat) := []
deriving DecidableEq, Repr

/-- Healthy syntax engines. -/
def State.synEngines (s : State) : List Nat := (List.range 3).filter (fun e => !s.isFenced .syn e)

/-- The first syntax engine with room for `n` units (R68). -/
def firstFit (room engines : List Nat) (n : Nat) : Option Nat :=
  engines.find? (fun e => decide (6 * n ≤ lget 0 room e))

/-- The syntax engine with the most room, the lowest-numbered among equals (R74). -/
def mostRoom (room engines : List Nat) : Option Nat :=
  engines.foldl (fun (m : Option Nat) e =>
    match m with
    | none => some e
    | some b => if lget 0 room b < lget 0 room e then some e else some b) none

/-- Syntax load placed: on one engine, or in equal shares over all of them (R68; the shares are the model's choice,
DESIGN CHOICE, notes/assumptions/145.md). -/
def loadRoom (room engines : List Nat) (e : Option Nat) (n : Nat) : List Nat :=
  match e with
  | some u => lmod room u (fun r => r - 6 * n)
  | none => engines.foldl (fun r u => lmod r u (fun x => x - 6 * n / engines.length)) room

/-- The kinds on which a cost does not fit, with the engine of a single-segment picture (R68, R71). -/
def shortOf (p : Purse) (engines : List Nat) (j : Job) (single : Bool) (cost : List Nat) : List Nat × Option Nat :=
  let e := if single then firstFit p.room engines (lget 0 cost 0) else none
  (j.kinds.filter (fun k => decide (lget 0 p.left k < lget 0 cost k) || (k == 0 && single && e.isNone)), e)

/-- The account after a cost is charged. -/
def Purse.charge (p : Purse) (engines : List Nat) (j : Job) (e : Option Nat) (cost : List Nat) : Purse :=
  { p with
    left := (List.range 4).map (fun k => lget 0 p.left k - lget 0 cost k)
    room := loadRoom p.room engines e (lget 0 cost 0)
    res := p.res.map (fun r =>
      if r.1 = j.desc.channel ∧ j.cls = 1 then
        (r.1, (List.range 3).map (fun k => lget 0 r.2 k - lget 0 cost k))
      else r) }

/-- What a Critical job can have of each kind: the rest of its own reservation, and what no other Critical
reservation with work in this tick holds (R74; notes/assumptions/29.md). -/
def Purse.available (p : Purse) (chan k : Nat) : Nat :=
  let own := ((p.res.filter (fun r => r.1 == chan)).map (fun r => lget 0 r.2 k)).sum
  let all := (p.res.map (fun r => lget 0 r.2 k)).sum
  min (lget 0 p.left k) (own + (lget 0 p.left k - all))

/-! Gates of encodes (R247, R257). -/

/-- Ring bytes that admitted frames of a channel may still take. -/
def State.inFlight (s : State) (n : Nat) : Nat :=
  ((s.coding n).map (fun j => recordBytes j.cap)).sum

/-- What an encode meets when it is about to be admitted: it starts, or its source frame is skipped, or its job
is refused. -/
inductive Gate where
  | open_
  | skip
  | full
deriving DecidableEq, Repr

/-- The gate of an encode. -/
def State.gate (s : State) (j : Job) : Gate :=
  if j.desc.opcode ≠ 0x11 then .open_
  else
    match (s.chan j.desc.channel).enc with
    | none => .open_
    | some e =>
      let room := !e.toHost || e.bsRoom (s.byteCap j.desc.channel e j.luma + s.inFlight j.desc.channel)
      if j.origin = .liveEncode then (if decide (0 < s.cqRoom j.cq) && room then .open_ else .skip)
      else if room then .open_ else .full

/-- What an admitted decode is: its rows and segments (R224, R225). -/
def Job.withPicture (j : Job) : Job :=
  match j.au with
  | none => j
  | some a => { j with rows := a.rows, segs := atLeast1 a.segments }

/-- What an admitted encode is: its picture type and number, its rows and segments, its byte cap, and the settings that hold
for it, whatever an UPDATE brings later (R251, R262, R263, R268). -/
def State.withFrame (s : State) (j : Job) (e : Encoder) : Job :=
  let n := j.desc.channel
  let codec := (s.chan n).codec
  let idr := e.idrDue j.asksIdr
  let rows := s.frameRows j e
  { j with idr := idr, cap := s.byteCap n e j.luma, rows := rows, segs := if codec = 1 ∨ e.lowLatency = true then rows else 1,
           picType := if codec = 1 then 3 else e.nextType codec idr, settings := some e }

/-- An encoder once a frame is admitted: the next frame has the next number (R258, R268, R171). -/
def Encoder.next (e : Encoder) (idr : Bool) : Encoder :=
  { e with idrNext := false, gopPos := if idr then 0 else e.gopPos + 1, seq := (e.seq + 1) % 2 ^ 32,
           poc := (e.poc + 1) % 2 ^ 32 }

/-- A job is admitted with its caps (R65, R85); an encode takes its completion slot, its picture type and its
byte cap (R247, R263, R268). -/
def State.admitJob (s : State) (j : Job) (e : Option Nat) (cost : List Nat) : State :=
  let n := j.desc.channel
  let enc := if j.desc.opcode = 0x11 then (s.chan n).enc else none
  let live := j.origin == .liveEncode
  let tag := s.tick32 + 2 ^ 32 * ((enc.map (·.seq)).getD 0 % 2 ^ 32)
  let admitted := fun (j : Job) =>
    let j := { j with phase := .admitted, costSyn := lget 0 cost 0, costPix := lget 0 cost 1, costEnc := lget 0 cost 2,
                      engine := e, admittedTick := s.tick.number.toNat, reserved := live,
                      desc := { j.desc with tag := if live then tag else j.desc.tag } }
    match enc with
    | some x => s.withFrame j x
    | none => j.withPicture
  let t := s.modJob j.id admitted
  let t := if live then t.setCq j.cq { t.cq j.cq with reserved := (t.cq j.cq).reserved + 1 } else t
  let t := { t with tick := { t.tick with
      spent := (List.range 4).map (fun k => lget 0 t.tick.spent k + lget 0 cost k) } }
  match enc with
  | some x => t.modChan n (fun c => { c with enc := some (x.next (x.idrDue j.asksIdr)) })
  | none => t

/-- A job that fits passes its gate and is admitted. -/
def State.tryAdmit (s : State) (p : Purse) (j : Job) (e : Option Nat) (cost : List Nat) : State × Purse :=
  match s.gate j with
  | .open_ => (s.admitJob j e cost, p.charge s.synEngines j e cost)
  | .skip => ((s.bump ENC_SRC_SKIP_COUNT).dropJob j.id, p)
  | .full => (s.endJob j.id { status := 0x21, reason := 0xB1 }, p)

/-- A job is deferred to the next tick (R78, R83). -/
def State.defer (s : State) (j : Job) : State :=
  (s.modJob j.id (fun j => { j with deferred := min 255 (j.deferred + 1) })).bump TCK_DEFER_COUNT

/-- The reason of a shortage: the lowest code among the kinds (Table 2.5). -/
def shortReason (kinds : List Nat) : Nat := 1 + kinds.foldl min 3

/-- The unit waits behind another one: the first live decode slot still waits (R222). -/
def State.behind (s : State) (j : Job) : Bool :=
  let c := s.chan j.desc.channel
  c.slot2 == some j.id &&
    (match c.slot1.bind s.job? with
     | some a => decide (a.phase = .waiting)
     | none => false)

/-- One Critical job (R74, R83). -/
def State.considerCritical (s : State) (p : Purse) (j : Job) : State × Purse :=
  let cost := s.costs j
  let avail := (List.range 3).map (p.available j.desc.channel)
  let e := if s.single j then firstFit p.room s.synEngines (lget 0 cost 0) else none
  let short := j.kinds.filter (fun k => decide (lget 0 avail k < lget 0 cost k) || (k == 0 && s.single j && e.isNone))
  if short.isEmpty then s.tryAdmit p j e cost
  else if short.any (fun k => decide (s.healthy k ≤ 1)) then (s.defer j, p)
  else
    let e := if s.single j then mostRoom p.room s.synEngines else none
    let lim := (List.range 3).map (fun k => min (lget 0 cost k) (lget 0 avail k))
    let lim := match e with
      | some u => lmod lim 0 (fun v => min v (lget 0 p.room u / 6))
      | none => lim
    s.tryAdmit p j e lim

/-- One Standard job (R77, R78). -/
def State.considerStandard (s : State) (p : Purse) (j : Job) : State × Purse :=
  let cost := s.costs j
  match shortOf p s.synEngines j (s.single j) cost with
  | ([], e) => s.tryAdmit p j e cost
  | (short, _) =>
    if (s.chan j.desc.channel).maxDefer ≤ j.deferred then
      (s.endJob j.id { status := 0x30, reason := shortReason short }, p)
    else
      let s := s.defer j
      ({ s with tick := { s.tick with shortKinds := short.foldl ladd s.tick.shortKinds } }, p)

/-- The kinds that refuse a Bulk job, and so name its reason: those it needs on which a Standard job was deferred
(R81), and without such a kind those on which it does not fit (R80). -/
def State.bulkBars (s : State) (j : Job) (short : List Nat) : List Nat :=
  let shared := j.kinds.filter (fun k => s.tick.shortKinds.contains k)
  if shared.isEmpty then short else shared

/-- One Bulk job (R80, R81). -/
def State.considerBulk (s : State) (p : Purse) (j : Job) : State × Purse :=
  let cost := s.costs j
  let (short, e) := shortOf p s.synEngines j (s.single j) cost
  let bad := s.bulkBars j short
  if bad.isEmpty then s.tryAdmit p j e cost
  else (s.endJob j.id { status := 0x20, reason := shortReason bad }, p)

/-- The unit stands in the second live decode slot of its channel. -/
def State.inSecond (s : State) (j : Job) : Bool := (s.chan j.desc.channel).slot2 == some j.id

/-- The job fits as it stands, without a limit on its cost. -/
def State.fitsNow (s : State) (p : Purse) (j : Job) : Bool :=
  let cost := s.costs j
  let (short, _) := shortOf p s.synEngines j (s.single j) cost
  match j.cls with
  | 1 =>
    short.isEmpty && j.kinds.all (fun k => decide (lget 0 cost k ≤ p.available j.desc.channel k))
  | 2 => short.isEmpty
  | _ => (s.bulkBars j short).isEmpty

/-- One job by its class, as it then stands. A unit of a second slot that does not fit waits, which is no deferral
(R222). -/
def State.considerOne (acc : State × Purse) (id : Nat) : State × Purse :=
  let (s, p) := acc
  match s.job? id with
  | none => acc
  | some j =>
    if s.offered j = false ∨ s.behind j = true ∨ (s.inSecond j = true ∧ s.fitsNow p j = false) then acc
    else
      match j.cls with
      | 1 => s.considerCritical p j
      | 2 => s.considerStandard p j
      | _ => s.considerBulk p j

/-! Before the classes: pauses and superseded units (R82, R157, R222, R248). -/

/-- Jobs offered now. -/
def State.offers (s : State) : List Job :=
  (s.hif.jobs ++ s.hif.live).filter s.offered

/-- Jobs of paused channels complete REFUSED_PAUSED (R157). -/
def State.refusePaused (s : State) : State :=
  (s.offers.filter (fun j => (s.chan j.desc.channel).state == 3 && decide (j.desc.channel < 32))).foldl
    (fun s j => s.endJob j.id { status := 0x22 }) s

/-- A deferred live decode gives way to the newer unit of its channel (R82, R222). -/
def State.supersedeDecode (s : State) (n : Nat) : State :=
  let s := s.tidySlots n
  let c := s.chan n
  match c.slot1.bind s.job?, c.slot2.bind s.job? with
  | some a, some b =>
    if a.phase = .waiting ∧ 0 < a.deferred ∧ s.offered b = true then
      let s := s.endJob a.id { status := 0x30, reason := 0x20 }
      (s.modJob b.id (fun j => { j with order := min j.order a.order, fetchNs := min j.fetchNs a.fetchNs })).tidySlots n
    else s
  | _, _ => s

/-- Deferred live encodes of a channel give way to a newer source frame that comes up (R248). -/
def State.supersedeEncode (s : State) (n : Nat) : State :=
  let l := s.offers.filter (fun j => j.origin == .liveEncode && j.desc.channel == n)
  let old := (l.dropLast.filter (fun j => decide (0 < j.deferred))).map (·.id)
  old.foldl (fun s id => s.endJob id { status := 0x30, reason := 0x20 }) s

/-! The decision (R60, R69, R70). -/

/-- The order of Critical jobs: rank, channel, fetch (R74). -/
def State.critLe (s : State) (a b : Job) : Bool :=
  let ra := (s.chan a.desc.channel).rank
  let rb := (s.chan b.desc.channel).rank
  decide (ra < rb) || (decide (ra = rb) && (decide (a.desc.channel < b.desc.channel) ||
    (decide (a.desc.channel = b.desc.channel) && decide (a.order ≤ b.order))))

/-- The order of Standard jobs: fetch time, ring number, fetch (R77). -/
def Job.standardLe (a b : Job) : Bool :=
  decide (a.fetchNs < b.fetchNs) || (decide (a.fetchNs = b.fetchNs) && (decide (a.sq < b.sq) ||
    (decide (a.sq = b.sq) && decide (a.order ≤ b.order))))

/-- Offered jobs in the order of consideration: Critical, Standard, Bulk (R70). -/
def State.inOrder (s : State) (l : List Job) : List Nat :=
  let of := fun c : Nat => l.filter (fun j => if c = 3 then j.cls != 1 && j.cls != 2 else j.cls == c)
  (sortBy s.critLe (of 1) ++ sortBy Job.standardLe (of 2) ++
    sortBy (fun a b : Job => decide (a.order ≤ b.order)) (of 3)).map (·.id)

/-- Admitted cost of the composition of a display (Table 2.3, R65). -/
def State.composeCost (s : State) (d : Nat) : Nat := s.withMargin (layerCost s.cmp.layers d)

/-- The syntax loads of the admitted jobs packed at a point with HEADROOM: the spread load first, then every
single-segment picture, in fetch order, on the first engine that holds it. The result is each job's engine and the loads in
sixths of a unit; none if some load does not fit (R35, R68, R70). That the packing is first fit is the model's choice (DESIGN
CHOICE, notes/assumptions/146.md). -/
def packAt (engines : List Nat) (cap head : Nat) : List (Nat × Nat) → List Nat → List (Nat × Nat) → Option (List (Nat × Nat) × List Nat)
  | [], loads, got =>
    if engines.all (fun e => decide (lget 0 loads e * (100 + head) ≤ 600 * cap)) then some (got, loads) else none
  | (id, c) :: t, loads, got =>
    match engines.find? (fun e => decide ((lget 0 loads e + 6 * c) * (100 + head) ≤ 600 * cap)) with
    | none => none
    | some e => packAt engines cap head t (lmod loads e (· + 6 * c)) (got ++ [(id, e)])

/-- The admitted jobs at operating point `op`: their packing, when every kind and every engine fits. -/
def State.fitsAt (s : State) (jobs : List Job) (op : Nat) : Option (List (Nat × Nat) × List Nat) :=
  let head := s.fld TCK_ADM_CTL 13 8
  let es := s.synEngines
  if (List.range 4).all (fun k => decide (lget 0 s.tick.spent k * (100 + head) ≤ 100 * s.budgetAt k op)) then
    let multi := ((jobs.filter (fun j => j.engine.isNone)).map (·.costSyn)).sum
    let start := (List.range 3).map (fun e => if es.contains e then 6 * multi / es.length else 0)
    packAt es (unitsIn 0 1 op (workNs s.tick.periodNs)) head
      ((jobs.filter (fun j => j.engine.isSome)).map (fun j => (j.id, j.costSyn))) start []
  else none

/-- The lowest point from `op` up to the ceiling that fits. -/
def State.lowestFit (s : State) (jobs : List Job) : Nat → Nat → Option (Nat × List (Nat × Nat) × List Nat)
  | 0, _ => none
  | n + 1, op =>
    match s.fitsAt jobs op with
    | some r => some (op, r)
    | none => s.lowestFit jobs n (op + 1)

/-- The operating point of the tick is chosen and requested, and the budgets and engine rooms are those of that
point (R60, R70). Where no point below the ceiling fits, the ceiling is used and every picture stays on the engine on which
the decision placed it (R70, R74). -/
def State.choosePoint (s : State) (p : Purse) : State :=
  let c := s.tick.ceiling
  let es := s.synEngines
  let jobs := (s.hif.jobs ++ s.hif.live).filter (fun j => decide (j.phase = .admitted) &&
    j.admittedTick == s.tick.number.toNat)
  let w := workNs s.tick.periodNs
  let (op, got, loads) := (s.lowestFit jobs c 0).getD
    (c, [], (List.range 3).map (fun e => 6 * unitsIn 0 1 c w - lget 0 p.room e))
  let s := got.foldl (fun s g => s.modJob g.1 (fun j => { j with engine := some g.2 })) s
  let budget := (List.range 4).map (fun k => s.budgetAt k op)
  let room := (List.range 3).map (fun e => if es.contains e then 6 * unitsIn 0 1 op w - lget 0 loads e else 0)
  ({ s with tick := { s.tick with curOp := op, budget := budget, synRoom := room } }).requestOp (min op s.ceilNow)

/-- Composition is admitted whole, before the classes, for every enabled display whose panel is present (R69, R299). -/
def State.admitComposition (s : State) : State :=
  let ds := (List.range 3).filter (fun d => s.enabled d && s.panelHere d)
  let spent := [0, 0, 0, (ds.map s.composeCost).sum]
  { s with tick := { s.tick with composing := ds, composed := [], cmpStarted := false, shortKinds := [],
                                 spent := spent } }

/-- The account at the ceiling, after composition. -/
def State.purse (s : State) : Purse :=
  let c := s.tick.ceiling
  let w := workNs s.tick.periodNs
  let crit := (s.offers.filter (fun j => j.cls == 1)).foldl (fun l j => ladd l j.desc.channel) []
  { left := (List.range 4).map (fun k => s.budgetAt k c - lget 0 s.tick.spent k),
    room := (List.range 3).map (fun e => if s.synEngines.contains e then 6 * unitsIn 0 1 c w else 0),
    res := crit.map (fun n => (n, [(s.chan n).resSyn, (s.chan n).resPix, (s.chan n).resEnc])) }

/-- The admission decision (R70). -/
def State.decide_ (s : State) : State :=
  let s := s.admitComposition.refusePaused
  let s := (List.range 32).foldl (fun s n => (s.supersedeDecode n).supersedeEncode n) s
  let (s, p) := (s.inOrder s.offers).foldl State.considerOne (s, s.purse)
  ((s.choosePoint p).finishStops).hwFlag 1

/-- The decision at 100 µs after the edge; the window then waits for its work (R60). -/
def State.decision (s : State) : State :=
  if s.tick.stopped = true ∨ s.tick.window ≠ .admission then s
  else
    let s := s.toOffset 100000
    let s := { s with tick := { s.tick with window := .decided }, bpm := { s.bpm with recent := [] } }
    let fresh := fun j : Job => { j with atPoll := 0 }
    let s := { s with hif := { s.hif with jobs := s.hif.jobs.map fresh } }
    if s.admits then s.decide_ else s

/-! Sub-tick polls (R72, R75). -/

/-- A job fetched at a poll is considered, from what is unspent at the tick's point and what the rest of the
work window can do. A Critical or Standard job that does not fit is held. -/
def State.considerAtPoll (s : State) (id : Nat) : State :=
  match s.job? id with
  | none => s
  | some j =>
    if j.atPoll = 0 ∨ s.tick.pollsDone < j.atPoll ∨ s.offered j = false ∨ s.tick.window ≠ .work ∨ s.admits = false then s
    else
      let s := s.modJob id (fun j => { j with atPoll := 0 })
      if (s.chan j.desc.channel).state = 3 then s.endJob id { status := 0x22 }
      else
        let rest := guardAt s.tick.periodNs - s.sinceEdge
        let op := s.tick.curOp
        let p : Purse :=
          { left := (List.range 4).map (fun k =>
              min (lget 0 s.tick.budget k - lget 0 s.tick.spent k) (unitsIn k (s.healthy k) op rest)),
            room := (List.range 3).map (fun e => min (lget 0 s.tick.synRoom e) (6 * unitsIn 0 1 op rest)) }
        let cost := s.costs j
        let (short, e) := shortOf p s.synEngines j (s.single j) cost
        let bad := if j.cls = 3 then s.bulkBars j short else short
        if bad.isEmpty then
          let (s, p') := s.tryAdmit p j e cost
          { s with tick := { s.tick with synRoom := (List.range 3).map (fun u =>
              lget 0 s.tick.synRoom u - (lget 0 p.room u - lget 0 p'.room u)) } }
        else if j.cls = 3 then s.endJob id { status := 0x20, reason := shortReason bad }
        else s

/-! Cuts and windows (R27, R62, R86). -/

/-- A job is cut, which counts once, and all its units stop (R62, R86). -/
def State.cutJob (s : State) (id : Nat) : State :=
  match s.job? id with
  | none => s
  | some j =>
    let s := (s.countSegments id).modJob id (fun j => { j with cut := true, cutRow := 0 })
    if j.cut then s else s.bump TCK_CUT_COUNT

/-- The composition of a display is cut: the display repeats its previous frame (Table 2.6). -/
def State.cutCompose (s : State) (d : Nat) : State :=
  if s.tick.composing.contains d && !s.tick.composed.contains d then
    ({ s with tick := { s.tick with composing := ldel s.tick.composing d } }).bump TCK_CUT_COUNT
  else s

/-- The work window opens, at the lower clock when the settle flag is late (R27, R446). -/
def State.openWork (s : State) : State :=
  if s.tick.stopped = true ∨ s.tick.window ≠ .decided then s
  else
    let s := s.toOffset 150000
    let s := if s.pwr.settled then s else (s.raiseI 0x0302).bump PWR_SETTLE_LATE_COUNT
    (({ s with tick := { s.tick with window := .work } }).feedEngines).maybeCompose

/-- The guard-window stop: every busy engine and the compositor stop (R62). -/
def State.guardStop (s : State) : State :=
  let busy := (s.hif.jobs ++ s.hif.live).filter (fun j => decide (j.phase = .admitted))
  let s := busy.foldl (fun s j => s.cutJob j.id) s
  let s := { s with engines := s.engines.map SynEngine.idle }
  [0, 1, 2].foldl (fun s d => s.cutCompose d) s

/-- The patrol reads 64 KiB of DRAM in a guard window (R320). -/
def State.patrolStep (s : State) : State :=
  if s.flag DRC_CTL 1 then
    { s with mem := { s.mem with patrol := (s.mem.patrol + 65536) % (s.dramBytes / 8 * 7) } }
  else s

/-- The guard window starts (R59, R62). -/
def State.openGuard (s : State) : State :=
  if s.tick.stopped = true ∨ s.tick.window = .guard then s
  else
    let s := s.toOffset (guardAt s.tick.periodNs)
    let s := ({ s with tick := { s.tick with window := .guard } }).patrolStep
    (if s.isActive then s.guardStop else s).hwFlag 3

end Sys2Proof.Machine
end

