-- ==== Sys2Proof/Machine/TickSource.lean ====
section
/-! DEFINITION. The external tick source: acceptance, steering, holdover and re-acquisition (R50 to R56, R581).
Source edges are named by their instants in ns of Keeper time. -/

namespace Sys2Proof.Machine

/-- TOL_US in ns. -/
def State.tolNs (s : State) : Nat := 1000 * atLeast1 s.tick.tolUs

/-- The instant in ps at which the coming edge falls: the first timer step at or after its ideal instant (R50). -/
def State.comingEdge (s : State) : Nat := s.stepAt s.tick.nextPs

/-- The timer's own edge nearest to an instant: the tick that it opens, and the edge in ps (R51). An instant exactly
midway is measured against the earlier edge (DESIGN CHOICE, notes/assumptions/144.md). -/
def State.nearEdge (s : State) (ns : Nat) : Nat × Nat :=
  let t := 1000 * ns
  let next := s.comingEdge
  let back := if t ≤ s.tick.edgePs then s.tick.edgePs - t else t - s.tick.edgePs
  let ahead := if t ≤ next then next - t else t - next
  if ahead < back then (s.tick.number.toNat + 1, next) else (s.tick.number.toNat, s.tick.edgePs)

/-- Error of an instant against the timer, in ps (R51). -/
def State.timerErr (s : State) (ns : Nat) : Int := 1000 * (ns : Int) - ((s.nearEdge ns).2 : Int)

/-- Error of an instant against a target phase, in ps (R56). -/
def State.targetErr (s : State) (target ns : Nat) : Int :=
  let p := s.tick.periodNs
  let d := (ns : Int) - (target : Int)
  1000 * (d - ((d + (p / 2 : Nat)) / (p : Int)) * (p : Int))

/-- An error in ps lies within ±TOL_US; exactly at the limit is accepted (R51). -/
def State.inTol (s : State) (e : Int) : Bool := decide (e.natAbs ≤ 1000 * s.tolNs)

/-- An error in ps as registers and events show it: in ns, rounded toward zero. -/
def errNs (e : Int) : Int := Int.tdiv e 1000

/-- TCK_MEAS_PERIOD (R53); with no interval measured it holds its reset value 0. -/
def State.measNs (s : State) : Nat :=
  if s.tick.intervals.isEmpty then 0 else s.tick.intervals.sum / s.tick.intervals.length

/-- The timer's phase is corrected by one eighth of an error in ps, limited to 0.1 % of the period in each tick; the
correction moves the next edge (R52). -/
def State.steerTimer (s : State) (e : Int) : State :=
  let lim : Int := s.tick.periodNs
  let c := max (-lim) (min lim (s.tick.correction + Int.tdiv e 8))
  let next := ((s.tick.nextPs : Int) + (c - s.tick.correction)).toNat
  { s with tick := { s.tick with correction := c, nextPs := next } }

/-- An accepted edge: error, interval and the end of a run of missed edges (R53, Table 2.8). -/
def State.noteEdge (s : State) (ns : Nat) (e : Int) : State :=
  let label := (s.nearEdge ns).1
  let got := match s.tick.lastAccepted with
    | some (k, at') => if label = k + 1 then (ns - at') :: s.tick.intervals else s.tick.intervals
    | none => s.tick.intervals
  let t := { s.tick with intervals := got.take 16, lastAccepted := some (label, ns), lastAcceptedTick := label,
                         missed := 0 }
  ({ s with tick := t }).wr TCK_PHASE_ERR 0 0 (twos 32 (errNs e))

/-- The source in force has edges: a pad always, the PTP clock while its port is synchronised (R56, R213). -/
def State.sourceLive (s : State) : Bool :=
  s.tick.src != 3 || (lget EthPort.reset s.eth s.tick.ptpPort).ptpState == 3

/-- The consistent run of source edges takes one more (R56). -/
def State.noteRun (s : State) (ns : Nat) (e : Int) : State :=
  let fits := match s.tick.edges with
    | [] => false
    | (at', _) :: _ => s.tick.src == 3 || s.inTol (1000 * ((ns : Int) - (at' : Int) - (s.tick.periodNs : Int)))
  { s with tick := { s.tick with edges := if fits then ((ns, e) :: s.tick.edges).take 8 else [(ns, e)] } }

/-- Eight consecutive edges are consistent (R56). -/
def State.recognised (s : State) : Bool := decide (8 ≤ s.tick.edges.length)

/-- Error of the first edge of the consistent run. -/
def State.runErr (s : State) : Int := ((s.tick.edges.getLast?).map (·.2)).getD 0

/-- A 32-bit two's complement value, saturating (Table 3.21). -/
def sat32 (e : Int) : Nat := twos 32 (max (-(2 ^ 31 : Nat)) (min ((2 ^ 31 : Nat) - 1) e))

/-- TICK_SOURCE_RESTORED (Table 3.21). -/
def State.restored (s : State) (e : Int) (new : Nat) : State :=
  s.event 0x31 s.tick.src (leNats 4 (sat32 (errNs e)) ++ leNats 4 s.tick.holdTicks ++ [new])

/-- Runs of edges start afresh. -/
def State.clearRuns (s : State) : State :=
  { s with tick := { s.tick with run := 0, edges := [], missed := 0 } }

/-- The source is acquired (R581): an event that a holdover before a low-power mode still owes is posted. -/
def State.acquired (s : State) (e : Int) (new : Nat) : State :=
  let s := if s.tick.owedRestore then s.restored e new else s
  { s with tick := { s.tick with owedRestore := false } }

/-- The timer locks, or slews to a new phase (R55, R56). -/
def State.lockOrSlew (s : State) (ns : Nat) (e : Int) : State :=
  let s := s.clearRuns
  let lock := s.inTol e
  let s := { s with tick := { s.tick with srcState := if lock then 1 else 2, target := if lock then none else some ns } }
  s.steerTimer e

/-- Holdover ends: TICK_SOURCE_RESTORED is due, and steering resumes (R55, R56). -/
def State.leaveHoldover (s : State) (first : Int) (new ns : Nat) (e : Int) : State :=
  let s := (s.restored first new).gone 0x0303 0xFF
  let s := { s with tick := { s.tick with owedRestore := false } }
  s.lockOrSlew ns e

/-- Holdover is entered, with the reason of Table 3.21 (R54). No second TICK_SOURCE_LOST is posted while an
event is still owed (R581). -/
def State.enterHoldover (s : State) (reason : Nat) : State :=
  if s.tick.srcState = 1 ∨ s.tick.srcState = 2 then
    let held := if s.tick.intervals.length < 16 then s.tick.periodNs else s.measNs
    let owed := s.tick.owedRestore
    let edges := if s.tick.srcState = 2 ∧ s.tick.target.isNone = true then s.tick.edges else []
    let ticks := if owed then s.tick.holdTicks else 0
    let s := if owed then s
             else s.event 0x30 s.tick.src (leNats 4 held ++ leNats 4 s.tick.lastAcceptedTick ++ [reason])
    let t := { s.tick with srcState := 3, heldNs := held, holdTicks := ticks, target := none, run := 0,
                           missed := 0, edges := edges }
    (({ s with tick := t }).bump TCK_HOLDOVER_COUNT).raiseCond 0x0303
  else s

/-- An edge of the source in force (R51 to R56, R581). During a slew the target keeps the phase of the last edge of the
run that gave it (R56). -/
def State.sourceEdge (s : State) (ns : Nat) : State :=
  let e := s.timerErr ns
  let near := s.inTol e
  match s.tick.srcState with
  | 1 => if near then (s.noteEdge ns e).steerTimer e else s.bump TCK_EDGE_REJECT_COUNT
  | 2 =>
    match s.tick.target with
    | some target =>
      if s.inTol (s.targetErr target ns) then
        let s := (s.noteEdge ns e).steerTimer e
        { s with tick := { s.tick with srcState := if near then 1 else 2, target := if near then none else some target } }
      else s.bump TCK_EDGE_REJECT_COUNT
    | none =>
      if near then
        let s := ((s.noteEdge ns e).steerTimer e).clearRuns
        ({ s with tick := { s.tick with srcState := 1 } }).acquired e 0
      else
        let s := (s.bump TCK_EDGE_REJECT_COUNT).noteRun ns e
        if s.recognised then
          let first := s.runErr
          ((s.noteEdge ns e).lockOrSlew ns e).acquired first 1
        else s
  | 3 =>
    let s := s.noteRun ns e
    let s : State := if near then
        let s := s.noteEdge ns e
        { s with tick := { s.tick with run := s.tick.run + 1, firstErr := if s.tick.run = 0 then e else s.tick.firstErr } }
      else
        let s := s.bump TCK_EDGE_REJECT_COUNT
        { s with tick := { s.tick with run := 0 } }
    if 8 ≤ s.tick.run then s.leaveHoldover s.tick.firstErr 0 ns e
    else if s.recognised then s.leaveHoldover s.runErr 1 ns e
    else s
  | _ => s

/-- A predicted edge has passed without an accepted edge (R51, R54). -/
def State.edgeMissed (s : State) : State :=
  let t := { s.tick with missed := s.tick.missed + 1, lastAccepted := none, run := 0 }
  let s' := { s with tick := t }
  match s.tick.srcState with
  | 1 => if 2 ≤ s'.tick.missed then s'.enterHoldover 0 else s'
  | 2 => if 2 ≤ s'.tick.missed then s'.enterHoldover 0 else s'
  | 3 => s'
  | _ => s

/-- A source comes into force without a phase: internal, or acquiring (R581). -/
def State.startSource (s : State) (src : Nat) : State :=
  let t := { s.tick with src := src, srcState := if src = 0 then 0 else 2, run := 0, missed := 0, edges := [],
                         lastAccepted := none, target := none }
  ({ s with tick := t }).gone 0x0303 0xFF

/-- Tick settings are taken over at the edge: source, port, period, tolerance and polls (R53, R61, R581). A new period
is held until it has a history of its own (R54). An event that a holdover before DEEP STANDBY still owes outlasts the
first source that comes into force after it (R581). -/
def State.takeTickSettings (s : State) : State :=
  let src := s.fld TCK_CTL 1 0
  let port := s.fld TCK_CTL 2 2
  let period := s.rd TCK_PERIOD
  let s := if src ≠ s.tick.src ∨ (src = 3 ∧ port ≠ s.tick.ptpPort) then
      (let owed := s.tick.owedRestore && s.tick.src == 0
       let s := s.startSource src
       { s with tick := { s.tick with owedRestore := owed } }) else s
  let s := if period ≠ s.tick.periodNs then
      { s with tick := { s.tick with intervals := [], lastAccepted := none, heldNs := period } } else s
  { s with tick := { s.tick with ptpPort := port, periodNs := period, tolUs := s.fld TCK_SRC_TOL 8 0,
                                 polls := s.fld TCK_SUBTICK 3 0 } }

/-- Period of the tick that now starts: the held one in holdover (R54). -/
def State.tickLength (s : State) : Nat := if s.tick.srcState = 3 then s.tick.heldNs else s.tick.periodNs

end Sys2Proof.Machine
end

