-- ==== Sys2Proof/Machine/Reset.lean ====
section
/-! DEFINITION. What a reset wipes, loses and keeps (R450 to R454, R527, Table 15.2). -/

namespace Sys2Proof.Machine

/-- Registers of the KPR block, which only some resets touch. -/
def kprOnly (t : Table Word) : Table Word := t.filter (fun p => p.1 / 65536 == 12)

/-- A display output after a reset at Keeper time `ps`: its VDD_EN is low, and T_OFF runs from when it fell (R298). -/
def Display.afterReset (ps : Nat) (x : Display) : Display :=
  if x.step = .off then .reset
  else { Display.reset with step := .waitOff, since := if x.step = .waitOff then x.since else ps }

/-- Reset values with everything that is outside the module's own resets: the commands that wait, the model's
counters, what the host has seen, the levels at the pins, and how long the panels have been without supply. The monitor of
the reference starts afresh (R479). -/
def State.blank (s : State) : State :=
  let r := State.reset
  { r with
    pending := s.pending, fresh := s.fresh
    bus := { r.bus with readPcie := s.bus.readPcie, readSpi := s.bus.readSpi, readPoisoned := s.bus.readPoisoned,
                        spiOut := s.bus.spiOut,
                        msixSent := s.bus.msixSent, perst := s.bus.perst }
    mem := { r.mem with host := s.mem.host, mram := s.mem.mram }
    power := { r.power with stbyReady := s.power.stbyReady }
    displays := s.displays.map (Display.afterReset s.clock.ps)
    clock := { s.clock with refFailed := false } }

/-- The boot record and the fuses, which no reset changes (Table 15.2). -/
def State.keepRecord (r s : State) : State :=
  { r with sys := { r.sys with
      dramGib := s.sys.dramGib, slotA := s.sys.slotA, slotB := s.sys.slotB, preferred := s.sys.preferred,
      trialBooted := s.sys.trialBooted, wipePending := s.sys.wipePending, lcsResult := s.sys.lcsResult,
      lcsLast := s.sys.lcsLast, wipeUs := s.sys.wipeUs, lifeState := s.sys.lifeState,
      patchKey := s.sys.patchKey, fwEpochFuse := s.sys.fwEpochFuse, patchEpochFuse := s.sys.patchEpochFuse } }

/-- The Keeper's SRAM: the trouble log and the wake latch. -/
def State.keepKeeper (r s : State) : State :=
  { r with log := s.log, power := { r.power with latched := s.power.latched, seen := s.power.seen,
                                                 completeNs := s.power.completeNs } }

/-- The KPR registers and the alarm in force. -/
def State.keepKpr (r s : State) : State :=
  { r with regs := kprOnly s.regs, power := { r.power with alarm := s.power.alarm, alarmPassed := s.power.alarmPassed } }

/-- The power stage as it stands: a reset that does not rerun the power sequence keeps its shed phases, its
spare and what it measures (R527). -/
def State.keepStage (r s : State) : State :=
  let p := s.pwr
  { r with pwr := { r.pwr with
      vinMv := p.vinMv, iinMa := p.iinMa, phases := p.phases, spare := p.spare, capA := p.capA,
      coreMv := opMv 0, tj := p.tj, treg := p.treg, phaseCeil := p.phaseCeil, inputOpen := p.inputOpen,
      clamps := p.clamps, pwrGood := p.pwrGood, lowGood := p.lowGood, railOk := p.railOk, seqStep := p.seqStep,
      senseLost := p.senseLost, keeperOn := p.keeperOn } }

/-- CPLL_PREFER acts at the next start, so that the start after a reset that leaves the core domain powered takes the
PLL that it named (R489; notes/assumptions/164.md). -/
def State.preferred (s : State) (k : Nat) : Nat := if k = 0 ∨ k = 5 then 0 else s.fld CLK_CTL 0 0

/-- The state after reset kind `k` of Table 15.1, before its boot stages run. -/
def State.resetTo (s : State) (k : Nat) : State :=
  let r := s.blank.keepRecord s
  let r := { r with
    sys := { r.sys with resetCause := k }
    clk := { r.clk with active := s.preferred k } }
  match k with
  | 0 => { r with clock := .reset, displays := State.reset.displays }
  | 5 =>
    let p := s.pwr
    let r := (r.keepKeeper s).keepKpr s
    { r with
      tick := { r.tick with owedRestore := s.tick.owedRestore, holdTicks := s.tick.holdTicks }
      pwr := { r.pwr with
        vinMv := p.vinMv, iinMa := p.iinMa, inputOpen := p.inputOpen, clamps := p.clamps, seqStep := p.seqStep } }
  | 6 => r.keepStage s
  | 2 => { (((r.keepKeeper s).keepKpr s).keepStage s) with mem := { r.mem with dram := s.mem.dram } }
  | _ => ((r.keepKeeper s).keepKpr s).keepStage s

end Sys2Proof.Machine
end

