-- ==== Sys2Proof/Machine/Modes.lean ====
section
/-! DEFINITION. Operating modes and the wake latch: requests, entries, exits and what they post
(R422 to R441, R14). -/

namespace Sys2Proof.Machine

/-- Mode codes (Table 14.1). -/
def Mode.code : Mode → Nat
  | .off => 0
  | .deepStandby => 1
  | .retain => 2
  | .idle => 3
  | .run => 4
  | .safe => 5

/-- The mode that a request names: 1 to 4. -/
def modeOf (v : Nat) : Option Mode :=
  match v with
  | 1 => some .deepStandby
  | 2 => some .retain
  | 3 => some .idle
  | 4 => some .run
  | _ => none

/-- PWR_MODE_STATUS.TRANS: an entry or exit is in progress. -/
def Transition.busy : Transition → Bool
  | .none => false
  | .requested _ _ => false
  | .entering _ => true
  | .quiesced _ => true
  | .exiting _ => true

/-- An entry into RETAIN or DEEP STANDBY is in progress. -/
def Transition.isEntry : Transition → Bool
  | .entering _ => true
  | .quiesced _ => true
  | .none => false
  | .requested _ _ => false
  | .exiting _ => false

/-- A reaction of class C, E or M is in progress. -/
def State.reacting (s : State) : Bool :=
  s.guard.restarting ||
    (match s.guard.reaction with
     | some r => decide (r.acting ≠ .s)
     | none => false)

/-! The wake latch (R438 to R440). -/

/-- A wake source is enabled; software always is. -/
def State.wakeOn (s : State) (src : Nat) : Bool := src == 8 || s.flag KPR_WAKE_EN src

/-- The order of the latch: Keeper time, then source bit (R439). -/
def Wake.le (a b : Wake) : Bool := decide (a.ns < b.ns) || (decide (a.ns = b.ns) && decide (a.source ≤ b.source))

/-- Code of WAKE_REPLAYED byte 1 for the present moment (Table 14.6). -/
def State.wakeWhen (s : State) : Nat :=
  match s.power.trans with
  | .entering _ => 0
  | .quiesced _ => 0
  | .exiting _ => 2
  | .none => 1
  | .requested _ _ => if s.power.mode = .idle then 1 else 0

/-- An exit starts: at once from RETAIN and DEEP STANDBY, at the next edge from IDLE (R430, R431, R437, R440).
The start sequence of a DEEP STANDBY exit begins at boot stage 0. PCIE_WAKE_N goes low unless the event came from PCIe
(R561). -/
def State.startExit (s : State) (src : Nat) : State :=
  match s.power.mode with
  | .idle =>
    match s.power.trans with
    | .none => { s with power := { s.power with trans := .requested .run 3 } }
    | _ => s
  | .retain =>
    if s.power.trans = .none then
      { s with power := { s.power with trans := .exiting .retain, wakeOut := decide (src ≠ 9) } }
    else s
  | .deepStandby =>
    if s.power.trans = .none then
      let p := s.power
      let s := s.resetTo 5
      { s with power := { s.power with mode := .deepStandby, trans := .exiting .deepStandby, armed := true,
                                       wakeOut := decide (src ≠ 9), from_ := p.from_, completeNs := p.completeNs } }
    else s
  | .off => s
  | .run => s
  | .safe => s

/-- A wake event at its source: Keeper time and tick are those of the event itself (R438, R439). -/
def State.wakeEvent (s : State) (src ns tick : Nat) : State :=
  if s.power.armed = false ∨ s.wakeOn src = false then s
  else
    let s := { s with power := { s.power with seen := s.power.seen ||| 2 ^ src } }
    if s.power.latched.length < 16 then
      let w : Wake := { ns := ns, tick := tick, source := src, when_ := s.wakeWhen }
      let s := { s with power := { s.power with latched := insertBy Wake.le w s.power.latched } }
      s.startExit src
    else (s.bump KPR_WAKE_LOST_COUNT).startExit src

/-- A wake event that happens now. -/
def State.wakeNow (s : State) (src : Nat) : State := s.wakeEvent src s.ktime s.tick32

/-- MODE_CHANGED, at a Keeper time and tick (Table 14.6). -/
def State.modeChangedAt (s : State) (ns tick old new step cause : Nat) : State :=
  let l := s.power.latched
  let e : Event :=
    { ktime := ns, code := 0x20, source := new, tick := tick,
      data := [old, new, step, cause] ++ leNats 2 ((l.head?.map (·.source)).getD 0xFFFF) ++ [l.length] }
  let s := s.logEvent e
  { s with hif := { s.hif with evDue := s.hif.evDue ++ [e] } }

/-- MODE_CHANGED now. -/
def State.modeChanged (s : State) (old new step cause : Nat) : State :=
  s.modeChangedAt s.ktime s.tick32 old new step cause

/-! Requests (R422 to R424). -/

/-- A mode can be reached from the present one by a request (Table 14.2). -/
def State.reachable (s : State) (m : Mode) : Bool :=
  match s.power.mode with
  | .run => decide (m ≠ .safe) && decide (m ≠ .off)
  | .idle => decide (m ≠ .safe) && decide (m ≠ .off)
  | .off => false
  | .deepStandby => false
  | .retain => false
  | .safe => false

/-- The result of a request takes its place. -/
def State.setResult (s : State) (r : Nat) : State := { s with power := { s.power with result := r } }

/-- A mode is requested with its CAUSE (R422, R424, Table 14.3; the order of the results is that of
notes/assumptions/31.md). -/
def State.requestMode (s : State) (v cause : Nat) : State :=
  if s.guard.safe then s.setResult 3
  else
    match modeOf v with
    | none => if s.power.trans.busy || s.reacting then s.setResult 1 else s.setResult 2
    | some m =>
      if m = .run ∧ s.power.trans.isEntry = true then (s.setResult 0).wakeNow 8
      else if s.power.trans ≠ .none ∨ s.reacting = true then
        (if m = s.power.mode ∧ s.power.trans.busy = false ∧ s.reacting = false then s.setResult 0 else s.setResult 1)
      else if s.reachable m = false then s.setResult 2
      else if m = s.power.mode then s.setResult 0
      else if (m = .retain ∨ m = .deepStandby) ∧ s.clock.oscFailed = true then s.setResult 4
      else { s with power := { s.power with trans := .requested m cause, result := 0 } }

/-! Entry (R425 to R427). -/

/-- The latch is armed and cleared at the entry edge; an alarm that lies in the past is latched there. -/
def State.armLatch (s : State) : State :=
  let s := { s with power := { s.power with armed := true, latched := [], seen := 0, alarmPassed := false } }
  if s.power.alarm ≠ 0 ∧ s.power.alarm ≤ s.ktime then
    (let s := { s with power := { s.power with alarmPassed := true } }
     s.wakeEvent 6 s.ktime s.tick32)
  else s

/-- Displays that are on (R427). -/
def State.lit (s : State) : List Nat := (List.range 3).filter (fun d => !(s.disp d).step.isOff)

/-- The index of PWR_ENTRY_COUNT. -/
def entryIndex (m : Mode) : Nat := m.code - 1

/-- Displays that have finished powering up, or failed to, power down during an entry (R427). -/
def State.darken (s : State) : State :=
  (List.range 3).foldl (fun s d =>
    let x := s.disp d
    if x.step = .on ∨ x.dark = true then s.panelDown d else { s with displays := lmod s.displays d (fun x => { x with again := false }) }) s

/-- The mode that a change or an entry leaves, and its CAUSE. -/
def State.noteFrom (s : State) (cause : Nat) : State :=
  { s with power := { s.power with cause := cause, entryCause := cause, entryFrom := s.power.mode.code } }

/-- The mode changes: FROM shows the one before. -/
def State.setMode (s : State) (m : Mode) : State :=
  { s with power := { s.power with mode := m, trans := .none, from_ := s.power.mode.code } }

/-- Running channels go on as after a pause (R161, R430). -/
def State.resumeChannels (s : State) : State :=
  (s.chans.map (·.1)).foldl (fun s n => if (s.chan n).state = 1 then s.resumed n else s) s

/-- What a request does at the first edge after it (R425, R426, R430). -/
def State.modeEdge (s : State) : State :=
  match s.power.trans with
  | .requested m cause =>
    match m with
    | .run =>
      if s.power.mode = .idle then
        let s := s.noteFrom cause
        let s := s.setMode .run
        ({ s with power := { s.power with armed := false, replay := some .idle } }).resumeChannels
      else { s with power := { s.power with trans := .none } }
    | .idle =>
      let s := (s.noteFrom cause).bump PWR_ENTRY_COUNT (entryIndex .idle)
      let old := s.power.mode.code
      (((s.setMode .idle).requestOp 0).armLatch).modeChanged old 3 0 cause
    | _ =>
      let s := (s.noteFrom cause).bump PWR_ENTRY_COUNT (entryIndex m)
      let s := { s with power := { s.power with trans := .entering m, displays := s.lit } }
      let s := { s with tick := { s.tick with owedRestore := decide (s.tick.srcState = 3) } }
      (s.armLatch.modeChanged s.power.mode.code m.code 0 cause).darken
  | .entering _ => s.darken
  | .none => s
  | .quiesced _ => s
  | .exiting _ => s

/-- The quiesce edge, after its status block (R427). -/
def State.quiesce (s : State) : State :=
  match s.power.trans with
  | .entering m =>
    if s.allDark then
      let s := { s with power := { s.power with trans := .quiesced m, quiesceTick := s.tick.number.toNat,
                                                quiesceNs := s.ktime } }
      let s := { s with tick := { s.tick with stopped := true, out := false } }
      let lost := s.mem.sram.filter (fun p => !bitAt (s.fld MEM_RET_MASK 15 0) (sramBank p.1))
      let s := { s with mem := { s.mem with selfRefresh := decide (m = .retain), saved := lost } }
      if m = .deepStandby then
        { s with bus := { s.bus with endpointOff := true, linkGen := 0, linkWidth := 0, bme := false } }
      else s
    else s
  | _ => s

/-- SRAM banks that a low-power mode powers (R313, Table 14.1). -/
def State.banksIn (s : State) (m : Mode) : Nat :=
  match m with
  | .retain => s.fld MEM_RET_MASK 15 0
  | .deepStandby => 0
  | .off => 0
  | .idle => s.mem.bankOn
  | .run => s.mem.bankOn
  | .safe => s.mem.bankOn

/-- An entry completes; a latched event starts the exit at once (R427, R440). -/
def State.completeEntry (s : State) : State :=
  match s.power.trans with
  | .quiesced m =>
    let idle := fun x : Synth => { x with state := 0 }
    let off := fun c : CsiPort => { CsiPort.reset with rawDet := c.rawDet, probe := c.probe, identValid := c.identValid }
    let on := s.banksIn m
    let s := s.setMode m
    let s := { s with
      power := { s.power with completeNs := s.ktime }
      mem := { s.mem with bankOn := on, sram := s.mem.sram.filter (fun p => bitAt on (sramBank p.1)) }
      csi := s.csi.map off
      clk := { s.clk with synths := s.clk.synths.map idle, standby := false, dramDll := 0, lvdsDll := 0 } }
    (match s.power.latched with
     | [] => s
     | w :: _ => s.startExit w.source)
  | _ => s

/-! Exit (R431 to R436, R441). -/

/-- The tick number at the first edge after RETAIN (R433). -/
def State.exitTick (s : State) : Nat :=
  s.power.quiesceTick + (s.ktime - s.power.quiesceNs) / s.rd TCK_PERIOD + 1

/-- Events of a replay (R441). After DEEP STANDBY, MODE_CHANGED has occurred when RUN was reached and waits for GO with
every other event. -/
def State.replayWakes (s : State) (left : Mode) : State :=
  let p := s.power
  let s := if left = .retain then
      s.modeChangedAt p.completeNs (p.quiesceTick % 2 ^ 32) p.entryFrom 2 1 p.entryCause
    else s
  let s := if left = .deepStandby then s else s.modeChanged left.code 4 1 p.cause
  let l := p.latched.zip (List.range 16)
  l.foldl (fun s w =>
    let e : Event := { ktime := w.1.ns, code := 0x60, source := w.1.source, tick := w.1.tick,
                       data := [left.code, w.1.when_, w.2] }
    let s := s.logEvent e
    { s with hif := { s.hif with evDue := s.hif.evDue ++ [e] } }) s

/-- At the first edge after RUN is reached (from DEEP STANDBY: after GO) the replay is posted (R441). -/
def State.replayEdge (s : State) : State :=
  match s.power.replay with
  | none => s
  | some m =>
    if m = .deepStandby ∧ s.isActive = false then s
    else
      (let s := s.replayWakes m
       { s with power := { s.power with replay := none } })

/-- Partners after a RETAIN exit: those in `present` keep their ID, provided that their identity is valid; every
other one leaves (R436). -/
def State.recheckPartners (s : State) (present : List Nat) : State :=
  (s.partners.map (·.1)).foldl (fun s p =>
    if present.contains p && bitAt (s.partner p).flags 0 then s else s.depart p) s

/-- The SRAM at the exit from RETAIN: banks that were not powered are written to zero, and restored from DRAM
(R313, R431). -/
def State.restoreBanks (s : State) : State :=
  let kept := s.mem.sram.filter (fun p => bitAt s.mem.bankOn (sramBank p.1))
  { s with mem := { s.mem with
      sram := s.mem.saved.foldl (fun m p => tput 0 m p.1 p.2) kept, saved := [], bankOn := 0xFFFF } }

/-- RUN is reached from RETAIN, before its first edge (R431 to R436). -/
def State.wakeFromRetain (s : State) (present : List Nat) : State :=
  let n := s.exitTick
  let shown := if s.flag PWR_CFG 1 then s.power.displays else []
  let p := { s.power with mode := .run, trans := .none, armed := false, replay := some .retain, from_ := 2, cause := 3,
                           wakeOut := false }
  let t := { s.tick with stopped := false, number := BitVec.ofNat 48 (n - 1), nextPs := s.clock.ps }
  let s := { s with power := p, tick := t, mem := { s.restoreBanks.mem with selfRefresh := false } }
  let own := s.tick.owedRestore
  let hold := s.tick.holdTicks
  let s := s.startSource s.tick.src
  let s := { s with tick := { s.tick with owedRestore := own, holdTicks := hold } }
  let s := (s.recheckPartners present).lockPlls
  let usb := fun u : UsbPort => { u with enumerating := u.conn, modes := [] }
  let flow := fun f : Flow => { f with lastTick := n }
  let s := { s with usb := s.usb.map usb, flows := s.flows.map (fun f => (f.1, flow f.2)) }
  shown.foldl (fun s d => s.panelUp d) s

end Sys2Proof.Machine
end

