-- ==== Sys2Proof/Machine/PowerStage.lean ====
section
/-! DEFINITION. The supply and the power stage: thresholds, rails, phases, temperature and the Nectar meter
(R505 to R536). -/

namespace Sys2Proof.Machine

/-! Off and on (R506 to R515). -/

/-- OFF: the rails are down and the pads have their reset state; the Keeper keeps what it holds while its own
supply lasts (R508, R515). -/
def State.goOff (s : State) : State :=
  let r := ((s.blank.keepRecord s).keepKeeper s).keepKpr s
  let p := s.pwr
  { r with
    sys := { r.sys with resetCause := s.sys.resetCause }
    power := { r.power with mode := .off, from_ := s.power.mode.code }
    tick := { r.tick with stopped := true }
    bus := { r.bus with endpointOff := true }
    pwr := { r.pwr with vinMv := p.vinMv, clamps := p.clamps, inputOpen := p.inputOpen, pwrGood := false,
                        seqStep := p.seqStep, keeperOn := p.keeperOn } }

/-- The rails fall while VIN stands: only the Keeper remains (R517). -/
def State.railsFall (s : State) : State :=
  { s with
    pwr := { s.pwr with pwrGood := false, railOk := 0 }
    bus := { s.bus with endpointOff := true, linkGen := 0, linkWidth := 0, bme := false } }

/-- Milliseconds of clamping within the last second (R506). -/
def State.clampMs (s : State) : Nat :=
  let now := s.ktime
  (s.pwr.clamps.map (fun c =>
    let from' := c.1 - c.2 * 10 ^ 6
    (c.1 - max from' (now - 10 ^ 9)) / 10 ^ 6)).sum

/-- A surge is clamped for `ms` milliseconds (R506). -/
def State.surge (s : State) (ms : Nat) : State :=
  let s : State := s.advanceNs (ms * 10 ^ 6)
  let keep := s.pwr.clamps.filter (fun c => decide (s.ktime < c.1 + 10 ^ 9))
  let s : State := { s with pwr := { s.pwr with clamps := keep ++ [(s.ktime, ms)] } }
  if 100 < s.clampMs then
    (let s := s.goOff
     { s with pwr := { s.pwr with inputOpen := true } })
  else s.bump PWR_CLAMP_COUNT

/-- BO_WARN_MV between its limits (Table 17.8). -/
def State.boWarn (s : State) : Nat := clamp 8000 58000 (s.fld PWR_VIN_CFG 15 0)

/-- Auxiliary output `n` is on (R510). -/
def State.auxOn (s : State) (n : Nat) : Bool :=
  s.pwr.pwrGood && s.flag PWR_AUX_CFG n && !s.pwr.auxOvl.contains n &&
    (match s.power.mode with
     | .off => false
     | .deepStandby => false
     | .retain => false
     | .idle => true
     | .run => true
     | .safe => true)

/-- An auxiliary output at its limit for 1 ms switches off (R510). -/
def State.auxOff (s : State) (n : Nat) : State :=
  if s.auxOn n then
    let s := (s.bump PWR_AUX_OVL_COUNT).raiseCond 0x130A { source := n }
    { s with pwr := { s.pwr with auxOvl := s.pwr.auxOvl ++ [n] } }
  else s

/-- A retry of a switched-off output (R510). -/
def State.auxAgain (s : State) (n : Nat) (holds : Bool) : State :=
  if s.pwr.auxOvl.contains n && holds then
    ({ s with pwr := { s.pwr with auxOvl := ldel s.pwr.auxOvl n } }).gone 0x130A n
  else s

/-! Phases (R518 to R526). -/

/-- A phase. -/
def State.phase (s : State) (p : Nat) : Phase := lget .active s.pwr.phases p
/-- Change a phase. -/
def State.modPhase (s : State) (p : Nat) (f : Phase → Phase) : State :=
  { s with pwr := { s.pwr with phases := lmod s.pwr.phases p f } }
/-- A phase has been shed (Table 17.4). -/
def Phase.isShed (x : Phase) : Bool := decide (3 ≤ x.state)
/-- A phase switches: active, not parked and not the idle spare. -/
def Phase.switching (x : Phase) : Bool := x.state == 0
/-- Phases that are not shed. -/
def State.phasesLeft (s : State) : Nat := (s.pwr.phases.filter (fun x => !x.isShed)).length

/-- The spare takes over from an active phase that was shed (R523); a shed spare is spare no more. -/
def State.takeOver (s : State) (p : Nat) (wasActive : Bool) : State :=
  let sp := s.pwr.spare
  if sp = p then { s with pwr := { s.pwr with spare := 7 } }
  else if sp = 7 ∨ wasActive = false then s
  else
    let s := s.modPhase sp (fun x => { x with state := 0 })
    { s with pwr := { s.pwr with spare := 7 } }

/-- What the number of healthy phases brings (Table 17.6, R525, R526). A raise under way is abandoned at a
second loss; without a phase VCORE falls. -/
def State.afterLoss (s : State) : State :=
  if s.phasesLeft = 3 then
    let s := s.clockAt s.pwr.op
    let s := { s with pwr := { s.pwr with capA := 18, phaseCeil := true } }
    (s.raiseCond 0x1303).enforceCeil
  else if s.phasesLeft < 3 then
    let s := if s.phasesLeft = 0 then { s with pwr := { s.pwr with coreMv := 0, railOk := putBits s.pwr.railOk 6 6 0 } } else s
    if s.causeLive 0x1304 then s else s.raise 0x1304
  else s

/-- Jobs under way carry estimated energy while a sense is distrusted (R42, R536). -/
def State.markEstimated (s : State) : State :=
  if s.distrusted then
    let f := fun j : Job => if j.underWay then { j with estimated := true } else j
    { s with hif := { s.hif with jobs := s.hif.jobs.map f, live := s.hif.live.map f } }
  else s

/-- A phase is shed: state 3 open phase, 4 current sense (R522 to R526); the jobs that ran while it was distrusted
keep their mark (R536). -/
def State.shed (s : State) (state p : Nat) : State :=
  let x := s.phase p
  if x.isShed ∨ 5 ≤ p then s
  else
    let code := if state = 3 then 0x1301 else 0x1302
    let s := s.markEstimated.modPhase p (fun x => { x with state := state, distrust := false, fails := 0, passes := 0, ma := 0 })
    let s := (s.bump PWR_SHED_COUNT).raiseCond code { source := p }
    (s.takeOver p (decide (x.state = 0 ∨ x.state = 2))).afterLoss

/-- Whether the input-share reference can be used. -/
def State.shareOk (s : State) : Bool := !s.pwr.senseLost

/-- Distance of two currents. -/
def dist (a b : Nat) : Nat := if a ≤ b then b - a else a - b

/-- One phase at one 10 µs check (Table 17.5, R522). -/
def State.checkPhase (s : State) (r : PhaseSense) : State :=
  let x := s.phase r.phase
  if x.switching = false ∨ 5 ≤ r.phase then s
  else
    let m := dist r.sense r.model
    let h := dist r.sense r.share
    let far := decide (1750 < m) && (!s.shareOk || decide (1750 < h))
    let off := decide (700 < m) || (s.shareOk && decide (700 < h))
    let fails := if far then x.fails + 1 else 0
    let passes := if off then 0 else x.passes + 1
    let distrust := off || (x.distrust && decide (passes < 10))
    let s := s.modPhase r.phase (fun x => { x with ma := r.sense, fails := fails, passes := passes, distrust := distrust })
    if r.atRail || decide (3 ≤ fails) then s.shed 4 r.phase else s

/-- The checks of one 10 µs period, in ascending phase number (R522, R524). -/
def State.checkPhases (s : State) (rs : List PhaseSense) (inputOk : Bool) : State :=
  let s := if inputOk then s else { s with pwr := { s.pwr with senseLost := true } }
  let s := (sortBy (fun a b : PhaseSense => decide (a.phase ≤ b.phase)) rs).foldl State.checkPhase s.markEstimated
  s.markEstimated

/-- Two active phases are parked (R519). -/
def State.park (s : State) (a b : Nat) : State :=
  if a ≠ b ∧ (s.phase a).switching = true ∧ (s.phase b).switching = true ∧ s.pwr.settled = true ∧ a < 5 ∧ b < 5 then
    (s.modPhase a (fun x => { x with state := 2 })).modPhase b (fun x => { x with state := 2 })
  else s

/-- Parked phases resume switching (R519). -/
def State.unpark (s : State) : State :=
  { s with pwr := { s.pwr with phases := s.pwr.phases.map (fun x => if x.state = 2 then { x with state := 0 } else x) } }

/-- The phases after the test of step 3: failing ones are shed, the rest active, and the highest-numbered healthy
one is the spare unless a loss has used it (R513, R518). -/
def testedPhases (bad : List (Nat × Bool)) : List Phase × Nat :=
  let failed := fun (p : Nat) => (bad.find? (fun x => x.1 == p)).map (·.2)
  let spare := if (List.range 5).all (fun p => (failed p).isNone) then 4 else 7
  ((List.range 5).map (fun p =>
    match failed p with
    | some byOpen => { Phase.active with state := 5, byOpen := byOpen }
    | none => { Phase.active with state := if p = spare then 1 else 0 }), spare)

/-! Temperature (R529 to R531). -/

/-- WARN_C and STEP_MS between their limits (Table 17.8). -/
def State.warnC (s : State) : Int := (clamp 90 120 (s.fld PWR_THERM_CFG 7 0) : Nat)
/-- STEP_MS in ns. -/
def State.stepNs (s : State) : Nat := 10 ^ 6 * clamp 100 10000 (s.fld PWR_THERM_CFG 31 16)

/-- The falling sequence at one reading. -/
def State.thermFall (s : State) (hot : Bool) : State :=
  let p := s.pwr
  if hot then
    match p.fallNs with
    | none => { s with pwr := { p with thermCeil := max 3 (p.thermCeil - 1), fallNs := some (s.ktime + s.stepNs) } }
    | some t =>
      if t ≤ s.ktime then
        { s with pwr := { p with thermCeil := max 3 (p.thermCeil - 1), fallNs := some (t + s.stepNs) } }
      else s
  else { s with pwr := { p with fallNs := none } }

/-- The rising sequence at one reading. -/
def State.thermRise (s : State) (cool : Bool) : State :=
  let p := s.pwr
  if cool then
    match p.riseNs with
    | none => { s with pwr := { p with riseNs := some (s.ktime + 5 * s.stepNs) } }
    | some t =>
      if t ≤ s.ktime then
        { s with pwr := { p with thermCeil := min 5 (p.thermCeil + 1), riseNs := some (t + 5 * s.stepNs) } }
      else s
  else { s with pwr := { p with riseNs := none } }

/-- One reading of the sensors, 1 ms after the one before (R529 to R531). -/
def State.readTherm (s : State) (tj treg : Int) : State :=
  let s := s.advanceTo (1000 * (s.pwr.readNs + 10 ^ 6))
  let p := { s.pwr with tj := tj, treg := treg, readNs := s.ktime }
  let s := { s with pwr := p }
  let t := max tj treg
  let hot := decide (s.warnC ≤ t)
  let cool := decide (t ≤ s.warnC - 10)
  let s := (s.thermFall hot).thermRise cool
  let s := if hot && !s.causeLive 0x1307 then s.raiseCond 0x1307 else s
  let s := if cool then s.gone 0x1307 0xFF else s
  let over' := decide (125 ≤ tj) || decide (130 ≤ treg)
  let s := if over' then
      match s.pwr.hotNs with
      | none => { s with pwr := { s.pwr with hotNs := some s.ktime } }
      | some t0 => if t0 + 10 ^ 6 ≤ s.ktime ∧ s.causeLive 0x1308 = false then s.raise 0x1308 else s
    else { s with pwr := { s.pwr with hotNs := none } }
  if s.guard.safe && s.causeLive 0x1308 && decide (135 ≤ tj) then s.railsFall else s

/-! The Nectar meter (R532 to R536). -/

/-- A number for a fenceable kind. -/
def kindNum : UnitKind → Nat
  | .syn => 0
  | .pix => 1
  | .enc => 2
  | .core => 3

/-- Rail energy referred to the module input (R534). -/
def State.referred (s : State) (rail nj : Nat) : Nat :=
  nj * 10 ^ 6 / Config.efficiency rail s.pwr.op s.pwr.vinMv nj

/-- The weight of a share (R533). -/
def State.shareWeight (s : State) (x : MeterShare) : Nat :=
  Config.weight (kindNum x.kind) x.unit s.pwr.op * x.busyCycles

/-- A part of an amount, by weight. -/
def partOf (amount w total : Nat) : Nat := if total = 0 then 0 else amount * w / total

/-- Energy goes to a job. -/
def State.charge (s : State) (id nj : Nat) : State :=
  s.modJob id (fun j => { j with energyNj := j.energyNj + nj })

/-- Nanojoules into a 64-bit microjoule counter, with the remainder that stays. -/
def State.meterInto (s : State) (d : RegDef) (rest nj : Nat) : State × Nat :=
  let t := rest + nj
  (s.bump64 d 0 (t / 1000), t % 1000)

/-- The job that a share goes to: engine shares only; control cores are overhead. -/
def payer (x : MeterShare) : Option Nat := if x.kind = .core then none else x.job

/-- One interval of 10 µs (R533). -/
def State.meter (s : State) (m : MeterSample) : State :=
  if s.asleep then s
  else
    let cmp := (m.cmpNj.map (·.2)).sum
    let core := m.coreNj - cmp
    let wsum := (m.shares.map s.shareWeight).sum
    let bytes := (m.dram.map (·.2)).sum + m.dramOther
    let coreOf := fun x : MeterShare => s.referred 0 (partOf core (s.shareWeight x) wsum)
    let memOf := fun b : Nat => s.referred 1 (partOf m.memNj b bytes)
    let paid := (m.shares.filter (fun x => (payer x).isSome)).map (fun x => ((payer x).getD 0, coreOf x)) ++
      m.dram.map (fun x => (x.1, memOf x.2))
    let total := s.referred 0 core + s.referred 1 m.memNj
    let ovh := total - (paid.map (·.2)).sum
    let s := paid.foldl (fun s p => s.charge p.1 p.2) s
    let s := m.cmpNj.foldl (fun s p =>
      let old := tget 0 s.pwr.cmpNj p.1 + s.referred 0 p.2
      let s := s.bump64 CMP_ENERGY_UJ p.1 (old / 1000)
      { s with pwr := { s.pwr with cmpNj := tput 0 s.pwr.cmpNj p.1 (old % 1000) } }) s
    let (s, a) := s.meterInto PWR_ENERGY_IN_UJ s.pwr.inNj m.inputNj
    let (s, b) := s.meterInto PWR_ENERGY_CORE_UJ s.pwr.coreNj m.coreNj
    let (s, c) := s.meterInto PWR_ENERGY_MEM_UJ s.pwr.memNj m.memNj
    let (s, d) := s.meterInto PWR_ENERGY_OVH_UJ s.pwr.ovhNj ovh
    ({ s with pwr := { s.pwr with vinMv := m.vinMv, iinMa := m.iinMa, inNj := a, coreNj := b, memNj := c,
                                  ovhNj := d } }).markEstimated

end Sys2Proof.Machine
end

