-- ==== Sys2Proof/Machine/Boot.lean ====
section
/-! DEFINITION. Start-up: the power sequence, the boot stages, firmware slots and the microcode patch, restarts,
rescue boot and the life cycle (R386 to R390, R450 to R476, R511 to R513, R527). Durations of the stages are
timing (notes/assumptions/32.md). -/

namespace Sys2Proof.Machine

/-! Bytes of MRAM and of images (Tables 12.4, 15.4, 15.5). -/

/-- A byte of MRAM. -/
def State.mramByte (s : State) (a : Nat) : Byte := tget (Config.mram a) s.mem.mram a

/-- `n` bytes of an image from offset `o` on. -/
def imgBytes (f : Nat → Byte) (o n : Nat) : List Byte := (List.range n).map (fun i => f (o + i))

/-- MRAM takes bytes; what an interrupted write leaves is not known, so its bytes are free values. -/
def State.mramWrite (s : State) (a : Nat) (b : List Byte) (ok : Bool) : State :=
  if ok then { s with mem := { s.mem with mram := splice s.mem.mram a b } }
  else ({ s with mem := { s.mem with mram := splice s.mem.mram a (codedBytes s.fresh 0 b.length) } }).freshen

/-- A little-endian number of an image. -/
def imgNat (f : Nat → Byte) (o n : Nat) : Nat := leNat (imgBytes f o n)

/-- Every byte of a reserved range is 0. -/
def imgZero (f : Nat → Byte) (o n : Nat) : Bool := (imgBytes f o n).all (fun b => b == 0)

/-- The bytes of an ASCII name. -/
def ascii (l : List Nat) : List Byte := l.map (BitVec.ofNat 8)

/-- "AMS2" (R4). -/
def dieCode : List Byte := ascii [0x41, 0x4D, 0x53, 0x32]

/-- Size of a firmware slot: 1.5 MiB (Table 15.4). -/
def slotSize : Nat := 0x180000

/-- MRAM offset of a slot: 0 A, 1 B (Table 15.4). -/
def slotBase (k : Nat) : Nat := slotSize * k

/-- The bytes of a slot. -/
def State.slotByte (s : State) (k : Nat) : Nat → Byte := fun i => s.mramByte (slotBase k + i)

/-- CODE_LEN and PATCH_LEN of an image. -/
def codeLen (f : Nat → Byte) : Nat := imgNat f 0x14 4
/-- PATCH_LEN of an image. -/
def patchLen (f : Nat → Byte) : Nat := imgNat f 0x18 4
/-- The bytes of the embedded patch. -/
def patchByte (f : Nat → Byte) : Nat → Byte := fun i => f (0x80 + codeLen f + i)

/-- Step 1 of R460 within `room` bytes. -/
def headerOk (f : Nat → Byte) (room : Nat) : Bool :=
  imgBytes f 0 4 == ascii [0x53, 0x51, 0x46, 0x57] && imgNat f 4 2 == 1 && imgBytes f 8 4 == dieCode &&
    imgZero f 6 2 && imgZero f 0x11 3 && imgZero f 0x1C 4 && imgZero f 0x60 32 &&
    decide (0x80 + codeLen f + patchLen f + 64 ≤ room)

/-- The checks of R460, in order: 0, or the reason of Table 15.7. -/
def imageErr (f : Nat → Byte) (room epoch : Nat) : Nat :=
  if !headerOk f room then 0xC0
  else if Config.sha256 (imgBytes f 0x20 64) ≠ Config.fwKeyHash then 0xC1
  else if !Config.signatureOk (imgBytes f 0 (0x80 + codeLen f + patchLen f + 64)) then 0xC2
  else if imgNat f 0x10 1 < epoch then 0xC3
  else 0

/-! The microcode patch (R386 to R390). -/

/-- Patch words and overrides of an image. -/
def patchW (f : Nat → Byte) : Nat := imgNat f 0x16 2
/-- Number of overrides. -/
def patchV (f : Nat → Byte) : Nat := imgNat f 0x18 2
/-- Length of a patch image. -/
def patchSize (f : Nat → Byte) : Nat := 0x80 + 12 * patchW f + 4 * patchV f + 80

/-- Step 1 of R386. -/
def patchHeaderOk (f : Nat → Byte) (len : Nat) : Bool :=
  imgBytes f 0 4 == ascii [0x53, 0x51, 0x4D, 0x50] && imgNat f 4 2 == 1 && imgBytes f 8 4 == dieCode &&
    imgNat f 0x0C 4 == Config.romId.toNat && imgZero f 6 2 && imgZero f 0x15 1 && imgZero f 0x1A 2 &&
    imgZero f 0x68 24 && decide (1 ≤ patchW f) && decide (patchW f ≤ 1024) && decide (patchV f ≤ 256) &&
    len == patchSize f

/-- Overrides of a decrypted body: dispatch index and target (Table 12.4). -/
def overridesOf (w v : Nat) (plain : List Byte) : List (Nat × Nat) :=
  (List.range v).map (fun i =>
    let x := leAt plain (12 * w + 4 * i) 4
    (bits x 7 0, bits x 20 8))

/-- Step 6 of R386. -/
def overridesOk (w : Nat) (l : List (Nat × Nat)) : Bool :=
  ((l.map (·.1)).foldl ladd []).length == l.length &&
    l.all (fun x => decide (0x1000 ≤ x.2) && decide (x.2 ≤ 0x0FFF + w))

/-- Steps 1 to 3 of R386: LOAD_RESULT, 0 when they pass. -/
def patchFront (f : Nat → Byte) (len : Nat) : Nat :=
  if !patchHeaderOk f len then 2
  else if Config.sha256 (imgBytes f 0x28 64) ≠ Config.patchKeyHash then 3
  else if !Config.signatureOk (imgBytes f 0 len) then 4
  else 0

/-- The embedded patch of an image passes steps 1, 2, 3 and 5 of R386, or there is none (R464, R466). -/
def State.embeddedOk (s : State) (f : Nat → Byte) : Bool :=
  patchLen f == 0 ||
    (patchFront (patchByte f) (patchLen f) == 0 && decide (s.sys.patchEpochFuse ≤ imgNat (patchByte f) 0x14 1))

/-- The checks of COMMIT and of the rescue procedure on an image (R464, R466). -/
def State.stagedErr (s : State) (f : Nat → Byte) (room : Nat) : Nat :=
  let e := imageErr f room s.sys.fwEpochFuse
  if e ≠ 0 then e else if s.embeddedOk f then 0 else 0xC4

/-- LOAD_RESULT of a patch with its decrypted body (R386). -/
def State.patchResult (s : State) (f : Nat → Byte) (len : Nat) : Nat × List Byte :=
  let e := patchFront f len
  if e ≠ 0 then (e, [])
  else
    match (if s.sys.patchKey then Config.decrypt (imgBytes f 0 len) else none) with
    | none => (5, [])
    | some plain =>
      if imgNat f 0x14 1 < s.sys.patchEpochFuse then (6, [])
      else if overridesOk (patchW f) (overridesOf (patchW f) (patchV f) plain) then (0, plain) else (7, [])

/-- An engine whose patch read-back mismatches starts fenced (R387; "When it fails" of the patch section). -/
def State.patchMismatch (s : State) (u : Nat) : State :=
  s.raise 0x1002 { source := u } { unit := some (.syn, u) }

/-- Stage 3: the patch stored with slot `k` is loaded, or every engine stays on ROM (R386 to R388). -/
def State.loadPatch (s : State) (k : Nat) (mismatch : List Nat) : State :=
  let f := s.slotByte k
  if patchLen f = 0 then s
  else
    let p := patchByte f
    let (r, plain) := s.patchResult p (patchLen f)
    let set := fun (y : Sys) => { s with sys := y }
    if r = 0 then
      let words := (List.range (patchW p)).map (fun i => leAt plain (12 * i) 12)
      let s := set { s.sys with loadResult := 0, overrides := overridesOf (patchW p) (patchV p) plain,
                                patchWords := words, patchVersion := imgNat p 0x10 4,
                                imageEpoch := imgNat p 0x14 1 }
      mismatch.foldl (fun s u => if u < 3 then s.patchMismatch u else s) s
    else (set { s.sys with loadResult := r }).raiseI (if r = 6 then 0x1009 else 0x1008)

/-! Firmware slots (R459 to R462). -/

/-- The boot record of a slot. -/
def State.slot (s : State) (k : Nat) : FwSlot := if k = 0 then s.sys.slotA else s.sys.slotB
/-- Change the boot record of a slot. -/
def State.modSlot (s : State) (k : Nat) (f : FwSlot → FwSlot) : State :=
  if k = 0 then { s with sys := { s.sys with slotA := f s.sys.slotA } }
  else { s with sys := { s.sys with slotB := f s.sys.slotB } }

/-- A slot is marked BAD and SYS 0x0101 is due once the kernel runs (R460, R461). -/
def State.markBad (s : State) (k : Nat) : State :=
  let s := s.modSlot k (fun x => { x with state := 3 })
  { s with sys := { s.sys with slotFaultDue := true } }

/-- A TRIAL slot that did not stay is marked BAD and the other slot is preferred (R458, R461). -/
def State.revertSlot (s : State) (k : Nat) : State :=
  let s := s.markBad k
  { s with sys := { s.sys with preferred := 1 - k, trialBooted := false } }

/-- Slot `k` is booted. -/
def State.bootFrom (s : State) (k : Nat) : State :=
  let x := s.slot k
  { s with sys := { s.sys with bootSlot := k, fwVersion := x.version, fwEpoch := x.epoch,
                               trialBooted := s.sys.trialBooted || x.state == 2 } }

/-- A slot is tried: what the boot record says first, then its image (R460, R461). -/
def State.trySlot (s : State) (k : Nat) : State × Bool :=
  match (s.slot k).state with
  | 0 => (s, false)
  | 3 => (s, false)
  | st =>
    if st = 2 ∧ s.sys.trialBooted = true then (s.revertSlot k, false)
    else if imageErr (s.slotByte k) slotSize s.sys.fwEpochFuse = 0 then (s.bootFrom k, true)
    else
      let s := s.markBad k
      ({ s with sys := { s.sys with slotFail := true } }, false)

/-- Slot choice: the preferred slot, then the other one (R460). -/
def State.chooseSlot (s : State) : State × Bool :=
  let p := s.sys.preferred
  match s.trySlot p with
  | (s, true) => (s, true)
  | (s, false) => s.trySlot (1 - p)

/-- The slot that a start which is known to succeed boots, when the boot record has one. -/
def State.goodSlot (s : State) : Option Nat :=
  [s.sys.preferred, 1 - s.sys.preferred].find? (fun k =>
    (s.slot k).state == 1 || ((s.slot k).state == 2 && !s.sys.trialBooted))

/-! The life cycle (R468 to R476). -/

/-- A bit that the spec leaves to the hardware: a fuse reads back as programmed. -/
def State.freeBit (s : State) : State × Bool := (s.freshen, Config.free s.fresh % 2 == 0)

/-- Steps 2 and 3 of R473 for target state `t`: RETURNED destroys the key; the fuse may fail to read back. -/
def State.programState (s : State) (t : Nat) (fuseOk : Bool) : State :=
  { s with sys := { s.sys with
      patchKey := s.sys.patchKey && t != 3, lifeState := if fuseOk then t else s.sys.lifeState,
      lcsResult := if fuseOk then 0 else 6 } }

/-- The user region of MRAM written with zeros. -/
def State.wipeUser (s : State) : State :=
  { s with mem := { s.mem with mram := splice s.mem.mram 0x300000 (List.replicate 0xF0000 0) } }

/-- Steps 4 and 5 of R473, DRAM apart: the on-chip memories, patch RAM and the Keeper SRAM; for RETURNED the user
region too. -/
def State.wipeChip (s : State) (t : Nat) : State :=
  let s := { s with
    mem := { s.mem with sram := [] }
    sys := { s.sys with patchWords := [], overrides := [] }
    log := .reset
    power := { s.power with latched := [], seen := 0 } }
  if t = 3 then s.wipeUser else s

/-- The DRAM wiped. -/
def State.wipeDram (s : State) : State := { s with mem := { s.mem with dram := [] } }

/-- A wipe has passed: WIPE_PENDING is cleared and its duration noted (R473, step 6). -/
def State.wipeDone (s : State) (us : Nat) : State :=
  { s with sys := { s.sys with wipePending := none, dramWipeDue := false, wipeUs := us } }

/-! The boot stages (R455, Table 15.3). -/

/-- SYS_STATUS.BOOT_STAGE. -/
def State.stage (s : State) (n : Nat) : State := { s with sys := { s.sys with bootStage := n } }

/-- Rescue boot (R462, R465): pads as in SAFE, the endpoint held in reset. -/
def State.enterRescue (s : State) (noSlot : Bool) : State :=
  let s := { s with
    sys := { s.sys with rescue := true, rescueNoSlot := noSlot }
    bus := { s.bus with endpointOff := true, linkGen := 0, linkWidth := 0, bme := false }
    tick := { s.tick with stopped := true } }
  if noSlot then
    ((((s.setStatus 0x0102).logFault 0x0102 .s .s {}).present 0x0102 0xFF).bump GRD_REACT_COUNT 4)
  else s

/-- Stage 1, and the first part of a wipe that is resumed (R457, R475). -/
def State.stage1 (s : State) : State :=
  let s := s.stage 1
  let s := { s with power := { s.power with wakeOut := false } }
  match s.sys.wipePending with
  | none => s
  | some t =>
    let (s, ok) := s.freeBit
    let s := (s.programState t (ok || s.sys.lifeState == t)).wipeChip t
    { s with sys := { s.sys with dramWipeDue := true } }

/-- Stages 4 to 6: DRAM is trained, wiped where Table 15.2 or R475 says so, and the firmware starts. -/
def State.stage4 (s : State) (env : BootEnv) : State :=
  let s := s.stage 4
  if !env.trainOk then s.raise 0x0D03
  else
    let s := { s with mem := { s.mem with trained := 3 } }
    if s.sys.dramWipeDue then
      if env.wipeOk then ((s.wipeDram).wipeDone env.wipeUs).stage 6
      else (s.stage 5).raise 0x1602
    else s.stage 6

/-- The boot stages 0 to 6 (R455); `rescue` follows SYS_RESTART.RESCUE (R465). -/
def State.boot (s : State) (rescue : Bool) (env : BootEnv) : State :=
  if !env.fuseOk then
    -- The boot ROM stops (LCS 0x1601).
    let s := s.stage 1
    let s := { s with sys := { s.sys with bootStopped := true } }
    s.raise 0x1601
  else
    let resumed := s.sys.wipePending.isSome
    let s := s.stage1
    if resumed && !env.wipeOk then s.raise 0x1602
    else
      let s := s.stage 2
      if rescue then s.enterRescue false
      else
        match s.chooseSlot with
        | (s, false) => s.enterRescue true
        | (s, true) => ((s.stage 3).loadPatch s.sys.bootSlot env.patchMismatch).stage4 env

/-- Codes of Table 17.6 that still apply are raised again at stage 7, and with them the cap and the ceiling
(R527). -/
def State.raiseSheds (s : State) : State :=
  let one := fun (s : State) (p : Nat) =>
    match (s.phase p).state with
    | 3 => s.raiseCond 0x1301 { source := p }
    | 4 => s.raiseCond 0x1302 { source := p }
    | 5 => s.raiseCond (if (s.phase p).byOpen then 0x1301 else 0x1302) { source := p }
    | _ => s
  let s := (List.range 5).foldl one s
  if s.phasesLeft < 3 then s.raise 0x1304
  else if s.phasesLeft = 3 then
    ({ s with pwr := { s.pwr with capA := 18, phaseCeil := true } }).raiseCond 0x1303
  else s

/-- Stage 7: CONFIG is reached, and the tick starts (R455, R457, R460). -/
def State.reachConfig (s : State) : State :=
  let s := s.stage 7
  let deep := decide (s.power.trans = .exiting .deepStandby)
  let s := if deep then s.modeChanged 1 4 1 3 else s
  let p := s.power
  let p := if deep then { p with mode := .run, trans := .none, armed := false, from_ := 1, cause := 3,
                                 replay := some .deepStandby }
           else { p with mode := .run, trans := .none }
  let s := { s with
    power := p
    tick := { s.tick with stopped := false, edgePs := s.clock.ps, nextPs := s.clock.ps + 1000 * s.tick.periodNs }
    pwr := { s.pwr with railOk := if s.pwr.railOk = 0 then 0x7F else s.pwr.railOk, pwrGood := true, coreMv := opMv 0 }
    sys := { s.sys with cfg := .config }
    mem := { s.mem with trained := 3 } }
  let s := s.lockPlls
  let s := if s.sys.slotFaultDue then
      ({ s with sys := { s.sys with slotFaultDue := false } }).raiseI 0x0101
    else s
  let s := s.raiseSheds
  if s.clock.oscFailed then s.raiseCond 0x1203 else s

/-- A start is under way that can still reach CONFIG. -/
def State.booting (s : State) : Bool :=
  decide (s.sys.bootStage < 7) && !s.sys.rescue && !s.sys.bootStopped && !s.sys.resetLow && !s.guard.safe &&
    s.pwr.pwrGood && !s.pwr.inputOpen && s.pwr.keeperOn && decide (s.power.mode ≠ .off)

/-- BOOT_COMPLETE: a start that stands at an earlier stage has passed the stages between, with the slot that the
boot record gives. -/
def State.bootComplete (s : State) : State :=
  if !s.booting then s
  else if s.sys.bootStage = 6 then s.reachConfig
  else
    let s := s.stage1
    match s.goodSlot with
    | none => s
    | some k =>
      let s := (((s.stage 2).bootFrom k).stage 3).loadPatch k []
      let s := if s.sys.dramWipeDue then (s.wipeDram).wipeDone s.sys.wipeUs else s
      s.reachConfig

/-! Power (R511 to R513). -/

/-- The power sequence fails at a step: the rails fall, and it is retried after 1 s (R513). -/
def State.sequenceFails (s : State) (step : Nat) : State :=
  { s with
    pwr := { s.pwr with seqStep := step, seqFailed := true, seqNs := s.ktime, pwrGood := false, railOk := 0 }
    power := { s.power with mode := .off } }

/-- The power sequence runs with the phases tested (R511 to R513, Table 17.3). -/
def State.powerSequence (s : State) (env : BootEnv) : State :=
  let bad := (List.range 5).filterMap (fun p => env.phaseFail.find? (fun x => x.1 == p))
  let at' := if bad.length < 3 then env.railFail
             else if 1 ≤ env.railFail ∧ env.railFail < 3 then env.railFail else 3
  if at' ≠ 0 then s.sequenceFails at'
  else
    let (ph, spare) := testedPhases bad
    let s := bad.foldl (fun s _ => s.bump PWR_SHED_COUNT) s
    { s with
      pwr := { s.pwr with phases := ph, spare := spare, seqFailed := false, pwrGood := true, lowGood := false,
                          railOk := 0x7F, coreMv := opMv 0 }
      power := { s.power with mode := .run } }

/-- A start that runs the power sequence and then the boot stages. -/
def State.coldStart (s : State) (env : BootEnv) : State :=
  let s := s.powerSequence env
  if s.pwr.seqFailed then s else s.boot false env

/-! Restarts (R451, R452). -/

/-- SYS_RESTART with the right key (R451, R452): displays power down first unless IMMEDIATE is set. -/
def State.startRestart (s : State) (cause : Nat) (rescue immediate : Bool) : State :=
  if s.sys.restart.isSome then s
  else
    let s := { s with sys := { s.sys with restart := some (cause, rescue, immediate) } }
    if immediate then s else (List.range 3).foldl (fun s d => s.panelDown d) s

/-- Step 4 to 7 of R473 at the restart that ends a transition (R473, R475, R476). -/
def State.transition (s : State) (t : Nat) (env : BootEnv) : State :=
  let s := (s.wipeChip t).wipeDram
  if env.wipeOk then ((s.wipeDone env.wipeUs).resetTo 6).boot false env
  else ({ s with sys := { s.sys with restart := none } }).raise 0x1602

/-- The reset point of a restart (R452). -/
def State.atReset (s : State) (env : BootEnv) : State :=
  match s.sys.restart with
  | none => s
  | some (cause, rescue, immediate) =>
    if immediate || s.allDark then
      if cause = 6 then
        match s.sys.wipePending with
        | some t => s.transition t env
        | none => s
      else (s.resetTo cause).boot rescue env
    else s

/-- The boot watchdog fires (R458): the slot being booted is marked BAD like a TRIAL slot that did not stay. -/
def State.watchdog (s : State) (env : BootEnv) : State :=
  if !s.booting then s
  else
    let k := if s.sys.bootStage < 2 then s.sys.preferred else s.sys.bootSlot
    let s := (s.revertSlot k).resetTo 4
    ({ s with sys := { s.sys with slotFaultDue := true } }).boot false env

/-! Rescue programming (R465 to R467). -/

/-- The image that the host wrote into the SRAM window. -/
def State.rescueByte (s : State) : Nat → Byte := fun i => tget 0 s.mem.sram i

/-- A slot programmed with `len` bytes of the image: EMPTY, and VALID when they read back (R466). -/
def State.programSlot (len : Nat) (ok : Bool) (s : State) (k : Nat) : State :=
  let f := s.rescueByte
  (s.mramWrite (slotBase k) (imgBytes f 0 len) ok).modSlot k (fun x =>
    if ok then { state := 1, version := imgNat f 0x0C 4, epoch := imgNat f 0x10 1 } else { x with state := 0 })

/-- GO of SYS_RESCUE_CTL in rescue boot (R466): a failing check or read-back leaves its reason; else the named slots are
programmed and a rescue restart is due. -/
def State.rescueGo (s : State) (len slots : Nat) (ok : Bool) : State :=
  if s.sys.rescue = false ∨ s.sys.restart.isSome = true then s
  else
    let r := if slotSize < len then 0xC6 else s.stagedErr s.rescueByte len
    if r ≠ 0 then { s with sys := { s.sys with rescueResult := r } }
    else
      let named := setBits slots 2
      let s := named.foldl (State.programSlot len ok) s
      if !ok && !named.isEmpty then { s with sys := { s.sys with rescueResult := 0xC5 } }
      else { s with sys := { s.sys with rescueResult := 0, preferred := named.headD s.sys.preferred, trialBooted := false,
                                        restart := some (7, false, true) } }

/-! Life-cycle commands (R470 to R473). -/

/-- A command that is not accepted changes nothing but RESULT (R471). -/
def State.lcsRefused (s : State) (r : Nat) : State := { s with sys := { s.sys with lcsResult := r } }

/-- A command that is accepted, with its result of Table 15.10. -/
def State.lcsEnd (s : State) (cmd r : Nat) : State :=
  { s with sys := { s.sys with lcsResult := r, lcsLast := cmd } }

/-- An anti-rollback count after a raise to `e`: unchanged when it is not below, or when a fuse does not read
back (R472, Table 15.10). -/
def raiseCount (old e : Nat) (fuseOk : Bool) : Nat × Nat :=
  if e ≤ old then (old, 0) else if fuseOk then (e, 0) else (old, 6)

/-- The first reason for which a command is not accepted (R471, Table 15.10). -/
def State.lcsRefusal (s : State) (cmd : Nat) : Nat :=
  let st := s.sys.lifeState
  if s.isActive || s.sys.bootStage != 7 then 2
  else if decide (s.power.mode ≠ .run) || decide (s.power.trans ≠ .none) || s.reacting || s.guard.safe then 3
  else if cmd = 1 then (if st = 3 then 4 else 0)
  else if st = 0 ∨ st = 3 then 4
  else if cmd = 2 then (if (s.slot s.sys.bootSlot).state = 2 then 5 else 0)
  else if s.sys.loadResult ≠ 0 then 5 else 0

/-- A write of LCS_CMD (R470 to R473). -/
def State.lcsCommand (s : State) (cmd key : Nat) (fuseOk : Bool) : State :=
  if s.sys.restart.isSome then s
  else if key ≠ 0x7A1E then s.lcsRefused 1
  else if cmd < 1 ∨ 3 < cmd then s
  else
    let r := s.lcsRefusal cmd
    if r ≠ 0 then s.lcsRefused r
    else if cmd = 1 then
      let t := s.sys.lifeState + 1
      let s := (s.lcsEnd cmd 0).programState t fuseOk
      { s with sys := { s.sys with wipePending := some t, restart := some (6, false, true) } }
    else if cmd = 2 then
      let (n, r) := raiseCount s.sys.fwEpochFuse s.sys.fwEpoch fuseOk
      let s := s.lcsEnd cmd r
      { s with sys := { s.sys with fwEpochFuse := n } }
    else
      let (n, r) := raiseCount s.sys.patchEpochFuse s.sys.imageEpoch fuseOk
      let s := s.lcsEnd cmd r
      { s with sys := { s.sys with patchEpochFuse := n } }

end Sys2Proof.Machine
end

