-- ==== Sys2Proof/Machine/HostLink.lean ====
section
/-! DEFINITION. The host link: the checks of GO, doorbell reads, the fetch and validation of descriptors, ordered
release, events, the status block and interrupt moderation (R96 to R136, R148, R366 to R371). -/

namespace Sys2Proof.Machine

/-! The checks of GO (R96). -/

/-- A ring base or block base is non-zero and aligned to `a`. -/
def baseOk (base a : Nat) : Bool := base != 0 && base % a == 0

/-- A submission ring has a base and a size that pass the checks of GO. -/
def State.sqOk (s : State) (n : Nat) : Bool :=
  !s.sqOn n ||
    (baseOk (s.rd64 HIF_SQ_BASE_LO HIF_SQ_BASE_HI n) 4096 && decide (4 ≤ s.fld HIF_SQ_CFG 3 0 n) &&
      decide (s.fld HIF_SQ_CFG 3 0 n ≤ 12))

/-- A submission ring has an enabled completion ring as its DEF_CQ. -/
def State.defCqOk (s : State) (n : Nat) : Bool := !s.sqOn n || s.cqOn (s.fld HIF_SQ_CFG 13 8 n)

/-- A completion ring passes the checks of GO. -/
def State.cqOk (s : State) (n : Nat) : Bool :=
  !s.cqOn n ||
    (baseOk (s.rd64 HIF_CQ_BASE_LO HIF_CQ_BASE_HI n) 4096 && decide (4 ≤ s.fld HIF_CQ_CFG 3 0 n) &&
      decide (s.fld HIF_CQ_CFG 3 0 n ≤ 12))

/-- The first failing item in the order of R96: CFG_ERR_IDX, 0xFF for none. -/
def State.goErr (s : State) : Nat :=
  if !baseOk (s.rd64 HIF_DB_BASE_LO HIF_DB_BASE_HI) 4096 then 129
  else if !baseOk (s.rd64 HIF_ST_BASE_LO HIF_ST_BASE_HI) 512 then 130
  else if !(baseOk (s.rd64 HIF_EVQ_BASE_LO HIF_EVQ_BASE_HI) 4096 &&
      decide (6 ≤ s.fld HIF_EVQ_CFG 3 0) && decide (s.fld HIF_EVQ_CFG 3 0 ≤ 12)) then 128
  else if (List.range 64).all (fun n => !s.sqOn n) then 131
  else
    match (List.range 64).find? (fun n => !s.sqOk n) with
    | some n => n
    | none =>
      match (List.range 64).find? (fun n => !s.cqOk n) with
      | some n => 64 + n
      | none => ((List.range 64).find? (fun n => !s.defCqOk n)).getD 0xFF

/-! Descriptors (Table 3.6). -/

/-- A descriptor read out of its 64 bytes (R5, Table 3.6). -/
def descOf (b : List Byte) : Desc :=
  { opcode := leAt b 0 1, flags := leAt b 1 1, channel := leAt b 2 1, cq := leAt b 3 1, tag := leAt b 8 8,
    bytes := padTo 64 b }

/-- Bytes that the payload of an opcode defines: offset and length (R120 and the payload tables). -/
def payloadFields (op : Nat) (control : Bool) : List (Nat × Nat) :=
  match op with
  | 0x01 => [(0x10, 15), (0x20, 12)]
  | 0x02 => []
  | 0x03 => [(0x10, 8)]
  | 0x04 => []
  | 0x05 => [(0x10, 15)]
  | 0x06 => [(0x10, 14)]
  | 0x07 => [(0x10, 3)]
  | 0x10 => [(0x10, 13), (0x20, 12)]
  | 0x11 => [(0x10, 2), (0x14, 12)]
  | 0x20 => if control then [(0x10, 7), (0x30, 4)] else [(0x10, 31), (0x30, 4)]
  | 0x21 => [(0x10, 18), (0x28, 8)]
  | 0x30 => [(0x10, 36)]
  | 0x40 => [(0x10, 14)]
  | 0x41 => [(0x10, 9), (0x1A, 6)]
  | 0x50 => [(0x10, 13), (0x20, 4)]
  | 0x51 => [(0x10, 12)]
  | _ => []

/-- Reserved bits within defined bytes: offset and mask. -/
def reservedMasks (op : Nat) (control : Bool) (action : Nat) : List (Nat × Nat) :=
  match op with
  | 0x05 => [(0x1E, 0xFE)]
  | 0x10 => [(0x1C, 0xFC)]
  | 0x11 => [(0x11, if action = 0 then 0xFE else 0xFF)]
  | 0x20 => if control then [] else [(0x27, 0xFC)]
  | 0x51 => [(0x1B, 0xFE)]
  | _ => []

/-- The job opcodes of Table 3.9. -/
def jobOpcodes : List Nat :=
  [0x01, 0x02, 0x03, 0x04, 0x05, 0x06, 0x07, 0x10, 0x11, 0x20, 0x21, 0x30, 0x40, 0x41, 0x50, 0x51]

/-- A reserved field of the descriptor is not zero (R120). -/
def Desc.reservedSet (d : Desc) : Bool :=
  let control := d.opcode == 0x20 && leAt d.bytes 0x11 1 == 0xFF
  let fields := payloadFields d.opcode control
  let in_ := fun (o : Nat) => fields.any (fun f => decide (f.1 ≤ o) && decide (o < f.1 + f.2))
  decide (8 ≤ d.flags) || leAt d.bytes 4 4 != 0 ||
    ((List.range 48).map (· + 16)).any (fun o => !in_ o && leAt d.bytes o 1 != 0) ||
    (reservedMasks d.opcode control (leAt d.bytes 0x10 1)).any (fun m => leAt d.bytes m.1 1 &&& m.2 != 0)

/-- Addresses of the payload with their alignment; each must be non-zero (R119). -/
def Desc.addresses (d : Desc) : List (Nat × Nat) :=
  let a := fun o => leAt d.bytes o 8
  let b := fun o => leAt d.bytes o 1
  match d.opcode with
  | 0x05 => [(a 0x10, 4096)]
  | 0x06 => [(a 0x10, 4096)]
  | 0x10 => (a 0x10, 4) :: (if bitAt (b 0x1C) 1 then [(a 0x20, 4096)] else [])
  | 0x11 =>
    if b 0x10 = 0 then [(a 0x18, 4096)]
    else if b 0x10 = 1 ∨ b 0x10 = 3 then [(a 0x18, 64)] else []
  | 0x21 => (a 0x10, 64) :: (if b 0x1D = 2 then [(a 0x28, 64)] else [])
  | 0x40 => [(a 0x10, 64)]
  | 0x41 => [(a 0x10, 64)]
  | 0x50 => if b 0x1C = 1 ∨ b 0x1C = 2 then [] else [(a 0x10, 64)]
  | 0x51 => [(a 0x10, 4)]
  | _ => []

/-- Register block IDs (Table 0.4). -/
def isBlock (b : Nat) : Bool := decide (1 ≤ b) && decide (b ≤ 0x16)

/-- Payload fields within range as far as they are checked at fetch (reason 0x46); the jobs that validate at
execution, or whose own chapters order their checks, say so there. A PITCH of OVERLAY_LOAD that is shorter than a row
is out of range (notes/assumptions/159.md). -/
def State.payloadOk (s : State) (d : Desc) : Bool :=
  let b := fun o => leAt d.bytes o 1
  let h := fun o => leAt d.bytes o 2
  let w := fun o => leAt d.bytes o 4
  let q := fun o => leAt d.bytes o 8
  match d.opcode with
  | 0x05 => decide (65536 ≤ w 0x18)
  | 0x07 => decide (b 0x10 ≤ 2)
  | 0x10 =>
    decide (1 ≤ w 0x18) && decide (w 0x18 ≤ 16777215) &&
      (if bitAt (b 0x1C) 1 then w 0x28 != 0 && w 0x28 % 128 == 0 else q 0x20 == 0)
  | 0x11 =>
    decide (b 0x10 ≤ 4) && (if b 0x10 = 0 then w 0x14 != 0 && w 0x14 % 128 == 0 else w 0x14 == 0) &&
      (if b 0x10 = 2 ∨ b 0x10 = 4 then q 0x18 == 0 else true)
  | 0x21 =>
    decide (b 0x1C ≤ 63) && decide (b 0x1D ≤ 2) && w 0x18 % 64 == 0 &&
      [0x1E, 0x20].all (fun o => decide (16 ≤ h o) && decide (h o ≤ 4096)) && (b 0x1D == 2 || q 0x28 == 0) &&
      decide (h 0x1E * lget 4 [4, 2, 1] (b 0x1D) ≤ w 0x18)
  | 0x40 => decide (1 ≤ h 0x1C) && decide (h 0x1C ≤ 2048)
  | 0x41 => isBlock (b 0x18) && decide (1 ≤ h 0x1A) && decide (h 0x1A ≤ 1024) && w 0x1C % 4 == 0
  | 0x50 =>
    decide (b 0x1C ≤ 4) && w 0x20 % 64 == 0 &&
      (if b 0x1C = 1 ∨ b 0x1C = 2 then q 0x10 == 0 && w 0x18 == 0
       else decide (64 ≤ w 0x18) && decide (w 0x18 ≤ 1048576) && w 0x18 % 64 == 0)
  | 0x51 => decide (14 ≤ h 0x18) && decide (h 0x18 ≤ 1518) && decide (b 0x1A ≤ 15) && s.qOn (b 0x1A)
  | _ => true

/-- Opcodes that need an existing channel; CHAN_CREATE and CHAN_IMPORT name the one they create. -/
def needsChannel (op : Nat) : Bool := [0x02, 0x03, 0x04, 0x05, 0x07, 0x10, 0x11].contains op

/-- CHANNEL is right for the opcode (reason 0x41; R118, R148, R463, R539). -/
def State.channelOk (s : State) (d : Desc) : Bool :=
  if needsChannel d.opcode then
    decide (d.channel < 32) && (s.chanExists d.channel || s.hif.creating.contains d.channel)
  else if d.opcode = 0x01 ∨ d.opcode = 0x06 then decide (d.channel < 32)
  else if d.opcode = 0x30 ∨ d.opcode = 0x50 then d.channel == 0xFF
  else decide (d.channel < 32) || d.channel == 0xFF

/-- CLASS of the descriptor against the channel's class (R118). -/
def State.classOk (s : State) (d : Desc) : Bool :=
  !s.chanExists d.channel || d.opcode == 0x01 || d.opcode == 0x06 || d.flags % 4 == 0 ||
    decide ((s.chan d.channel).cls ≤ d.flags % 4)

/-- DECODE needs a HOST_DECODE channel (R219). -/
def State.kindOk (s : State) (d : Desc) : Bool :=
  !s.chanExists d.channel || d.opcode != 0x10 || (s.chan d.channel).kind == kindHost

/-- The lowest reason with which a descriptor fails validation (R122, Table 3.11). -/
def State.descErr (s : State) (d : Desc) : Option Nat :=
  if !jobOpcodes.contains d.opcode then some 0x40
  else if !s.channelOk d then some 0x41
  else if !s.cqOn d.cq then some 0x42
  else if !s.classOk d then some 0x43
  else if d.reservedSet then some 0x44
  else if d.addresses.any (fun a => a.1 == 0 || a.1 % a.2 != 0) then some 0x45
  else if !(s.payloadOk d && s.kindOk d) then some 0x46
  else none

/-- The class of a job: CLASS of the descriptor, else the channel's; 0 until the channel exists (R118). -/
def State.classFor (s : State) (d : Desc) : Nat :=
  if d.flags % 4 = 0 then (s.chan d.channel).cls else d.flags % 4

/-! Fetch (R103, R122, R123, R134 to R136). -/

/-- JT_OCC: entries of the job table in use (R133). -/
def State.jtOcc (s : State) : Nat := s.hif.jobs.length

/-- JT_RSV in force. -/
def State.jtRsv (s : State) : Nat := min 128 (s.fld HIF_CTL 7 0)

/-- Descriptors of a ring that are not fetched yet. -/
def State.unfetched (s : State) (n : Nat) : Nat := if s.sqOn n then ringCount (s.sq n).pi (s.sq n).ci else 0

/-- The job-table bound of a priority (R135). -/
def State.jtBound (s : State) (prio : Nat) : Nat := if prio = 3 then 512 else 512 - s.jtRsv

/-- Rings of a priority in the order in which they are served: from the ring after the one last served on (R134); ring
0 comes first before any was served (notes/assumptions/160.md). -/
def State.ringOrder (s : State) (prio : Nat) : List Nat :=
  ((List.range 64).map (fun k => (lget 63 s.hif.served prio + 1 + k) % 64)).filter
    (fun n => s.fld HIF_SQ_CFG 6 5 n == prio)

/-- The next ring of a priority to supply a descriptor. -/
def State.nextOf (s : State) (prio : Nat) : Option Nat :=
  if s.jtOcc < s.jtBound prio then (s.ringOrder prio).find? (fun n => decide (0 < s.unfetched n) && !(s.sq n).failed)
  else none

/-- The ring that supplies the next descriptor: the highest priority that has one (R134). -/
def State.nextRing (s : State) : Option Nat := [3, 2, 1, 0].findSome? s.nextOf

/-- A fetched descriptor enters the job table and is validated (R103, R122, R123, R133, R148, R366). `poll`: the
poll whose admission is to consider it. -/
def State.enterJob (s : State) (n : Nat) (d : Desc) (poll : Nat) : State :=
  let q := s.sq n
  let s := (s.setSq n { q with ci := (q.ci + 1) % 65536 }).bump64 HIF_DESC_FETCH_COUNT
  let cq := if s.cqOn d.cq then d.cq else s.fld HIF_SQ_CFG 13 8 n
  let (s, flow) := s.takeFlow cq
  let id := s.hif.nextJob
  let j := { Job.blank id .host n cq d (s.classFor d) s.tick.number.toNat with
             flow := flow, fetchNs := s.ktime, atPoll := poll, captured := s.ktime }
  let s := { s with hif := { s.hif with jobs := s.hif.jobs ++ [j], nextJob := id + 1,
                                        peak := max s.hif.peak (s.hif.jobs.length + 1) } }
  let s := s.decBound (.submission n)
  match s.descErr d with
  | some r => s.endJob id { status := 0x23, reason := r }
  | none =>
    if d.opcode = 0x01 ∨ d.opcode = 0x06 then
      { s with hif := { s.hif with creating := s.hif.creating ++ [d.channel] } }
    else s

/-- A descriptor read fails: SQ_CI stays, and the ring is left until the next doorbell read (R144, R145). -/
def State.fetchFailed (s : State) (n : Nat) (poisoned : Bool) : State :=
  let s := s.bump HIF_DMA_ERR_COUNT
  let s := if poisoned then s.raiseI 0x0206 { source := n } else s
  let q := s.sq n
  if q.loggedTick = some s.tick.number.toNat then s.setSq n { q with failed := true }
  else
    (s.setSq n { q with failed := true, loggedTick := some s.tick.number.toNat }).raiseI 0x0202 { source := n }

/-- Ring `n` is the ring last served at its priority. -/
def State.noteServed (s : State) (n : Nat) : State :=
  { s with hif := { s.hif with served := lmod s.hif.served (s.fld HIF_SQ_CFG 6 5 n) (fun _ => n) } }

/-- The fetch of a doorbell read ends: a JOBTABLE_FULL episode begins, goes on or ends (R136); its SOURCE is the
lowest-numbered ring left (notes/assumptions/161.md). -/
def State.endFetch (s : State) : State :=
  let left := (List.range 64).filter (fun n => decide (0 < s.unfetched n) && !(s.sq n).failed)
  let s := { s with hif := { s.hif with fetching := false } }
  match left with
  | [] => { s with hif := { s.hif with jtFull := false } }
  | n :: _ =>
    if s.hif.jtFull then s
    else
      let total := ((List.range 64).map s.unfetched).sum
      let s := { s with hif := { s.hif with jtFull := true } }
      (s.bump HIF_JOBTABLE_FULL_COUNT).event 0x50 n (leNats 2 s.jtOcc ++ leNats 2 (min 65535 total))

/-- Descriptors arrive in the order of R134; a ring whose read failed has been served too
(notes/assumptions/160.md). -/
def State.fetchAll (poll : Nat) (s : State) : List (Served (List Byte)) → State
  | [] => if s.nextRing.isNone then s.endFetch else s
  | a :: t =>
    match s.nextRing with
    | none => s.endFetch
    | some n =>
      let s := s.noteServed n
      match a with
      | .ok b => State.fetchAll poll (s.enterJob n (descOf b) poll) t
      | .failed => State.fetchAll poll (s.fetchFailed n false) t
      | .poisoned => State.fetchAll poll (s.fetchFailed n true) t

/-! Doorbell reads (R106 to R109, R114, R115, R578). -/

/-- A doorbell index is out of range (R114). -/
def State.badIndex (s : State) (source : Nat) : State := s.raiseI 0x0205 { source := source }

/-- One line of the doorbell block (Table 3.4, R107, R114). -/
def State.takeLine (b : List Byte) (s : State) (n : Nat) : State :=
  let pi := leAt b (64 * n) 2
  let ci := leAt b (64 * n + 4) 2
  let ev := leAt b 8 2
  let q := s.sq n
  let s := if s.sqOn n then
      (if ringCount pi q.ci ≤ s.sqSize n then s.setSq n { q with pi := pi, failed := false }
       else (s.setSq n { q with failed := false }).badIndex n)
    else s
  let c := s.cq n
  let s := if s.cqOn n then
      (if ringCount c.pi ci ≤ s.cqSize n then
         (s.setCq n { c with ci := ci, recent := c.recent.take (ringCount c.pi ci) }).freeBitstream n ci
       else s.badIndex n)
    else s
  if n = 0 then
    (if ringCount s.hif.evPi ev ≤ 2 ^ s.fld HIF_EVQ_CFG 3 0 then
       { s with hif := { s.hif with evCi := ev, evRecent := s.hif.evRecent.take (ringCount s.hif.evPi ev) } }
     else s.badIndex 0xFF)
  else s

/-- The doorbell block is taken, and completions that waited for room are posted (R104, R109). -/
def State.takeDoorbell (s : State) (b : List Byte) : State :=
  let s := (List.range 64).foldl (State.takeLine b) s
  let s := { s with hif := { s.hif with fetching := true, dbRead := true } }
  s.drainDone

/-- The doorbell read fails (R115, R145). -/
def State.doorbellFailed (s : State) (poisoned : Bool) : State :=
  let s := { s with hif := { s.hif with fetching := false, dbRead := true } }
  let s := (s.bump HIF_DMA_ERR_COUNT).raiseI 0x0203
  if poisoned then s.raiseI 0x0206 else s

/-- A doorbell read is served. -/
def State.readDoorbell (s : State) (a : Served (List Byte)) : State :=
  match a with
  | .ok b => s.takeDoorbell b
  | .failed => s.doorbellFailed false
  | .poisoned => s.doorbellFailed true

/-- Which poll a descriptor that arrives now is for: 0 until the decision, then the poll whose fetch it belongs to or
the next one (R60, R110). -/
def State.pollNow (s : State) : Nat :=
  match s.hif.polling with
  | some p => p.1
  | none => if s.tick.window = .admission then 0 else s.tick.pollsDone + 1

/-! Ordered release (R124, R126, R367 to R369). -/

/-- An ordered flow. -/
def State.oflow (s : State) (f : Nat) : OFlow := tget .reset s.sch.flows f
/-- The next sequence number of a flow is released. -/
def State.passFlow (s : State) (f : Nat) : State :=
  let x := s.oflow f
  { s with sch := { s.sch with flows := tput .reset s.sch.flows f { x with release := (x.release + 1) % 65536 } } }

/-- A flow releases from its lowest unreleased number upward, over places that were given up, until a job that has
not ended or whose ring is full (R367, R368). -/
def State.releaseFlow (f : Nat) : Nat → State → State
  | 0, s => s
  | k + 1, s =>
    let x := s.oflow f
    if x.release = x.next then s
    else
      match (s.hif.jobs ++ s.hif.live).find? (fun j => decide (j.flow = some (f, x.release))) with
      | none => State.releaseFlow f k (s.passFlow f)
      | some j =>
        match j.phase with
        | .done c =>
          match s.postCpl j.cq c j.reserved with
          | (s, .posted) => State.releaseFlow f k ((s.dropJob j.id).passFlow f)
          | (s, .dropped) => State.releaseFlow f k ((s.dropJob j.id).passFlow f)
          | (s, .full) =>
            if j.origin = .liveDecode then
              State.releaseFlow f k (((s.bump DEC_LIVE_CPL_LOST_COUNT).dropJob j.id).passFlow f)
            else s
        | .waiting => s
        | .executing => s
        | .admitted => s

/-- Step 3 of R63. -/
def State.release (s : State) : State :=
  (List.range 64).foldl (fun s f =>
    State.releaseFlow f (ringCount (s.oflow f).next (s.oflow f).release) s) s

/-! Events (R104, R127, R128). -/

/-- Size of the event ring. -/
def State.evSize (s : State) : Nat := 2 ^ s.fld HIF_EVQ_CFG 3 0
/-- Free slots of the event ring by the last EVQ_CI read. -/
def State.evRoom (s : State) : Nat := s.evSize - ringCount s.hif.evPi s.hif.evCi

/-- An event is posted (R105, R128). -/
def State.postEvent (s : State) (e : Event) : State :=
  let h := s.hif
  let (s, p) := s.putEntry s.evAt h.evPi (e.bytes 0 h.lostBefore)
  { s with hif := { h with evPi := (h.evPi + 1) % 65536, lostBefore := false, evRecent := p :: h.evRecent } }

/-- Events that cannot be kept are dropped and counted (R128). -/
def State.loseEvents (s : State) (n : Nat) : State :=
  if n = 0 then s
  else
    let s := State.bumpBy HIF_EVQ_LOST_COUNT 0 n s
    { s with hif := { s.hif with lostBefore := true, lostNow := true } }

/-- Step 5 of R63: events due are posted as far as the ring has room, up to 64 are held, and the rest are lost. -/
def State.postEvents (s : State) : State :=
  let all := s.hif.evHeld ++ s.hif.evDue
  let n := if s.canDma then min s.evRoom all.length else 0
  let s := (all.take n).foldl (fun s e => s.postEvent e) s
  let rest := all.drop n
  let s := { s with hif := { s.hif with evHeld := rest.take 64, evDue := [] } }
  let s := s.loseEvents (rest.length - 64)
  if n = 0 then s else s.signal 64

/-! The status block (R110, R111, Table 3.5). -/

/-- FLAGS of the status block. -/
def State.stFlags (s : State) : Nat :=
  b2n (decide (s.tick.srcState = 3)) + 2 * b2n s.hif.jtFull + 4 * b2n s.hif.lostNow + 8 * b2n s.hif.dpRestart

/-- The 512 bytes of the status block. -/
def State.stBytes (s : State) (seq poll : Nat) : List Byte :=
  leBytes 4 seq ++ leBytes 4 s.tick32 ++ leBytes 8 s.ktime ++ leBytes 2 s.hif.evPi ++ leBytes 2 s.jtOcc ++
  leBytes 1 s.stFlags ++ leBytes 1 s.tick.curOp ++ leBytes 1 s.tick.ceiling ++ leBytes 1 poll ++
  List.replicate 228 0 ++ leBytes 4 seq ++
  (List.range 64).flatMap (fun n => leBytes 2 (s.sq n).ci) ++
  (List.range 64).flatMap (fun n => leBytes 2 (s.cq n).pi)

/-- Jobs fetched before a Class M restart that have no completion by the status block that sets DP_RESTART are
given up; an entry that waited for room is counted as lost (R132, R401). -/
def State.dropOld (s : State) : State :=
  (s.hif.jobs.filter (fun j => decide (j.id < s.hif.restartJobs))).foldl (fun s j =>
    match j.phase with
    | .done _ => (s.bump HIF_CPL_LOST_COUNT).dropJob j.id
    | .waiting => s.dropJob j.id
    | .executing => s.dropJob j.id
    | .admitted => s.dropJob j.id) s

/-- The status block is written; a failed write is reported afterwards (R131). -/
def State.statusBlock (s : State) (poll : Nat) : State :=
  if !s.canDma then s
  else
    let s := if s.hif.dpRestart then s.dropOld else s
    let seq := (s.hif.seq.toNat + 1) % 2 ^ 32
    let s := s.hostWrite (s.rd64 HIF_ST_BASE_LO HIF_ST_BASE_HI) (s.stBytes seq poll)
    { s with hif := { s.hif with seq := BitVec.ofNat 32 seq, dpRestart := false, lostNow := false } }

/-! Moderation (R130). -/

/-- A completion ring signals its vector. -/
def State.signalRing (s : State) (n : Nat) : State := (s.setCq n { s.cq n with unsignalled := 0 }).signal n

/-- The completion ring has something to signal. -/
def State.owesSignal (s : State) (n : Nat) : Bool := s.flag HIF_CQ_CFG 12 n && decide (0 < (s.cq n).unsignalled)

/-- A tick edge passes. -/
def State.moderationEdge (s : State) : State :=
  (List.range 64).foldl (fun s n => if s.owesSignal n then s.signalRing n else s) s

/-! Sub-tick polls (R61, R72, R109, R110). -/

/-- Jobs that an admission step at poll `i` is to consider, in their order. -/
def State.pollJobs (s : State) (i : Nat) : List Nat :=
  s.inOrder (s.hif.jobs.filter (fun j => decide (0 < j.atPoll) && decide (j.atPoll ≤ i)))

/-- When the fetch of a poll ends, admission considers what it brought, and the status block follows when it brought
something (R61, R110). -/
def State.finishPoll (s : State) : State :=
  match s.hif.polling with
  | none => s
  | some (i, first) =>
    if s.hif.fetching then s
    else
      let s := { s with hif := { s.hif with polling := none } }
      let got := decide (first < s.hif.nextJob)
      let s := if got then s.hwFlag 2 else s
      let s := ((s.pollJobs i).foldl (fun s id => s.considerAtPoll id) s).feedEngines
      if got then s.statusBlock i else s

/-- Descriptors arrive for the doorbell read whose fetch is not finished. -/
def State.fetch (s : State) (arrivals : List (Served (List Byte))) : State :=
  if s.hif.fetching && s.canDma then (State.fetchAll s.pollNow s arrivals).finishPoll else s

/-- Sub-tick poll: the doorbell block is read, descriptors are fetched, admission considers them, and the status
block follows when something was fetched. Ring traffic starts at the first edge after GO (R99). -/
def State.poll (s : State) (db : Served (List Byte)) (arrivals : List (Served (List Byte))) : State :=
  let i := s.tick.pollsDone + 1
  if s.tick.stopped = true ∨ s.tick.window ≠ .work ∨ s.tick.polls < i then s
  else
    let s := s.toOffset (s.pollAt i)
    let s := { s with tick := { s.tick with pollsDone := i } }
    if s.canDma && s.hif.started then
      let s := { s with hif := { s.hif with polling := some (i, s.hif.nextJob) } }
      let s := s.readDoorbell db
      (if s.hif.fetching then State.fetchAll i s arrivals else s).finishPoll
    else s

end Sys2Proof.Machine
end

