-- ==== Sys2Proof/Machine/Decoders.lean ====
section
/-! DEFINITION. The end of a decode: the checks of headers, concealment and its report, reference pictures, output and the
windows of a channel (R214 to R242). What the bits of a stream say reaches the model as the report of the syntax engine;
what the decoder makes of it stands here. -/

namespace Sys2Proof.Machine

/-- The maximum DPB size of level 5.1 at a picture size (ITU-T H.264 A.3.1, H.265 A.4.2); none for JPEG. -/
def maxDpb (codec w h : Nat) : Nat :=
  if codec = 2 then clamp 1 16 (184320 / (ceilDiv w 16 * ceilDiv h 16))
  else if codec = 3 then
    let p := w * h
    if 4 * p ≤ 8912896 then 16 else if 2 * p ≤ 8912896 then 12 else if 4 * p ≤ 3 * 8912896 then 8 else 6
  else 0

/-! Supported streams (R214, R215, Tables 6.1 to 6.4). The numbers of profiles are those of the coding standards. -/

/-- H.264 profiles of multi-view and scalable coding. -/
def h264Layered : List Nat := [83, 86, 118, 128, 134, 135, 138, 139]
/-- H.265 profiles of multilayer and 3D coding. -/
def h265Layered : List Nat := [6, 7, 8, 10]

/-- The profile is of multi-view, scalable, multilayer or 3D coding. -/
def layeredProfile (codec profile : Nat) : Bool :=
  (if codec = 2 then h264Layered else h265Layered).contains profile

/-- The profile is one that the module decodes. -/
def decodedProfile (codec profile : Nat) : Bool :=
  (if codec = 2 then [66, 77, 100] else [1, 2, 3]).contains profile

/-- The picture size is outside R214 or above that of the channel. -/
def sizeRefused (c : Channel) (h : Header) : Bool :=
  let mw := if c.codec = 1 then 8192 else 4096
  let mh := if c.codec = 1 then 8192 else 2304
  decide (h.width < 64) || decide (h.height < 64) || decide (mw < h.codedWidth) || decide (mh < h.codedHeight) ||
    decide (mw < h.width) || decide (mh < h.height) || decide (c.width < h.width) || decide (c.height < h.height)

/-- The first check of Table 6.4 that fails, in table order; 0 for a supported header set (R215). -/
def headerErr (c : Channel) (h : Header) : Nat :=
  if c.codec = 1 then
    if !h.jBaseline then 0x90 else if h.jArithmetic then 0x91 else if !h.jPrec8 then 0x92
    else if !h.jSampling then 0x93 else if h.jDnl then 0x94 else if sizeRefused c h then 0xA0 else 0
  else if sizeRefused c h then 0xA0
  else if !decodedProfile c.codec h.profile && !layeredProfile c.codec h.profile then 0xA1
  else if h.highTier || decide ((if c.codec = 2 then 51 else 153) < h.level) then 0xA2
  else if h.interlaced then 0xA3
  else if h.sliceGroups then 0xA4
  else if (if c.codec = 2 then decide (1 < h.chroma) else h.chroma != 1) then 0xA5
  else if (if c.codec = 2 then h.depth != 8 else h.depth != 8 && h.depth != 10) then 0xA6
  else if (if c.refs = 0 then maxDpb c.codec c.width c.height else c.refs) < h.dpb then 0xA7
  else if h.layered || layeredProfile c.codec h.profile then 0xA8
  else 0

/-- A refused header set: counted once, and the channel is UNSUPPORTED with the first reason, but for JPEG, where a
refused picture affects only itself (R216, R217). -/
def State.refuseHeader (s : State) (n err : Nat) (h : Header) : State × Option Nat :=
  let c := s.chan n
  if c.codec = 1 then (s.bump DEC_UNSUP_COUNT, some err)
  else
    let s := if c.refused = some h then s else s.bump DEC_UNSUP_COUNT
    let r := if c.decState = 3 then c.unsup else err
    (s.setChan n { c with decState := 3, unsup := r, refused := some h }, some r)

/-- What the header of an access unit, or a refusal before it, means for the unit: the reason of its refusal, or none
(R215, R216). -/
def State.checkHeader (s : State) (n : Nat) (au : Au) : State × Option Nat :=
  let c := s.chan n
  match au.header with
  | some h =>
    let err := headerErr c h
    if err ≠ 0 then s.refuseHeader n err h
    else if c.decState = 3 ∧ au.irap = false ∧ c.codec ≠ 1 then (s, some c.unsup)
    else (s.setChan n (c.activate h), none)
  | none => (s, if c.decState = 3 ∧ c.codec ≠ 1 then some c.unsup else none)

/-- DEC_CHAN_n.STATE (Table 6.12): a coded channel with a header that waits for an IRAP picture shows 2 (R223). -/
def Channel.decShown (c : Channel) : Nat := if c.decState = 1 ∧ c.kind = kindCoded ∧ c.waitIrap = true then 2 else c.decState

/-! Windows (R229, R235, R236). -/

/-- The address of byte `off` of a chain of cells. -/
def State.chainAddr (s : State) : List Nat → Nat → Option Nat
  | [], _ => none
  | h :: t, off =>
    let size := cellSize (handleComb h)
    if off < size then some (s.cellAddr h + off) else s.chainAddr t (off - size)

/-- An address lies in a window of the channel. -/
def State.inWindow (s : State) (n a : Nat) : Bool :=
  (s.chan n).windows.any (fun h => decide (s.cellAddr h ≤ a) && decide (a < s.cellAddr h + cellSize (handleComb h)))

/-- Luma pitch of a frame buffer (R229). -/
def lumaPitch (w sample : Nat) : Nat := ceilDiv (w * sample) 128 * 128

/-- Offset in a frame buffer of a sample of plane `p`, for a channel of size `w` × `h`: luma, then chroma with its two
components side by side (R229; notes/assumptions/154.md). -/
def bufferOffset (w h sample p x y : Nat) : Nat :=
  let pitch := lumaPitch w sample
  if p = 0 then y * pitch + x * sample else pitch * (ceilDiv h 64 * 64) + y * pitch + (2 * x + (p - 1)) * sample

/-- The DRAM address of a sample of frame buffer `k` of a channel, formed from its windows and a position (R235). Positions
of references are clamped before (`Image.clamped`). -/
def State.pixelAddr (s : State) (n k p x y : Nat) : Option Nat :=
  let c := s.chan n
  let sample := if 8 < c.depth then 2 else 1
  let per := (chainOf (codecFrameBytes c.codec c.width c.height)).length
  s.chainAddr ((c.windows.drop (k * per)).take per) (bufferOffset c.width c.height sample p x y)

/-! What the syntax engine finds (R234). -/

/-- What is read breaks the rules of R234: a value out of its range, an unknown code, a read past the end, a missing or
extra end, or a slice that begins before the end of the one before it. -/
def syntaxBroken : Syntax' → Bool
  | .element v lo hi => decide (v < lo) || decide (hi < v)
  | .code defined => !defined
  | .read pos need size => decide (size < pos + need)
  | .ending due found => due != found
  | .slice first next => decide (first < next)

/-- Places at which a segment is abandoned with SYNTAX_ERROR. -/
def syntaxHits (r : DecReport) : List Hit :=
  (r.syntax_.filter (fun x => syntaxBroken x.what)).map (fun x => { row := x.row, col := x.col, reason := 0x80 })

/-! Reference pictures (R230, R239). -/

/-- The reference pictures that a channel holds, oldest first. -/
def Channel.refsHeld (c : Channel) : List DpbPic := c.dpb.filter (·.ref)
/-- The reference picture with a picture order count. -/
def Channel.refAt (c : Channel) (poc : Int) : Option DpbPic := c.refsHeld.find? (fun p => p.pic.poc == poc)
/-- The picture that a reference names: itself, or the most recent reference still held in its place (R239). -/
def Channel.reference (c : Channel) (poc : Int) : Option DpbPic :=
  match c.refAt poc with
  | some p => some p
  | none => c.refsHeld.getLast?

/-- Places at which a reference is substituted. -/
def Channel.refHits (c : Channel) (r : DecReport) : List Hit :=
  (r.wanted.filter (fun w => (c.refAt w.1).isNone)).map (fun w => { row := w.2.1, col := w.2.2, reason := 0x82 })

/-- The picture is predicted from a concealed one (R241). -/
def Channel.predictedTainted (c : Channel) (r : DecReport) : Bool :=
  r.wanted.any (fun w => ((c.reference w.1).map (·.tainted)).getD false)

/-- A picture refers to one that was discarded (R231). -/
def Channel.wantsDiscarded (c : Channel) (r : DecReport) : Bool :=
  r.wanted.any (fun w => (c.refAt w.1).isNone && c.discarded.contains w.1)

/-! What a completion reports (R238 to R241, Tables 6.6 and 6.10). -/

/-- Decoding order of places. -/
def Hit.le (a b : Hit) : Bool := decide (a.row < b.row) || (decide (a.row = b.row) && decide (a.col ≤ b.col))

/-- `r` is among the reasons of a list of places. -/
def hasReason (l : List Hit) (r : Nat) : Bool := l.any (fun h => h.reason == r)

/-- A cause of which no place is known counts after those whose place is (DEDUCED, notes/assumptions/38.md). -/
def addLast (rows r : Nat) (when' : Bool) (l : List Hit) : List Hit :=
  if when' && !hasReason l r then l ++ [{ row := rows, col := 0, reason := r }] else l

/-- Every affected place of a picture, in decoding order: segments abandoned at a limit (R232, R233) or with a syntax error
(R234), data lost before decode (R196, R234), references substituted (R239), and a cut (R86). -/
def hitsOf (c : Channel) (j : Job) (au : Au) (r : DecReport) : List Hit :=
  let missing := r.missing.map (fun p => ({ row := p.1, col := p.2, reason := 0x81 } : Hit))
  let l := j.hits ++ syntaxHits r ++ missing ++ c.refHits r
  sortBy Hit.le (addLast au.rows 0x10 j.cut (addLast au.rows 0x81 au.incomplete l))

/-- Concealed blocks: those not decoded, among them every place at which something was lost; none where nothing but
references was. -/
def lostBlocks (hits : List Hit) (au : Au) (r : DecReport) : List (Nat × Nat) :=
  let own := hits.filter (fun h => h.reason != 0x82)
  if own.isEmpty then []
  else ((own.filter (fun h => decide (h.row < au.rows))).map (fun h => (h.row, h.col)) ++ r.lost).eraseDups

/-- Coding-block rows that hold a concealed block (Table 6.6). -/
def lostRows (l : List (Nat × Nat)) : Nat := ((l.map (·.1)).foldl ladd []).length

/-- DETAIL of a decode completion (Table 6.6). -/
def decodeDetail (hits : List Hit) (irap tainted : Bool) (rows : Nat) : Nat :=
  b2n (hits.any (fun h => [0x80, 0x83, 0x84].contains h.reason)) + 2 * b2n (hasReason hits 0x81) +
    4 * b2n (hasReason hits 0x10) + 8 * b2n (hasReason hits 0x82) + 16 * b2n irap + 32 * b2n tainted +
    256 * min 255 rows

/-! The picture (R235, R238, R239). -/

/-- Cropped size of a picture. -/
def Channel.cropped (c : Channel) (au : Au) : Nat × Nat :=
  (if c.picWidth = 0 then au.width else c.picWidth, if c.picHeight = 0 then au.height else c.picHeight)

/-- The decoded picture, with each concealed block filled by the first method of Table 6.9 that applies: a motion copy where
list 0 names a picture, the last output picture unless DEC_CTL.CONCEAL_GREY is set, mid-grey (R238). -/
def State.pictureOf (s : State) (c : Channel) (au : Au) (r : DecReport) (lost : List (Nat × Nat)) : Image :=
  let (w, h) := c.cropped au
  let depth := max 8 c.depth
  let raw : Image := { width := w, height := h, chroma := c.chroma, depth := depth, planes := r.planes }
  let ref := fun (poc : Int) => ((c.reference poc).map (·.pic.image)).getD (greyImage w h c.chroma depth)
  let x : Concealment :=
    { blockW := r.blockW, blockH := r.blockH, lost := lost, vectors := r.vectors, list0 := r.list0.map ref,
      last := if s.flag DEC_CTL 0 then none else c.pic.map (·.image) }
  x.fill raw

/-! Output (R218, R229, R230, R285). -/

/-- A picture whose decode ends after the composition of its display has started is late (R285). -/
def State.lateSource (s : State) (n : Nat) : Bool :=
  s.tick.cmpStarted && s.tick.composing.any (fun d =>
    (s.tick.composed.contains d || s.nextCompose == some d) &&
      (List.range 16).any (fun l => (s.layer d l).srcType == 1 && (s.layer d l).srcRef == n))

/-- The first picture in output order of those that wait. -/
def firstOut (l : List DpbPic) : Option DpbPic :=
  (l.filter (·.waiting)).foldl (fun (m : Option DpbPic) p =>
    match m with
    | none => some p
    | some q => if p.pic.poc < q.pic.poc then some p else some q) none

/-- A picture is output: it waits no longer, and its buffer is empty unless it is a reference. -/
def outOf (l : List DpbPic) (p : DpbPic) : List DpbPic :=
  (l.map (fun q => if q.pic.poc = p.pic.poc then { q with waiting := false } else q)).filter (fun q => q.ref || q.waiting)

/-- The bumping process: pictures are output in output order while more wait than `keep`, or more buffers hold pictures than
there are (R230). The result is the pictures output, in order, and what stays. -/
def bump : Nat → Nat → Nat → List DpbPic → List Pic → List Pic × List DpbPic
  | 0, _, _, l, out => (out, l)
  | n + 1, keep, buffers, l, out =>
    if keep < (l.filter (·.waiting)).length ∨ buffers < l.length then
      match firstOut l with
      | none => (out, l)
      | some p => bump n keep buffers (outOf l p) (out ++ [p.pic])
    else (out, l)

/-- Every picture that waits is output (R230). -/
def flushAll (l : List DpbPic) : List Pic × List DpbPic := bump l.length 0 l.length l []

/-- Reference buffers of a channel (R229). -/
def Channel.refBuffers (c : Channel) : Nat := if c.refs = 0 then maxDpb c.codec c.width c.height else c.refs

/-- What a decoded picture leaves of those before it: an IDR outputs them all, unless no_output_of_prior_pics_flag is set,
and ends their use as references; any other picture keeps the references that it names (R230). -/
def Channel.prior (c : Channel) (au : Au) (r : DecReport) : List Pic × List DpbPic :=
  if r.idr then (if r.noPrior then [] else (flushAll c.dpb).1, [])
  else
    let marked := c.dpb.map (fun p => { p with ref := p.ref && r.refs.contains p.pic.poc, tainted := p.tainted && !au.irap })
    ([], marked.filter (fun p => p.ref || p.waiting))

/-- A decoded picture is stored, and what the bumping process puts out is output: the last of it is shown. End of stream
outputs all (R230). JPEG pictures are output as they come. -/
def Channel.output (c : Channel) (au : Au) (r : DecReport) (p : DpbPic) (eos : Bool) : Channel × Bool :=
  let (early, l) := if c.codec = 1 then ([], []) else c.prior au r
  let l := l ++ [p]
  let (out, l) := if c.codec = 1 then ([p.pic], [])
    else if eos then flushAll l
    else bump l.length r.reorder (c.refBuffers + 1) l []
  match (early ++ out).getLast? with
  | some x => ({ c with dpb := l, pic := some x }, true)
  | none => ({ c with dpb := l }, false)

/-- OUT_HOST: the picture is written to DST in its native format, chroma after luma (R218). -/
def State.outHost (s : State) (j : Job) (i : Image) : State :=
  if j.origin = .host ∧ bitAt (leAt j.desc.bytes 0x1C 1) 1 = true ∧ s.canDma = true then
    let dst := leAt j.desc.bytes 0x20 8
    let pitch := leAt j.desc.bytes 0x28 4
    i.nativeRows.zipIdx.foldl (fun s row => s.hostWrite (dst + row.2 * pitch) row.1) s
  else s

/-! The end of a decode (R240 to R242). -/

/-- The picture as its channel keeps it: taint, references, output, counters (R230, R239, R241). -/
def State.keepPicture (s : State) (j : Job) (au : Au) (r : DecReport) (i : Image) (concealed tainted : Bool) : State :=
  let n := j.desc.channel
  let c := s.chan n
  let p : Pic := { captured := if c.kind = 2 then s.tick.number.toNat else j.captureTick,
                   poc := if c.codec = 1 then 0 else au.poc, width := i.width, height := i.height, cells := [], image := i }
  let eos := j.origin == .host && bitAt (leAt j.desc.bytes 0x1C 1) 0
  let (c, shown) := c.output au r
    { pic := p, ref := au.reference && c.codec != 1, waiting := r.shown, tainted := concealed || tainted } eos
  let taint := concealed && au.reference
  let c := { c with tainted := if au.irap then taint else c.tainted || taint
                    discarded := if au.irap then [] else c.discarded }
  let late := shown && s.lateSource n
  let s := ((s.setChan n c).bump64 DEC_PIC_COUNT).bump DEC_CHAN_PIC_COUNT n
  let s := State.bumpBy DEC_SEG_ABANDON_COUNT 0 (syntaxHits r).length s
  let s := if c.codec = 2 then State.bumpBy DEC_REDUNDANT_DROP_COUNT 0 r.redundant s else s
  if late then s.bump CMP_LATE_SRC_COUNT else s

/-- A concealed reference picture of a coded channel asks for a refresh, and so does a reference to a picture that was
discarded (R231, R242). -/
def State.asksRefresh (s : State) (c : Channel) (au : Au) (r : DecReport) (concealed : Bool) : Bool :=
  c.kind == kindCoded && s.flag DEC_CTL 1 && ((concealed && au.reference) || c.wantsDiscarded r)

/-- A decode whose header is supported ends. -/
def State.finishDecode (s : State) (j : Job) (au : Au) (r : DecReport) : State :=
  let s := s.exportBefore j
  let n := j.desc.channel
  let c := s.chan n
  let c := { c with dpb := if r.idr then c.dpb.map (fun p => { p with ref := false }) else c.dpb }
  let hits := hitsOf c j au r
  let concealed := !hits.isEmpty
  let lost := lostBlocks hits au r
  let tainted := c.predictedTainted r && !au.irap
  let e : End :=
    { status := b2n concealed, reason := ((hits.head?).map (·.reason)).getD 0,
      detail := decodeDetail hits au.irap tainted (lostRows lost),
      result := (if c.codec = 1 then 0 else twos 16 au.poc) + 65536 * (au.rows % 65536) }
  let i := s.pictureOf c au r lost
  let s := (s.outHost j i).keepPicture j au r i concealed tainted
  let s := if s.asksRefresh c au r concealed then s.refresh n s.tick32 else s
  s.endJob j.id e

/-- The engine work of a decode ends (R215, R240). -/
def State.endDecode (s : State) (id : Nat) (r : DecReport) : State :=
  match s.job? id with
  | none => s
  | some j =>
    match j.au with
    | none => s
    | some au =>
      if j.phase = .admitted ∧ j.desc.opcode = 0x10 ∧ s.enginesRun = true then
        let s := s.bump64 MCS_SEGMENT_COUNT 0 au.segments
        let s := match s.checkHeader j.desc.channel au with
          | (s, some reason) => s.endJob id { status := 0x24, reason := reason }
          | (s, none) => s.finishDecode j au r
        (s.tidySlots j.desc.channel).feedEngines.maybeCompose
      else s

/-- What the engines report of a decode that the guard-window stop ended, when no command has reported it: which rows are
lost, what the others hold and which references it used are free values. -/
def State.stoppedDecode (s : State) (c : Channel) (au : Au) : DecReport :=
  let (w, h) := c.cropped au
  let held := c.refsHeld.map (·.pic.poc)
  let used := held.filter (fun p => Config.freeAt s.fresh (2 * p.natAbs + b2n (decide (p < 0))) % 2 == 1)
  let plane := fun (p : Nat) (n : Nat) => (List.range n).map (fun k => Config.freeAt (s.fresh + 1 + p) k % 2 ^ max 8 c.depth)
  { syntax_ := [], missing := [], wanted := used.map (fun p => (p, 0, 0)),
    lost := ((List.range au.rows).filter (fun r => decide (Config.free s.fresh % (au.rows + 1) ≤ r))).map (fun r => (r, 0)),
    blockW := w, blockH := ceilDiv h (atLeast1 au.rows), vectors := [], list0 := used.head?, idr := au.irap,
    noPrior := false, shown := true, refs := held, reorder := Config.free (s.fresh + 1) % 17, redundant := 0,
    planes := plane 0 (w * h) :: (if c.chroma = 0 then [] else
      [1, 2].map (fun p => plane p (chromaWidth c.chroma w * chromaHeight c.chroma h))) }

end Sys2Proof.Machine
end

