-- ==== Sys2Proof/Machine/Coding.lean ====
section
/-! DEFINITION. Rows and the end of an encode: the byte cap, the skip-filled tail, the record and the completion
(R254 to R271). -/

namespace Sys2Proof.Machine

/-- The job is an admitted encode on which engines work, with the settings that hold for it (R27, R251). -/
def State.encoding (s : State) (id : Nat) : Option (Job × Encoder) :=
  match s.job? id with
  | none => none
  | some j =>
    if j.phase = .admitted ∧ j.desc.opcode = 0x11 ∧ s.enginesRun = true then j.settings.map (fun e => (j, e)) else none

/-- What a frame counts towards its cap with `bytes` more in the row just coded (R263, Table 7.8). -/
def rowTotal (codec : Nat) (e : Encoder) (j : Job) (bytes : Nat) : Nat :=
  if e.rcMode = 3 then
    (if e.lowLatency then j.charged + unitCharge codec e.pktPayload bytes
     else unitCharge codec e.pktPayload (j.bytes + bytes))
  else j.bytes + bytes

/-- A row is coded: kept when the frame with the tail reserve of the rows after it stays within the cap, and then sent
in low latency; otherwise it and every later row are skip-filled (R206, R261, R263). Before the first row of a new GOP the
channel exports (R166). -/
def State.rowCoded (s : State) (id bytes qp : Nat) : State :=
  match s.encoding id with
  | none => s
  | some (j, e) =>
    let codec := (s.chan j.desc.channel).codec
    if (j.cut = true ∧ j.cutRow ≤ j.rowsDone) ∨ j.sizeCut = true ∨ j.rows ≤ j.rowsDone then s
    else
      let s := s.exportBefore j
      let total := rowTotal codec e j bytes
      if total + tailReserve e.rcMode (j.rows - (j.rowsDone + 1)) ≤ j.cap then
        let s := s.modJob id (fun j =>
          { j with rowsDone := j.rowsDone + 1, bytes := j.bytes + bytes, charged := total, qpSum := j.qpSum + qp })
        if e.lowLatency && e.toNet then s.sendUnit j e e.pktPayload j.bytes bytes qp (j.rowsDone + 1 == j.rows) else s
      else s.modJob id (fun j => { j with sizeCut := true })

/-- Mean QP of the coded rows, quality for JPEG. Which way a mean that is not whole is rounded is a free value. -/
def State.meanQp (s : State) (e : Encoder) (j : Job) (r : EncReport) : Nat :=
  if e.rcMode = 0 then (if j.picType = 1 then e.qpP else if j.picType = 2 then e.qpB else e.qpI)
  else if j.picType = 3 then r.qp % 256
  else if e.qpMaxNext then e.qpMax
  else if j.rowsDone = 0 then clamp e.qpMin e.qpMax r.qp
  else j.qpSum / j.rowsDone + (if j.qpSum % j.rowsDone = 0 then 0 else Config.free s.fresh % 2)

/-- Most bytes that the tail of `m` rows may have: its reserve, in TICK_CBR without what its one packet is charged beside
them (R264). -/
def tailLimit (codec rc m : Nat) : Nat :=
  if rc = 3 then tailReserve 3 m - (78 + (fragHeader codec).2) else tailReserve rc m

/-- Bytes of the skip-filled tail, within its reserve (R264). -/
def tailBytes (codec : Nat) (e : Encoder) (j : Job) (r : EncReport) : Nat :=
  if j.rows ≤ j.rowsDone then 0 else clamp 1 (tailLimit codec e.rcMode (j.rows - j.rowsDone)) r.tailBytes

/-- The frame ends a cycle of the intra refresh (R269). -/
def refreshEnd (type : Nat) (e : Encoder) : Bool := type == 1 && e.irPeriod != 0 && e.irPos + 1 == e.irPeriod

/-- An entry joins the peak window; frames of one tick share one. -/
def addWindow (l : List (Nat × Nat)) (tick bytes : Nat) : List (Nat × Nat) :=
  if l.any (fun x => x.1 == tick) then l.map (fun x => if x.1 = tick then (x.1, x.2 + bytes) else x) else l ++ [(tick, bytes)]

/-- The encoder after a frame of `bytes` bytes (R64, R268, R269, Table 7.8). -/
def Encoder.after (e : Encoder) (j : Job) (bytes qp tick : Nat) : Encoder :=
  let k := if j.picType = 3 then 0 else j.picType
  let prev := if e.afterDiscard && j.idr then [0, 0, 0] else e.prevBits
  let again := j.idr && j.sizeCut && j.rowsDone == 0 && j.picType != 3
  { e with
    prevBits := lmod prev k (fun _ => 8 * bytes)
    afterDiscard := e.afterDiscard && !j.idr
    irPos := if j.idr then 0 else if j.picType = 1 ∧ e.irPeriod ≠ 0 then (e.irPos + 1) % e.irPeriod else e.irPos
    buffer := if e.rcMode = 1 then e.buffer + bytes else e.buffer
    history := if e.rcMode = 2 then addWindow e.history tick bytes else e.history
    lastQp := qp
    lastBytes := bytes
    idrNext := e.idrNext || again
    qpMaxNext := again }

/-- The packets that the end of a frame sends: the whole frame, or only its tail in low latency; in TICK_CBR the tail
is one packet of its own (R254, R264). -/
def State.sendFrameEnd (s : State) (j : Job) (e : Encoder) (coded tail quality : Nat) : State :=
  let whole := if e.rcMode = 3 then 65535 else e.pktPayload
  if !e.toNet then s
  else if e.lowLatency then s.sendUnit j e whole coded tail quality true
  else if e.rcMode = 3 then
    let s := s.sendUnit j e e.pktPayload 0 coded quality (tail == 0)
    s.sendUnit ((s.job? j.id).getD j) e whole coded tail quality true
  else s.sendUnit j e e.pktPayload 0 (coded + tail) quality true

/-- An encode frame ends: packets, record, counters and completion (R255, R258, R263, R268, R270). -/
def State.finishEncode (s : State) (j : Job) (e : Encoder) (r : EncReport) : State :=
  let n := j.desc.channel
  let codec := (s.chan n).codec
  let qp := s.meanQp e j r
  let tail := tailBytes codec e j r
  let bytes := j.bytes + tail
  let isIdr := j.idr && codec != 1
  let detail := j.picType + 4 * b2n isIdr + 8 * b2n j.cut + 16 * b2n j.sizeCut + 32 * b2n (refreshEnd j.picType e) +
    256 * (qp % 256)
  let s := s.freshen.sendFrameEnd j e j.bytes tail qp
  let s := match (s.chan n).enc with
    | some x =>
      if e.toHost then
        (s.writeRecord n { x with seq := e.seq } (codedBytes s.fresh 0 bytes) j.desc.tag j.captured detail).freshen
      else s
    | none => s
  let tick := s.tick.number.toNat
  let s := s.modChan n (fun c => { c with enc := c.enc.map (fun e => e.after j bytes qp tick) })
  let s := (s.bump64 ENC_FRAME_COUNT).bump ENC_CHAN_FRAME_COUNT n
  let s := if j.sizeCut then s.bump ENC_SIZECAP_COUNT else s
  let s := if isIdr then s.bump ENC_IDR_COUNT else s
  s.endJob j.id { status := 0, reason := if j.cut then 0x10 else if j.sizeCut then 0xB0 else 0,
                  detail := detail, result := bytes }

/-- The engine work of an encode ends, once every row is coded or the frame was stopped (R258). -/
def State.endEncode (s : State) (id : Nat) (r : EncReport) : State :=
  match s.encoding id with
  | none => s
  | some (j, e) =>
    if j.cut = true ∨ j.sizeCut = true ∨ j.rows ≤ j.rowsDone then
      let s := (s.exportBefore j).bump64 MCS_SEGMENT_COUNT 0 j.segs
      ((s.finishEncode j e r).finishStop j.desc.channel).feedEngines
    else s

/-- What the encoder reports of a frame that the guard-window stop ended, when no command has reported it. -/
def State.stoppedEncode (s : State) : EncReport :=
  { qp := Config.free s.fresh % 52, tailBytes := Config.free (s.fresh + 1) }

/-- A job that the guard-window stop has cut ends before the edge, whether or not a command has reported it: no
admitted job outlasts its tick (R43, R62, R86). -/
def State.endStopped (s : State) (id : Nat) : State :=
  match s.job? id with
  | none => s
  | some j =>
    if j.phase = .admitted then
      let drawn := { s with fresh := s.fresh + 4 }
      match j.au with
      | some au => drawn.endDecode id (s.stoppedDecode (s.chan j.desc.channel) au)
      | none => drawn.endEncode id s.stoppedEncode
    else s

/-- Every job that is still admitted ends (R43). -/
def State.endAllStopped (s : State) : State :=
  (((s.hif.jobs ++ s.hif.live).filter (fun j => decide (j.phase = .admitted))).map (·.id)).foldl
    (fun s id => (s.cutJob id).endStopped id) s

end Sys2Proof.Machine
end

