-- ==== Sys2Proof/Machine/FieldIo.lean ====
section
/-! DEFINITION. Field inputs and outputs: settings, pulse schedules, safe levels, diagnostics, the pair policy and
input edges (R537 to R553). -/

namespace Sys2Proof.Machine

/-- A field output. -/
def State.fout (s : State) (n : Nat) : Fout := lget .reset s.fio.outs n
/-- Change a field output. -/
def State.modFout (s : State) (n : Nat) (f : Fout → Fout) : State :=
  { s with fio := { s.fio with outs := lmod s.fio.outs n f } }

/-- Pairs of outputs in the order of R549. -/
def foutPairs : List (Nat × Nat) := [(0, 1), (0, 2), (0, 3), (1, 2), (1, 3), (2, 3)]
/-- The number of the pair of two outputs. -/
def pairOf (a b : Nat) : Nat := (foutPairs.findIdx? (fun p => p == (min a b, max a b))).getD 0
/-- An output is in a pair that is locked out (R550). -/
def State.foutLocked (s : State) (n : Nat) : Bool :=
  (foutPairs.zip (List.range 6)).any (fun p => bitAt s.fio.locked p.2 && (p.1.1 == n || p.1.2 == n))

/-- SAFE_LEVEL of an output; 3 acts as 0 (Table 18.6). -/
def State.safeLevel (s : State) (n : Nat) : Nat :=
  let v := s.fld FIO_OUT_CFG 1 0 n
  if v = 3 then 0 else v

/-- The output is commanded on: by its static mode, a pulse or its safe level (R541, R544, Table 18.3). -/
def State.foutCmd (s : State) (n : Nat) : Bool :=
  let x := s.fout n
  if s.fio.safeLevels then
    (match s.safeLevel n with
     | 1 => true
     | 2 => x.set.mode == 2
     | _ => false)
  else x.set.mode == 2 || (x.set.mode == 3 && x.pulsing)

/-- The output stage is powered (Table 18.3). -/
def State.foutPowered (s : State) : Bool :=
  s.pwr.pwrGood &&
    (match s.power.mode with
     | .off => false
     | .deepStandby => false
     | .retain => false
     | .idle => true
     | .run => true
     | .safe => true)

/-- The switch of an output is on. -/
def State.foutOn (s : State) (n : Nat) : Bool :=
  s.foutPowered && s.fio.present && !s.fio.restoreAtEdge && s.foutCmd n && !s.foutLocked n &&
    (!(s.fout n).short || (s.fout n).retrying)

/-- The tick in which outputs last switched on, after a change from `was` (R548). -/
def State.noteOn (was s : State) : State :=
  (List.range 4).foldl (fun s n =>
    if s.foutOn n && !was.foutOn n then s.modFout n (fun x => { x with onTick := some s.tick.number.toNat }) else s) s

/-- What live entry names a pair in conflict. -/
def pairSource (k : Nat) : Nat := 0x100 + k

/-- A pair's conflict ends. -/
def State.endPair (s : State) (k : Nat) : State :=
  ({ s with fio := { s.fio with pairs := putBits s.fio.pairs k k 0, locked := putBits s.fio.locked k k 0 } }).gone
    0x1504 (pairSource k)

/-- Pairs without a lockout stay in conflict while one output reports external drive with the other on (R550). -/
def State.sweepPairs (s : State) : State :=
  (foutPairs.zip (List.range 6)).foldl (fun s p =>
    let (a, b) := p.1
    let k := p.2
    if bitAt s.fio.pairs k && !bitAt s.fio.locked k &&
        !((s.fout a).ext && s.foutOn b) && !((s.fout b).ext && s.foutOn a) then s.endPair k else s) s

/-- A change to the outputs, with what follows from it. -/
def State.fioChange (s : State) (f : State → State) : State := (State.noteOn s (f s)).sweepPairs

/-- A field output's setting (Table 18.2). -/
def foutSetAt (b : List Byte) (n : Nat) : FoutSet :=
  { mode := leAt b (0x14 + 8 * n) 1, div := leAt b (0x15 + 8 * n) 1, width := leAt b (0x16 + 8 * n) 2,
    offset := leAt b (0x18 + 8 * n) 4 }

/-- The checks of R539 on one output. -/
def State.foutSetOk (s : State) (x : FoutSet) : Bool :=
  decide (x.mode ≤ 3) &&
    (if x.mode = 3 then x.div != 0 && x.width != 0 &&
        decide (x.offset + x.width ≤ s.tick.periodNs * 999 / 1000 / 1000)
     else x.div == 0 && x.width == 0 && x.offset == 0)

/-- One output of a FIO_SET at the edge that opens tick `t`: a non-zero MODE takes over, a pulse in progress ends,
and the lockout of its pairs ends (R540, R542, R550). -/
def State.applyFout (t : Nat) (s : State) (p : Nat × FoutSet) : State :=
  if p.2.mode = 0 then s
  else
    let s := s.modFout p.1 (fun x => { x with set := p.2, since := t, pulsing := false, lastPulse := none })
    (foutPairs.zip (List.range 6)).foldl (fun s q =>
      if bitAt s.fio.locked q.2 && (q.1.1 == p.1 || q.1.2 == p.1) then s.endPair q.2 else s) s

/-- The FIO_SETs of the edge that opens tick `t`, in fetch order, and outputs that a return of VFIELD or an exit
from RETAIN restores (R538, R540, Table 18.3). -/
def State.fioEdge (s : State) (t : Nat) : State :=
  if s.fio.safeLevels then s
  else
    let due := s.fio.sets.filter (fun x => decide (x.1 ≤ t))
    s.fioChange (fun s =>
      let s := { s with fio := { s.fio with sets := s.fio.sets.filter (fun x => !decide (x.1 ≤ t)),
                                            restoreAtEdge := false } }
      due.foldl (fun s x => ((List.range 4).zip x.2).foldl (State.applyFout t) s) s)

/-- Pulse schedules stop at the entry edge of RETAIN and DEEP STANDBY (Table 18.3). -/
def State.stopPulses (s : State) : State :=
  s.fioChange (fun s => { s with fio := { s.fio with
    stopped := true, outs := s.fio.outs.map (fun x => { x with pulsing := false }) } })

/-- Before the first edge after RETAIN: schedules start afresh at the tick that it opens (Table 18.3). -/
def State.restartPulses (s : State) : State :=
  let t := s.tick.number.toNat + 1
  s.fioChange (fun s => { s with fio := { s.fio with
    stopped := false, restoreAtEdge := false,
    outs := s.fio.outs.map (fun x => { x with since := t, lastPulse := none }) } })

/-- A scheduled pulse of this tick starts OFFSET_US after the edge (R541). -/
def State.pulseStart (s : State) (n : Nat) : State :=
  let x := s.fout n
  let t := s.tick.number.toNat
  if x.set.mode = 3 ∧ s.fio.stopped = false ∧ s.fio.safeLevels = false ∧ s.tick.stopped = false ∧
      (t - x.since) % atLeast1 x.set.div = 0 ∧ x.lastPulse ≠ some t then
    let s := s.toOffset (1000 * x.set.offset)
    s.fioChange (fun s => s.modFout n (fun x => { x with pulsing := !s.foutLocked n, lastPulse := some t }))
  else s

/-- A pulse in progress ends WIDTH_US after it started (R541). -/
def State.pulseEnd (s : State) (n : Nat) : State :=
  let x := s.fout n
  if x.pulsing then
    let s := s.toOffset (1000 * (x.set.offset + x.set.width))
    s.fioChange (fun s => s.modFout n (fun x => { x with pulsing := false }))
  else s

/-! Diagnostics (R545 to R550). -/

/-- Open load is diagnosed on an output that is on or off, where that check is enabled (Table 18.4). -/
def State.openLoad (s : State) (n : Nat) (whileOn : Bool) : State :=
  if s.fio.present && s.foutPowered && !(s.fout n).ol && (s.foutOn n == whileOn) &&
      s.flag FIO_OUT_CFG (if whileOn then 2 else 3) n then
    (s.modFout n (fun x => { x with ol := true })).raiseCond 0x1501 { source := n }
  else s

/-- A short to ground switches the output off (Table 18.4). -/
def State.shortGround (s : State) (n : Nat) : State :=
  if s.foutOn n then
    let first := !(s.fout n).short
    let s := s.fioChange (fun s => s.modFout n (fun x => { x with short := true, retrying := false }))
    if first then s.raiseCond 0x1502 { source := n } else s
  else s

/-- A retry after a short (R546). -/
def State.retryShort (s : State) (n : Nat) (still : Bool) : State :=
  if (s.fout n).short && s.foutCmd n && s.fio.present && s.foutPowered && !s.foutLocked n then
    let s := s.bump FIO_OUT_RETRY_COUNT n
    let s := s.fioChange (fun s => s.modFout n (fun x => { x with retrying := true }))
    s.fioChange (fun s =>
      let s := s.modFout n (fun x => { x with retrying := false, short := still })
      if still then s else s.gone 0x1502 n)
  else s

/-- A conflict of a pair: output `a` switched on in this tick and `b` is driven from outside (R548 to R550). -/
def State.conflict (b : Nat) (s : State) (a : Nat) : State :=
  let k := pairOf a b
  let s := (s.bump FIO_CONFLICT_COUNT).raiseI 0x1504 { source := b, addr := a + 256 * b }
  let s := s.present 0x1504 (pairSource k)
  let lock := s.flag FIO_CTL k
  s.fioChange (fun s => { s with fio := { s.fio with
    pairs := putBits s.fio.pairs k k 1, locked := if lock then putBits s.fio.locked k k 1 else s.fio.locked } })

/-- External drive is diagnosed on an output that is off; every output that switched on in this tick is in
conflict with it. -/
def State.extDrive (s : State) (b : Nat) : State :=
  if s.fio.present && s.foutPowered && !s.foutOn b && !(s.fout b).ext then
    let on := (List.range 4).filter (fun a => a != b && (s.fout a).onTick == some s.tick.number.toNat)
    let s := (s.modFout b (fun x => { x with ext := true })).raiseCond 0x1503 { source := b }
    on.foldl (State.conflict b) s
  else s

/-- A diagnosed condition ends (Table 13.5). -/
def State.diagEnd (s : State) (n : Nat) (external : Bool) : State :=
  if external then
    (if (s.fout n).ext then
      s.fioChange (fun s => (s.modFout n (fun x => { x with ext := false })).gone 0x1503 n)
     else s)
  else if (s.fout n).ol then (s.modFout n (fun x => { x with ol := false })).gone 0x1501 n
  else s

/-- VFIELD leaves its range: every output is off and every other diagnosis ends (R538). Its value then is not
specified. -/
def State.vfieldGone (s : State) : State :=
  if s.fio.present then
    let off := fun x : Fout => { x with ol := false, short := false, ext := false, retrying := false }
    let s := { s with fio := { s.fio with present := false, pairs := 0, outs := s.fio.outs.map off,
                                          vfieldMv := Config.free s.fresh % 65536 } }
    let live := s.guard.live.filter (fun p => !(decide (0x1501 ≤ p.1) && decide (p.1 ≤ 0x1504)))
    (({ s with guard := { s.guard with live := live } }).freshen).raiseCond 0x1505
  else s

/-- VFIELD has been in range for 10 ms; outputs take their state again at the next edge (R538). -/
def State.vfieldBack (s : State) (mv : Nat) : State :=
  if s.fio.present = false ∧ 16000 ≤ mv ∧ mv ≤ 34000 then
    ({ s with fio := { s.fio with present := true, vfieldMv := mv, restoreAtEdge := !s.fio.safeLevels } }).gone 0x1505 0xFF
  else s

/-! Inputs (R551 to R553). -/

/-- FILTER_US: 1 to 1000. -/
def State.filterUs (s : State) (n : Nat) : Nat := clamp 1 1000 (s.fld FIO_IN_CFG 9 0 n)

/-- WAKE_EDGE selects an edge. -/
def State.finWakes (s : State) (n : Nat) (rising : Bool) : Bool :=
  match s.fld FIO_IN_CFG 13 12 n with
  | 0 => rising
  | 1 => !rising
  | 2 => true
  | _ => false

/-- An input's new level has held for its filter time; `ns` is the Keeper time of the first sample at it. In RETAIN
and DEEP STANDBY the Keeper alone samples it. -/
def State.finEdge (s : State) (n : Nat) (rising : Bool) (ns : Nat) : State :=
  let ns := s.sampleNs ns
  if s.power.mode = .off ∨ s.pwr.keeperOn = false then s
  else if s.asleep then
    let s := s.advanceTo (1000 * ns + max 2 (ceilDiv (s.filterUs n * 1000) 30518) * 30517578)
    if s.finWakes n rising then s.wakeEvent (2 + n) ns s.tick32 else s
  else if (lget Fin'.reset s.fio.ins n).level = rising then s
  else
    let stamp := ns - 3000
    let tick := s.tickAt stamp
    let s := s.advanceTo (1000 * (ns + 1000 * s.filterUs n))
    let s := { s with fio := { s.fio with ins := lmod s.fio.ins n (fun _ => { level := rising, stamp := stamp }) } }
    let s := (s.bump FIO_IN_EDGE_COUNT n).hwFlag 6
    let s := if s.tick.src = 2 ∧ n = 0 ∧ rising = true then s.sourceEdge stamp else s
    if s.finWakes n rising then s.wakeEvent (2 + n) stamp tick else s

end Sys2Proof.Machine
end

