-- ==== Sys2Proof/Machine/TickEdge.lean ====
section
/-! DEFINITION. The tick edge (R50, R63): what it opens, flips, applies, releases, reclaims, posts and writes. -/

namespace Sys2Proof.Machine

/-- Tick edges come in every state but OFF, SAFE, the low-power modes and the boot stages (R50, R427, R449). -/
def State.ticks (s : State) : Bool := !s.tick.stopped && !s.asleep && s.sys.bootStage == 7 && !s.sys.rescue

/-- Step 1 of R63: the next tick opens, at the first timer step at or after its ideal instant (R15, R50, R54, R58).
A work window whose guard window was not reached by a command ends here with its stop, and no admitted job outlasts
its tick (R43, R62). -/
def State.openTick (s : State) : State :=
  let s := if s.isActive && decide (s.tick.window ≠ .guard) then s.guardStop else s
  let s := ({ s with tick := { s.tick with window := .guard } }).endAllStopped
  let s := (s.advanceTo s.tick.nextPs).takeTickSettings
  let s := { s with mem := { s.mem with maintTicks := s.mem.maintTicks + 1 } }
  let t := s.tick
  { s with tick := { t with
      number := t.number + 1, edgePs := s.clock.ps, nextPs := t.nextPs + 1000 * s.tickLength, correction := 0,
      window := .admission, pollsDone := 0, spent := [0, 0, 0, 0], out := s.flag TCK_CTL 3,
      holdTicks := if t.srcState = 3 ∧ s.power.trans.isEntry = false then t.holdTicks + 1 else t.holdTicks } }

/-- Step 2 of R63: every display flips, with its measured frame error (R57, R499). -/
def State.flipAll (s : State) (errs : List Int) : State :=
  let s := (List.range 3).foldl (fun s d => s.flip d (lget 0 errs d)) s
  { s with tick := { s.tick with composing := [], composed := [], cmpStarted := false } }

/-- The first image that waits for each slot, and the rest (R282: switches of one slot happen at successive edges). -/
def splitFirst : List Nat → List (Nat × Overlay) → List (Nat × Overlay) × List (Nat × Overlay)
  | _, [] => ([], [])
  | seen, x :: t =>
    if seen.contains x.1 then ((splitFirst seen t).1, x :: (splitFirst seen t).2)
    else (x :: (splitFirst (x.1 :: seen) t).1, (splitFirst (x.1 :: seen) t).2)

/-- A slot switches to a new image; the cells of the old one are freed (R282). -/
def State.switchOverlay (s : State) (x : Nat × Overlay) : State :=
  let s := s.returnCells (tget Overlay.empty s.cmp.overlays x.1).cells
  { s with cmp := { s.cmp with overlays := tput .empty s.cmp.overlays x.1 x.2 } }

/-- Overlay slots whose copy has ended switch to the new image (R282). -/
def State.switchOverlays (s : State) : State :=
  let (now, later) := splitFirst [] s.cmp.switching
  now.foldl State.switchOverlay { s with cmp := { s.cmp with switching := later } }

/-- Panel capture: the frame flipped at this edge goes to each channel that encodes its display (R246, Table 7.2);
a paused channel drops it (R157). -/
def State.capturePanels (s : State) : State :=
  s.chans.foldl (fun s p =>
    match p.2.enc with
    | none => s
    | some e =>
      let d := e.source - 1
      if 1 ≤ e.source ∧ e.source ≤ 3 ∧ (s.disp d).scans = true then
        if (s.chan p.1).state = 3 ∨ s.lowEntry = true then s.bump SYS_CHAN_PDROP_COUNT p.1
        else if s.isActive && !s.guard.restarting then
          s.offerEncode p.1 s.tick.number.toNat
            { captured := s.ktime, luma := s.activePixels d, cells := [], source := s.frontImage d, job := none }
        else s
      else s) s

/-- The buffers of the encoders drain by one tick (Table 7.8). -/
def State.drainBuffers (s : State) : State :=
  { s with chans := s.chans.map (fun p => (p.1, s.drainBuffer p.2)) }

/-- A change of the ceiling since the last edge is reported with the time of this edge and the number of the tick that it
opens (notes/assumptions/168.md), acts at once on the point in force, and reaches this tick's admission (R87, R88, R447). -/
def State.ceilingEdge (s : State) : State :=
  let old := s.tick.ceiling
  let s := { s with pwr := { s.pwr with thermNow := s.pwr.thermCeil } }
  let new := s.ceilNow
  let s := if new = old then s else s.event 0x21 0 [old, new, s.ceilCause]
  ({ s with tick := { s.tick with ceiling := new } }).enforceCeil

/-- A corrupt copy of the regulator settings is rewritten (R516). -/
def State.repairCopy (s : State) : State :=
  if s.pwr.badCopy then
    ({ s with pwr := { s.pwr with badCopy := false } }).bump PWR_CFG_VOTE_COUNT
  else s

/-- Entry edge, IDLE exit and wait for dark displays; pulse schedules stop with a RETAIN or DEEP STANDBY entry
(R425 to R430, Table 18.3). -/
def State.modeStep (s : State) : State :=
  let was := s.power.trans.isEntry
  let s := s.modeEdge
  if !was && s.power.trans.isEntry then s.stopPulses else s

/-- After a Class M restart admission resumes at this edge and channels run as after a pause (R401). -/
def State.resumeEdge (s : State) : State :=
  if s.guard.resumeAtEdge then
    ({ s with guard := { s.guard with resumeAtEdge := false } }).resumeChannels
  else s

/-- Change the comb manager's state. -/
def State.modBpm (s : State) (f : Bpm → Bpm) : State := { s with bpm := f s.bpm }

/-- COMB_LOW of one comb (R346). -/
def State.combLow (s : State) (c : Nat) : State :=
  let lowMark := s.fld BPM_COMB_WATER 15 0 c
  let high := s.fld BPM_COMB_WATER 31 16 c
  let free := s.combFreeMap c
  let least := lget 0 s.bpm.low c
  let data := fun (state : Nat) =>
    leNats 4 free ++ leNats 4 least ++ [state, min 255 (lget 0 s.bpm.fails c)]
  if lowMark = 0 then s
  else
    let enters := decide (least < lowMark) && !s.bpm.lowState.contains c
    let s := if enters then
        (s.event 0x51 c (data 1)).modBpm (fun b => { b with lowState := ladd b.lowState c })
      else s
    if s.bpm.lowState.contains c && decide (max lowMark high ≤ free) then
      (s.event 0x51 c (data 0)).modBpm (fun b => { b with lowState := ldel b.lowState c })
    else s

/-- Low-water events of all combs; the lowest counts of the new tick start from the present ones (R346). -/
def State.combEdge (s : State) : State :=
  let s := (List.range 8).foldl State.combLow s
  { s with bpm := { s.bpm with prevLow := s.bpm.low, low := (List.range 8).map s.combFreeMap,
                               fails := List.replicate 8 0 } }

/-- What takes effect at the edge that opens the present tick, before completions are released: channel jobs,
layers, overlays, the mode, field outputs, panel capture and the ceiling. -/
def State.applyEdge (s : State) : State :=
  let t := s.tick.number.toNat
  let s := s.chanEdges t
  let s := ((s.applyChanges t).switchOverlays).modeStep
  let s := (s.fioEdge t).capturePanels
  (s.drainBuffers.ceilingEdge).repairCopy

/-- The tick edge (R63). -/
def State.edge (s : State) (errs : List Int) : State :=
  if !s.ticks then s
  else
    let s := (s.openTick.flipAll errs).applyEdge
    let s := s.release
    let s := ((s.reclaimDue.reactionEdge).returnUnits).resumeEdge
    let s := (((s.staleEdge s.tick.number.toNat).combEdge).replayEdge).postEvents
    let s := (((s.statusBlock 0).moderationEdge).quiesce).freePartners
    let s := { s with hif := { s.hif with dbRead := false, started := true, polling := none } }
    s.hwFlag 0

end Sys2Proof.Machine
end

