-- ==== Sys2Proof/Machine/Pads.lean ====
section
/-! DEFINITION. The output pads as a function of the state, and what every command ends with: the pads take the
levels that the new state gives them (R143, R414, R555 to R566, Tables 14.8 and 19.3). -/

namespace Sys2Proof.Machine

/-- The column of Table 19.3 in force, with SAFE and rescue boot (Table 14.8). -/
inductive PadPhase where
  /-- OFF, or the core-domain rails have fallen. -/
  | dark
  | boot
  | running
  | safe
  | retain
  | deep
deriving DecidableEq, Repr

/-- Which column is in force (R559). -/
def State.padPhase (s : State) : PadPhase :=
  if s.power.mode = .off ∨ s.pwr.pwrGood = false ∧ s.power.mode ≠ .deepStandby ∨ s.pwr.keeperOn = false then .dark
  else if s.guard.safe ∨ s.sys.rescue then .safe
  else if s.power.mode = .deepStandby ∧ s.power.trans = .none then .deep
  else if s.sys.bootStage < 7 ∨ s.sys.resetLow then .boot
  else if s.power.mode = .retain then .retain
  else .running

/-- Driven high or low. -/
def Level.of (b : Bool) : Level := if b then .high else .low
/-- Open drain: low, or released. -/
def Level.drain (low : Bool) : Level := if low then .low else .z

/-- VDD_EN of a panel is high (R297, R298). -/
def PanelStep.vdd : PanelStep → Bool
  | .off => false
  | .waitHpd => true
  | .waitLink => true
  | .training => true
  | .waitVideo => true
  | .waitBacklight => true
  | .on => true
  | .waitLinkOff => true
  | .waitVddOff => true
  | .waitOff => false

/-- Past the quiesce edge of an entry. -/
def State.quiet (s : State) : Bool :=
  match s.power.trans with
  | .quiesced _ => true
  | .none => false
  | .requested _ _ => false
  | .entering _ => false
  | .exiting _ => false

/-- Levels of core-domain pads that a phase fixes: high-impedance without their rails, low otherwise. -/
def PadPhase.rest : PadPhase → Level
  | .dark => .z
  | .deep => .z
  | .boot => .low
  | .running => .low
  | .safe => .low
  | .retain => .low

/-- `l` in RUN and IDLE, the phase's fixed level otherwise. -/
def PadPhase.run (p : PadPhase) (b : Bool) : Level := if p = .running then .of b else p.rest
/-- `l` in RUN, IDLE and SAFE, the phase's fixed level otherwise. -/
def PadPhase.runSafe (p : PadPhase) (b : Bool) : Level := if p = .running ∨ p = .safe then .of b else p.rest

/-- Any reason for MGMT_IRQ_N (R143). -/
def State.mgmtIrq (s : State) : Bool := s.anyStatus || s.bus.linkLost
/-- FAULT_N is low (R414). -/
def State.faultLow (s : State) : Bool := s.severeStatus || s.guard.safe || (s.sys.rescue && s.sys.rescueNoSlot)

/-- Share of the time for which a backlight PWM is high. -/
def State.pwm (s : State) (d : Nat) : Nat :=
  let x := s.disp d
  if x.step = .on then (if s.flag DSP_BL 24 d then 255 - x.backlight % 256 else x.backlight % 256) else 0

/-- The output pads that a state shows. -/
def padsOf (s : State) : Pads :=
  let p := s.padPhase
  let keeper := fun (low : Bool) => if p = .dark ∧ s.power.mode = .off ∨ p = .boot then Level.z else .drain low
  let quiet := s.quiet
  { faultN := keeper s.faultLow
    safeN := keeper (s.guard.safe || s.sys.rescue)
    mgmtIrqN := keeper s.mgmtIrq
    pwrGood := .of (s.pwr.pwrGood && !s.pwr.lowGood && p != .deep && p != .dark)
    mgmtReady := .of s.pwr.keeperOn
    clkreqN := .drain (p != .deep && p != .dark)
    wakeN := .drain (s.power.wakeOut && p != .dark)
    tickOut := p.run s.tick.out
    camEn := s.csi.map (fun c => p.run (c.camEn && !quiet))
    camRstN := s.csi.map (fun c => p.run (c.camEn && !quiet && decide (c.rstPs ≤ s.clock.ps)))
    vddEn := s.displays.map (fun d => p.runSafe d.step.vdd)
    blEn := s.displays.map (fun d => p.runSafe (decide (d.step = .on)))
    blPwm := (List.range 3).map (fun d => if p = .running then s.pwm d else 0)
    vbusEn := (List.range 3).map (fun n => p.run (s.flag USB_CTL n && !(lget UsbPort.reset s.usb n).oc && !quiet))
    phyRstN := (List.range 2).map (fun m => p.run (s.flag ETH_CFG 0 m && !quiet))
    pps := s.eth.map (fun e => p.run (e.pps && e.ptpState == 3))
    clkOut := (List.range 4).map (fun n => (p == .running || p == .safe) && s.outRuns n)
    fout := (List.range 4).map (fun n => (p == .running || p == .safe) && s.foutOn n)
    dbgTxd := if p = .deep ∨ p = .dark then .z else .high }

/-- What a command ends with: the output pads follow the state. -/
def State.settle (s : State) : State := { s with pads := padsOf s }

/-- A command's answer. -/
def done (s : State) : Res := .next s.settle

/-- The answer of a command that names unit `n` of `count`: the state `t` that it leaves, or `s`, unchanged, where there
is no such unit for it to reach (notes/assumptions/7.md). -/
def onUnit (n count : Nat) (s t : State) : Res := done (if n < count then t else s)

end Sys2Proof.Machine
end

