-- ==== Sys2Proof/Machine/Ptp.lean ====
section
/-! DEFINITION. The PTP clock of a port: a slave-only ordinary clock over UDP and IPv4 with end-to-end delay requests
(R210 to R213). The layout of its messages and what the best master clock algorithm compares are those of IEEE 1588-2008,
which R211 names (notes/assumptions/148.md). -/

namespace Sys2Proof.Machine

/-- A MAC works: the module runs, outside SAFE and a Class M restart (Table 14.8, R401, R427). -/
def State.macOn (s : State) (m : Nat) : Bool :=
  s.flag ETH_CFG 0 m && !s.asleep && s.sys.bootStage == 7 && !s.sys.rescue && !s.guard.safe && !s.guard.restarting &&
    decide (s.power.mode ≠ .off)

/-- The clock of a port takes messages. -/
def State.ptpOn (s : State) (m : Nat) : Bool := (s.ethPort m).ptpState != 0 && s.macOn m && (s.ethPort m).link

/-- Change the clock of a port. -/
def State.modPtp (s : State) (m : Nat) (f : PtpClock → PtpClock) : State :=
  s.modEth m (fun e => { e with ptp := f e.ptp })

/-- portIdentity of the module's clock on a port: the EUI-64 of the station address, and port number 1. -/
def State.ptpIdentity (s : State) (m : Nat) : Nat :=
  let a := s.stationMac m
  (a / 2 ^ 24 * 2 ^ 40 + 0xFFFE * 2 ^ 24 + a % 2 ^ 24) * 2 ^ 16 + 1

/-! Messages (IEEE 1588-2008, clause 13). -/

/-- messageType: 0 Sync, 1 Delay_Req, 8 Follow_Up, 9 Delay_Resp, 11 Announce. -/
def ptpType (b : List Byte) : Nat := byteAt b 0 % 16
/-- twoStepFlag. -/
def ptpTwoStep (b : List Byte) : Bool := bitAt (byteAt b 6) 1
/-- correctionField, in whole ns. -/
def ptpCorrection (b : List Byte) : Int := signed 64 (beAt b 8 8) / 65536
/-- sourcePortIdentity. -/
def ptpSource (b : List Byte) : Nat := beAt b 20 10
/-- sequenceId. -/
def ptpSeq (b : List Byte) : Nat := beAt b 30 2
/-- logMessageInterval as an interval in ps. -/
def ptpInterval (b : List Byte) : Nat :=
  match signed 8 (byteAt b 33) with
  | .ofNat k => 10 ^ 12 * 2 ^ min k 32
  | .negSucc k => 10 ^ 12 / 2 ^ min (k + 1) 32
/-- The timestamp of a message: 48 bits of seconds and 32 of nanoseconds. -/
def ptpStamp (b : List Byte) : Int := beAt b 34 6 * 10 ^ 9 + beAt b 40 4
/-- requestingPortIdentity of a Delay_Resp. -/
def ptpRequester (b : List Byte) : Nat := beAt b 44 10
/-- What an Announce message says of its master. -/
def announced (b : List Byte) : PtpMaster :=
  { identity := ptpSource b,
    rank := [byteAt b 47, byteAt b 48, byteAt b 49, beAt b 50 2, byteAt b 52, beAt b 53 8, beAt b 61 2] }

/-- The message is whole, of version 2 and of the clock's domain. -/
def State.ptpHeaderOk (s : State) (m : Nat) (b : List Byte) : Bool :=
  decide (44 ≤ b.length) && byteAt b 1 % 16 == 2 && byteAt b 4 == s.fld TRF_PTP_CTL 15 8 m

/-- Lists of numbers in the order of their first difference. -/
def rankLe : List Nat → List Nat → Bool
  | [], _ => true
  | _ :: _, [] => false
  | a :: s, b :: t => decide (a < b) || (a == b && rankLe s t)

/-- The best master: the lowest in rank, then by identity (R211). -/
def bestMaster (l : List PtpMaster) : Option PtpMaster :=
  (sortBy (fun a b : PtpMaster => rankLe (a.rank ++ [a.identity]) (b.rank ++ [b.identity])) l).head?

/-- The message comes from the selected master. -/
def State.fromMaster (s : State) (m : Nat) (b : List Byte) : Bool :=
  (bestMaster (s.ethPort m).ptp.masters).any (fun x => x.identity == ptpSource b)

/-- A delay request of 44 bytes to 224.0.1.129, port 319 (R211); its own time is not inserted (R210). -/
def State.delayRequest (s : State) (m : Nat) : TxFrame :=
  let n := (s.ethPort m).ptp.reqSeq
  let msg := [0x01, 0x02] ++ beBytes 2 44 ++ [BitVec.ofNat 8 (s.fld TRF_PTP_CTL 15 8 m)] ++ List.replicate 15 0 ++
    beBytes 10 (s.ptpIdentity m) ++ beBytes 2 n ++ [1, 0x7F] ++ List.replicate 10 0
  let a : Addresses := { dstMac := 0x01005E000181, srcMac := s.stationMac m, srcIp := s.rd ETH_IP m, dstIp := 0xE0000181,
                         srcPort := 319, dstPort := 319 }
  let data := udpFrame a (Config.freeWord s.fresh).toNat msg
  { owner := .ptp n, charge := frameCharge data.length, len := data.length, queuedPs := s.clock.ps,
    queuedTick := s.tick.number.toNat, cell := none, data := data }

/-- The port leaves the synchronised state: TRF 0x0704, and holdover at once where the tick follows it (R54, R212). Edges
that the clock gave before are no part of a later run (R56). -/
def State.ptpLeave (s : State) (m state : Nat) : State :=
  let s := s.modEth m (fun x => { x with ptpState := state, good := 0, bad := 0, pps := false })
  let s := s.raiseCond 0x0704 { source := m }
  if s.tick.src = 3 ∧ s.tick.ptpPort = m then
    let s := s.enterHoldover 1
    { s with tick := { s.tick with run := 0, edges := [] } }
  else s

/-- The offset from the master at a Sync message, in ns (R212): the state follows the counts of offsets in and over the
threshold. The clock is then steered, by how much the spec does not say, and a delay request follows (R203, R211). -/
def State.ptpOffset (s : State) (m : Nat) (offset : Int) : State :=
  let x := s.ethPort m
  let near := decide (offset.natAbs ≤ s.fld TRF_PTP_CTL 31 16 m)
  let good := if near then x.good + 1 else 0
  let bad := if near then 0 else x.bad + 1
  let req := s.delayRequest m
  let time := Config.free (s.fresh + 1)
  let now := s.clock.ps
  let s := { s with fresh := s.fresh + 2 }
  let s := s.modEth m (fun x =>
    { x with offset := offset, good := min 8 good, bad := min 4 bad, ptpQueue := x.ptpQueue ++ [req],
             ptp := { x.ptp with reqSeq := (x.ptp.reqSeq + 1) % 65536, baseNs := time, basePs := now } })
  let s : State :=
    if x.ptpState = 3 then (if 4 ≤ bad then s.ptpLeave m 2 else s)
    else if 8 ≤ good then (s.modEth m (fun x => { x with ptpState := 3 })).gone 0x0704 m
    else s.modEth m (fun x => { x with ptpState := 2 })
  s.startPort m

/-- A Sync whose send time is known: offset = t2 − t1 − mean path delay. -/
def State.ptpMeasure (s : State) (m : Nat) (t1 : Int) (t2 : Nat) : State :=
  let s := s.modPtp m (fun c => { c with sync := none, last := some (t1, t2) })
  s.ptpOffset m ((t2 : Int) - t1 - (s.ethPort m).ptp.delay)

/-- A Sync of the selected master with receive stamp `t2`: a one-step Sync carries its send time, a two-step one waits
for its Follow_Up. -/
def State.ptpSync (s : State) (m : Nat) (b : List Byte) (t2 : Nat) : State :=
  let now := s.clock.ps
  let s := s.modPtp m (fun c => { c with syncPs := now, intervalPs := ptpInterval b })
  if ptpTwoStep b then s.modPtp m (fun c => { c with sync := some (ptpSeq b, t2, ptpCorrection b) })
  else s.ptpMeasure m (ptpStamp b + ptpCorrection b) t2

/-- The Follow_Up of a two-step Sync. -/
def State.ptpFollowUp (s : State) (m : Nat) (b : List Byte) : State :=
  match (s.ethPort m).ptp.sync with
  | none => s
  | some (n, t2, corr) => if n = ptpSeq b then s.ptpMeasure m (ptpStamp b + corr + ptpCorrection b) t2 else s

/-- A Delay_Resp to the module's own request: mean path delay = ((t2 − t1) + (t4 − t3)) / 2. -/
def State.ptpDelayResp (s : State) (m : Nat) (b : List Byte) : State :=
  let c := (s.ethPort m).ptp
  match c.req, c.last with
  | some (n, t3), some (t1, t2) =>
    if n = ptpSeq b ∧ ptpRequester b = s.ptpIdentity m then
      let t4 := ptpStamp b - ptpCorrection b
      s.modPtp m (fun c => { c with req := none, delay := ((t2 : Int) - t1 + (t4 - (t3 : Int))) / 2 })
    else s
  | _, _ => s

/-- An Announce message: the master is heard, and the best one is selected (R211). -/
def State.ptpAnnounce (s : State) (m : Nat) (b : List Byte) : State :=
  let x := announced b
  let old := bestMaster (s.ethPort m).ptp.masters
  let l := (s.ethPort m).ptp.masters.filter (fun y => !(y.identity == x.identity)) ++ [x]
  let s := s.modPtp m (fun c => { c with masters := l })
  if (bestMaster l).map (·.identity) = old.map (·.identity) then s
  else s.modPtp m (fun c => { c with sync := none, last := none, req := none, delay := 0 })

/-- A message that reaches the clock of a port on UDP port 319 or 320, with the receive stamp of its frame (R211, R212).
Messages of other types, among them those of the peer-to-peer delay mechanism, are not supported and change nothing. -/
def State.ptpMessage (s : State) (m : Nat) (b : List Byte) (t2 : Nat) : State :=
  if s.ptpOn m = false ∨ s.ptpHeaderOk m b = false then s
  else
    match ptpType b with
    | 11 => if 64 ≤ b.length then s.ptpAnnounce m b else s
    | 0 => if s.fromMaster m b then s.ptpSync m b t2 else s
    | 8 => if s.fromMaster m b then s.ptpFollowUp m b else s
    | 9 => if s.fromMaster m b ∧ 54 ≤ b.length then s.ptpDelayResp m b else s
    | _ => s

/-- No Sync within four announced intervals (R212). -/
def State.ptpTimeout (s : State) (m : Nat) : State :=
  let c := (s.ethPort m).ptp
  match (s.ethPort m).ptpState with
  | 3 => (s.advanceTo (c.syncPs + 4 * c.intervalPs)).ptpLeave m 1
  | 2 => s.modEth m (fun x => { x with ptpState := 1, good := 0, bad := 0 })
  | _ => s

/-- The PTP clock of a port starts or stops (R211); a port that stops while synchronised leaves that state (R54). -/
def State.writePtp (s : State) (m : Nat) : State :=
  if s.flag TRF_PTP_CTL 0 m then
    s.modEth m (fun x => { x with ptpState := if x.ptpState = 0 then 1 else x.ptpState })
  else
    let s := if (s.ethPort m).ptpState = 3 then s.ptpLeave m 0 else s
    s.modEth m (fun x =>
      { x with ptpState := 0, ptpQueue := [], good := 0, bad := 0,
               ptp := { x.ptp with masters := [], sync := none, last := none, req := none, delay := 0 } })

/-- Keeper time reaches the next whole second of a port's PTP time (R563). -/
def State.toSecond (s : State) (m : Nat) : State :=
  let c := (s.ethPort m).ptp
  s.advanceTo (c.basePs + 1000 * (ceilDiv (s.ptpTime m s.clock.ps) (10 ^ 9) * 10 ^ 9 - c.baseNs))

end Sys2Proof.Machine
end

