-- ==== Sys2Proof/Machine/Network.lean ====
section
/-! DEFINITION. The tick source and the Ethernet side: source edges, the PTP clock, the checks of a received frame, the
flow filters, policing, RTP access units, the host receive ring, the links and what the ports send (R51 to R56, R172, R187
to R213, R563). Byte strings of a frame are in network order. -/

namespace Sys2Proof.Machine

/-! The tick source. -/

/-- The source in force has an edge at an instant: a pad at any, the PTP clock where its port is synchronised and its PTP
time t satisfies t mod PERIOD_NS = PHASE_NS (R56, R213). -/
def State.edgeAt (s : State) (instant : Nat) : Bool :=
  s.tick.src != 0 && s.ticks && s.sourceLive &&
    (s.tick.src != 3 ||
      s.ptpTime s.tick.ptpPort (1000 * instant) % s.tick.periodNs == s.rd TRF_PTP_PHASE s.tick.ptpPort)

/-- TICK_SOURCE_EDGE (R51). A source that is not in force has no edges. -/
def execTickSourceEdge (instant : Nat) (s : State) : Res :=
  done (if s.edgeAt instant then (s.advanceTo (1000 * instant)).sourceEdge instant else s)

/-- Input delay of a source in ns: TICK_IN, FIN0, PTP (R51). -/
def State.sourceDelay (s : State) : Nat :=
  match s.tick.src with
  | 1 => 120
  | 2 => 1000 * s.filterUs 0 + 4000
  | _ => 0

/-- A predicted edge passes without an accepted edge, when its window has closed and the input delay has elapsed
(R51, R54). -/
def State.missEdge (s : State) : State :=
  if s.tick.src = 0 ∨ s.ticks = false then s
  else
    let close := s.tick.edgePs + 1000 * (s.tolNs + s.sourceDelay)
    (if s.tick.target.isSome then s else s.advanceTo close).edgeMissed

/-- PREDICTED_EDGE_MISSED (R54). -/
def execPredictedEdgeMissed (s : State) : Res := done s.missEdge

/-! The PTP clock (R211, R212, R563). -/

/-- PTP_SYNC_MESSAGE (R212): a message for the clock of a port, with the instant of its start-of-frame delimiter. -/
def execPtpSyncMessage (port : Nat) (arrival : PtpArrival) (s : State) : Res :=
  onUnit port 2 s (s.ptpMessage port arrival.message (s.stamp port (1000 * arrival.sfd)))

/-- PTP_SYNC_TIMEOUT (R212). -/
def execPtpSyncTimeout (port : Nat) (s : State) : Res := onUnit port 2 s (s.ptpTimeout port)

/-- PPS_OUTm goes high at a whole second of the port's PTP time (R563). -/
def State.ppsStart (s : State) (m : Nat) : State :=
  if (s.ethPort m).ptpState = 3 then (s.toSecond m).modEth m (fun x => { x with pps := true }) else s

/-- PPS_PULSE_START (R563). -/
def execPpsPulseStart (port : Nat) (s : State) : Res := onUnit port 2 s (s.ppsStart port)

/-- PPS_PULSE_END (R563). -/
def execPpsPulseEnd (port : Nat) (s : State) : Res :=
  onUnit port 2 s (s.modEth port (fun x => { x with pps := false }))

/-! The destination address and the filters (R188, R189). -/

/-- A filter is enabled (Table 5.3). -/
def State.flowEnabled (s : State) (f : Nat) : Bool := s.flag TRF_FLOW_CTL 0 f && s.fld TRF_FLOW_CTL 3 2 f != 0

/-- A filter is enabled on a port (Table 5.3). -/
def State.flowOn (s : State) (m f : Nat) : Bool := s.flowEnabled f && s.fld TRF_FLOW_CTL 1 1 f == m

/-- The destination MAC address is one that the port takes: the group of a filter is taken on both ports (R188,
step 2). -/
def State.macTakes (s : State) (m dst : Nat) : Bool :=
  dst == s.stationMac m || dst == 2 ^ 48 - 1 ||
    (List.range 32).any (fun f => s.flowEnabled f && s.rd TRF_FLOW_DIP f / 2 ^ 28 == 14 &&
      dst == 0x01005E000000 + s.rd TRF_FLOW_DIP f % 2 ^ 23) ||
    (s.flag TRF_PTP_CTL 0 m && dst == 0x01005E000181)

/-- A filter matches a UDP packet (R189). -/
def State.flowMatches (s : State) (m : Nat) (p : Packet) (f : Nat) : Bool :=
  let dip := s.rd TRF_FLOW_DIP f
  s.flowOn m f && p.dst == (if dip = 0 then s.rd ETH_IP m else dip) && p.dstPort == s.fld TRF_FLOW_UDP 15 0 f &&
    (!s.flag TRF_FLOW_CTL 13 f || (p.src == s.rd TRF_FLOW_SIP f && p.srcPort == s.fld TRF_FLOW_UDP 31 16 f))

/-! The host receive ring (R199, R200). -/

/-- A frame goes to the host, or is dropped and counted; TAG is the Keeper time of its start-of-frame delimiter. -/
def State.toHost (s : State) (m : Nat) (x : EthFrame) : State :=
  let b := x.bytes
  let q := s.fld TRF_HRX_CTL 6 1
  if s.flag TRF_HRX_CTL 0 = false ∨ s.cqOn q = false ∨ s.cqRoom q = 0 ∨ s.canDma = false then
    s.bump TRF_HRX_DROP_COUNT
  else
    let slot := (s.cq q).pi % s.cqSize q
    let s := s.hostWrite (s.rd64 TRF_HRX_BASE_LO TRF_HRX_BASE_HI + 2048 * slot) b
    let c : Cpl :=
      { tag := x.sfd, status := 0, reason := 0, deferred := 0, estimated := s.pwr.senseLost, ordered := false, opcode := 0,
        channel := 0xFF, sq := 0xFF, energy := 0, fault := 0, detail := m, result := b.length, irqNow := false }
    ((s.writeCpl q c).bump TRF_HRX_COUNT).hwFlag 8

/-! Policing (R191, R192). -/

/-- A flow. -/
def State.flow (s : State) (f : Nat) : Flow := tget .reset s.flows f
/-- Change a flow. -/
def State.setFlow (s : State) (f : Nat) (x : Flow) : State := { s with flows := tput .reset s.flows f x }

/-- Tokens of a flow now, in nano-bytes (R191). -/
def State.tokensNow (s : State) (f : Nat) : Nat :=
  let x := s.flow f
  min (s.fld TRF_FLOW_BUCKET 23 0 f * 10 ^ 9) (x.tokens + s.fld TRF_FLOW_RATE 21 0 f * 125 * (s.ktime - x.tokenNs))

/-- A matched packet of `cost` bytes meets the bucket: whether it passes (R191). -/
def State.police (s : State) (f cost : Nat) : State × Bool :=
  if s.fld TRF_FLOW_RATE 21 0 f = 0 then (s, true)
  else
    let t := s.tokensNow f
    if cost * 10 ^ 9 ≤ t then (s.setFlow f { s.flow f with tokens := t - cost * 10 ^ 9, tokenNs := s.ktime }, true)
    else ((s.setFlow f { s.flow f with tokens := t, tokenNs := s.ktime }).bump TRF_POL_DROP_COUNT f, false)

/-! RTP (R193 to R197). -/

/-- An RTP packet. -/
structure Rtp where
  version : Nat
  marker : Bool
  pt : Nat
  seq : Nat
  stamp : Nat
  ssrc : Nat
  payload : List Byte
deriving DecidableEq, Repr

/-- An RTP packet read out: CSRC list, header extension and padding are skipped. -/
def rtpOf (b : List Byte) : Rtp :=
  let head := 12 + 4 * (byteAt b 0 % 16)
  let head := if bitAt (byteAt b 0) 4 then head + 4 + 4 * beAt b (head + 2) 2 else head
  let pad := if bitAt (byteAt b 0) 5 then byteAt b (b.length - 1) else 0
  { version := byteAt b 0 / 64, marker := bitAt (byteAt b 1) 7, pt := byteAt b 1 % 128, seq := beAt b 2 2,
    stamp := beAt b 4 4, ssrc := beAt b 8 4, payload := (b.take (b.length - pad)).drop head }

/-- A payload format that the module takes (Table 5.1). -/
def payloadTaken (codec : Nat) (b : List Byte) (donl : Bool) : Bool :=
  match codec with
  | 1 =>
    let q := byteAt b 5
    decide (8 ≤ b.length) && [0, 1, 64, 65].contains (byteAt b 4) && q != 0 && (decide (q ≤ 99) || decide (128 ≤ q))
  | 2 =>
    let t := byteAt b 0 % 32
    decide (1 ≤ b.length) && ((decide (1 ≤ t) && decide (t ≤ 24)) || t == 28)
  | 3 =>
    let t := byteAt b 0 / 2 % 64
    decide (2 ≤ b.length) && decide (t ≤ 49) && !donl
  | _ => false

/-- The RTP checks on a policed packet (R193, Table 5.1). -/
def State.rtpOk (s : State) (f : Nat) (r : Rtp) (len : Nat) (donl : Bool) : Bool :=
  decide (12 ≤ len) && r.version == 2 && (!s.flag TRF_FLOW_CTL 11 f || r.pt == s.fld TRF_FLOW_CTL 10 4 f) &&
    (!s.flag TRF_FLOW_CTL 12 f || r.ssrc == s.rd TRF_FLOW_SSRC f) && payloadTaken (s.fld TRF_FLOW_CTL 3 2 f) r.payload donl

/-- Identity digest of an RTP flow (R173). -/
def rtpIdent (src port ssrc : Nat) : Nat := crc32 (beBytes 4 src ++ beBytes 2 port ++ beBytes 4 ssrc)

/-- The first packet that a flow accepts is the arrival of its partner (Table 4.9). -/
def State.flowArrives (s : State) (f : Nat) (p : Packet) (r : Rtp) : State :=
  let s := s.setFlow f { s.flow f with expected := some r.seq, ssrc := r.ssrc, srcIp := p.src, srcPort := p.srcPort,
                                       unit := none, refreshTick := none }
  s.arrive { Partner.free with type := 4, port := 0x40 + f, flags := 1, format := r.pt
                               ident := rtpIdent p.src p.srcPort r.ssrc }

/-- A channel bound to a partner whose identity has changed unbinds when its binding names the partner no more. -/
def State.unbindChanged (s : State) (p : Nat) : State :=
  (List.range 32).foldl (fun s n =>
    let c := s.chan n
    if c.bound = some p ∧ bindingNames c p (s.partner p) = false then
      (s.setChan n { c with bound := none, waitIrap := c.waitIrap || c.kind == 1 }).partnerChanged p 4 n
    else s) s

/-- A change of SSRC or source address: CHANGE 2 (Table 4.9). The sequence starts again at this packet. -/
def State.sourceChanged (s : State) (f : Nat) (p : Packet) (r : Rtp) : State :=
  let x := s.flow f
  if x.ssrc = r.ssrc ∧ x.srcIp = p.src then s
  else
    let s := s.setFlow f { x with ssrc := r.ssrc, srcIp := p.src, srcPort := p.srcPort, expected := some r.seq }
    match s.atPort (0x40 + f) with
    | none => s
    | some k =>
      let s := s.setPartner k { s.partner k with ident := rtpIdent p.src p.srcPort r.ssrc }
      (s.partnerChanged k 2 0xFF).unbindChanged k

/-- The owner tag of a flow's cells: the transient tag of a channel that takes its frames, or 0x9A (Table 10.2). -/
def State.flowTag (s : State) (f : Nat) : Nat :=
  match s.atPort (0x40 + f) with
  | none => 0x9A
  | some p =>
    match s.chans.find? (fun q => q.2.bound == some p) with
    | some q => transientTag q.1
    | none => 0x9A

/-- The open unit of a flow ends without a picture; its cells go back. -/
def State.dropOpen (s : State) (f : Nat) : State :=
  match (s.flow f).unit with
  | none => s
  | some u => (s.setFlow f { s.flow f with unit := none }).returnCells u.cells

/-- The open access unit is lost for want of cells: it is discarded whole, counted, and a refresh is asked for with the
tick of its first loss (R196, R197). -/
def State.unitLost (s : State) (f : Nat) (u : OpenAu) : State :=
  let s := s.returnCells u.cells
  let s := (s.setFlow f { s.flow f with unit := some { u with dead := true, cells := [] } }).bump TRF_POOL_DROP_COUNT f
  s.refreshFlow f (if u.incomplete then u.lostTick else s.tick32)

/-- Cells for `n` more bytes of the open unit, all of comb COMB (R197). -/
def State.growUnit (comb tag : Nat) : Nat → State → List Nat → State × Option (List Nat)
  | 0, s, got => (s, some got)
  | k + 1, s, got =>
    match s.allocCell (cellSize comb) tag false with
    | (s, some h) => State.growUnit comb tag k s (got ++ [h])
    | (s, none) => (s.returnCells got, none)

/-- The payload of a packet is written into the cells of the open unit. -/
def State.writePayload (s : State) (f n : Nat) : State :=
  match (s.flow f).unit with
  | none => s
  | some u =>
    if u.dead then s
    else
      let comb := s.fld TRF_FLOW_CTL 18 16 f
      let need := ceilDiv (u.bytes + n) (cellSize comb) - u.cells.length
      match State.growUnit comb (s.flowTag f) need s [] with
      | (s, some hs) => s.setFlow f { s.flow f with unit := some { u with bytes := u.bytes + n, cells := u.cells ++ hs } }
      | (s, none) => s.poolFails (·.unitLost f u)

/-- The open access unit of a flow is complete (R195, R196): it reaches the channels, with its payload type as its FORMAT
(R175), and an INCOMPLETE one posts REFRESH_REQUEST. -/
def State.closeUnit (s : State) (f : Nat) (au : Option Au) : State :=
  match (s.flow f).unit with
  | none => s
  | some u =>
    if u.dead then s.setFlow f { s.flow f with unit := none }
    else
      let s := s.setFlow f { s.flow f with unit := none }
      let s := if u.incomplete then s.refreshFlow f u.lostTick else s
      match au, s.atPort (0x40 + f) with
      | some a, some p =>
        let x : Arrival :=
          { width := a.width, height := a.height, codec := s.fld TRF_FLOW_CTL 3 2 f, start := s.tick.number.toNat,
            au := some { a with incomplete := a.incomplete || u.incomplete }, bytes := u.bytes, cells := u.cells,
            image := .empty }
        (s.frameFrom p u.pt x).raiseMismatch
      | _, _ => s.returnCells u.cells

/-- A packet in sequence: its unit opens or goes on, and ends with the marker bit. A different timestamp ends the unit
before it as INCOMPLETE (R194, R195). `gap`: packets before this one were lost; `ended` and `au`: what the units that the
packet ends turned out to hold. -/
def State.takePacket (s : State) (f : Nat) (r : Rtp) (gap : Bool) (ended au : Option Au) : State :=
  let now := s.tick32
  let (s, gap) :=
    match (s.flow f).unit with
    | none => (s, gap)
    | some u =>
      if u.stamp = r.stamp then
        (if gap && !u.incomplete then s.setFlow f { s.flow f with unit := some { u with incomplete := true, lostTick := now } }
         else s, false)
      else
        let u := if u.incomplete then u else { u with incomplete := true, lostTick := now }
        ((s.setFlow f { s.flow f with unit := some u }).closeUnit f ended, false)
  let s := match (s.flow f).unit with
    | some _ => s
    | none =>
      s.setFlow f { s.flow f with unit := some { stamp := r.stamp, pt := r.pt, bytes := 0, incomplete := gap, lostTick := now,
                                                 dead := false, cells := [] } }
  let s := s.writePayload f r.payload.length
  if r.marker then s.closeUnit f au else s

/-- An accepted packet of a flow (R194). -/
def State.rtpPacket (s : State) (f : Nat) (p : Packet) (r : Rtp) (ended au : Option Au) : State :=
  let s := if (s.flow f).expected.isNone then s.flowArrives f p r else s.sourceChanged f p r
  let s := s.setFlow f { s.flow f with lastTick := s.tick.number.toNat }
  let ahead := (r.seq + 65536 - (s.flow f).expected.getD r.seq) % 65536
  if 32768 < ahead then s.bump TRF_SEQ_LOSS_COUNT f
  else
    let s := if ahead = 0 then s else State.bumpBy TRF_SEQ_LOSS_COUNT f ahead s
    let s := s.setFlow f { s.flow f with expected := some ((r.seq + 1) % 65536) }
    s.takePacket f r (decide (0 < ahead)) ended au

/-- A packet that filter `f` has taken (R191 to R193). -/
def State.flowPacket (s : State) (f : Nat) (p : Packet) (x : EthFrame) : State :=
  let s := s.bump TRF_RX_PKT_COUNT f
  match s.police f p.totalLen with
  | (s, false) => s
  | (s, true) =>
    let b := p.udp.drop 8
    let r := rtpOf b
    if s.rtpOk f r b.length x.donl then s.rtpPacket f p r x.ended x.au else s.bump TRF_RTP_ERR_COUNT

/-- Steps 5 to 10 of R188. -/
def State.ipPacket (s : State) (m : Nat) (x : EthFrame) (p : Packet) : State :=
  if p.headerOk = false then s.bump TRF_IP_ERR_COUNT
  else if p.fragment then s.bump TRF_FRAG_DROP_COUNT
  else if p.isUdp = false then s.toHost m x
  else if s.flag TRF_PTP_CTL 0 m = true ∧ (p.dstPort = 319 ∨ p.dstPort = 320) then
    (s.hwFlag 8).ptpMessage m (p.udp.drop 8) (s.ethPort m).rxStamp
  else if p.udpOk = false then s.bump TRF_IP_ERR_COUNT
  else
    match (List.range 32).find? (s.flowMatches m p) with
    | some f => s.flowPacket f p x
    | none => s.toHost m x

/-- A received frame, stamped at its start-of-frame delimiter (R210), in the order of R188. -/
def State.ethReceive (s : State) (m : Nat) (x : EthFrame) : State :=
  if s.macOn m = false ∨ (s.ethPort m).link = false then s
  else
  let stamp := s.stamp m (1000 * x.sfd)
  let s := s.modEth m (fun e => { e with rxStamp := stamp })
  if x.overrun then (s.bump ETH_RX_OVERRUN_COUNT m).raiseI 0x0602 { source := m }
  else if x.fcsError ∨ 1522 < x.bytes.length + 4 then s.bump ETH_RX_FCS_ERR_COUNT m
  else
    let s := s.bump64 ETH_RX_FRAME_COUNT m
    if s.macTakes m (beAt x.bytes 0 6) = false then s.bump TRF_MAC_DROP_COUNT
    else
      let p := packetOf x.bytes
      if p.ethertype = 0x0800 then s.ipPacket m x p else s.toHost m x

/-- ETH_FRAME_RECEIVE (R188). -/
def execEthFrameReceive (port : Nat) (frame : EthFrame) (s : State) : Res :=
  onUnit port 2 s (s.ethReceive port frame)

/-- A flow has been silent for its limit: its open unit is discarded and its partner leaves (R172, Table 4.9). -/
def State.flowSilent (s : State) (f : Nat) : State :=
  let x := s.flow f
  if x.expected.isNone = true ∨ s.ticks = false ∨
      s.tick.number.toNat < x.lastTick + atLeast1 (s.fld ETH_SILENCE 15 0 f) then s
  else
    let s := s.dropOpen f
    let s := s.setFlow f { s.flow f with expected := none }
    match s.atPort (0x40 + f) with
    | none => s
    | some p => s.depart p

/-- FLOW_SILENCE_TIMEOUT (R172). -/
def execFlowSilenceTimeout (flow : Nat) (s : State) : Res := onUnit flow 32 s (s.flowSilent flow)

/-! Links and transmission (R201 to R209, R563). -/

/-- The link of a port goes down: its queues are flushed (R209). -/
def State.ethDown (s : State) (m : Nat) : State :=
  let e := s.ethPort m
  if e.link = false then s
  else
    let cut : Nat := match e.sending with
      | some (_, f) =>
        (match f.owner with
         | .netTx _ => 1
         | .encode _ _ => 0
         | .ptp _ => 0)
      | none => 0
    let s := s.raiseCond 0x0601 { source := m, discarded := s.flushedJobs m + cut }
    let s := s.modEth m (fun x => { x with link := false, sending := none, ptpQueue := [] })
    let s := match e.sending with
      | some (q, f) => s.txDone q f { status := 0x40, fault := 0x0601 }
      | none => s
    ((List.range 16).filter (fun q => s.qPort q == m)).foldl (fun s q => s.flushQueue q) s

/-- ETH_LINK_DOWN (R209). -/
def execEthLinkDown (port : Nat) (s : State) : Res := onUnit port 2 s (s.ethDown port)

/-- The link of a port comes up (R563). -/
def State.ethUp (s : State) (m : Nat) : State :=
  if s.macOn m then ((s.modEth m (fun x => { x with link := true })).gone 0x0601 m).startPort m else s

/-- ETH_LINK_UP (R563). -/
def execEthLinkUp (port : Nat) (s : State) : Res := onUnit port 2 s (s.ethUp port)

/-- The credit of a queue regains 0 and its head frame may start (R202). -/
def State.creditBack (s : State) (q : Nat) : State :=
  let x := s.queue q
  if x.frames.isEmpty then s
  else
    let lack : Nat := (-s.creditNow q).toNat
    (s.advanceNs (ceilDiv lack (s.qRate q * 125))).startPort (s.qPort q)

/-- QUEUE_CREDIT_AVAILABLE (R202). -/
def execQueueCreditAvailable (queue : Nat) (s : State) : Res := onUnit queue 16 s (s.creditBack queue)

/-- Whole ticks that a frame spent queued, when it started at `ps` (R207). -/
def State.queuedTicks (s : State) (f : TxFrame) (ps : Nat) : Nat :=
  min 0xFFFF ((ps - f.queuedPs) / (1000 * s.tick.periodNs))

/-- The frame that a port is sending has left (R203, R207). -/
def State.sent (s : State) (m : Nat) : State :=
  let e := s.ethPort m
  match e.sending with
  | none => s
  | some (q, f) =>
    let s := (s.advanceTo e.sendEnd).modEth m (fun x => { x with sending := none })
    let s := if q < 16 then s.bump TRF_Q_TX_COUNT q else s
    let ticks := s.queuedTicks f (e.sendEnd - f.charge * s.bytePs m)
    (s.txDone q f { status := 0, detail := ticks, result := f.len }).startPort m

/-- FRAME_TRANSMIT_END (R207). -/
def execFrameTransmitEnd (port : Nat) (s : State) : Res := onUnit port 2 s (s.sent port)

end Sys2Proof.Machine
end

