-- ==== Sys2Proof/Machine/Cameras.lean ====
section
/-! DEFINITION. Cameras and USB: the detection and probe of the CSI-2 ports, their frames, and USB devices (R172 to R186,
R562, R564; Tables 4.9, 4.13, 4.14). -/

namespace Sys2Proof.Machine

/-- Stream ports work: the module runs, outside SAFE and the low-power modes (R427, Table 14.8). -/
def State.portsOn (s : State) : Bool :=
  !s.asleep && s.sys.bootStage == 7 && !s.sys.rescue && !s.guard.safe && decide (s.power.mode ≠ .off)

/-! CSI-2 ports. -/

/-- A CSI-2 port. -/
def State.csiPort (s : State) (p : Nat) : CsiPort := lget .reset s.csi p
/-- Change a CSI-2 port. -/
def State.modCsi (s : State) (p : Nat) (f : CsiPort → CsiPort) : State := { s with csi := lmod s.csi p f }
/-- A CSI-2 port is enabled and works. -/
def State.csiOn (s : State) (p : Nat) : Bool := s.portsOn && s.flag CSI_PORT_CFG 0 p
/-- The arrival moves to a stage. -/
def State.setStage (s : State) (p : Nat) (g : ProbeStage) : State :=
  s.modCsi p (fun c => { c with stage := g, since := s.clock.ps })
/-- Time goes on to `ms` milliseconds after the stage began. -/
def State.stageTime (s : State) (p ms : Nat) : State := s.advanceTo ((s.csiPort p).since + ms * 10 ^ 9)

/-- A partner is found at a port: one of equal and valid identity that is there already stays, with no event (R436);
any other gives way. -/
def State.found (s : State) (x : Partner) : State :=
  match s.atPort x.port with
  | none => s.arrive x
  | some p =>
    let y := s.partner p
    if bitAt x.flags 0 = true ∧ bitAt y.flags 0 = true ∧ y.type = x.type ∧ y.ident = x.ident then s
    else (s.depart p).arrive x

/-- The partner of virtual channel `vc` of a port (R173, R179). -/
def State.csiPartner (s : State) (p vc : Nat) : Partner :=
  let c := s.csiPort p
  let ident := if c.identValid then crc32 (c.probe ++ [BitVec.ofNat 8 vc]) else 0
  { Partner.free with type := 1, port := 4 * p + vc, flags := b2n c.identValid, ident := ident }

/-- The arrival of R177 and R178 ends: the partner of virtual channel 0 is there. -/
def State.csiArrived (s : State) (p : Nat) : State := (s.setStage p .present).found (s.csiPartner p 0)

/-- The init list goes on at entry `k`: a delay, a write, or its end (R178). -/
def State.initFrom (s : State) (p k : Nat) : State :=
  if 32 ≤ k ∨ s.rd CSI_INIT p k = 0 then s.csiArrived p
  else if s.flag CSI_INIT 7 p k then s.setStage p (.initWait k)
  else s.setStage p (.init k)

/-- Identity entries that are enabled. -/
def State.idEntries (s : State) (p : Nat) : List Nat := (List.range 4).filter (fun k => s.flag CSI_ID 17 p k)

/-- The identity list goes on at the first enabled entry from `k`; after the last one the init list starts. A probe
that has read something is valid. -/
def State.identityFrom (s : State) (p k : Nat) : State :=
  match (s.idEntries p).find? (fun i => decide (k ≤ i)) with
  | some i => s.setStage p (.identity i 0)
  | none => (s.modCsi p (fun c => { c with identValid := !(s.idEntries p).isEmpty })).initFrom p 0

/-- CAMp_DET has been active for DEBOUNCE_MS: the arrival starts (R177, R562). -/
def State.camAssert (s : State) (p : Nat) : State :=
  let s := s.modCsi p (fun c => { c with rawDet := true })
  if s.csiOn p = false ∨ (s.csiPort p).det = true then s
  else
    let half := s.fld CSI_DET_CFG 15 8 p / 2
    s.modCsi p (fun c => { c with det := true, camEn := true, rstPs := s.clock.ps + half * 10 ^ 9
                                  stage := .delay, since := s.clock.ps, probe := [], identValid := false })

/-- CAM_DETECT_ASSERT (R177). -/
def execCamDetectAssert (port : Nat) (s : State) : Res := onUnit port 4 s (s.camAssert port)

/-- PROBE_DELAY_MS has passed: the identity list is read (R177). -/
def State.probeDelay (s : State) (p : Nat) : State :=
  match (s.csiPort p).stage with
  | .delay => (s.stageTime p (s.fld CSI_DET_CFG 15 8 p)).identityFrom p 0
  | _ => s

/-- PROBE_DELAY_EXPIRY (R177). -/
def execProbeDelayExpiry (port : Nat) (s : State) : Res := onUnit port 4 s (s.probeDelay port)

/-- An identity read ends (R177): its one or two bytes are kept; after the third failure of an entry the probe has
failed and the init list follows (R178). -/
def State.identityRead (s : State) (p : Nat) (read : IdentRead) : State :=
  match (s.csiPort p).stage with
  | .identity k tries =>
    (match read with
     | some b =>
       let n := if s.flag CSI_ID 16 p k then 2 else 1
       (s.modCsi p (fun c => { c with probe := c.probe ++ padTo n b })).identityFrom p (k + 1)
     | none =>
       if tries < 2 then s.setStage p (.retryWait k (tries + 1))
       else
         let s := (s.bump CSI_PROBE_FAIL_COUNT p).raiseI 0x0402 { source := p }
         (s.modCsi p (fun c => { c with identValid := false })).initFrom p 0)
  | _ => s

/-- IDENTITY_READ_DONE (R177). -/
def execIdentityReadDone (port : Nat) (read : IdentRead) (s : State) : Res :=
  onUnit port 4 s (s.identityRead port read)

/-- 10 ms after a read that was not acknowledged, it is made again (R177). -/
def State.identityRetry (s : State) (p : Nat) : State :=
  match (s.csiPort p).stage with
  | .retryWait k tries => (s.stageTime p 10).setStage p (.identity k tries)
  | _ => s

/-- IDENTITY_RETRY_TIMER (R177). -/
def execIdentityRetryTimer (port : Nat) (s : State) : Res := onUnit port 4 s (s.identityRetry port)

/-- An init write ends (R178). -/
def State.initWritten (s : State) (p : Nat) : State :=
  match (s.csiPort p).stage with
  | .init k => s.initFrom p (k + 1)
  | _ => s

/-- INIT_WRITE_DONE (R178). -/
def execInitWriteDone (port : Nat) (s : State) : Res := onUnit port 4 s (s.initWritten port)

/-- A delay entry of the init list has passed (R178). -/
def State.initDelay (s : State) (p : Nat) : State :=
  match (s.csiPort p).stage with
  | .initWait k => (s.stageTime p (s.fld CSI_INIT 23 8 p k)).initFrom p (k + 1)
  | _ => s

/-- INIT_DELAY_EXPIRY (R178). -/
def execInitDelayExpiry (port : Nat) (s : State) : Res := onUnit port 4 s (s.initDelay port)

/-- A probe or init list is under way. -/
def ProbeStage.busy : ProbeStage → Bool
  | .absent => false
  | .delay => true
  | .identity _ _ => true
  | .retryWait _ _ => true
  | .init _ => true
  | .initWait _ => true
  | .present => false

/-- The camera-control bus is held low: the probe is abandoned, and the partner arrives without an identity
(CSI 0x0405). -/
def State.i2cLow (s : State) (p : Nat) : State :=
  if s.csiOn p = false ∨ (s.csiPort p).i2cLow = true then s
  else
    let s := (s.modCsi p (fun c => { c with i2cLow := true })).raiseCond 0x0405 { source := p }
    if (s.csiPort p).stage.busy then (s.modCsi p (fun c => { c with identValid := false })).csiArrived p else s

/-- I2C_BUS_HELD_LOW (R177). -/
def execI2cBusHeldLow (port : Nat) (s : State) : Res := onUnit port 4 s (s.i2cLow port)

/-- I2C_BUS_RELEASED (R410): the condition of CSI 0x0405 ends. -/
def execI2cBusReleased (port : Nat) (s : State) : Res :=
  onUnit port 4 s ((s.modCsi port (fun c => { c with i2cLow := false })).gone 0x0405 port)

/-- CAMp_DET has been inactive for DEBOUNCE_MS: every partner of the port leaves; before the arrival was complete the
departure is only counted (R179, R181, R562). -/
def State.camDeassert (s : State) (p : Nat) : State :=
  let c := s.csiPort p
  let gone := fun (c : CsiPort) => { CsiPort.reset with i2cLow := c.i2cLow, lastDt := c.lastDt }
  if s.portsOn = false then s.modCsi p (fun c => { c with rawDet := false })
  else if c.det = false then s.modCsi p (fun c => { c with rawDet := false })
  else if c.stage.busy then (s.modCsi p gone).bump CSI_DET_GLITCH_COUNT p
  else (s.modCsi p gone).departAll [4 * p, 4 * p + 1, 4 * p + 2, 4 * p + 3]

/-- CAM_DETECT_DEASSERT (R179). -/
def execCamDetectDeassert (port : Nat) (s : State) : Res := onUnit port 4 s (s.camDeassert port)

/-! Frames (R179, R183, R184). -/

/-- The port takes packets of a virtual channel: 0, or one that VC_EN enables, after its arrival. -/
def State.vcOn (s : State) (p vc : Nat) : Bool :=
  s.csiOn p && decide ((s.csiPort p).stage = .present) && (vc == 0 || s.flag CSI_PORT_CFG (4 + vc) p)

/-- Frames of a virtual channel that are lost are counted for each channel whose binding names the partner (R184,
Table 4.11). -/
def State.countDrops (s : State) (port : Nat) : State :=
  match s.atPort port with
  | none => s
  | some q => (List.range 32).foldl (fun s n =>
      if s.chanExists n = true ∧ bindingNames (s.chan n) q (s.partner q) = true then s.bump SYS_CHAN_MDROP_COUNT n
      else s) s

/-- The partner of virtual channels 1 to 3 arrives at its first frame start (R179). One that finds the table full is not
looked for again until its port has left (R176). -/
def State.vcArrives (s : State) (p vc : Nat) : State :=
  let port := 4 * p + vc
  if vc = 0 ∨ (s.atPort port).isSome = true ∨ (s.csiPort p).untracked.contains vc = true then s
  else
    let s := s.found (s.csiPartner p vc)
    if (s.atPort port).isSome then s else s.modCsi p (fun c => { c with untracked := c.untracked ++ [vc] })

/-- A frame start: the partner of its virtual channel may arrive with it; a frame that still ran has lost its end (R179,
R184). -/
def State.frameStart (s : State) (p vc : Nat) : State :=
  if s.vcOn p vc then
    let open_ := thas (s.csiPort p).frames vc
    let s := if open_ then (s.bump CSI_FRAME_ERR_COUNT p).countDrops (4 * p + vc) else s
    let s := s.vcArrives p vc
    let f : CsiFrame := { started := s.tick.number.toNat, dataType := 0, width := 0, lines := 0, height := 0, data := [],
                          broken := false, noCell := false }
    s.modCsi p (fun c => { c with hsActive := true, frames := tset c.frames vc f })
  else s

/-- VC_FRAME_START (R179). -/
def execVcFrameStart (port vc : Nat) (s : State) : Res :=
  onUnit port 4 s (if 1 ≤ vc ∧ vc ≤ 3 then s.frameStart port vc else s)

/-- Payload bytes of a line: 16 bits a pixel for YUV422, 24 for RGB888. -/
def lineBytes (dt pixels : Nat) : Nat := if dt = 0x24 then 3 * pixels else 2 * pixels

/-- A line of a frame in progress. Its first line gives the frame size (R184). -/
def CsiFrame.line (f : CsiFrame) (dt pixels lines : Nat) (data : List Byte) : CsiFrame :=
  let data := padTo (lineBytes dt pixels) data
  if f.lines = 0 then { f with dataType := dt, width := pixels, height := lines, lines := 1, data := data }
  else { f with lines := f.lines + 1, data := f.data ++ data
                broken := f.broken || decide (f.width ≠ pixels) || decide (f.dataType ≠ dt) }

/-- The samples of a frame. -/
def CsiFrame.image (f : CsiFrame) : Image :=
  if f.dataType = 0x24 then rgbImage f.width f.lines f.data else uyvyImage f.width f.lines f.data

/-- A long packet (R183). -/
def State.longPacket (s : State) (p vc dt pixels lines : Nat) (data : List Byte) : State :=
  if s.csiOn p = false then s
  else
    let s := s.modCsi p (fun c => { c with hsActive := true, lastDt := dt % 256 })
    if s.vcOn p vc = false ∨ (dt ≠ 0x1E ∧ dt ≠ 0x24) then s.bump CSI_DT_REJECT_COUNT p
    else
      s.modCsi p (fun c => { c with frames := c.frames.map (fun x =>
        if x.1 = vc then (x.1, x.2.line dt pixels lines data) else x) })

/-- A packet of a virtual channel (R183). -/
def State.csiPacket (s : State) (p vc : Nat) (k : CsiPacket) : State :=
  match k with
  | .frameStart => s.frameStart p vc
  | .shortOther => s
  | .long dt pixels lines data => s.longPacket p vc dt pixels lines data

/-- CSI_PACKET_RECEIVE (R183). -/
def execCsiPacketReceive (port vc : Nat) (packet : CsiPacket) (s : State) : Res :=
  onUnit port 4 s (if vc < 4 then s.csiPacket port vc packet else s)

/-- The counts that a damaged frame leaves (R184, Table 4.13). -/
def State.csiErrors (s : State) (p : Nat) (how : CsiEnd) (broken : Bool) : State :=
  let s := if how.headerError then s.bump CSI_ECC_ERR_COUNT p else s
  let s := if how.crcError then s.bump CSI_CRC_ERR_COUNT p else s
  let s := if broken then s.bump CSI_FRAME_ERR_COUNT p else s
  if how.overflow then s.raiseI 0x0403 { source := p } else s

/-- A frame end (R184): a whole frame goes to the channels, a damaged one is dropped whole and counted. -/
def State.frameEnd (s : State) (p vc : Nat) (how : CsiEnd) : State :=
  if s.vcOn p vc = false then s
  else
    let port := 4 * p + vc
    let f := ((s.csiPort p).frames.find? (fun x => x.1 == vc)).map (·.2)
    let s := s.modCsi p (fun c => { c with frames := tdel c.frames vc })
    let s := State.bumpBy CSI_ECC_CORR_COUNT p how.correctedHeaders s
    match f with
    | none => (s.csiErrors p how true).countDrops port
    | some f =>
      let broken := f.broken || !how.paired || f.lines == 0 || f.lines != f.height
      if broken || how.headerError || how.crcError || how.overflow then (s.csiErrors p how broken).countDrops port
      else if f.noCell then s
      else
        let s := s.bump CSI_FRAME_COUNT p
        match s.atPort port with
        | none => s
        | some q =>
          (s.frameFrom q f.dataType { width := f.width, height := f.lines, codec := 0, start := f.started, au := none,
                                      bytes := f.data.length, cells := [], image := f.image }).raiseMismatch

/-- CSI_FRAME_COMPLETE (R184). -/
def execCsiFrameComplete (port vc : Nat) (how : CsiEnd) (s : State) : Res :=
  onUnit port 4 s (if vc < 4 then s.frameEnd port vc how else s)

/-! USB (R180, R185, R186, R564). -/

/-- A USB port. -/
def State.usbPort (s : State) (n : Nat) : UsbPort := lget .reset s.usb n
/-- Change a USB port. -/
def State.modUsb (s : State) (n : Nat) (f : UsbPort → UsbPort) : State := { s with usb := lmod s.usb n f }
/-- VBUS is on: the port is enabled and not in overcurrent. -/
def State.vbusOn (s : State) (n : Nat) : Bool := s.portsOn && s.flag USB_CTL n && !(s.usbPort n).oc

/-- A device attaches (R185). -/
def State.usbAttach (s : State) (n : Nat) : State :=
  if s.vbusOn n = false ∨ (s.usbPort n).conn = true then s
  else (s.modUsb n (fun u => { u with conn := true, enumerating := true })).hwFlag 7

/-- USB_CONNECT (R185). -/
def execUsbConnect (port : Nat) (s : State) : Res := onUnit port 3 s (s.usbAttach port)

/-- Identity bytes of a USB device: idVendor and idProduct as its descriptor holds them, and the serial number
(R173). -/
def usbIdent (d : UsbDevice) : Nat := crc32 (leBytes 2 d.vid ++ leBytes 2 d.pid ++ d.serial)

/-- Enumeration ends (Table 4.9, R185). -/
def State.usbEnumerated (s : State) (n : Nat) (d : UsbDevice) : State :=
  if s.vbusOn n = false ∨ (s.usbPort n).enumerating = false then s
  else
    let s := (s.modUsb n (fun u => { u with enumerating := false, superSpeed := d.superSpeed })).hwFlag 7
    if d.ok then
      let s := (s.modUsb n (fun u => { u with modes := if d.uvc then d.modes else [] })).bump USB_ENUM_COUNT
      s.found { Partner.free with type := if d.uvc then 2 else 3, port := 0x20 + n, flags := 1
                                  format := if d.uvc then 0 else d.cls % 256, ident := usbIdent d }
    else (s.bump USB_ENUM_FAIL_COUNT).raiseI 0x0502 { source := n }

/-- USB_ENUMERATION_END (R185). -/
def execUsbEnumerationEnd (port : Nat) (device : UsbDevice) (s : State) : Res :=
  onUnit port 3 s (s.usbEnumerated port device)

/-- The device of a port is gone (R182). -/
def State.usbGone (s : State) (n : Nat) : State :=
  (s.modUsb n (fun u =>
    { u with conn := false, superSpeed := false, enumerating := false, modes := [], stream := none })).departAll [0x20 + n]

/-- A device disconnects (R182). -/
def State.usbDetach (s : State) (n : Nat) : State :=
  if s.portsOn = false ∨ (s.usbPort n).conn = false then s else (s.usbGone n).hwFlag 7

/-- USB_DISCONNECT (R182). -/
def execUsbDisconnect (port : Nat) (s : State) : Res := onUnit port 3 s (s.usbDetach port)

/-- Overcurrent: VBUS is off until the retry (R186). -/
def State.usbOver (s : State) (n : Nat) : State :=
  if s.vbusOn n = false then s
  else
    let s := (s.usbGone n).modUsb n (fun u => { u with oc := true, since := s.clock.ps })
    ((s.bump USB_OC_COUNT).raiseCond 0x0501 { source := n }).hwFlag 7

/-- USB_OVERCURRENT (R186). -/
def execUsbOvercurrent (port : Nat) (s : State) : Res := onUnit port 3 s (s.usbOver port)

/-- VBUS below its threshold counts as an overcurrent (R564). -/
def State.usbLow (s : State) (n : Nat) : State := s.usbOver n

/-- USB_VBUS_LOW (R564). -/
def execUsbVbusLow (port : Nat) (s : State) : Res := onUnit port 3 s (s.usbLow port)

/-- VBUS returns OC_RETRY_S seconds after an overcurrent (R186). -/
def State.usbRetry (s : State) (n : Nat) : State :=
  if s.portsOn = false ∨ (s.usbPort n).oc = false then s
  else
    let s := s.advanceTo ((s.usbPort n).since + atLeast1 (s.fld USB_CTL 15 8) * 10 ^ 12)
    (s.modUsb n (fun u => { u with oc := false })).gone 0x0501 n

/-- USB_OC_RETRY (R186). -/
def execUsbOcRetry (port : Nat) (s : State) : Res := onUnit port 3 s (s.usbRetry port)

/-- Codec of a UVC format: 0 raw (Table 4.8). -/
def uvcCodec (format : Nat) : Nat :=
  match format with
  | 3 => 1
  | 4 => 2
  | _ => 0

/-- The rank of a format for a channel, lower first; none where the channel takes it not (R180). -/
def uvcRank (c : Channel) (format : Nat) : Option Nat :=
  if c.kind = 0 ∨ c.kind = 3 then (if format = 2 then some 0 else if format = 1 then some 1 else none)
  else if c.kind = 1 then (if uvcCodec format ≠ 0 ∧ uvcCodec format = c.codec then some 0 else none)
  else none

/-- Distance of two numbers. -/
def distance (a b : Nat) : Nat := (a - b) + (b - a)

/-- Mode `a` is picked before mode `b` for a channel: format, then size, then interval (R180). -/
def uvcBefore (c : Channel) (period : Nat) (a b : UvcMode) : Bool :=
  let ra := (uvcRank c a.format).getD 9
  let rb := (uvcRank c b.format).getD 9
  let sa := a.width * a.height
  let sb := b.width * b.height
  decide (ra < rb) || (decide (ra = rb) && (decide (sb < sa) || (decide (sa = sb) &&
    decide (distance a.intervalNs period < distance b.intervalNs period))))

/-- The mode that the firmware picks for a channel (R180). -/
def State.uvcPick (s : State) (c : Channel) (modes : List UvcMode) : Option UvcMode :=
  (modes.filter (fun m => (uvcRank c m.format).isSome && decide (m.width ≤ c.width) && decide (m.height ≤ c.height))).foldl
    (fun (best : Option UvcMode) m =>
      match best with
      | none => some m
      | some b => if uvcBefore c s.period m b then some m else some b) none

/-- The stream of a UVC camera: it runs only while the binding of a channel names it, in the mode picked for the
lowest-numbered such channel, and keeps its mode while it runs (R180; notes/assumptions/177.md). -/
def State.uvcStream (s : State) (n : Nat) : Option UvcMode :=
  match s.atPort (0x20 + n) with
  | none => none
  | some p =>
    match s.chans.find? (fun q => q.2.state != 0 && bindingNames q.2 p (s.partner p)) with
    | none => none
    | some q =>
      match (s.usbPort n).stream with
      | some m => some m
      | none => s.uvcPick q.2 (s.usbPort n).modes

/-- The camera sends frames of a mode. -/
def ofMode (f : UvcFrame) (m : UvcMode) : Bool := f.format == m.format && f.width == m.width && f.height == m.height

/-- The samples of a raw frame. -/
def uvcImage (f : UvcFrame) : Image :=
  match f.format with
  | 1 => yuy2Image f.width f.height f.data
  | 2 => nv12Image f.width f.height f.width f.data
  | _ => .empty

/-- A UVC frame is complete (R185). A camera streams in the mode picked, so it sends frames of no other. -/
def State.uvcFrame (s : State) (n : Nat) (f : UvcFrame) : State :=
  let stream := s.uvcStream n
  let s := s.modUsb n (fun u => { u with stream := stream })
  if s.vbusOn n = false ∨ (s.usbPort n).conn = false ∨ (stream.map (ofMode f)).getD false = false then s
  else
    let s := s.hwFlag 7
    if f.errorBit then s.bump USB_FRAME_DROP_COUNT
    else
      match s.atPort (0x20 + n) with
      | none => s
      | some p =>
        (s.frameFrom p f.format { width := f.width, height := f.height, codec := uvcCodec f.format, start := f.startTick,
                                  au := if uvcCodec f.format = 0 then none else f.au, bytes := f.data.length, cells := [],
                                  image := uvcImage f }).raiseMismatch

/-- UVC_FRAME_COMPLETE (R185). -/
def execUvcFrameComplete (port : Nat) (frame : UvcFrame) (s : State) : Res :=
  onUnit port 3 s (s.uvcFrame port frame)

end Sys2Proof.Machine
end

