-- ==== Sys2Proof/Machine/Firmware.lean ====
section
/-! DEFINITION. How the firmware takes up the jobs that it executes itself: when it runs, in which order, and the
checks that a descriptor could not meet before its channel existed (R118, R133, R147, R148, R219, R250). -/

namespace Sys2Proof.Machine

/-- The firmware executes jobs: in RUN, outside SAFE, a Class M restart, boot and the stopped part of a mode change
(R401, R405, R427). Its cores are clock-gated in IDLE. -/
def State.fwRuns (s : State) : Bool :=
  !s.guard.safe && !s.guard.restarting && !s.asleep && s.sys.bootStage == 7 && decide (s.power.mode = .run) &&
    (match s.power.trans with
     | .none => true
     | .requested _ _ => true
     | .entering _ => true
     | .quiesced _ => false
     | .exiting _ => false)

/-- The firmware executes the job at fetch, in fetch order: a channel job (Table 4.3), or an ENCODE job that is no FRAME
(R147, R249). -/
def Desc.isChanJob (d : Desc) : Bool :=
  decide (1 ≤ d.opcode) && decide (d.opcode ≤ 7) || d.opcode == 0x11 && leAt d.bytes 0x10 1 != 0

/-- The channel that a job names is CLOSING, so that the job ends with it at the edge (R154). -/
def State.onClosing (s : State) (d : Desc) : Bool :=
  needsChannel d.opcode && decide ((s.chan d.channel).closing ≠ [])

/-- A channel job was fetched before job `id` and is not executed yet (R147, R249). -/
def State.chanJobBefore (s : State) (id : Nat) : Bool :=
  s.hif.jobs.any (fun j => decide (j.id < id) && j.desc.isChanJob && decide (j.phase = .waiting) &&
    !s.onClosing j.desc)

/-- The job that the firmware can take up now as one of opcode `op`. -/
def State.readyJob (s : State) (id op : Nat) : Option Job :=
  match s.hif.jobs.find? (fun j => j.id == id) with
  | none => none
  | some j =>
    if s.fwRuns && j.desc.opcode == op && decide (j.phase = .waiting) && !s.onClosing j.desc &&
        !(j.desc.isChanJob && s.chanJobBefore id) then some j
    else none

/-- The firmware takes up a job. A job whose channel is still to be created waits; a job fetched before its channel
existed meets the checks that need the channel now (R118, R148, R219). Cells that CELL_ALLOCATE took for the job one by
one go back, since the job takes its whole set itself. -/
def State.takeJob (s : State) (id op : Nat) (f : Job → State → State) : State :=
  match s.readyJob id op with
  | none => s
  | some j =>
    if needsChannel op && !s.chanExists j.desc.channel then
      (if s.hif.creating.contains j.desc.channel then s else s.refuse id 0x41)
    else if !s.classOk j.desc then s.refuse id 0x43
    else if op == 0x10 && !s.kindOk j.desc then s.refuse id 0x46
    else
      let c := s.classFor j.desc
      let s := (s.returnCells j.cells).modJob id (fun j => { j with cls := c, cells := [] })
      f { j with cls := c, cells := [] } s

/-- A job's data could not be read from host memory. The read is counted; the spec gives no status for such a job: it
ends as one discarded by a fault, whose code is a free value unless the completion was poisoned, which raises HIF 0x0206
(R145; notes/assumptions/35.md). -/
def State.readFailed (s : State) (id : Nat) (poisoned : Bool) : State :=
  let s := s.bump HIF_DMA_ERR_COUNT
  if poisoned then (s.raiseI 0x0206).endJob id { status := 0x40, fault := 0x0206 }
  else s.freshen.endJob id { status := 0x40, fault := lget 0 faultCodes (Config.free s.fresh % faultCodes.length) }

/-- What a job's read of host memory brings back is used, or the job ends. -/
def State.withData (s : State) (id : Nat) (a : Served (List Byte)) (f : List Byte → State → State) : State :=
  match a with
  | .ok b => f b s
  | .failed => s.readFailed id false
  | .poisoned => s.readFailed id true

end Sys2Proof.Machine
end

