-- ==== Sys2Proof/Machine/RegRead.lean ====
section
/-! DEFINITION. Reading the registers: which offsets a path reaches in which state (R141, R454, R457, R465, Table 3.2),
and what a read returns. A read-only field that mirrors a piece of the state is computed here; every other
field is read from `regs`. -/

namespace Sys2Proof.Machine

/-! What is reached. -/

/-- Only the KPR block and its log window are reached: in the low-power modes, while RESET_N is low or the boot ROM has
not started, and without the core-domain rails (R141, R454, R457, R517, R526). -/
def State.keeperOnly (s : State) : Bool :=
  (match s.power.mode with
   | .off => true
   | .deepStandby => true
   | .retain => true
   | .idle => false
   | .run => false
   | .safe => false) || s.sys.resetLow || !s.pwr.pwrGood || s.sys.bootStage == 0 ||
    s.pwr.phases.all (fun x => decide (3 ≤ x.state))

/-- An offset of the KPR block or the log window. -/
def isKprOffset (off : Nat) : Bool := decide (0xC0000 ≤ off) && decide (off < 0xE0000)
/-- An offset of the SYS or LCS block. -/
def isSysOffset (off : Nat) : Bool := decide (off < 0x10000) || (decide (0xF8000 ≤ off) && decide (off < 0x100000))
/-- An offset of the SRAM window (Table 3.2). -/
def isSramOffset (off : Nat) : Bool := decide (0x400000 ≤ off) && decide (off < 0xA00000)
/-- An offset of the MSI-X table. -/
def isMsixOffset (off : Nat) : Bool := decide (0x18000 ≤ off) && decide (off < 0x18420)
/-- An offset of the pending-bit array. -/
def isPbaOffset (off : Nat) : Bool := decide (0x19000 ≤ off) && decide (off < 0x19010)

/-- The PCIe path carries a memory request now. -/
def State.pcieUp (s : State) : Bool :=
  decide (0 < s.bus.linkGen) && !s.bus.endpointOff && !s.bus.d3hot && !s.asleep

/-- An offset is reached over a path (R141, R454, R457, R465). -/
def State.reaches (s : State) (p : Path) (off : Nat) : Bool :=
  s.pwr.keeperOn && (p == .spi || s.pcieUp) && decide (off < 0x1000000) &&
  (if s.keeperOnly then isKprOffset off
   else if s.sys.rescue then isKprOffset off || isSysOffset off || isSramOffset off
   else if s.sys.bootStage < 7 || s.sys.bootStopped then isKprOffset off || isSysOffset off
   else true)

/-! Read-only fields that mirror the state. Each list pairs a register with its value for element (`i`, `j`). -/

/-- Values placed at their bit positions. -/
def pack : List (Nat × Nat) → Nat
  | [] => 0
  | (lo, v) :: t => v * 2 ^ lo + pack t

/-- Mean interval of the last 16 frames of a partner, in ns (Table 4.12). -/
def Partner.frameNs (p : Partner) : Nat :=
  match p.frames, p.frames.getLast? with
  | [], _ => 0
  | _ :: _, none => 0
  | a :: t, some b => if t = [] then 0 else (a - b) / t.length

/-- Words of SYS_PARTNER_n (Table 4.12). -/
def State.partnerWord (s : State) (n w : Nat) : Nat :=
  let p := s.partner n
  match w with
  | 0 => pack [(0, p.type % 256), (8, p.port % 256), (16, p.gen % 256), (24, p.flags % 256)]
  | 1 => pack [(0, p.width % 65536), (16, p.height % 65536)]
  | 2 => p.format % 65536
  | 3 => if p.type = 0 then 0 else maskOf ((List.range 32).filter (fun c => (s.chan c).bound == some n))
  | 4 => p.ident % 2 ^ 32
  | 5 => min (2 ^ 32 - 1) p.frameNs
  | 6 => p.arriveTick % 2 ^ 32
  | _ => 0

/-- SYS registers (Tables 15.11, 4.11, 4.12). -/
def State.shownSys (s : State) (i j : Nat) : List (RegDef × Nat) :=
  [(SYS_ID_HI, pack [(0, Config.issue.toNat), (8, Config.dieRev.toNat), (16, s.sys.dramGib % 16)]),
   (SYS_STATUS,
    pack [(0, b2n s.isActive), (1, s.sys.bootStage % 8), (4, b2n s.sys.rescue), (5, s.sys.bootSlot % 2),
          (6, b2n ((s.slot s.sys.bootSlot).state == 2)), (7, b2n s.sys.slotFail), (8, s.sys.resetCause % 16)]),
   (SYS_FW_VERSION, s.sys.fwVersion), (SYS_FW_EPOCH, s.sys.fwEpoch % 128),
   (SYS_SLOT, pack [(0, (s.slot i).state % 4), (2, b2n (s.sys.preferred == i)), (8, (s.slot i).epoch % 128)]),
   (SYS_SLOT_VER, (s.slot i).version),
   (SYS_RESCUE_STATUS,
    pack [(0, b2n (decide (s.sys.restart.map (·.1) = some 7))), (8, s.sys.rescueResult % 256)]),
   (SYS_CHAN,
    let c := s.chan i
    pack [(0, c.shown), (4, c.cls % 4), (6, c.kind % 4), (8, c.bindMode % 4), (16, c.bindRef % 256),
          (24, (c.bound.getD 0xFF) % 256)]),
   (SYS_PARTNER, s.partnerWord i j)]

/-- HIF registers (Tables 3.16, 3.17). -/
def State.shownHif (s : State) : List (RegDef × Nat) :=
  [(HIF_STATUS,
    pack [(0, s.bus.linkGen % 4), (2, s.bus.linkWidth % 8), (5, b2n s.bus.bme), (6, b2n s.bus.linkLost),
          (16, s.fld HIF_STATUS 23 16)]),
   (HIF_JT_OCC, pack [(0, s.jtOcc % 1024), (16, s.hif.peak % 1024)])]

/-- TCK registers (Table 2.8). -/
def State.shownTck (s : State) (i : Nat) : List (RegDef × Nat) :=
  [(TCK_STATUS,
    pack [(0, s.tick.srcState % 4), (4, s.tick.curOp % 8), (8, s.tick.ceiling % 8), (16, s.fld TCK_STATUS 16 16)]),
   (TCK_NOW_LO, s.tick32), (TCK_NOW_HI, s.tick.number.toNat / 2 ^ 32), (TCK_MEAS_PERIOD, s.measNs),
   (TCK_BUDGET, lget 0 s.tick.budget i), (TCK_SPENT, lget 0 s.tick.spent i),
   (TCK_CRIT, if i = 3 then s.reserved else s.critSum i), (TCK_FLOOR, s.floorOf i)]

/-- CSI and USB registers (Tables 4.13, 4.14). -/
def State.shownPorts (s : State) (i : Nat) : List (RegDef × Nat) :=
  let c := lget .reset s.csi i
  let u := lget .reset s.usb 2
  [(CSI_STATUS,
    pack [(0, b2n c.det), (1, b2n c.hsActive), (2, b2n (c.hsActive && decide (150 < s.fld CSI_PORT_CFG 15 8 i))), (8, c.lastDt % 256),
          (16, ((s.atPort (4 * i)).getD 0xFF) % 256)]),
   (USB_STATUS,
    pack [(0, maskOf ((List.range 3).filter (fun n => (lget UsbPort.reset s.usb n).conn))),
          (8, maskOf ((List.range 3).filter (fun n => (lget UsbPort.reset s.usb n).oc))),
          (16, if u.conn then (if u.superSpeed then 2 else 1) else 0)])]

/-- ETH and TRF registers (Tables 4.14, 5.4, 5.6). -/
def State.shownNet (s : State) (i : Nat) : List (RegDef × Nat) :=
  [(ETH_STATUS, b2n (s.ethPort i).link), (TRF_Q_TICKCR, s.tickCredit i), (TRF_PTP_STATE, (s.ethPort i).ptpState % 4),
   (TRF_PTP_OFFSET, sat32 (s.ethPort i).offset)]

/-- Units of a kind that are fenced, one bit each. -/
def State.fencedMask (s : State) (k : UnitKind) : Nat :=
  maskOf ((List.range (unitCount k)).filter (s.isFenced k))

/-- Slices of a kind that work on a row now. -/
def State.busyMask (s : State) (k : UnitKind) : Nat :=
  if s.enginesRun then
    maskOf ((s.healthyUnits k).filter (fun u => s.onEngines.any (fun j => decide (j.sliceKind = k) && !j.cut && s.sliceHolds j u)))
  else 0

/-- DEC and ENC registers (Tables 6.12, 7.10). -/
def State.shownCodec (s : State) (i : Nat) : List (RegDef × Nat) :=
  let c := s.chan i
  [(DEC_UNIT_STATUS, pack [(0, s.fencedMask .syn), (4, s.fencedMask .pix), (8, s.busyMask .pix)]),
   (DEC_CHAN,
    pack [(0, c.decShown), (4, c.depth % 16), (8, c.unsup % 256), (16, c.profile % 256), (24, c.level % 256)]),
   (DEC_CHAN_SIZE, pack [(0, c.picWidth % 65536), (16, c.picHeight % 65536)]),
   (DEC_CHAN_DPB, pack [(0, c.dpbUsed), (8, b2n c.tainted), (9, c.decMode % 2)]),
   (ENC_UNIT_STATUS, pack [(0, s.fencedMask .enc), (4, s.busyMask .enc)]),
   (ENC_CHAN,
    match c.enc with
    | none => pack [(8, c.encQp % 256)]
    | some e =>
      pack [(0, if e.stopping.isSome then 2 else 1), (2, e.rcMode % 4), (8, e.lastQp % 256), (16, min 0xFFFF e.gopPos)]),
   (ENC_CHAN_BYTES, (c.enc.map (·.lastBytes)).getD c.encBytes % 2 ^ 32)]

/-- CMP registers (Table 8.5). A layer that the front buffer does not show has age 0. -/
def State.shownCmp (s : State) (i j : Nat) : List (RegDef × Nat) :=
  let o := tget Overlay.empty s.cmp.overlays i
  let age := ((s.scanned i).find? (fun x => x.layer == j)).bind (·.captured)
  [(CMP_STATUS,
    pack [(0, (s.cmp.overlays.filter (fun p => p.2.width != 0)).length % 128), (8, b2n (!s.cmp.holding.isEmpty))]),
   (CMP_LAYER, leAt (s.layer i (j / 8)).raw (4 * (j % 8)) 4),
   (CMP_AGE,
    pack [(0, min 0xFFFF ((age.map (ageOf s.tick.number.toNat)).getD 0)),
          (16, b2n (s.cmp.stale.contains (layerKey i j)))]),
   (CMP_OVL,
    if j = 0 then pack [(0, o.width % 65536), (16, o.height % 65536)]
    else pack [(0, o.format % 4), (8, b2n (o.width != 0))])]

/-- DSP registers (Table 8.6). -/
def State.shownDsp (s : State) (i : Nat) : List (RegDef × Nat) :=
  [(DSP_STATUS,
    pack [(0, (s.disp i).step.code), (8, s.fld DSP_STATUS 11 8 i), (12, (s.disp i).trLanes % 4),
          (14, (s.disp i).trRate % 4), (16, b2n (s.panelHere i))]),
   (DSP_PCLK, s.fPix i % 2 ^ 32)]

/-- MEM, DRC and BPM registers (Tables 9.3, 9.4, 10.7). -/
def State.shownMem (s : State) (i : Nat) : List (RegDef × Nat) :=
  [(MEM_STATUS, s.mem.bankOn), (DRC_CAP, s.usableMib % 65536),
   (DRC_STATUS, pack [(0, s.mem.trained % 4), (2, b2n s.mem.selfRefresh), (8, s.mem.mr4 % 8)]),
   (BPM_STATUS, pack [(0, b2n s.bpm.built), (1, b2n s.bpm.building.isSome), (2, s.bpm.buildErr % 4)]),
   (BPM_AREA_KIB, areaBytes s.combCounts / 1024), (BPM_LOST_CELLS, s.bpm.lost),
   (BPM_COMB_FREE, pack [(0, s.combFreeMap i), (31, b2n (s.bpm.lowState.contains i))]),
   (BPM_COMB_MIN, lget 0 s.bpm.prevLow i)]

/-- SCH and MCS registers (Tables 11.5, 12.5). -/
def State.shownSch (s : State) (i : Nat) : List (RegDef × Nat) :=
  let t := s.thread i
  let c := s.core i
  let e := lget SynEngine.reset s.engines i
  [(SCH_STATUS,
    pack [(0, s.fencedMask .core), (4, maskOf ((List.range 4).filter (fun c => (s.core c).thread.isSome))),
          (8, (s.sch.threads.filter (fun p => p.2.state == 2)).length % 512), (24, b2n s.sch.traceErr)]),
   (SCH_TRACE_WR, s.sch.traceSeq % 2 ^ 32),
   (SCH_CORE, pack [(0, c.thread.getD 0 % 256), (8, b2n c.thread.isNone), (16, c.fenceCause % 65536)]),
   (SCH_THREAD,
    pack [(0, t.state % 4), (2, t.prio % 32), (7, b2n t.flagsMode), (8, t.affinity % 16), (12, t.lastCore % 4),
          (24, t.tag % 256)]),
   (SCH_THREAD_1, if t.flagsMode then t.flags.toNat else pack [(0, t.counter % 65536), (16, t.pending % 256)]),
   (SCH_FLOW,
    pack [(0, (s.oflow i).release),
          (16, ((s.hif.jobs ++ s.hif.live).filter (fun j => j.flow.any (fun f => f.1 == i))).length % 2048)]),
   (MCS_STATUS,
    pack [(0, s.sys.loadResult % 16), (4, b2n (s.sys.loadResult == 0)), (8, s.fencedMask .syn),
          (12, maskOf ((List.range 3).filter (fun u => (lget SynEngine.reset s.engines u).job.isSome))),
          (16, s.sys.overrides.length % 512)]),
   (MCS_PATCH_VERSION, s.sys.patchVersion), (MCS_EPOCH, pack [(0, s.sys.imageEpoch % 128), (8, s.sys.patchEpochFuse % 128)]),
   (MCS_ROM_ID, Config.romId.toNat),
   (MCS_UPC, pack [(0, e.upc % 8192), (16, b2n e.waiting), (17, b2n e.job.isNone)])]

/-- GRD registers (Table 13.10). -/
def State.shownGrd (s : State) (i : Nat) : List (RegDef × Nat) :=
  [(GRD_STATUS,
    pack [(0, b2n s.guard.reaction.isSome), (1, (s.guard.reaction.map (fun r => r.acting.num)).getD 0),
          (4, b2n s.guard.safe), (16, s.guard.firstCode % 65536)]),
   (GRD_CLASS_SUM, maskOf ((classes.filter s.classSet).map FClass.num)),
   (GRD_BLOCK_SUM, maskOf ((List.range 23).filter (fun b => s.fstat b != 0))),
   (GRD_UNITS,
    pack [(0, s.fencedMask .syn), (4, s.fencedMask .pix), (8, s.fencedMask .enc), (12, s.fencedMask .core)]),
   (GRD_FSTAT, pack [(0, s.fstat (i + 1) % 65536), (16, s.liveBits (i + 1))])]

/-- A word of a latched wake event (Table 14.11). -/
def State.wakeWord (s : State) (n w : Nat) : Nat :=
  match s.power.latched[n]? with
  | none => 0
  | some e =>
    match w with
    | 0 => e.ns % 2 ^ 32
    | 1 => e.ns / 2 ^ 32 % 2 ^ 32
    | 2 => e.tick % 2 ^ 32
    | _ => e.source % 16

/-- KPR registers (Tables 13.12, 14.11). -/
def State.shownKpr (s : State) (i j : Nat) : List (RegDef × Nat) :=
  [(KPR_WAKE_CAUSE, pack [(0, s.power.seen % 1024), (16, s.power.latched.length % 32)]), (KPR_LOG_WR, s.log.wr),
   (KPR_PWR_SEQ, s.pwr.seqStep % 16), (KPR_WAKE_EVT, s.wakeWord i j)]

/-- PWR registers (Tables 14.9, 17.8). -/
def State.shownPwr (s : State) (i : Nat) : List (RegDef × Nat) :=
  [(PWR_MODE_STATUS,
    pack [(0, s.power.mode.code), (3, b2n s.power.trans.busy), (4, s.power.result % 16), (8, s.power.from_ % 8),
          (12, s.power.cause % 16)]),
   (PWR_OP_STATUS,
    pack [(0, s.pwr.op % 8), (4, s.ceilNow), (8, s.ceilCause), (12, b2n s.pwr.settled), (16, s.pwr.target % 8)]),
   (PWR_VIN, pack [(0, s.pwr.vinMv % 65536), (16, s.pwr.iinMa % 65536)]),
   (PWR_PHASE, pack [(0, (s.phase i).state % 8), (3, b2n (s.phase i).distrust), (16, (s.phase i).ma % 65536)]),
   (PWR_CORE, pack [(0, s.pwr.coreMv % 4096), (16, ((s.pwr.phases.map (·.ma)).sum) % 65536)]),
   (PWR_CORE_STATUS,
    pack [(0, s.phasesLeft % 8), (4, s.pwr.spare % 8), (8, s.pwr.capA % 32), (16, b2n s.pwr.throttle)]),
   (PWR_RAIL_STATUS,
    pack [(0, s.pwr.railOk % 128), (8, b2n (s.auxOn 0)), (9, b2n (s.auxOn 1)),
          (10, maskOf (s.pwr.auxOvl.filter (fun n => decide (n < 2))))]),
   (PWR_THERM, pack [(0, twos 10 s.pwr.tj), (10, twos 10 s.pwr.treg), (24, s.pwr.thermNow % 8)]),
   (PWR_ENERGY_STATUS,
    b2n s.distrusted)]

/-- CLK registers (Table 16.5). -/
def State.shownClk (s : State) (i j : Nat) : List (RegDef × Nat) :=
  let y := s.synth i
  [(CLK_STATUS,
    pack [(0, s.clk.active % 2), (1, maskOf ((List.range 6).filter s.locked)), (7, s.clk.dramDll % 4),
          (9, s.clk.lvdsDll % 4), (11, b2n s.clk.backup), (12, s.fld CLK_STATUS 12 12)]),
   (CLK_SYN_DIV, pack [(0, y.n % 512), (16, y.p % 512)]), (CLK_SYN_FRAC, y.k % 2 ^ 24),
   (CLK_SYN_STATE, pack [(0, y.state % 8), (8, y.band % 64), (16, y.us % 65536)]),
   (CLK_HOP,
    match y.hops[j]? with
    | none => 0
    | some h => pack [(0, h.1 % 512), (9, h.2.1 % 64), (16, h.2.2 % 512), (31, 1)]),
   (CLK_STEER_OFS, twos 32 (s.disp i).y), (CLK_STEER_ERR, twos 32 (s.disp i).lastE)]

/-- FIO registers (Table 18.6). The pad of an output that drives, or is driven from outside, stands high. The current of
an output that is on is a free value (notes/assumptions/131.md). -/
def State.shownFio (s : State) (i j : Nat) : List (RegDef × Nat) :=
  let x := s.fout i
  [(FIO_VFIELD, pack [(0, s.fio.vfieldMv % 65536), (16, b2n s.fio.present)]),
   (FIO_OUT_STATUS,
    pack [(0, x.set.mode - 1), (2, b2n (s.foutCmd i)), (3, b2n (s.foutOn i || x.ext)), (4, b2n x.ol), (5, b2n x.short),
          (6, b2n x.ext), (7, b2n (s.foutLocked i)), (16, if s.foutOn i then Config.free (s.fresh + i) % 65536 else 0)]),
   (FIO_PULSE, if j = 0 then x.set.offset % 2 ^ 32 else pack [(0, x.set.width % 65536), (16, x.set.div % 256)]),
   (FIO_IN_STATE, maskOf ((List.range 4).filter (fun n => (lget Fin'.reset s.fio.ins n).level))),
   (FIO_CONFLICT, pack [(0, s.fio.pairs % 64), (8, s.fio.locked % 64)]),
   (FIO_IN_TS_LO, (lget Fin'.reset s.fio.ins i).stamp % 2 ^ 32),
   (FIO_IN_TS_HI, (lget Fin'.reset s.fio.ins i).stamp / 2 ^ 32 % 2 ^ 32)]

/-- LCS registers (Table 15.12). -/
def State.shownLcs (s : State) : List (RegDef × Nat) :=
  [(LCS_STATE, pack [(0, s.sys.lifeState % 4), (4, b2n (s.sys.lifeState != 2)), (5, b2n s.sys.patchKey)]),
   (LCS_STATUS,
    pack [(0, b2n (decide (s.sys.restart.map (·.1) = some 6))), (4, s.sys.lcsResult % 16), (8, s.sys.lcsLast % 16)]),
   (LCS_FW_EPOCH, s.sys.fwEpochFuse % 128), (LCS_WIPE_US, s.sys.wipeUs % 2 ^ 32)]

/-- The mirrors of the block at an offset. -/
def State.mirrors (s : State) (off i j : Nat) : List (RegDef × Nat) :=
  match off >>> 15 with
  | 0 => s.shownSys i j
  | 2 => s.shownHif
  | 4 => s.shownTck i
  | 6 => s.shownPorts i
  | 7 => s.shownPorts i
  | 8 => s.shownNet i
  | 9 => s.shownNet i
  | 10 => s.shownCodec i
  | 11 => s.shownCodec i
  | 12 => s.shownCmp i j
  | 13 => s.shownDsp i
  | 14 => s.shownMem i
  | 15 => s.shownMem i
  | 16 => s.shownMem i
  | 18 => s.shownSch i
  | 20 => s.shownSch i
  | 22 => s.shownGrd i
  | 24 => s.shownKpr i j
  | 28 => s.shownPwr i
  | 29 => s.shownClk i j
  | 30 => s.shownFio i j
  | 31 => s.shownLcs
  | _ => []

/-- The registers whose high word is read as R20 gives it, with that word. -/
def State.highWord (s : State) (d : RegDef) (i w : Nat) : Option Nat :=
  if d.kind = .counter64 ∧ w = 0 then some ((tget 0 s.regs (d.at i + 4)).toNat)
  else if d.off = TCK_NOW_LO.off then some (s.tick.number.toNat / 2 ^ 32)
  else if d.off = FIO_IN_TS_LO.off then some ((lget Fin'.reset s.fio.ins i).stamp / 2 ^ 32 % 2 ^ 32)
  else none

/-- The word is the high word of such a pair. -/
def isHigh (d : RegDef) (w : Nat) : Bool :=
  (decide (d.kind = .counter64) && w == 1) || d.off == TCK_NOW_HI.off || d.off == FIO_IN_TS_HI.off

/-- What a register shows: its mirror, or what `regs` holds. -/
def State.shown (s : State) (d : RegDef) (i j w : Nat) : Nat :=
  match (s.mirrors d.off i j).find? (fun p => p.1.off == d.off) with
  | some p => p.2
  | none => if d.kind = .counter64 then (tget 0 s.regs (d.at i + 4 * w)).toNat else s.rd d i j

/-- The 32 bytes of a trouble-log entry (Table 13.6). -/
def LogEntry.bytes (e : LogEntry) : List Byte :=
  leBytes 8 e.ktime ++ leBytes 4 e.tick ++ leBytes 2 e.code ++ leBytes 1 e.source ++ leBytes 1 e.cls ++
  leBytes 1 e.rep ++ leBytes 1 e.channel ++ leBytes 2 e.link ++ leBytes 4 e.discarded ++ leBytes 8 e.addr

/-- A log entry by its place in the window. -/
def State.logAt (s : State) (k : Nat) : LogEntry := tget .zero s.log.entries (k % 2048)

/-- What an entry with an uncorrectable error reads as (R419). -/
def LogEntry.lost : LogEntry := { LogEntry.zero with code := 0xFFFF }

/-- Entry `k` reads as an entry with an uncorrectable error: logged once, and rewritten as it reads (R419). -/
def State.loseEntry (s : State) (k : Nat) : State :=
  if s.logAt k = .lost then s
  else
    let s := { s with log := { s.log with entries := tput .zero s.log.entries (k % 2048) .lost } }
    s.raiseI 0x1202

/-- The high-word latch of a path (R21). -/
def State.latch (s : State) : Path → Nat
  | .pcie => s.bus.latchPcie
  | .spi => s.bus.latchSpi

/-- A path's latch takes a word. -/
def State.setLatch (s : State) (p : Path) (v : Nat) : State :=
  match p with
  | .pcie => { s with bus := { s.bus with latchPcie := v } }
  | .spi => { s with bus := { s.bus with latchSpi := v } }

/-- What the data bus of a path showed last. -/
def State.setRead (s : State) (p : Path) (v : Nat) : State :=
  match p with
  | .pcie => { s with bus := { s.bus with readPcie := v, readPoisoned := false } }
  | .spi => { s with bus := { s.bus with readSpi := v } }

/-- The word that a read at an offset which the path reaches returns, the latch of R20 apart. -/
def State.wordAt (s : State) (p : Path) (off : Nat) : Nat :=
  if off % 4 ≠ 0 then 0
  else if isSramOffset off then leNat (readBytes 0 s.mem.sram (off - 0x400000) 4)
  else if isMsixOffset off then (s.msixWord ((off - 0x18000) / 16) ((off - 0x18000) / 4 % 4)).toNat
  else if isPbaOffset off then
    maskOf ((List.range 32).filter (fun b => s.bus.pba.contains ((off - 0x19000) * 8 + b)))
  else if 0xD0000 ≤ off ∧ off < 0xE0000 then leAt (s.logAt ((off - 0xD0000) / 32)).bytes ((off - 0xD0000) % 32) 4
  else
    match findReg off with
    | none => 0
    | some (d, i, j, w) => if isHigh d w then s.latch p else s.shown d i j w

/-- Registers that show free values: each read draws its own. -/
def showsFree (d : RegDef) : Bool := [DEC_UNIT_STATUS.off, ENC_UNIT_STATUS.off, FIO_OUT_STATUS.off].contains d.off

/-- What a reading of free values leaves: those of up to four units have been drawn. -/
def State.drawn (s : State) : State := { s with fresh := s.fresh + 4 }

/-- A 32-bit read over a path: 0 where nothing is reached (R9, R10, R20, R24). -/
def State.readWord (s : State) (p : Path) (off : Nat) : State × Nat :=
  if s.reaches p off then
    let v := s.wordAt p off
    match findReg off with
    | none => (s, v)
    | some (d, i, _, w) =>
      match s.highWord d i w with
      | none => (if showsFree d then s.drawn else s, v)
      | some h => (s.setLatch p h, v)
  else (s, 0)

/-- A read of any size: one that is not a 32-bit read returns 0 and latches nothing (R9). -/
def State.read (s : State) (p : Path) (off size : Nat) : State × Nat :=
  if size = 4 then s.readWord p off else (s, 0)

end Sys2Proof.Machine
end

