-- ==== Sys2Proof/Machine/RegWrite.lean ====
section
/-! DEFINITION. Writing the registers: the access types field by field (Table 0.3, R6 to R10, R577), counters (R22 to
R25), the registers whose writes act at once, GO, the MSI-X table and the SRAM window. One operation serves
every path and every command that writes a register. -/

namespace Sys2Proof.Machine

/-! Fields. -/

/-- A register after a write, field by field: CFG fields take the value in CONFIG only, SVC fields always. -/
def writeFields (active : Bool) (v : Nat) : Nat → List Field → Nat
  | old, [] => old
  | old, f :: t =>
    let takes := match f.access with
      | .cfg => !active
      | .svc => true
      | .ro => false
      | .w1c => false
    writeFields active v (if takes then putBits old f.hi f.lo (bits v f.hi f.lo) else old) t

/-- A field that the host can write is of this type. -/
def RegDef.has (d : RegDef) (a : Access) : Bool := d.fields.any (fun f => decide (f.access = a))

/-- The register counts as CFG alone: a counter, or writable fields of type CFG only. -/
def RegDef.allCfg (d : RegDef) : Bool :=
  match d.kind with
  | .counter => true
  | .counter64 => true
  | .plain => d.has .cfg && !d.has .svc && !d.has .w1c
  | .factory => d.has .cfg && !d.has .svc && !d.has .w1c

/-- The value differs from the register in a CFG field. -/
def RegDef.cfgDiffers (d : RegDef) (old v : Nat) : Bool :=
  d.fields.any (fun f => decide (f.access = .cfg) && bits old f.hi f.lo != bits v f.hi f.lo)

/-- A write in ACTIVE counts in SYS_LATE_WRITES (Table 0.3, R577). -/
def State.countLate (s : State) (d : RegDef) (old v : Nat) : State :=
  if s.isActive && (d.allCfg || d.cfgDiffers old v) then s.bump SYS_LATE_WRITES else s

/-! GO (R95 to R98). -/

/-- Trace settings are taken over at GO (R372, Table 11.5). -/
def State.goTrace (s : State) : State :=
  let base := s.rd64 SCH_TRACE_BASE_LO SCH_TRACE_BASE_HI
  let on := s.flag SCH_TRACE_CTL 0
  { s with sch := { s.sch with tracing := on && baseOk base 4096, traceErr := on && !baseOk base 4096, traceSeq := 0 } }

/-- Token buckets are full at GO (R191). -/
def State.goFlows (s : State) : State :=
  let full (f : Nat) (x : Flow) : Flow := { x with tokens := s.rd TRF_FLOW_BUCKET f * 10 ^ 9, tokenNs := s.ktime }
  { s with flows := (List.range 32).foldl (fun t f => tmod .reset t f (full f)) s.flows }

/-- Background and backlight of a display follow their registers while the module is in CONFIG (R6, Table 8.6). -/
def State.displayStart (s : State) (d : Nat) : State :=
  s.modDisp d (fun x => { x with bg := s.fld DSP_BG 23 0 d, backlight := s.fld DSP_BL 23 16 d })

/-- Background and backlight start from their registers (Table 8.6). -/
def State.goDisplays (s : State) : State := (List.range 3).foldl State.displayStart s

/-- The module moves to ACTIVE: rings start from 0, and the fields that act at GO are taken over (R96, R98). -/
def State.goActive (s : State) : State :=
  let s := s.wrFld HIF_STATUS 23 16 0xFF
  let s := { s with sys := { s.sys with cfg := .active } }
  let s := { s with hif := { s.hif with
    sqs := [], cqs := [], evPi := 0, evCi := 0, evRecent := [], seq := 0, peak := 0, fetching := false, dbRead := true,
    linkStopped := false, started := false, polling := none, jtFull := false } }
  let s := { s with mem := { s.mem with iecc := s.flag DRC_CTL 0 } }
  let s := ((s.goTrace).goFlows).goDisplays
  if s.fld TCK_CTL 1 0 = 0 then s else s.startSource (s.fld TCK_CTL 1 0)

/-- A write of 1 to SYS_CTL.GO (R96). -/
def State.writeGo (s : State) : State :=
  let e := s.goErr
  if e = 0xFF then s.goActive else s.wrFld HIF_STATUS 23 16 e

/-! Registers whose written value decides whether the write is taken (R49, R213, R503, R580). -/

/-- The value is out of range, so that the write is ignored as a whole; a clock output without a frequency has none
(notes/assumptions/180.md). -/
def State.outOfRange (s : State) (d : RegDef) (i v : Nat) : Bool :=
  if d.off = TCK_PERIOD.off then decide (v < 4000000) || decide (100000000 < v)
  else if d.off = TCK_SRC_TOL.off then decide (500 < bits v 8 0)
  else if d.off = TCK_ADM_CTL.off then decide (25 < bits v 4 0) || decide (50 < bits v 13 8)
  else if d.off = TRF_PTP_PHASE.off then decide (s.period ≤ v)
  else if d.off = CLK_OUT.off then bitAt v 0 && decide (bits v 4 3 ≠ 3) && !outInRange v (s.fld CLK_OUT_FRAC 23 0 i)
  else false

/-- TCK_STATUS.CFG_ERR or CLK_STATUS.CFG_ERR follows the last write to its block. -/
def State.noteRange (s : State) (off : Nat) (bad : Bool) : State :=
  if off >>> 15 = 4 then s.wrFld TCK_STATUS 16 16 (b2n bad)
  else if off = TRF_PTP_PHASE.off then (if bad then s.wrFld TCK_STATUS 16 16 1 else s)
  else if off >>> 15 = 29 then s.wrFld CLK_STATUS 12 12 (b2n bad)
  else s

/-- The row-buffer region in bytes that a KIB value gives (Table 6.12). -/
def rowKib (v : Nat) : Nat := min 2048 v / 64 * 64 * 1024

/-- The row-buffer region in bytes (Table 6.12). -/
def State.rowRegion (s : State) : Nat := rowKib (s.fld DEC_ROWBUF_CFG 11 0)

/-- Row buffers in use. -/
def State.rowUsed (s : State) : Nat := (s.chans.map (fun p => p.2.rowBuf)).sum

/-- DEC_ROWBUF_CFG would be smaller than the row buffers of the channels ("At the limits" of the DEC registers). -/
def State.rowsCut (s : State) (d : RegDef) (v : Nat) : Bool :=
  decide (d.off = DEC_ROWBUF_CFG.off) && decide (rowKib (bits v 11 0) < s.rowUsed)

/-! What a write does beside storing. -/

/-- The CAUSE of a mode request (Table 14.9). -/
def pathCause : Path → Nat
  | .pcie => 0
  | .spi => 1

/-- SYS_RESTART (R450, R451, R452, R465). -/
def State.writeRestart (s : State) (v : Nat) : State :=
  if bits v 15 0 = 0x52C3 then s.startRestart (if bitAt v 16 then 3 else 2) (bitAt v 17) (bitAt v 18)
  else s.bump SYS_RESTART_REJECT_COUNT

/-- Whether fuse bits or MRAM bytes read back as programmed: what the command says, else a free value. -/
def State.readsBack (s : State) (found : Option Bool) : State × Bool :=
  match found with
  | some ok => (s, ok)
  | none => s.freeBit

/-- LCS_CMD (R470 to R473). -/
def State.writeLcs (s : State) (v : Nat) (found : Option Bool) : State :=
  let (s, ok) := s.readsBack found
  s.lcsCommand (bits v 3 0) (bits v 31 16) ok

/-- SYS_RESCUE_CTL with GO (R466). -/
def State.writeRescue (s : State) (v : Nat) (found : Option Bool) : State :=
  let (s, ok) := s.readsBack found
  s.rescueGo (bits v 20 0) (bits v 22 21) ok

/-- A display register written in CONFIG: EN starts or ends the display, and the checks are repeated (R294). -/
def State.writeDisplay (s : State) (d old : Nat) (isCfg : Bool) : State :=
  let s := s.displayStart d
  if isCfg then s.enableWrite d (bitAt old 0) else s.recheckDisplays

/-- What follows a CFG write that was taken in CONFIG; `old` is the register before it. -/
def State.afterCfg (s : State) (d : RegDef) (i old : Nat) : State :=
  if d.off = BPM_COMB_WATER.off then
    (if s.fld BPM_COMB_WATER 15 0 i = 0 then { s with bpm := { s.bpm with lowState := ldel s.bpm.lowState i } } else s)
  else if d.off >>> 15 = 13 then s.writeDisplay i old (d.off == DSP_CFG.off)
  else if d.off = TCK_PERIOD.off then
    let s := if old = s.period then s
      else { s with displays := s.displays.map (fun (x : Display) => { x with y := 0 }) }
    s.recheckDisplays
  else if d.off = TCK_ADM_CTL.off then s.recheckDisplays
  else if d.off = TRF_PTP_CTL.off then s.writePtp i
  else s

/-- The alarm of KPR_ALARM acts when the high word is written; 0 disables it (Table 14.11). -/
def State.writeAlarm (s : State) : State :=
  { s with power := { s.power with alarm := s.rd64 KPR_ALARM_LO KPR_ALARM_HI, alarmPassed := false } }

/-- What follows the write of an SVC register. -/
def State.afterSvc (s : State) (p : Path) (d : RegDef) (v : Nat) (found : Option Bool) : State :=
  if d.off = SYS_RESTART.off then (s.wrFld SYS_RESTART 18 16 0).writeRestart v
  else if d.off = SYS_RESCUE_CTL.off then
    let s := s.wrFld SYS_RESCUE_CTL 31 31 0
    if bitAt v 31 then s.writeRescue v found else s
  else if d.off = LCS_CMD.off then (s.wrFld LCS_CMD 3 0 0).writeLcs v found
  else if d.off = PWR_MODE_REQ.off then s.requestMode (bits v 2 0) (pathCause p)
  else if d.off = PWR_OP_CEIL.off then s.enforceCeil
  else if d.off = KPR_WAKE_CMD.off then
    let s := s.wrFld KPR_WAKE_CMD 0 0 0
    if bitAt v 0 then s.wakeNow 8 else s
  else if d.off = KPR_WAKE_EN.off then s.wrFld KPR_WAKE_EN 8 8 1
  else if d.off = KPR_ALARM_HI.off then s.writeAlarm
  else s

/-- W1C fields (R7, R411, Table 3.16). -/
def State.writeW1c (s : State) (d : RegDef) (i v : Nat) : State :=
  if d.off = GRD_FSTAT.off then s.clearStatus (i + 1) v
  else if d.off = HIF_STATUS.off ∧ bitAt v 6 = true ∧ 0 < s.bus.linkGen then
    { s with bus := { s.bus with linkLost := false } }
  else s

/-! Counters (R22, R25). -/

/-- A counter loads a value; an increment in the same cycle is lost, and sets OVF when it would have wrapped the
counter. -/
def loadCount (old v : Nat) (increment : Bool) : Nat :=
  if increment ∧ old % 2 ^ 31 = 2 ^ 31 - 1 then v % 2 ^ 31 + 2 ^ 31 else v

/-- The same for a 64-bit counter. -/
def loadCount64 (old v : Nat) (increment : Bool) : Nat :=
  if increment ∧ old % 2 ^ 63 = 2 ^ 63 - 1 then v % 2 ^ 63 + 2 ^ 63 else v

/-- The word staged on a path. -/
def State.staged (s : State) : Path → Option (Nat × Nat)
  | .pcie => s.bus.stagedPcie
  | .spi => s.bus.stagedSpi

/-- A path's staged word changes. -/
def State.setStaged (s : State) (p : Path) (x : Option (Nat × Nat)) : State :=
  match p with
  | .pcie => { s with bus := { s.bus with stagedPcie := x } }
  | .spi => { s with bus := { s.bus with stagedSpi := x } }

/-- A word of a 64-bit counter is written in CONFIG (R22): the low word is staged, the high word loads the whole. -/
def State.write64 (s : State) (p : Path) (d : RegDef) (i w v : Nat) (increment : Bool) : State :=
  if w = 0 then
    let s := s.setStaged p (some (d.at i, v))
    if increment then s.bump64 d i else s
  else
    let old := s.cnt64 d i
    match s.staged p with
    | some (at', low) =>
      if at' = d.at i then (s.setCnt64 d i (loadCount64 old (v * 2 ^ 32 + low) increment)).setStaged p none
      else s.setCnt64 d i (loadCount64 old (v * 2 ^ 32 + old % 2 ^ 32) increment)
    | none => s.setCnt64 d i (loadCount64 old (v * 2 ^ 32 + old % 2 ^ 32) increment)

/-- A counter register is written. -/
def State.writeCounter (s : State) (p : Path) (d : RegDef) (i w v : Nat) (increment : Bool) : State :=
  if s.isActive then
    let s := s.bump SYS_LATE_WRITES
    if !increment then s else if d.kind = .counter64 then s.bump64 d i else s.bump d i
  else if d.kind = .counter64 then (s.noteRange d.off false).write64 p d i w v increment
  else (s.noteRange d.off false).wr d i 0 (loadCount (s.rd d i) v increment)

/-! Windows. -/

/-- The MSI-X table takes a word; pending messages that are no longer masked go out (R92, R94). Bits 31:1 of a
vector control word are reserved. -/
def State.writeMsix (s : State) (off : Nat) (v : Word) : State :=
  let k := (off - 0x18000) / 4
  let v := if k % 4 = 3 then v &&& 1 else if k % 4 = 0 then v &&& 0xFFFFFFFC else v
  ({ s with bus := { s.bus with msixTable := tput (if k % 4 = 3 then 1 else 0) s.bus.msixTable k v } }).flushMsi

/-- Bytes land in the SRAM. -/
def State.sramPut (s : State) (a : Nat) (bs : List Byte) : State :=
  { s with mem := { s.mem with sram := tputs 0 s.mem.sram a bs } }

/-- A word written to the SRAM window that meets no other access (R93). -/
def State.writeSram (s : State) (off : Nat) (v : Word) : State :=
  if s.isActive then s.bump SYS_LATE_WRITES else s.sramPut (off - 0x400000) (leBytes 4 v.toNat)

/-! The one write. -/

/-- A register takes a value that a path brings, after the range checks. -/
def State.writeReg (s : State) (p : Path) (d : RegDef) (i j : Nat) (v : Nat) (found : Option Bool) : State :=
  let old := s.rd d i j
  let taken := !s.isActive || d.has .svc || d.has .w1c
  let s := s.countLate d old v
  if d.off = SYS_CTL.off then (if bitAt v 0 && !s.isActive then s.writeGo else s)
  else if d.off = BPM_CTL.off then (if bitAt v 0 && !s.isActive then s.startBuild else s)
  else if !taken then s
  else if s.outOfRange d i v then s.noteRange d.off true
  else if s.rowsCut d v then s.bump SYS_LATE_WRITES
  else
    let cfg := !s.isActive && d.has .cfg
    let store (s : State) : State := s.wr d i j (writeFields s.isActive v old d.fields)
    let s := if d.off >>> 15 = 30 then s.fioChange store else store s
    let s := if d.has .cfg || d.has .svc then s.noteRange d.off false else s
    let s := s.writeW1c d i v
    let s := if cfg then s.afterCfg d i old else s
    if d.has .svc then s.afterSvc p d v found else s

/-- A 32-bit write over a path. -/
def State.writeWord (s : State) (p : Path) (off : Nat) (v : Word) (increment : Bool := false)
    (found : Option Bool := none) : State :=
  if s.reaches p off = false ∨ off % 4 ≠ 0 then s
  else if isSramOffset off then s.writeSram off v
  else if isMsixOffset off then s.writeMsix off v
  else
    match findReg off with
    | none => s
    | some (d, i, j, w) =>
      if d.kind = .counter ∨ d.kind = .counter64 then s.writeCounter p d i w v.toNat increment
      else s.writeReg p d i j v.toNat found

/-- A write of any size and alignment: only a naturally aligned 32-bit write acts (R9). -/
def State.write (s : State) (p : Path) (off size : Nat) (v : Word) (increment : Bool) : State :=
  if size = 4 then s.writeWord p off v increment else s

end Sys2Proof.Machine
end

