-- ==== Sys2Proof/Machine/ChanJobs.lean ====
section
/-! DEFINITION. The channel jobs: create and import, destroy, pause and resume, export and bind (R146 to R171, R228,
R229). -/

namespace Sys2Proof.Machine

/-! Binding (R162). -/

/-- A port code is of a type that a channel of a kind may bind (Tables 4.2, 4.6). -/
def portSuits (kind code : Nat) : Bool :=
  let t := code / 32
  let n := code % 32
  if kind = 1 then (t == 1 && decide (n < 3)) || t == 2
  else if kind = 2 then false
  else (t == 0 && decide (n < 16)) || (t == 1 && decide (n < 3))

/-- The checks of R162. -/
def State.bindOk (s : State) (kind mode ref gen : Nat) : Bool :=
  match mode with
  | 0 => true
  | 1 => kind != 2 && decide (ref < 24) && s.isPresent ref && (s.partner ref).gen == gen
  | 2 => portSuits kind ref
  | _ => false

/-- The partner that a binding points at, and 0xFFFF for none: DETAIL of R152. -/
def State.bindingDetail (s : State) (mode ref : Nat) : Nat :=
  match mode with
  | 1 => ref
  | 2 => (s.atPort ref).getD 0xFFFF
  | _ => 0xFFFF

/-! Creation (R151, R152, R228, R229). -/

/-- A channel as the fields of Table 4.4 describe it; `at'` is the offset of KIND. -/
def channelOf (b : List Byte) (at' cq : Nat) : Channel :=
  let u := fun o => leAt b (at' + o) 1
  let kind := u 0
  { Channel.free with
    state := 1, kind := kind, cls := u 1, rank := u 2, maxDefer := u 3, codec := u 4, decMode := u 5,
    bindMode := u 6, bindRef := u 7, bindGen := u 8, synbufMib := if u 9 = 0 then 2 else u 9,
    width := leAt b (at' + 0xA) 2, height := leAt b (at' + 0xC) 2, refs := u 0xE,
    resSyn := leAt b (at' + 0x10) 4, resPix := leAt b (at' + 0x14) 4, resEnc := leAt b (at' + 0x18) 4, cq := cq,
    waitIrap := kind == 1 }

/-- Checks 1 to 5 of R151, with the ranges that Table 4.4 gives RANK, MAX_DEFER, SYNBUF_MIB and REFS. -/
def State.createOk (s : State) (c : Channel) : Bool :=
  let lim := if c.codec = 1 then (8192, 8192) else (4096, 2304)
  decide (c.kind ≤ 3) && decide (1 ≤ c.cls) && decide (c.cls ≤ 3) && decide (c.codec ≤ 3) && decide (c.decMode ≤ 1) &&
  decide (c.rank ≤ 15) && decide (c.maxDefer ≤ 7) && decide (c.synbufMib ≤ 16) && decide (c.refs ≤ 16) &&
  ((c.kind == 0) == (c.codec == 0)) &&
  decide (64 ≤ c.width) && decide (64 ≤ c.height) && decide (c.width ≤ lim.1) && decide (c.height ≤ lim.2) &&
  c.width % 2 == 0 && c.height % 2 == 0 &&
  (c.cls == 1 || (c.rank == 0 && c.resSyn == 0 && c.resPix == 0 && c.resEnc == 0)) &&
  s.bindOk c.kind c.bindMode c.bindRef c.bindGen

/-- Check 6: the first kind whose reservations no longer fit the floor, as its reason code (R39, R73). -/
def State.overFloor (s : State) (c : Channel) : Option Nat :=
  [(0, c.resSyn), (1, c.resPix), (2, c.resEnc)].findSome? (fun x =>
    if s.floorOf x.1 < s.critSum x.1 + x.2 then some (x.1 + 1) else none)

/-- `n` frame buffers of `bytes` bytes each, as cells (R229). -/
def frameChain (n bytes : Nat) : List Nat := (List.replicate n (chainOf bytes)).flatten

/-- Sizes of the cells that a decoding channel needs: frame buffers, and the syntax buffer of FRAME_DECOUPLED; an
imported encode needs its frame buffers, for the largest format of its codec (R229, R250, Tables 6.7 and 7.1). -/
def Channel.buffers (c : Channel) : List Nat :=
  if c.kind = 1 ∨ c.kind = 2 then
    let n := (if c.refs = 0 then maxDpb c.codec c.width c.height else c.refs) + 2
    frameChain n (codecFrameBytes c.codec c.width c.height) ++ (if c.decMode = 0 then chainOf (c.synbufMib * 2 ^ 20) else [])
  else if c.enc.isSome then
    frameChain ((if c.refs = 0 then 2 else c.refs) + 2) (encFrameBytes (if c.codec = 1 then 2 else 1) c.width c.height)
  else []

/-- Row buffer bytes of a ROW_LOCKSTEP channel (Table 6.7). -/
def Channel.rowBytes (c : Channel) : Nat :=
  if (c.kind = 1 ∨ c.kind = 2) ∧ c.decMode = 1 then 768 * ceilDiv c.width 16 else 0

/-- KiB of the cells with given handles. -/
def cellsKib (hs : List Nat) : Nat := (hs.map (fun h => cellSize (handleComb h))).sum / 1024

/-- FAILFAST or FALLBACK for buffers taken at set-up: BPM_POLICY.SETUP (Table 10.2). -/
def State.setupFallback (s : State) : Bool := !s.flag BPM_POLICY 0

/-- A create of channel `n` is executed: it no longer counts as one still in the job table (R148). -/
def State.createDone (s : State) (n : Nat) : State :=
  { s with hif := { s.hif with creating := s.hif.creating.erase n } }

/-- Jobs fetched after a refused create, up to the next create of the same channel, name no channel (R148). -/
def orphans (n id : Nat) (l : List Job) : List Nat :=
  let later := l.filter (fun j => decide (id < j.id) && j.desc.channel == n)
  ((later.takeWhile (fun j => j.desc.opcode != 0x01 && j.desc.opcode != 0x06)).filter (fun j =>
    needsChannel j.desc.opcode && decide (j.phase = .waiting))).map (·.id)

/-- A create or import is refused after its number was free: the descriptors that counted on it fail with it. -/
def State.refuseCreate (s : State) (j : Job) (e : End) : State :=
  let n := j.desc.channel
  let s := (s.createDone n).endJob j.id e
  (orphans n j.id s.hif.jobs).foldl (fun s id => s.refuse id 0x41) s

/-- The channel is made; its work is admitted from the next admission window on (R147, R152, Table 4.3). -/
def State.makeChannel (s : State) (j : Job) (c : Channel) (hs : List Nat) : State :=
  let n := j.desc.channel
  let ident := if c.bindIdent.isSome then c.bindIdent
    else if c.bindMode = 1 ∧ bitAt (s.partner c.bindRef).flags 0 = true then
      some ((s.partner c.bindRef).type, (s.partner c.bindRef).ident)
    else none
  let start := s.tick.number.toNat + 1
  let c := { c with bindIdent := ident, rowBuf := c.rowBytes, dramKib := cellsKib hs, windows := hs, startTick := start,
                    enc := c.enc.map (fun e => { e with startTick := start }) }
  let s := (s.createDone n).setChan n c
  s.finish j.id (s.bindingDetail c.bindMode c.bindRef) c.dramKib

/-- The checks of R150 and R151 in their order, for a channel described by `c`. -/
def State.create (s : State) (j : Job) (c : Channel) : State :=
  let n := j.desc.channel
  if s.chanExists n then (s.createDone n).refuse j.id 0x50
  else if !s.createOk c then s.refuseCreate j { status := 0x23, reason := 0x46 }
  else
    match s.overFloor c with
    | some r => s.refuseCreate j { status := 0x20, reason := r }
    | none =>
      match s.allocMany n s.setupFallback c.buffers [] with
      | (s, .error k) => s.poolFails (·.refuseCreate j { status := 0x21, reason := 0x60 + k })
      | (s, .ok hs) =>
        if s.rowRegion < s.rowUsed + c.rowBytes then
          (s.returnCells hs).refuseCreate j { status := 0x21, reason := 0x68 }
        else s.makeChannel j c hs

/-- CHAN_CREATE (R151). -/
def State.chanCreate (s : State) (id : Nat) : State :=
  s.takeJob id 0x01 (fun j s => s.create j (channelOf j.desc.bytes 0x10 j.desc.cq))

/-- CHAN_CREATE (R151). -/
def execChanCreate (job : Nat) (s : State) : Res := done (s.chanCreate job)

/-! Destroy, pause, resume and bind (R154 to R162). -/

/-- CHAN_DESTROY acts at the next edge (R154). -/
def State.chanDestroy (s : State) (id : Nat) : State :=
  s.takeJob id 0x02 (fun j s =>
    (s.modJob id (fun j => { j with phase := .executing })).modChan j.desc.channel
      (fun c => { c with closing := c.closing ++ [id] }))

/-- CHAN_DESTROY (R154). -/
def execChanDestroy (job : Nat) (s : State) : Res := done (s.chanDestroy job)

/-- CHAN_PAUSE: RESULT is the first tick of the pause, DETAIL bit 0 LATE (R155, R156, R159). START 0 is not late. -/
def State.chanPause (s : State) (id : Nat) : State :=
  s.takeJob id 0x03 (fun j s =>
    let n := j.desc.channel
    let c := s.chan n
    if c.state = 3 ∨ c.pause.isSome = true then s.refuse id 0x52
    else
      let (t, late) := s.tickFor (j.u32 0x10)
      let s := s.modChan n (fun c => { c with pause := some { job := id, start := t, duration := j.u32 0x14 } })
      s.finish id (b2n (late && j.u32 0x10 != 0)) (t % 2 ^ 32))

/-- CHAN_PAUSE (R155). -/
def execChanPause (job : Nat) (s : State) : Res := done (s.chanPause job)

/-- CHAN_RESUME (R160): it acts at the next edge. -/
def State.chanResume (s : State) (id : Nat) : State :=
  s.takeJob id 0x04 (fun j s =>
    let n := j.desc.channel
    let c := s.chan n
    let d := if c.state = 3 then 1 else if c.pause.isSome then 2 else 0
    let s := if d = 0 then s else s.setChan n { c with resume := some id }
    s.finish id d)

/-- CHAN_RESUME (R160). -/
def execChanResume (job : Nat) (s : State) : Res := done (s.chanResume job)

/-- CHAN_BIND (R162): it acts at the next edge. -/
def State.chanBind (s : State) (id : Nat) : State :=
  s.takeJob id 0x07 (fun j s =>
    let n := j.desc.channel
    let (mode, ref, gen) := (j.u8 0x10, j.u8 0x11, j.u8 0x12)
    if s.bindOk (s.chan n).kind mode ref gen then
      (s.modChan n (fun c => { c with binds := c.binds ++ [(id, mode, ref, gen)] })).finish id
    else s.refuse id 0x51)

/-- CHAN_BIND (R162). -/
def execChanBind (job : Nat) (s : State) : Res := done (s.chanBind job)

/-! Export (R166 to R169). -/

/-- CHAN_EXPORT waits for the channel's next GOP boundary; a paused channel has none, and a second export has no place
(R157, R166; Table 3.11). -/
def State.chanExport (s : State) (id : Nat) : State :=
  s.takeJob id 0x05 (fun j s =>
    let n := j.desc.channel
    let c := s.chan n
    if c.state = 3 then s.endJob id { status := 0x22 }
    else if c.exporting.isSome then s.refuse id 0x55
    else
      let limit := s.tick.number.toNat + atLeast1 (j.u16 0x1C)
      let s := s.modJob id (fun j => { j with phase := .executing })
      let s := s.modChan n (fun c => { c with exporting := some (id, limit, bitAt (j.u8 0x1E) 0) })
      if c.kind = kindCoded ∧ (s.chanFlow n).isSome = true then s.refresh n s.tick32 else s)

/-- CHAN_EXPORT (R166). -/
def execChanExport (job : Nat) (s : State) : Res := done (s.chanExport job)

/-- EXPORT_POINT (R166): the channel exports where it stands at a boundary. -/
def State.exportPoint (s : State) (n : Nat) : State := if s.fwRuns then s.exportDue n else s

/-- EXPORT_POINT (R166). -/
def execExportPoint (chan : Nat) (s : State) : Res := onUnit chan 32 s (s.exportPoint chan)

/-- No boundary came within TIMEOUT ticks (R169). -/
def State.exportTimeout (s : State) (n : Nat) : State :=
  match (s.chan n).exporting with
  | none => s
  | some (id, limit, _) =>
    if limit ≤ s.tick.number.toNat then
      (s.modChan n (fun c => { c with exporting := none })).refuse id 0x53
    else s

/-- EXPORT_TIMEOUT (R169). -/
def execExportTimeout (chan : Nat) (s : State) : Res := onUnit chan 32 s (s.exportTimeout chan)

/-! Import (R153, R170, R171). -/

/-- An image has its header, its CRC and a version that the module knows (R170). -/
def imageOk (b : List Byte) (len : Nat) : Bool :=
  let n := leAt b 8 4
  decide (296 ≤ n) && decide (n ≤ len) && decide (n ≤ b.length) && decide (n ≤ 65536) &&
    decide (b.take 4 = [0x53, 0x51, 0x43, 0x58]) && decide (1 ≤ leAt b 4 4) && decide (leAt b 4 4 ≤ imageVersion) &&
    leAt b 12 4 == crc32 ((b.take n).drop 16)

/-- The peak window in an image, as it is in tick `now`: entry `k` of `n` (Table 7.8). -/
def windowFrom (b : List Byte) (now n : Nat) : List (Nat × Nat) :=
  (List.range n).map (fun k => (now - leAt b (296 + 8 * k) 4, leAt b (300 + 8 * k) 4))

/-- The encode of an image: it continues the exported counts and rate control, and codes its first picture as IDR
(R167, R171). -/
def encoderFrom (b : List Byte) (now : Nat) : Encoder :=
  let u := fun o k => leAt b (192 + o) k
  { encoderOf ((b.drop 64).take 128) (u 0 1) (u 1 1) with
    lastQp := u 2 2, seq := u 4 4, gopPos := u 8 4, irPos := u 12 4,
    prevBits := [u 16 4, u 20 4, u 24 4], lastBytes := u 28 4, buffer := u 32 8, poc := u 40 4, rtpSeq := u 44 2,
    divCount := u 46 1, afterDiscard := u 47 1 == 1, history := windowFrom b now (leAt b 288 4) }

/-- The active header set of an image (R167); none where the channel had none. -/
def headerFrom (b : List Byte) : Option Header :=
  let u := fun o k => leAt b (256 + o) k
  let f := fun k => u (14 + k) 1 == 1
  if u 0 1 = 1 then
    some { width := u 1 2, height := u 3 2, codedWidth := u 5 2, codedHeight := u 7 2, profile := u 9 1, level := u 10 1,
           chroma := u 11 1, depth := u 12 1, dpb := u 13 1, highTier := f 0, interlaced := f 1, sliceGroups := f 2,
           layered := f 3, jBaseline := f 4, jArithmetic := f 5, jPrec8 := f 6, jSampling := f 7, jDnl := f 8 }
  else none

/-- The channel of an image, with BIND_OVR applied; a binding that is kept keeps its identity (R153, R163, R171;
notes/assumptions/171.md). -/
def importChannel (b : List Byte) (cq ovr code now : Nat) : Channel :=
  let c := channelOf b 16 cq
  let c := { c with enc := if leAt b 46 1 = 1 then some (encoderFrom b now) else none }
  let c := match headerFrom b with
    | some h => c.activate h
    | none => c
  let ident := if leAt b 44 1 = 1 then some (leAt b 45 1, leAt b 48 4) else none
  if ovr = 0xFF then { c with bindIdent := ident } else { c with bindMode := ovr % 4, bindRef := code }

/-- CHAN_IMPORT (R153, R170): R150 first, the image, then the checks of R151. -/
def State.chanImport (s : State) (id : Nat) (image : Served (List Byte)) : State :=
  s.takeJob id 0x06 (fun j s =>
    if s.chanExists j.desc.channel then s.create j .free
    else
      match image with
      | .ok b =>
        if imageOk b (j.u32 0x18) then
          s.create j (importChannel (b.take (leAt b 8 4)) j.desc.cq (j.u8 0x1C) (j.u8 0x1D) s.tick.number.toNat)
        else s.refuseCreate j { status := 0x23, reason := 0x54 }
      | .failed => (s.createDone j.desc.channel).readFailed id false
      | .poisoned => (s.createDone j.desc.channel).readFailed id true)

/-- CHAN_IMPORT (R153). -/
def execChanImport (job : Nat) (image : Served (List Byte)) (s : State) : Res := done (s.chanImport job image)

end Sys2Proof.Machine
end

