-- ==== Sys2Proof/Machine/Supply.lean ====
section
/-! DEFINITION. The commands of reset, start and supply: power-on and pad reset, the boot, the input stage, the rails, the
phases, temperature, the auxiliary outputs and the meter (R450 to R458, R505 to R536). -/

namespace Sys2Proof.Machine

/-! Resets and boot (R450, R454, R455, R458, R513). -/

/-- POWER_ON_RESET (R450). -/
def execPowerOnReset (env : BootEnv) (s : State) : Res := done ((s.resetTo 0).coldStart env)

/-- RESET_N goes low for at least 10 µs. The reset does not rerun the power sequence, so it does nothing to a module whose
rails are off (R450, R454, R559). -/
def State.padReset (s : State) : State :=
  if s.power.mode = .off ∨ s.power.mode = .deepStandby ∨ s.pwr.pwrGood = false then s
  else
    let s := s.resetTo 1
    { s with sys := { s.sys with resetLow := true } }

/-- PAD_RESET (R450). -/
def execPadReset (s : State) : Res := done s.padReset

/-- RESET_N goes high: the boot stages run (R455). -/
def State.resetHigh (s : State) (env : BootEnv) : State :=
  if s.sys.resetLow then ({ s with sys := { s.sys with resetLow := false } }).boot false env else s

/-- RESET_RELEASE (R455). -/
def execResetRelease (env : BootEnv) (s : State) : Res := done (s.resetHigh env)

/-- BOOT_COMPLETE (R455). -/
def execBootComplete (s : State) : Res := done s.bootComplete

/-- BOOT_WATCHDOG (R458). -/
def execBootWatchdog (env : BootEnv) (s : State) : Res := done (s.watchdog env)

/-- A failed power sequence is retried 1 s later (R513). -/
def State.retrySequence (s : State) (env : BootEnv) : State :=
  if s.pwr.seqFailed then (s.advanceTo (1000 * (s.pwr.seqNs + 10 ^ 9))).coldStart env else s

/-- POWER_SEQUENCE_RETRY (R513). -/
def execPowerSequenceRetry (env : BootEnv) (s : State) : Res := done (s.retrySequence env)

/-! The input (R506 to R509). -/

/-- The module is on, with its rails up: neither OFF nor in DEEP STANDBY. -/
def State.powered (s : State) : Bool :=
  s.pwr.pwrGood && decide (s.power.mode ≠ .off) && decide (s.power.mode ≠ .deepStandby)

/-- VIN falls below the stop threshold (R508, R515). -/
def State.vinStops (s : State) : State := if s.power.mode = .off ∧ s.pwr.seqFailed = false then s else s.goOff

/-- VIN_BELOW_STOP (R515). -/
def execVinBelowStop (s : State) : Res := done s.vinStops

/-- The Keeper's supply falls below its minimum: everything that is not in MRAM or fuses is lost (R450, R508,
Table 15.2). -/
def State.keeperLost (s : State) : State :=
  let r := s.resetTo 0
  { r with
    sys := { r.sys with resetCause := s.sys.resetCause }
    power := { r.power with mode := .off }
    tick := { r.tick with stopped := true }
    bus := { r.bus with endpointOff := true }
    pwr := { r.pwr with pwrGood := false, keeperOn := false } }

/-- KEEPER_SUPPLY_LOSS (R508). -/
def execKeeperSupplyLoss (s : State) : Res := done s.keeperLost

/-- VIN has been below BO_WARN_MV for 100 µs; what it then reads is not specified beyond that (R509). -/
def State.brownout (s : State) : State :=
  if s.powered && !s.causeLive 0x1306 then
    let mv := Config.free s.fresh % s.boWarn
    (({ s with pwr := { s.pwr with vinMv := mv } }).freshen).raiseCond 0x1306
  else s

/-- BROWNOUT_WARNING (R509). -/
def execBrownoutWarning (s : State) : Res := done s.brownout

/-- VIN is read again: the cause of 0x1306 is gone once it lies 300 mV above the threshold (R509). -/
def State.brownoutOver (s : State) (mv : Nat) : State :=
  if s.powered then
    let s := { s with pwr := { s.pwr with vinMv := mv } }
    if s.boWarn + 300 ≤ mv then s.gone 0x1306 0xFF else s
  else s

/-- BROWNOUT_END (R509). -/
def execBrownoutEnd (millivolts : Nat) (s : State) : Res := done (s.brownoutOver millivolts)

/-- A clamp episode of the input stage (R506). -/
def State.clampEpisode (s : State) (ms : Nat) : State :=
  if s.power.mode = .off ∨ s.pwr.inputOpen = true then s else s.surge ms

/-- SURGE_CLAMP (R506). -/
def execSurgeClamp (ms : Nat) (s : State) : Res := done (s.clampEpisode ms)

/-- The opened input stage closes and the module starts (R506). -/
def State.surgeOver (s : State) (env : BootEnv) : State :=
  if s.pwr.inputOpen then (s.resetTo 0).coldStart env else s

/-- SURGE_RECOVERY (R506). -/
def execSurgeRecovery (env : BootEnv) (s : State) : Res := done (s.surgeOver env)

/-! Rails (R510, R512, R516, R517). -/

/-- A Class S fault of the supply; without `held` the bus cannot be held, and the rails fall (R517). -/
def State.supplyFault (s : State) (code src : Nat) (held : Bool) : State :=
  let s := s.raise code { source := src }
  if held then s else s.railsFall

/-- VBUS5 leaves its window or a pre-regulator phase fails, with no copy of the controller's settings corrupt; one
corrupt copy is rewritten at the next edge, and more are the same fault (R516). -/
def State.vbus5 (s : State) (corruptCopies : Nat) (held : Bool) : State :=
  if !s.powered then s
  else if corruptCopies = 1 then { s with pwr := { s.pwr with badCopy := true } }
  else s.supplyFault 0x1305 0xFF held

/-- VBUS5_OUT_OF_WINDOW (R516). -/
def execVbus5OutOfWindow (corruptCopies : Nat) (held : Bool) (s : State) : Res := done (s.vbus5 corruptCopies held)

/-- V1P8, VDD2, VDDQ, V3P3 or VIO25, by its bit of PWR_RAIL_STATUS, leaves its window; the pad PWR_GOOD needs V1P8
and V3P3, and the rails stand while the bus is held (R512, R517). -/
def State.railOut (s : State) (rail : Nat) (held : Bool) : State :=
  if !s.powered then s
  else
    let low := s.pwr.lowGood || rail == 1 || rail == 4
    let s := { s with pwr := { s.pwr with railOk := putBits s.pwr.railOk rail rail 0, lowGood := low } }
    s.supplyFault 0x1309 0xFF held

/-- RAIL_OUT_OF_WINDOW (R517). -/
def execRailOutOfWindow (rail : Nat) (held : Bool) (s : State) : Res :=
  done (if 1 ≤ rail ∧ rail ≤ 5 then s.railOut rail held else s)

/-- AUX_OVERLOAD (R510). -/
def execAuxOverload (output : Nat) (s : State) : Res := onUnit output 2 s (s.auxOff output)

/-- AUX_RETRY (R510). -/
def execAuxRetry (output : Nat) (holds : Bool) (s : State) : Res :=
  onUnit output 2 s (s.auxAgain output holds)

/-! The core regulator (R518 to R526). -/

/-- The core rail is up: not in RETAIN, DEEP STANDBY or OFF. -/
def State.coreRail (s : State) : Bool := s.powered && decide (s.power.mode ≠ .retain)

/-- Switching phases whose ripple fails are shed in ascending order (R522, R524). -/
def State.openPhases (s : State) (ps : List Nat) : State :=
  if s.coreRail then
    ((List.range 5).filter (fun p => ps.contains p && (s.phase p).switching)).foldl (fun s p => s.shed 3 p) s
  else s

/-- PHASE_OPEN_DETECT (R522). -/
def execPhaseOpenDetect (phases : List Nat) (s : State) : Res :=
  done (s.openPhases phases)

/-- The checks of one 10 µs period (R522). -/
def State.senseCheck (s : State) (rs : List PhaseSense) (inputOk : Bool) : State :=
  if s.coreRail then s.checkPhases rs inputOk else s

/-- PHASE_SENSE_CHECK (R522). -/
def execPhaseSenseCheck (readings : List PhaseSense) (inputSenseOk : Bool) (s : State) : Res :=
  done (s.senseCheck (readings.filter (fun r => decide (r.phase < 5))) inputSenseOk)

/-- The hourly check of the spare in a guard window: a spare that fails is shed (R520). -/
def State.checkSpare (s : State) (passed openPhase : Bool) : State :=
  if s.coreRail && s.ticks && decide (s.power.mode = .run) && decide (s.tick.window = .guard) && s.pwr.spare != 7 && !passed then
    s.shed (if openPhase then 3 else 4) s.pwr.spare
  else s

/-- SPARE_CHECK (R520). -/
def execSpareCheck (passed openPhase : Bool) (s : State) : Res := done (s.checkSpare passed openPhase)

/-- PHASE_PARK (R519). -/
def execPhasePark (first second : Nat) (s : State) : Res :=
  done (if first < 5 ∧ second < 5 ∧ s.coreRail = true then s.park first second else s)

/-- PHASE_UNPARK (R519). -/
def execPhaseUnpark (s : State) : Res := done (if s.coreRail then s.unpark else s)

/-- The core current has been above the cap for 2 µs (R521). -/
def State.throttleOn (s : State) : State :=
  if s.coreRail && !s.pwr.throttle && !s.guard.safe then
    ({ s with pwr := { s.pwr with throttle := true } }).bump PWR_THROTTLE_COUNT
  else s

/-- CURRENT_CAP_EXCEEDED (R521). -/
def execCurrentCapExceeded (s : State) : Res := done s.throttleOn

/-- THROTTLE_END (R521). -/
def execThrottleEnd (s : State) : Res := done { s with pwr := { s.pwr with throttle := false } }

/-! Temperature and energy (R529 to R536). -/

/-- THERMAL_READING (R529). -/
def execThermalReading (tj treg : Int) (s : State) : Res := done (if s.coreRail then s.readTherm tj treg else s)

/-- METER_INTERVAL (R533). -/
def execMeterInterval (sample : MeterSample) (s : State) : Res :=
  done (if s.coreRail then s.meter { sample with cmpNj := sample.cmpNj.filter (fun p => decide (p.1 < 3)) } else s)

end Sys2Proof.Machine
end

