-- ==== Sys2Proof/Machine/Clocking.lean ====
section
/-! DEFINITION. The commands of the clocks: the reference, the core PLLs, tuning, and the Keeper's oscillator (R14, R479 to
R494). -/

namespace Sys2Proof.Machine

/-- The reference has failed: everything that takes its timing from it loses lock, without further codes (R479, R480). -/
def State.refFails (s : State) : State :=
  if s.coreRail && !s.causeLive 0x1407 then
    let lost := (List.range 6).filter (fun i => s.locked i || (s.synth i).tuning)
    let s := lost.foldl (fun s i => if s.locked i then s.loseSynth i else s.setSynth i { s.synth i with state := 5 }) s
    let s := { s with clock := { s.clock with refFailed := true },
                      clk := { s.clk with backup := true, standby := false, dramDll := 0 } }
    s.raise 0x1407
  else s

/-- REFERENCE_FAILURE (R480). -/
def execReferenceFailure (s : State) : Res := done s.refFails

/-- A core PLL loses lock, or does not find it: the standby takes over from the active one (R491 to R494). -/
def State.cpllLost (s : State) (i : Nat) : State :=
  let other := 1 - i
  let ready := s.clk.standby && s.locked other
  let s := s.loseSynth i
  if i = s.clk.active then
    if ready then
      let s := { s with clk := { s.clk with active := other, standby := false } }
      (s.bump CLK_CPLL_SWITCH_COUNT).raiseCond 0x1401 { source := i }
    else s.raise 0x1402
  else if s.locked other then
    ({ s with clk := { s.clk with standby := false } }).raiseCond 0x1401 { source := i }
  else s

/-- A locked core PLL becomes unlocked; a suppressed pulse is one of the engine clock (R491). -/
def State.cpllUnlocks (s : State) (i : Nat) (suppressedPulse : Bool) : State :=
  if s.coreRail && s.locked i then
    let s := if suppressedPulse && decide (i = s.clk.active) then s.bump CLK_PULSE_SUPPRESS_COUNT else s
    s.cpllLost i
  else s

/-- CPLL_UNLOCK (R492). -/
def execCpllUnlock (pll : Nat) (suppressedPulse : Bool) (s : State) : Res :=
  onUnit pll 2 s (s.cpllUnlocks pll suppressedPulse)

/-- An unlocked core PLL is tuned again (R493). -/
def State.cpllRetunes (s : State) (i : Nat) : State :=
  if s.coreRail && !s.clock.refFailed && (s.synth i).state == 5 then s.tuneCpll i else s

/-- CPLL_RETUNE (R493). -/
def execCpllRetune (pll : Nat) (s : State) : Res := onUnit pll 2 s (s.cpllRetunes pll)

/-- A core PLL that has held lock for 10 ms and is not active becomes the standby (R493). -/
def State.cpllReady (s : State) (i : Nat) : State :=
  if s.locked i && decide (i ≠ s.clk.active) then { s with clk := { s.clk with standby := true } } else s

/-- CPLL_STANDBY_READY (R493). -/
def execCpllStandbyReady (pll : Nat) (s : State) : Res := onUnit pll 2 s (s.cpllReady pll)

/-- The hop slot that a lock used. -/
def hopNamed : LockMethod → Nat
  | .hop n => n
  | .table => 0
  | .search => 0

/-- A synthesiser under tuning locks, by the method that R486 applies; a core PLL's loss is then gone (R410). -/
def State.synthLocks (s : State) (i : Nat) (m : LockMethod) (band us : Nat) : State :=
  if (s.synth i).tuning && !s.clock.refFailed then
    let s := s.lockSynth i (hopNamed m) band (min us 200)
    if i < 2 then s.gone 0x1401 i else s
  else s

/-- SYNTH_LOCK (R486). -/
def execSynthLock (synth : Nat) (method : LockMethod) (band us : Nat) (s : State) : Res :=
  onUnit synth 6 s (s.synthLocks synth method band us)

/-- No lock within 200 µs counts as a loss of lock ("When it fails" of tuning). -/
def State.lockFails (s : State) (i : Nat) : State :=
  if (s.synth i).tuning && !s.clock.refFailed then
    let s := s.setSynth i { s.synth i with us := 200 }
    if i < 2 then s.cpllLost i
    else if i < 5 then (s.loseSynth i).raise 0x1403 { source := i }
    else
      let s := s.loseSynth i
      ({ s with mem := { s.mem with selfRefresh := true } }).raise 0x1404 { source := i }
  else s

/-- SYNTH_LOCK_TIMEOUT (R486). -/
def execSynthLockTimeout (synth : Nat) (s : State) : Res := onUnit synth 6 s (s.lockFails synth)

/-- The Keeper is in or entering a mode in which it counts time from its oscillator. -/
def State.keeperCounts (s : State) : Bool :=
  s.power.trans.isEntry || decide (s.power.mode = .retain) || decide (s.power.mode = .deepStandby)

/-- The 32.768 kHz oscillator fails: KPR 0x1203; in or on the way to RETAIN or DEEP STANDBY it is also a wake event, dated
at the first missing period and declared four periods later (R14, "When it fails" of the wake latch). -/
def State.oscFails (s : State) : State :=
  if s.pwr.keeperOn = false ∨ s.clock.oscFailed = true then s
  else
    let ns := s.ktime
    let tick := s.tick32
    let s := { s with clock := { s.clock with oscFailed := true } }
    let s := if s.slowTime then s.advanceTo (s.clock.ps + 4 * 30517578) else s
    if s.power.mode = .off then s
    else
      let s := s.raiseCond 0x1203
      if s.keeperCounts then s.wakeEvent 8 ns tick else s

/-- KEEPER_OSCILLATOR_FAILURE (R14). -/
def execKeeperOscillatorFailure (s : State) : Res := done s.oscFails

/-- The oscillator runs again (R410). -/
def State.oscRuns (s : State) : State := ({ s with clock := { s.clock with oscFailed := false } }).gone 0x1203 0xFF

/-- KEEPER_OSCILLATOR_RESTORED (R410). -/
def execKeeperOscillatorRestored (s : State) : Res := done s.oscRuns

end Sys2Proof.Machine
end

