-- ==== Sys2Proof/Machine/Composition.lean ====
section
/-! DEFINITION. The jobs and commands of composition: layer settings, display control, overlays, and the compositor in the
tick (R272 to R286). -/

namespace Sys2Proof.Machine

/-! LAYER_SET (R273 to R277). -/

/-- The image that a slot will show: the newest copied, or the one it holds. -/
def State.slotImage (s : State) (n : Nat) : Overlay :=
  match (s.cmp.switching.filter (fun x => x.1 == n)).getLast? with
  | some x => x.2
  | none => tget .empty s.cmp.overlays n

/-- A layer setting read out of LAYER_SET (Table 8.1). -/
def layerOf (b : List Byte) : Layer :=
  { srcType := leAt b 0x12 1, srcRef := leAt b 0x13 1, srcX := leAt b 0x14 2, srcY := leAt b 0x16 2,
    srcW := leAt b 0x18 2, srcH := leAt b 0x1A 2, dstX := leAt b 0x1C 2, dstY := leAt b 0x1E 2,
    dstW := leAt b 0x20 2, dstH := leAt b 0x22 2, alpha := leAt b 0x24 1, ageLimit := leAt b 0x25 1,
    borderPx := leAt b 0x26 1, matrix := leAt b 0x27 1 % 4, colour := leAt b 0x28 4, borderRgb := leAt b 0x2C 3,
    raw := (b.drop 0x12).take 32 }

/-- A source length and a length on the display lie within a ratio of 1/8 to 8. -/
def ratioOk (src dst : Nat) : Bool := decide (dst ≤ 8 * src) && decide (src ≤ 8 * dst)

/-- The source of a layer exists, with its age check, and its size; none where it is not allowed (R273 to R275). -/
def State.sourceOf (s : State) (x : Layer) : Option (Nat × Nat) :=
  if x.srcType = 1 then
    let c := s.chan x.srcRef
    if s.chanExists x.srcRef && c.kind != kindEncode && (c.kind == kindHost || x.ageLimit != 0) then
      some (c.width, c.height)
    else none
  else
    let o := s.slotImage x.srcRef
    if x.srcRef < 64 ∧ o ≠ .empty ∧ x.ageLimit = 0 then some (o.width, o.height) else none

/-- The ranges that Table 8.1 gives fields of themselves, whatever the source: SRC_TYPE, SRC_REF and BORDER_PX (R275). The
layer and the display are checked with them. -/
def Layer.inRange (x : Layer) : Bool :=
  decide (x.srcType ≤ 3) && decide (x.srcRef ≤ (if x.srcType = 1 then 31 else 63)) && decide (4 ≤ x.borderPx) &&
    decide (x.borderPx ≤ 16)

/-- The checks of R274 and R275 on a layer of display `d`. A layer that is turned off has no source and shows no
rectangle, and a solid colour has no crop to check against a source or to scale (notes/assumptions/95.md). -/
def State.layerOk (s : State) (d : Nat) (x : Layer) : Bool :=
  let inside := decide (x.dstX + x.dstW ≤ s.hActive d) && decide (x.dstY + x.dstH ≤ s.vActive d)
  let shows := x.dstW != 0 && x.dstH != 0
  x.inRange && inside &&
  (match x.srcType with
   | 0 => true
   | 3 => shows && x.ageLimit == 0
   | _ =>
     shows &&
       (match s.sourceOf x with
        | none => false
        | some (w, h) =>
          x.srcW != 0 && x.srcH != 0 && decide (x.srcX + x.srcW ≤ w) && decide (x.srcY + x.srcH ≤ h) &&
            ratioOk x.srcW x.dstW && ratioOk x.srcH x.dstH))

/-- An executed LAYER_SET waits for its edge; RESULT is the tick, DETAIL bit 0 LATE (R277). -/
def State.scheduleChange (s : State) (j : Job) (c : LayerChange) : State :=
  let (t, late) := s.tickFor (j.u32 0x30)
  let x : DueChange := { tick := t, job := j.id, change := c }
  let s := { s with cmp := { s.cmp with changes := s.cmp.changes ++ [x] } }
  s.finish j.id (b2n late) (t % 2 ^ 32)

/-- The layer set of display `d` with one more change of tick `t` exceeds RES_LAYERS (R276). -/
def State.overLayers (s : State) (x : DueChange) (d : Nat) : Bool :=
  let s' := { s with cmp := { s.cmp with changes := s.cmp.changes ++ [x] } }
  decide (s.layerLimit d < layerCost s'.futureLayers d)

/-- LAYER_SET of a layer (R275, R276). -/
def State.layerSet (s : State) (id : Nat) : State :=
  s.takeJob id 0x20 (fun j s =>
    let d := j.u8 0x10
    let l := j.u8 0x11
    let x := layerOf j.desc.bytes
    let c := LayerChange.layer d l x
    if l = 0xFF then s
    else if d ≤ 2 ∧ l ≤ 15 ∧ s.layerOk d x = true then
      (if x.srcType ≠ 0 ∧ s.overLayers { tick := (s.tickFor (j.u32 0x30)).1, job := id, change := c } d = true then
         s.endJob id { status := 0x20, reason := 0x04 }
       else s.scheduleChange j c)
    else s.refuse id 0x46)

/-- LAYER_SET (R277). -/
def execLayerSet (job : Nat) (s : State) : Res := done (s.layerSet job)

/-- LAYER_SET in its display-control form (Table 8.1). -/
def State.displayControl (s : State) (id : Nat) : State :=
  s.takeJob id 0x20 (fun j s =>
    let d := j.u8 0x10
    if j.u8 0x11 ≠ 0xFF then s
    else if d ≤ 2 ∧ j.u8 0x12 ≤ 1 then
      s.scheduleChange j (.control d (j.u8 0x12) (j.u8 0x13) (leAt j.desc.bytes 0x14 3))
    else s.refuse id 0x46)

/-- DISPLAY_CONTROL (R277). -/
def execDisplayControl (job : Nat) (s : State) : Res := done (s.displayControl job)

/-! OVERLAY_LOAD (R282, R283). -/

/-- Bytes of a pixel in an overlay format (Table 8.2). -/
def overlayPixel (format : Nat) : Nat := lget 4 [4, 2, 1] format

/-- Cell sizes for an image: cells of whole rows, as many rows as 4 MiB holds in each (R282). -/
def overlayCells (w h format : Nat) : List Nat :=
  let row := w * overlayPixel format
  let per := 2 ^ 22 / atLeast1 row
  List.replicate (h / atLeast1 per) (per * row) ++
    (if h % atLeast1 per = 0 then [] else [h % atLeast1 per * row])

/-- OVERLAY_LOAD takes its cells and its copy starts; behind a copy of the same slot it waits (R282, R283). -/
def State.overlayLoad (s : State) (id : Nat) : State :=
  s.takeJob id 0x21 (fun j s =>
    let slot := j.u8 0x1C
    let format := j.u8 0x1D
    let w := j.u16 0x1E
    let h := j.u16 0x20
    if s.cmp.copies.any (fun c => c.slot == slot) then s
    else
      match s.allocMany (0x40 + slot) true (overlayCells w h format) [] with
      | (s, .error k) => s.poolFails (·.endJob id { status := 0x21, reason := 0x60 + k })
      | (s, .ok hs) =>
        let s := s.modJob id (fun j => { j with phase := .executing })
        let c : Copy := { job := id, slot := slot, cells := hs, width := w, height := h, format := format }
        { s with cmp := { s.cmp with copies := s.cmp.copies ++ [c] } })

/-- OVERLAY_LOAD (R282). -/
def execOverlayLoad (job : Nat) (s : State) : Res := done (s.overlayLoad job)

/-- The bytes of an image without the padding of its rows; a palette follows it (Table 8.2). -/
def packRows (b : List Byte) (row pitch : Nat) : Nat → List Byte
  | 0 => []
  | n + 1 => padTo row b ++ packRows (b.drop pitch) row pitch n

/-- The image of a copy: its rows, and for I8 the 256 palette entries that follow the last row in what was read. -/
def Copy.image (c : Copy) (pitch : Nat) (b : List Byte) : Overlay :=
  let rows := packRows b (c.width * overlayPixel c.format) pitch c.height
  let palette := if c.format = 2 then padTo 1024 (b.drop (pitch * c.height)) else []
  { width := c.width, height := c.height, format := c.format, data := rows ++ palette, cells := c.cells }

/-- A copy fails: CMP 0x0A05, and the slot keeps its image (Table 8.7). -/
def State.overlayFailed (s : State) (c : Copy) (poisoned : Bool) : State :=
  let s := (s.returnCells c.cells).bump HIF_DMA_ERR_COUNT
  let s := if poisoned then s.raiseI 0x0206 else s
  (s.raiseI 0x0A05 { source := 0xFF, discarded := 1 }).endJob c.job { status := 0x40, fault := 0x0A05 }

/-- A copy ends: the slot switches at the next edge, or, behind images of the same slot that wait, at the edge after
theirs. RESULT is the tick of the switch (R282). -/
def State.copyEnd (s : State) (slot : Nat) (data : Served (List Byte)) : State :=
  match s.cmp.copies.find? (fun c => c.slot == slot) with
  | none => s
  | some c =>
    let s := { s with cmp := { s.cmp with copies := s.cmp.copies.filter (fun x => !(x.slot == slot)) } }
    match data with
    | .failed => s.overlayFailed c false
    | .poisoned => s.overlayFailed c true
    | .ok b =>
      let pitch := ((s.job? c.job).map (fun j => j.u32 0x18)).getD 0
      let before := (s.cmp.switching.filter (fun x => x.1 == slot)).length
      let s := { s with cmp := { s.cmp with switching := s.cmp.switching ++ [(slot, c.image pitch b)] } }
      s.finish c.job 0 ((s.tick.number.toNat + 1 + before) % 2 ^ 32)

/-- OVERLAY_COPY_END (R282). -/
def execOverlayCopyEnd (slot : Nat) (data : Served (List Byte)) (s : State) : Res :=
  onUnit slot 64 s (s.copyEnd slot data)

/-! The compositor in the tick (R284 to R286). -/

/-- The composition deadline D in ns after the edge: G minus the compositor's time for the admitted cost at two samples a
cycle and the present clock, (OP + 1) × 200 MHz (R284, Table 2.2). -/
def State.deadlineNs (s : State) : Nat :=
  guardAt s.tick.periodNs - ceilDiv (lget 0 s.tick.spent 3 * 5) (2 * (s.pwr.op + 1))

/-- At the deadline the compositor starts, whatever decodes still run; never before the work window (R284). -/
def State.composeDeadline (s : State) : State :=
  if s.tick.window = .work ∧ s.tick.cmpStarted = false then (s.toOffset s.deadlineNs).startCompositor else s

/-- COMPOSITION_DEADLINE (R284). -/
def execCompositionDeadline (s : State) : Res := done s.composeDeadline

/-- The composition of a display ends: the frame stands in its back buffer, and the next display's starts (R281, R284,
R286). -/
def State.composeEnd (s : State) (d : Nat) : State :=
  if s.tick.window = .work ∧ s.tick.cmpStarted = true ∧ s.nextCompose = some d then
    let s := match (s.disp d).back with
      | some f => s.paint d (1 - (s.disp d).frontBuf) f
      | none => s
    let s := { s with tick := { s.tick with composed := s.tick.composed ++ [d] } }
    let s := s.bump64 CMP_COMPOSE_COUNT
    match s.nextCompose with
    | none => s
    | some k => s.composeStart k
  else s

/-- COMPOSITION_END (R281). -/
def execCompositionEnd (display : Nat) (s : State) : Res := onUnit display 3 s (s.composeEnd display)

end Sys2Proof.Machine
end

