-- ==== Sys2Proof/Machine/Decoding.lean ====
section
/-! DEFINITION. The commands of decoding and of the engines that it shares with encoding (R85, R86, R218 to R242, R379
to R383). -/

namespace Sys2Proof.Machine

/-- The DECODE payload suits its picture: with OUT_HOST the pitch holds a row (Table 6.5). -/
def State.pitchOk (s : State) (j : Job) (au : Au) : Bool :=
  let depth := (au.header.map (·.depth)).getD (s.chan j.desc.channel).depth
  !bitAt (j.u8 0x1C) 1 || decide (au.width * (if 8 < depth then 2 else 1) ≤ j.u32 0x28)

/-- A DECODE job presents its access unit: LEN bytes of coded data (R218). -/
def State.presentDecode (s : State) (id : Nat) (au : Au) : State :=
  s.takeJob id 0x10 (fun j s =>
    if j.ready then s
    else if s.pitchOk j au then
      s.modJob id (fun j => { j with ready := true, au := some { au with bits := 8 * j.u32 0x18 } })
    else s.refuse id 0x46)

/-- DECODE (R218). -/
def execDecode (job : Nat) (au : Au) (s : State) : Res := done (s.presentDecode job au)

/-- DECODE_END (R240). -/
def execDecodeEnd (job : Nat) (report : DecReport) (s : State) : Res := done (s.endDecode job report)

/-- A running decode abandons a segment at a coding block, and its engine takes up what comes next (R232 to R234). -/
def State.abandon (s : State) (id row col reason : Nat) (count : RegDef) : State :=
  match s.job? id with
  | none => s
  | some j =>
    if j.decoding && s.enginesRun && (!j.cut || decide (row < j.cutRow)) then
      let s := s.modJob id (fun j => { j with hits := j.hits ++ [{ row := row, col := col, reason := reason }] })
      ((s.bump count).bump DEC_SEG_ABANDON_COUNT).endSegment id
    else s

/-- BIT_LIMIT_EXCEEDED (R232). -/
def execBitLimitExceeded (job row col : Nat) (s : State) : Res :=
  done (s.abandon job row col 0x83 DEC_BITLIM_COUNT)

/-- BLOCK_CYCLE_LIMIT (R233). -/
def execBlockCycleLimit (job row col : Nat) (s : State) : Res :=
  done (s.abandon job row col 0x84 DEC_CYCLIM_COUNT)

/-- Bit limit of one coding block (Table 6.8): for JPEG by the blocks of the MCU, for H.265 by the CTB size and depth. -/
def bitLimit (codec blocks size depth : Nat) : Nat :=
  match codec with
  | 1 => 2 * 512 * blocks
  | 2 => 3200
  | _ => 5 * (size * size * depth + size * size / 2 * depth) / 3

/-- Syntax and pixel cycle limits of one coding block (Table 6.8): `samples` of a JPEG MCU, `size` of a CTB. -/
def cycleLimits (codec samples size : Nat) : Nat × Nat :=
  match codec with
  | 1 => (8 * samples + 512, 6 * samples + 256)
  | 2 => (4096, 2048)
  | _ => (8 * size * size + 2048, 6 * size * size + 1024)

/-- The kind that produces the input of the other: syntax engines in a decode, encode slices in an encode (R86). -/
def Job.producer (j : Job) : CapKind := if j.desc.opcode = 0x10 then .syn else .enc

/-- Cycles of one work unit on an engine kind, in tenths (Table 2.4). -/
def unitCycles : CapKind → Nat
  | .syn => 24
  | .pix => 24
  | .enc => 48
  | .cmp _ => 5

/-- The admitted cost of a job on an engine kind (R65). -/
def Job.costOn (j : Job) : CapKind → Nat
  | .syn => j.costSyn
  | .pix => j.costPix
  | .enc => j.costEnc
  | .cmp _ => 0

/-- The cycle cap of a job on an engine kind: its admitted cost there times the cycles per work unit (R85). -/
def Job.cycleCap (j : Job) (kind : CapKind) : Nat := j.costOn kind * unitCycles kind / 10

/-- The job may be cut at a cap of this kind: at its first cut, or at the cap of the kind that still processes the rows
whose input was complete when the producing kind was cut (R86). -/
def Job.cuttable (j : Job) (kind : CapKind) : Bool :=
  decide (j.phase = .admitted) && (!j.cut || (decide (kind ≠ j.producer) && decide (0 < j.cutRow)))

/-- A decode or encode is cut at a row. When the producing kind is cut, rows whose input is complete are still
processed; otherwise all stops. The syntax engines leave the job, which cancels an interrupt, unless they still have
rows to code (R86, R381). -/
def State.capJob (s : State) (id : Nat) (kind : CapKind) (row : Nat) : State :=
  match s.job? id with
  | none => s
  | some j =>
    if j.cuttable kind then
      let s := (s.cutJob id).modJob id (fun j => { j with cutRow := if kind = j.producer then row else 0 })
      let s := if j.desc.opcode = 0x10 then
          s.modJob id (fun j => { j with hits := j.hits ++ [{ row := row, col := 0, reason := 0x10 }] })
        else s
      if kind = .enc then s else (s.leaveEngines id).feedEngines
    else s

/-- The cap of a job on an engine kind has been reached by `cycles` cycles of execution in the work window (R27, R85). -/
def State.capDue (s : State) (id : Nat) (kind : CapKind) (cycles : Nat) : Bool :=
  decide (s.tick.window = .work) && ((s.job? id).map (fun j => decide (j.cycleCap kind ≤ cycles))).getD false

/-- The composition of a display reaches its cap: it is cut as a whole, and the next display's begins (R85, R86, R284,
Table 2.6). -/
def State.capComposition (s : State) (d cycles : Nat) : State :=
  if decide (s.tick.window = .work) && decide (s.composeCost d * unitCycles (.cmp d) / 10 ≤ cycles) then
    (s.cutCompose d).composeNext (s.composesNow d)
  else s

/-- A job reaches the cycle cap of an engine kind (R85, R86). -/
def State.capReached (s : State) (id : Nat) (kind : CapKind) (row cycles : Nat) : State :=
  match kind with
  | .cmp d => s.capComposition d cycles
  | .syn => if s.capDue id .syn cycles then s.capJob id .syn row else s
  | .pix => if s.capDue id .pix cycles then s.capJob id .pix row else s
  | .enc => if s.capDue id .enc cycles then s.capJob id .enc row else s

/-- CYCLE_CAP_REACHED (R86). -/
def execCycleCapReached (job : Nat) (kind : CapKind) (point : CapPoint) (s : State) : Res :=
  done (s.capReached job kind point.row point.cycles)

/-- A stalled syntax engine goes on (R227, R379). -/
def State.roomAvailable (s : State) (e : Nat) : State :=
  { s with engines := lmod s.engines e (fun x => { x with waiting := false }) }

/-- BUFFER_ROOM_AVAILABLE (R227). -/
def execBufferRoomAvailable (engine : Nat) (s : State) : Res := onUnit engine 3 s (s.roomAvailable engine)

/-- A context switch at a boundary: the engine's context is saved and it takes up a segment of another admitted job. A
cut at the same boundary goes first, and the interrupt is cancelled (R382, R383). -/
def State.switchContext (s : State) (e id bitPosition arithmetic : Nat) : State :=
  let x := lget SynEngine.reset s.engines e
  match x.job, s.job? id with
  | some old, some j =>
    if ((s.job? old).map (·.cut)).getD true then
      { s with engines := lmod s.engines e (fun x => { x with job := none, waiting := false }) }.bump MCS_INTR_CANCEL_COUNT
    else if j.phase = .admitted ∧ j.cut = false ∧ old ≠ id then
      let upc := Config.free s.fresh % 0x1400
      let stack := (List.range (Config.free (s.fresh + 1) % 5)).map (fun k => Config.free (s.fresh + 2 + k) % 0x1400)
      let c : SynContext := { upc := upc, stack := stack, job := old, bitPosition := bitPosition, arithmetic := arithmetic }
      let s := { s with
        engines := lmod s.engines e (fun x => { x with saved := x.saved ++ [c], job := none })
        fresh := s.fresh + 6 }
      (s.takeSegment e id).bump MCS_INTR_COUNT
    else s
  | some _, none => s
  | none, some _ => s
  | none, none => s

/-- SYNTAX_ENGINE_INTERRUPT (R382). -/
def execSyntaxEngineInterrupt (engine job bitPosition arithmetic : Nat) (s : State) : Res :=
  onUnit engine 3 s (s.switchContext engine job bitPosition arithmetic)

/-! The sequencer of a syntax engine (R375, R378, Table 12.2), as a function: the micro-address after one
micro-instruction, and the return stack. The microcode itself is not published. -/

/-- What one step of the sequencer does. -/
inductive SeqStep where
  | go (address : Nat) (stack : List Nat)
  /-- The segment ends. -/
  | ended
  /-- MCS 0x1005. -/
  | fault
deriving DecidableEq, Repr

/-- A micro-address is valid: ROM or patch RAM (R375). -/
def validUpc (a : Nat) : Bool := decide (a < 0x1400)

/-- A jump to an address, which must be valid. -/
def seqTo (a : Nat) (stack : List Nat) : SeqStep := if validUpc a then .go a stack else .fault

/-- The next address (Table 12.2): SEQ, the condition, TARGET, the dispatch entry of OP, the present address. -/
def seqNext (seq : Nat) (cond : Bool) (target dispatch upc : Nat) (stack : List Nat) : SeqStep :=
  match seq with
  | 0 => seqTo (upc + 1) stack
  | 1 => seqTo (if cond then target else upc + 1) stack
  | 2 => seqTo (if cond then upc + 1 else target) stack
  | 3 => seqTo dispatch stack
  | 4 => if stack.length < 4 then seqTo target ((upc + 1) :: stack) else .fault
  | 5 =>
    match stack with
    | [] => .fault
    | a :: t => seqTo a t
  | 6 => .ended
  | _ => .fault

/-- The fields of a micro-instruction that its timing and the next address depend on (Table 12.1). -/
structure MicroWord where
  op : Nat
  seq : Nat
  cond : Nat
  target : Nat
  /-- Declared length: 1 to 16 engine cycles. -/
  cycles : Nat
deriving DecidableEq, Repr

/-- A control-store word by its fields (Table 12.1). -/
def microWord (w : Nat) : MicroWord :=
  { op := bits w 95 88, seq := bits w 87 85, cond := bits w 84 80, target := bits w 79 67, cycles := bits w 66 63 + 1 }

/-- The word at a micro-address, the same in all three engines: ROM, patch RAM as loaded at the last start, or none
(R375 to R377, R390). -/
def State.storeWord (s : State) (a : Nat) : Option MicroWord :=
  if a < 0x1000 then some (microWord (Config.romWord a).toNat)
  else if validUpc a then some (microWord (lget 0 s.sys.patchWords (a - 0x1000)))
  else none

/-- A dispatch entry: the override that the loaded patch gives it, or its ROM default (R378). -/
def State.dispatchEntry (s : State) (op : Nat) : Nat :=
  ((s.sys.overrides.find? (fun x => x.1 == op)).map (·.2)).getD (Config.romDispatch op).toNat

/-- The address after the micro-instruction at `upc`, whose condition reads `cond` (R375, R378, Table 12.2). -/
def State.microNext (s : State) (cond : Bool) (upc : Nat) (stack : List Nat) : SeqStep :=
  match s.storeWord upc with
  | none => .fault
  | some w => seqNext w.seq cond w.target (s.dispatchEntry w.op) upc stack

end Sys2Proof.Machine
end

