-- ==== Sys2Proof/Machine/Dispatcher.lean ====
section
/-! DEFINITION. The core-side operations of the Dispatcher and the run limit of threads (R353 to R365, Table 11.2). -/

namespace Sys2Proof.Machine

/-- The control cores execute: after boot, outside SAFE, and not in a mode or entry that stops them (R402, R427). They
run during a Class M restart, in which the firmware spawns its threads anew (R365). -/
def State.coresRun (s : State) : Bool := !s.guard.safe && !s.asleep && s.sys.bootStage == 7 && !s.sys.rescue && decide (s.power.mode ≠ .idle)

/-- A thread as SPAWN fills its slot: WAITING, its counter at RELOAD or its flags clear (Table 11.2). -/
def newThread (prio : Nat) (flagsMode all : Bool) (affinity tag runLimit reload : Nat) (mask : Word) (ns : Nat) : Thread :=
  { state := 1, prio := prio % 32, flagsMode := flagsMode, all := all, affinity := affinity % 16, lastCore := 0, ran := false,
    tag := tag % 256, runLimit := runLimit, reload := reload % 65536, counter := reload % 65536, pending := 0,
    flags := 0, mask := mask, readyNs := ns, usedNs := 0, sinceNs := 0,
    bounds := [] }

/-- SPAWN fills an EMPTY slot; a thread whose rule holds at once becomes READY (R353, R354, R357). -/
def State.spawn (s : State) (slot : Nat) (t : Thread) : State :=
  if s.coresRun && (s.thread slot).state == 0 then
    let s := s.setThread slot t
    if t.due then s.makeReady slot else s
  else s

/-- SPAWN (R353). -/
def execSpawn (slot prio : Nat) (flagsMode all : Bool) (affinity tag runLimit reload : Nat) (mask : Word) (s : State) :
    Res :=
  onUnit slot 256 s
    (s.spawn slot (newThread prio flagsMode all affinity tag runLimit reload mask s.ktime))

/-- RETIRE sets a slot EMPTY; a RUNNING slot retires itself, and its core takes another thread. -/
def State.retire (s : State) (slot : Nat) : State := if s.coresRun then (s.emptySlot slot).dispatch else s

/-- RETIRE (R353). -/
def execRetire (slot : Nat) (s : State) : Res := onUnit slot 256 s (s.retire slot)

/-- YIELD: the running thread waits again and its core is free; a thread whose rule still holds is READY again and is
considered in the same decision (R354, R358). -/
def State.yield_ (s : State) (c : Nat) : State :=
  match (s.core c).thread with
  | none => s
  | some slot =>
    if s.coresRun then
      let before := s.thread slot
      let s := (s.setThread slot { before with state := 1, usedNs := 0 }).freeCore c
      let s := s.trace 3 c slot 0 none before
      if before.due then s.makeReady slot else s.dispatch
    else s

/-- YIELD (R353). -/
def execYield (core : Nat) (s : State) : Res := onUnit core 4 s (s.yield_ core)

/-- SIGNAL sets event flags of a thread (R357). -/
def State.signalOp (s : State) (slot : Nat) (flags : Word) : State :=
  if s.coresRun then s.signalThread slot flags else s

/-- SIGNAL (R357). -/
def execSignal (slot : Nat) (flags : Word) (s : State) : Res := onUnit slot 256 s (s.signalOp slot flags)

/-- DEC decrements the counter of a thread (R354). -/
def State.decOp (s : State) (slot : Nat) : State := if s.coresRun then s.decThread slot else s

/-- DEC (R354). -/
def execDec (slot : Nat) (s : State) : Res := onUnit slot 256 s (s.decOp slot)

/-- BIND names a thread whose counter a job or ring decrements (R354). -/
def State.bindOp (s : State) (slot : Nat) (what : Bound) : State :=
  let t := s.thread slot
  if s.coresRun && t.state != 0 && !t.bounds.contains what then
    s.setThread slot { t with bounds := t.bounds ++ [what] }
  else s

/-- BIND (R354). -/
def execBind (slot : Nat) (what : Bound) (s : State) : Res := onUnit slot 256 s (s.bindOp slot what)

/-- The run limit of a thread in microseconds: 1 to WDOG_MAX_US, 0 meaning WDOG_MAX_US (R362). -/
def State.runLimitUs (s : State) (t : Thread) : Nat :=
  let top := atLeast1 (s.fld SCH_CTL 15 0)
  if t.runLimit = 0 then top else min t.runLimit top

/-- The TAG of the job that was fetched first among those bound to the thread of a core and those in `steps`, whose step
the thread has taken up; 0 for none (R363). -/
def State.servedTag (s : State) (c : Nat) (steps : List Nat) : Nat :=
  match ((s.hif.jobs ++ s.hif.live).filter (fun j => (s.openJobs (s.servedBy c ++ steps)).contains j.id)).foldl
      (fun (m : Option Job) j =>
        match m with
        | none => some j
        | some k => if j.id < k.id then some j else some k) none with
  | none => 0
  | some j => j.desc.tag

/-- A thread reaches its run limit, counted over the time that it was RUNNING: SCH 0x0F01 on its core (R362, R363). -/
def State.runLimit (s : State) (c : Nat) (steps : List Nat) : State :=
  match (s.core c).thread with
  | none => s
  | some slot =>
    let t := s.thread slot
    let s := s.advanceTo (1000 * (t.sinceNs + (1000 * s.runLimitUs t - t.usedNs)))
    if s.coresRun then
      s.raise 0x0F01 { source := c, addr := s.servedTag c steps } { unit := some (.core, c), jobs := steps }
    else s

/-- THREAD_RUN_LIMIT (R363). -/
def execThreadRunLimit (run : LimitRun) (s : State) : Res := onUnit run.core 4 s (s.runLimit run.core run.steps)

end Sys2Proof.Machine
end

