-- ==== Sys2Proof/Machine/Encoding.lean ====
section
/-! DEFINITION. The ENCODE job in its five actions, and the commands of rows and frames (R249 to R271). -/

namespace Sys2Proof.Machine

/-- An ENCODE job of an action is taken up; a paused channel and one of another kind refuse it (R157, R249, R250). -/
def State.takeAction (s : State) (id action : Nat) (f : Job → State → State) : State :=
  s.takeJob id 0x11 (fun j s =>
    if j.u8 0x10 ≠ action ∨ j.ready = true then s
    else if (s.chan j.desc.channel).state = 3 then s.endJob id { status := 0x22 }
    else if (s.chan j.desc.channel).kind ≠ kindEncode then s.refuse id 0xB4
    else f j s)

/-- The action needs an encode that runs and is not stopping; reason 0xB4 otherwise (R250). -/
def State.withEncode (s : State) (j : Job) (f : Encoder → State) : State :=
  match (s.chan j.desc.channel).enc with
  | none => s.refuse j.id 0xB4
  | some e => if e.stopping.isSome then s.refuse j.id 0xB4 else f e

/-- A held frame goes to admission from a tick on: its ENCODE job gets it, or a live encode is made for it (R246, R262). -/
def State.offerHeld (s : State) (n cq fromTick : Nat) (x : HeldFrame) : State :=
  match x.job with
  | some id =>
    s.modJob id (fun j => { j with ready := true, luma := x.luma, captured := x.captured, source := some x.source,
                                   fromTick := max j.fromTick fromTick })
  | none => s.addEncode n cq fromTick x

/-- A host frame has been read: with B pictures it waits until NUM_B later frames have arrived (R262). Its capture time is
that of its fetch (Table 7.2). -/
def State.acceptFrame (s : State) (j : Job) (e : Encoder) (b : List Byte) : State :=
  let n := j.desc.channel
  let (w, h) := s.encSize n e
  let x : HeldFrame := { captured := j.fetchNs, luma := w * h, cells := [], source := nv12Image w h (j.u32 0x14) b, job := some j.id }
  let set := fun (l : List HeldFrame) (s : State) =>
    s.modChan n (fun c => { c with enc := c.enc.map (fun e => { e with heldFrames := l }) })
  match e.heldFrames ++ [x] with
  | [] => s
  | y :: rest => if e.numB ≤ rest.length then (set rest s).offerHeld n e.cq 0 y else set (y :: rest) s

/-- A host frame is presented: its NV12 picture is read from host memory (R249, Table 7.3). -/
def State.presentFrame (s : State) (id : Nat) (picture : Served (List Byte)) : State :=
  s.takeAction id 0 (fun j s =>
    s.withEncode j (fun e =>
      if e.source ≠ 4 then s.refuse id 0xB4
      else if e.heldFrames.any (fun x => x.job == some id) then s
      else s.withData id picture (fun b s => s.acceptFrame j e b)))

/-- ENCODE_FRAME (R249). -/
def execEncodeFrame (run : FrameRun) (s : State) : Res := done (s.presentFrame run.job run.picture)

/-- START with its parameter block: the checks, the frame buffers, and the encode from the next admission window on
(R245, R250, R265). -/
def State.startEncode (s : State) (j : Job) (b : List Byte) : State :=
  let n := j.desc.channel
  let b := padTo 128 b
  let e := encoderOf b (s.fld ENC_CTL 0 0) j.desc.cq
  match s.encRefusal n e b with
  | some (status, reason) => s.endJob j.id { status := status, reason := reason }
  | none =>
    let c := s.chan n
    let (w, h) := s.encSize n e
    let bytes := encFrameBytes (s.encChroma n e) w h
    match s.allocMany n s.setupFallback (frameChain ((if c.refs = 0 then 2 else c.refs) + 2) bytes) [] with
    | (s, .error k) => s.poolFails (·.endJob j.id { status := 0x21, reason := 0x60 + k })
    | (s, .ok hs) =>
      let e := { e with startTick := s.tick.number.toNat + 1, rtpSeq := Config.free s.fresh % 65536 }
      (s.freshen.modChan n (fun c => { c with enc := some e, dramKib := cellsKib hs, windows := hs })).finish j.id

/-- ENCODE_START: not on a channel that encodes (R250). -/
def State.encodeStart (s : State) (id : Nat) (block : Served (List Byte)) : State :=
  s.takeAction id 1 (fun j s =>
    if (s.chan j.desc.channel).enc.isSome then s.refuse id 0xB4
    else s.withData id block (fun b s => s.startEncode j b))

/-- ENCODE_START (R250). -/
def execEncodeStart (job : Nat) (block : Served (List Byte)) (s : State) : Res := done (s.encodeStart job block)

/-- The frames held for reordering are coded as P pictures, one in each of the following ticks (R252). -/
def State.releaseHeld (s : State) (n : Nat) (e : Encoder) : State :=
  let next := s.tick.number.toNat + 1
  e.heldFrames.zipIdx.foldl (fun s x => s.offerHeld n e.cq (next + x.2) x.1) s

/-- ENCODE_STOP completes when no frame is left (R249, R252). -/
def State.encodeStop (s : State) (id : Nat) : State :=
  s.takeAction id 2 (fun j s =>
    s.withEncode j (fun e =>
      let n := j.desc.channel
      let s := s.modJob id (fun j => { j with phase := .executing })
      let s := s.modChan n (fun c => { c with enc := some { e with stopping := some id, heldFrames := [], numB := 0 } })
      (s.releaseHeld n e).finishStop n))

/-- ENCODE_STOP (R252). -/
def execEncodeStop (job : Nat) (s : State) : Res := done (s.encodeStop job)

/-- The encode with the fields that UPDATE may change taken from `u`: RC_MODE, the rate fields, the QP fields, GOP_LEN,
IR_PERIOD and FRAME_DIV (R251). -/
def Encoder.updated (e u : Encoder) : Encoder :=
  { e with rcMode := u.rcMode, bitrate := u.bitrate, maxKbps := u.maxKbps, window := u.window,
           targetPct := u.targetPct, qpI := u.qpI, qpP := u.qpP, qpB := u.qpB, qpMin := u.qpMin, qpMax := u.qpMax,
           gopLen := u.gopLen, irPeriod := u.irPeriod, frameDiv := u.frameDiv,
           irPos := if u.irPeriod = e.irPeriod then e.irPos else 0,
           idrNext := e.idrNext || u.rcMode != e.rcMode || u.gopLen != e.gopLen }

/-- UPDATE with its parameter block (R245, R251). -/
def State.updateEncode (s : State) (j : Job) (e : Encoder) (b : List Byte) : State :=
  let n := j.desc.channel
  let b := padTo 128 b
  let u := encoderOf b e.meRange e.cq
  let e' := e.updated u
  if e'.block ≠ u.block then s.refuse j.id 0xB2
  else
    match s.encRefusal n e' b with
    | some (status, reason) => s.endJob j.id { status := status, reason := reason }
    | none => (s.modChan n (fun c => { c with enc := some e' })).finish j.id

/-- ENCODE_UPDATE (R251). -/
def State.encodeUpdate (s : State) (id : Nat) (block : Served (List Byte)) : State :=
  s.takeAction id 3 (fun j s =>
    s.withEncode j (fun e => s.withData id block (fun b s => s.updateEncode j e b)))

/-- ENCODE_UPDATE (R251). -/
def execEncodeUpdate (job : Nat) (block : Served (List Byte)) (s : State) : Res := done (s.encodeUpdate job block)

/-- FORCE_IDR: the next frame is an IDR, and the GOP and the intra refresh restart (R253). -/
def State.encodeForceIdr (s : State) (id : Nat) : State :=
  s.takeAction id 4 (fun j s =>
    s.withEncode j (fun e =>
      (s.modChan j.desc.channel (fun c => { c with enc := some { e with idrNext := true, irPos := 0 } })).finish id))

/-- FORCE_IDR (R253). -/
def execForceIdr (job : Nat) (s : State) : Res := done (s.encodeForceIdr job)

/-- ENCODE_ROW_CODED (R263). -/
def execEncodeRowCoded (job bytes qp : Nat) (s : State) : Res := done (s.rowCoded job bytes qp)

/-- ENCODE_END (R258). -/
def execEncodeEnd (job : Nat) (report : EncReport) (s : State) : Res := done (s.endEncode job report)

/-! Channel jobs in the tick of their fetch (R147, R249). -/

/-- The firmware executes one channel job that needs nothing from host memory. -/
def State.runChanJob (s : State) (j : Job) : State :=
  match j.desc.opcode with
  | 0x01 => s.chanCreate j.id
  | 0x02 => s.chanDestroy j.id
  | 0x03 => s.chanPause j.id
  | 0x04 => s.chanResume j.id
  | 0x05 => s.chanExport j.id
  | 0x07 => s.chanBind j.id
  | 0x11 => if j.u8 0x10 = 2 then s.encodeStop j.id else if j.u8 0x10 = 4 then s.encodeForceIdr j.id else s
  | _ => s

/-- Channel jobs of a tick are executed in it: those that no command has named yet are executed before the edge, in fetch
order, up to the first that still waits for what it reads from host memory (R147, R249; notes/assumptions/14.md). -/
def State.runChanJobs (s : State) : State :=
  (s.hif.jobs.filter (fun j => decide (j.phase = .waiting) && j.desc.isChanJob)).foldl State.runChanJob s

end Sys2Proof.Machine
end

