-- ==== Sys2Proof/Machine/Sram.lean ====
section
/-! DEFINITION. The on-chip SRAM as the host bridge reaches it: accesses of several ports to one word, the check bits, and
the SRAM window (R93, R301 to R311, notes/assumptions/138.md). -/

namespace Sys2Proof.Machine

/-- Bytes of the on-chip SRAM (R301). -/
def sramBytes : Nat := 0x600000

/-! Accesses of one word (R304 to R309). -/

/-- An access to one SRAM word that waits to be served: its port, the bytes that it writes and where, and how often in
succession it has received BUSY. -/
structure PortAccess where
  port : Nat
  write : Option (Nat × List Byte)
  busy : Nat
deriving DecidableEq, Repr

/-- The access that decides a cycle: one that has received BUSY 8 times, else the write of highest priority; none where
every access reads (R304, R305, R309; notes/assumptions/170.md). -/
def decider (g : List PortAccess) : Option PortAccess :=
  let g := sortBy (fun a b : PortAccess => decide (a.port ≤ b.port)) g
  match g.find? (fun a => decide (8 ≤ a.busy)) with
  | some a => some a
  | none => g.find? (fun a => a.write.isSome)

/-- An access receives BUSY. -/
def PortAccess.again (a : PortAccess) : PortAccess := { a with busy := a.busy + 1 }

/-- The accesses of a cycle that receive BUSY: beside a write every other access, and beside a read that has the highest
priority every write (R305, R306, R309). -/
def beaten (g : List PortAccess) : List PortAccess :=
  match decider g with
  | none => []
  | some a =>
    (if a.write.isSome then g.filter (fun x => x.port != a.port) else g.filter (fun x => x.write.isSome)).map PortAccess.again

/-- One cycle of the accesses to a word: the write that decides it lands, and each BUSY is counted (R305 to R307). -/
def State.sramCycle (s : State) (g : List PortAccess) : State :=
  let s := match (decider g).bind (·.write) with
    | some (a, bs) => s.sramPut a bs
    | none => s
  State.bumpBy MEM_BUSY_COUNT 0 (beaten g).length s

/-- An access of a rival: a port of Table 9.1 beside the bridge, which accesses whole 64-bit words. -/
def toAccess (a : Nat) (r : Rival) : PortAccess :=
  { port := r.port, write := r.write.map (fun v => (a / 8 * 8, leBytes 8 v.toNat)), busy := 0 }

/-- Rivals whose cycle has come join the accesses, each port with one access at a time. -/
def joinRivals (a c : Nat) : List PortAccess → List Rival → List PortAccess × List Rival
  | g, [] => (g, [])
  | g, r :: t =>
    if r.cycle ≤ c ∧ g.all (fun x => x.port != r.port) = true then joinRivals a c (g ++ [toAccess a r]) t
    else ((joinRivals a c g t).1, r :: (joinRivals a c g t).2)

/-- The cycles in which the accesses to the word of byte `a` are served, until none waits: the state, and the word that
the host bridge, port 7, reads. -/
def State.sramRun (a : Nat) : Nat → Nat → State → List PortAccess → List Rival → Nat → State × Nat
  | 0, _, s, _, _, got => (s, got)
  | n + 1, c, s, g, q, got =>
    let c := if g.isEmpty then max c (((q.map (·.cycle)).min?).getD c) else c
    let (g, q) := joinRivals a c g q
    let left := beaten g
    let reads := g.any (fun x => x.port == 7 && x.write.isNone) && left.all (fun x => x.port != 7)
    let got := if reads then leNat (readBytes 0 s.mem.sram a 4) else got
    State.sramRun a n (c + 1) (s.sramCycle g) left q got

/-- An access of the host bridge to four bytes of a word among its rivals: the state after all of them, and what a read
returns. -/
def State.sramAccess (s : State) (a : Nat) (write : Option Word) (rivals : List Rival) : State × Nat :=
  let rivals := rivals.filter (fun r => decide (r.port < 7))
  State.sramRun a (rivals.length + 1) 0 s
    [{ port := 7, write := write.map (fun v => (a, leBytes 4 v.toNat)), busy := 0 }] rivals 0

/-! Check bits (R310, R311). -/

/-- A cell whose map entry is lost stays allocated with tag 0xFF until the next build. -/
def State.loseCell (s : State) (h : Nat) : State :=
  let b := s.bpm
  if handleIndex h < lget 0 b.counts (handleComb h) ∧ handleComb h < 8 ∧ (thas b.cells h = false ∨ tget 0xFF b.cells h ≠ 0xFF) then
    let n := s.combFree (handleComb h)
    let low := if thas b.cells h then b.low else lmod b.low (handleComb h) (fun l => min l (n - 1))
    { s with bpm := { b with cells := tset b.cells h 0xFF, lost := b.lost + 1, low := low } }
  else s

/-- An uncorrectable SRAM word: MEM_UE_ADDR and MEM_UE_COUNT, and the fault of what the word holds (R311). -/
def State.sramUe (s : State) (a : Nat) (what : SramUse) : State :=
  let s := (s.wr MEM_UE_ADDR 0 0 a).bump MEM_UE_COUNT
  match what with
  | .rowBuffer n => if n < 32 then s.raise 0x0803 { addr := a } { chans := [n] } else s.raise 0x0803 { addr := a }
  | .cellMap hs => (hs.foldl State.loseCell s).raise 0x0C02 { addr := a }
  | .other => s.raise 0x0C02 { addr := a }

/-- A word is read with its check bits: a single-bit error is corrected, counted and raised, a double-bit error is
reported (R310, R311). -/
def State.sramCheck (s : State) (a : Nat) (found : ScrubFind) : State :=
  match found with
  | .clean => s
  | .corrected => (s.bump MEM_CE_COUNT).raiseI 0x0C01 { addr := a }
  | .uncorrectable what => s.sramUe a what

/-! The SRAM window (Table 3.2, R93, R311). -/

/-- A word written to the SRAM window in CONFIG: a read-modify-write of its 64-bit word (R93, R310). -/
def State.windowWrite (s : State) (p : Path) (off : Nat) (v : Word) (x : SramAccess) : State :=
  if s.reaches p off = false ∨ off % 4 ≠ 0 then s
  else if s.isActive then s.bump SYS_LATE_WRITES
  else ((s.sramAccess (off - 0x400000) (some v) x.rivals).1).sramCheck (off - 0x400000) x.found

/-- SRAM_WINDOW_WRITE (R93). -/
def execSramWindowWrite (path : Path) (offset : Nat) (value : Word) (sram : SramAccess) (s : State) : Res :=
  done (if isSramOffset offset then s.windowWrite path offset value sram else s)

/-- What a host read of a word with a double-bit error returns: a poisoned completion over PCIe, whose data are a free
value, and all ones over SPI (R311). -/
def State.badRead (s : State) (p : Path) : State :=
  match p with
  | .pcie =>
    let s := (s.setRead .pcie (Config.free s.fresh % 2 ^ 32)).freshen
    { s with bus := { s.bus with readPoisoned := true } }
  | .spi => s.setRead .spi 0xFFFFFFFF

/-- A word read through the SRAM window (R304 to R311). -/
def State.windowRead (s : State) (p : Path) (off : Nat) (x : SramAccess) : State :=
  if s.reaches p off = false ∨ off % 4 ≠ 0 then s.setRead p 0
  else
    let (s, v) := s.sramAccess (off - 0x400000) none x.rivals
    match x.found with
    | .uncorrectable what => (s.sramUe (off - 0x400000) what).badRead p
    | .clean => s.setRead p v
    | .corrected => (s.sramCheck (off - 0x400000) .corrected).setRead p v

end Sys2Proof.Machine
end

