-- ==== Sys2Proof/Machine/Memories.lean ====
section
/-! DEFINITION. The commands of the combs and the memories: allocation and free of cells, the caches of the free stores,
the SRAM scrubber, and DRAM maintenance and refresh (R310 to R323, R335 to R348). -/

namespace Sys2Proof.Machine

/-- Requesters of cells, the scrubber and the DRAM controller work: the kernel runs, outside SAFE, a Class M restart
and the low-power modes (R349, R401, R427). -/
def State.memoriesRun (s : State) : Bool :=
  !s.guard.safe && !s.guard.restarting && !s.asleep && s.sys.bootStage == 7 && decide (s.power.mode ≠ .off)

/-! Allocation (R341 to R343, Table 10.2). -/

/-- The frame in progress of the partner that a channel takes has no cell: it is dropped whole and counted once. -/
def State.ingressFails (s : State) (n : Nat) : State :=
  match (s.chan n).bound with
  | none => s.bump BPM_ING_DROP_COUNT
  | some p =>
    let port := (s.partner p).port
    if (s.partner p).type = 1 then
      let frames := (s.csiPort (port / 4)).frames
      match ((frames.find? (fun (x : Nat × CsiFrame) => x.1 == port % 4)).map (·.2) : Option CsiFrame) with
      | none => s.bump BPM_ING_DROP_COUNT
      | some f =>
        if f.noCell then s
        else
          (s.modCsi (port / 4) (fun c => { c with frames := c.frames.map (fun x =>
            if x.1 = port % 4 then (x.1, { x.2 with noCell := true }) else x) })).bump BPM_ING_DROP_COUNT
    else s.bump BPM_ING_DROP_COUNT

/-- The job of the job table that a request for a cell belongs to: the first in fetch order that has not ended. -/
def State.jobWanting (s : State) (p : Job → Bool) : Option Nat :=
  (s.hif.jobs.find? (fun j => p j && decide (j.phase = .waiting))).map (·.id)

/-- A job that sets up buffers of a channel (Table 10.2). -/
def setsUp (n : Nat) (j : Job) : Bool :=
  j.desc.channel == n && (j.desc.opcode == 1 || j.desc.opcode == 6 || (j.desc.opcode == 0x11 && j.u8 0x10 == 1))

/-- A cell for a job: the job keeps it until it is taken up or ends; without it the job is refused, and cells taken go
back. -/
def State.cellForJob (s : State) (id : Option Nat) (size tag : Nat) (fallback : Bool) (reason : Option Nat) : State :=
  match s.allocCell size tag fallback, id with
  | (s, some h), some i => s.modJob i (fun j => { j with cells := j.cells ++ [h] })
  | (s, some _), none => s
  | (s, none), some i => s.poolFails (·.endJob i { status := 0x21, reason := reason.getD (0x60 + combFor size) })
  | (s, none), none => s.raiseMismatch

/-- The engine kind that a tag of Table 10.5 stands for; staging of an encode is that of its slices. -/
def tagKind (tag : Nat) : CapKind := if tag < 0x90 then .enc else if tag < 0x93 then .syn else if tag < 0x96 then .pix else .enc

/-- A requester asks for one cell (R341 to R343, Table 10.2). -/
def State.request (s : State) (who : Requester) (size : Nat) : State :=
  if s.memoriesRun = false then s
  else
    match who with
    | .ingress n =>
      match s.allocCell size (transientTag n) false with
      | (s, some _) => s
      | (s, none) => s.poolFails (·.ingressFails n)
    | .depacketiser f =>
      match s.allocCell size (s.flowTag f) false, (s.flow f).unit with
      | (s, some h), some u => s.setFlow f { s.flow f with unit := some { u with cells := u.cells ++ [h] } }
      | (s, some _), none => s
      | (s, none), some u => s.poolFails (fun s => if u.dead then s else s.unitLost f u)
      | (s, none), none => s.raiseMismatch
    | .setup n => s.cellForJob (s.jobWanting (setsUp n)) size n s.setupFallback none
    | .overlay k =>
      s.cellForJob (s.jobWanting (fun j => j.desc.opcode == 0x21 && j.u8 0x1C == k)) size (0x40 + k) true none
    | .netTx q =>
      s.cellForJob (s.jobWanting (fun j => j.desc.opcode == 0x51 && j.u8 0x1A == q)) size (0x80 + q) true (some 0x70)
    | .engine tag id row =>
      match s.allocCell size tag (!s.flag BPM_POLICY 1) with
      | (s, some _) => s
      | (s, none) => s.poolFails (·.capJob id (tagKind tag) row)
    | .firmware tag id =>
      s.cellForJob ((s.hif.jobs.find? (fun j => j.id == id)).map (·.id)) size tag (!s.flag BPM_POLICY 2) none

/-- An owner tag that an engine or its packet staging allocates under (Table 10.2). -/
def engineTag (tag : Nat) : Bool := (decide (0x90 ≤ tag) && decide (tag < 0x99)) || (decide (0x20 ≤ tag) && decide (tag < 0x40))

/-- The requester is one that the module has. -/
def realRequester (who : Requester) : Bool :=
  match who with
  | .ingress n => decide (n < 32)
  | .depacketiser f => decide (f < 32)
  | .setup n => decide (n < 32)
  | .overlay k => decide (k < 64)
  | .netTx q => decide (q < 16)
  | .engine tag _ _ => engineTag tag
  | .firmware tag _ => decide (0xA0 ≤ tag) && decide (tag < 0xC0)

/-- The SRAM port of a requester (Table 9.1): the firmware asks for cells of jobs, the traffic unit for cells of frames
that come in (notes/assumptions/163.md). -/
def requesterPort (who : Requester) : Nat :=
  match who with
  | .ingress _ => 6
  | .depacketiser _ => 6
  | .setup _ => 2
  | .overlay _ => 2
  | .netTx _ => 2
  | .firmware _ _ => 2
  | .engine tag _ _ => if 0x99 ≤ tag then 6 else if 0x96 ≤ tag ∨ tag < 0x40 then 5 else if 0x93 ≤ tag then 4 else 3

/-- A free that a requester makes. -/
def State.requestFree (s : State) (handle tag : Nat) : State := if s.memoriesRun then s.freeCell handle tag else s

/-- A free among the accesses of one cycle. -/
def State.freeAccess (s : State) (x : CombAccess) : State :=
  match x with
  | .free h tag => if tag < 256 then s.requestFree h tag else s
  | .allocate _ _ => s

/-- The allocations among the accesses of one cycle. -/
def allocsOf (l : List CombAccess) : List (Requester × Nat) :=
  l.filterMap (fun x => match x with
    | .free _ _ => none
    | .allocate who size => if realRequester who then some (who, size) else none)

/-- Accesses of the combs that fall in one cycle: frees first, then allocations in the order of the SRAM ports (R345). -/
def State.combCycle (s : State) (l : List CombAccess) : State :=
  let s := l.foldl State.freeAccess s
  (sortBy (fun a b : Requester × Nat => decide (requesterPort a.1 ≤ requesterPort b.1)) (allocsOf l)).foldl (fun s a => s.request a.1 a.2) s

/-- CELL_ALLOCATE (R342, R345). -/
def execCellAllocate (who : Requester) (request : CellRequest) (s : State) : Res :=
  done (if realRequester who then s.combCycle (.allocate who request.size :: request.meets) else s)

/-- CELL_FREE (R344). -/
def execCellFree (handle tag : Nat) (s : State) : Res := onUnit tag 256 s (s.requestFree handle tag)

/-! Free-store caches (R338). -/

/-- Handles of a comb that stand in its ring. -/
def State.ringCells (s : State) (c : Nat) : Nat := s.combFree c - lget 0 s.bpm.cache c

/-- A cache at 8 entries or below takes 16 handles from its ring, or what the ring has. -/
def State.refill (s : State) (c : Nat) : State :=
  if s.memoriesRun && decide (lget 0 s.bpm.cache c ≤ 8) then
    { s with bpm := { s.bpm with cache := lmod s.bpm.cache c (· + min 16 (s.ringCells c)) } }
  else s

/-- FREE_STORE_REFILL (R338). -/
def execFreeStoreRefill (comb : Nat) (s : State) : Res := onUnit comb 4 s (s.refill comb)

/-- A cache at 28 entries or above spills 16 handles. -/
def State.spill (s : State) (c : Nat) : State :=
  if s.memoriesRun && decide (28 ≤ lget 0 s.bpm.cache c) then
    { s with bpm := { s.bpm with cache := lmod s.bpm.cache c (· - 16) } }
  else s

/-- FREE_STORE_SPILL (R338). -/
def execFreeStoreSpill (comb : Nat) (s : State) : Res := onUnit comb 4 s (s.spill comb)

/-! The scrubber (R312). -/

/-- The scrubber reads one word while MEM_SCRUB.EN is 1. -/
def State.scrub (s : State) (a : Nat) (found : ScrubFind) : State :=
  if s.flag MEM_SCRUB 0 && !s.asleep && s.sys.bootStage == 7 && decide (s.power.mode ≠ .off) then
    s.sramCheck a found
  else s

/-- SRAM_SCRUB (R312). -/
def execSramScrub (address : Nat) (found : ScrubFind) (s : State) : Res :=
  onUnit address sramBytes s (s.scrub address found)

/-! Where the DRAM controller puts a byte (R315, R316, Table 9.2). No command reads DRAM by address. -/

/-- What a DRAM byte address selects. -/
structure DramPlace where
  rank : Nat
  row : Nat
  bank : Nat
  channel : Nat
  /-- The byte within the 4 KiB row: the interleave unit and the byte within it. -/
  column : Nat
deriving DecidableEq, Repr

/-- The place of byte address `a`; addresses at or above the fitted capacity are never issued (R315). -/
def State.dramPlace (s : State) (a : Nat) : Option DramPlace :=
  if a < s.dramBytes then
    some { rank := bits a 32 32, row := bits a 31 16, bank := bits a 15 13, channel := bits a 8 8,
           column := bits a 12 9 * 256 + bits a 7 0 }
  else none

/-- The address of the check byte of the 64-bit word at data address `a`, with inline ECC (R316). -/
def State.checkByteAt (s : State) (a : Nat) : Nat := s.dramBytes * 7 / 8 + a / 8

/-! The DRAM controller (R321 to R323). -/

/-- The controller drives trained channels that are not in self-refresh. -/
def State.dramRuns (s : State) : Bool :=
  decide (s.mem.trained = 3) && !s.mem.selfRefresh && !s.asleep && decide (s.power.mode ≠ .off)

/-- Maintenance is due: PERIOD_TICKS ticks have passed, or the MR4 code has changed. -/
def State.maintDue (s : State) : Bool := decide (atLeast1 (s.fld DRC_MAINT 15 0) ≤ s.mem.maintTicks)

/-- One maintenance step, on one channel, in the guard window; the period starts again after the second channel. Drift
outside the range is DRC 0x0D04 (R322). -/
def State.maintain (s : State) (inRange : Bool) : State :=
  if s.dramRuns && s.maintDue && s.ticks && decide (s.tick.window = .guard) then
    let m := s.mem
    let m := if m.maintChan = 0 then { m with maintChan := 1 } else { m with maintChan := 0, maintTicks := 0 }
    let s := ({ s with mem := m }).bump DRC_MAINT_COUNT
    if inRange then s else s.raise 0x0D04
  else s

/-- DRAM_MAINTENANCE_STEP (R322). -/
def execDramMaintenanceStep (inRange : Bool) (s : State) : Res := done (s.maintain inRange)

/-- The MR4 code changes: maintenance falls due at once, in the next guard window, and a temperature above the rated
range is DRC 0x0D05 (R322, "At the limits" of DRAM). -/
def State.mr4Changes (s : State) (code : Nat) (aboveRated : Bool) : State :=
  if s.dramRuns && decide (code ≠ s.mem.mr4) then
    let s := { s with mem := { s.mem with mr4 := code, maintTicks := 65536 } }
    if aboveRated then s.raiseCond 0x0D05 else s.gone 0x0D05 0xFF
  else s

/-- MR4_CHANGE (R322). -/
def execMr4Change (code : Nat) (aboveRated : Bool) (s : State) : Res :=
  onUnit code 8 s (s.mr4Changes code aboveRated)

/-- A refresh is issued, at any time in the tick (R323). -/
def State.refreshDram (s : State) : State :=
  if s.dramRuns then { s with mem := { s.mem with refreshes := s.mem.refreshes + 1 } } else s

/-- DRAM_REFRESH (R323). -/
def execDramRefresh (s : State) : Res := done s.refreshDram

end Sys2Proof.Machine
end

