-- ==== Sys2Proof/Machine/Faults.lean ====
section
/-! DEFINITION. The commands of the Guard: a report on an error pair, the end of a Class M restart, the time-out of a
reaction, and the retest of a fenced unit (R37, R385, R391 to R404). What a report changes beside the fault itself is
what the chapter of its block gives. -/

namespace Sys2Proof.Machine

/-! What a report changes in its block. -/

/-- An uncorrectable DRAM error: DRC_UE_COUNT and DRC_UE_ADDR (R317). -/
def State.dramUe (s : State) (a : Nat) : State := 
  ((s.wr DRC_UE_ADDR_LO 0 0 (a % 2 ^ 32)).wr DRC_UE_ADDR_HI 0 0 (a / 2 ^ 32 % 2)).bump DRC_UE_COUNT

/-- An uncorrectable SRAM error: MEM_UE_COUNT and MEM_UE_ADDR (R311). -/
def State.sramUeAt (s : State) (a : Nat) : State := (s.wr MEM_UE_ADDR 0 0 a).bump MEM_UE_COUNT

/-- The composition of a display is abandoned for the tick; the compositor goes on with the next (CMP 0x0A02). -/
def State.abandonCompose (s : State) (d : Nat) : State :=
  if s.tick.composing.contains d && !s.tick.composed.contains d then
    ({ s with tick := { s.tick with composing := ldel s.tick.composing d } }).composeNext (s.composesNow d)
  else s

/-- The MPLL or a DRAM delay-locked loop has lost its lock: the DRAM goes to self-refresh, which keeps its contents
(R495, R496). -/
def State.dramParks (s : State) : State := { s with mem := { s.mem with selfRefresh := true } }

/-- The firmware resets the USB host controller: every USB partner leaves, and devices enumerate anew (USB 0x0503). -/
def State.usbReset (s : State) : State :=
  let s := s.departAll [0x20, 0x21, 0x22]
  { s with usb := s.usb.map (fun u => { u with conn := false, enumerating := false, modes := [] }) }

/-- An uncorrectable error in the Keeper SRAM: a log entry reads as lost; beyond the log stands the latch store, whose
events are discarded (R419, "When it fails" of wake). -/
def State.keeperUe (s : State) (a : Nat) : State :=
  if a < 0x10000 then
    { s with log := { s.log with entries := tput .zero s.log.entries (a / 32 % 2048) { LogEntry.zero with code := 0xFFFF } } }
  else { s with power := { s.power with latched := [] } }

/-- A comb's list or cache is not used until the restart (BPM 0x0E01, 0x0E02). -/
def State.breakComb (s : State) (c : Nat) : State := { s with bpm := { s.bpm with broken := ladd s.bpm.broken c } }

/-- What a code's report changes before the fault is raised: counters, addresses, and what stops working. SOURCE of a
CLK code is the synthesiser, 6 + channel for a DRAM DLL or 8 + port for an LVDS DLL ("When it fails" of the CLK
registers). -/
def State.beforeFault (s : State) (code u a : Nat) : State :=
  if code = 0x0702 then
    (match (s.flow u).unit with
     | some x => if x.dead ∨ 32 ≤ u then s else s.unitLost u x
     | none => s)
  else if code = 0x0802 ∨ code = 0x0806 ∨ code = 0x0903 ∨ code = 0x0D02 then s.dramUe a
  else if code = 0x0803 ∨ code = 0x0C02 then s.sramUeAt a
  else if code = 0x0805 then s.bump DEC_WINDOW_VIOL_COUNT
  else if code = 0x0905 then s.bump ENC_WINDOW_VIOL_COUNT
  else if code = 0x0A02 then (s.dramUe a).abandonCompose u
  else if code = 0x0B01 then (if u < 3 then s.bump DSP_UNDERRUN_COUNT u else s)
  else if code = 0x0B05 then (if u < 3 then s.panelRestart u else s)
  else if code = 0x0C01 then s.bump MEM_CE_COUNT
  else if code = 0x0D01 then s.bump DRC_CE_COUNT
  else if code = 0x0E01 ∨ code = 0x0E02 then s.breakComb u
  else if code = 0x0F08 then s.bump SCH_TRACE_LOST_COUNT
  else if code = 0x1201 then s.bump KPR_LOG_CE_COUNT
  else if code = 0x1202 then s.keeperUe a
  else if code = 0x1403 then (if 2 ≤ u ∧ u ≤ 4 then s.loseSynth u else s)
  else if code = 0x1404 then (s.loseSynth 5).dramParks
  else if code = 0x1405 then ({ s with clk := { s.clk with dramDll := putBits s.clk.dramDll (u % 2) (u % 2) 0 } }).dramParks
  else if code = 0x1406 then (if u = 8 ∨ u = 9 then s.panelRestart (u - 8) else s)
  else s

/-- The channels that a Class C code names: those bound to its port, for a port-level code, or those that the report
names (R398). -/
def State.namedChans (s : State) (code u : Nat) (chans : List Nat) : List Nat :=
  if code = 0x0404 then s.boundToPort ((List.range 4).map (4 * u + ·))
  else if code = 0x0503 then s.boundToPort [0x20, 0x21, 0x22]
  else if code = 0x0603 then
    s.boundToPort (((List.range 32).filter (fun f => s.flag TRF_FLOW_CTL 0 f && s.fld TRF_FLOW_CTL 1 1 f == u)).map (0x40 + ·))
  else if code = 0x0701 then s.boundToPort [0x40 + u]
  else chans.filter (s.chanExists ·)

/-- Codes that no pair carries: the start-up, the retest and the Guard itself raise them (R364, R400, R404, R408, R460,
R462). -/
def ownCodes : List Nat := [0x0101, 0x0102, 0x0807, 0x0906, 0x0F06, 0x0F09, 0x100A, 0x1104, 0x1105, 0x1106]

/-! Reports. -/

/-- The fenceable unit that a report comes from; TCK 0x0306 names the kind of the busy engine. -/
def reportUnit (r : Report) (code : Nat) : Option (UnitKind × Nat) :=
  let k := if code = 0x0306 then r.kind else blockKind r.block
  match k with
  | none => none
  | some k => if r.unit < unitCount k then some (k, r.unit) else none

/-- Jobs that a unit had begun or holds: those of the report, those on a syntax engine or suspended there, and those of
which a slice had begun a row (R89, R231, R271). -/
def State.unitJobs (s : State) (unit : Option (UnitKind × Nat)) (jobs : List Nat) : List Nat :=
  match unit with
  | some (.syn, u) =>
    let e := lget SynEngine.reset s.engines u
    jobs ++ (match e.job with
             | none => []
             | some j => [j]) ++ e.saved.map (·.job)
  | some (.pix, u) => jobs ++ s.sliceJobs .pix u
  | some (.enc, u) => jobs ++ s.sliceJobs .enc u
  | some (.core, _) => jobs
  | none => jobs

/-- The SOURCE of a fault: the unit, or 0xFF for a channel's own fault. -/
def faultSource (code u : Nat) : Nat :=
  if faultClass code = some .c ∧ code ≠ 0x0404 ∧ code ≠ 0x0503 ∧ code ≠ 0x0603 ∧ code ≠ 0x0701 then 0xFF else u

/-- A good cause byte: the fault is raised on its targets. -/
def State.takeCause (s : State) (r : Report) (code : Nat) : State :=
  let unit := if faultClass code = some .e then reportUnit r code else none
  let chans := if faultClass code = some .c then s.namedChans code r.unit r.channels else []
  let addr := match unit with
    | some (.core, c) => if code = 0x0F01 then s.servedTag c r.jobs else r.addr
    | _ => r.addr
  let jobs := s.unitJobs unit r.jobs
  let s := s.beforeFault code r.unit r.addr
  let ch := if faultClass code = some .i ∨ faultClass code = some .c then r.channels.headD 0xFF else 0xFF
  let s := s.raise code { source := faultSource code r.unit, channel := ch, addr := addr }
    { unit := unit, chans := chans, jobs := jobs }
  let s := if code = 0x0604 then s.present code r.unit else s
  if code = 0x0503 then s.usbReset else s

/-- A source whose pair or cause byte cannot be believed: GRD 0x1102 (R392, Table 13.6). -/
def State.wireFault (s : State) (r : Report) (parity : Bool) : State :=
  let unit := reportUnit r 0x1102
  s.raise 0x1102 { source := r.block, addr := r.unit + (if parity then 256 else 0) }
    { unit := unit, chans := [], jobs := s.unitJobs unit r.jobs }

/-- The pair of a source is held asserted. -/
def State.holdPair (s : State) (r : Report) : State :=
  { s with guard := { s.guard with asserted := s.guard.asserted ++ [(r.block, r.unit)] } }

/-- The Guard samples a pair (R391, R392). A source that holds its pair asserted raises one fault; ETH 0x0604, whose
condition the pair itself shows, is gone when it returns to idle. -/
def State.sample (s : State) (r : Report) : State :=
  let held := s.guard.asserted.contains (r.block, r.unit)
  match r.pair with
  | .idle =>
    let s := { s with guard := { s.guard with asserted := s.guard.asserted.filter (fun p => !(p == (r.block, r.unit))) } }
    if r.block = 6 then s.gone 0x0604 r.unit else s
  | .equalOnce => s.bump GRD_GLITCH_COUNT
  | .equalTwice => if held then s else (s.holdPair r).wireFault r false
  | .asserted cause parityOk =>
    if held then s
    else if parityOk then (s.holdPair r).takeCause r (256 * r.block + cause)
    else (s.holdPair r).wireFault r true

/-- The Guard runs: the core domain is powered; in DEEP STANDBY and OFF only the Keeper is left (Table 14.1). -/
def State.guardRuns (s : State) (block : Nat) : Bool :=
  if block = 0x12 then s.pwr.keeperOn
  else s.pwr.pwrGood && decide (s.power.mode ≠ .off) && decide (¬ (s.power.mode = .deepStandby ∧ s.power.trans = .none))

/-- The code that a report raises; 0 for a pair that raises none. -/
def reportCode (r : Report) : Nat :=
  match r.pair with
  | .idle => 0
  | .equalOnce => 0
  | .equalTwice => 0x1102
  | .asserted cause parityOk => if parityOk then 256 * r.block + cause else 0x1102

/-- A report of a unit that its block has, with a cause that the tables give; no other source presents a cause. -/
def reportReal (r : Report) : Bool :=
  let code := if reportCode r = 0 then 0x1102 else reportCode r
  decide (r.unit < 256) && decide (1 ≤ r.block) && decide (r.block ≤ 0x16) && isFault code &&
    (decide (faultClass code ≠ some .e) || decide (code = 0x1102) || (reportUnit r code).isSome)

/-- Codes that report an error of DRAM data: without inline ECC the module detects none (R317, R318). -/
def dramDataCodes : List Nat := [0x0802, 0x0806, 0x0903, 0x0A02, 0x0D01, 0x0D02]

/-- The address lies in a window of a channel that the pixel slice works for: the window checker lets the access through and
raises nothing (R236). -/
def State.letsThrough (s : State) (slice addr : Nat) : Bool :=
  s.onEngines.any (fun j => decide (j.sliceKind = .pix) && s.sliceHolds j slice && s.inWindow j.desc.channel addr)

/-- A code that its unit cannot present now: another part raises it, inline ECC is off, or the window checker let the access
through. -/
def State.notPresented (s : State) (code unit addr : Nat) : Bool :=
  ownCodes.contains code || (dramDataCodes.contains code && !s.mem.iecc) || (code == 0x0805 && s.letsThrough unit addr)

/-- The Guard takes what one pair shows, where its source is one that can show it. -/
def State.takeReport (s : State) (r : Report) : State :=
  let own := match r.pair with
    | .asserted _ true => s.notPresented (reportCode r) r.unit r.addr
    | _ => false
  if reportReal r && s.guardRuns r.block && !own then s.sample r else s

/-- FAULT_REPORT (R394): the reports of one Guard cycle are taken in ascending code order ("At the limits" of error
reporting). -/
def execFaultReport (cycle : GuardCycle) (s : State) : Res :=
  done ((sortBy (fun a b : Report => decide (reportCode a ≤ reportCode b)) (cycle.report :: cycle.meets)).foldl State.takeReport s)

/-! The end of a Class M restart (R401). -/

/-- Synthesisers that lost their lock are relocked (R495, "When it fails" of the panel clocks). -/
def State.relock (s : State) : State :=
  let lost := (List.range 6).filter (fun i => 2 ≤ i && (s.synth i).state == 5)
  let s := lost.foldl (fun s i => s.lockFree i) s
  { s with clk := { s.clk with dramDll := 3 }, mem := { s.mem with selfRefresh := false, trained := 3 } }

/-- The restart ends: DP_RESTART is due in the next status block, and admission resumes at the next edge. -/
def State.restartEnd (s : State) : State :=
  if s.guard.restarting then
    let s := s.fillStores.relock
    let s := { s with
      guard := { s.guard with restarting := false, resumeAtEdge := true }
      hif := { s.hif with dpRestart := true } }
    s.endReaction
  else s

/-- DATA_PATH_RESTART_END (R401). -/
def execDataPathRestartEnd (s : State) : Res := done s.restartEnd

/-- A Class M restart has not ended within 250 ms of its start: GRD 0x1104 (R395, R404). A Class C or E reaction of this
model completes at the next edge, so that its bound is not reached. -/
def State.reactionLate (s : State) : State :=
  match s.guard.reaction with
  | none => s
  | some r => if s.guard.restarting then (s.advanceTo (1000 * (r.startNs + 250000000))).raise 0x1104 else s

/-- REACTION_TIMEOUT (R404). -/
def execReactionTimeout (s : State) : Res := done s.reactionLate

/-! Retest (R37, R385). -/

/-- A fenced unit is retested: it returns at the next edge when it passes; a syntax engine must also pass the digest
check and the read-back of its patch RAM. Otherwise the code of its kind is logged. -/
def State.retest (s : State) (k : UnitKind) (u : Nat) (passed digestOk readBackOk : Bool) : State :=
  if s.isFenced k u && !s.guard.returning.contains (k, u) && !s.guard.safe && !s.guard.restarting && !s.asleep &&
      s.sys.bootStage == 7 then
    let ok := passed && (match k with
      | .syn => digestOk && readBackOk
      | .pix => true
      | .enc => true
      | .core => true)
    if ok then { s with guard := { s.guard with returning := s.guard.returning ++ [(k, u)] } }
    else s.raiseCond (retestCode k) { source := u }
  else s

/-- UNIT_RETEST (R37). -/
def execUnitRetest (kind : UnitKind) (unit : Nat) (passed digestOk readBackOk : Bool) (s : State) : Res :=
  onUnit unit (unitCount kind) s (s.retest kind unit passed digestOk readBackOk)

end Sys2Proof.Machine
end

