-- ==== Sys2Proof/Machine/Fields.lean ====
section
/-! DEFINITION. The commands of field I/O (R538 to R553). -/

namespace Sys2Proof.Machine

/-- FIELD_INPUT_EDGE (R551 to R553). -/
def execFieldInputEdge (input : Nat) (rising : Bool) (instant : Nat) (s : State) : Res :=
  onUnit input 4 s (s.finEdge input rising instant)

/-- FIELD_PULSE_START (R541). -/
def execFieldPulseStart (output : Nat) (s : State) : Res := onUnit output 4 s (s.pulseStart output)

/-- FIELD_PULSE_END (R541). -/
def execFieldPulseEnd (output : Nat) (s : State) : Res := onUnit output 4 s (s.pulseEnd output)

/-- OPEN_LOAD_DETECT (R545). -/
def execOpenLoadDetect (output : Nat) (whileOn : Bool) (s : State) : Res :=
  onUnit output 4 s (s.openLoad output whileOn)

/-- SHORT_TO_GROUND (R545). -/
def execShortToGround (output : Nat) (s : State) : Res := onUnit output 4 s (s.shortGround output)

/-- SHORT_RETRY (R546). -/
def execShortRetry (output : Nat) (stillShort : Bool) (s : State) : Res :=
  onUnit output 4 s (s.retryShort output stillShort)

/-- EXTERNAL_DRIVE (R548). -/
def execExternalDrive (output : Nat) (s : State) : Res := onUnit output 4 s (s.extDrive output)

/-- VFIELD_LOSS (R538). -/
def execVfieldLoss (s : State) : Res := done s.vfieldGone

/-- VFIELD_RESTORE (R538). -/
def execVfieldRestore (millivolts : Nat) (s : State) : Res := done (s.vfieldBack millivolts)

/-- FIELD_DIAGNOSIS_END (R547). -/
def execFieldDiagnosisEnd (output : Nat) (external : Bool) (s : State) : Res :=
  onUnit output 4 s (s.diagEnd output external)

end Sys2Proof.Machine
end

