-- ==== Sys2Proof/Machine/HostJobs.lean ====
section
/-! DEFINITION. The jobs that use no engine and no channel: FIO_SET, LOG_READ, STATS_READ, FW_STAGE and NET_TX (R121,
R207, R208, R420, R463, R464, R539, R540). -/

namespace Sys2Proof.Machine

/-! FIO_SET (R539, R540). -/

/-- FIO_SET: checked, and then waiting for its edge. -/
def State.fioSet (s : State) (id : Nat) : State :=
  s.takeJob id 0x30 (fun j s =>
    let l := (List.range 4).map (foutSetAt j.desc.bytes)
    if l.all s.foutSetOk then
      let (t, late) := s.tickFor (j.u32 0x10)
      let s := { s with fio := { s.fio with sets := s.fio.sets ++ [(t, l)] } }
      s.finish id (b2n late) (t % 2 ^ 32)
    else s.refuse id 0x46)

/-- FIO_SET (R540). -/
def execFioSet (job : Nat) (s : State) : Res := done (s.fioSet job)

/-! Staging (Table 10.2). -/

/-- The owner tag of the firmware's work buffers (Table 10.5). -/
def firmwareTag : Nat := 0xA0

/-- Cells for staging are allocated under BPM_POLICY.FW and free again when the copy is made; without them the job is
refused. -/
def State.withStaging (s : State) (id bytes : Nat) (f : State → State) : State :=
  match s.allocMany firmwareTag (!s.flag BPM_POLICY 2) (chainOf bytes) [] with
  | (s, .error k) => s.poolFails (·.endJob id { status := 0x21, reason := 0x60 + k })
  | (s, .ok hs) => f (s.returnCells hs)

/-- Bytes that a job copies to host memory, as far as the link lets it. -/
def State.copyOut (s : State) (a : Nat) (b : List Byte) : State := if s.canDma then s.hostWrite a b else s

/-! LOG_READ (R420). -/

/-- What LOG_READ copies: the first entry number, how many, and SKIPPED. -/
def logSpan (w held first count : Nat) : Nat × Nat × Bool :=
  let d := (w + 2 ^ 32 - first) % 2 ^ 32
  if d = 0 ∨ 2 ^ 31 < d then (w, 0, false)
  else
    let from_ := min d held
    let n := from_ - (d - count)
    (if n = 0 then w else (w + 2 ^ 32 - from_) % 2 ^ 32, n, held == 2048 && decide (held < d))

/-- LOG_READ (R420); `bad` are the places of the log, entry number modulo 2048, whose check bits the copy would find
wrong beyond correction (R419). -/
def State.readLog (s : State) (id : Nat) (bad : List Nat) : State :=
  s.takeJob id 0x40 (fun j s =>
    let count := j.u16 0x1C
    s.withStaging id (32 + 32 * count) (fun s =>
      let (first, n, skipped) := logSpan s.log.wr s.log.held (j.u32 0x18) count
      let head := leBytes 4 first ++ leBytes 4 n ++ leBytes 4 s.log.wr ++ leBytes 4 (s.rd KPR_LOG_LOST) ++
        leBytes 8 s.ktime ++ leBytes 8 0
      let found := ((List.range n).map (first + ·)).filter (fun e => bad.contains (e % 2048))
      let body := (List.range n).flatMap (fun k =>
        (if found.contains (first + k) then LogEntry.lost else s.logAt (first + k)).bytes)
      let s := found.foldl (fun s e => s.loseEntry e) s
      (s.copyOut (j.u64 0x10) (head ++ body)).finish id (b2n skipped) n))

/-- LOG_READ (R420). -/
def execLogRead (run : LogReadRun) (s : State) : Res := done (s.readLog run.job run.bad)

/-! STATS_READ (R121). -/

/-- First offset of a register block, and the offset after it (Table 0.4). -/
def blockSpan (b : Nat) : Nat × Nat :=
  let l := [0, 0x00000, 0x10000, 0x20000, 0x30000, 0x38000, 0x40000, 0x48000, 0x50000, 0x58000, 0x60000, 0x68000,
            0x70000, 0x78000, 0x80000, 0x90000, 0xA0000, 0xB0000, 0xC0000, 0xE0000, 0xE8000, 0xF0000, 0xF8000,
            0x100000]
  (lget 0 l b, lget 0 l (b + 1))

/-- A register word as one instant has it, high words whole: no latch is used or changed (R121). -/
def State.statWord (s : State) (off : Nat) : Nat :=
  match findReg off with
  | none => s.wordAt .pcie off
  | some (d, i, j, w) =>
    if isHigh d w then
      (match findReg (off - 4) with
       | some (d', i', _, _) => (s.highWord d' i' 0).getD 0
       | none => 0)
    else s.shown d i j w

/-- STATS_READ: words past the end of the block read 0 (R9, R121). -/
def State.readStats (s : State) (id : Nat) : State :=
  s.takeJob id 0x41 (fun j s =>
    let count := j.u16 0x1A
    s.withStaging id (4 * count) (fun s =>
      let (base, top) := blockSpan (j.u8 0x18)
      let at' := base + j.u32 0x1C
      let words := (List.range count).map (fun k => if at' + 4 * k < top then s.statWord (at' + 4 * k) else 0)
      (s.drawn.copyOut (j.u64 0x10) (words.flatMap (leBytes 4))).finish id 0 count))

/-- STATS_READ (R121). -/
def execStatsRead (job : Nat) (s : State) : Res := done (s.readStats job)

/-! FW_STAGE (R463, R464, Tables 15.6 and 15.7). -/

/-- The inactive slot: the one that was not booted. -/
def State.inactive (s : State) : Nat := 1 - s.sys.bootSlot

/-- FW_STAGE jobs run one at a time, in fetch order (R463). -/
def State.stageBefore (s : State) (id : Nat) : Bool :=
  s.hif.jobs.any (fun j => decide (j.id < id) && j.desc.opcode == 0x50 && decide (j.phase = .waiting))

/-- An FW_STAGE job of an action is taken up. -/
def State.takeStage (s : State) (id action : Nat) (f : Job → State → State) : State :=
  s.takeJob id 0x50 (fun j s => if j.u8 0x1C ≠ action ∨ s.stageBefore id = true then s else f j s)

/-- The first WRITE after the last COMMIT marks the inactive slot EMPTY. -/
def State.beginStaging (s : State) : State :=
  if s.sys.staging then s
  else
    let s := s.modSlot s.inactive (fun x => { x with state := 0 })
    { s with sys := { s.sys with staging := true } }

/-- WRITE (R464). -/
def State.stageWrite (s : State) (id : Nat) (data : Served (List Byte)) (ok : Bool) : State :=
  s.takeStage id 0 (fun j s =>
    let len := j.u32 0x18
    let off := j.u32 0x20
    if slotSize < off + len then s.refuse id 0xC6
    else
      s.beginStaging.withData id data (fun b s =>
        let s := s.mramWrite (slotBase s.inactive + off) (padTo len b) ok
        if ok then s.finish id 0 len else s.refuse id 0xC5))

/-- FW_STAGE_WRITE (R464). -/
def execFwStageWrite (job : Nat) (data : Served (List Byte)) (writeOk : Bool) (s : State) : Res :=
  done (s.stageWrite job data writeOk)

/-- COMMIT: the checks of R460 and of the embedded patch; the slot becomes TRIAL and preferred (R464). -/
def State.stageCommit (s : State) (id : Nat) : State :=
  s.takeStage id 1 (fun _ s =>
    let k := s.inactive
    let f := s.slotByte k
    let e := s.stagedErr f slotSize
    let s := { s with sys := { s.sys with staging := false } }
    if e ≠ 0 then s.refuse id e
    else
      let version := imgNat f 0x0C 4
      let s := s.modSlot k (fun _ => { state := 2, version := version, epoch := imgNat f 0x10 1 })
      let s := { s with sys := { s.sys with preferred := k, trialBooted := false } }
      s.finish id 0 version)

/-- FW_STAGE_COMMIT (R464). -/
def execFwStageCommit (job : Nat) (s : State) : Res := done (s.stageCommit job)

/-- CONFIRM: the running slot goes from TRIAL to VALID; DETAIL bit 0 says whether it changed (R464). -/
def State.stageConfirm (s : State) (id : Nat) : State :=
  s.takeStage id 2 (fun _ s =>
    let k := s.sys.bootSlot
    if (s.slot k).state = 2 then
      let s := s.modSlot k (fun x => { x with state := 1 })
      ({ s with sys := { s.sys with trialBooted := false } }).finish id 1
    else s.finish id)

/-- FW_STAGE_CONFIRM (R464). -/
def execFwStageConfirm (job : Nat) (s : State) : Res := done (s.stageConfirm job)

/-- The MRAM user region: base and size (Table 15.4). -/
def userBase : Nat := 0x300000
/-- Size of the user region. -/
def userSize : Nat := 0xF0000

/-- USER_WRITE (R464). -/
def State.userWrite (s : State) (id : Nat) (data : Served (List Byte)) (ok : Bool) : State :=
  s.takeStage id 3 (fun j s =>
    let len := j.u32 0x18
    let off := j.u32 0x20
    if userSize < off + len then s.refuse id 0xC6
    else
      s.withData id data (fun b s =>
        let s := s.mramWrite (userBase + off) (padTo len b) ok
        if ok then s.finish id 0 len else s.refuse id 0xC5))

/-- USER_WRITE (R464). -/
def execUserWrite (job : Nat) (data : Served (List Byte)) (writeOk : Bool) (s : State) : Res :=
  done (s.userWrite job data writeOk)

/-- USER_READ (R464). -/
def State.userRead (s : State) (id : Nat) : State :=
  s.takeStage id 4 (fun j s =>
    let len := j.u32 0x18
    let off := j.u32 0x20
    if userSize < off + len then s.refuse id 0xC6
    else (s.copyOut (j.u64 0x10) (imgBytes s.mramByte (userBase + off) len)).finish id 0 len)

/-- USER_READ (R464). -/
def execUserRead (job : Nat) (s : State) : Res := done (s.userRead job)

/-! NET_TX (R157, R207, R208, Table 5.2). -/

/-- The 16-bit words of a byte string, most significant byte first. -/
def beWords : List Byte → List Nat
  | [] => []
  | [a] => [256 * a.toNat]
  | a :: b :: t => (256 * a.toNat + b.toNat) :: beWords t

/-- The Internet checksum of a byte string. -/
def inetSum (b : List Byte) : Nat :=
  let n := (beWords b).sum
  let n := n % 65536 + n / 65536
  65535 - (n % 65536 + n / 65536)

/-- Two bytes at an offset, most significant first. -/
def putBe16 (b : List Byte) (o v : Nat) : List Byte :=
  b.take o ++ [BitVec.ofNat 8 (v / 256), BitVec.ofNat 8 v] ++ b.drop (o + 2)

/-- CSUM: the IPv4 header and UDP checksums are filled in; a UDP sum of 0 is sent as 0xFFFF, and a frame that is not
IPv4, or not UDP, keeps its bytes there. -/
def fillSums (b : List Byte) : List Byte :=
  let hl := 4 * (leAt b 14 1 % 16)
  if beAt b 12 2 ≠ 0x0800 ∨ b.length < 34 ∨ hl < 20 ∨ b.length < 14 + hl then b
  else
    let b := putBe16 b 24 0
    let b := putBe16 b 24 (inetSum ((b.drop 14).take hl))
    let u := 14 + hl
    let len := beAt b (u + 4) 2
    if leAt b 23 1 ≠ 17 ∨ b.length < u + 8 ∨ b.length < u + len then b
    else
      let b := putBe16 b (u + 6) 0
      let pseudo := ((b.drop 26).take 8) ++ [0, 17, BitVec.ofNat 8 (len / 256), BitVec.ofNat 8 len]
      let v := inetSum (pseudo ++ (b.drop u).take len)
      putBe16 b (u + 6) (if v = 0 then 65535 else v)

/-- DEPTH_KIB of a queue in bytes. -/
def State.qDepth (s : State) (q : Nat) : Nat := 1024 * s.fld TRF_Q_CFG 15 8 q

/-- NET_TX copies its frame into a cell and queues it (R207, R208). -/
def State.sendNet (s : State) (id : Nat) (data : Served (List Byte)) : State :=
  s.takeJob id 0x51 (fun j s =>
    let n := j.desc.channel
    let q := j.u8 0x1A
    let len := j.u16 0x18
    if n < 32 ∧ (s.chan n).state = 3 then s.endJob id { status := 0x22 }
    else if !s.qOn q then s.refuse id 0x46
    else if s.qDepth q ≤ (s.queue q).netBytes then s.endJob id { status := 0x21, reason := 0x70 }
    else
      s.withData id data (fun b s =>
        match s.allocCell (max 60 len) (0x80 + q) true with
        | (s, none) => s.poolFails (·.endJob id { status := 0x21, reason := 0x70 })
        | (s, some h) =>
          let b := padTo len b
          let b := padTo (max 60 len) (if bitAt (j.u8 0x1B) 0 then fillSums b else b)
          let s := s.modJob id (fun j => { j with phase := .executing })
          s.enqueue q { owner := .netTx id, charge := max 60 len + 24, len := len, queuedPs := s.clock.ps,
                        queuedTick := s.tick.number.toNat, cell := some h, data := b }))

/-- NET_TX (R207). -/
def execNetTx (job : Nat) (data : Served (List Byte)) (s : State) : Res := done (s.sendNet job data)

end Sys2Proof.Machine
end

