-- ==== Sys2Proof/Machine/Link.lean ====
section
/-! DEFINITION. The PCI Express link: loss and return, bus mastering, device states, PERST_N, requests in RETAIN, and
failed writes to host memory (R90, R91, R116, R117, R131, R145, R432, R560). -/

namespace Sys2Proof.Machine

/-- Ring operation stops until a restart: what was being fetched is not fetched, and completions that wait for room are
dropped, which frees their job-table entries (R116, R117). -/
def State.stopRings (s : State) : State :=
  let s := { s with hif := { s.hif with linkStopped := true, fetching := false, polling := none } }
  ({ s with bus := { s.bus with linkLost := true } }).drainDone

/-- The function's configuration space is reset: bus mastering, device state, MSI-X table and pending bits (R94). -/
def State.resetFunction (s : State) : State :=
  { s with bus := { s.bus with linkGen := 0, linkWidth := 0, bme := false, d3hot := false, msixTable := [], pba := [] } }

/-- The link goes down (R116). -/
def State.linkDown (s : State) : State :=
  if s.bus.linkGen = 0 then s
  else
    let s := s.resetFunction
    if s.isActive then ((s.stopRings).bump HIF_LINK_DOWN_COUNT).raiseCond 0x0201 else s

/-- PCIE_LINK_DOWN (R116). -/
def execPcieLinkDown (s : State) : Res := done s.linkDown

/-- The link trains: LINK_GEN 1 to 3, 1, 2 or 4 lanes (Table 3.16). The endpoint answers from boot stage 1 on. -/
def State.linkUp (s : State) (gen width : Nat) : State :=
  if s.bus.perst || s.bus.endpointOff || s.sys.bootStage == 0 || s.sys.resetLow || !s.pwr.pwrGood then s
  else ({ s with bus := { s.bus with linkGen := gen, linkWidth := width } }).gone 0x0201 0xFF

/-- PCIE_LINK_UP (R90, Table 3.16). -/
def execPcieLinkUp (gen width : Nat) (s : State) : Res :=
  done (if 1 ≤ gen ∧ gen ≤ 3 ∧ (width = 1 ∨ width = 2 ∨ width = 4) then s.linkUp gen width else s)

/-- The host clears the bus-master bit (R145). -/
def State.masterOff (s : State) : State :=
  if s.bus.bme = false then s
  else
    let s := { s with bus := { s.bus with bme := false } }
    if s.isActive then (s.stopRings).raiseCond 0x0209 else s

/-- BUS_MASTER_DISABLE (R145). -/
def execBusMasterDisable (s : State) : Res := done s.masterOff

/-- The host sets the bus-master bit; pending messages go out (R94, R97). -/
def State.masterOn (s : State) : State :=
  if s.bus.linkGen = 0 then s else (({ s with bus := { s.bus with bme := true } }).gone 0x0209 0xFF).flushMsi

/-- BUS_MASTER_ENABLE (R97). -/
def execBusMasterEnable (s : State) : Res := done s.masterOn

/-- The host moves the function to D3hot or D0: in D3hot ring traffic stops as it does when bus mastering is disabled
(R91, R94, R145). -/
def State.deviceState (s : State) (d3hot : Bool) : State :=
  if s.bus.linkGen = 0 then s
  else
    let stops := d3hot && !s.bus.d3hot && s.isActive
    let s := { s with bus := { s.bus with d3hot := d3hot } }
    if stops then s.stopRings else s.flushMsi

/-- DEVICE_STATE_CHANGE (R91). -/
def execDeviceStateChange (d3hot : Bool) (s : State) : Res := done (s.deviceState d3hot)

/-- PERST_N has been low for 100 µs: the endpoint resets (R560). -/
def State.perstLow (s : State) : State :=
  let s := { s with bus := { s.bus with perst := true } }
  (s.linkDown).resetFunction

/-- PERST_ASSERT (R560). -/
def execPerstAssert (s : State) : Res := done s.perstLow

/-- PERST_N is released; in DEEP STANDBY that is a wake event (R560, Table 14.5). -/
def State.perstHigh (s : State) : State :=
  if s.bus.perst = false then s
  else
    let s := { s with bus := { s.bus with perst := false } }
    match s.power.mode with
    | .deepStandby => s.wakeNow 9
    | .off => s
    | .retain => s
    | .idle => s
    | .run => s
    | .safe => s

/-- PERST_RELEASE (R560). -/
def execPerstRelease (s : State) : Res := done s.perstHigh

/-- The module is in RETAIN, or past the quiesce edge of its entry. -/
def State.retaining (s : State) : Bool :=
  (match s.power.mode with
   | .retain => true
   | .off => false
   | .deepStandby => false
   | .idle => false
   | .run => false
   | .safe => false) || decide (s.power.trans = .quiesced .retain)

/-- A request reaches the module in RETAIN: it wakes the module and is held, or it is held alone, or a configuration
request is completed with Retry Status (R432). -/
def State.requestInRetain (s : State) (configuration : Bool) (offset : Nat) (value : Option Word) : State :=
  if s.retaining = false ∨ s.bus.linkGen = 0 then s
  else
    let hold (s : State) : State := { s with bus := { s.bus with held := s.bus.held ++ [(configuration, offset, value)] } }
    if s.wakeOn 9 then (hold s).wakeNow 9
    else if configuration then { s with bus := { s.bus with crs := s.bus.crs + 1 } }
    else hold s

/-- PCIE_REQUEST_IN_RETAIN (R432). -/
def execPcieRequestInRetain (configuration : Bool) (offset : Nat) (value : Option Word) (s : State) : Res :=
  done (s.requestInRetain configuration offset value)

/-- A double word of the configuration space: the IDs and the class code, the bus-master bit, BAR0 as a 64-bit
non-prefetchable memory BAR, and no other BAR (R90, Table 3.1); the rest is not described (notes/assumptions/162.md). -/
def State.configWord (s : State) (off : Nat) : Nat :=
  let open_ := (Config.configSpace off).toNat
  if off = 0x00 ∨ off = 0x2C then 0x5A40 * 2 ^ 16 + 0x1FC4
  else if off = 0x04 then putBits open_ 2 2 (b2n s.bus.bme)
  else if off = 0x08 then 0x040000 * 2 ^ 8 + open_ % 2 ^ 8
  else if off = 0x10 then putBits open_ 3 0 4
  else if 0x18 ≤ off ∧ off < 0x28 then 0
  else open_

/-- A configuration request completes: the command register holds the bus-master bit (R90, R97). -/
def State.configRequest (s : State) (off : Nat) (value : Option Word) : State :=
  match value with
  | none => s.setRead .pcie (s.configWord off)
  | some v => if off = 0x04 then (if bitAt v.toNat 2 then s.masterOn else s.masterOff) else s

/-- One held request is completed (R432). -/
def State.completeHeld (s : State) (r : Bool × Nat × Option Word) : State :=
  if r.1 then s.configRequest r.2.1 r.2.2
  else
    match r.2.2 with
    | some v => s.writeWord .pcie r.2.1 v
    | none =>
      let (s, v) := s.readWord .pcie r.2.1
      s.setRead .pcie v

/-- The requests held in RETAIN are completed in order (R432). -/
def State.completeAllHeld (s : State) : State :=
  let l := s.bus.held
  l.foldl State.completeHeld { s with bus := { s.bus with held := [] } }

/-! Failed writes (R131). -/

/-- A producer index that the last status block shows past a lost entry, which was written at index `at'`, shows one
entry less (R110, R131; notes/assumptions/158.md). -/
def State.patchStatus (s : State) (off at' now : Nat) : State :=
  let a := s.rd64 HIF_ST_BASE_LO HIF_ST_BASE_HI + off
  let shown := leNat (readBytes 0 s.mem.host a 2)
  if s.hif.seq ≠ 0 ∧ 0 < ringCount shown at' ∧ ringCount shown at' ≤ ringCount now at' then
    s.hostWrite a (leBytes 2 ((shown + 65535) % 65536))
  else s

/-- The bitstream record of a completion that moved one slot down moves with it (R256). -/
def lowerRecords (at' now : Nat) (l : List BsRecord) : List BsRecord :=
  l.map (fun r => { r with pi := r.pi.map (fun p =>
    if 0 < ringCount p at' ∧ ringCount p at' < ringCount now at' then (p + 65535) % 65536 else p) })

/-- The bitstream records of the encoders that complete to ring `n` follow a lost entry. -/
def State.lowerRings (s : State) (n at' now : Nat) : State :=
  { s with chans := s.chans.map (fun p => (p.1,
      match p.2.enc with
      | some e => if e.cq = n then { p.2 with enc := some { e with bsRecords := lowerRecords at' now e.bsRecords } }
                  else p.2
      | none => p.2)) }

/-- A completion entry did not reach host memory: its slot is used again. -/
def State.takeBackCpl (s : State) (n back : Nat) : State :=
  let q := s.cq n
  if q.recent.length ≤ back then s
  else
    let at' := (q.pi + 65535 - back) % 65536
    let (s, posts) := s.loseSlot (s.cqAt n) q.pi back q.recent id
    let s := s.setCq n { q with pi := (q.pi + 65535) % 65536, recent := posts,
                                unsignalled := if back < q.unsignalled then q.unsignalled - 1 else q.unsignalled }
    ((s.lowerRings n at' q.pi).patchStatus (0x180 + 2 * n) at' q.pi).bump HIF_CPL_LOST_COUNT

/-- LOST_BEFORE is set in an event entry (Table 3.12). -/
def markLost (entry : List Byte) : List Byte := lmod entry 0x09 (· ||| 2)

/-- An event entry did not reach host memory: its slot is used again, and the next event says so. -/
def State.takeBackEvent (s : State) (back : Nat) : State :=
  let h := s.hif
  if h.evRecent.length ≤ back then s
  else
    let at' := (h.evPi + 65535 - back) % 65536
    let (s, posts) := s.loseSlot s.evAt h.evPi back h.evRecent markLost
    let s := { s with hif := { h with evPi := (h.evPi + 65535) % 65536, evRecent := posts,
                                      lostBefore := h.lostBefore || back == 0, lostNow := true } }
    (s.patchStatus 0x10 at' h.evPi).bump HIF_EVQ_LOST_COUNT

/-- Bytes that a STATS_READ or LOG_READ copies. -/
def Job.copyBytes (j : Job) : Nat := if j.desc.opcode = 0x40 then 32 + 32 * j.u16 0x1C else 4 * j.u16 0x1A

/-- The copy of a STATS_READ or LOG_READ is made and fails: what its buffer holds is a free value, and the job ends so
(R131, R396). -/
def State.copyFailed (s : State) (id : Nat) : State :=
  match s.job? id with
  | none => s.raiseI 0x0204
  | some j =>
    if (j.desc.opcode = 0x40 ∨ j.desc.opcode = 0x41) ∧ j.phase = .waiting then
      s.takeJob id j.desc.opcode (fun j s =>
        s.withStaging id j.copyBytes (fun s =>
          ((s.copyOut (j.u64 0x10) (codedBytes s.fresh 0 j.copyBytes)).freshen.raiseI 0x0204
            { discarded := 1 }).endJob id { status := 0x40, fault := 0x0204 }))
    else s.raiseI 0x0204

/-- A write to host memory completes with an error (R131). -/
def State.writeFailed (s : State) (target : DmaTarget) : State :=
  if !s.canDma then s
  else
    let s := s.bump HIF_DMA_ERR_COUNT
    match target with
    | .completion ring back => (s.raiseI 0x0204).takeBackCpl ring back
    | .event back => (s.raiseI 0x0204).takeBackEvent back
    | .statusBlock => s.raiseI 0x0204
    | .copy job => s.copyFailed job

/-- DMA_WRITE_FAILURE (R131). -/
def execDmaWriteFailure (target : DmaTarget) (s : State) : Res := done (s.writeFailed target)

end Sys2Proof.Machine
end

