-- ==== Sys2Proof/Machine/Panels.lean ====
section
/-! DEFINITION. Panels: their arrival and departure, eDP training, the timers of panel power, the hold after a Class M
restart, and raw detect pads (R291, R296 to R300, R357; Tables 4.9, 8.6). -/

namespace Sys2Proof.Machine

/-- Port code of a display (Table 4.6). -/
def displayPort (d : Nat) : Nat := if d = 2 then 0x80 else 0x60 + d

/-- Identity of an eDP panel: EDID bytes 8 to 17 (R173). -/
def edidIdent (edid : List Byte) : Nat := crc32 (padTo 10 (edid.drop 8))

/-- The wait for HPD in a power-up ends (R297, step 2). -/
def State.hpdSeen (s : State) (d : Nat) : State :=
  s.modDisp d (fun x => if x.step = .waitHpd then { x with step := .waitLink } else x)

/-- The partner that a panel is (Tables 4.8, 4.9); an LVDS panel has no identity, and an EDID that could not be read
gives neither identity nor size. -/
def panelPartner (d : Nat) (edid : Option (List Byte)) (width height : Nat) : Partner :=
  let x := { Partner.free with type := if d = 2 then 6 else 5, port := displayPort d }
  if d = 2 then
    match edid with
    | some b => { x with flags := 3, width := width % 65536, height := height % 65536, ident := edidIdent b }
    | none => x
  else x

/-- A panel is detected (Table 4.9, R297): it arrives, or, when it is present, a later EDID that differs is
reported with CHANGE 1. It powers no display by itself (R299). -/
def State.panelArrives (s : State) (d : Nat) (edid : Option (List Byte)) (width height : Nat) : State :=
  if s.portsOn = false then s
  else
    let y := panelPartner d edid width height
    let was := (s.disp d).present
    let ident := if y.flags = 0 then none else some y.ident
    let s := (s.modDisp d (fun x => { x with present := true, raw := true, ident := ident })).hpdSeen d
    match s.atPort (displayPort d) with
    | none => if was then s else s.arrive y
    | some p =>
      let x := s.partner p
      if x.ident = y.ident ∧ x.flags = y.flags then s
      else (s.setPartner p { x with flags := y.flags, width := y.width, height := y.height, ident := y.ident }).partnerChanged
        p 1 0xFF

/-- PANEL_DETECT_ASSERT (R297). -/
def execPanelDetectAssert (display : Nat) (edid : Option (List Byte)) (width height : Nat) (s : State) : Res :=
  onUnit display 3 s (s.panelArrives display edid width height)

/-- A panel departs and is powered down at once (R299). -/
def State.panelLeaves (s : State) (d : Nat) : State :=
  if s.portsOn = false ∨ (s.disp d).present = false then s
  else
    let s := (s.modDisp d (fun x => { x with present := false, raw := false })).departAll [displayPort d]
    if s.panelHere d then s else s.panelDown d

/-- PANEL_DEPART (R299). -/
def execPanelDepart (display : Nat) (s : State) : Res := onUnit display 3 s (s.panelLeaves display)

/-- The link of a display runs: it has been trained, and the display is not powered down (R297). -/
def PanelStep.linked : PanelStep → Bool
  | .waitVideo => true
  | .waitBacklight => true
  | .on => true
  | .off => false
  | .waitHpd => false
  | .waitLink => false
  | .training => false
  | .waitLinkOff => false
  | .waitVddOff => false
  | .waitOff => false

/-- IRQ_HPD: a lost link is retrained without a power cycle (R300). -/
def State.irq (s : State) (linkLost : Bool) : State :=
  if linkLost && (s.disp 2).step.linked then
    (s.modDisp 2 (fun x => { x with retrain := true })).bump DSP_RETRAIN_COUNT 2
  else s

/-- IRQ_HPD (R300). -/
def execIrqHpd (linkLost : Bool) (s : State) : Res := done (s.irq linkLost)

/-- Link training ends with the configurations that train (R296, R300). -/
def State.trainingEnd (s : State) (trained : List (Nat × Nat)) : State :=
  let x := s.disp 2
  let again := x.retrain
  if x.step ≠ .training ∧ again = false then s
  else
    match s.trainedAs 2 trained with
    | some (l, r) =>
      let s := s.modDisp 2 (fun x => { x with trLanes := l, trRate := r, retrain := false, dark := false })
      if again then s.raiseI 0x0B03 { source := 2 } else s.linkOn 2
    | none =>
      (s.modDisp 2 (fun x => { x with dark := true, retrain := false, scans := false, step := .training })).raiseI 0x0B02
        { source := 2 }

/-- LINK_TRAINING_END (R296). -/
def execLinkTrainingEnd (trained : List (Nat × Nat)) (s : State) : Res := done (s.trainingEnd trained)

/-- Time goes on to `ms` milliseconds after the present step of a display began. -/
def State.panelTime (s : State) (d ms : Nat) : State := s.advanceTo ((s.disp d).since + ms * 10 ^ 9)

/-- T_HPD passes without HPD: the sequence goes on (R297). -/
def State.hpdTimeout (s : State) : State :=
  match (s.disp 2).step with
  | .waitHpd => (s.panelTime 2 (s.fld DSP_SEQ2 23 16 2)).modDisp 2 (fun x => { x with step := .waitLink })
  | _ => s

/-- HPD_WAIT_TIMEOUT (R297). -/
def execHpdWaitTimeout (s : State) : Res := done s.hpdTimeout

/-- T_VDD_LINK has passed since VDD_EN rose: the link starts; eDP trains (R297). -/
def State.vddLink (s : State) (d : Nat) : State :=
  match (s.disp d).step with
  | .waitLink =>
    let s := s.panelTime d (s.fld DSP_SEQ 7 0 d)
    if d = 2 then s.modDisp d (fun x => { x with step := .training, since := s.clock.ps }) else s.linkOn d
  | _ => s

/-- VDD_LINK_TIMER (R297). -/
def execVddLinkTimer (display : Nat) (s : State) : Res := onUnit display 3 s (s.vddLink display)

/-- T_FRAME_BL after the first frame the backlight is on (R297). -/
def State.frameBl (s : State) (d : Nat) : State :=
  match (s.disp d).step with
  | .waitBacklight =>
    (s.panelTime d (s.fld DSP_SEQ 15 8 d)).modDisp d (fun x => { x with step := .on })
  | _ => s

/-- FRAME_BL_TIMER (R297). -/
def execFrameBlTimer (display : Nat) (s : State) : Res := onUnit display 3 s (s.frameBl display)

/-- T_BL_LINK after the backlight stopped the link stops (R298). -/
def State.blLink (s : State) (d : Nat) : State :=
  match (s.disp d).step with
  | .waitLinkOff => (s.panelTime d (s.fld DSP_SEQ 23 16 d)).linkOff d
  | _ => s

/-- BL_LINK_TIMER (R298). -/
def execBlLinkTimer (display : Nat) (s : State) : Res := onUnit display 3 s (s.blLink display)

/-- T_LINK_VDD after the link stopped VDD_EN falls (R298). -/
def State.linkVdd (s : State) (d : Nat) : State :=
  match (s.disp d).step with
  | .waitVddOff =>
    let s := s.panelTime d (s.fld DSP_SEQ 31 24 d)
    s.modDisp d (fun x => { x with step := .waitOff, since := s.clock.ps })
  | _ => s

/-- LINK_VDD_TIMER (R298). -/
def execLinkVddTimer (display : Nat) (s : State) : Res := onUnit display 3 s (s.linkVdd display)

/-- T_OFF after VDD_EN fell the display is off, and a power-up that waited runs (R298). -/
def State.offWait (s : State) (d : Nat) : State :=
  match (s.disp d).step with
  | .waitOff =>
    let again := (s.disp d).again
    let s := s.panelTime d (s.fld DSP_SEQ2 15 0 d)
    let s := s.modDisp d (fun x => { x with step := .off, again := false, front := none, back := none })
    if again then s.panelUp d else s
  | _ => s

/-- OFF_WAIT_TIMER (R298). -/
def execOffWaitTimer (display : Nat) (s : State) : Res := onUnit display 3 s (s.offWait display)

/-- 2 s after a Class M restart began without a flip every display shows HOLD_RGB (R291). -/
def State.hold (s : State) : State :=
  match s.cmp.holdFrom with
  | none => s
  | some t =>
    if s.guard.safe then s
    else
      let s := (s.advanceTo (1000 * (t + 2 * 10 ^ 9))).raiseI 0x0A04
      { s with cmp := { s.cmp with holdFrom := none, holding := (List.range 3).filter (fun d => (s.disp d).scans) } }

/-- HOLD_TIMEOUT (R291). -/
def execHoldTimeout (s : State) : Res := done s.hold

/-- A raw detect pad changes: Dispatcher flag 5, and its debounce starts again (R357, Table 11.3). A rising HPD ends the
wait of a power-up. -/
def State.padChange (s : State) (pad : DetectPad) : State :=
  if s.portsOn = false then s
  else
    let s : State := match pad with
      | .cam p => s.modCsi p (fun c => { c with rawDet := !c.rawDet })
      | .panel d => s.modDisp d (fun x => { x with raw := !x.raw })
      | .hpd =>
        let s := s.modDisp 2 (fun x => { x with raw := !x.raw })
        if (s.disp 2).raw then s.hpdSeen 2 else s
    s.hwFlag 5

/-- DETECT_PAD_CHANGE (R357). -/
def execDetectPadChange (pad : DetectPad) (s : State) : Res :=
  match pad with
  | .cam p => onUnit p 4 s (s.padChange pad)
  | .panel d => onUnit d 2 s (s.padChange pad)
  | .hpd => done (s.padChange pad)

end Sys2Proof.Machine
end

