-- ==== Sys2Proof/Machine/Registers.lean ====
section
/-! DEFINITION. The commands that read and write registers, over PCIe or over the management port, and the build of the
combs. Every write goes through the one operation of Machine/RegWrite.lean. -/

namespace Sys2Proof.Machine

/-! The management port (R137 to R141). -/

/-- The STATUS byte (Table 3.14). -/
def State.spiStatus (s : State) : Nat :=
  pack [(0, b2n (decide (0 < s.bus.linkGen) && !s.bus.endpointOff)), (1, b2n s.isActive), (2, b2n s.keeperOnly),
        (3, b2n s.bus.spiCrcErr), (4, b2n s.guard.safe)]

/-- Words are written to consecutive offsets. -/
def State.spiWords : State → Nat → List Byte → State
  | s, a, b0 :: b1 :: b2 :: b3 :: t => State.spiWords (s.writeWord .spi a (BitVec.ofNat 32 (leNat [b0, b1, b2, b3]))) (a + 4) t
  | s, _, _ => s

/-- A WRITE frame is correct: address, 1 to 64 words and the CRC-8 over what came before, command included (R139,
R140). -/
def spiFrameOk (frame : List Byte) : Bool :=
  let n := frame.length - 5
  decide (5 < frame.length) && n % 4 == 0 && decide (1 ≤ n / 4) && decide (n / 4 ≤ 64) &&
    crc8 frame.dropLast == ((frame.getLast?).map BitVec.toNat).getD 256

/-- MGMT_CS_N rises after a WRITE frame (R140). -/
def State.spiWriteFrame (s : State) (frame : List Byte) : State :=
  if s.pwr.keeperOn = false then s
  else
    let s := { s with bus := { s.bus with spiOut := [] } }
    if spiFrameOk frame then
      ({ s with bus := { s.bus with spiCrcErr := false } }).spiWords (beAt frame 1 3) ((frame.drop 4).dropLast)
    else
      let s := { s with bus := { s.bus with spiCrcErr := true } }
      (s.bump HIF_SPI_CRC_ERR_COUNT).raiseI 0x0208

/-- `n` words read from consecutive offsets. -/
def State.spiReadWords : Nat → State → Nat → List Byte → State × List Byte
  | 0, s, _, out => (s, out)
  | n + 1, s, a, out =>
    let (s, v) := s.readWord .spi a
    State.spiReadWords n s (a + 4) (out ++ leBytes 4 v)

/-- A READ frame: STATUS, then what `clocks` further bytes return. One byte after a whole number of words is their
CRC-8; past the 64th word it is the CRC-8 of all 64, then 0xFF (R138, R139, Table 3.13; notes/assumptions/34.md). -/
def State.spiReadFrame (s : State) (address clocks : Nat) : State :=
  if s.pwr.keeperOn = false then s
  else
    let words := min 64 (if clocks % 4 = 1 then clocks / 4 else ceilDiv clocks 4)
    let (s, data) := State.spiReadWords words s address []
    let tail : List Byte :=
      if clocks % 4 = 1 ∨ 256 < clocks then BitVec.ofNat 8 (crc8 data) :: List.replicate (clocks - 257) 0xFF else []
    let out := BitVec.ofNat 8 s.spiStatus :: (data ++ tail).take clocks
    { s with bus := { s.bus with spiOut := out } }

/-- A STATUS frame (R138). -/
def State.spiStatusFrame (s : State) : State :=
  if s.pwr.keeperOn then { s with bus := { s.bus with spiOut := [BitVec.ofNat 8 s.spiStatus] } } else s

/-- A frame from the falling to the rising edge of MGMT_CS_N, whose first byte is the command (R138, Table 3.13): a
byte that is no command is followed by nothing. READ has 4 turnaround bytes after its address. -/
def State.spiFrame (s : State) (frame : List Byte) : State :=
  match leAt frame 0 1 with
  | 0x02 => s.spiWriteFrame frame
  | 0x03 => if 8 ≤ frame.length then s.spiReadFrame (beAt frame 1 3) (frame.length - 8) else s
  | 0x05 => s.spiStatusFrame
  | _ => s

/-! Meanings. -/



/-- A write that may meet one of the other path at the same register in the same cycle: the SPI write is applied first
and the PCIe write second (R142); an increment in that cycle meets the first (notes/assumptions/157.md). -/
def State.writeMeeting (s : State) (path : Path) (offset size : Nat) (value : Word) (increment : Bool)
    (meets : Option Word) : State :=
  match meets with
  | none => s.write path offset size value increment
  | some v =>
    match path with
    | .spi => (s.write .spi offset size value increment).write .pcie offset size v false
    | .pcie => (s.write .spi offset size v increment).write .pcie offset size value false

/-- REGISTER_WRITE (R577). -/
def execRegisterWrite (path : Path) (offset size : Nat) (value : Word) (cycle : WriteCycle) (s : State) : Res :=
  done (s.writeMeeting path offset size value cycle.increment cycle.meets)

/-- COUNTER_LOW_WORD_READ (R9, R20): a read over a path; one of the SRAM window meets `access.sram` (R304 to R311). -/
def execCounterLowWordRead (path : Path) (access : ReadAccess) (s : State) : Res :=
  done (if access.size = 4 ∧ isSramOffset access.offset = true then s.windowRead path access.offset access.sram
        else
          let (s, v) := s.read path access.offset access.size
          s.setRead path v)

/-- COUNTER_LOW_WORD_WRITE (R22). -/
def execCounterLowWordWrite (path : Path) (offset : Nat) (value : Word) (s : State) : Res :=
  done (s.writeWord path offset value)

/-- COUNTER_HIGH_WORD_WRITE (R22, R25). -/
def execCounterHighWordWrite (path : Path) (offset : Nat) (value : Word) (increment : Bool) (s : State) : Res :=
  done (s.writeWord path offset value increment)

/-- GO (R96). -/
def execGo (path : Path) (s : State) : Res := done (s.writeWord path SYS_CTL.off 1)

/-- The value of SYS_RESTART with the right key. -/
def restartValue (cold rescue immediate : Bool) : Word :=
  BitVec.ofNat 32 (pack [(0, 0x52C3), (16, b2n cold), (17, b2n rescue), (18, b2n immediate)])

/-- WARM_RESTART (R450). -/
def execWarmRestart (path : Path) (immediate : Bool) (s : State) : Res :=
  done (s.writeWord path SYS_RESTART.off (restartValue false false immediate))

/-- COLD_RESTART (R450). -/
def execColdRestart (path : Path) (immediate : Bool) (s : State) : Res :=
  done (s.writeWord path SYS_RESTART.off (restartValue true false immediate))

/-- RESCUE_BOOT_REQUEST (R465). -/
def execRescueBootRequest (path : Path) (cold immediate : Bool) (s : State) : Res :=
  done (s.writeWord path SYS_RESTART.off (restartValue cold true immediate))

/-- RESET_POINT (R452). -/
def execResetPoint (env : BootEnv) (s : State) : Res := done (s.atReset env)

/-- A restart of a given cause that is due without power-down takes place. -/
def State.finishRestart (s : State) (cause : Nat) (env : BootEnv) : State :=
  if s.sys.restart.map (·.1) = some cause then s.atReset env else s

/-- RESCUE_PROGRAM (R466). -/
def execRescueProgram (path : Path) (len : Nat) (slots : RescueSlots) (env : BootEnv) (s : State) : Res :=
  let v := pack [(0, len % 2 ^ 21), (21, slots.slots % 4), (31, 1)]
  done ((s.writeWord path SYS_RESCUE_CTL.off (BitVec.ofNat 32 v) false (some slots.writeOk)).finishRestart 7 env)

/-- LCS_CMD with the right key. -/
def lcsValue (cmd : Nat) : Word := BitVec.ofNat 32 (pack [(0, cmd), (16, 0x7A1E)])

/-- ADVANCE (R473). -/
def execAdvance (path : Path) (fuseOk : Bool) (env : BootEnv) (s : State) : Res :=
  done ((s.writeWord path LCS_CMD.off (lcsValue 1) false (some fuseOk)).finishRestart 6 env)

/-- FW_EPOCH_SET (R472). -/
def execFwEpochSet (path : Path) (fuseOk : Bool) (s : State) : Res :=
  done (s.writeWord path LCS_CMD.off (lcsValue 2) false (some fuseOk))

/-- PATCH_EPOCH_SET (R472). -/
def execPatchEpochSet (path : Path) (fuseOk : Bool) (s : State) : Res :=
  done (s.writeWord path LCS_CMD.off (lcsValue 3) false (some fuseOk))

/-- MODE_REQUEST_DEEP_STANDBY (R422). -/
def execModeRequestDeepStandby (path : Path) (s : State) : Res := done (s.writeWord path PWR_MODE_REQ.off 1)

/-- MODE_REQUEST_RETAIN (R422). -/
def execModeRequestRetain (path : Path) (s : State) : Res := done (s.writeWord path PWR_MODE_REQ.off 2)

/-- MODE_REQUEST_IDLE (R422). -/
def execModeRequestIdle (path : Path) (s : State) : Res := done (s.writeWord path PWR_MODE_REQ.off 3)

/-- MODE_REQUEST_RUN (R424). -/
def execModeRequestRun (path : Path) (s : State) : Res := done (s.writeWord path PWR_MODE_REQ.off 4)

/-- SOFTWARE_WAKE (R438). -/
def execSoftwareWake (path : Path) (s : State) : Res := done (s.writeWord path KPR_WAKE_CMD.off 1)

/-- COMB_BUILD (R333). -/
def execCombBuild (path : Path) (s : State) : Res := done (s.writeWord path BPM_CTL.off 1)

/-- BUILD_COMPLETE (R333). -/
def execBuildComplete (s : State) : Res := done s.endBuild

/-- DISPLAY_ENABLE (R294): a write of DSP_CFG_d. -/
def execDisplayEnable (path : Path) (display : Nat) (value : Word) (s : State) : Res :=
  onUnit display 3 s (s.writeWord path (DSP_CFG.at display) value)

/-- TICK_PERIOD_WRITE (R49). -/
def execTickPeriodWrite (path : Path) (value : Word) (s : State) : Res := done (s.writeWord path TCK_PERIOD.off value)

/-- TCK_LIMIT_WRITE (R580). -/
def execTckLimitWrite (path : Path) (admission : Bool) (value : Word) (s : State) : Res :=
  done (s.writeWord path (if admission then TCK_ADM_CTL.off else TCK_SRC_TOL.off) value)

/-- CLOCK_OUTPUT_ENABLE (R503): a write of CLK_OUT_n. -/
def execClockOutputEnable (path : Path) (output : Nat) (value : Word) (s : State) : Res :=
  onUnit output 4 s (s.writeWord path (CLK_OUT.at output) value)

/-- MSIX_TABLE_WRITE (R92, R94): a write over PCIe at an offset of the table. -/
def execMsixTableWrite (offset : Nat) (value : Word) (s : State) : Res :=
  onUnit offset 0x420 s (s.writeWord .pcie (0x18000 + offset) value)

/-- A cause raised in the same cycle as a clear leaves its bit set (R411). -/
def State.raiseNow (b : Nat) (s : State) (k : Nat) : State :=
  if isFault (b * 256 + k + 1) then s.raise (b * 256 + k + 1) else s

/-- FAULT_STATUS_CLEAR (R411): a write of GRD_FSTAT_b; `raisedNow` are causes raised in the same cycle. -/
def execFaultStatusClear (path : Path) (block : Nat) (value : Word) (raisedNow : Nat) (s : State) : Res :=
  if isBlock block then
    let raised := raisedNow % 65536
    let v : Nat := value.toNat % 65536 - (value.toNat % 65536 &&& raised)
    let s := s.writeWord path (GRD_FSTAT.at (block - 1)) (BitVec.ofNat 32 v)
    done ((setBits raised 16).foldl (State.raiseNow block) s)
  else done s

/-- A read at an offset of the log window finds its entry good, or with an error beyond correction (R419). -/
def State.readLogWindow (s : State) (path : Path) (offset : Nat) (uncorrectable : Bool) : State :=
  if s.reaches path 0xD0000 then
    let s := if uncorrectable then s.loseEntry (offset / 32) else s
    let (s, v) := s.readWord path (0xD0000 + offset)
    s.setRead path v
  else s.setRead path 0

/-- LOG_WINDOW_READ (R419). -/
def execLogWindowRead (path : Path) (offset : Nat) (uncorrectable : Bool) (s : State) : Res :=
  onUnit offset 0x10000 s (s.readLogWindow path offset uncorrectable)

/-- SPI_WRITE (R140). -/
def execSpiWrite (frame : List Byte) (s : State) : Res := done (s.spiFrame frame)

/-- SPI_READ (R138). -/
def execSpiRead (address clocks : Nat) (s : State) : Res := done (s.spiReadFrame address clocks)

/-- SPI_STATUS (R138). -/
def execSpiStatus (s : State) : Res := done s.spiStatusFrame

end Sys2Proof.Machine
end

