-- ==== Sys2Proof/Machine/Standby.lean ====
section
/-! DEFINITION. The commands of the modes: the standby pad, the wake inputs, the alarm, the end of an entry and the end of an
exit from RETAIN (R422 to R441). -/

namespace Sys2Proof.Machine

/-- STBY_REQ_N has been low for STBY_DEBOUNCE_MS: the request of PWR_CFG.STBY_TARGET is made once, in RUN and IDLE; in SAFE
the pad is ignored (R423). -/
def State.stbyLow (s : State) : State :=
  let ask := s.power.stbyReady && s.sys.bootStage == 7 && decide (s.power.mode = .run ∨ s.power.mode = .idle)
  let s := { s with power := { s.power with stbyReady := false } }
  if ask then s.requestMode (if s.flag PWR_CFG 0 then 1 else 2) 2 else s

/-- STBY_REQUEST (R423). -/
def execStbyRequest (s : State) : Res := done s.stbyLow

/-- STBY_REQ_N has been high for STBY_DEBOUNCE_MS: a wake event (R423, Table 14.5). -/
def State.stbyHigh (s : State) : State :=
  if s.power.stbyReady then s
  else ({ s with power := { s.power with stbyReady := true } }).wakeNow 7

/-- STBY_RELEASE (R438). -/
def execStbyRelease (s : State) : Res := done s.stbyHigh

/-- An edge of WAKE_INn whose new level has held for 100 µs; the event carries the time of the edge itself (R438). -/
def State.wakeInput (s : State) (n : Nat) (rising : Bool) (ns : Nat) : State :=
  if s.pwr.keeperOn = false ∨ s.power.mode = .off then s
  else
    let ns := s.sampleNs ns
    let tick := s.tickAt ns
    let s := s.advanceTo (1000 * ns + 100000000)
    if s.flag KPR_WAKE_POL n = rising then s.wakeEvent n ns tick else s

/-- WAKE_INPUT_EDGE (R438). -/
def execWakeInputEdge (input : Nat) (rising : Bool) (instant : Nat) (s : State) : Res :=
  onUnit input 2 s (s.wakeInput input rising instant)

/-- Keeper time reaches KPR_ALARM: a wake event, once while the latch is armed (R439, Table 14.5). -/
def State.alarmRings (s : State) : State :=
  if s.power.alarm = 0 ∨ s.power.alarmPassed = true ∨ s.pwr.keeperOn = false then s
  else
    let s := s.advanceTo (1000 * s.power.alarm)
    ({ s with power := { s.power with alarmPassed := true } }).wakeNow 6

/-- KEEPER_ALARM (R438). -/
def execKeeperAlarm (s : State) : Res := done s.alarmRings

/-- ENTRY_COMPLETE (R427, R440). -/
def execEntryComplete (s : State) : Res := done s.completeEntry

/-- RUN is reached from RETAIN: partners are found again, deferred reactions start, requests that were held complete, and
the first tick edge comes at once (R431 to R436, R441). A failed training is DRC 0x0D07; a corrupt retained bank is
MEM 0x0C04. -/
def State.reachRun (s : State) (present : List Nat) (trainOk : Bool) (badBank : Option Nat) : State :=
  if s.power.trans = .exiting .retain then
    if trainOk = false then ({ s with mem := { s.mem with trained := 0 } }).raise 0x0D07
    else
      let kept := s.mem.bankOn
      let s := s.wakeFromRetain present
      let s := if badBank.any (bitAt kept) then s.raise 0x0C04 else s
      let s := s.startWaiting.flushMsi.completeAllHeld
      s.restartPulses.edge []
  else s

/-- RUN_REACHED (R431). -/
def execRunReached (present : List Nat) (trainOk : Bool) (badBank : Option Nat) (s : State) : Res :=
  done (s.reachRun present trainOk (badBank.filter (fun b => decide (b < 16))))

end Sys2Proof.Machine
end

