-- ==== Sys2Proof/Machine/TickCmds.lean ====
section
/-! DEFINITION. The commands of the tick: its edge, the doorbell read and the fetch, admission, the operating point, the
windows and the moderation timer (R50 to R89, R106 to R136, R443 to R446, R528). An event that cannot occur as
things stand changes nothing. -/

namespace Sys2Proof.Machine

/-- The edge, once the channel jobs fetched in the tick that ends have been executed (R63, R147). -/
def State.tickEdge (s : State) (frameErrors : List Int) : State :=
  if s.ticks then s.runChanJobs.edge frameErrors else s

/-- TICK_EDGE (R63). -/
def execTickEdge (frameErrors : List Int) (s : State) : Res := done (s.tickEdge frameErrors)

/-- TICK_OUT goes low TICK_OUT_W microseconds after the edge (R58). -/
def State.tickOutEnd (s : State) : State :=
  if s.tick.out then
    let s := s.toOffset (1000 * atLeast1 (s.fld TCK_CTL 15 8))
    { s with tick := { s.tick with out := false } }
  else s

/-- TICK_OUT_PULSE_END (R58). -/
def execTickOutPulseEnd (s : State) : Res := done s.tickOutEnd

/-- The read of the doorbell block that an edge started is served (R109). -/
def State.doorbell (s : State) (served : Served (List Byte)) : State :=
  if s.canDma && !s.hif.dbRead then s.readDoorbell served else s

/-- DOORBELL_READ (R109). -/
def execDoorbellRead (served : Served (List Byte)) (s : State) : Res := done (s.doorbell served)



/-- DESCRIPTOR_FETCH (R134). -/
def execDescriptorFetch (arrivals : List (Served (List Byte))) (s : State) : Res := done (s.fetch arrivals)

/-- SUB_TICK_POLL (R61). -/
def execSubTickPoll (served : Served (List Byte)) (arrivals : List (Served (List Byte))) (s : State) : Res :=
  done (s.poll served arrivals)

/-- ADMISSION_DECISION (R70). -/
def execAdmissionDecision (s : State) : Res := done s.decision

/-- SETTLE_FLAG (R443). -/
def execSettleFlag (s : State) : Res := done s.settle_

/-- The work window starts without the settle flag (R446). -/
def State.settleLate (s : State) : State := if s.pwr.settled then s else s.openWork

/-- SETTLE_LATE (R446). -/
def execSettleLate (s : State) : Res := done s.settleLate

/-- A raise is given up 1 ms after its ramp began (R528). -/
def State.settleAbandon (s : State) : State :=
  if s.pwr.settled then s else (s.advanceTo (1000 * (s.pwr.rampNs + 1000000))).abandonRaise

/-- SETTLE_ABANDON (R528). -/
def execSettleAbandon (s : State) : Res := done s.settleAbandon

/-- WORK_WINDOW_START (R27). -/
def execWorkWindowStart (s : State) : Res := done s.openWork

/-- GUARD_WINDOW_START (R62). -/
def execGuardWindowStart (s : State) : Res := done s.openGuard

/-- TIME_US has passed since the first unsignalled completion of a ring (R130). -/
def State.moderate (s : State) (n : Nat) : State :=
  let us := s.fld HIF_CQ_MOD 31 16 n
  if s.owesSignal n && decide (0 < us) then
    (s.advanceTo (1000 * ((s.cq n).sinceNs + 1000 * us))).signalRing n
  else s

/-- MODERATION_TIMEOUT (R130). -/
def execModerationTimeout (ring : Nat) (s : State) : Res := onUnit ring 64 s (s.moderate ring)

end Sys2Proof.Machine
end

