-- ==== Sys2Proof/Machine/Dispatch.lean ====
section
/-! DEFINITION. One arm for each command: its meaning in Machine/<Family>.lean. -/

namespace Sys2Proof.Machine

/-- The effect of a command on everything but the queue. -/
def exec (i : Instr) (s : State) : Host.Outcome State Fault Refusal :=
  match i with
  | .registerWrite path offset size value cycle => Sys2Proof.Machine.execRegisterWrite path offset size value cycle s
  | .counterLowWordRead path access => Sys2Proof.Machine.execCounterLowWordRead path access s
  | .counterLowWordWrite path offset value => Sys2Proof.Machine.execCounterLowWordWrite path offset value s
  | .counterHighWordWrite path offset value increment => Sys2Proof.Machine.execCounterHighWordWrite path offset value increment s
  | .go path => Sys2Proof.Machine.execGo path s
  | .warmRestart path immediate => Sys2Proof.Machine.execWarmRestart path immediate s
  | .coldRestart path immediate => Sys2Proof.Machine.execColdRestart path immediate s
  | .rescueBootRequest path cold immediate => Sys2Proof.Machine.execRescueBootRequest path cold immediate s
  | .resetPoint env => Sys2Proof.Machine.execResetPoint env s
  | .rescueProgram path len slots env => Sys2Proof.Machine.execRescueProgram path len slots env s
  | .advance path fuseOk env => Sys2Proof.Machine.execAdvance path fuseOk env s
  | .fwEpochSet path fuseOk => Sys2Proof.Machine.execFwEpochSet path fuseOk s
  | .patchEpochSet path fuseOk => Sys2Proof.Machine.execPatchEpochSet path fuseOk s
  | .modeRequestDeepStandby path => Sys2Proof.Machine.execModeRequestDeepStandby path s
  | .modeRequestRetain path => Sys2Proof.Machine.execModeRequestRetain path s
  | .modeRequestIdle path => Sys2Proof.Machine.execModeRequestIdle path s
  | .modeRequestRun path => Sys2Proof.Machine.execModeRequestRun path s
  | .softwareWake path => Sys2Proof.Machine.execSoftwareWake path s
  | .combBuild path => Sys2Proof.Machine.execCombBuild path s
  | .buildComplete => Sys2Proof.Machine.execBuildComplete s
  | .displayEnable path display value => Sys2Proof.Machine.execDisplayEnable path display value s
  | .tickPeriodWrite path value => Sys2Proof.Machine.execTickPeriodWrite path value s
  | .tckLimitWrite path admission value => Sys2Proof.Machine.execTckLimitWrite path admission value s
  | .clockOutputEnable path output value => Sys2Proof.Machine.execClockOutputEnable path output value s
  | .msixTableWrite offset value => Sys2Proof.Machine.execMsixTableWrite offset value s
  | .faultStatusClear path block value raisedNow => Sys2Proof.Machine.execFaultStatusClear path block value raisedNow s
  | .logWindowRead path offset uncorrectable => Sys2Proof.Machine.execLogWindowRead path offset uncorrectable s
  | .spiWrite frame => Sys2Proof.Machine.execSpiWrite frame s
  | .spiRead address clocks => Sys2Proof.Machine.execSpiRead address clocks s
  | .spiStatus => Sys2Proof.Machine.execSpiStatus s
  | .tickEdge frameErrors => Sys2Proof.Machine.execTickEdge frameErrors s
  | .tickOutPulseEnd => Sys2Proof.Machine.execTickOutPulseEnd s
  | .doorbellRead served => Sys2Proof.Machine.execDoorbellRead served s
  | .descriptorFetch arrivals => Sys2Proof.Machine.execDescriptorFetch arrivals s
  | .subTickPoll served arrivals => Sys2Proof.Machine.execSubTickPoll served arrivals s
  | .admissionDecision => Sys2Proof.Machine.execAdmissionDecision s
  | .settleFlag => Sys2Proof.Machine.execSettleFlag s
  | .settleLate => Sys2Proof.Machine.execSettleLate s
  | .settleAbandon => Sys2Proof.Machine.execSettleAbandon s
  | .workWindowStart => Sys2Proof.Machine.execWorkWindowStart s
  | .guardWindowStart => Sys2Proof.Machine.execGuardWindowStart s
  | .moderationTimeout ring => Sys2Proof.Machine.execModerationTimeout ring s
  | .pcieLinkDown => Sys2Proof.Machine.execPcieLinkDown s
  | .busMasterDisable => Sys2Proof.Machine.execBusMasterDisable s
  | .perstAssert => Sys2Proof.Machine.execPerstAssert s
  | .perstRelease => Sys2Proof.Machine.execPerstRelease s
  | .pcieRequestInRetain configuration offset value => Sys2Proof.Machine.execPcieRequestInRetain configuration offset value s
  | .dmaWriteFailure target => Sys2Proof.Machine.execDmaWriteFailure target s
  | .tickSourceEdge instant => Sys2Proof.Machine.execTickSourceEdge instant s
  | .predictedEdgeMissed => Sys2Proof.Machine.execPredictedEdgeMissed s
  | .ptpSyncMessage port arrival => Sys2Proof.Machine.execPtpSyncMessage port arrival s
  | .ptpSyncTimeout port => Sys2Proof.Machine.execPtpSyncTimeout port s
  | .ethFrameReceive port frame => Sys2Proof.Machine.execEthFrameReceive port frame s
  | .flowSilenceTimeout flow => Sys2Proof.Machine.execFlowSilenceTimeout flow s
  | .ethLinkDown port => Sys2Proof.Machine.execEthLinkDown port s
  | .ethLinkUp port => Sys2Proof.Machine.execEthLinkUp port s
  | .queueCreditAvailable queue => Sys2Proof.Machine.execQueueCreditAvailable queue s
  | .frameTransmitEnd port => Sys2Proof.Machine.execFrameTransmitEnd port s
  | .csiFrameComplete port vc how => Sys2Proof.Machine.execCsiFrameComplete port vc how s
  | .vcFrameStart port vc => Sys2Proof.Machine.execVcFrameStart port vc s
  | .uvcFrameComplete port frame => Sys2Proof.Machine.execUvcFrameComplete port frame s
  | .camDetectAssert port => Sys2Proof.Machine.execCamDetectAssert port s
  | .probeDelayExpiry port => Sys2Proof.Machine.execProbeDelayExpiry port s
  | .identityReadDone port read => Sys2Proof.Machine.execIdentityReadDone port read s
  | .identityRetryTimer port => Sys2Proof.Machine.execIdentityRetryTimer port s
  | .initWriteDone port => Sys2Proof.Machine.execInitWriteDone port s
  | .initDelayExpiry port => Sys2Proof.Machine.execInitDelayExpiry port s
  | .i2cBusHeldLow port => Sys2Proof.Machine.execI2cBusHeldLow port s
  | .camDetectDeassert port => Sys2Proof.Machine.execCamDetectDeassert port s
  | .usbEnumerationEnd port device => Sys2Proof.Machine.execUsbEnumerationEnd port device s
  | .usbDisconnect port => Sys2Proof.Machine.execUsbDisconnect port s
  | .usbOvercurrent port => Sys2Proof.Machine.execUsbOvercurrent port s
  | .usbVbusLow port => Sys2Proof.Machine.execUsbVbusLow port s
  | .usbOcRetry port => Sys2Proof.Machine.execUsbOcRetry port s
  | .panelDetectAssert display edid width height => Sys2Proof.Machine.execPanelDetectAssert display edid width height s
  | .panelDepart display => Sys2Proof.Machine.execPanelDepart display s
  | .irqHpd linkLost => Sys2Proof.Machine.execIrqHpd linkLost s
  | .linkTrainingEnd trained => Sys2Proof.Machine.execLinkTrainingEnd trained s
  | .hpdWaitTimeout => Sys2Proof.Machine.execHpdWaitTimeout s
  | .vddLinkTimer display => Sys2Proof.Machine.execVddLinkTimer display s
  | .frameBlTimer display => Sys2Proof.Machine.execFrameBlTimer display s
  | .blLinkTimer display => Sys2Proof.Machine.execBlLinkTimer display s
  | .linkVddTimer display => Sys2Proof.Machine.execLinkVddTimer display s
  | .offWaitTimer display => Sys2Proof.Machine.execOffWaitTimer display s
  | .holdTimeout => Sys2Proof.Machine.execHoldTimeout s
  | .chanCreate job => Sys2Proof.Machine.execChanCreate job s
  | .chanDestroy job => Sys2Proof.Machine.execChanDestroy job s
  | .chanPause job => Sys2Proof.Machine.execChanPause job s
  | .chanResume job => Sys2Proof.Machine.execChanResume job s
  | .chanExport job => Sys2Proof.Machine.execChanExport job s
  | .exportPoint chan => Sys2Proof.Machine.execExportPoint chan s
  | .exportTimeout chan => Sys2Proof.Machine.execExportTimeout chan s
  | .chanImport job image => Sys2Proof.Machine.execChanImport job image s
  | .chanBind job => Sys2Proof.Machine.execChanBind job s
  | .decode job au => Sys2Proof.Machine.execDecode job au s
  | .decodeEnd job report => Sys2Proof.Machine.execDecodeEnd job report s
  | .bitLimitExceeded job row col => Sys2Proof.Machine.execBitLimitExceeded job row col s
  | .blockCycleLimit job row col => Sys2Proof.Machine.execBlockCycleLimit job row col s
  | .cycleCapReached job kind point => Sys2Proof.Machine.execCycleCapReached job kind point s
  | .bufferRoomAvailable engine => Sys2Proof.Machine.execBufferRoomAvailable engine s
  | .syntaxEngineInterrupt engine job bitPosition arithmetic => Sys2Proof.Machine.execSyntaxEngineInterrupt engine job bitPosition arithmetic s
  | .encodeFrame run => Sys2Proof.Machine.execEncodeFrame run s
  | .encodeStart job block => Sys2Proof.Machine.execEncodeStart job block s
  | .encodeStop job => Sys2Proof.Machine.execEncodeStop job s
  | .encodeUpdate job block => Sys2Proof.Machine.execEncodeUpdate job block s
  | .forceIdr job => Sys2Proof.Machine.execForceIdr job s
  | .encodeRowCoded job bytes qp => Sys2Proof.Machine.execEncodeRowCoded job bytes qp s
  | .encodeEnd job report => Sys2Proof.Machine.execEncodeEnd job report s
  | .layerSet job => Sys2Proof.Machine.execLayerSet job s
  | .displayControl job => Sys2Proof.Machine.execDisplayControl job s
  | .overlayLoad job => Sys2Proof.Machine.execOverlayLoad job s
  | .overlayCopyEnd slot data => Sys2Proof.Machine.execOverlayCopyEnd slot data s
  | .compositionDeadline => Sys2Proof.Machine.execCompositionDeadline s
  | .compositionEnd display => Sys2Proof.Machine.execCompositionEnd display s
  | .fioSet job => Sys2Proof.Machine.execFioSet job s
  | .logRead run => Sys2Proof.Machine.execLogRead run s
  | .statsRead job => Sys2Proof.Machine.execStatsRead job s
  | .fwStageWrite job data writeOk => Sys2Proof.Machine.execFwStageWrite job data writeOk s
  | .fwStageCommit job => Sys2Proof.Machine.execFwStageCommit job s
  | .fwStageConfirm job => Sys2Proof.Machine.execFwStageConfirm job s
  | .userWrite job data writeOk => Sys2Proof.Machine.execUserWrite job data writeOk s
  | .userRead job => Sys2Proof.Machine.execUserRead job s
  | .netTx job data => Sys2Proof.Machine.execNetTx job data s
  | .spawn slot prio flagsMode all affinity tag runLimit reload mask => Sys2Proof.Machine.execSpawn slot prio flagsMode all affinity tag runLimit reload mask s
  | .retire slot => Sys2Proof.Machine.execRetire slot s
  | .yield core => Sys2Proof.Machine.execYield core s
  | .signal slot flags => Sys2Proof.Machine.execSignal slot flags s
  | .dec slot => Sys2Proof.Machine.execDec slot s
  | .bind slot what => Sys2Proof.Machine.execBind slot what s
  | .threadRunLimit run => Sys2Proof.Machine.execThreadRunLimit run s
  | .cellAllocate who request => Sys2Proof.Machine.execCellAllocate who request s
  | .cellFree handle tag => Sys2Proof.Machine.execCellFree handle tag s
  | .freeStoreRefill comb => Sys2Proof.Machine.execFreeStoreRefill comb s
  | .freeStoreSpill comb => Sys2Proof.Machine.execFreeStoreSpill comb s
  | .sramScrub address found => Sys2Proof.Machine.execSramScrub address found s
  | .dramMaintenanceStep inRange => Sys2Proof.Machine.execDramMaintenanceStep inRange s
  | .mr4Change code aboveRated => Sys2Proof.Machine.execMr4Change code aboveRated s
  | .dramRefresh => Sys2Proof.Machine.execDramRefresh s
  | .faultReport cycle => Sys2Proof.Machine.execFaultReport cycle s
  | .dataPathRestartEnd => Sys2Proof.Machine.execDataPathRestartEnd s
  | .reactionTimeout => Sys2Proof.Machine.execReactionTimeout s
  | .unitRetest kind unit passed digestOk readBackOk => Sys2Proof.Machine.execUnitRetest kind unit passed digestOk readBackOk s
  | .powerOnReset env => Sys2Proof.Machine.execPowerOnReset env s
  | .padReset => Sys2Proof.Machine.execPadReset s
  | .bootComplete => Sys2Proof.Machine.execBootComplete s
  | .bootWatchdog env => Sys2Proof.Machine.execBootWatchdog env s
  | .powerSequenceRetry env => Sys2Proof.Machine.execPowerSequenceRetry env s
  | .vinBelowStop => Sys2Proof.Machine.execVinBelowStop s
  | .brownoutWarning => Sys2Proof.Machine.execBrownoutWarning s
  | .surgeClamp ms => Sys2Proof.Machine.execSurgeClamp ms s
  | .surgeRecovery env => Sys2Proof.Machine.execSurgeRecovery env s
  | .vbus5OutOfWindow corruptCopies held => Sys2Proof.Machine.execVbus5OutOfWindow corruptCopies held s
  | .railOutOfWindow rail held => Sys2Proof.Machine.execRailOutOfWindow rail held s
  | .phaseOpenDetect phases => Sys2Proof.Machine.execPhaseOpenDetect phases s
  | .phaseSenseCheck readings inputSenseOk => Sys2Proof.Machine.execPhaseSenseCheck readings inputSenseOk s
  | .spareCheck passed openPhase => Sys2Proof.Machine.execSpareCheck passed openPhase s
  | .phasePark first second => Sys2Proof.Machine.execPhasePark first second s
  | .phaseUnpark => Sys2Proof.Machine.execPhaseUnpark s
  | .currentCapExceeded => Sys2Proof.Machine.execCurrentCapExceeded s
  | .throttleEnd => Sys2Proof.Machine.execThrottleEnd s
  | .thermalReading tj treg => Sys2Proof.Machine.execThermalReading tj treg s
  | .auxOverload output => Sys2Proof.Machine.execAuxOverload output s
  | .auxRetry output holds => Sys2Proof.Machine.execAuxRetry output holds s
  | .meterInterval sample => Sys2Proof.Machine.execMeterInterval sample s
  | .referenceFailure => Sys2Proof.Machine.execReferenceFailure s
  | .cpllUnlock pll suppressedPulse => Sys2Proof.Machine.execCpllUnlock pll suppressedPulse s
  | .cpllRetune pll => Sys2Proof.Machine.execCpllRetune pll s
  | .cpllStandbyReady pll => Sys2Proof.Machine.execCpllStandbyReady pll s
  | .synthLock synth method band us => Sys2Proof.Machine.execSynthLock synth method band us s
  | .synthLockTimeout synth => Sys2Proof.Machine.execSynthLockTimeout synth s
  | .keeperOscillatorFailure => Sys2Proof.Machine.execKeeperOscillatorFailure s
  | .stbyRequest => Sys2Proof.Machine.execStbyRequest s
  | .stbyRelease => Sys2Proof.Machine.execStbyRelease s
  | .wakeInputEdge input rising instant => Sys2Proof.Machine.execWakeInputEdge input rising instant s
  | .keeperAlarm => Sys2Proof.Machine.execKeeperAlarm s
  | .entryComplete => Sys2Proof.Machine.execEntryComplete s
  | .runReached present trainOk badBank => Sys2Proof.Machine.execRunReached present trainOk badBank s
  | .fieldInputEdge input rising instant => Sys2Proof.Machine.execFieldInputEdge input rising instant s
  | .fieldPulseStart output => Sys2Proof.Machine.execFieldPulseStart output s
  | .fieldPulseEnd output => Sys2Proof.Machine.execFieldPulseEnd output s
  | .openLoadDetect output whileOn => Sys2Proof.Machine.execOpenLoadDetect output whileOn s
  | .shortToGround output => Sys2Proof.Machine.execShortToGround output s
  | .shortRetry output stillShort => Sys2Proof.Machine.execShortRetry output stillShort s
  | .externalDrive output => Sys2Proof.Machine.execExternalDrive output s
  | .vfieldLoss => Sys2Proof.Machine.execVfieldLoss s
  | .vfieldRestore millivolts => Sys2Proof.Machine.execVfieldRestore millivolts s
  | .resetRelease env => Sys2Proof.Machine.execResetRelease env s
  | .csiPacketReceive port vc packet => Sys2Proof.Machine.execCsiPacketReceive port vc packet s
  | .detectPadChange pad => Sys2Proof.Machine.execDetectPadChange pad s
  | .pcieLinkUp gen width => Sys2Proof.Machine.execPcieLinkUp gen width s
  | .busMasterEnable => Sys2Proof.Machine.execBusMasterEnable s
  | .deviceStateChange d3hot => Sys2Proof.Machine.execDeviceStateChange d3hot s
  | .sramWindowWrite path offset value sram => Sys2Proof.Machine.execSramWindowWrite path offset value sram s
  | .ppsPulseStart port => Sys2Proof.Machine.execPpsPulseStart port s
  | .ppsPulseEnd port => Sys2Proof.Machine.execPpsPulseEnd port s
  | .keeperSupplyLoss => Sys2Proof.Machine.execKeeperSupplyLoss s
  | .brownoutEnd millivolts => Sys2Proof.Machine.execBrownoutEnd millivolts s
  | .usbConnect port => Sys2Proof.Machine.execUsbConnect port s
  | .i2cBusReleased port => Sys2Proof.Machine.execI2cBusReleased port s
  | .fieldDiagnosisEnd output external => Sys2Proof.Machine.execFieldDiagnosisEnd output external s
  | .keeperOscillatorRestored => Sys2Proof.Machine.execKeeperOscillatorRestored s

end Sys2Proof.Machine
end

