-- ==== Sys2Proof/Machine/Step.lean ====
section
/-! DEFINITION. One step of the module: the command at the front of the queue, or, with no command waiting, the passing
of time alone. -/

namespace Sys2Proof.Machine

/-- The block idles: Keeper time goes on by one step, and the pads follow (R13, R14; notes/assumptions/2.md). -/
def State.idle (s : State) : State :=
  { s with clock := { s.clock with ps := s.clock.ps + s.stepPs } }.settle

/-- The command at the front of the queue is carried out on the state with the rest of the queue; an empty queue
lets time pass. -/
def step (s : State) : Host.Outcome State Fault Refusal :=
  match s.pending with
  | [] => .next s.idle
  | c :: rest => exec c { s with pending := rest }

/-- The command that a table word spells goes to the front of the queue; no row of the table gives bits, so no word
spells one. -/
def State.withFetchWord (s : State) (nbits w : Nat) : State :=
  match Sys2Proof.decodeTableWord nbits w with
  | none => s
  | some c => { s with pending := c :: s.pending }

end Sys2Proof.Machine
end

