-- ==== Sys2Proof/WellFormed.lean ====
section
/-! DEFINITION. What makes a command well formed: every unit, ring, port, slot and display that it names exists on the
module, and every number that stands for a field of the spec fits that field. `unitsOk` is the part that a step looks
at: a command that fails it reaches nothing and changes nothing (notes/assumptions/7.md). `fieldsOk` is the part that it
does not look at. -/

namespace Sys2Proof

open Sys2Proof.Machine (unitCount realRequester sramBytes isSramOffset isBlock)

/-- A detect pad of the module (Table 19.2). -/
def DetectPad.ok : DetectPad → Bool
  | .cam p => decide (p < 4)
  | .panel d => decide (d < 2)
  | .hpd => true

/-- Every unit that a command names exists. -/
def Instr.unitsOk : Instr → Bool
  | .registerWrite _ _ _ _ _ => true
  | .counterLowWordRead _ _ => true
  | .counterLowWordWrite _ _ _ => true
  | .counterHighWordWrite _ _ _ _ => true
  | .go _ => true
  | .warmRestart _ _ => true
  | .coldRestart _ _ => true
  | .rescueBootRequest _ _ _ => true
  | .resetPoint _ => true
  | .rescueProgram _ _ _ _ => true
  | .advance _ _ _ => true
  | .fwEpochSet _ _ => true
  | .patchEpochSet _ _ => true
  | .modeRequestDeepStandby _ => true
  | .modeRequestRetain _ => true
  | .modeRequestIdle _ => true
  | .modeRequestRun _ => true
  | .softwareWake _ => true
  | .combBuild _ => true
  | .buildComplete => true
  | .displayEnable _ d _ => decide (d < 3)
  | .tickPeriodWrite _ _ => true
  | .tckLimitWrite _ _ _ => true
  | .clockOutputEnable _ n _ => decide (n < 4)
  | .msixTableWrite off _ => decide (off < 0x420)
  | .faultStatusClear _ b _ _ => isBlock b
  | .logWindowRead _ off _ => decide (off < 0x10000)
  | .spiWrite _ => true
  | .spiRead _ _ => true
  | .spiStatus => true
  | .tickEdge _ => true
  | .tickOutPulseEnd => true
  | .doorbellRead _ => true
  | .descriptorFetch _ => true
  | .subTickPoll _ _ => true
  | .admissionDecision => true
  | .settleFlag => true
  | .settleLate => true
  | .settleAbandon => true
  | .workWindowStart => true
  | .guardWindowStart => true
  | .moderationTimeout r => decide (r < 64)
  | .pcieLinkDown => true
  | .busMasterDisable => true
  | .perstAssert => true
  | .perstRelease => true
  | .pcieRequestInRetain _ _ _ => true
  | .dmaWriteFailure _ => true
  | .tickSourceEdge _ => true
  | .predictedEdgeMissed => true
  | .ptpSyncMessage p _ => decide (p < 2)
  | .ptpSyncTimeout p => decide (p < 2)
  | .ethFrameReceive p _ => decide (p < 2)
  | .flowSilenceTimeout f => decide (f < 32)
  | .ethLinkDown p => decide (p < 2)
  | .ethLinkUp p => decide (p < 2)
  | .queueCreditAvailable q => decide (q < 16)
  | .frameTransmitEnd p => decide (p < 2)
  | .csiFrameComplete p vc _ => decide (p < 4) && decide (vc < 4)
  | .vcFrameStart p vc => decide (p < 4) && decide (1 ≤ vc) && decide (vc ≤ 3)
  | .uvcFrameComplete p _ => decide (p < 3)
  | .camDetectAssert p => decide (p < 4)
  | .probeDelayExpiry p => decide (p < 4)
  | .identityReadDone p _ => decide (p < 4)
  | .identityRetryTimer p => decide (p < 4)
  | .initWriteDone p => decide (p < 4)
  | .initDelayExpiry p => decide (p < 4)
  | .i2cBusHeldLow p => decide (p < 4)
  | .camDetectDeassert p => decide (p < 4)
  | .usbEnumerationEnd p _ => decide (p < 3)
  | .usbDisconnect p => decide (p < 3)
  | .usbOvercurrent p => decide (p < 3)
  | .usbVbusLow p => decide (p < 3)
  | .usbOcRetry p => decide (p < 3)
  | .panelDetectAssert d _ _ _ => decide (d < 3)
  | .panelDepart d => decide (d < 3)
  | .irqHpd _ => true
  | .linkTrainingEnd _ => true
  | .hpdWaitTimeout => true
  | .vddLinkTimer d => decide (d < 3)
  | .frameBlTimer d => decide (d < 3)
  | .blLinkTimer d => decide (d < 3)
  | .linkVddTimer d => decide (d < 3)
  | .offWaitTimer d => decide (d < 3)
  | .holdTimeout => true
  | .chanCreate _ => true
  | .chanDestroy _ => true
  | .chanPause _ => true
  | .chanResume _ => true
  | .chanExport _ => true
  | .exportPoint n => decide (n < 32)
  | .exportTimeout n => decide (n < 32)
  | .chanImport _ _ => true
  | .chanBind _ => true
  | .decode _ _ => true
  | .decodeEnd _ _ => true
  | .bitLimitExceeded _ _ _ => true
  | .blockCycleLimit _ _ _ => true
  | .cycleCapReached _ _ _ => true
  | .bufferRoomAvailable e => decide (e < 3)
  | .syntaxEngineInterrupt e _ _ _ => decide (e < 3)
  | .encodeFrame _ => true
  | .encodeStart _ _ => true
  | .encodeStop _ => true
  | .encodeUpdate _ _ => true
  | .forceIdr _ => true
  | .encodeRowCoded _ _ _ => true
  | .encodeEnd _ _ => true
  | .layerSet _ => true
  | .displayControl _ => true
  | .overlayLoad _ => true
  | .overlayCopyEnd k _ => decide (k < 64)
  | .compositionDeadline => true
  | .compositionEnd d => decide (d < 3)
  | .fioSet _ => true
  | .logRead _ => true
  | .statsRead _ => true
  | .fwStageWrite _ _ _ => true
  | .fwStageCommit _ => true
  | .fwStageConfirm _ => true
  | .userWrite _ _ _ => true
  | .userRead _ => true
  | .netTx _ _ => true
  | .spawn slot _ _ _ _ _ _ _ _ => decide (slot < 256)
  | .retire slot => decide (slot < 256)
  | .yield c => decide (c < 4)
  | .signal slot _ => decide (slot < 256)
  | .dec slot => decide (slot < 256)
  | .bind slot _ => decide (slot < 256)
  | .threadRunLimit ⟨c, _⟩ => decide (c < 4)
  | .cellAllocate who _ => realRequester who
  | .cellFree _ tag => decide (tag < 256)
  | .freeStoreRefill c => decide (c < 4)
  | .freeStoreSpill c => decide (c < 4)
  | .sramScrub a _ => decide (a < sramBytes)
  | .dramMaintenanceStep _ => true
  | .mr4Change code _ => decide (code < 8)
  | .dramRefresh => true
  | .faultReport _ => true
  | .dataPathRestartEnd => true
  | .reactionTimeout => true
  | .unitRetest k u _ _ _ => decide (u < unitCount k)
  | .powerOnReset _ => true
  | .padReset => true
  | .bootComplete => true
  | .bootWatchdog _ => true
  | .powerSequenceRetry _ => true
  | .vinBelowStop => true
  | .brownoutWarning => true
  | .surgeClamp _ => true
  | .surgeRecovery _ => true
  | .vbus5OutOfWindow _ _ => true
  | .railOutOfWindow r _ => decide (1 ≤ r) && decide (r ≤ 5)
  | .phaseOpenDetect _ => true
  | .phaseSenseCheck _ _ => true
  | .spareCheck _ _ => true
  | .phasePark a b => decide (a < 5) && decide (b < 5)
  | .phaseUnpark => true
  | .currentCapExceeded => true
  | .throttleEnd => true
  | .thermalReading _ _ => true
  | .auxOverload n => decide (n < 2)
  | .auxRetry n _ => decide (n < 2)
  | .meterInterval _ => true
  | .referenceFailure => true
  | .cpllUnlock n _ => decide (n < 2)
  | .cpllRetune n => decide (n < 2)
  | .cpllStandbyReady n => decide (n < 2)
  | .synthLock n _ _ _ => decide (n < 6)
  | .synthLockTimeout n => decide (n < 6)
  | .keeperOscillatorFailure => true
  | .stbyRequest => true
  | .stbyRelease => true
  | .wakeInputEdge n _ _ => decide (n < 2)
  | .keeperAlarm => true
  | .entryComplete => true
  | .runReached _ _ _ => true
  | .fieldInputEdge n _ _ => decide (n < 4)
  | .fieldPulseStart n => decide (n < 4)
  | .fieldPulseEnd n => decide (n < 4)
  | .openLoadDetect n _ => decide (n < 4)
  | .shortToGround n => decide (n < 4)
  | .shortRetry n _ => decide (n < 4)
  | .externalDrive n => decide (n < 4)
  | .vfieldLoss => true
  | .vfieldRestore _ => true
  | .resetRelease _ => true
  | .csiPacketReceive p vc _ => decide (p < 4) && decide (vc < 4)
  | .detectPadChange pad => pad.ok
  | .pcieLinkUp gen width => decide (1 ≤ gen) && decide (gen ≤ 3) && (width == 1 || width == 2 || width == 4)
  | .busMasterEnable => true
  | .deviceStateChange _ => true
  | .sramWindowWrite _ off _ _ => isSramOffset off
  | .ppsPulseStart p => decide (p < 2)
  | .ppsPulseEnd p => decide (p < 2)
  | .keeperSupplyLoss => true
  | .brownoutEnd _ => true
  | .usbConnect p => decide (p < 3)
  | .i2cBusReleased p => decide (p < 4)
  | .fieldDiagnosisEnd n _ => decide (n < 4)
  | .keeperOscillatorRestored => true

/-- Numbers that stand for fields of the spec fit them: offsets of BAR0, thread fields (Table 11.1), the band and
the lock time of a synthesiser, the length and the slots of a rescue image (R465), handles (R335), QP or
quality. -/
def Instr.fieldsOk : Instr → Bool
  | .registerWrite _ off size _ _ => decide (off < 0x1000000) && decide (1 ≤ size) && decide (size ≤ 8)
  | .counterLowWordRead _ ⟨off, size, _⟩ => decide (off < 0x1000000) && decide (1 ≤ size) && decide (size ≤ 8)
  | .counterLowWordWrite _ off _ => decide (off < 0x1000000)
  | .counterHighWordWrite _ off _ _ => decide (off < 0x1000000)
  | .rescueProgram _ len ⟨slots, _⟩ _ => decide (len < 2 ^ 21) && decide (slots < 4)
  | .faultStatusClear _ _ _ raised => decide (raised < 65536)
  | .spiRead address _ => decide (address < 0x1000000)
  | .spawn _ prio _ _ aff tag runLimit reload _ =>
    decide (prio < 32) && decide (aff < 16) && decide (tag < 256) && decide (runLimit < 65536) && decide (reload < 65536)
  | .cellFree h _ => decide (h < 2 ^ 24)
  | .synthLock _ _ band _ => decide (band < 64)
  | .encodeRowCoded _ _ qp => decide (qp < 101)
  | .bitLimitExceeded _ row col => decide (row < 65536) && decide (col < 65536)
  | .blockCycleLimit _ row col => decide (row < 65536) && decide (col < 65536)
  | .logRead ⟨_, bad⟩ => bad.all (fun k => decide (k < 2048))
  | .faultReport ⟨r, meets⟩ => (r :: meets).all (fun x => decide (x.unit < 256))
  | .runReached _ _ b => decide (b.getD 0 < 16)
  | .phaseOpenDetect ps => ps.all (fun p => decide (p < 5))
  | .phaseSenseCheck rs _ => rs.all (fun r => decide (r.phase < 5))
  | .meterInterval m => m.cmpNj.all (fun p => decide (p.1 < 3))
  | _ => true

/-- A command that the module can be given. -/
def Instr.wf (i : Instr) : Bool := i.unitsOk && i.fieldsOk

end Sys2Proof
end

