-- ==== Sys2Proof/Safety.lean ====
section
/-! DEFINITION. What counts as a safe state and a safe answer, in the words that the statements use: a command's answer
with what holds of it, the parts of the state and what a command leaves alone, the canonical form of the memories, and
the pads that follow the state. -/

namespace Sys2Proof.Machine

/-- The command completes, and the state that it answers has the property. -/
def Gives (i : Instr) (s : State) (P : State → Prop) : Prop := ∃ t, exec i s = .next t ∧ P t

/-- The parts of the state, one for each field but the free-value counter's own and the pads, which follow the rest. -/
inductive Part where
  | pending
  | regs
  | bus
  | sys
  | engines
  | clock
  | tick
  | hif
  | chans
  | partners
  | gens
  | csi
  | usb
  | flows
  | queues
  | eth
  | cmp
  | displays
  | mem
  | bpm
  | sch
  | log
  | guard
  | power
  | clk
  | pwr
  | fio
  | fresh
deriving DecidableEq, Repr

/-- A part is the same in both states. -/
def Part.same (s t : State) : Part → Prop
  | .pending => t.pending = s.pending
  | .regs => t.regs = s.regs
  | .bus => t.bus = s.bus
  | .sys => t.sys = s.sys
  | .engines => t.engines = s.engines
  | .clock => t.clock = s.clock
  | .tick => t.tick = s.tick
  | .hif => t.hif = s.hif
  | .chans => t.chans = s.chans
  | .partners => t.partners = s.partners
  | .gens => t.gens = s.gens
  | .csi => t.csi = s.csi
  | .usb => t.usb = s.usb
  | .flows => t.flows = s.flows
  | .queues => t.queues = s.queues
  | .eth => t.eth = s.eth
  | .cmp => t.cmp = s.cmp
  | .displays => t.displays = s.displays
  | .mem => t.mem = s.mem
  | .bpm => t.bpm = s.bpm
  | .sch => t.sch = s.sch
  | .log => t.log = s.log
  | .guard => t.guard = s.guard
  | .power => t.power = s.power
  | .clk => t.clk = s.clk
  | .pwr => t.pwr = s.pwr
  | .fio => t.fio = s.fio
  | .fresh => t.fresh = s.fresh

/-- Only the named parts may differ, and the pads. -/
def OnlyIn (ps : List Part) (s t : State) : Prop := ∀ p : Part, p ∈ ps ∨ p.same s t

/-- What the last register read returned on a path. -/
def State.busRead (s : State) : Path → Nat
  | .pcie => s.bus.readPcie
  | .spi => s.bus.readSpi

/-- A plain register whose writable fields are all CFG and whose write does nothing but store: a register of the HIF,
CSI, USB, ETH, DEC, ENC, CMP, MEM and DRC blocks, the row-buffer region apart. -/
def RegDef.quiet (d : RegDef) : Bool :=
  decide (d.kind = .plain) && d.allCfg && [2, 6, 7, 8, 10, 11, 12, 14, 15].contains (d.off >>> 15) &&
    d.off != HIF_STATUS.off && d.off != DEC_ROWBUF_CFG.off

/-- The host writes the field in this configuration state (Table 0.3). -/
def Field.writable (active : Bool) (f : Field) : Bool := decide (f.access = .svc) || (decide (f.access = .cfg) && !active)

/-- Two fields share no bit. -/
abbrev Field.apart (f g : Field) : Prop := f.hi < g.lo ∨ g.hi < f.lo

/-- Offsets that are no register: the SRAM window, the MSI-X table and array, and the trouble-log window. -/
def isWindow (off : Nat) : Bool :=
  isSramOffset off || isMsixOffset off || isPbaOffset off || (decide (0xD0000 ≤ off) && decide (off < 0xE0000))

/-- Numbers of a table rise. -/
def risingFrom {α : Type} : Nat → Table α → Bool
  | _, [] => true
  | lo, (k, _) :: t => decide (lo ≤ k) && risingFrom (k + 1) t

/-- The canonical form of the memories: rising addresses, and no listed SRAM byte equal to the 0 that an unlisted one
reads as. An unlisted byte of host memory or of the trace ring is one that the module has not written, and an unlisted
byte of the MRAM reads as delivered; no written value stands for those (notes/assumptions/40.md). -/
def Memory.wf (m : Mem) : Bool :=
  twf 0 m.sram && risingFrom 0 m.host && risingFrom 0 m.dram && risingFrom 0 m.mram

/-- The form of the cell map: handles rise, and no comb that is built, or being built, has more than 262144 cells
(R331, R333). -/
def Bpm.wf (b : Bpm) : Bool :=
  let few := fun l : List Nat => l.all (fun n => decide (n ≤ 262144))
  risingFrom 0 b.cells && few b.counts && (match b.building with
    | none => true
    | some (l, _) => few l)

/-- The output pads show the state. -/
def State.Settled (s : State) : Prop := s.pads = padsOf s

/-- A completion of the job can be written at once: the module writes to host memory, the job's ring has room, and no
ordered flow or reserved slot stands in between. -/
def State.postable (s : State) (j : Job) : Bool :=
  s.canDma && j.flow.isNone && !j.reserved && s.cqRoom j.cq != 0

/-- The firmware takes up job `id` as one of opcode `op`: `j` is the job as the host gave it. -/
abbrev State.takeable (s : State) (id op : Nat) (j : Job) : Prop :=
  s.readyJob id op = some j ∧ (needsChannel op = true → s.chanExists j.desc.channel = true) ∧ s.classOk j.desc = true ∧
    (op = 0x10 → s.kindOk j.desc = true)

/-- The job has ended: its one completion is the newest entry of its ring, and it has left. -/
def Ended (s t : State) (j : Job) (e : End) : Prop :=
  ((t.cq j.cq).recent.head?.map (·.entry)) =
      some ((({ j with estimated := s.estimatedNow j e.status }).cpl e).bytes 0 s.tick32) ∧
    (t.cq j.cq).pi = ((s.cq j.cq).pi + 1) % 65536 ∧ t.job? j.id = none

/-- What ends a job whose data could not be read: the code of a poisoned completion, or one of the fault codes, which of
them the spec does not say (notes/assumptions/35.md). -/
def Unread (s t : State) (j : Job) (poisoned : Bool) : Prop :=
  if poisoned then Ended s t j { status := 0x40, fault := 0x0206 }
  else ∃ f ∈ faultCodes, Ended s t j { status := 0x40, fault := f }

/-- A job got no cell: it ends REFUSED_RESOURCE with a reason from `base` on; where a wrong check word stood in the free
stores, BPM 0x0E02 is raised instead. -/
def Lacking (s t : State) (j : Job) (base : Nat) : Prop :=
  (∃ k, Ended s t j { status := 0x21, reason := base + k }) ∨
  (bitAt (t.fstat 14) 1 = true ∧ (s.bpm.mismatch ≠ none ∨ (∃ h, s.linkOk h = false) ∨ j.cells ≠ []))

end Sys2Proof.Machine
end

