-- ==== Sys2Proof/Certificates/Slice0/Obligations.lean ====
section
/-! DEFINITION. The statements for the provers. `Gives i s P` says that the command completes from `s` and that the state it
answers has the property `P`; `OnlyIn ps s t` says that only the named parts of the state differ, pads apart, which
always follow the state. -/

open Sys2Proof Sys2Proof.Machine

/-! The whole machine. -/

/-- A step carries out the command at the front of the queue on the state with the queue's rest; with no command
waiting, time passes by one step of R14 and nothing else changes (the model's choice, notes/assumptions/2.md). -/
def Obligations.StepRunsFront : Prop :=
  ∀ (s : State) (c : Instr) (rest : List Instr),
    step { s with pending := c :: rest } = exec c { s with pending := rest } ∧
    ∃ t, step { s with pending := [] } = .next t ∧ t.pending = [] ∧ t.clock.ps = s.clock.ps + s.stepPs ∧
      t.clock.refFailed = s.clock.refFailed ∧ t.clock.oscFailed = s.clock.oscFailed ∧
      OnlyIn [.clock, .pending] s t

/-- The state that any step answers has its pads settled: every output pad stands at the level that the rest of the
state gives it, whatever state the step began in. -/
def Obligations.PadsFollowState : Prop :=
 ∀ s t : State, step s = .next t → t.Settled

/-- Every step keeps the canonical form of the memories: whatever command it carries out, a state whose SRAM, host memory,
written DRAM and MRAM are in their one form is followed by such a state. It keeps the cell map too: numbers that rise, and
no comb with more than 262144 cells (R331). (The forms are the model's, notes/assumptions/40.md.) -/
def Obligations.StepsKeepMemoryForm : Prop :=
  ∀ s t : State, step s = .next t →
    (Memory.wf s.mem = true → Memory.wf t.mem = true) ∧ (Bpm.wf s.bpm = true → Bpm.wf t.bpm = true)

/-- Every command completes in every state and leaves the commands that wait as they are; one that names a unit which the
module does not have changes nothing, pads apart, which follow the state (the model's choice, notes/assumptions/7.md). -/
def Obligations.EveryCommandCompletes : Prop :=
  ∀ (i : Instr) (s : State),
    Gives i s (fun t => t.pending = s.pending) ∧ (i.unitsOk = false → exec i s = .next s.settle)

/-! Registers. -/

/-- R577 and Table 0.3, register by register: a register of CFG fields alone that has no effect of its own takes a write
in CONFIG and nothing else changes; in ACTIVE the write is ignored and counted once in SYS_LATE_WRITES. Of two writes that
meet in one cycle in CONFIG, the one over SPI is applied first and the one over PCIe second (R142). -/
def Obligations.CfgWriteTakesOrCountsLate : Prop :=
  ∀ (p : Path) (off : Nat) (v w : Word) (inc : Bool) (s : State) (d : RegDef) (i j k : Nat),
    findReg off = some (d, i, j, k) → d.quiet = true → isWindow off = false → off % 4 = 0 → s.reaches p off = true →
    exec (.registerWrite p off 4 v ⟨inc, none⟩) s = .next (State.settle
      (if s.isActive then s.bump SYS_LATE_WRITES
       else s.wr d i j (writeFields false v.toNat (s.rd d i j) d.fields))) ∧
    (s.isActive = false → s.reaches .spi off = true → s.reaches .pcie off = true →
      (let first := if p = .spi then v else w
       let second := if p = .spi then w else v
       let u := s.wr d i j (writeFields false first.toNat (s.rd d i j) d.fields)
       exec (.registerWrite p off 4 v ⟨inc, some w⟩) s =
         .next (u.wr d i j (writeFields false second.toNat (u.rd d i j) d.fields)).settle))

/-- R577: a write acts field by field. SVC fields take the value always, CFG fields in CONFIG only, RO and W1C fields
and reserved bits keep what they hold. -/
def Obligations.RegisterWriteActsByField : Prop :=
  ∀ (active : Bool) (v old : Nat) (fs : List Field),
    (∀ f ∈ fs, f.lo ≤ f.hi) → fs.Pairwise Field.apart →
    (∀ f ∈ fs, bits (writeFields active v old fs) f.hi f.lo =
      if f.writable active then bits v f.hi f.lo else bits old f.hi f.lo) ∧
    (∀ k, (∀ f ∈ fs, k < f.lo ∨ f.hi < k) → bitAt (writeFields active v old fs) k = bitAt old k)

/-- R9 and R10: a write that is not a naturally aligned 32-bit write is ignored, and a write to an unimplemented
offset is ignored; a read that is not a naturally aligned 32-bit read, and a read of an unimplemented offset, return 0. -/
def Obligations.BadAccessesAreIgnored : Prop :=
  ∀ (p : Path) (off size : Nat) (v : Word) (inc : Bool) (meets : Option Word) (x : SramAccess) (s : State),
    ((size ≠ 4 ∨ off % 4 ≠ 0) →
      exec (.registerWrite p off size v ⟨inc, meets⟩) s = .next s.settle ∧
      Gives (.counterLowWordRead p ⟨off, size, x⟩) s (fun t => t.busRead p = 0)) ∧
    (isWindow off = false → findReg off = none →
      exec (.registerWrite p off size v ⟨inc, meets⟩) s = .next s.settle ∧
      Gives (.counterLowWordRead p ⟨off, size, x⟩) s (fun t => t.busRead p = 0 ∧ OnlyIn [.bus] s t))

/-- R18 and R19: one increment of a counter, and of a 64-bit counter; nothing else changes. -/
def Obligations.CounterIncrementWraps : Prop :=
  ∀ (s : State) (d : RegDef) (i : Nat),
    (let old := s.rd d i
     let t := s.bump d i
     let new := t.rd d i
     new % 2 ^ 31 = (old % 2 ^ 31 + 1) % 2 ^ 31 ∧ (2 ^ 31 ≤ new ↔ 2 ^ 31 ≤ old ∨ old % 2 ^ 31 = 2 ^ 31 - 1) ∧
     OnlyIn [.regs] s t ∧ ∀ e k, k ≠ d.at i → tget e t.regs k = tget e s.regs k) ∧
    (let old := s.cnt64 d i
     let t := s.bump64 d i
     let new := t.cnt64 d i
     new % 2 ^ 63 = (old % 2 ^ 63 + 1) % 2 ^ 63 ∧ (2 ^ 63 ≤ new ↔ 2 ^ 63 ≤ old ∨ old % 2 ^ 63 = 2 ^ 63 - 1) ∧
     OnlyIn [.regs] s t ∧ ∀ e k, k ≠ d.at i → k ≠ d.at i + 4 → tget e t.regs k = tget e s.regs k)

/-- R20 to R25: reading the low word of a 64-bit counter returns it and latches the high word on the path that reads; the
counter and the other path's latch are unchanged, and a later read of the high word returns what was latched. In CONFIG a
written low word is staged on its path and the counter stands; the high word then loads both, uses the staged word up, and an
increment in the same cycle is lost and leaves OVF when it would have wrapped; with no word staged for that counter on that
path the low word stays. In ACTIVE a write of a counter is ignored and counted as late. -/
def Obligations.LowWordReadLatchesHigh : Prop :=
  (∀ (p q : Path) (off : Nat) (x : SramAccess) (s : State) (d : RegDef) (i : Nat),
     findReg off = some (d, i, 0, 0) → d.kind = .counter64 → (s.mirrors d.off i 0).find? (fun x => x.1.off == d.off) = none →
     isWindow off = false → off % 4 = 0 → s.reaches p off = true →
     Gives (.counterLowWordRead p ⟨off, 4, x⟩) s (fun t =>
       t.busRead p = (tget 0 s.regs (d.at i)).toNat ∧ t.latch p = (tget 0 s.regs (d.at i + 4)).toNat ∧
       (q ≠ p → t.latch q = s.latch q ∧ t.busRead q = s.busRead q) ∧ OnlyIn [.bus] s t ∧
       ∀ (u : State) (e : RegDef) (k : Nat), findReg (off + 4) = some (e, k, 0, 1) → e.kind = .counter64 →
         isWindow (off + 4) = false → u.reaches p (off + 4) = true → u.latch p = t.latch p →
         (u.readWord p (off + 4)).2 = (tget 0 s.regs (d.at i + 4)).toNat)) ∧
  (∀ (p : Path) (off : Nat) (v : Word) (inc : Bool) (s : State) (d : RegDef) (i w : Nat),
     findReg off = some (d, i, 0, w) → d.kind = .counter64 → d.off >>> 15 ≠ 4 → d.off >>> 15 ≠ 29 →
     isWindow off = false → off % 4 = 0 → s.reaches p off = true →
     (s.isActive = true →
       exec (.counterLowWordWrite p off v) s = .next (s.bump SYS_LATE_WRITES).settle ∧
       exec (.counterHighWordWrite p off v false) s = .next (s.bump SYS_LATE_WRITES).settle) ∧
     (s.isActive = false → w = 0 →
       Gives (.counterLowWordWrite p off v) s (fun t =>
         t.staged p = some (d.at i, v.toNat) ∧ t.cnt64 d i = s.cnt64 d i ∧ OnlyIn [.bus] s t ∧
         ∀ q, q ≠ p → t.staged q = s.staged q)) ∧
     (s.isActive = false → w = 1 → (∀ a x, s.staged p = some (a, x) → x < 2 ^ 32) →
       Gives (.counterHighWordWrite p off v inc) s (fun t =>
         OnlyIn [.bus, .regs] s t ∧ (∀ q, q ≠ p → t.staged q = s.staged q) ∧
         (∀ x, s.staged p = some (d.at i, x) → t.staged p = none) ∧
         (let mine : Bool := (s.staged p).any (fun x => x.1 == d.at i)
          let low := if mine then ((s.staged p).map (·.2)).getD 0 else s.cnt64 d i % 2 ^ 32
          let loaded := v.toNat * 2 ^ 32 + low
          t.cnt64 d i = if inc = true ∧ s.cnt64 d i % 2 ^ 63 = 2 ^ 63 - 1 then loaded % 2 ^ 63 + 2 ^ 63 else loaded))))

/-- R49, R503, R580: registers whose value has a range. TCK_PERIOD takes 4 000 000 to 100 000 000 in CONFIG; any other value, a
tolerance above 500 and an admission margin outside its range are ignored as a whole and set TCK_STATUS.CFG_ERR. A clock output
enabled at a frequency outside the range of its format is ignored and sets CLK_STATUS.CFG_ERR; one in range, one with EN 0 and
one whose source is off are taken and clear it. Nothing but these registers, and what the period sets, changes. In ACTIVE
the write is ignored and counted. -/
def Obligations.RangedRegistersTakeRange : Prop :=
  (∀ (p : Path) (v : Word) (s : State), s.reaches p TCK_PERIOD.off = true →
     (s.isActive = true → exec (.tickPeriodWrite p v) s = .next (s.bump SYS_LATE_WRITES).settle) ∧
     (s.isActive = false → (v.toNat < 4000000 ∨ 100000000 < v.toNat) →
       exec (.tickPeriodWrite p v) s = .next (s.wrFld TCK_STATUS 16 16 1).settle ∧
       (s.wrFld TCK_STATUS 16 16 1).period = s.period) ∧
     (s.isActive = false → 4000000 ≤ v.toNat → v.toNat ≤ 100000000 →
       Gives (.tickPeriodWrite p v) s (fun t =>
         t.period = v.toNat ∧ t.flag TCK_STATUS 16 = false ∧ OnlyIn [.regs, .displays, .clk] s t))) ∧
  (∀ (p : Path) (adm : Bool) (v : Word) (s : State),
     s.reaches p TCK_SRC_TOL.off = true → s.reaches p TCK_ADM_CTL.off = true →
     (let bad := if adm then 25 < bits v.toNat 4 0 ∨ 50 < bits v.toNat 13 8 else 500 < bits v.toNat 8 0
      (s.isActive = true → exec (.tckLimitWrite p adm v) s = .next (s.bump SYS_LATE_WRITES).settle) ∧
      (s.isActive = false → bad → exec (.tckLimitWrite p adm v) s = .next (s.wrFld TCK_STATUS 16 16 1).settle) ∧
      (s.isActive = false → ¬ bad →
        Gives (.tckLimitWrite p adm v) s (fun t =>
          t.flag TCK_STATUS 16 = false ∧ OnlyIn [.regs, .displays, .clk] s t ∧
          (if adm then t.fld TCK_ADM_CTL 4 0 = bits v.toNat 4 0 ∧ t.fld TCK_ADM_CTL 13 8 = bits v.toNat 13 8 ∧
              t.rd TCK_SRC_TOL = s.rd TCK_SRC_TOL
           else t.fld TCK_SRC_TOL 8 0 = bits v.toNat 8 0 ∧ t.rd TCK_ADM_CTL = s.rd TCK_ADM_CTL))))) ∧
  (∀ (p : Path) (n : Nat) (v : Word) (s : State), n < 4 → s.reaches p (CLK_OUT.at n) = true →
    (let good := bitAt v.toNat 0 = false ∨ bits v.toNat 4 3 = 3 ∨ outInRange v.toNat (s.fld CLK_OUT_FRAC 23 0 n) = true
     (s.isActive = true → exec (.clockOutputEnable p n v) s = .next (s.bump SYS_LATE_WRITES).settle) ∧
     (s.isActive = false → ¬ good → exec (.clockOutputEnable p n v) s = .next (s.wrFld CLK_STATUS 12 12 1).settle) ∧
     (s.isActive = false → good → Gives (.clockOutputEnable p n v) s (fun t =>
       t.rd CLK_OUT n = writeFields false v.toNat (s.rd CLK_OUT n) CLK_OUT.fields ∧ t.flag CLK_STATUS 12 = false ∧
       OnlyIn [.regs] s t))))

/-- R96, R98, R99: GO in CONFIG checks the HIF configuration. When it holds the module is ACTIVE, CFG_ERR_IDX reads 0xFF,
every ring index and the sequence number start from 0, and ring traffic waits for the first edge; otherwise the first failing
item is shown and nothing else changes. In ACTIVE the write is ignored and counted. -/
def Obligations.GoChecksAndActivates : Prop :=
  ∀ (p : Path) (s : State), s.reaches p SYS_CTL.off = true →
    (s.isActive = true → exec (.go p) s = .next (s.bump SYS_LATE_WRITES).settle) ∧
    (s.isActive = false → s.goErr ≠ 0xFF → exec (.go p) s = .next (s.wrFld HIF_STATUS 23 16 s.goErr).settle) ∧
    (s.isActive = false → s.goErr = 0xFF → Gives (.go p) s (fun t =>
      t.isActive = true ∧ t.fld HIF_STATUS 23 16 = 0xFF ∧ (∀ n, t.sq n = .reset) ∧ (∀ n, t.cq n = .reset) ∧
      t.hif.evPi = 0 ∧ t.hif.evCi = 0 ∧ t.hif.seq = 0 ∧ t.hif.started = false ∧ t.mem.iecc = s.flag DRC_CTL 0 ∧
      OnlyIn [.regs, .sys, .tick, .hif, .flows, .displays, .mem, .sch, .guard] s t))

/-- R451, R452, R465, Table 15.1: SYS_RESTART with its key starts the restart asked for, and every display begins its
power-down unless IMMEDIATE is set; while a restart is due a further one changes nothing; with any other key the write is
ignored and counted. -/
def Obligations.RestartsAreRequested : Prop :=
  (∀ (p : Path) (cold imm : Bool) (s : State), s.reaches p SYS_RESTART.off = true →
    (let due (cause : Nat) (rescue : Bool) (t : State) : Prop :=
       OnlyIn [.regs, .sys, .displays] s t ∧
       (if s.sys.restart.isSome = true then t.sys = s.sys ∧ t.displays = s.displays
        else t.sys = { s.sys with restart := some (cause, rescue, imm) } ∧
          t.displays = if imm then s.displays else ((List.range 3).foldl (fun u d => u.panelDown d) s).displays)
     Gives (.warmRestart p imm) s (due 2 false) ∧ Gives (.coldRestart p imm) s (due 3 false) ∧
     Gives (.rescueBootRequest p cold imm) s (due (if cold then 3 else 2) true))) ∧
  (∀ (p : Path) (v : Word) (s : State), s.reaches p SYS_RESTART.off = true → bits v.toNat 15 0 ≠ 0x52C3 →
    Gives (.registerWrite p SYS_RESTART.off 4 v ⟨false, none⟩) s (fun t =>
      t.rd SYS_RESTART_REJECT_COUNT = bump32 (s.rd SYS_RESTART_REJECT_COUNT) ∧ OnlyIn [.regs] s t))

/-- R450, R452, R454, R465: at the reset point, with every display off or IMMEDIATE set, the module starts again: its cause is
the kind of the restart, no restart is due, it is in CONFIG with no job, no channel and the link down, and a restart into
rescue boot is in rescue boot once its fuses read. Before that point, and with no restart due, nothing changes. -/
def Obligations.ResetPointStartsAgain : Prop :=
  ∀ (env : BootEnv) (s : State),
    (s.sys.restart = none → exec (.resetPoint env) s = .next s.settle) ∧
    (∀ cause rescue, s.sys.restart = some (cause, rescue, false) → s.allDark = false →
      exec (.resetPoint env) s = .next s.settle) ∧
    (∀ cause rescue imm, s.sys.restart = some (cause, rescue, imm) → cause ≠ 6 → (imm = true ∨ s.allDark = true) →
      exec (.resetPoint env) s = .next ((s.resetTo cause).boot rescue env).settle ∧
      Gives (.resetPoint env) s (fun t =>
        t.sys.resetCause = cause ∧ t.sys.restart = none ∧ t.isActive = false ∧ t.hif.jobs = [] ∧ t.chans = [] ∧
        t.bus.linkGen = 0 ∧
        (rescue = true → env.fuseOk = true → (s.sys.wipePending = none ∨ env.wipeOk = true) → t.sys.rescue = true)))

/-- R450, R453, Table 15.2: no reset changes the boot record, the fuses, the fitted DRAM, the MRAM or what is in host memory,
and every reset wipes the on-chip SRAM and returns every register outside the KPR block to its reset value; a power-on reset
and a life-cycle restart also empty the trouble log and the wake latch and reset the KPR registers, and every other reset
keeps them; a warm reset keeps the DRAM, and no other reset does; a power-on reset alone starts Keeper time at 0. -/
def Obligations.ResetKindsKeepAndWipe : Prop :=
  ∀ (s : State) (k : Nat),
    let r := s.resetTo k
    r.sys.resetCause = k ∧ r.sys.cfg = .config ∧ r.sys.bootStage = 0 ∧ r.sys.restart = none ∧
    r.sys.dramGib = s.sys.dramGib ∧ r.sys.slotA = s.sys.slotA ∧ r.sys.slotB = s.sys.slotB ∧
    r.sys.preferred = s.sys.preferred ∧ r.sys.trialBooted = s.sys.trialBooted ∧ r.sys.wipePending = s.sys.wipePending ∧
    r.sys.lcsResult = s.sys.lcsResult ∧ r.sys.wipeUs = s.sys.wipeUs ∧ r.sys.lifeState = s.sys.lifeState ∧
    r.sys.patchKey = s.sys.patchKey ∧ r.sys.fwEpochFuse = s.sys.fwEpochFuse ∧
    r.sys.patchEpochFuse = s.sys.patchEpochFuse ∧ r.mem.mram = s.mem.mram ∧ r.mem.host = s.mem.host ∧
    r.pending = s.pending ∧ r.chans = [] ∧ r.mem.sram = [] ∧ r.hif = .reset ∧ r.guard = .reset ∧
    (∀ d i, d.at i / 65536 ≠ 12 → r.rd d i = State.reset.rd d i) ∧
    (k ≠ 0 → k ≠ 6 → r.log = s.log ∧ r.power.latched = s.power.latched ∧
      ∀ d i, d.at i / 65536 = 12 → r.rd d i = s.rd d i) ∧
    (k = 0 ∨ k = 6 → r.log = .reset ∧ r.power.latched = [] ∧ ∀ d i, r.rd d i = State.reset.rd d i) ∧
    (k = 2 → r.mem.dram = s.mem.dram) ∧ (k ≠ 2 → r.mem.dram = []) ∧
    (k = 0 → r.clock.ps = 0) ∧ (k ≠ 0 → r.clock.ps = s.clock.ps)

/-- R470 to R473, R475, Table 15.10: the life-cycle commands. A command that is not accepted changes nothing but RESULT, and
with a restart due none acts. An epoch command raises its fuse count to that of the running image, unless a fuse does not read
back, and never lowers it. ADVANCE programs the next state, with the device patch key destroyed on the way to RETURNED,
and, when the wipe reads back, the module has been wiped and restarts with cause 6, even where the state fuse does not read
back; a wrong key leaves RESULT 1. -/
def Obligations.LifeCycleCommandsAct : Prop :=
  (∀ (p : Path) (ok : Bool) (env : BootEnv) (s : State), s.reaches p LCS_CMD.off = true →
    (s.sys.restart.isSome = true →
      Gives (.fwEpochSet p ok) s (fun t => OnlyIn [.regs] s t) ∧ Gives (.patchEpochSet p ok) s (fun t => OnlyIn [.regs] s t) ∧
      (s.sys.restart.map (·.1) ≠ some 6 → Gives (.advance p ok env) s (fun t => OnlyIn [.regs] s t))) ∧
    (s.sys.restart = none →
      (let refused (cmd : Nat) (t : State) : Prop :=
         t.sys = { s.sys with lcsResult := s.lcsRefusal cmd } ∧ OnlyIn [.regs, .sys] s t
       (s.lcsRefusal 1 ≠ 0 → Gives (.advance p ok env) s (refused 1)) ∧
       (s.lcsRefusal 2 ≠ 0 → Gives (.fwEpochSet p ok) s (refused 2)) ∧
       (s.lcsRefusal 3 ≠ 0 → Gives (.patchEpochSet p ok) s (refused 3)) ∧
       (s.lcsRefusal 2 = 0 → Gives (.fwEpochSet p ok) s (fun t =>
         t.sys = { s.sys with
           fwEpochFuse := if ok then max s.sys.fwEpochFuse s.sys.fwEpoch else s.sys.fwEpochFuse, lcsLast := 2,
           lcsResult := if ok = true ∨ s.sys.fwEpoch ≤ s.sys.fwEpochFuse then 0 else 6 } ∧
         OnlyIn [.regs, .sys] s t)) ∧
       (s.lcsRefusal 3 = 0 → Gives (.patchEpochSet p ok) s (fun t =>
         t.sys = { s.sys with
           patchEpochFuse := if ok then max s.sys.patchEpochFuse s.sys.imageEpoch else s.sys.patchEpochFuse, lcsLast := 3,
           lcsResult := if ok = true ∨ s.sys.imageEpoch ≤ s.sys.patchEpochFuse then 0 else 6 } ∧
         OnlyIn [.regs, .sys] s t)) ∧
       (s.lcsRefusal 1 = 0 → env.wipeOk = true →
         ∃ u : State, exec (.advance p ok env) s = .next (u.boot false env).settle ∧
           u.sys.lifeState = (if ok then s.sys.lifeState + 1 else s.sys.lifeState) ∧
           u.sys.lcsResult = (if ok then 0 else 6) ∧ u.sys.patchKey = (s.sys.patchKey && s.sys.lifeState != 2) ∧
           u.sys.wipePending = none ∧ u.sys.wipeUs = env.wipeUs ∧ u.mem.sram = [] ∧ u.mem.dram = [] ∧
           u.sys.resetCause = 6 ∧ u.log = .reset ∧
           (s.sys.lifeState = 2 → ∀ a, 0x300000 ≤ a → a < 0x3F0000 → u.mramByte a = 0))))) ∧
  (∀ (p : Path) (cmd key : Nat) (s : State), s.reaches p LCS_CMD.off = true → s.sys.restart = none → cmd < 16 →
    key < 65536 → key ≠ 0x7A1E →
    Gives (.registerWrite p LCS_CMD.off 4 (BitVec.ofNat 32 (cmd + 65536 * key)) ⟨false, none⟩) s (fun t =>
      t.sys = { s.sys with lcsResult := 1 } ∧ OnlyIn [.regs, .sys, .fresh] s t))

/-- R466: outside rescue boot the programming command acts on nothing. In rescue boot it checks the image in the SRAM window.
When the check fails its reason is shown, no slot changes and no restart follows. When it passes, every named slot is
programmed; where it reads back, each holds the image and is VALID, the first of them is preferred, and the module restarts
with cause 7; where it does not, RESULT is 0xC5, every named slot is EMPTY and the module stays in rescue boot. With no slot
named the restart follows alone (the model's reading, notes/assumptions/165.md). -/
def Obligations.RescueProgramsNamedSlots : Prop :=
  ∀ (p : Path) (len slots : Nat) (ok : Bool) (env : BootEnv) (s : State), s.reaches p SYS_RESCUE_CTL.off = true →
    len < 2 ^ 21 → slots < 4 →
    (s.sys.rescue = false → s.sys.restart = none →
      Gives (.rescueProgram p len ⟨slots, ok⟩ env) s (fun t => OnlyIn [.regs] s t)) ∧
    (s.sys.rescue = true → s.sys.restart = none →
      (let bad := if slotSize < len then 0xC6 else s.stagedErr s.rescueByte len
       (bad ≠ 0 → Gives (.rescueProgram p len ⟨slots, ok⟩ env) s (fun t =>
         t.sys = { s.sys with rescueResult := bad } ∧ OnlyIn [.regs, .sys] s t)) ∧
       (bad = 0 → (ok = true ∨ slots = 0) → ∃ u : State,
         exec (.rescueProgram p len ⟨slots, ok⟩ env) s = .next (u.boot false env).settle ∧
         u.sys.resetCause = 7 ∧
         u.sys.preferred = (if slots = 0 then s.sys.preferred else if slots = 2 then 1 else 0) ∧
         ∀ k, k < 2 →
           if bitAt slots k then
             u.slot k = { state := 1, version := imgNat s.rescueByte 0x0C 4, epoch := imgNat s.rescueByte 0x10 1 } ∧
             ∀ i, i < len → u.slotByte k i = s.rescueByte i
           else u.slot k = s.slot k ∧ ∀ i, i < slotSize → u.slotByte k i = s.slotByte k i) ∧
       (bad = 0 → ok = false → slots ≠ 0 → Gives (.rescueProgram p len ⟨slots, ok⟩ env) s (fun t =>
         t.sys.rescueResult = 0xC5 ∧ t.sys.restart = none ∧ t.sys.rescue = true ∧
         (∀ k, k < 2 → if bitAt slots k then (t.slot k).state = 0 else t.slot k = s.slot k) ∧
         OnlyIn [.regs, .sys, .mem, .fresh] s t))))

/-- R422 to R424, Table 14.3: the answer to a mode request: RESULT 3 in SAFE; RESULT 1 while a reaction runs; in RUN and IDLE a
request for the present mode is answered with 0 and changes nothing else, one for RETAIN or DEEP STANDBY with the Keeper's
oscillator failed with 4, and any other is accepted with 0 and begins at the next edge. The standby pad asks for the
mode of STBY_TARGET in the same way, and once until it is released. -/
def Obligations.ModeRequestsAreAnswered : Prop :=
  (∀ (p : Path) (s : State) (c : Instr) (m : Mode),
    (c, m) ∈ [(Instr.modeRequestDeepStandby p, Mode.deepStandby), (.modeRequestRetain p, .retain),
      (.modeRequestIdle p, .idle), (.modeRequestRun p, .run)] →
    s.reaches p PWR_MODE_REQ.off = true →
    (let answers (r : Nat) := Gives c s (fun t => t.power = { s.power with result := r } ∧ OnlyIn [.regs, .power] s t)
     let barred := (m = .retain ∨ m = .deepStandby) ∧ s.clock.oscFailed = true
     (s.guard.safe = true → answers 3) ∧
     (s.guard.safe = false → s.power.trans = .none → s.reacting = true → answers 1) ∧
     (s.guard.safe = false → s.power.trans = .none → s.reacting = false → (s.power.mode = .run ∨ s.power.mode = .idle) →
       (m = s.power.mode → answers 0) ∧ (m ≠ s.power.mode → barred → answers 4) ∧
       (m ≠ s.power.mode → ¬ barred → Gives c s (fun t =>
         t.power = { s.power with trans := .requested m (pathCause p), result := 0 } ∧ OnlyIn [.regs, .power] s t))))) ∧
  (∀ s : State,
    (s.power.stbyReady = false → exec .stbyRequest s = .next s.settle) ∧
    (s.power.stbyReady = true → s.sys.bootStage = 7 → s.guard.safe = false → s.power.trans = .none →
      s.reacting = false → s.clock.oscFailed = false → (s.power.mode = .run ∨ s.power.mode = .idle) →
      Gives .stbyRequest s (fun t =>
        t.power = { s.power with trans := .requested (if s.flag PWR_CFG 0 then .deepStandby else .retain) 2, result := 0,
                                 stbyReady := false } ∧ OnlyIn [.power] s t)))

/-- R438 to R440, R561, Table 14.5: in RETAIN, with the latch armed and room in it, a wake event of an enabled source is
latched with its source and its Keeper time and the exit starts at once, with PCIE_WAKE_N low. Software always may; the
standby pad, the wake inputs at their polarity and the alarm may when KPR_WAKE_EN lets them. -/
def Obligations.WakeEventsLatchAndWake : Prop :=
  ∀ (s : State), s.power.mode = .retain → s.power.trans = .none → s.power.armed = true → s.power.latched = [] →
    (let woken (src ns : Nat) (t : State) : Prop :=
       t.power.trans = .exiting .retain ∧ t.power.wakeOut = true ∧ t.power.latched.map (·.source) = [src] ∧
       t.power.latched.map (·.ns) = [ns]
     (∀ p, s.reaches p KPR_WAKE_CMD.off = true → Gives (.softwareWake p) s (fun t =>
       woken 8 s.ktime t ∧ OnlyIn [.regs, .power] s t)) ∧
     (s.power.stbyReady = false → s.flag KPR_WAKE_EN 7 = true → Gives .stbyRelease s (fun t =>
       woken 7 s.ktime t ∧ t.power.stbyReady = true ∧ OnlyIn [.power] s t)) ∧
     (∀ n rising ns, n < 2 → s.pwr.keeperOn = true → s.flag KPR_WAKE_EN n = true →
       Gives (.wakeInputEdge n rising ns) s (fun t =>
         1000 * s.sampleNs ns + 100000000 ≤ t.clock.ps ∧ s.clock.ps ≤ t.clock.ps ∧ OnlyIn [.clock, .power] s t ∧
         (if s.flag KPR_WAKE_POL n = rising then woken n (s.sampleNs ns) t else t.power = s.power))) ∧
     (s.power.alarm ≠ 0 → s.power.alarmPassed = false → s.pwr.keeperOn = true → s.flag KPR_WAKE_EN 6 = true →
       Gives .keeperAlarm s (fun t =>
         woken 6 t.ktime t ∧ t.power.alarmPassed = true ∧ t.power.alarm = s.power.alarm ∧
         1000 * s.power.alarm ≤ t.clock.ps ∧ OnlyIn [.clock, .power] s t)))

/-- R313, R427, R431 to R437, R440: an entry completes in its mode with the synthesisers off, the cameras off and the SRAM
banks of the mode alone powered; with a wake event already latched it leaves the mode at once, DEEP STANDBY by a start
from boot stage 0. A failed training at the exit from RETAIN leads to SAFE; a good one to RUN, where the replay is due and the
ticks that have passed are counted; without an exit from RETAIN nothing happens. -/
def Obligations.LowPowerEntryAndExit : Prop :=
  (∀ (s : State) (m : Mode), s.power.trans = .quiesced m → s.power.latched = [] → Gives .entryComplete s (fun t =>
    t.power.mode = m ∧ t.power.trans = .none ∧ t.power.completeNs = s.ktime ∧ t.clk.dramDll = 0 ∧ t.clk.standby = false ∧
    (∀ x ∈ t.clk.synths, x.state = 0) ∧ (∀ c ∈ t.csi, c.camEn = false) ∧
    t.mem = { s.mem with bankOn := s.banksIn m, sram := s.mem.sram.filter (fun p => bitAt (s.banksIn m) (sramBank p.1)) } ∧
    OnlyIn [.power, .csi, .clk, .mem] s t)) ∧
  (∀ (s : State) (w : Wake) (rest : List Wake), s.power.latched = w :: rest →
    (s.power.trans = .quiesced .retain → Gives .entryComplete s (fun t =>
      t.power.mode = .retain ∧ t.power.trans = .exiting .retain ∧ t.power.latched = s.power.latched ∧
      t.mem.bankOn = s.fld MEM_RET_MASK 15 0 ∧ OnlyIn [.power, .csi, .clk, .mem] s t)) ∧
    (s.power.trans = .quiesced .deepStandby → Gives .entryComplete s (fun t =>
      t.power.mode = .deepStandby ∧ t.power.trans = .exiting .deepStandby ∧ t.power.latched = s.power.latched ∧
      t.sys.resetCause = 5 ∧ t.sys.bootStage = 0 ∧ t.mem.dram = []))) ∧
  (∀ (s : State) (present : List Nat) (train : Bool) (bad : Option Nat),
    (s.power.trans ≠ .exiting .retain → exec (.runReached present train bad) s = .next s.settle) ∧
    (s.power.trans = .exiting .retain →
      (s.guard.safe = false → Gives (.runReached present false bad) s (fun t =>
        t.power.mode = .safe ∧ t.guard.safe = true ∧ t.mem.trained = 0 ∧ bitAt (t.fstat 0x0D) 6 = true)) ∧
      exec (.runReached present true none) s =
        .next ((((s.wakeFromRetain present).startWaiting.flushMsi.completeAllHeld).restartPulses).edge []).settle ∧
      (s.wakeFromRetain present).power.mode = .run ∧ (s.wakeFromRetain present).power.replay = some .retain ∧
      (s.wakeFromRetain present).mem.bankOn = 0xFFFF ∧
      (s.wakeFromRetain present).tick.number = BitVec.ofNat 48 (s.exitTick - 1)))

/-- R331, R333, R334: BUILD in CONFIG checks base, counts and size in this order, empties the combs, and runs a build only
when every check passes; while a build runs it is ignored; when the build ends every cell of every comb is free. -/
def Obligations.CombBuildChecksAndFills : Prop :=
  (∀ (p : Path) (s : State), s.reaches p BPM_CTL.off = true → s.isActive = false →
    (s.bpm.building.isSome = true → exec (.combBuild p) s = .next s.settle) ∧
    (s.bpm.building = none → Gives (.combBuild p) s (fun t =>
      t.bpm.buildErr = s.buildErr ∧ t.bpm.built = false ∧ t.bpm.cells = [] ∧ t.bpm.counts = List.replicate 8 0 ∧
      t.bpm.building = (if s.buildErr = 0 then some (s.combCounts, s.rd64 BPM_BASE_LO BPM_BASE_HI) else none) ∧
      OnlyIn [.bpm] s t))) ∧
  (∀ s : State,
    (s.bpm.building = none → exec .buildComplete s = .next s.settle) ∧
    (∀ counts base, s.bpm.building = some (counts, base) → Gives .buildComplete s (fun t =>
      t.bpm.built = true ∧ t.bpm.counts = counts ∧ t.bpm.base = base ∧ t.bpm.cells = [] ∧ t.bpm.building = none ∧
      (∀ c, c < 8 → t.combFree c = lget 0 counts c) ∧ t.mem = { s.mem with dram := t.mem.dram } ∧
      OnlyIn [.bpm, .mem] s t)))

/-- R294, R297: EN of a display written in CONFIG. When a check fails EN stays 0 and CFG_ERR names it; when all pass the
display is enabled, its first buffer is chosen, and a present panel starts to power up with VDD_EN. EN written 0 disables
the display and clears CFG_ERR, with its power-down begun. In ACTIVE the write is ignored and counted. -/
def Obligations.DisplayEnableChecks : Prop :=
  ∀ (p : Path) (d : Nat) (v : Word) (s : State), d < 3 → s.reaches p (DSP_CFG.at d) = true →
    (s.isActive = true → exec (.displayEnable p d v) s = .next (s.bump SYS_LATE_WRITES).settle) ∧
    (s.isActive = false → s.enabled d = true → bitAt v.toNat 0 = false → Gives (.displayEnable p d v) s (fun t =>
      t.enabled d = false ∧ t.fld DSP_STATUS 11 8 d = 0 ∧ OnlyIn [.regs, .displays, .clk] s t ∧
      ∀ y, t.displays[d]? = some y → y.step.isOff = true ∨ y.step.falling = true)) ∧
    (s.isActive = false → s.enabled d = false → bitAt v.toNat 0 = true →
      (let u := s.wr DSP_CFG d 0 (writeFields false v.toNat (s.rd DSP_CFG d) DSP_CFG.fields)
       let err := u.displayErr d (u.reserved - u.reservation d)
       (err ≠ 0 → Gives (.displayEnable p d v) s (fun t =>
         t.enabled d = false ∧ t.fld DSP_STATUS 11 8 d = err ∧ OnlyIn [.regs, .displays] s t ∧
         t.displays.map (·.step) = s.displays.map (·.step))) ∧
       (err = 0 → Gives (.displayEnable p d v) s (fun t =>
         t.enabled d = true ∧ t.fld DSP_STATUS 11 8 d = 0 ∧ OnlyIn [.regs, .displays, .clk] s t ∧
         (∀ x, s.displays[d]? = some x → (x.present = true ∨ (d < 2 ∧ u.flag DSP_CFG 7 d = true)) → x.step = .off →
           ∃ y, t.displays[d]? = some y ∧ y.frontBuf = 1 ∧ y.step.vdd = true)))))

/-- R92, R94, R130: a word written to the MSI-X table is kept with its reserved bits 0, in any state; a pending vector that is
unmasked by it, while the function can send, sends its message and is pending no more. When TIME_US has passed since the
first completion that was not signalled, its ring signals, and owes no more; a ring that owes no signal is left alone. -/
def Obligations.VectorsMaskAndModerate : Prop :=
  (∀ (off : Nat) (v : Word) (s : State), off < 0x420 → off % 4 = 0 → s.reaches .pcie (0x18000 + off) = true →
     Gives (.msixTableWrite off v) s (fun t =>
       t.msixWord (off / 16) (off / 4 % 4) =
         (if off / 4 % 4 = 3 then v &&& 1 else if off / 4 % 4 = 0 then v &&& 0xFFFFFFFC else v) ∧
       (∀ k w, w < 4 → (k ≠ off / 16 ∨ w ≠ off / 4 % 4) → t.msixWord k w = s.msixWord k w) ∧
       (∀ k, t.canSend = true → t.masked k = false → t.bus.pba.contains k = false) ∧
       (∀ k, t.masked k = true → t.bus.pba.contains k = s.bus.pba.contains k ∧
         tget 0 t.bus.msixSent k = tget 0 s.bus.msixSent k) ∧
       OnlyIn [.bus] s t)) ∧
  (∀ (s : State) (n : Nat), n < 64 →
     (s.owesSignal n = false → exec (.moderationTimeout n) s = .next s.settle) ∧
     (s.owesSignal n = true → 0 < s.fld HIF_CQ_MOD 31 16 n →
       Gives (.moderationTimeout n) s (fun t =>
         (t.cq n).unsignalled = 0 ∧ (t.cq n).pi = (s.cq n).pi ∧ t.owesSignal n = false ∧ (∀ k, k ≠ n → t.cq k = s.cq k) ∧
         1000 * ((s.cq n).sinceNs + 1000 * s.fld HIF_CQ_MOD 31 16 n) ≤ t.clock.ps ∧
         (s.canSend = true → s.masked n = false → tget 0 t.bus.msixSent n = tget 0 s.bus.msixSent n + 1) ∧
         (s.canSend = false ∨ s.masked n = true → t.bus.pba.contains n = true) ∧
         OnlyIn [.bus, .clock, .hif] s t)))

/-- R7, R411, R412, R415, R419: each addressed status bit whose cause is gone is cleared, each whose cause is present stays, and
bits that are not addressed stay; the bit of a cause that is raised in the same cycle is set. A read in the log window returns
the word of the entry; one that meets an uncorrectable error finds the entry rewritten with CODE 0xFFFF and every other
byte 0, and logs it once only. -/
def Obligations.StatusClearsAndLogReads : Prop :=
  (∀ (p : Path) (b : Nat) (v : Word) (s : State), 1 ≤ b → b ≤ 0x16 → s.reaches p (GRD_FSTAT.at (b - 1)) = true →
     Gives (.faultStatusClear p b v 0) s (fun t =>
       (∀ k, k < 16 → bitAt (t.fstat b) k =
         (bitAt (s.fstat b) k && !(bitAt v.toNat k && !s.causeLive (b * 256 + k + 1)))) ∧
       (∀ c, c ≠ b → t.fstat c = s.fstat c) ∧ t.guard.live = s.guard.live ∧ OnlyIn [.regs, .guard, .log, .hif] s t) ∧
     ∀ raised, Gives (.faultStatusClear p b v raised) s (fun t =>
       ∀ k, k < 16 → bitAt raised k = true → isFault (b * 256 + k + 1) = true → bitAt (t.fstat b) k = true)) ∧
  (∀ (p : Path) (off : Nat) (s : State), off < 0x10000 → off % 4 = 0 → s.reaches p 0xD0000 = true →
     s.reaches p (0xD0000 + off) = true →
     Gives (.logWindowRead p off false) s (fun t =>
       t.busRead p = leAt (s.logAt (off / 32)).bytes (off % 32) 4 ∧ t.log = s.log ∧ OnlyIn [.bus] s t) ∧
     Gives (.logWindowRead p off true) s (fun t =>
       (s.logAt (off / 32) = .lost → t.log = s.log) ∧
       (s.logAt (off / 32) ≠ .lost → s.flag KPR_LOG_CTL 1 = false → s.pwr.keeperOn = true →
         (∀ q ∈ s.log.entries, q.2.code ≠ 0x1202) → off / 32 ≠ s.log.wr % 2048 →
         t.logAt (off / 32) = .lost ∧ (t.logAt s.log.wr).code = 0x1202) ∧
       OnlyIn [.bus, .log, .guard, .hif, .regs] s t))

/-- R138 to R140, Table 3.13: the first byte of a frame is its command. A WRITE frame is applied, word by word to consecutive
offsets, only when it is whole and its CRC matches; otherwise no word is written, the error is counted and HIF 0x0208 raised,
and LAST_CRC_ERR is set. A STATUS frame returns its byte. A READ frame returns STATUS and then a byte for each byte clocked:
words from consecutive offsets, and after a whole number of words their CRC-8. A byte that is no command is followed by
nothing. -/
def Obligations.ManagementPortFrames : Prop :=
  ∀ (s : State), s.pwr.keeperOn = true →
    (∀ frame, leAt frame 0 1 = 2 → spiFrameOk frame = false → Gives (.spiWrite frame) s (fun t =>
      t.bus.spiCrcErr = true ∧ OnlyIn [.bus, .regs, .guard, .log, .hif] s t ∧ bitAt (t.fstat 2) 7 = true ∧
      t.rd HIF_SPI_CRC_ERR_COUNT = bump32 (s.rd HIF_SPI_CRC_ERR_COUNT))) ∧
    (∀ (a2 a1 a0 : Byte) (ws : List Word), 1 ≤ ws.length → ws.length ≤ 64 →
      (let head : List Byte := 2 :: a2 :: a1 :: a0 :: ws.flatMap (fun v => leBytes 4 v.toNat)
       let first := 65536 * a2.toNat + 256 * a1.toNat + a0.toNat
       exec (.spiWrite (head ++ [BitVec.ofNat 8 (crc8 head)])) s = .next
         (ws.zipIdx.foldl (fun (u : State) x => u.writeWord .spi (first + 4 * x.2) x.1)
           { s with bus := { s.bus with spiOut := [], spiCrcErr := false } }).settle)) ∧
    (∀ frame, leAt frame 0 1 ≠ 2 → leAt frame 0 1 ≠ 3 → leAt frame 0 1 ≠ 5 →
      exec (.spiWrite frame) s = .next s.settle) ∧
    Gives .spiStatus s (fun t => t.bus.spiOut = [BitVec.ofNat 8 s.spiStatus] ∧ OnlyIn [.bus] s t) ∧
    (∀ address clocks, Gives (.spiRead address clocks) s (fun t =>
      t.bus.spiOut.length = clocks + 1 ∧ t.bus.spiOut.head? = some (BitVec.ofNat 8 s.spiStatus) ∧
      OnlyIn [.bus, .fresh] s t)) ∧
    (∀ address, Gives (.spiRead address 5) s (fun t =>
      (let word := leBytes 4 (s.readWord .spi address).2
       t.bus.spiOut.drop 1 = word ++ [BitVec.ofNat 8 (crc8 word)]))) ∧
    (∀ address k, k ≤ 64 → Gives (.spiRead address (4 * k + 1)) s (fun t =>
      ∀ body c, t.bus.spiOut.drop 1 = body ++ [c] → c = BitVec.ofNat 8 (crc8 body)))

/-! The tick. -/

/-- R15, R50, R63: a tick edge opens the next tick. Its number goes up by one, it begins in its admission window with no poll
made, the doorbell block is to be read again, no event is left due, and time stands at the first step at or after the ideal
instant. Where no edge can come (a stopped tick, a low-power mode, the boot stages) nothing changes. -/
def Obligations.TickEdgeOpensTick : Prop :=
  ∀ (errs : List Int) (s : State),
    (s.ticks = false → exec (.tickEdge errs) s = .next s.settle) ∧
    (s.ticks = true → Gives (.tickEdge errs) s (fun t =>
      t.tick.number = s.tick.number + 1 ∧ t.tick.window = .admission ∧ t.tick.pollsDone = 0 ∧ t.hif.dbRead = false ∧
      t.hif.started = true ∧ t.clock = (s.advanceTo s.tick.nextPs).clock ∧ t.tick.edgePs = t.clock.ps ∧ t.hif.evDue = []))

/-- R103, R109, R114, R115, R134, R144: the doorbell block is read once for an edge. A failed read is counted, raises HIF
0x0203 and fetches nothing; a read that is served gives every enabled ring its producer index, unless that index is out of
range, which raises HIF 0x0205 and leaves it. The ring that is due then supplies its next descriptor: one that arrives is
counted, passes the ring's consumer index and takes the next job number; a failed read leaves the consumer index, and the ring
waits for the next doorbell read. With no fetch under way nothing arrives. -/
def Obligations.RingReads : Prop :=
  (∀ (s : State) (served : Served (List Byte)), (s.canDma = false ∨ s.hif.dbRead = true) →
     exec (.doorbellRead served) s = .next s.settle) ∧
  (∀ s : State, s.canDma = true → s.hif.dbRead = false →
     Gives (.doorbellRead .failed) s (fun t =>
       t.hif.dbRead = true ∧ t.hif.fetching = false ∧ bitAt (t.fstat 2) 2 = true ∧ t.hif.sqs = s.hif.sqs ∧
       t.hif.cqs = s.hif.cqs ∧ t.rd HIF_DMA_ERR_COUNT = bump32 (s.rd HIF_DMA_ERR_COUNT) ∧
       OnlyIn [.regs, .hif, .guard, .log] s t) ∧
     (∀ (b : List Byte) (n : Nat), s.sqOn n = true →
       Gives (.doorbellRead (.ok b)) s (fun t =>
         t.hif.dbRead = true ∧ t.hif.fetching = true ∧ (t.sq n).ci = (s.sq n).ci ∧
         (if ringCount (leAt b (64 * n) 2) (s.sq n).ci ≤ s.sqSize n then (t.sq n).pi = leAt b (64 * n) 2
          else (t.sq n).pi = (s.sq n).pi ∧ bitAt (t.fstat 2) 4 = true) ∧
         OnlyIn [.regs, .bus, .hif, .chans, .mem, .bpm, .sch, .log, .guard] s t))) ∧
  (∀ (s : State) (arrivals : List (Served (List Byte))), (s.canDma = false ∨ s.hif.fetching = false) →
     exec (.descriptorFetch arrivals) s = .next s.settle) ∧
  (∀ (s : State) (n : Nat), s.canDma = true → s.hif.fetching = true → s.hif.polling = none → s.nextRing = some n →
     (∀ b, Gives (.descriptorFetch [.ok b]) s (fun t =>
       (t.sq n).ci = ((s.sq n).ci + 1) % 65536 ∧ t.hif.nextJob = s.hif.nextJob + 1 ∧
       t.cnt64 HIF_DESC_FETCH_COUNT = Machine.bump64 (s.cnt64 HIF_DESC_FETCH_COUNT) 1 ∧
       OnlyIn [.regs, .bus, .hif, .chans, .mem, .bpm, .sch, .log, .guard] s t)) ∧
     Gives (.descriptorFetch [.failed]) s (fun t =>
       (t.sq n).ci = (s.sq n).ci ∧ (t.sq n).failed = true ∧ t.hif.nextJob = s.hif.nextJob ∧ t.hif.jobs = s.hif.jobs ∧
       OnlyIn [.regs, .hif, .log, .guard] s t))

/-- R60, R61, R63, R70, R72, R99: a sub-tick poll in the work window, of which the tick still owes one, is made; it reads nothing
before the first edge after GO or while ring traffic has stopped; one that is not owed changes nothing. The admission decision
is made 100 microseconds after the edge and once; where admission does not run (in CONFIG, in SAFE, in a Class M restart, on
the way into a low-power mode) no job is admitted. -/
def Obligations.PollsAndAdmissionOnce : Prop :=
  (∀ (s : State) (db : Served (List Byte)) (arrivals : List (Served (List Byte))),
     ((s.tick.stopped = true ∨ s.tick.window ≠ .work ∨ s.tick.polls < s.tick.pollsDone + 1) →
       exec (.subTickPoll db arrivals) s = .next s.settle) ∧
     (s.tick.stopped = false → s.tick.window = .work → s.tick.pollsDone < s.tick.polls →
       Gives (.subTickPoll db arrivals) s (fun t => t.tick.pollsDone = s.tick.pollsDone + 1 ∧ t.tick.window = .work ∧
         t.tick.number = s.tick.number ∧ s.clock.ps ≤ t.clock.ps ∧
         ((s.canDma = false ∨ s.hif.started = false) → OnlyIn [.clock, .tick] s t)))) ∧
  (∀ s : State, s.tick.stopped = false →
     (s.tick.window ≠ .admission → exec .admissionDecision s = .next s.settle) ∧
     (s.tick.window = .admission → Gives .admissionDecision s (fun t =>
       t.tick.window = .decided ∧ t.tick.number = s.tick.number ∧ s.tick.edgePs + 100000000 ≤ t.clock.ps ∧
       (s.admits = false → OnlyIn [.clock, .tick, .bpm, .hif] s t ∧ t.hif.live = s.hif.live ∧
         t.hif.jobs.map (·.phase) = s.hif.jobs.map (·.phase)))))

/-- R443, R446, R490, R528: the settle flag confirms the point that was asked for, and the dividers of both core PLLs follow it;
a raise that is given up 1 ms after its ramp began leaves the point that is confirmed, and is counted; with no raise under
way neither does anything. -/
def Obligations.OperatingPointConfirms : Prop :=
  ∀ s : State,
    (s.pwr.settled = true → exec .settleFlag s = .next s.settle ∧ exec .settleAbandon s = .next s.settle) ∧
    (s.pwr.settled = false →
      Gives .settleFlag s (fun t =>
        t.pwr.op = s.pwr.target ∧ t.pwr.target = s.pwr.target ∧ t.pwr.settled = true ∧ t.pwr.coreMv = opMv s.pwr.target ∧
        (s.pwr.op ≠ s.pwr.target → t.rd PWR_OP_CHANGE_COUNT = bump32 (s.rd PWR_OP_CHANGE_COUNT)) ∧
        (∀ i x, i < 2 → s.clk.synths[i]? = some x → t.clk.synths[i]? = some { x with p := twoQ s.pwr.target }) ∧
        OnlyIn [.regs, .clk, .pwr] s t) ∧
      Gives .settleAbandon s (fun t =>
        t.pwr.op = s.pwr.op ∧ t.pwr.target = s.pwr.op ∧ t.pwr.settled = true ∧
        1000 * (s.pwr.rampNs + 1000000) ≤ t.clock.ps ∧
        t.rd PWR_SETTLE_ABANDON_COUNT = bump32 (s.rd PWR_SETTLE_ABANDON_COUNT) ∧ OnlyIn [.regs, .clock, .clk, .pwr] s t))

/-- R27, R58, R59, R62, R446: after the decision the work window opens 150 microseconds after the edge, late settling being
counted and raised as TCK 0x0302; the guard window stops every engine in ACTIVE and cuts what it worked on, and no window opens
twice. TICK_OUT goes low TICK_OUT_W microseconds after the edge, and nothing else changes. -/
def Obligations.TickWindowsOpenAndClose : Prop :=
  (∀ s : State, s.tick.stopped = false →
     (s.tick.window = .decided →
       Gives .workWindowStart s (fun t => t.tick.window = .work ∧ t.tick.number = s.tick.number ∧
         s.tick.edgePs + 150000000 ≤ t.clock.ps ∧
         (s.pwr.settled = true → (∀ n, (s.chan n).exporting = none) →
           OnlyIn [.engines, .clock, .tick, .hif, .displays, .fresh] s t) ∧
         (s.pwr.settled = false → t.rd PWR_SETTLE_LATE_COUNT = bump32 (s.rd PWR_SETTLE_LATE_COUNT) ∧
           bitAt (t.fstat 3) 1 = true)) ∧
       (s.pwr.settled = false → Gives .settleLate s (fun t => t.tick.window = .work ∧
         ((∀ n, (s.chan n).exporting = none) → t.pwr = s.pwr) ∧
         t.rd PWR_SETTLE_LATE_COUNT = bump32 (s.rd PWR_SETTLE_LATE_COUNT) ∧ bitAt (t.fstat 3) 1 = true))) ∧
     (s.tick.window ≠ .decided → exec .workWindowStart s = .next s.settle ∧ exec .settleLate s = .next s.settle) ∧
     (s.tick.window ≠ .guard → Gives .guardWindowStart s (fun t => t.tick.window = .guard ∧
       s.tick.edgePs + 1000 * guardAt s.tick.periodNs ≤ t.clock.ps ∧
       (s.isActive = true → (∀ e ∈ t.engines, e.job = none ∧ e.saved = []) ∧
         ∀ j ∈ t.hif.jobs, j.phase = .admitted → j.cut = true) ∧
       OnlyIn [.regs, .engines, .clock, .tick, .hif, .mem, .sch] s t)) ∧
     (s.tick.window = .guard → exec .guardWindowStart s = .next s.settle)) ∧
  (∀ s : State,
     (s.tick.out = false → exec .tickOutPulseEnd s = .next s.settle) ∧
     (s.tick.out = true → Gives .tickOutPulseEnd s (fun t =>
       t.tick.out = false ∧ t.pads.tickOut ≠ .high ∧
       s.tick.edgePs + 1000000 * atLeast1 (s.fld TCK_CTL 15 8) ≤ t.clock.ps ∧
       s.clock.ps ≤ t.clock.ps ∧ OnlyIn [.clock, .tick] s t)))

/-! The link. -/

/-- R91, R116, R117, R145, R560: a link that goes down in ACTIVE stops the rings, sets LINK_LOST, is counted and raises HIF
0x0201; bus mastering that ends in ACTIVE stops them with HIF 0x0209, and D3hot entered in ACTIVE stops them too; what waited
for ring room is then dropped, and its entry freed. In CONFIG none of the three does. PERST_N low takes the link down and
resets the endpoint. -/
def Obligations.LinkLossStopsRings : Prop :=
  ∀ s : State,
    (let stopped (t : State) : Prop := t.hif.linkStopped = true ∧ t.bus.linkLost = true ∧ t.hif.fetching = false ∧
       ∀ j ∈ t.hif.jobs, j.flow = none → ∀ c, j.phase ≠ .done c
     let parts : List Part := [.regs, .bus, .hif, .mem, .bpm, .log, .guard]
     (s.bus.linkGen = 0 → exec .pcieLinkDown s = .next s.settle) ∧
     (0 < s.bus.linkGen → Gives .pcieLinkDown s (fun t =>
       t.bus.linkGen = 0 ∧ t.bus.bme = false ∧ t.bus.msixTable = [] ∧ t.bus.pba = [] ∧
       (s.isActive = true → stopped t ∧ t.causeLive 0x0201 = true ∧
         bitAt (t.fstat 2) 0 = true ∧ t.rd HIF_LINK_DOWN_COUNT = bump32 (s.rd HIF_LINK_DOWN_COUNT)) ∧
       (s.isActive = false → OnlyIn [.bus] s t) ∧ OnlyIn parts s t)) ∧
     (s.bus.bme = false → exec .busMasterDisable s = .next s.settle) ∧
     (s.bus.bme = true → Gives .busMasterDisable s (fun t =>
       t.bus.bme = false ∧ t.bus.linkGen = s.bus.linkGen ∧
       (s.isActive = true → stopped t ∧ t.causeLive 0x0209 = true ∧ bitAt (t.fstat 2) 8 = true) ∧
       (s.isActive = false → OnlyIn [.bus] s t) ∧ OnlyIn parts s t)) ∧
     (0 < s.bus.linkGen → Gives (.deviceStateChange true) s (fun t =>
       t.bus.d3hot = true ∧ t.bus.pba = s.bus.pba ∧ t.bus.msixSent = s.bus.msixSent ∧
       (s.isActive = true → s.bus.d3hot = false → stopped t) ∧
       (s.isActive = false → OnlyIn [.bus] s t) ∧ OnlyIn parts s t)) ∧
     Gives .perstAssert s (fun t => t.bus.perst = true ∧ t.bus.linkGen = 0 ∧ t.bus.bme = false ∧ t.bus.msixTable = [] ∧
       t.bus.pba = [] ∧ OnlyIn parts s t))

/-- R90, R94, R97, R432, R560: the link returns with its generation and width, unless PERST_N is low or the endpoint is held;
bus mastering and the return to D0 let pending messages go out; PERST_N released wakes the module in DEEP STANDBY only. In
RETAIN a request over the link wakes the module and is held when its wake source is enabled; otherwise a memory request is
held alone and a configuration request is answered with Retry Status. -/
def Obligations.LinkReturnsAndWakes : Prop :=
  (∀ s : State,
     (∀ gen width, 1 ≤ gen → gen ≤ 3 → (width = 1 ∨ width = 2 ∨ width = 4) →
       ((s.bus.perst = true ∨ s.bus.endpointOff = true) → exec (.pcieLinkUp gen width) s = .next s.settle) ∧
       (s.bus.perst = false → s.bus.endpointOff = false → 0 < s.sys.bootStage → s.sys.resetLow = false →
         s.pwr.pwrGood = true → Gives (.pcieLinkUp gen width) s (fun t =>
           t.bus.linkGen = gen ∧ t.bus.linkWidth = width ∧ t.bus.bme = s.bus.bme ∧
           t.guard.live.contains (0x0201, 0xFF) = false ∧ OnlyIn [.bus, .guard] s t))) ∧
     (0 < s.bus.linkGen →
       Gives .busMasterEnable s (fun t => t.bus.bme = true ∧ t.guard.live.contains (0x0209, 0xFF) = false ∧
         (∀ k, t.canSend = true → t.masked k = false → t.bus.pba.contains k = false) ∧ OnlyIn [.bus, .guard] s t) ∧
       Gives (.deviceStateChange false) s (fun t => t.bus.d3hot = false ∧
         (∀ k, t.canSend = true → t.masked k = false → t.bus.pba.contains k = false) ∧ OnlyIn [.bus] s t)) ∧
     (s.bus.perst = false → exec .perstRelease s = .next s.settle) ∧
     (s.bus.perst = true → s.power.mode ≠ .deepStandby → Gives .perstRelease s (fun t =>
       t.bus.perst = false ∧ OnlyIn [.bus] s t)) ∧
     (s.bus.perst = true → s.power.mode = .deepStandby → s.power.trans = .none → s.power.armed = true →
       s.flag KPR_WAKE_EN 9 = true → s.power.latched.length < 16 → Gives .perstRelease s (fun t =>
         t.bus.perst = false ∧ t.power.trans = .exiting .deepStandby ∧ t.power.wakeOut = false ∧
         t.power.latched.any (fun w => w.source == 9) = true))) ∧
  (∀ (s : State) (cfg : Bool) (off : Nat) (v : Option Word),
     ((s.retaining = false ∨ s.bus.linkGen = 0) → exec (.pcieRequestInRetain cfg off v) s = .next s.settle) ∧
     (0 < s.bus.linkGen → s.power.mode = .retain → s.power.trans = .none →
       (s.flag KPR_WAKE_EN 9 = true → s.power.armed = true → s.power.latched = [] →
         Gives (.pcieRequestInRetain cfg off v) s (fun t =>
           t.bus.held = s.bus.held ++ [(cfg, off, v)] ∧ t.power.trans = .exiting .retain ∧ t.power.wakeOut = false ∧
           t.power.latched.map (·.source) = [9] ∧ OnlyIn [.bus, .power] s t)) ∧
       (s.flag KPR_WAKE_EN 9 = false → Gives (.pcieRequestInRetain cfg off v) s (fun t =>
         t.bus.held = (if cfg then s.bus.held else s.bus.held ++ [(cfg, off, v)]) ∧
         t.bus.crs = (if cfg then s.bus.crs + 1 else s.bus.crs) ∧ OnlyIn [.bus] s t))))

/-- R131: a write to host memory that fails is counted and raises HIF 0x0204. The slot of a lost completion or event is used
again and its loss counted, whichever entry of the ring it was; where the newest event was lost, the next one says so. (A copy
that a waiting STATS_READ or LOG_READ makes is of that job's own: HostJobsComplete.) Where no write can go out, none fails. -/
def Obligations.DmaWriteFailure : Prop :=
  (∀ (s : State) target, s.canDma = false → exec (.dmaWriteFailure target) s = .next s.settle) ∧
  ∀ (s : State), s.canDma = true →
    Gives (.dmaWriteFailure .statusBlock) s (fun t =>
      t.rd HIF_DMA_ERR_COUNT = bump32 (s.rd HIF_DMA_ERR_COUNT) ∧ bitAt (t.fstat 2) 3 = true ∧
      OnlyIn [.regs, .hif, .log, .guard] s t) ∧
    (∀ id, (∀ j, s.job? id = some j → j.phase ≠ .waiting ∨ (j.desc.opcode ≠ 0x40 ∧ j.desc.opcode ≠ 0x41)) →
      Gives (.dmaWriteFailure (.copy id)) s (fun t =>
      t.rd HIF_DMA_ERR_COUNT = bump32 (s.rd HIF_DMA_ERR_COUNT) ∧ bitAt (t.fstat 2) 3 = true ∧
      OnlyIn [.regs, .hif, .log, .guard] s t)) ∧
    (∀ n back, back < (s.cq n).recent.length → Gives (.dmaWriteFailure (.completion n back)) s (fun t =>
      t.rd HIF_DMA_ERR_COUNT = bump32 (s.rd HIF_DMA_ERR_COUNT) ∧ bitAt (t.fstat 2) 3 = true ∧
      (t.cq n).pi = ((s.cq n).pi + 65535) % 65536 ∧ (t.cq n).recent.length + 1 = (s.cq n).recent.length ∧
      (∀ k, k ≠ n → t.cq k = s.cq k) ∧ t.rd HIF_CPL_LOST_COUNT = bump32 (s.rd HIF_CPL_LOST_COUNT) ∧
      OnlyIn [.regs, .hif, .chans, .mem, .log, .guard] s t)) ∧
    (∀ back, back < s.hif.evRecent.length → Gives (.dmaWriteFailure (.event back)) s (fun t =>
      t.rd HIF_DMA_ERR_COUNT = bump32 (s.rd HIF_DMA_ERR_COUNT) ∧ bitAt (t.fstat 2) 3 = true ∧
      t.hif.evPi = (s.hif.evPi + 65535) % 65536 ∧ t.hif.evRecent.length + 1 = s.hif.evRecent.length ∧
      (back = 0 → t.hif.lostBefore = true) ∧ t.rd HIF_EVQ_LOST_COUNT = bump32 (s.rd HIF_EVQ_LOST_COUNT) ∧
      OnlyIn [.regs, .hif, .mem, .log, .guard] s t))

/-! The tick source and the Ethernet side. -/

/-- R51, R52, R54: an edge of the source in force steers a locked timer, when its error lies within the tolerance, by an eighth
of the error, at most 0.1 % of the period in a tick, and sets TCK_PHASE_ERR; one outside it is counted and has no other
effect; an edge of a source that is not in force changes nothing. The first predicted edge that passes is remembered; the
second puts a locked or acquiring timer into holdover, which is counted and raises TCK 0x0303. Without a source, or without
ticks, no predicted edge passes. -/
def Obligations.SourceEdgesSteerTimer : Prop :=
  (∀ (s : State) (instant : Nat),
     (s.edgeAt instant = false → exec (.tickSourceEdge instant) s = .next s.settle) ∧
     (s.edgeAt instant = true → s.tick.srcState = 1 →
       (let u := s.advanceTo (1000 * instant)
        let e := u.timerErr instant
        let lim : Int := s.tick.periodNs
        (1000 * s.tolNs < e.natAbs → exec (.tickSourceEdge instant) s = .next (u.bump TCK_EDGE_REJECT_COUNT).settle) ∧
        (e.natAbs ≤ 1000 * s.tolNs → Gives (.tickSourceEdge instant) s (fun t =>
          t.tick.srcState = 1 ∧ t.tick.missed = 0 ∧ t.rd TCK_PHASE_ERR = twos 32 (Int.tdiv e 1000) ∧
          t.tick.correction = max (-lim) (min lim (s.tick.correction + Int.tdiv e 8)) ∧
          t.tick.nextPs = ((s.tick.nextPs : Int) + (t.tick.correction - s.tick.correction)).toNat ∧
          OnlyIn [.regs, .clock, .tick] s t))))) ∧
  (∀ s : State,
     ((s.tick.src = 0 ∨ s.ticks = false) → exec .predictedEdgeMissed s = .next s.settle) ∧
     (s.tick.src ≠ 0 → s.ticks = true → s.tick.missed = 0 → Gives .predictedEdgeMissed s (fun t =>
       t.tick.missed = 1 ∧ t.tick.srcState = s.tick.srcState ∧ t.tick.nextPs = s.tick.nextPs ∧
       OnlyIn [.clock, .tick] s t)) ∧
     (s.tick.src ≠ 0 → s.ticks = true → 1 ≤ s.tick.missed → (s.tick.srcState = 1 ∨ s.tick.srcState = 2) →
       Gives .predictedEdgeMissed s (fun t =>
         t.tick.srcState = 3 ∧ t.tick.heldNs = (if s.tick.intervals.length < 16 then s.tick.periodNs else s.measNs) ∧
         t.rd TCK_HOLDOVER_COUNT = bump32 (s.rd TCK_HOLDOVER_COUNT) ∧ bitAt (t.fstat 3) 2 = true ∧
         t.causeLive 0x0303 = true ∧ OnlyIn [.regs, .clock, .tick, .hif, .log, .guard] s t)))

/-- R212, R563: a one-step Sync message of the selected master gives the offset, receive stamp less send time less mean path
delay. The eighth consecutive offset within the threshold synchronises the port, the fourth beyond it and a time-out end
that, with holdover at once where the port is the tick source. A message for no clock changes nothing, and a two-step Sync
only the clock. PPS pulses start at a whole second of the port's time, on a synchronised port, and end. (The layout of the
messages is that of IEEE 1588, notes/assumptions/148.md.) -/
def Obligations.PtpPortSyncAndLoss : Prop :=
  ∀ (s : State) (m : Nat) (x : EthPort), m < 2 → s.eth[m]? = some x →
    (∀ (b : List Byte) (sfd : Nat),
      ((s.ptpOn m = false ∨ s.ptpHeaderOk m b = false) → exec (.ptpSyncMessage m ⟨b, sfd⟩) s = .next s.settle) ∧
      (s.ptpOn m = true → s.ptpHeaderOk m b = true → ptpType b = 0 → s.fromMaster m b = true →
        (ptpTwoStep b = true → Gives (.ptpSyncMessage m ⟨b, sfd⟩) s (fun t =>
          (t.ethPort m).ptpState = x.ptpState ∧ (t.ethPort m).offset = x.offset ∧ OnlyIn [.eth] s t)) ∧
        (ptpTwoStep b = false →
          (let offset : Int := (s.stamp m (1000 * sfd) : Int) - (ptpStamp b + ptpCorrection b) - x.ptp.delay
           let near : Bool := decide (offset.natAbs ≤ s.fld TRF_PTP_CTL 31 16 m)
           (near = true → 7 ≤ x.good → x.ptpState ≠ 3 → Gives (.ptpSyncMessage m ⟨b, sfd⟩) s (fun t =>
             (t.ethPort m).ptpState = 3 ∧ (t.ethPort m).offset = offset ∧
             t.guard.live.contains (0x0704, m) = false ∧ OnlyIn [.eth, .guard, .fresh] s t)) ∧
           ((near = false ∨ x.good < 7) → x.ptpState ≠ 3 → Gives (.ptpSyncMessage m ⟨b, sfd⟩) s (fun t =>
             (t.ethPort m).ptpState = 2 ∧ (t.ethPort m).offset = offset ∧ OnlyIn [.eth, .fresh] s t)) ∧
           ((near = true ∨ x.bad < 3) → x.ptpState = 3 → Gives (.ptpSyncMessage m ⟨b, sfd⟩) s (fun t =>
             (t.ethPort m).ptpState = 3 ∧ (t.ethPort m).offset = offset ∧ OnlyIn [.eth, .fresh] s t)) ∧
           (near = false → 3 ≤ x.bad → x.ptpState = 3 → Gives (.ptpSyncMessage m ⟨b, sfd⟩) s (fun t =>
             (t.ethPort m).ptpState = 2 ∧ (t.ethPort m).pps = false ∧ bitAt (t.fstat 7) 3 = true ∧
             (s.tick.src = 3 → s.tick.ptpPort = m → (s.tick.srcState = 1 ∨ s.tick.srcState = 2) → t.tick.srcState = 3) ∧
             OnlyIn [.regs, .tick, .hif, .eth, .log, .guard, .fresh] s t)))))) ∧
    (x.ptpState = 3 → Gives (.ptpSyncTimeout m) s (fun t =>
      (t.ethPort m).ptpState = 1 ∧ (t.ethPort m).good = 0 ∧ bitAt (t.fstat 7) 3 = true ∧
      x.ptp.syncPs + 4 * x.ptp.intervalPs ≤ t.clock.ps ∧
      (s.tick.src = 3 → s.tick.ptpPort = m → (s.tick.srcState = 1 ∨ s.tick.srcState = 2) → t.tick.srcState = 3) ∧
      OnlyIn [.regs, .clock, .tick, .hif, .eth, .log, .guard] s t)) ∧
    (x.ptpState = 2 → Gives (.ptpSyncTimeout m) s (fun t =>
      (t.ethPort m).ptpState = 1 ∧ (t.ethPort m).good = 0 ∧ OnlyIn [.eth] s t)) ∧
    ((x.ptpState ≠ 2 ∧ x.ptpState ≠ 3) → exec (.ptpSyncTimeout m) s = .next s.settle) ∧
    (x.ptpState = 3 → Gives (.ppsPulseStart m) s (fun t =>
      (t.ethPort m).pps = true ∧ (t.ethPort m).ptp = x.ptp ∧
      ceilDiv (s.ptpTime m s.clock.ps) (10 ^ 9) * 10 ^ 9 ≤ t.ptpTime m t.clock.ps ∧ OnlyIn [.clock, .eth] s t)) ∧
    (x.ptpState ≠ 3 → exec (.ppsPulseStart m) s = .next s.settle) ∧
    (Gives (.ppsPulseEnd m) s (fun t => (t.ethPort m).pps = false ∧ (t.ethPort m).ptpState = x.ptpState ∧ OnlyIn [.eth] s t))

/-- R187 to R191, R210: a received frame is stamped and then disposed of in order: overrun, FCS and length, the destination
address, other than IPv4 to the host ring, the header checksum, fragments; a matched packet that the bucket cannot pay for is
counted and takes no tokens, one that it can pay for takes its IPv4 length, and one that is no RTP packet is then counted.
Nothing is received where the MAC does not work or its link is down. A flow that has been silent for its limit loses its open
unit and starts afresh; before that limit nothing happens. -/
def Obligations.ReceivedFramesAreJudged : Prop :=
  (∀ (s : State) (m : Nat) (x : EthFrame), m < 2 → (s.macOn m = false ∨ (s.ethPort m).link = false) →
    exec (.ethFrameReceive m x) s = .next s.settle) ∧
  (∀ (s : State) (m : Nat) (x : EthFrame), m < 2 → s.macOn m = true → (s.ethPort m).link = true →
    (let stamp := s.stamp m (1000 * x.sfd)
     let u := s.modEth m (fun e => { e with rxStamp := stamp })
     (x.overrun = true → Gives (.ethFrameReceive m x) s (fun t =>
       t.rd ETH_RX_OVERRUN_COUNT m = bump32 (s.rd ETH_RX_OVERRUN_COUNT m) ∧ bitAt (t.fstat 6) 1 = true ∧ t.eth = u.eth ∧
       OnlyIn [.regs, .hif, .eth, .log, .guard] s t)) ∧
     (x.overrun = false → (x.fcsError = true ∨ 1518 < x.bytes.length) →
       exec (.ethFrameReceive m x) s = .next (u.bump ETH_RX_FCS_ERR_COUNT m).settle) ∧
     (x.overrun = false → x.fcsError = false → x.bytes.length ≤ 1518 →
       (let r := u.bump64 ETH_RX_FRAME_COUNT m
        let p := packetOf x.bytes
        (s.macTakes m (beAt x.bytes 0 6) = false →
          exec (.ethFrameReceive m x) s = .next (r.bump TRF_MAC_DROP_COUNT).settle) ∧
        (s.macTakes m (beAt x.bytes 0 6) = true → p.ethertype ≠ 0x0800 →
          exec (.ethFrameReceive m x) s = .next (r.toHost m x).settle) ∧
        (s.macTakes m (beAt x.bytes 0 6) = true → p.ethertype = 0x0800 →
          (p.headerOk = false → exec (.ethFrameReceive m x) s = .next (r.bump TRF_IP_ERR_COUNT).settle) ∧
          (p.headerOk = true → p.fragment = true →
            exec (.ethFrameReceive m x) s = .next (r.bump TRF_FRAG_DROP_COUNT).settle) ∧
          (p.headerOk = true → p.fragment = false → p.isUdp = false →
            exec (.ethFrameReceive m x) s = .next (r.toHost m x).settle) ∧
          (∀ f, p.headerOk = true → p.fragment = false → p.isUdp = true → p.udpOk = true →
            (s.flag TRF_PTP_CTL 0 m = false ∨ (p.dstPort ≠ 319 ∧ p.dstPort ≠ 320)) →
            (List.range 32).find? (s.flowMatches m p) = some f → s.fld TRF_FLOW_RATE 21 0 f ≠ 0 →
            (s.tokensNow f < p.totalLen * 10 ^ 9 → Gives (.ethFrameReceive m x) s (fun t =>
              (t.flow f).tokens = s.tokensNow f ∧ (t.flow f).tokenNs = s.ktime ∧ (t.flow f).expected = (s.flow f).expected ∧
              t.rd TRF_POL_DROP_COUNT f = bump32 (s.rd TRF_POL_DROP_COUNT f) ∧
              t.rd TRF_RX_PKT_COUNT f = bump32 (s.rd TRF_RX_PKT_COUNT f) ∧ t.eth = u.eth ∧
              OnlyIn [.regs, .flows, .eth] s t)) ∧
            (p.totalLen * 10 ^ 9 ≤ s.tokensNow f →
              s.rtpOk f (rtpOf (p.udp.drop 8)) (p.udp.drop 8).length x.donl = false →
              Gives (.ethFrameReceive m x) s (fun t =>
                (t.flow f).tokens + p.totalLen * 10 ^ 9 = s.tokensNow f ∧ (t.flow f).tokenNs = s.ktime ∧
                t.rd TRF_RTP_ERR_COUNT = bump32 (s.rd TRF_RTP_ERR_COUNT) ∧
                t.rd TRF_RX_PKT_COUNT f = bump32 (s.rd TRF_RX_PKT_COUNT f) ∧ t.eth = u.eth ∧
                OnlyIn [.regs, .flows, .eth] s t)))))))) ∧
  (∀ (s : State) (f : Nat), f < 32 →
    (let due := s.ticks = true ∧ s.tick.number.toNat ≥ (s.flow f).lastTick + atLeast1 (s.fld ETH_SILENCE 15 0 f)
     ((s.flow f).expected.isSome = true → due → Gives (.flowSilenceTimeout f) s (fun t =>
        (t.flow f).expected = none ∧ (t.flow f).unit = none ∧ (t.flow f).tokens = (s.flow f).tokens ∧
        (∀ k, k ≠ f → t.flow k = s.flow k) ∧ OnlyIn [.regs, .hif, .chans, .partners, .flows, .mem, .bpm, .log] s t)) ∧
     (((s.flow f).expected = none ∨ ¬ due) → exec (.flowSilenceTimeout f) s = .next s.settle)))

/-- R202, R203, R207, R209: a queue whose credit regains 0 starts its head frame when no queue of its port comes before it; an
empty queue starts nothing. A frame that has left is counted, and a port that sends none has none to end. A link that goes down
raises ETH 0x0601 and flushes every queue of its port, whose credit returns to 0; a link that comes up ends the cause, where
the MAC works. -/
def Obligations.EgressQueuesSendByCredit : Prop :=
  ∀ (s : State) (m : Nat) (x : EthPort), m < 2 → s.eth[m]? = some x →
    (∀ q, q < 16 → (s.queue q).frames = [] → exec (.queueCreditAvailable q) s = .next s.settle) ∧
    (∀ q f rest, q < 16 → s.qPort q = m → s.qOn q = true → (s.queue q).frames = f :: rest →
      (∀ r, r < q → s.qPort r = m → (s.queue r).frames = []) → x.link = true → x.sending = none → x.ptpQueue = [] →
      s.guard.safe = false → (s.queue q).creditNs ≤ s.ktime → -(10 : Int) ^ 15 ≤ (s.queue q).credit → s.clock.ps < 2 ^ 73 →
      Gives (.queueCreditAvailable q) s (fun t =>
        (t.ethPort m).sending = some (q, f) ∧ (t.queue q).frames = rest ∧ s.clock.ps ≤ t.clock.ps ∧
        (t.ethPort m).sendEnd = t.clock.ps + f.charge * s.bytePs m ∧ OnlyIn [.regs, .clock, .queues, .eth] s t)) ∧
    (x.sending = none → exec (.frameTransmitEnd m) s = .next s.settle) ∧
    (∀ q f, x.sending = some (q, f) → q < 16 → (∀ r, r < 16 → (s.queue r).frames = []) → x.ptpQueue = [] →
      Gives (.frameTransmitEnd m) s (fun t =>
        t.ethPort m = { x with sending := none } ∧ x.sendEnd ≤ t.clock.ps ∧
        t.rd TRF_Q_TX_COUNT q = bump32 (s.rd TRF_Q_TX_COUNT q) ∧
        OnlyIn [.regs, .bus, .engines, .clock, .hif, .chans, .queues, .eth, .mem, .bpm, .sch, .log, .guard] s t)) ∧
    (x.link = false → exec (.ethLinkDown m) s = .next s.settle) ∧
    (x.link = true → Gives (.ethLinkDown m) s (fun t =>
      t.ethPort m = { x with link := false, sending := none, ptpQueue := [] } ∧ t.causeLive 0x0601 = true ∧
      bitAt (t.fstat 6) 0 = true ∧ (∀ q, q < 16 → s.qPort q = m → (t.queue q).frames = [] ∧ (t.queue q).credit = 0) ∧
      OnlyIn [.regs, .bus, .engines, .hif, .chans, .queues, .eth, .mem, .bpm, .sch, .log, .guard] s t)) ∧
    (s.macOn m = false → exec (.ethLinkUp m) s = .next s.settle) ∧
    (s.macOn m = true → Gives (.ethLinkUp m) s (fun t =>
      (t.ethPort m).link = true ∧ t.guard.live.contains (0x0601, m) = false ∧
      (x.sending.isSome = true → t.ethPort m = { x with link := true } ∧ OnlyIn [.eth, .guard] s t) ∧
      OnlyIn [.regs, .queues, .eth, .guard] s t))

/-! Cameras and USB. -/

/-- R177, R562: how the arrival of a camera goes on: power and reset first, then its identity list, entry by entry, with two more
attempts for a read that fails, each 10 ms later, and then the init list; a probe that fails is counted and raises CSI 0x0402,
and the init list follows. What does not fit the stage of the arrival changes nothing. -/
def Obligations.CameraProbeIdentifies : Prop :=
  ∀ (s : State) (p : Nat) (c : CsiPort), p < 4 → s.csi[p]? = some c →
    (let initStarts (t : State) : Prop :=
       if s.rd CSI_INIT p 0 = 0 then (t.csiPort p).stage = .present
       else (t.csiPort p).stage = (if s.flag CSI_INIT 7 p 0 then .initWait 0 else .init 0)
     ((s.csiOn p = false ∨ c.det = true) → Gives (.camDetectAssert p) s (fun t =>
       t.csiPort p = { c with rawDet := true } ∧ OnlyIn [.csi] s t)) ∧
     (s.csiOn p = true → c.det = false → Gives (.camDetectAssert p) s (fun t =>
       (t.csiPort p).det = true ∧ (t.csiPort p).camEn = true ∧ (t.csiPort p).stage = .delay ∧
       (t.csiPort p).since = s.clock.ps ∧
       (t.csiPort p).rstPs = s.clock.ps + s.fld CSI_DET_CFG 15 8 p / 2 * 10 ^ 9 ∧ OnlyIn [.csi] s t)) ∧
     (c.stage ≠ .delay → exec (.probeDelayExpiry p) s = .next s.settle) ∧
     (c.stage = .delay → Gives (.probeDelayExpiry p) s (fun t =>
       c.since + s.fld CSI_DET_CFG 15 8 p * 10 ^ 9 ≤ t.clock.ps ∧
       (∀ i, (s.idEntries p).head? = some i → (t.csiPort p).stage = .identity i 0 ∧ OnlyIn [.clock, .csi] s t) ∧
       (s.idEntries p = [] → (t.csiPort p).identValid = false ∧ initStarts t))) ∧
     ((∀ k n, c.stage ≠ .identity k n) → ∀ r, exec (.identityReadDone p r) s = .next s.settle) ∧
     (∀ k n, c.stage = .identity k n →
       (∀ b, Gives (.identityReadDone p (some b)) s (fun t =>
         (t.csiPort p).probe = c.probe ++ padTo (if s.flag CSI_ID 16 p k then 2 else 1) b ∧
         (∀ i, (s.idEntries p).find? (fun j => decide (k < j)) = some i →
           (t.csiPort p).stage = .identity i 0 ∧ OnlyIn [.csi] s t) ∧
         ((s.idEntries p).find? (fun j => decide (k < j)) = none → initStarts t))) ∧
       (n < 2 → Gives (.identityReadDone p none) s (fun t =>
         (t.csiPort p).stage = .retryWait k (n + 1) ∧ (t.csiPort p).since = s.clock.ps ∧ OnlyIn [.csi] s t)) ∧
       (2 ≤ n → Gives (.identityReadDone p none) s (fun t =>
         (t.csiPort p).identValid = false ∧ t.rd CSI_PROBE_FAIL_COUNT p = bump32 (s.rd CSI_PROBE_FAIL_COUNT p) ∧
         bitAt (t.fstat 4) 1 = true ∧ initStarts t))) ∧
     ((∀ k n, c.stage ≠ .retryWait k n) → exec (.identityRetryTimer p) s = .next s.settle) ∧
     (∀ k n, c.stage = .retryWait k n → Gives (.identityRetryTimer p) s (fun t =>
       (t.csiPort p).stage = .identity k n ∧ c.since + 10 ^ 10 ≤ t.clock.ps ∧ OnlyIn [.clock, .csi] s t)))

/-- R172, R173, R178, R179, R181: an init list goes on entry by entry, a delay entry taking its time; at its end the partner
of virtual channel 0 arrives with the lowest free ID and the identity that the probe gave. A detect that goes away during
the arrival is only counted; after it, the partner of virtual channel 0 leaves. A camera bus held low ends a probe without
an identity, until it is released. What does not fit the stage of the arrival, or the port's own state, changes no more than
the level of the pad. -/
def Obligations.CameraArrivesAndDeparts : Prop :=
  ∀ (s : State) (p : Nat) (c : CsiPort), p < 4 → s.csi[p]? = some c →
    (let next (k : Nat) (t : State) : Prop :=
       (k < 31 → s.rd CSI_INIT p (k + 1) ≠ 0 →
         (t.csiPort p).stage = (if s.flag CSI_INIT 7 p (k + 1) then .initWait (k + 1) else .init (k + 1)) ∧
         OnlyIn [.clock, .csi] s t) ∧
       ((31 ≤ k ∨ s.rd CSI_INIT p (k + 1) = 0) → (t.csiPort p).stage = .present ∧
         ∀ id, s.atPort (4 * p) = none → (List.range 24).find? (fun q => (s.partner q).type == 0) = some id →
           (t.partner id).type = 1 ∧ (t.partner id).port = 4 * p ∧ (t.partner id).flags = b2n c.identValid ∧
           (t.partner id).ident = if c.identValid then crc32 (c.probe ++ [0]) else 0)
     (∀ k, c.stage = .init k → Gives (.initWriteDone p) s (fun t => next k t ∧ t.clock = s.clock)) ∧
     ((∀ k, c.stage ≠ .init k) → exec (.initWriteDone p) s = .next s.settle) ∧
     (∀ k, c.stage = .initWait k → Gives (.initDelayExpiry p) s (fun t => next k t ∧
       c.since + s.fld CSI_INIT 23 8 p k * 10 ^ 9 ≤ t.clock.ps)) ∧
     ((∀ k, c.stage ≠ .initWait k) → exec (.initDelayExpiry p) s = .next s.settle)) ∧
    ((s.portsOn = false ∨ c.det = false) → Gives (.camDetectDeassert p) s (fun t =>
      t.csiPort p = { c with rawDet := false } ∧ OnlyIn [.csi] s t)) ∧
    (s.portsOn = true → c.det = true →
      (c.stage.busy = true → Gives (.camDetectDeassert p) s (fun t =>
        t.csiPort p = { CsiPort.reset with i2cLow := c.i2cLow, lastDt := c.lastDt } ∧
        t.rd CSI_DET_GLITCH_COUNT p = bump32 (s.rd CSI_DET_GLITCH_COUNT p) ∧ OnlyIn [.regs, .csi] s t)) ∧
      (c.stage.busy = false → Gives (.camDetectDeassert p) s (fun t =>
        t.csiPort p = { CsiPort.reset with i2cLow := c.i2cLow, lastDt := c.lastDt } ∧
        (∀ id, s.atPort (4 * p) = some id → s.isPresent id = true → (t.partner id).leaving = true) ∧
        OnlyIn [.regs, .hif, .chans, .partners, .csi, .log] s t))) ∧
    ((s.csiOn p = false ∨ c.i2cLow = true) → exec (.i2cBusHeldLow p) s = .next s.settle) ∧
    (s.csiOn p = true → c.i2cLow = false → Gives (.i2cBusHeldLow p) s (fun t =>
      (t.csiPort p).i2cLow = true ∧ t.causeLive 0x0405 = true ∧ bitAt (t.fstat 4) 4 = true ∧
      (c.stage.busy = true → (t.csiPort p).stage = .present ∧ (t.csiPort p).identValid = false) ∧
      (c.stage.busy = false → (t.csiPort p).stage = c.stage ∧ OnlyIn [.regs, .hif, .csi, .log, .guard] s t))) ∧
    Gives (.i2cBusReleased p) s (fun t => (t.csiPort p).i2cLow = false ∧ (t.csiPort p).stage = c.stage ∧
      t.guard.live.contains (0x0405, p) = false ∧ OnlyIn [.csi, .guard] s t)

/-- R179, R183, R184: a frame start opens a frame, whose lines follow; a packet of a type that the module does not take, or of a
virtual channel that is not enabled, is counted and changes no frame. A whole frame is counted; a damaged one, and an end
without a start, is dropped whole and each kind of damage counted. On a port or a virtual channel that takes no packets a
frame's start and end change nothing. -/
def Obligations.CameraFramesAreTaken : Prop :=
  ∀ (s : State) (p vc : Nat) (c : CsiPort), p < 4 → vc < 4 → s.csi[p]? = some c →
    (s.vcOn p vc = true →
      (let opened (t : State) : Prop :=
         (t.csiPort p).hsActive = true ∧ (t.csiPort p).frames = tset c.frames vc
           { started := s.tick.number.toNat, dataType := 0, width := 0, lines := 0, height := 0, data := [],
             broken := false, noCell := false } ∧
         (thas c.frames vc = true → t.rd CSI_FRAME_ERR_COUNT p = bump32 (s.rd CSI_FRAME_ERR_COUNT p)) ∧
         OnlyIn [.regs, .hif, .chans, .partners, .gens, .csi, .log] s t
       (1 ≤ vc → Gives (.vcFrameStart p vc) s opened) ∧ Gives (.csiPacketReceive p vc .frameStart) s opened)) ∧
    (s.vcOn p vc = false → exec (.vcFrameStart p vc) s = .next s.settle ∧
      exec (.csiPacketReceive p vc .frameStart) s = .next s.settle ∧
      ∀ how, exec (.csiFrameComplete p vc how) s = .next s.settle) ∧
    exec (.csiPacketReceive p vc .shortOther) s = .next s.settle ∧
    (∀ dt pixels lines data,
      (s.csiOn p = false → exec (.csiPacketReceive p vc (.long dt pixels lines data)) s = .next s.settle) ∧
      (s.csiOn p = true → Gives (.csiPacketReceive p vc (.long dt pixels lines data)) s (fun t =>
        (t.csiPort p).lastDt = dt % 256 ∧ (t.csiPort p).hsActive = true ∧
        (s.vcOn p vc = true → (dt = 0x1E ∨ dt = 0x24) → (t.csiPort p).frames =
          c.frames.map (fun x => if x.1 = vc then (x.1, x.2.line dt pixels lines data) else x) ∧ OnlyIn [.csi] s t) ∧
        ((s.vcOn p vc = false ∨ (dt ≠ 0x1E ∧ dt ≠ 0x24)) → (t.csiPort p).frames = c.frames ∧
          t.rd CSI_DT_REJECT_COUNT p = bump32 (s.rd CSI_DT_REJECT_COUNT p) ∧ OnlyIn [.regs, .csi] s t)))) ∧
    (∀ how : CsiEnd, s.vcOn p vc = true →
      (let f := (c.frames.find? (fun x => x.1 == vc)).map (·.2)
       let broken : Bool := match f with
         | none => true
         | some f => f.broken || !how.paired || f.lines == 0 || f.lines != f.height
       let damaged : Bool := broken || how.headerError || how.crcError || how.overflow
       (damaged = false → (f.map (·.noCell)).getD false = false → Gives (.csiFrameComplete p vc how) s (fun t =>
         t.rd CSI_FRAME_COUNT p = bump32 (s.rd CSI_FRAME_COUNT p) ∧ t.rd CSI_CRC_ERR_COUNT p = s.rd CSI_CRC_ERR_COUNT p ∧
         t.rd CSI_FRAME_ERR_COUNT p = s.rd CSI_FRAME_ERR_COUNT p ∧
         (t.guard.safe = false → (t.csiPort p).frames = tdel c.frames vc))) ∧
       (damaged = true → Gives (.csiFrameComplete p vc how) s (fun t =>
         t.rd CSI_FRAME_COUNT p = s.rd CSI_FRAME_COUNT p ∧ (t.csiPort p).frames = tdel c.frames vc ∧
         t.rd CSI_FRAME_ERR_COUNT p = (if broken then bump32 (s.rd CSI_FRAME_ERR_COUNT p) else s.rd CSI_FRAME_ERR_COUNT p) ∧
         t.rd CSI_ECC_ERR_COUNT p =
           (if how.headerError then bump32 (s.rd CSI_ECC_ERR_COUNT p) else s.rd CSI_ECC_ERR_COUNT p) ∧
         t.rd CSI_CRC_ERR_COUNT p = (if how.crcError then bump32 (s.rd CSI_CRC_ERR_COUNT p) else s.rd CSI_CRC_ERR_COUNT p) ∧
         (how.overflow = true → bitAt (t.fstat 4) 2 = true) ∧ OnlyIn [.regs, .hif, .csi, .log, .guard] s t))))

/-- R173, R180, R182, R185, R186, R564: a USB device attaches and enumerates; one that enumerates is counted and arrives with
the identity of its descriptor. A device that leaves takes its partner along. An overcurrent, or VBUS below its threshold,
switches VBUS off, is counted and raises USB 0x0501, and VBUS returns OC_RETRY_S seconds later. A frame of a camera that
streams in the mode picked is taken, or counted and dropped with its error bit; one in another mode is no frame. Where VBUS is
off, or the port's state does not fit, nothing changes. -/
def Obligations.UsbDevicesComeAndGo : Prop :=
  ∀ (s : State) (n : Nat) (u : UsbPort), n < 3 → s.usb[n]? = some u →
    ((s.vbusOn n = false ∨ u.conn = true) → exec (.usbConnect n) s = .next s.settle) ∧
    (s.vbusOn n = true → u.conn = false → Gives (.usbConnect n) s (fun t =>
      (t.usbPort n).conn = true ∧ (t.usbPort n).enumerating = true ∧ OnlyIn [.regs, .usb, .mem, .sch] s t)) ∧
    (∀ d : UsbDevice,
      ((s.vbusOn n = false ∨ u.enumerating = false) → exec (.usbEnumerationEnd n d) s = .next s.settle) ∧
      (s.vbusOn n = true → u.enumerating = true →
        (d.ok = true → Gives (.usbEnumerationEnd n d) s (fun t =>
          (t.usbPort n).enumerating = false ∧ (t.usbPort n).superSpeed = d.superSpeed ∧
          t.rd USB_ENUM_COUNT = bump32 (s.rd USB_ENUM_COUNT) ∧
          (∀ id, s.atPort (0x20 + n) = none → (List.range 24).find? (fun q => (s.partner q).type == 0) = some id →
            (t.partner id).type = (if d.uvc then 2 else 3) ∧ (t.partner id).port = 0x20 + n ∧
            (t.partner id).flags = 1 ∧ (t.partner id).ident = usbIdent d))) ∧
        (d.ok = false → Gives (.usbEnumerationEnd n d) s (fun t =>
          (t.usbPort n).enumerating = false ∧ t.rd USB_ENUM_FAIL_COUNT = bump32 (s.rd USB_ENUM_FAIL_COUNT) ∧
          bitAt (t.fstat 5) 1 = true ∧ t.partners = s.partners ∧
          OnlyIn [.regs, .hif, .usb, .mem, .sch, .log, .guard] s t)))) ∧
    ((s.portsOn = false ∨ u.conn = false) → exec (.usbDisconnect n) s = .next s.settle) ∧
    (s.portsOn = true → u.conn = true → Gives (.usbDisconnect n) s (fun t =>
      (t.usbPort n).conn = false ∧ (t.usbPort n).oc = u.oc ∧
      (∀ id, s.atPort (0x20 + n) = some id → s.isPresent id = true → (t.partner id).leaving = true) ∧
      OnlyIn [.regs, .hif, .chans, .partners, .usb, .mem, .sch, .log] s t)) ∧
    (s.vbusOn n = false → exec (.usbOvercurrent n) s = .next s.settle ∧ exec (.usbVbusLow n) s = .next s.settle) ∧
    (s.vbusOn n = true →
      (let off (t : State) : Prop := (t.usbPort n).conn = false ∧ (t.usbPort n).oc = true ∧ t.vbusOn n = false ∧
         (t.usbPort n).since = s.clock.ps ∧ t.rd USB_OC_COUNT = bump32 (s.rd USB_OC_COUNT) ∧ t.causeLive 0x0501 = true ∧
         (∀ id, s.atPort (0x20 + n) = some id → s.isPresent id = true → (t.partner id).leaving = true) ∧
         OnlyIn [.regs, .hif, .chans, .partners, .usb, .mem, .sch, .log, .guard] s t
       Gives (.usbOvercurrent n) s off ∧ Gives (.usbVbusLow n) s off)) ∧
    ((s.portsOn = false ∨ u.oc = false) → exec (.usbOcRetry n) s = .next s.settle) ∧
    (s.portsOn = true → u.oc = true → Gives (.usbOcRetry n) s (fun t =>
      (t.usbPort n).oc = false ∧ u.since + atLeast1 (s.fld USB_CTL 15 8) * 10 ^ 12 ≤ t.clock.ps ∧
      t.guard.live.contains (0x0501, n) = false ∧ OnlyIn [.clock, .usb, .guard] s t)) ∧
    (∀ f : UvcFrame,
      (let streams := s.vbusOn n = true ∧ u.conn = true ∧ (s.uvcStream n).map (ofMode f) = some true
       (¬ streams → Gives (.uvcFrameComplete n f) s (fun t =>
         t.usbPort n = { u with stream := s.uvcStream n } ∧ OnlyIn [.usb] s t)) ∧
       (streams → f.errorBit = true → Gives (.uvcFrameComplete n f) s (fun t =>
         t.usbPort n = { u with stream := s.uvcStream n } ∧
         t.rd USB_FRAME_DROP_COUNT = bump32 (s.rd USB_FRAME_DROP_COUNT) ∧ OnlyIn [.regs, .usb, .mem, .sch] s t)) ∧
       (streams → f.errorBit = false → Gives (.uvcFrameComplete n f) s (fun t =>
         t.usbPort n = { u with stream := s.uvcStream n } ∧
         t.rd USB_FRAME_DROP_COUNT = s.rd USB_FRAME_DROP_COUNT))))

/-! Panels. -/

/-- R172, R291, R296, R299, R300, R357: a panel that is detected arrives with the lowest free ID and ends the wait for HPD; one
that departs leaves and is powered down at once unless DET_IGNORE keeps it. Training ends with the configuration that
trained, or leaves the display dark and raises DSP 0x0B02; a link that is lost once it runs retrains without a power cycle
and raises DSP 0x0B03. Two seconds without a flip after a Class M restart raise CMP 0x0A04 and hold the displays that scan
out. A detect pad that changes is noted. Where the ports do not run, nothing is detected. -/
def Obligations.PanelsComeAndGo : Prop :=
  ∀ (s : State) (d : Nat) (x : Display), d < 3 → s.displays[d]? = some x →
    (s.portsOn = false → (∀ edid w h, exec (.panelDetectAssert d edid w h) s = .next s.settle) ∧
      exec (.panelDepart d) s = .next s.settle ∧ ∀ pad : DetectPad, exec (.detectPadChange pad) s = .next s.settle) ∧
    (∀ edid w h, s.portsOn = true →
      (∀ id, s.atPort (displayPort d) = none → x.present = false →
        (List.range 24).find? (fun q => (s.partner q).type == 0) = some id → Gives (.panelDetectAssert d edid w h) s (fun t =>
          (t.disp d).present = true ∧ (t.disp d).step = (if x.step = .waitHpd then .waitLink else x.step) ∧
          (t.partner id).type = (if d = 2 then 6 else 5) ∧ (t.partner id).port = displayPort d ∧
          (t.partner id).ident = (panelPartner d edid w h).ident ∧
          OnlyIn [.regs, .hif, .partners, .gens, .displays, .log] s t)) ∧
      (∀ id, s.atPort (displayPort d) = some id → Gives (.panelDetectAssert d edid w h) s (fun t =>
        (t.disp d).present = true ∧ (t.partner id).ident = (panelPartner d edid w h).ident ∧
        (t.partner id).flags = (panelPartner d edid w h).flags ∧
        OnlyIn [.regs, .hif, .partners, .displays, .log] s t))) ∧
    (x.present = false → exec (.panelDepart d) s = .next s.settle) ∧
    (s.portsOn = true → x.present = true → Gives (.panelDepart d) s (fun t =>
      (t.disp d).present = false ∧
      (∀ id, s.atPort (displayPort d) = some id → s.isPresent id = true → (t.partner id).leaving = true) ∧
      ((d = 2 ∨ s.flag DSP_CFG 7 d = false) → x.step ≠ .off → x.step.falling = false → (t.disp d).step = .waitLinkOff) ∧
      (d < 2 → s.flag DSP_CFG 7 d = true → (t.disp d).step = x.step) ∧
      OnlyIn [.regs, .hif, .chans, .partners, .displays, .log] s t)) ∧
    (d < 2 → s.portsOn = true → Gives (.detectPadChange (.panel d)) s (fun t =>
      t.disp d = { x with raw := !x.raw } ∧ OnlyIn [.regs, .displays, .mem, .sch] s t)) ∧
    (d = 2 → s.portsOn = true → Gives (.detectPadChange .hpd) s (fun t =>
      (t.disp 2).raw = (!x.raw) ∧
      (t.disp 2).step = (if x.raw = false ∧ x.step = .waitHpd then .waitLink else x.step) ∧
      OnlyIn [.regs, .displays, .mem, .sch] s t)) ∧
    (d = 2 → x.step.linked = true → Gives (.irqHpd true) s (fun t =>
      t.disp 2 = { x with retrain := true } ∧ t.rd DSP_RETRAIN_COUNT 2 = bump32 (s.rd DSP_RETRAIN_COUNT 2) ∧
      OnlyIn [.regs, .displays] s t)) ∧
    (d = 2 → x.step.linked = false → exec (.irqHpd true) s = .next s.settle) ∧ exec (.irqHpd false) s = .next s.settle ∧
    (∀ trained, d = 2 → x.retrain = false →
      (x.step ≠ .training → exec (.linkTrainingEnd trained) s = .next s.settle) ∧
      (∀ l r, x.step = .training → s.trainedAs 2 trained = some (l, r) → Gives (.linkTrainingEnd trained) s (fun t =>
        (t.disp 2).step = .waitVideo ∧ (t.disp 2).trLanes = l ∧ (t.disp 2).trRate = r ∧ (t.disp 2).dark = false ∧
        OnlyIn [.displays] s t))) ∧
    (∀ trained, d = 2 → (x.step = .training ∨ x.retrain = true) → s.trainedAs 2 trained = none →
      Gives (.linkTrainingEnd trained) s (fun t =>
        (t.disp 2).step = .training ∧ (t.disp 2).dark = true ∧ (t.disp 2).scans = false ∧ bitAt (t.fstat 11) 1 = true ∧
        OnlyIn [.regs, .hif, .displays, .log, .guard] s t)) ∧
    (∀ trained l r, d = 2 → x.retrain = true → s.trainedAs 2 trained = some (l, r) →
      Gives (.linkTrainingEnd trained) s (fun t =>
        (t.disp 2).step = x.step ∧ (t.disp 2).retrain = false ∧ bitAt (t.fstat 11) 2 = true ∧
        OnlyIn [.regs, .hif, .displays, .log, .guard] s t)) ∧
    (∀ p c, p < 4 → s.csi[p]? = some c → s.portsOn = true → Gives (.detectPadChange (.cam p)) s (fun t =>
      t.csiPort p = { c with rawDet := !c.rawDet } ∧ OnlyIn [.regs, .csi, .mem, .sch] s t)) ∧
    ((s.cmp.holdFrom = none ∨ s.guard.safe = true) → exec .holdTimeout s = .next s.settle) ∧
    (∀ at', s.cmp.holdFrom = some at' → s.guard.safe = false → Gives .holdTimeout s (fun t =>
      t.cmp.holdFrom = none ∧ t.cmp.holding = (List.range 3).filter (fun k => (s.disp k).scans) ∧
      1000 * (at' + 2 * 10 ^ 9) ≤ t.clock.ps ∧ bitAt (t.fstat 10) 3 = true ∧
      OnlyIn [.regs, .clock, .hif, .cmp, .log, .guard] s t))

/-- R297, R298: the steps of panel power follow one another, each no sooner than its time: VDD_EN, the link (trained on eDP),
the first frame, the backlight; and down again the backlight, the link, VDD_EN, and T_OFF, after which a power-up that
waited begins. A timer that does not belong to the present step changes nothing. -/
def Obligations.PanelPowerSequence : Prop :=
  ∀ (s : State) (d : Nat) (x : Display), d < 3 → s.displays[d]? = some x →
    (d = 2 → x.step = .waitHpd → Gives .hpdWaitTimeout s (fun t =>
      t.disp 2 = { x with step := .waitLink } ∧ x.since + s.fld DSP_SEQ2 23 16 2 * 10 ^ 9 ≤ t.clock.ps ∧
      OnlyIn [.clock, .displays] s t)) ∧
    (x.step = .waitLink → Gives (.vddLinkTimer d) s (fun t =>
      (t.disp d).step = (if d = 2 then .training else .waitVideo) ∧ (t.disp d).since = t.clock.ps ∧
      x.since + s.fld DSP_SEQ 7 0 d * 10 ^ 9 ≤ t.clock.ps ∧ (d < 2 → bitAt t.clk.lvdsDll d = true) ∧
      OnlyIn [.clock, .displays, .clk] s t)) ∧
    (x.step = .waitBacklight → Gives (.frameBlTimer d) s (fun t =>
      t.disp d = { x with step := .on } ∧ x.since + s.fld DSP_SEQ 15 8 d * 10 ^ 9 ≤ t.clock.ps ∧
      OnlyIn [.clock, .displays] s t)) ∧
    (x.step = .waitLinkOff → Gives (.blLinkTimer d) s (fun t =>
      (t.disp d).step = .waitVddOff ∧ (t.disp d).since = t.clock.ps ∧ (t.disp d).again = x.again ∧
      (t.disp d).scans = false ∧ x.since + s.fld DSP_SEQ 23 16 d * 10 ^ 9 ≤ t.clock.ps ∧ bitAt t.clk.lvdsDll d = false ∧
      OnlyIn [.clock, .displays, .clk] s t)) ∧
    (x.step = .waitVddOff → Gives (.linkVddTimer d) s (fun t =>
      (t.disp d).step = .waitOff ∧ (t.disp d).since = t.clock.ps ∧ (t.disp d).again = x.again ∧
      x.since + s.fld DSP_SEQ 31 24 d * 10 ^ 9 ≤ t.clock.ps ∧ OnlyIn [.clock, .displays] s t)) ∧
    (x.step = .waitOff → Gives (.offWaitTimer d) s (fun t =>
      x.since + s.fld DSP_SEQ2 15 0 d * 10 ^ 9 ≤ t.clock.ps ∧
      (x.again = false → (t.disp d).step = .off ∧ OnlyIn [.clock, .displays] s t) ∧
      (x.again = true → s.enabled d = true → s.panelHere d = true →
        (t.disp d).step = (if d = 2 ∧ x.raw = false then .waitHpd else .waitLink) ∧ (t.disp d).since = t.clock.ps) ∧
      (t.disp d).again = false ∧ OnlyIn [.clock, .displays, .clk] s t)) ∧
    (d = 2 → x.step ≠ .waitHpd → exec .hpdWaitTimeout s = .next s.settle) ∧
    (x.step ≠ .waitLink → exec (.vddLinkTimer d) s = .next s.settle) ∧
    (x.step ≠ .waitBacklight → exec (.frameBlTimer d) s = .next s.settle) ∧
    (x.step ≠ .waitLinkOff → exec (.blLinkTimer d) s = .next s.settle) ∧
    (x.step ≠ .waitVddOff → exec (.linkVddTimer d) s = .next s.settle) ∧
    (x.step ≠ .waitOff → exec (.offWaitTimer d) s = .next s.settle)

/-! Jobs of the firmware. -/

/-- R118, R147, R148, R219: the firmware takes up a job only when it runs, when the job waits under this opcode, and, for a
channel job, in fetch order; otherwise the command changes nothing. A job whose channel is still to be created waits; one
whose channel does not exist ends with reason 0x41, one of a class above its channel's with 0x43, and a DECODE on a channel
of another kind with 0x46. -/
def Obligations.FirmwareTakesUpJobs : Prop :=
  ∀ (s : State) (id op : Nat) (c : Instr) (image picture block data : Served (List Byte)) (au : Au) (bad : List Nat)
    (ok : Bool),
    (c, op) ∈ [(Instr.chanCreate id, 0x01), (.chanDestroy id, 0x02), (.chanPause id, 0x03), (.chanResume id, 0x04),
      (.chanExport id, 0x05), (.chanImport id image, 0x06), (.chanBind id, 0x07), (.decode id au, 0x10),
      (.encodeFrame ⟨id, picture⟩, 0x11), (.encodeStart id block, 0x11), (.encodeStop id, 0x11), (.encodeUpdate id block, 0x11),
      (.forceIdr id, 0x11), (.layerSet id, 0x20), (.displayControl id, 0x20), (.overlayLoad id, 0x21), (.fioSet id, 0x30),
      (.logRead ⟨id, bad⟩, 0x40), (.statsRead id, 0x41), (.fwStageWrite id data ok, 0x50), (.fwStageCommit id, 0x50),
      (.fwStageConfirm id, 0x50), (.userWrite id data ok, 0x50), (.userRead id, 0x50), (.netTx id data, 0x51)] →
    (s.readyJob id op = none → exec c s = .next s.settle) ∧
    (∀ j, s.readyJob id op = some j → s.postable j = true →
      (let refused (reason : Nat) (t : State) : Prop := Ended s t j { status := 0x23, reason := reason } ∧
         OnlyIn [.regs, .bus, .hif, .chans, .mem, .bpm, .sch, .log, .guard] s t
       let known := needsChannel op = false ∨ s.chanExists j.desc.channel = true
       (¬ known → s.hif.creating.contains j.desc.channel = true → exec c s = .next s.settle) ∧
       (¬ known → s.hif.creating.contains j.desc.channel = false → Gives c s (refused 0x41)) ∧
       (known → s.classOk j.desc = false → Gives c s (refused 0x43)) ∧
       (known → s.classOk j.desc = true → op = 0x10 → s.kindOk j.desc = false → Gives c s (refused 0x46))))

/-! Channels. -/

/-- R148, R150 to R153, R170: a create of a free channel number whose fields hold and whose reservations fit the floor makes
the channel, with its binding in DETAIL and the KiB of its buffers in RESULT, or is refused for want of buffers; the
checks before that refuse it in their order. An import checks its image and does the same with the channel of it. A create
that is refused takes no job with it that waited for its channel, where none does. -/
def Obligations.ChannelCreateOrRefuse : Prop :=
  ∀ (s : State) (id : Nat) (j : Job), s.postable j = true →
    (let n := j.desc.channel
     let kept (t : State) : Prop := t.chan n = s.chan n ∧
       OnlyIn [.regs, .bus, .hif, .chans, .mem, .bpm, .sch, .log, .guard, .fresh] s t
     let refused (e : End) (t : State) : Prop := kept t ∧ Ended s t j e
     let outcome (c : Channel) (t : State) : Prop :=
       ((t.chan n).state = 1 ∧ (t.chan n).kind = c.kind ∧ (t.chan n).cls = c.cls ∧ (t.chan n).codec = c.codec ∧
          (t.chan n).width = c.width ∧ (t.chan n).height = c.height ∧ (t.chan n).cq = c.cq ∧
          (t.chan n).resSyn = c.resSyn ∧ (t.chan n).resPix = c.resPix ∧ (t.chan n).resEnc = c.resEnc ∧
          Ended s t j { status := 0, detail := s.bindingDetail c.bindMode c.bindRef, result := (t.chan n).dramKib }) ∨
       (t.chan n = s.chan n ∧ s.rowRegion < s.rowUsed + c.rowBytes ∧ Ended s t j { status := 0x21, reason := 0x68 }) ∨
       (c.buffers ≠ [] ∧ Lacking s t j 0x60)
     (s.takeable id 0x01 j →
       (let c := channelOf j.desc.bytes 0x10 j.desc.cq
        (s.chanExists n = true → Gives (.chanCreate id) s (refused { status := 0x23, reason := 0x50 })) ∧
        (s.chanExists n = false → orphans n j.id s.hif.jobs = [] →
          (s.createOk c = false → Gives (.chanCreate id) s (refused { status := 0x23, reason := 0x46 })) ∧
          (∀ r, s.createOk c = true → s.overFloor c = some r →
            Gives (.chanCreate id) s (refused { status := 0x20, reason := r })) ∧
          (s.createOk c = true → s.overFloor c = none → Gives (.chanCreate id) s (outcome c))))) ∧
     (s.takeable id 0x06 j →
       (∀ image, s.chanExists n = true → Gives (.chanImport id image) s (refused { status := 0x23, reason := 0x50 })) ∧
       (s.chanExists n = false →
         (Gives (.chanImport id .failed) s (fun t => kept t ∧ Unread s t j false) ∧
          Gives (.chanImport id .poisoned) s (fun t => kept t ∧ Unread s t j true)) ∧
         (orphans n j.id s.hif.jobs = [] → ∀ b,
           (let c := importChannel (b.take (leAt b 8 4)) j.desc.cq (j.u8 0x1C) (j.u8 0x1D) s.tick.number.toNat
            (imageOk b (j.u32 0x18) = false → Gives (.chanImport id (.ok b)) s (refused { status := 0x23, reason := 0x54 })) ∧
            (imageOk b (j.u32 0x18) = true → s.createOk c = false →
              Gives (.chanImport id (.ok b)) s (refused { status := 0x23, reason := 0x46 })) ∧
            (∀ r, imageOk b (j.u32 0x18) = true → s.createOk c = true → s.overFloor c = some r →
              Gives (.chanImport id (.ok b)) s (refused { status := 0x20, reason := r })) ∧
            (imageOk b (j.u32 0x18) = true → s.createOk c = true → s.overFloor c = none →
              Gives (.chanImport id (.ok b)) s (outcome c)))))))

/-- R154 to R169: pause, resume, bind, destroy and export of a channel, up to the edge or the boundary at which they act.
PAUSE gives its first tick in RESULT and refuses a second one; RESUME says in DETAIL what it ends; BIND checks its
partner; DESTROY closes the channel; EXPORT waits for its boundary, at which its image's length is its RESULT, and gives
up after TIMEOUT ticks; away from a boundary, and before the limit, nothing happens. -/
def Obligations.ChannelJobsTakeEffect : Prop :=
  (∀ (s : State) (id : Nat) (j : Job), s.postable j = true →
    (let n := j.desc.channel
     let c := s.chan n
     let parts := [Part.regs, .bus, .hif, .chans, .mem, .bpm, .sch, .log, .guard]
     (s.takeable id 0x03 j →
       ((c.state ≠ 3 ∧ c.pause = none) → Gives (.chanPause id) s (fun t =>
         (let first := s.tickFor (j.u32 0x10)
          t.chan n = { c with pause := some { job := id, start := first.1, duration := j.u32 0x14 } } ∧
          Ended s t j { status := 0, detail := b2n (first.2 && j.u32 0x10 != 0), result := first.1 % 2 ^ 32 } ∧
          OnlyIn parts s t))) ∧
       ((c.state = 3 ∨ c.pause.isSome = true) → Gives (.chanPause id) s (fun t =>
         t.chan n = c ∧ Ended s t j { status := 0x23, reason := 0x52 } ∧ OnlyIn parts s t))) ∧
     (s.takeable id 0x04 j → Gives (.chanResume id) s (fun t =>
       (let d := if c.state = 3 then 1 else if c.pause.isSome then 2 else 0
        t.chan n = (if d = 0 then c else { c with resume := some id }) ∧ Ended s t j { status := 0, detail := d } ∧
        OnlyIn parts s t))) ∧
     (s.takeable id 0x07 j →
       (s.bindOk c.kind (j.u8 0x10) (j.u8 0x11) (j.u8 0x12) = true → Gives (.chanBind id) s (fun t =>
         t.chan n = { c with binds := c.binds ++ [(id, j.u8 0x10, j.u8 0x11, j.u8 0x12)] } ∧
         Ended s t j { status := 0 } ∧ OnlyIn parts s t)) ∧
       (s.bindOk c.kind (j.u8 0x10) (j.u8 0x11) (j.u8 0x12) = false → Gives (.chanBind id) s (fun t =>
         t.chan n = c ∧ Ended s t j { status := 0x23, reason := 0x51 } ∧ OnlyIn parts s t))) ∧
     (s.takeable id 0x02 j → Gives (.chanDestroy id) s (fun t =>
       t.chan n = { c with closing := c.closing ++ [id] } ∧ (t.job? id).map (·.phase) = some .executing ∧
       OnlyIn [.hif, .chans, .bpm, .mem] s t)) ∧
     (s.takeable id 0x05 j →
       (c.state = 3 → Gives (.chanExport id) s (fun t => t.chan n = c ∧ Ended s t j { status := 0x22 } ∧ OnlyIn parts s t)) ∧
       (c.state ≠ 3 → c.exporting.isSome = true → Gives (.chanExport id) s (fun t =>
         t.chan n = c ∧ Ended s t j { status := 0x23, reason := 0x55 } ∧ OnlyIn parts s t)) ∧
       (c.state ≠ 3 → c.exporting = none → Gives (.chanExport id) s (fun t =>
         (t.chan n).exporting = some (id, s.tick.number.toNat + atLeast1 (j.u16 0x1C), bitAt (j.u8 0x1E) 0) ∧
         (t.chan n).pause = c.pause ∧ (t.job? id).map (·.phase) = some .executing ∧
         OnlyIn [.regs, .hif, .chans, .flows, .mem, .bpm, .log] s t))) ∧
     (∀ lim pause, c.exporting = some (id, lim, pause) → n < 32 → s.job? id = some j → j.phase = .executing →
       j.desc.opcode = 0x05 →
       (s.fwRuns = true → c.state = 1 → c.closing = [] → s.atBoundary n = true → Gives (.exportPoint n) s (fun t =>
         (t.chan n).exporting = none ∧
         (t.chan n).pause =
           (if pause = true then some { job := id, start := s.tick.number.toNat + 1, duration := 0 } else c.pause) ∧
         Ended s t j { status := 0, result := (s.exportImage n).length } ∧ OnlyIn parts s t)) ∧
       ((s.fwRuns = false ∨ c.state ≠ 1 ∨ c.closing ≠ [] ∨ s.atBoundary n = false) →
         exec (.exportPoint n) s = .next s.settle) ∧
       (lim ≤ s.tick.number.toNat → Gives (.exportTimeout n) s (fun t =>
         t.chan n = { c with exporting := none } ∧ Ended s t j { status := 0x23, reason := 0x53 } ∧ OnlyIn parts s t)) ∧
       (s.tick.number.toNat < lim → exec (.exportTimeout n) s = .next s.settle)))) ∧
  (∀ (s : State) (n : Nat), n < 32 → (s.chan n).exporting = none →
    exec (.exportPoint n) s = .next s.settle ∧ exec (.exportTimeout n) s = .next s.settle)

/-! Decoding. -/

/-- R85, R86, R218, R227, R232, R233, R240, R382: a decode is presented with its access unit; what its completion reports comes
from the places concealed in it, in decoding order; limits and caps add such places and are counted; a stalled engine goes
on; an engine changes to another admitted job with its context saved, unless a cut comes first. Outside the windows in which
engines work, on a job that is not on them, and below a cap nothing happens. -/
def Obligations.DecodeJobsRunAndEnd : Prop :=
  (∀ (s : State) (id row col cycles : Nat) (r : DecReport), s.job? id = none →
    exec (.decodeEnd id r) s = .next s.settle ∧ exec (.bitLimitExceeded id row col) s = .next s.settle ∧
    exec (.blockCycleLimit id row col) s = .next s.settle ∧
    ∀ kind, (kind = .syn ∨ kind = .pix ∨ kind = .enc) → exec (.cycleCapReached id kind ⟨row, cycles⟩) s = .next s.settle) ∧
  (∀ (s : State) (id : Nat) (j : Job), s.job? id = some j →
    (∀ au, s.takeable id 0x10 j →
      (j.ready = true → Gives (.decode id au) s (fun t => (t.job? id).map (·.au) = some j.au ∧ OnlyIn [.hif, .bpm, .mem] s t)) ∧
      (j.ready = false → s.pitchOk j au = true → Gives (.decode id au) s (fun t =>
        (t.job? id).map (fun k => (k.ready, k.au, k.phase)) =
          some (true, some { au with bits := 8 * j.u32 0x18 }, j.phase) ∧ OnlyIn [.hif, .bpm, .mem] s t)) ∧
      (j.ready = false → s.pitchOk j au = false → s.postable j = true → Gives (.decode id au) s (fun t =>
        Ended s t j { status := 0x23, reason := 0x46 } ∧
        OnlyIn [.regs, .bus, .hif, .chans, .mem, .bpm, .sch, .log, .guard] s t))) ∧
    (∀ r, (j.au = none ∨ j.phase ≠ .admitted ∨ j.desc.opcode ≠ 0x10 ∨ s.enginesRun = false) →
      exec (.decodeEnd id r) s = .next s.settle) ∧
    (∀ au r, j.au = some au → j.phase = .admitted → j.desc.opcode = 0x10 → s.enginesRun = true → s.postable j = true →
      (∀ n, (s.chan n).exporting = none) →
      (let c := s.chan j.desc.channel
       let parts := [Part.regs, .bus, .engines, .tick, .hif, .chans, .flows, .displays, .mem, .bpm, .sch, .log, .guard,
                     .fresh]
       let shut : Bool := decide (c.decState = 3 ∧ c.codec ≠ 1)
       let err := match au.header with
         | none => if shut then c.unsup else 0
         | some h => if headerErr c h ≠ 0 then (if shut then c.unsup else headerErr c h)
                     else if shut && !au.irap then c.unsup else 0
       let good : Bool := match au.header with
         | none => !shut
         | some h => headerErr c h == 0 && !(shut && !au.irap)
       (good = false → Gives (.decodeEnd id r) s (fun t =>
         Ended s t j { status := 0x24, reason := err } ∧ OnlyIn parts s t)) ∧
       (good = true → Gives (.decodeEnd id r) s (fun t =>
         (let c := match au.header with
            | none => c
            | some h => c.activate h
          let c := { c with dpb := if r.idr then c.dpb.map (fun p => { p with ref := false }) else c.dpb }
          let hits := hitsOf c j au r
          Ended s t j
            { status := if hits = [] then 0 else 1, reason := ((hits.head?).map (·.reason)).getD 0
              detail := decodeDetail hits au.irap (c.predictedTainted r && !au.irap) (lostRows (lostBlocks hits au r))
              result := (if c.codec = 1 then 0 else twos 16 au.poc) + 65536 * (au.rows % 65536) } ∧
          t.cnt64 DEC_PIC_COUNT = Machine.bump64 (s.cnt64 DEC_PIC_COUNT) 1 ∧ OnlyIn parts s t))))) ∧
    (∀ row col,
      (let runs := j.decoding = true ∧ s.enginesRun = true ∧ (j.cut = false ∨ row < j.cutRow)
       let left (reason : Nat) (t : State) : Prop :=
         (t.job? id).map (·.hits) = some (j.hits ++ [{ row := row, col := col, reason := reason }]) ∧
         t.rd DEC_SEG_ABANDON_COUNT = bump32 (s.rd DEC_SEG_ABANDON_COUNT) ∧ OnlyIn [.regs, .engines, .hif, .fresh] s t
       (¬ runs → exec (.bitLimitExceeded id row col) s = .next s.settle ∧
         exec (.blockCycleLimit id row col) s = .next s.settle) ∧
       (runs → (∀ n, (s.chan n).exporting = none) →
         Gives (.bitLimitExceeded id row col) s (fun t => left 0x83 t ∧ t.rd DEC_BITLIM_COUNT = bump32 (s.rd DEC_BITLIM_COUNT)) ∧
         Gives (.blockCycleLimit id row col) s (fun t =>
           left 0x84 t ∧ t.rd DEC_CYCLIM_COUNT = bump32 (s.rd DEC_CYCLIM_COUNT))))) ∧
    (∀ kind row cycles, (kind = .syn ∨ kind = .pix ∨ kind = .enc) →
      (let due := s.tick.window = .work ∧ j.cycleCap kind ≤ cycles ∧ j.cuttable kind = true
       (¬ due → exec (.cycleCapReached id kind ⟨row, cycles⟩) s = .next s.settle) ∧
       (due → (∀ n, (s.chan n).exporting = none) → Gives (.cycleCapReached id kind ⟨row, cycles⟩) s (fun t =>
         (t.job? id).map (fun k => (k.cut, k.cutRow, k.hits)) =
           some (true, (if kind = j.producer then row else 0),
             if j.desc.opcode = 0x10 then j.hits ++ [{ row := row, col := 0, reason := 0x10 }] else j.hits) ∧
         t.rd TCK_CUT_COUNT = (if j.cut then s.rd TCK_CUT_COUNT else bump32 (s.rd TCK_CUT_COUNT)) ∧
         OnlyIn [.regs, .engines, .hif, .fresh] s t)))) ∧
    (∀ d row cycles,
      (let due := s.tick.window = .work ∧ s.composeCost d * 5 / 10 ≤ cycles
       (¬ due → exec (.cycleCapReached id (.cmp d) ⟨row, cycles⟩) s = .next s.settle) ∧
       (due → s.tick.composing.contains d = true → s.tick.composed.contains d = false →
         Gives (.cycleCapReached id (.cmp d) ⟨row, cycles⟩) s (fun t =>
           t.tick.composing = ldel s.tick.composing d ∧ t.rd TCK_CUT_COUNT = bump32 (s.rd TCK_CUT_COUNT) ∧
           OnlyIn [.regs, .tick, .displays] s t)))) ∧
    (∀ e (x : SynEngine), e < 3 → s.engines[e]? = some x →
      Gives (.bufferRoomAvailable e) s (fun t => t.engines[e]? = some { x with waiting := false } ∧ OnlyIn [.engines] s t) ∧
      (∀ bit arith, x.job = none → exec (.syntaxEngineInterrupt e id bit arith) s = .next s.settle) ∧
      (∀ old k bit arith, x.job = some old → s.job? old = some k → k.cut = false →
        ((j.phase ≠ .admitted ∨ j.cut = true ∨ old = id) →
          exec (.syntaxEngineInterrupt e id bit arith) s = .next s.settle) ∧
        (j.phase = .admitted → j.cut = false → old ≠ id → (∀ n, (s.chan n).exporting = none) →
          Gives (.syntaxEngineInterrupt e id bit arith) s (fun t =>
            (t.engines[e]?).map (·.job) = some (some id) ∧
            (t.engines[e]?).map (fun y => y.saved.map (·.job)) = some (x.saved.map (·.job) ++ [old]) ∧
            t.rd MCS_INTR_COUNT = bump32 (s.rd MCS_INTR_COUNT) ∧ OnlyIn [.regs, .engines, .hif, .fresh] s t))) ∧
      (∀ old k bit arith, x.job = some old → s.job? old = some k → k.cut = true →
        Gives (.syntaxEngineInterrupt e id bit arith) s (fun t =>
          t.engines[e]? = some { x with job := none, waiting := false } ∧
          t.rd MCS_INTR_CANCEL_COUNT = bump32 (s.rd MCS_INTR_CANCEL_COUNT) ∧ OnlyIn [.regs, .engines] s t))))

/-! Encoding. -/

/-- R157, R206, R249 to R253, R258, R262, R263: the five actions of ENCODE, the rows of a frame, and what the completion of a
frame reports. A paused channel, one of another kind and one that does not encode refuse them. A row is kept while the frame
with the tail reserve of its later rows stays within the cap. (Rows and the end of a frame are stated where no CHAN_EXPORT
waits for a boundary.) -/
def Obligations.EncodeJobsRunAndEnd : Prop :=
  (∀ (s : State) (id : Nat) (j : Job) (c : Channel), s.chan j.desc.channel = c → s.takeable id 0x11 j → j.ready = false →
    s.postable j = true →
    (let n := j.desc.channel
     let parts := [Part.regs, .bus, .hif, .chans, .mem, .bpm, .sch, .log, .guard, .fresh]
     let ended (e : End) (t : State) : Prop := t.chan n = c ∧ Ended s t j e ∧ OnlyIn parts s t
     (∀ (i : Instr) (a : Served (List Byte)) (action : Nat),
       (i, action) ∈ [(Instr.encodeFrame ⟨id, a⟩, 0), (.encodeStart id a, 1), (.encodeStop id, 2), (.encodeUpdate id a, 3),
         (.forceIdr id, 4)] →
       (j.u8 0x10 ≠ action → Gives i s (fun t => t.chan n = c ∧ (t.job? id).map (·.phase) = some .waiting ∧
         OnlyIn [.hif, .mem, .bpm] s t)) ∧
       (j.u8 0x10 = action →
         (c.state = 3 → Gives i s (ended { status := 0x22 })) ∧
         (c.state ≠ 3 → c.kind ≠ 3 → Gives i s (ended { status := 0x23, reason := 0xB4 })) ∧
         (c.state ≠ 3 → c.kind = 3 → action ≠ 1 → (c.enc.bind (·.stopping)).isSome = true ∨ c.enc = none →
           Gives i s (ended { status := 0x23, reason := 0xB4 })))) ∧
     (c.state ≠ 3 → c.kind = 3 → j.u8 0x10 = 1 →
       (∀ a, c.enc.isSome = true → Gives (.encodeStart id a) s (ended { status := 0x23, reason := 0xB4 })) ∧
       (c.enc = none →
         Gives (.encodeStart id .failed) s (fun t => t.chan n = c ∧ Unread s t j false) ∧
         Gives (.encodeStart id .poisoned) s (fun t => t.chan n = c ∧ Unread s t j true) ∧
         ∀ b,
         (let e := encoderOf (padTo 128 b) (s.fld ENC_CTL 0 0) j.desc.cq
          (∀ status reason, s.encRefusal n e (padTo 128 b) = some (status, reason) →
            Gives (.encodeStart id (.ok b)) s (ended { status := status, reason := reason })) ∧
          (s.encRefusal n e (padTo 128 b) = none → Gives (.encodeStart id (.ok b)) s (fun t =>
            ((∃ seq, seq < 65536 ∧ (t.chan n).enc = some { e with startTick := s.tick.number.toNat + 1, rtpSeq := seq }) ∧
              Ended s t j { status := 0 } ∧ OnlyIn parts s t) ∨ Lacking s t j 0x60))))) ∧
     (∀ e, c.state ≠ 3 → c.kind = 3 → c.enc = some e → e.stopping = none →
       (j.u8 0x10 = 0 →
         (e.source ≠ 4 → ∀ a, Gives (.encodeFrame ⟨id, a⟩) s (ended { status := 0x23, reason := 0xB4 })) ∧
         (e.source = 4 → e.heldFrames.any (fun x => x.job == some id) = false →
           Gives (.encodeFrame ⟨id, .failed⟩) s (fun t => t.chan n = c ∧ Unread s t j false) ∧
           Gives (.encodeFrame ⟨id, .poisoned⟩) s (fun t => t.chan n = c ∧ Unread s t j true) ∧
           ∀ b,
           (e.heldFrames.length < e.numB → Gives (.encodeFrame ⟨id, .ok b⟩) s (fun t =>
             (t.job? id).map (·.ready) = some false ∧
             ((t.chan n).enc.map (·.heldFrames)).map List.length = some (e.heldFrames.length + 1) ∧
             OnlyIn [.hif, .chans, .mem, .bpm] s t)) ∧
           (e.numB ≤ e.heldFrames.length → Gives (.encodeFrame ⟨id, .ok b⟩) s (fun t =>
             ((t.chan n).enc.map (·.heldFrames)).map List.length = some e.heldFrames.length ∧
             (e.heldFrames = [] → (t.job? id).map (fun k => (k.ready, k.luma, k.captured)) =
               some (true, (s.encSize n e).1 * (s.encSize n e).2, j.fetchNs)) ∧
             OnlyIn [.hif, .chans, .mem, .bpm, .sch] s t)))) ∧
       (j.u8 0x10 = 2 →
         (s.framesOpen n = true → Gives (.encodeStop id) s (fun t =>
           (t.chan n).enc.map (·.stopping) = some (some id) ∧ (t.job? id).map (·.phase) = some .executing ∧
           OnlyIn [.hif, .chans, .mem, .bpm, .sch] s t)) ∧
         (s.framesOpen n = false → e.heldFrames = [] → Gives (.encodeStop id) s (fun t =>
           (t.chan n).enc = none ∧ (t.chan n).encQp = e.lastQp ∧ (t.chan n).dramKib = 0 ∧ Ended s t j { status := 0 }))) ∧
       (j.u8 0x10 = 3 →
         Gives (.encodeUpdate id .failed) s (fun t => t.chan n = c ∧ Unread s t j false) ∧
         Gives (.encodeUpdate id .poisoned) s (fun t => t.chan n = c ∧ Unread s t j true) ∧
         ∀ b,
         (let u := encoderOf (padTo 128 b) e.meRange e.cq
          ((e.updated u).block ≠ u.block → Gives (.encodeUpdate id (.ok b)) s (ended { status := 0x23, reason := 0xB2 })) ∧
          (∀ status reason, (e.updated u).block = u.block →
            s.encRefusal n (e.updated u) (padTo 128 b) = some (status, reason) →
            Gives (.encodeUpdate id (.ok b)) s (ended { status := status, reason := reason })) ∧
          ((e.updated u).block = u.block → s.encRefusal n (e.updated u) (padTo 128 b) = none →
            Gives (.encodeUpdate id (.ok b)) s (fun t =>
              (t.chan n).enc = some (e.updated u) ∧ Ended s t j { status := 0 } ∧ OnlyIn parts s t)))) ∧
       (j.u8 0x10 = 4 → Gives (.forceIdr id) s (fun t =>
         (t.chan n).enc = some { e with idrNext := true, irPos := 0 } ∧ Ended s t j { status := 0 } ∧
         OnlyIn parts s t))))) ∧
  (∀ (s : State) (id bytes qp : Nat) (r : EncReport), s.encoding id = none →
    exec (.encodeRowCoded id bytes qp) s = .next s.settle ∧ exec (.encodeEnd id r) s = .next s.settle) ∧
  (∀ (s : State) (id : Nat) (j : Job) (e : Encoder), s.encoding id = some (j, e) →
    (let c := s.chan j.desc.channel
     let past := (j.cut = true ∧ j.cutRow ≤ j.rowsDone) ∨ j.sizeCut = true ∨ j.rows ≤ j.rowsDone
     let ends := j.cut = true ∨ j.sizeCut = true ∨ j.rows ≤ j.rowsDone
     (∀ bytes qp,
       (past → exec (.encodeRowCoded id bytes qp) s = .next s.settle) ∧
       (¬ past → (∀ n, (s.chan n).exporting = none) →
         (let total := rowTotal c.codec e j bytes
          let fits := total + tailReserve e.rcMode (j.rows - (j.rowsDone + 1)) ≤ j.cap
          (fits → Gives (.encodeRowCoded id bytes qp) s (fun t =>
            (t.job? id).map (fun k => (k.rowsDone, k.bytes, k.charged, k.qpSum, k.sizeCut)) =
              some (j.rowsDone + 1, j.bytes + bytes, total, j.qpSum + qp, j.sizeCut) ∧
            OnlyIn [.regs, .hif, .chans, .queues, .eth, .fresh] s t)) ∧
          (¬ fits → Gives (.encodeRowCoded id bytes qp) s (fun t =>
            (t.job? id).map (fun k => (k.rowsDone, k.bytes, k.sizeCut)) = some (j.rowsDone, j.bytes, true) ∧
            OnlyIn [.hif] s t))))) ∧
     (∀ r,
       (¬ ends → exec (.encodeEnd id r) s = .next s.settle) ∧
       (ends → (∀ n, (s.chan n).exporting = none) → c.enc.bind (·.stopping) = none → s.postable j = true →
         Gives (.encodeEnd id r) s (fun t =>
           (let idr : Bool := j.idr && c.codec != 1
            Ended s t j
              { status := 0, reason := if j.cut then 0x10 else if j.sizeCut then 0xB0 else 0
                detail := j.picType + 4 * b2n idr + 8 * b2n j.cut + 16 * b2n j.sizeCut + 32 * b2n (refreshEnd j.picType e) +
                  256 * (s.meanQp e j r % 256)
                result := j.bytes + tailBytes c.codec e j r } ∧
            t.cnt64 ENC_FRAME_COUNT = Machine.bump64 (s.cnt64 ENC_FRAME_COUNT) 1 ∧
            t.rd ENC_IDR_COUNT = (if idr then bump32 (s.rd ENC_IDR_COUNT) else s.rd ENC_IDR_COUNT) ∧
            OnlyIn [.regs, .bus, .engines, .hif, .chans, .queues, .eth, .mem, .bpm, .sch, .log, .guard, .fresh] s t))))))

/-! Composition. -/

/-- R274 to R277, R281, R282, R284, R286: LAYER_SET in its two forms is checked and waits for its edge, which is its RESULT;
OVERLAY_LOAD takes its cells, behind another copy of its slot it waits, and the end of its copy lets the slot switch at a later
edge, or raises CMP 0x0A05. At the deadline the compositor starts; a composition that ends is counted, and its frame stands in
the back buffer. Outside the work window the compositor does nothing. -/
def Obligations.CompositionOfFrames : Prop :=
  (∀ (s : State) (id : Nat) (j : Job), s.postable j = true →
    (let parts := [Part.regs, .bus, .hif, .chans, .cmp, .mem, .bpm, .sch, .log, .guard, .fresh]
     let when' := s.tickFor (j.u32 0x30)
     let due (c : LayerChange) : DueChange := { tick := when'.1, job := id, change := c }
     let waits (c : LayerChange) (t : State) : Prop :=
       t.cmp = { s.cmp with changes := s.cmp.changes ++ [due c] } ∧
       Ended s t j { status := 0, detail := b2n when'.2, result := when'.1 % 2 ^ 32 } ∧ OnlyIn parts s t
     let refused (e : End) (t : State) : Prop := t.cmp = s.cmp ∧ Ended s t j e ∧ OnlyIn parts s t
     let left (t : State) : Prop := (t.job? id).map (·.phase) = some .waiting ∧ OnlyIn [.hif, .mem, .bpm] s t
     (s.takeable id 0x20 j → j.u8 0x11 ≠ 0xFF → Gives (.displayControl id) s left ∧
       (let d := j.u8 0x10
        let x := layerOf j.desc.bytes
        let c := LayerChange.layer d (j.u8 0x11) x
        let good := d ≤ 2 ∧ j.u8 0x11 ≤ 15 ∧ s.layerOk d x = true
        let tooMany := x.srcType ≠ 0 ∧ s.overLayers (due c) d = true
        (¬ good → Gives (.layerSet id) s (refused { status := 0x23, reason := 0x46 })) ∧
        (good → tooMany → Gives (.layerSet id) s (refused { status := 0x20, reason := 0x04 })) ∧
        (good → ¬ tooMany → Gives (.layerSet id) s (waits c)))) ∧
     (s.takeable id 0x20 j → j.u8 0x11 = 0xFF → Gives (.layerSet id) s left ∧
       ((j.u8 0x10 ≤ 2 ∧ j.u8 0x12 ≤ 1) → Gives (.displayControl id) s
         (waits (.control (j.u8 0x10) (j.u8 0x12) (j.u8 0x13) (leAt j.desc.bytes 0x14 3)))) ∧
       (¬ (j.u8 0x10 ≤ 2 ∧ j.u8 0x12 ≤ 1) → Gives (.displayControl id) s (refused { status := 0x23, reason := 0x46 }))) ∧
     (s.takeable id 0x21 j →
       (s.cmp.copies.any (fun c => c.slot == j.u8 0x1C) = true → Gives (.overlayLoad id) s left) ∧
       (s.cmp.copies.any (fun c => c.slot == j.u8 0x1C) = false → Gives (.overlayLoad id) s (fun t =>
         ((t.job? id).map (·.phase) = some .executing ∧ OnlyIn parts s t ∧ ∃ c hs,
            t.cmp = { s.cmp with copies := s.cmp.copies ++ [c] } ∧ c.job = id ∧ c.slot = j.u8 0x1C ∧ c.cells = hs ∧
            c.width = j.u16 0x1E ∧ c.height = j.u16 0x20 ∧ c.format = j.u8 0x1D) ∨
         Lacking s t j 0x60))) ∧
     (∀ slot c, slot < 64 → s.cmp.copies.find? (fun c => c.slot == slot) = some c → s.job? c.job = some j →
       j.phase = .executing →
       (let failed (t : State) : Prop := t.cmp.switching = s.cmp.switching ∧ t.cmp.overlays = s.cmp.overlays ∧
          (∀ x ∈ t.cmp.copies, x.slot ≠ slot) ∧ Ended s t j { status := 0x40, fault := 0x0A05 } ∧
          bitAt (t.fstat 10) 4 = true ∧ t.rd HIF_DMA_ERR_COUNT = bump32 (s.rd HIF_DMA_ERR_COUNT) ∧ OnlyIn parts s t
        (∀ b, Gives (.overlayCopyEnd slot (.ok b)) s (fun t =>
          t.cmp.switching = s.cmp.switching ++ [(slot, c.image (j.u32 0x18) b)] ∧
          (∀ x ∈ t.cmp.copies, x.slot ≠ slot) ∧
          Ended s t j { status := 0, result := (s.tick.number.toNat + 1 +
            (s.cmp.switching.filter (fun x => x.1 == slot)).length) % 2 ^ 32 } ∧ OnlyIn parts s t)) ∧
        Gives (.overlayCopyEnd slot .failed) s failed ∧
        Gives (.overlayCopyEnd slot .poisoned) s (fun t => failed t ∧ bitAt (t.fstat 2) 5 = true))))) ∧
  (∀ (s : State) (slot : Nat) (a : Served (List Byte)), slot < 64 → s.cmp.copies.find? (fun c => c.slot == slot) = none →
    exec (.overlayCopyEnd slot a) s = .next s.settle) ∧
  (∀ s : State,
    ((s.tick.window ≠ .work ∨ s.tick.cmpStarted = true) → exec .compositionDeadline s = .next s.settle) ∧
    (s.tick.window = .work → s.tick.cmpStarted = false → Gives .compositionDeadline s (fun t =>
      t.tick.cmpStarted = true ∧ s.tick.edgePs + 1000 * s.deadlineNs ≤ t.clock.ps ∧
      (∀ d, d < 3 → s.nextCompose ≠ some d → t.disp d = s.disp d) ∧ OnlyIn [.clock, .tick, .displays] s t)) ∧
    (∀ d, d < 3 →
      ((s.tick.window ≠ .work ∨ s.tick.cmpStarted = false ∨ s.nextCompose ≠ some d) →
        exec (.compositionEnd d) s = .next s.settle) ∧
      (s.tick.window = .work → s.tick.cmpStarted = true → s.nextCompose = some d → Gives (.compositionEnd d) s (fun t =>
        t.tick.composed = s.tick.composed ++ [d] ∧
        t.cnt64 CMP_COMPOSE_COUNT = Machine.bump64 (s.cnt64 CMP_COMPOSE_COUNT) 1 ∧
        (∀ f, (s.disp d).back = some f → t.mem.dram = (s.paint d (1 - (s.disp d).frontBuf) f).mem.dram) ∧
        OnlyIn [.regs, .tick, .displays, .mem, .fresh] s t))))

/-- R121, R131, R207, R208, R420, R463, R464, R540: the jobs that use no channel. Each ends with the status, DETAIL and RESULT
that its rule gives it: the copies to host memory, also where the copy fails, the staging of firmware in the inactive slot,
the user region, a frame for an egress queue, and a setting of the field outputs. -/
def Obligations.HostJobsComplete : Prop :=
  ∀ (s : State) (id : Nat) (j : Job), s.postable j = true →
    (let parts := [Part.regs, .bus, .sys, .hif, .chans, .queues, .eth, .mem, .bpm, .sch, .log, .guard, .fio, .fresh]
     let refused (reason : Nat) (t : State) : Prop :=
       Ended s t j { status := 0x23, reason := reason } ∧ t.mem.mram = s.mem.mram ∧ t.fio = s.fio ∧
       t.sys.slotA = s.sys.slotA ∧ t.sys.slotB = s.sys.slotB ∧ OnlyIn parts s t
     (s.takeable id 0x30 j →
       (let sets := (List.range 4).map (foutSetAt j.desc.bytes)
        let when' := s.tickFor (j.u32 0x10)
        (sets.all s.foutSetOk = true → Gives (.fioSet id) s (fun t =>
          t.fio.sets = s.fio.sets ++ [(when'.1, sets)] ∧
          Ended s t j { status := 0, detail := b2n when'.2, result := when'.1 % 2 ^ 32 } ∧ OnlyIn parts s t)) ∧
        (sets.all s.foutSetOk = false → Gives (.fioSet id) s (refused 0x46)))) ∧
     (s.takeable id 0x40 j → ∀ bad, Gives (.logRead ⟨id, bad⟩) s (fun t =>
       (let span := logSpan s.log.wr s.log.held (j.u32 0x18) (j.u16 0x1C)
        (Ended s t j { status := 0, detail := b2n span.2.2, result := span.2.1 } ∧ OnlyIn parts s t) ∨ Lacking s t j 0x60))) ∧
     (s.takeable id 0x41 j → Gives (.statsRead id) s (fun t =>
       (Ended s t j { status := 0, result := j.u16 0x1A } ∧ t.bus.latchPcie = s.bus.latchPcie ∧
         t.bus.latchSpi = s.bus.latchSpi ∧ OnlyIn parts s t) ∨ Lacking s t j 0x60)) ∧
     ((s.takeable id 0x40 j ∨ s.takeable id 0x41 j) → Gives (.dmaWriteFailure (.copy id)) s (fun t =>
       t.rd HIF_DMA_ERR_COUNT = bump32 (s.rd HIF_DMA_ERR_COUNT) ∧
       ((Ended s t j { status := 0x40, fault := 0x0204 } ∧ bitAt (t.fstat 2) 3 = true ∧ OnlyIn parts s t) ∨
        Lacking s t j 0x60))) ∧
     (s.takeable id 0x50 j → s.stageBefore id = false →
       (let len := j.u32 0x18
        let off := j.u32 0x20
        let booted (t : State) : Prop := t.slot s.sys.bootSlot = s.slot s.sys.bootSlot
        (j.u8 0x1C = 0 →
          (slotSize < off + len → ∀ a ok, Gives (.fwStageWrite id a ok) s (refused 0xC6)) ∧
          (off + len ≤ slotSize →
            (∀ b, Gives (.fwStageWrite id (.ok b) true) s (fun t =>
              t.mem.mram = splice s.mem.mram (slotBase s.inactive + off) (padTo len b) ∧ t.sys.staging = true ∧
              booted t ∧ Ended s t j { status := 0, result := len } ∧ OnlyIn parts s t)) ∧
            (∀ b, Gives (.fwStageWrite id (.ok b) false) s (fun t => t.sys.staging = true ∧ booted t ∧
              Ended s t j { status := 0x23, reason := 0xC5 } ∧ OnlyIn parts s t)) ∧
            (∀ ok, Gives (.fwStageWrite id .failed ok) s (fun t => booted t ∧ Unread s t j false ∧ OnlyIn parts s t) ∧
              Gives (.fwStageWrite id .poisoned ok) s (fun t => booted t ∧ Unread s t j true ∧ OnlyIn parts s t)))) ∧
        (j.u8 0x1C = 1 →
          (let e := s.stagedErr (s.slotByte s.inactive) slotSize
           let version := imgNat (s.slotByte s.inactive) 0x0C 4
           (e ≠ 0 → Gives (.fwStageCommit id) s (fun t => refused e t ∧ t.sys.staging = false ∧
             t.sys.preferred = s.sys.preferred)) ∧
           (e = 0 → Gives (.fwStageCommit id) s (fun t =>
             (t.slot s.inactive).state = 2 ∧ (t.slot s.inactive).version = version ∧ t.sys.preferred = s.inactive ∧
             booted t ∧ t.sys.staging = false ∧ Ended s t j { status := 0, result := version } ∧ OnlyIn parts s t)))) ∧
        (j.u8 0x1C = 2 → Gives (.fwStageConfirm id) s (fun t =>
          (t.slot s.sys.bootSlot).state =
            (if (s.slot s.sys.bootSlot).state = 2 then 1 else (s.slot s.sys.bootSlot).state) ∧
          Ended s t j { status := 0, detail := if (s.slot s.sys.bootSlot).state = 2 then 1 else 0 } ∧
          t.mem.mram = s.mem.mram ∧ OnlyIn parts s t)) ∧
        (j.u8 0x1C = 3 →
          (userSize < off + len → ∀ a ok, Gives (.userWrite id a ok) s (refused 0xC6)) ∧
          (off + len ≤ userSize →
            (∀ b, Gives (.userWrite id (.ok b) true) s (fun t =>
              t.mem.mram = splice s.mem.mram (userBase + off) (padTo len b) ∧ t.sys = s.sys ∧
              Ended s t j { status := 0, result := len } ∧ OnlyIn parts s t)) ∧
            (∀ b, Gives (.userWrite id (.ok b) false) s (fun t => t.sys = s.sys ∧
              Ended s t j { status := 0x23, reason := 0xC5 } ∧ OnlyIn parts s t)) ∧
            (∀ ok, Gives (.userWrite id .failed ok) s (fun t => t.sys = s.sys ∧ Unread s t j false ∧ OnlyIn parts s t) ∧
              Gives (.userWrite id .poisoned ok) s (fun t => t.sys = s.sys ∧ Unread s t j true ∧ OnlyIn parts s t)))) ∧
        (j.u8 0x1C = 4 →
          (userSize < off + len → Gives (.userRead id) s (refused 0xC6)) ∧
          (off + len ≤ userSize → Gives (.userRead id) s (fun t =>
            t.mem.mram = s.mem.mram ∧ Ended s t j { status := 0, result := len } ∧ OnlyIn parts s t))))) ∧
     (s.takeable id 0x51 j →
       (let n := j.desc.channel
        let q := j.u8 0x1A
        (n < 32 → (s.chan n).state = 3 → ∀ a, Gives (.netTx id a) s (fun t =>
          Ended s t j { status := 0x22 } ∧ t.queues = s.queues ∧ OnlyIn parts s t)) ∧
        ((32 ≤ n ∨ (s.chan n).state ≠ 3) →
          (s.qOn q = false → ∀ a, Gives (.netTx id a) s (fun t => refused 0x46 t ∧ t.queues = s.queues)) ∧
          (s.qOn q = true → s.qDepth q ≤ (s.queue q).netBytes → ∀ a, Gives (.netTx id a) s (fun t =>
            Ended s t j { status := 0x21, reason := 0x70 } ∧ t.queues = s.queues ∧ OnlyIn parts s t)) ∧
          (s.qOn q = true → (s.queue q).netBytes < s.qDepth q →
            (∀ b, Gives (.netTx id (.ok b)) s (fun t =>
              ((t.job? id).map (·.phase) = some .executing ∧
                (t.queue q).netBytes = (s.queue q).netBytes + j.u16 0x18 ∧ OnlyIn parts s t) ∨
              (Lacking s t j 0x70))) ∧
            Gives (.netTx id .failed) s (fun t => t.queues = s.queues ∧ Unread s t j false ∧ OnlyIn parts s t) ∧
            Gives (.netTx id .poisoned) s (fun t => t.queues = s.queues ∧ Unread s t j true ∧ OnlyIn parts s t))))))

/-! Dispatcher. -/

/-- R353 to R359, R362, R363: the operations of the Dispatcher. SPAWN fills an empty slot with a thread that waits, or that is
ready at once where its rule holds; RETIRE empties a slot; YIELD ends a run; SIGNAL sets flags; DEC counts down, then into
PENDING, which saturates with SCH 0x0F05; BIND ties a counter. A run limit raises SCH 0x0F01 no sooner than it is used up.
While the cores do not execute, and where a slot or a core has nothing that the operation applies to, nothing changes. -/
def Obligations.DispatcherOperations : Prop :=
  ∀ (s : State) (slot : Nat) (x : Thread), slot < 256 → s.thread slot = x →
    (∀ (c : Nat) (flags : Word) what prio fm all aff tag rl reload mask,
      (let idle (i : Instr) : Prop := exec i s = .next s.settle
       ((s.coresRun = false ∨ x.state ≠ 0) → idle (.spawn slot prio fm all aff tag rl reload mask)) ∧
       (s.coresRun = false → idle (.retire slot)) ∧
       ((s.coresRun = false ∨ (s.core c).thread = none) → idle (.yield c)) ∧
       ((s.coresRun = false ∨ x.state = 0 ∨ x.flagsMode = false) → idle (.signal slot flags)) ∧
       ((s.coresRun = false ∨ x.state = 0 ∨ x.flagsMode = true) → idle (.dec slot)) ∧
       ((s.coresRun = false ∨ x.state = 0 ∨ x.bounds.contains what = true) → idle (.bind slot what)) ∧
       (∀ steps, (s.core c).thread = none → idle (.threadRunLimit ⟨c, steps⟩)))) ∧
    (s.coresRun = true →
      (∀ prio fm all aff tag rl reload mask, x.state = 0 →
        (let y := newThread prio fm all aff tag rl reload mask s.ktime
         (y.due = false → Gives (.spawn slot prio fm all aff tag rl reload mask) s (fun t =>
           t.thread slot = y ∧ y.state = 1 ∧ (∀ k, k ≠ slot → t.thread k = s.thread k) ∧ OnlyIn [.sch] s t)) ∧
         (y.due = true → Gives (.spawn slot prio fm all aff tag rl reload mask) s (fun t =>
           ((t.thread slot).state = 2 ∨ (t.thread slot).state = 3) ∧ (t.thread slot).prio = prio % 32 ∧
           OnlyIn [.regs, .mem, .sch] s t)))) ∧
      Gives (.retire slot) s (fun t => t.thread slot = .empty ∧ OnlyIn [.regs, .mem, .sch] s t) ∧
      (∀ c, c < 4 → (s.core c).thread = some slot →
        (x.due = false → Gives (.yield c) s (fun t =>
          t.thread slot = { x with state := 1, usedNs := 0 } ∧ OnlyIn [.regs, .mem, .sch] s t)) ∧
        (x.due = true → Gives (.yield c) s (fun t =>
          ((t.thread slot).state = 2 ∨ (t.thread slot).state = 3) ∧ OnlyIn [.regs, .mem, .sch] s t)) ∧
        (∀ steps, (let u := s.advanceTo (1000 * (x.sinceNs + (1000 * s.runLimitUs x - x.usedNs)))
          exec (.threadRunLimit ⟨c, steps⟩) s = .next (u.raise 0x0F01 { source := c, addr := u.servedTag c steps }
            { unit := some (.core, c), jobs := steps }).settle))) ∧
      (∀ flags : Word, x.flagsMode = true → x.state ≠ 0 →
        (let y := { x with flags := x.flags ||| flags }
         ((x.state ≠ 1 ∨ y.due = false) → Gives (.signal slot flags) s (fun t =>
           t.thread slot = y ∧ (∀ k, k ≠ slot → t.thread k = s.thread k) ∧ OnlyIn [.sch] s t)) ∧
         (x.state = 1 → y.due = true → Gives (.signal slot flags) s (fun t =>
           ((t.thread slot).state = 2 ∨ (t.thread slot).state = 3) ∧ OnlyIn [.regs, .mem, .sch] s t)))) ∧
      (x.flagsMode = false → x.state ≠ 0 →
        ((2 ≤ x.counter ∨ (x.counter = 1 ∧ x.state ≠ 1)) → Gives (.dec slot) s (fun t =>
          t.thread slot = { x with counter := x.counter - 1 } ∧ OnlyIn [.sch] s t)) ∧
        (x.counter = 1 → x.state = 1 → Gives (.dec slot) s (fun t =>
          ((t.thread slot).state = 2 ∨ (t.thread slot).state = 3) ∧ OnlyIn [.regs, .mem, .sch] s t)) ∧
        (x.counter = 0 → x.pending ≠ 255 → Gives (.dec slot) s (fun t =>
          t.thread slot = { x with pending := x.pending + 1 } ∧ OnlyIn [.sch] s t)) ∧
        (x.counter = 0 → x.pending = 255 → Gives (.dec slot) s (fun t =>
          t.thread slot = x ∧ t.rd SCH_PENDING_SAT_COUNT = bump32 (s.rd SCH_PENDING_SAT_COUNT) ∧
          bitAt (t.fstat 15) 4 = true ∧ OnlyIn [.regs, .hif, .log, .guard] s t))) ∧
      (∀ what, x.state ≠ 0 → x.bounds.contains what = false → Gives (.bind slot what) s (fun t =>
        t.thread slot = { x with bounds := x.bounds ++ [what] } ∧ (∀ k, k ≠ slot → t.thread k = s.thread k) ∧
        OnlyIn [.sch] s t)))

/-! Cells and memories. -/

/-- R338 to R345, R348: a request takes a free cell of the smallest comb that holds it, with the requester's tag, or is counted
as failed; combs 4 to 7 give the cell freed last, and a wrong check word in it is BPM 0x0E02. Frees of a cycle come before
its requests. A free is accepted only with the tag that the cell carries, and every other free changes no cell, is counted
and reported. The caches of the free stores move 16 handles. -/
def Obligations.CellsAllocateAndFree : Prop :=
  ∀ s : State,
    (s.memoriesRun = false → ∀ who size meets h tag c, exec (.cellAllocate who ⟨size, meets⟩) s = .next s.settle ∧
      exec (.cellFree h tag) s = .next s.settle ∧ exec (.freeStoreRefill c) s = .next s.settle ∧
      exec (.freeStoreSpill c) s = .next s.settle) ∧
    (∀ who size h tag, realRequester who = true → tag < 256 →
      exec (.cellAllocate who ⟨size, [.free h tag]⟩) s = exec (.cellAllocate who ⟨size, []⟩) (s.requestFree h tag)) ∧
    (s.memoriesRun = true →
      (∀ n size, n < 32 → size ≤ 2 ^ 22 → Bpm.wf s.bpm = true →
        (let c := combFor size
         (0 < s.combFree c → s.linkOk (s.pickCell c) = true → Gives (.cellAllocate (.ingress n) ⟨size, []⟩) s (fun t =>
           t.bpm.cells = tset s.bpm.cells (s.pickCell c) (transientTag n) ∧ OnlyIn [.regs, .bpm, .fresh] s t ∧
           (match lget [] s.bpm.lists c with
            | [] => ∃ k, k < lget 0 s.bpm.counts c ∧ s.pickCell c = c * 2 ^ 21 + k ∧ thas s.bpm.cells (s.pickCell c) = false
            | h :: _ => s.pickCell c = h) ∧
           t.rd BPM_COMB_ALLOC_COUNT c = bump32 (s.rd BPM_COMB_ALLOC_COUNT c))) ∧
         (0 < s.combFree c → s.linkOk (s.pickCell c) = false → Gives (.cellAllocate (.ingress n) ⟨size, []⟩) s (fun t =>
           bitAt (t.fstat 14) 1 = true ∧ t.bpm.mismatch = none)) ∧
         (s.combFree c = 0 → (s.chan n).bound = none → s.bpm.mismatch = none →
           Gives (.cellAllocate (.ingress n) ⟨size, []⟩) s (fun t => t.bpm.cells = s.bpm.cells ∧
             t.rd BPM_COMB_FAIL_COUNT c = bump32 (s.rd BPM_COMB_FAIL_COUNT c) ∧
             t.rd BPM_ING_DROP_COUNT = bump32 (s.rd BPM_ING_DROP_COUNT) ∧ OnlyIn [.regs, .bpm] s t)))) ∧
      (∀ h tag, tag < 256 →
        (let c := handleComb h
         let real := h < 2 ^ 24 - 1 ∧ handleIndex h < lget 0 s.bpm.counts c
         let refused (code : Nat) (t : State) : Prop := t.bpm = s.bpm ∧ bitAt (t.fstat 14) (code % 256 - 1) = true ∧
           t.rd BPM_LAST_ERR = h % 2 ^ 24 + tag * 2 ^ 24 ∧ OnlyIn [.regs, .hif, .log, .guard] s t
         (s.bpm.recent.contains tag = true → Gives (.cellFree h tag) s (fun t =>
           t.rd BPM_RECLAIM_RACE_COUNT = bump32 (s.rd BPM_RECLAIM_RACE_COUNT) ∧ OnlyIn [.regs] s t)) ∧
         (s.bpm.recent.contains tag = false →
           (¬ real → Gives (.cellFree h tag) s (fun t => refused 0x0E05 t ∧
             t.rd BPM_FREE_REJECT_COUNT = bump32 (s.rd BPM_FREE_REJECT_COUNT))) ∧
           (real → thas s.bpm.cells h = false → Gives (.cellFree h tag) s (fun t => refused 0x0E03 t ∧
             t.rd BPM_DOUBLE_FREE_COUNT = bump32 (s.rd BPM_DOUBLE_FREE_COUNT))) ∧
           (real → thas s.bpm.cells h = true → (tget 0xFF s.bpm.cells h ≠ tag ∨ tag = 0xFF) →
             Gives (.cellFree h tag) s (fun t => refused 0x0E04 t ∧
               t.rd BPM_FREE_REJECT_COUNT = bump32 (s.rd BPM_FREE_REJECT_COUNT))) ∧
           (real → tget 0xFF s.bpm.cells h = tag → tag ≠ 0xFF → Gives (.cellFree h tag) s (fun t =>
             t.bpm.cells = tdel s.bpm.cells h ∧ OnlyIn [.bpm, .mem] s t ∧ (c < 4 → t.mem = s.mem) ∧
             (4 ≤ c → (∀ l, s.bpm.lists[c]? = some l → t.bpm.lists[c]? = some (h :: l)) ∧
               ∃ next, t.mem = (s.dramWrite (s.cellAddr h) (leBytes 4 next ++ leBytes 4 (linkCheck h))).mem ∧
                 ∀ x l, lget [] s.bpm.lists c = x :: l → next = x)))))) ∧
      (∀ c k, c < 4 → s.bpm.cache[c]? = some k →
        (k ≤ 8 → Gives (.freeStoreRefill c) s (fun t =>
          t.bpm.cache[c]? = some (k + min 16 (s.ringCells c)) ∧ t.bpm.cells = s.bpm.cells ∧ OnlyIn [.bpm] s t)) ∧
        (8 < k → exec (.freeStoreRefill c) s = .next s.settle) ∧
        (28 ≤ k → Gives (.freeStoreSpill c) s (fun t =>
          t.bpm.cache[c]? = some (k - 16) ∧ t.bpm.cells = s.bpm.cells ∧ OnlyIn [.bpm] s t)) ∧
        (k < 28 → exec (.freeStoreSpill c) s = .next s.settle)))

/-- R93, R304 to R307, R310 to R312, R322, R323: a word written to the SRAM window in CONFIG lands there and nowhere else, and in
ACTIVE is ignored and counted; another port's access of the same cycle delays one of the two and is counted once. What the
check bits and the scrubber find is counted and reported. DRAM maintenance takes its two channels in turn, in the guard
window and when due; a new MR4 code makes it due; a refresh changes nothing else. -/
def Obligations.MemoryUpkeep : Prop :=
  (∀ (p : Path) (off : Nat) (v : Word) (s : State), isSramOffset off = true → off % 4 = 0 → s.reaches p off = true →
    (∀ x, s.isActive = true → exec (.sramWindowWrite p off v x) s = .next (s.bump SYS_LATE_WRITES).settle) ∧
    (s.isActive = false → Gives (.sramWindowWrite p off v .quiet) s (fun t =>
      readBytes 0 t.mem.sram (off - 0x400000) 4 = leBytes 4 v.toNat ∧
      (∀ a, (a < off - 0x400000 ∨ off - 0x400000 + 4 ≤ a) → tget 0 t.mem.sram a = tget 0 s.mem.sram a) ∧
      OnlyIn [.mem] s t)) ∧
    (s.isActive = false → Gives (.sramWindowWrite p off v ⟨[], .corrected⟩) s (fun t =>
      readBytes 0 t.mem.sram (off - 0x400000) 4 = leBytes 4 v.toNat ∧ bitAt (t.fstat 12) 0 = true ∧
      t.rd MEM_CE_COUNT = bump32 (s.rd MEM_CE_COUNT) ∧ OnlyIn [.regs, .mem, .hif, .log, .guard] s t)) ∧
    (∀ q w, s.isActive = false → q < 7 → Gives (.sramWindowWrite p off v ⟨[⟨0, q, w⟩], .clean⟩) s (fun t =>
      readBytes 0 t.mem.sram (off - 0x400000) 4 = leBytes 4 v.toNat ∧
      t.rd MEM_BUSY_COUNT = bump32 (s.rd MEM_BUSY_COUNT) ∧ OnlyIn [.regs, .mem] s t ∧
      (w = none → ∀ a, (a < off - 0x400000 ∨ off - 0x400000 + 4 ≤ a) → tget 0 t.mem.sram a = tget 0 s.mem.sram a)))) ∧
  (∀ (a : Nat) (s : State), a < sramBytes →
    (let runs := s.flag MEM_SCRUB 0 = true ∧ s.asleep = false ∧ s.sys.bootStage = 7 ∧ s.power.mode ≠ .off
     let ue := (s.wr MEM_UE_ADDR 0 0 a).bump MEM_UE_COUNT
     (∀ found, ¬ runs → exec (.sramScrub a found) s = .next s.settle) ∧
     (runs → exec (.sramScrub a .clean) s = .next s.settle ∧
       Gives (.sramScrub a .corrected) s (fun t => t.rd MEM_CE_COUNT = bump32 (s.rd MEM_CE_COUNT) ∧
         bitAt (t.fstat 12) 0 = true ∧ OnlyIn [.regs, .hif, .log, .guard] s t) ∧
       exec (.sramScrub a (.uncorrectable .other)) s = .next (ue.raise 0x0C02 { addr := a }).settle ∧
       (∀ n, n < 32 → exec (.sramScrub a (.uncorrectable (.rowBuffer n))) s =
         .next (ue.raise 0x0803 { addr := a } { chans := [n] }).settle) ∧
       (∀ h, h < 2 ^ 24 → handleIndex h < lget 0 s.bpm.counts (handleComb h) → ∃ u : State,
         exec (.sramScrub a (.uncorrectable (.cellMap [h]))) s = .next (u.raise 0x0C02 { addr := a }).settle ∧
         thas u.bpm.cells h = true ∧ tget 0 u.bpm.cells h = 0xFF ∧
         (∀ k, k ≠ h → tget 0xFF u.bpm.cells k = tget 0xFF s.bpm.cells k) ∧ OnlyIn [.regs, .bpm] s u)))) ∧
  (∀ s : State,
    (let due := s.dramRuns = true ∧ s.maintDue = true ∧ s.ticks = true ∧ s.tick.window = .guard
     (¬ due → ∀ ok, exec (.dramMaintenanceStep ok) s = .next s.settle) ∧
     (due → Gives (.dramMaintenanceStep true) s (fun t =>
       t.mem.maintChan = (if s.mem.maintChan = 0 then 1 else 0) ∧
       (s.mem.maintChan ≠ 0 → t.mem.maintTicks = 0) ∧ t.rd DRC_MAINT_COUNT = bump32 (s.rd DRC_MAINT_COUNT) ∧
       OnlyIn [.regs, .mem] s t)) ∧
     (due → ∃ u : State, exec (.dramMaintenanceStep true) s = .next u.settle ∧
       exec (.dramMaintenanceStep false) s = .next (u.raise 0x0D04).settle)) ∧
    (∀ code above, (s.dramRuns = false ∨ code = s.mem.mr4) → exec (.mr4Change code above) s = .next s.settle) ∧
    (∀ code above, s.dramRuns = true → code < 8 → code ≠ s.mem.mr4 → Gives (.mr4Change code above) s (fun t =>
      t.mem.mr4 = code ∧ t.maintDue = true ∧ t.guard.live.contains (0x0D05, 0xFF) = above ∧
      (above = true → bitAt (t.fstat 13) 4 = true) ∧ OnlyIn [.regs, .hif, .mem, .log, .guard] s t)) ∧
    (s.dramRuns = false → exec .dramRefresh s = .next s.settle) ∧
    (s.dramRuns = true → Gives .dramRefresh s (fun t =>
      t.mem = { s.mem with refreshes := s.mem.refreshes + 1 } ∧ OnlyIn [.mem] s t)))

/-! Faults. -/

/-- R391 to R408, R428: a good report sets the bit of its code whatever its class. Class I starts no reaction; Class C starts one
on the channels that it names; Class E fences its unit, the last two cores apart, whose loss ends in SAFE; Class M restarts the
data path, above M_LIMIT ends in SAFE, waits for the exit from a low-power mode, and takes a milder reaction in progress over
as merged; Class S stops the module in SAFE, where nothing starts a reaction. A source that holds its pair reports once. A
pair that is equal once is a glitch, and a pair that cannot be believed is GRD 0x1102; an idle pair may report again. Reports
of one cycle are taken in ascending order of their codes. The window checker reports no access inside the windows (R236). -/
def Obligations.FaultReportsByClass : Prop :=
  ∀ (s : State) (r : Report),
    ((reportReal r = false ∨ s.guardRuns r.block = false) → exec (.faultReport ⟨r, []⟩) s = .next s.settle) ∧
    (∀ q, reportCode r < reportCode q →
      exec (.faultReport ⟨q, [r]⟩) s = exec (.faultReport ⟨r, [q]⟩) s ∧
      exec (.faultReport ⟨r, [q]⟩) s = .next ((s.takeReport r).takeReport q).settle) ∧
    (reportReal r = true → s.guardRuns r.block = true →
      (let held := s.guard.asserted.contains (r.block, r.unit)
       let alone := s.guard.reaction = none ∧ s.guard.safe = false ∧ s.lowPower = false
       (∀ cause, r.pair = .asserted cause true → cause < 256 →
         (let code := 256 * r.block + cause
          let own := ownCodes.contains code = true ∨ (dramDataCodes.contains code = true ∧ s.mem.iecc = false) ∨
            (code = 0x0805 ∧ s.letsThrough r.unit r.addr = true)
          ((own ∨ held = true) → exec (.faultReport ⟨r, []⟩) s = .next s.settle) ∧
          (¬ own → held = false →
            (let marked (t : State) : Prop := bitAt (t.fstat r.block) (cause - 1) = true ∧
               t.guard.asserted = s.guard.asserted ++ [(r.block, r.unit)]
             let carried (t : State) : Option (Nat × FClass) := t.guard.reaction.map (fun x => (x.first, x.acting))
             ((faultClass code = some .i ∨ s.guard.safe = true) → Gives (.faultReport ⟨r, []⟩) s (fun t => marked t ∧
               t.guard.reaction = s.guard.reaction ∧ t.guard.fenced = s.guard.fenced ∧ t.guard.safe = s.guard.safe ∧
               t.guard.restarting = s.guard.restarting ∧ t.power.mode = s.power.mode)) ∧
             (faultClass code = some .c → alone → s.namedChans code r.unit r.channels ≠ [] →
               Gives (.faultReport ⟨r, []⟩) s (fun t => marked t ∧ carried t = some (code, .c) ∧ t.guard.firstCode = code ∧
                 t.guard.safe = false ∧ t.guard.fenced = s.guard.fenced)) ∧
             (∀ k u, faultClass code = some .e → alone → reportUnit r code = some (k, u) → s.isFenced k u = false →
               ((k = .core → 2 < s.healthyOf .core) → Gives (.faultReport ⟨r, []⟩) s (fun t =>
                 marked t ∧ t.isFenced k u = true ∧ carried t = some (code, .e) ∧ t.guard.safe = false)) ∧
               (k = .core → s.healthyOf .core ≤ 2 → Gives (.faultReport ⟨r, []⟩) s (fun t =>
                 marked t ∧ t.guard.safe = true ∧ t.power.mode = .safe ∧ bitAt (t.fstat 15) 5 = true))) ∧
             (faultClass code = some .m →
               (alone → s.overLimit = false → Gives (.faultReport ⟨r, []⟩) s (fun t => marked t ∧
                 t.guard.restarting = true ∧ t.guard.safe = false ∧ t.tick.stopped = s.tick.stopped ∧
                 carried t = some (code, .m))) ∧
               (alone → s.overLimit = true → Gives (.faultReport ⟨r, []⟩) s (fun t => marked t ∧
                 t.guard.safe = true ∧ t.power.mode = .safe ∧ bitAt (t.fstat 17) 4 = true)) ∧
               (s.guard.safe = false → s.lowPower = true → Gives (.faultReport ⟨r, []⟩) s (fun t => marked t ∧
                 t.guard.reaction = s.guard.reaction ∧ t.guard.restarting = s.guard.restarting ∧
                 t.guard.waiting.map (·.1) = s.guard.waiting.map (·.1) ++ [code])) ∧
               (∀ x, s.guard.reaction = some x → (x.acting = .c ∨ x.acting = .e) → s.guard.safe = false →
                 s.lowPower = false → s.overLimit = false → Gives (.faultReport ⟨r, []⟩) s (fun t => marked t ∧
                   t.guard.restarting = true ∧ carried t = some (x.first, .m) ∧
                   t.rd GRD_MERGE_COUNT = bump32 (s.rd GRD_MERGE_COUNT)))) ∧
             (faultClass code = some .s → s.guard.safe = false → Gives (.faultReport ⟨r, []⟩) s (fun t =>
               marked t ∧ t.guard.safe = true ∧ t.power.mode = .safe ∧ t.tick.stopped = true ∧
               t.fio.safeLevels = true)))))) ∧
       (r.pair = .equalOnce → Gives (.faultReport ⟨r, []⟩) s (fun t =>
         t.rd GRD_GLITCH_COUNT = bump32 (s.rd GRD_GLITCH_COUNT) ∧ OnlyIn [.regs] s t)) ∧
       (r.pair = .idle → Gives (.faultReport ⟨r, []⟩) s (fun t =>
         t.guard.asserted.contains (r.block, r.unit) = false ∧ t.guard.status = s.guard.status ∧
         (r.block ≠ 6 → t.guard.live = s.guard.live) ∧ OnlyIn [.guard] s t)) ∧
       ((r.pair = .equalTwice ∨ ∃ cause, r.pair = .asserted cause false) →
         (held = true → exec (.faultReport ⟨r, []⟩) s = .next s.settle) ∧
         (held = false → alone → s.overLimit = false →
           (∀ k u, reportUnit r 0x1102 = some (k, u) → k ≠ .core → s.isFenced k u = false →
             Gives (.faultReport ⟨r, []⟩) s (fun t => bitAt (t.fstat 17) 1 = true ∧ t.isFenced k u = true ∧
               t.guard.asserted = s.guard.asserted ++ [(r.block, r.unit)])) ∧
           (reportUnit r 0x1102 = none → Gives (.faultReport ⟨r, []⟩) s (fun t =>
             bitAt (t.fstat 17) 1 = true ∧ t.guard.restarting = true ∧
             t.guard.asserted = s.guard.asserted ++ [(r.block, r.unit)]))))))

/-- R37, R395, R401, R404, R582: the end of a Class M restart is counted as a reaction, lets admission resume at the next edge
and is shown in the next status block, with the free stores filled from the cell map and the DRAM trained; one that takes
longer than 250 ms ends in SAFE; a fenced unit that passes its retest returns at the next edge, and one that fails stays
fenced and is reported. Without a restart, and for a unit that is not fenced or waits to return, nothing changes. -/
def Obligations.GuardRecovers : Prop :=
  ∀ s : State,
    (s.guard.restarting = false → exec .dataPathRestartEnd s = .next s.settle ∧
      exec .reactionTimeout s = .next s.settle) ∧
    (∀ x, s.guard.restarting = true → s.guard.reaction = some x → x.acting.num ≤ 4 → Gives .dataPathRestartEnd s (fun t =>
      t.guard.restarting = false ∧ t.guard.resumeAtEdge = true ∧ t.guard.reaction = none ∧ t.hif.dpRestart = true ∧
      t.rd GRD_REACT_COUNT x.acting.num = bump32 (s.rd GRD_REACT_COUNT x.acting.num) ∧ t.mem.trained = 3 ∧
      t.mem.selfRefresh = false ∧ t.bpm.broken = [] ∧ t.bpm.cells = s.bpm.cells ∧
      (∀ c, c < 8 → t.combFree c = s.combFreeMap c) ∧
      OnlyIn [.regs, .hif, .mem, .bpm, .guard, .clk, .fresh] s t)) ∧
    (∀ x, s.guard.restarting = true → s.guard.reaction = some x → s.guard.safe = false → Gives .reactionTimeout s (fun t =>
      t.guard.safe = true ∧ t.guard.restarting = false ∧ t.power.mode = .safe ∧ bitAt (t.fstat 17) 3 = true ∧
      1000 * (x.startNs + 250000000) ≤ t.clock.ps)) ∧
    (∀ k u passed digestOk readBackOk, u < unitCount k →
      (let able := s.isFenced k u = true ∧ s.guard.returning.contains (k, u) = false ∧ s.guard.safe = false ∧
         s.guard.restarting = false ∧ s.asleep = false ∧ s.sys.bootStage = 7
       let good := passed = true ∧ (k = .syn → digestOk = true ∧ readBackOk = true)
       (¬ able → exec (.unitRetest k u passed digestOk readBackOk) s = .next s.settle) ∧
       (able → good → Gives (.unitRetest k u passed digestOk readBackOk) s (fun t =>
         t.guard.returning = s.guard.returning ++ [(k, u)] ∧ t.isFenced k u = true ∧ OnlyIn [.guard] s t)) ∧
       (able → ¬ good → Gives (.unitRetest k u passed digestOk readBackOk) s (fun t =>
         t.isFenced k u = true ∧ t.guard.returning = s.guard.returning ∧
         bitAt (t.fstat (retestCode k / 256)) (retestCode k % 256 - 1) = true ∧ t.causeLive (retestCode k) = true ∧
         OnlyIn [.regs, .hif, .log, .guard] s t))))

/-! Reset, start and supply. -/

/-- What reset leaves: nothing waits, every register reads its reset value, Keeper time and the tick stand at 0 with a period
of 20 ms, no channel, partner or job exists, the memories are empty, the pads follow, and the forms that every step keeps hold
(R13, R15, R49; the values that the spec does not give are the model's, notes/assumptions/5.md). -/
def Obligations.StateAfterPowerOnReset : Prop :=
  State.reset.pending = [] ∧ (∀ d i j, State.reset.rd d i j = d.resetAt i j % 2 ^ 32) ∧
  (∀ n, State.reset.sqOn n = false ∧ State.reset.cqOn n = false) ∧ State.reset.ktime = 0 ∧ State.reset.tick.number = 0 ∧
  State.reset.period = 20000000 ∧ State.reset.isActive = false ∧ State.reset.sys.bootStage = 0 ∧
  (∀ n, State.reset.chanExists n = false) ∧ (∀ p, State.reset.isPresent p = false) ∧
  (∀ id, State.reset.job? id = none) ∧ (∀ b, State.reset.fstat b = 0) ∧ State.reset.guard.safe = false ∧
  (∀ a, tget 0 State.reset.mem.sram a = 0) ∧ Memory.wf State.reset.mem = true ∧ Bpm.wf State.reset.bpm = true ∧
  State.reset.Settled

/-- R450, R454, R455, R458, R460, R508, R513, R515: the starts. A power-on reset runs the power sequence, which a rail that
misses its window fails and which is retried a second later, and boots the preferred slot when its image is good; the
pad holds the module in reset until it is released; stage 7 is CONFIG with the tick running. The watchdog marks its
slot BAD. Below the stop threshold only what the Keeper holds stays, and without its supply nothing but MRAM and fuses. A
start that has ended, a module that is off already and a pad that is not low leave the commands that end them without
effect. -/
def Obligations.StartsAndLossOfSupply : Prop :=
  ∀ (s : State) (env : BootEnv),
    exec (.powerOnReset env) s = .next ((s.resetTo 0).coldStart env).settle ∧
    (env.phaseFail = [] → env.railFail ≠ 0 → Gives (.powerOnReset env) s (fun t =>
      t.pwr.seqFailed = true ∧ t.pwr.seqStep = env.railFail ∧ t.pwr.pwrGood = false ∧ t.power.mode = .off ∧
      t.clock.ps = 0 ∧ t.sys.resetCause = 0)) ∧
    (env.phaseFail = [] → env.railFail = 0 → env.fuseOk = true → env.trainOk = true → s.sys.wipePending = none →
      (s.slot s.sys.preferred).state = 1 → imageErr (s.slotByte s.sys.preferred) slotSize s.sys.fwEpochFuse = 0 →
      Gives (.powerOnReset env) s (fun t => t.sys.bootStage = 6 ∧ t.sys.bootSlot = s.sys.preferred ∧
        t.sys.fwVersion = (s.slot s.sys.preferred).version ∧ t.sys.resetCause = 0 ∧ t.sys.cfg = .config)) ∧
    (s.pwr.seqFailed = false → exec (.powerSequenceRetry env) s = .next s.settle) ∧
    (s.pwr.seqFailed = true → exec (.powerSequenceRetry env) s =
      .next ((s.advanceTo (1000 * (s.pwr.seqNs + 10 ^ 9))).coldStart env).settle) ∧
    ((s.power.mode = .off ∨ s.power.mode = .deepStandby ∨ s.pwr.pwrGood = false) →
      exec .padReset s = .next s.settle) ∧
    (s.power.mode ≠ .off → s.power.mode ≠ .deepStandby → s.pwr.pwrGood = true → Gives .padReset s (fun t =>
      t.sys.resetLow = true ∧ t.sys.resetCause = 1 ∧ t.sys.bootStage = 0 ∧ t.log = s.log ∧ t.pwr.spare = s.pwr.spare ∧
      t.clock.ps = s.clock.ps)) ∧
    (s.sys.resetLow = false → exec (.resetRelease env) s = .next s.settle) ∧
    (s.sys.resetLow = true → exec (.resetRelease env) s =
      .next ((({ s with sys := { s.sys with resetLow := false } }).boot false env)).settle) ∧
    (s.booting = false → exec .bootComplete s = .next s.settle ∧ exec (.bootWatchdog env) s = .next s.settle) ∧
    (s.booting = true → 3 ≤ s.phasesLeft →
      (let running (t : State) : Prop := t.sys.bootStage = 7 ∧ t.sys.cfg = .config ∧ t.power.mode = .run ∧
         t.power.trans = .none ∧ t.tick.stopped = false ∧ t.tick.edgePs = s.clock.ps ∧
         t.tick.nextPs = s.clock.ps + 1000 * s.tick.periodNs ∧ t.mem.trained = 3 ∧ t.clk.standby = true
       (s.sys.bootStage = 6 → Gives .bootComplete s running) ∧
       (∀ k, s.sys.bootStage ≠ 6 → s.goodSlot = some k → s.sys.wipePending = none → Gives .bootComplete s (fun t =>
         running t ∧ t.sys.bootSlot = k ∧ t.sys.fwVersion = (s.slot k).version)))) ∧
    (s.booting = true → s.sys.bootStage = 6 → s.phasesLeft < 3 → Gives .bootComplete s (fun t =>
      t.sys.bootStage = 7 ∧ t.guard.safe = true ∧ bitAt (t.fstat 19) 3 = true)) ∧
    (s.booting = true → (let k := if s.sys.bootStage < 2 then s.sys.preferred else s.sys.bootSlot
      ∃ u : State, exec (.bootWatchdog env) s = .next (u.boot false env).settle ∧ (u.slot k).state = 3 ∧
        u.sys.preferred = 1 - k ∧ u.sys.resetCause = 4 ∧ u.sys.slotFaultDue = true)) ∧
    (s.power.mode = .off → s.pwr.seqFailed = false → exec .vinBelowStop s = .next s.settle) ∧
    ((s.power.mode ≠ .off ∨ s.pwr.seqFailed = true) → Gives .vinBelowStop s (fun t =>
      t.power.mode = .off ∧ t.pwr.pwrGood = false ∧ t.bus.endpointOff = true ∧ t.tick.stopped = true ∧ t.log = s.log ∧
      t.clock.ps = s.clock.ps ∧ t.mem.mram = s.mem.mram ∧ t.mem.sram = [] ∧ t.mem.dram = [] ∧ t.chans = [] ∧
      (∀ d i, d.at i / 65536 = 12 → t.rd d i = s.rd d i))) ∧
    Gives .keeperSupplyLoss s (fun t => t.pwr.keeperOn = false ∧ t.power.mode = .off ∧ t.log = .reset ∧
      t.clock.ps = 0 ∧ t.mem.mram = s.mem.mram ∧ t.sys.lifeState = s.sys.lifeState ∧ t.sys.slotA = s.sys.slotA ∧
      t.sys.slotB = s.sys.slotB ∧ ∀ d i, t.rd d i = d.resetAt i 0 % 2 ^ 32)

/-- R506, R509, R510, R512, R516, R517: the input stage and the rails. A surge of 100 ms in a second at most is clamped and
counted, a longer one opens the input; the brown-out warning is raised once and ends 300 mV above its threshold; one corrupt
copy of the controller's settings is repaired; a rail or bus that fails is Class S; an auxiliary output that is overloaded is
off until a retry holds. To a supply that is off, to an open input and to an output that is not on nothing happens. -/
def Obligations.SupplyRailsAct : Prop :=
  ∀ s : State,
    (∀ ms, (s.power.mode = .off ∨ s.pwr.inputOpen = true) → exec (.surgeClamp ms) s = .next s.settle) ∧
    (∀ ms, s.power.mode ≠ .off → s.pwr.inputOpen = false → s.pwr.clamps = [] → s.clock.ps < 2 ^ 73 → ms < 10 ^ 6 →
      (ms ≤ 100 → Gives (.surgeClamp ms) s (fun t => t.rd PWR_CLAMP_COUNT = bump32 (s.rd PWR_CLAMP_COUNT) ∧
        t.pwr.inputOpen = false ∧ s.clock.ps + ms * 10 ^ 9 ≤ t.clock.ps ∧ OnlyIn [.regs, .clock, .pwr] s t)) ∧
      (100 < ms → Gives (.surgeClamp ms) s (fun t => t.pwr.inputOpen = true ∧ t.power.mode = .off))) ∧
    (∀ env, exec (.surgeRecovery env) s = .next (if s.pwr.inputOpen then (s.resetTo 0).coldStart env else s).settle) ∧
    (s.powered = false → ∀ mv n held, exec .brownoutWarning s = .next s.settle ∧
      exec (.brownoutEnd mv) s = .next s.settle ∧ exec (.vbus5OutOfWindow n held) s = .next s.settle ∧
      exec (.railOutOfWindow n held) s = .next s.settle) ∧
    (s.powered = true →
      (s.causeLive 0x1306 = true → exec .brownoutWarning s = .next s.settle) ∧
      (s.causeLive 0x1306 = false → Gives .brownoutWarning s (fun t =>
        t.causeLive 0x1306 = true ∧ bitAt (t.fstat 19) 5 = true ∧ t.pwr.vinMv < s.boWarn ∧
        OnlyIn [.regs, .hif, .log, .guard, .pwr, .fresh] s t)) ∧
      (∀ mv, Gives (.brownoutEnd mv) s (fun t => t.pwr = { s.pwr with vinMv := mv } ∧
        (s.boWarn + 300 ≤ mv → t.guard.live.contains (0x1306, 0xFF) = false) ∧
        (mv < s.boWarn + 300 → t.guard = s.guard) ∧ OnlyIn [.guard, .pwr] s t)) ∧
      (∀ held, Gives (.vbus5OutOfWindow 1 held) s (fun t =>
        t.pwr = { s.pwr with badCopy := true } ∧ OnlyIn [.pwr] s t)) ∧
      (∀ n, n ≠ 1 → exec (.vbus5OutOfWindow n true) s = .next (s.raise 0x1305 { source := 0xFF }).settle ∧
        exec (.vbus5OutOfWindow n false) s = .next ((s.raise 0x1305 { source := 0xFF }).railsFall).settle) ∧
      (∀ rail, 1 ≤ rail → rail ≤ 5 → ∃ u : State,
        exec (.railOutOfWindow rail true) s = .next (u.raise 0x1309 { source := 0xFF }).settle ∧
        exec (.railOutOfWindow rail false) s = .next ((u.raise 0x1309 { source := 0xFF }).railsFall).settle ∧
        bitAt u.pwr.railOk rail = false ∧ u.pwr.lowGood = (s.pwr.lowGood || rail == 1 || rail == 4) ∧
        OnlyIn [.pwr] s u)) ∧
    (∀ n, n < 2 →
      (s.auxOn n = false → exec (.auxOverload n) s = .next s.settle) ∧
      (s.auxOn n = true → Gives (.auxOverload n) s (fun t => t.auxOn n = false ∧
        t.rd PWR_AUX_OVL_COUNT = bump32 (s.rd PWR_AUX_OVL_COUNT) ∧ t.causeLive 0x130A = true ∧
        bitAt (t.fstat 19) 9 = true ∧ OnlyIn [.regs, .hif, .log, .guard, .pwr] s t)) ∧
      (s.pwr.auxOvl.contains n = true → Gives (.auxRetry n true) s (fun t =>
        t.pwr = { s.pwr with auxOvl := ldel s.pwr.auxOvl n } ∧ t.guard.live.contains (0x130A, n) = false ∧
        OnlyIn [.guard, .pwr] s t)) ∧
      (s.pwr.auxOvl.contains n = false → exec (.auxRetry n true) s = .next s.settle) ∧
      exec (.auxRetry n false) s = .next s.settle)

/-- R518 to R526, R529 to R533: the core regulator, its temperature and its meter. A phase that fails its check is shed,
counted and reported, and the spare takes its place; readings within 700 mA of both references pass, and the third more than
1750 mA off both sheds. With three phases the cap is 18 A, with two the module stops. The current cap throttles; a hot
reading lowers the ceiling by one point, to 3 at the lowest, and one too hot for 1 ms stops the module; each meter interval
adds to the energy counters and keeps the remainder below a microjoule. With the core rail down nothing of this acts. -/
def Obligations.CoreRegulatorActs : Prop :=
  ∀ s : State,
    (s.coreRail = false → ∀ ps rs ok op a b (tj treg : Int) m,
      exec (.phaseOpenDetect ps) s = .next s.settle ∧ exec (.phaseSenseCheck rs ok) s = .next s.settle ∧
      exec (.spareCheck ok op) s = .next s.settle ∧ exec (.phasePark a b) s = .next s.settle ∧
      exec .phaseUnpark s = .next s.settle ∧ exec .currentCapExceeded s = .next s.settle ∧
      exec (.thermalReading tj treg) s = .next s.settle ∧ exec (.meterInterval m) s = .next s.settle) ∧
    Gives .throttleEnd s (fun t => t.pwr = { s.pwr with throttle := false } ∧ OnlyIn [.pwr] s t) ∧
    (s.coreRail = true →
      (∀ p x, p < 5 → s.pwr.phases[p]? = some x →
        (let lost (code st : Nat) (t : State) : Prop := (t.phase p).state = st ∧
           (s.pwr.spare < 5 → s.pwr.spare ≠ p → (t.phase s.pwr.spare).state = 0) ∧ t.pwr.spare = 7 ∧ t.pwr.op = s.pwr.op ∧
           t.rd PWR_SHED_COUNT = bump32 (s.rd PWR_SHED_COUNT) ∧ t.guard.live.contains (code, p) = true ∧
           bitAt (t.fstat 19) (code % 256 - 1) = true ∧ OnlyIn [.regs, .hif, .log, .guard, .pwr] s t
         let inTurn := s.ticks = true ∧ s.power.mode = .run ∧ s.tick.window = .guard
         (x.state ≠ 0 → exec (.phaseOpenDetect [p]) s = .next s.settle) ∧
         (s.phasesLeft = 5 → x.state = 0 → Gives (.phaseOpenDetect [p]) s (lost 0x1301 3)) ∧
         (s.phasesLeft = 4 → x.state = 0 → Gives (.phaseOpenDetect [p]) s (fun t => (t.phase p).state = 3 ∧
           t.pwr.capA = 18 ∧ t.pwr.phaseCeil = true ∧ t.causeLive 0x1303 = true ∧ bitAt (t.fstat 19) 2 = true)) ∧
         (s.phasesLeft = 3 → x.state = 0 → s.guard.safe = false → s.causeLive 0x1304 = false →
           Gives (.phaseOpenDetect [p]) s (fun t => t.guard.safe = true ∧ t.power.mode = .safe ∧
             bitAt (t.fstat 19) 3 = true)) ∧
         ((¬ inTurn ∨ s.pwr.spare = 7) → ∀ o, exec (.spareCheck false o) s = .next s.settle) ∧
         (s.phasesLeft = 5 → s.pwr.spare = p → x.isShed = false → inTurn →
           Gives (.spareCheck false true) s (lost 0x1301 3) ∧ Gives (.spareCheck false false) s (lost 0x1302 4)) ∧
         (∀ r : PhaseSense, r.phase = p → x.state = 0 → r.atRail = false → s.pwr.senseLost = false → x.distrust = false →
           s.pwr.phases.any (·.distrust) = false →
           (Machine.dist r.sense r.model ≤ 700 → Machine.dist r.sense r.share ≤ 700 →
             Gives (.phaseSenseCheck [r] true) s (fun t =>
               t.phase p = { x with ma := r.sense, fails := 0, passes := x.passes + 1 } ∧ OnlyIn [.pwr] s t)) ∧
           (1750 < Machine.dist r.sense r.model → 1750 < Machine.dist r.sense r.share → x.fails = 2 → s.phasesLeft = 5 →
             Gives (.phaseSenseCheck [r] true) s (lost 0x1302 4))))) ∧
      (∀ o, exec (.spareCheck true o) s = .next s.settle) ∧
      (∀ a b x y, a < 5 → b < 5 → a ≠ b → s.pwr.phases[a]? = some x → s.pwr.phases[b]? = some y →
        ((x.state ≠ 0 ∨ y.state ≠ 0 ∨ s.pwr.settled = false) → exec (.phasePark a b) s = .next s.settle) ∧
        (x.state = 0 → y.state = 0 → s.pwr.settled = true → Gives (.phasePark a b) s (fun t =>
          (t.phase a).state = 2 ∧ (t.phase b).state = 2 ∧ (∀ k, k ≠ a → k ≠ b → t.phase k = s.phase k) ∧
          OnlyIn [.pwr] s t))) ∧
      Gives .phaseUnpark s (fun t => (∀ x ∈ t.pwr.phases, x.state ≠ 2) ∧ t.pwr.phases.length = s.pwr.phases.length ∧
        OnlyIn [.pwr] s t) ∧
      ((s.pwr.throttle = true ∨ s.guard.safe = true) → exec .currentCapExceeded s = .next s.settle) ∧
      (s.pwr.throttle = false → s.guard.safe = false → Gives .currentCapExceeded s (fun t => t.pwr.throttle = true ∧
        t.rd PWR_THROTTLE_COUNT = bump32 (s.rd PWR_THROTTLE_COUNT) ∧ OnlyIn [.regs, .pwr] s t)) ∧
      (∀ tj treg : Int, s.guard.safe = false →
        (tj < 125 → treg < 130 → s.warnC ≤ max tj treg → s.pwr.fallNs = none → Gives (.thermalReading tj treg) s (fun t =>
          t.pwr.tj = tj ∧ t.pwr.treg = treg ∧ t.pwr.thermCeil = max 3 (s.pwr.thermCeil - 1) ∧ t.pwr.riseNs = none ∧
          t.causeLive 0x1307 = true ∧ 1000 * (s.pwr.readNs + 10 ^ 6) ≤ t.clock.ps ∧
          OnlyIn [.regs, .clock, .hif, .log, .guard, .pwr] s t)) ∧
        (tj < 125 → treg < 130 → s.warnC - 10 < max tj treg → max tj treg < s.warnC →
          Gives (.thermalReading tj treg) s (fun t =>
            t.pwr.tj = tj ∧ t.pwr.treg = treg ∧ t.pwr.thermCeil = s.pwr.thermCeil ∧ t.pwr.fallNs = none ∧
            t.pwr.riseNs = none ∧ t.guard = s.guard ∧ OnlyIn [.clock, .pwr] s t)) ∧
        (∀ t0, (125 ≤ tj ∨ 130 ≤ treg) → s.pwr.hotNs = some t0 → t0 ≤ s.pwr.readNs → s.pwr.readNs < 2 ^ 62 →
          s.clock.ps < 2 ^ 73 → s.causeLive 0x1308 = false → Gives (.thermalReading tj treg) s (fun t =>
            t.guard.safe = true ∧ t.power.mode = .safe ∧ bitAt (t.fstat 19) 7 = true))) ∧
      (∀ m : MeterSample, s.asleep = true → exec (.meterInterval m) s = .next s.settle) ∧
      (∀ m : MeterSample, s.asleep = false → (∀ p ∈ m.cmpNj, p.1 < 3) → Gives (.meterInterval m) s (fun t =>
        t.pwr.vinMv = m.vinMv ∧ t.pwr.iinMa = m.iinMa ∧ t.pwr.inNj = (s.pwr.inNj + m.inputNj) % 1000 ∧
        t.cnt64 PWR_ENERGY_IN_UJ = Machine.bump64 (s.cnt64 PWR_ENERGY_IN_UJ) ((s.pwr.inNj + m.inputNj) / 1000) ∧
        t.cnt64 PWR_ENERGY_CORE_UJ = Machine.bump64 (s.cnt64 PWR_ENERGY_CORE_UJ) ((s.pwr.coreNj + m.coreNj) / 1000) ∧
        t.cnt64 PWR_ENERGY_MEM_UJ = Machine.bump64 (s.cnt64 PWR_ENERGY_MEM_UJ) ((s.pwr.memNj + m.memNj) / 1000) ∧
        OnlyIn [.regs, .hif, .pwr] s t)))

/-! Clocks. -/

/-- R14, R479, R480, R482, R483, R486, R487, R491 to R494, R410: a synthesiser that tunes locks by the method that applies and
notes its time and band; one that does not is lost; a core PLL that unlocks hands over to a ready standby and retunes, and
without one the module stops; losing the reference stops it too. The 32.768 kHz oscillator's failure is reported and wakes
from RETAIN, and its return ends the cause. Whatever the modulator's accumulators hold, the divisor of a cycle lies between
N − 3 and N + 4, and they stay in their ranges. What a synthesiser or the oscillator is not ready for changes nothing. -/
def Obligations.ClocksLockAndFail : Prop :=
  (∀ s : State,
    ((s.coreRail = false ∨ s.causeLive 0x1407 = true) → exec .referenceFailure s = .next s.settle) ∧
    (s.coreRail = true → s.causeLive 0x1407 = false → s.guard.safe = false → Gives .referenceFailure s (fun t =>
      t.guard.safe = true ∧ t.power.mode = .safe ∧ t.clock.refFailed = true ∧ t.clk.backup = true ∧
      (∀ i, i < 6 → t.locked i = false) ∧ bitAt (t.fstat 20) 6 = true)) ∧
    (∀ i x y, i < 2 → s.clk.synths[i]? = some x → s.clk.synths[1 - i]? = some y →
      (∀ pulse : Bool, (s.coreRail = false ∨ x.state ≠ 4) → exec (.cpllUnlock i pulse) s = .next s.settle) ∧
      (∀ pulse : Bool, s.coreRail = true → x.state = 4 → i = s.clk.active →
        (s.clk.standby = true → y.state = 4 → Gives (.cpllUnlock i pulse) s (fun t =>
          t.clk.active = 1 - i ∧ t.clk.standby = false ∧ (t.synth i).state = 5 ∧
          t.rd CLK_CPLL_SWITCH_COUNT = bump32 (s.rd CLK_CPLL_SWITCH_COUNT) ∧
          t.rd CLK_UNLOCK_COUNT i = bump32 (s.rd CLK_UNLOCK_COUNT i) ∧
          t.rd CLK_PULSE_SUPPRESS_COUNT = (if pulse then bump32 (s.rd CLK_PULSE_SUPPRESS_COUNT)
                                           else s.rd CLK_PULSE_SUPPRESS_COUNT) ∧
          t.guard.live.contains (0x1401, i) = true ∧ OnlyIn [.regs, .hif, .log, .guard, .clk] s t)) ∧
        (s.clk.standby = false → s.guard.safe = false → Gives (.cpllUnlock i pulse) s (fun t =>
          t.guard.safe = true ∧ t.power.mode = .safe ∧ bitAt (t.fstat 20) 1 = true ∧ (t.synth i).state = 5))) ∧
      (∀ pulse : Bool, s.coreRail = true → x.state = 4 → i ≠ s.clk.active → y.state = 4 →
        Gives (.cpllUnlock i pulse) s (fun t =>
          t.clk.active = s.clk.active ∧ t.clk.standby = false ∧ t.guard.live.contains (0x1401, i) = true ∧
          OnlyIn [.regs, .hif, .log, .guard, .clk] s t)) ∧
      ((s.coreRail = false ∨ x.state ≠ 5 ∨ s.clock.refFailed = true) → exec (.cpllRetune i) s = .next s.settle) ∧
      (s.coreRail = true → x.state = 5 → s.clock.refFailed = false → Gives (.cpllRetune i) s (fun t =>
        (t.synth i).tuning = true ∧ (t.synth i).n = 240 ∧ (t.synth i).k = 0 ∧ (t.synth i).p = twoQ s.pwr.op ∧
        OnlyIn [.clk] s t)) ∧
      ((x.state ≠ 4 ∨ i = s.clk.active) → exec (.cpllStandbyReady i) s = .next s.settle) ∧
      (x.state = 4 → i ≠ s.clk.active → Gives (.cpllStandbyReady i) s (fun t =>
        t.clk = { s.clk with standby := true } ∧ OnlyIn [.clk] s t))) ∧
    (∀ i x m band us, i < 6 → s.clk.synths[i]? = some x →
      ((x.tuning = false ∨ s.clock.refFailed = true) → exec (.synthLock i m band us) s = .next s.settle ∧
        exec (.synthLockTimeout i) s = .next s.settle) ∧
      (x.tuning = true → s.clock.refFailed = false →
        Gives (.synthLock i m band us) s (fun t =>
          (let y := t.synth i
           y.state = 4 ∧ y.us = min us 200 ∧ y.n = x.n ∧ y.k = x.k ∧
           (x.state = 1 → y.hops.length = x.hops.length ∧ ∀ h ∈ x.hops, h ∈ y.hops) ∧
           (x.state = 2 → y.hops = pushHop x.hops (x.n, y.band, x.p) ∧ y.band ≤ s.tableBand i x.n x.k + 4 ∧
             s.tableBand i x.n x.k ≤ y.band + 4) ∧
           (x.state = 3 → y.hops = pushHop x.hops (x.n, y.band, x.p) ∧ y.band = band % 64)) ∧
          (i < 2 → t.guard.live.contains (0x1401, i) = false) ∧ OnlyIn [.guard, .clk] s t) ∧
        (2 ≤ i → ∃ u : State,
          exec (.synthLockTimeout i) s = .next (u.raise (if i = 5 then 0x1404 else 0x1403) { source := i }).settle ∧
          (u.synth i).state = 5 ∧ (u.synth i).us = 200 ∧
          u.rd CLK_UNLOCK_COUNT i = bump32 (s.rd CLK_UNLOCK_COUNT i) ∧
          (if i = 5 then u.mem.selfRefresh = true ∧ OnlyIn [.regs, .mem, .clk] s u else OnlyIn [.regs, .clk] s u)))) ∧
    ((s.pwr.keeperOn = false ∨ s.clock.oscFailed = true) → exec .keeperOscillatorFailure s = .next s.settle) ∧
    (s.pwr.keeperOn = true → s.clock.oscFailed = false → s.power.trans = .none →
      (s.power.mode = .run → Gives .keeperOscillatorFailure s (fun t => t.clock.oscFailed = true ∧
        (s.clock.refFailed = false → t.clock.ps = s.clock.ps) ∧ t.causeLive 0x1203 = true ∧
        bitAt (t.fstat 18) 2 = true ∧ OnlyIn [.regs, .clock, .hif, .log, .guard] s t)) ∧
      (s.power.mode = .retain → s.power.armed = true → s.power.latched = [] →
        Gives .keeperOscillatorFailure s (fun t => t.clock.oscFailed = true ∧
          s.clock.ps + 4 * 30517578 ≤ t.clock.ps ∧ t.causeLive 0x1203 = true ∧ t.power.trans = .exiting .retain ∧
          t.power.latched.map (fun w => (w.source, w.ns)) = [(8, s.ktime)] ∧
          OnlyIn [.regs, .clock, .hif, .log, .guard, .power] s t))) ∧
    Gives .keeperOscillatorRestored s (fun t => t.clock = { s.clock with oscFailed := false } ∧
      t.guard.live.contains (0x1203, 0xFF) = false ∧ OnlyIn [.clock, .guard] s t)) ∧
  (∀ (m : Modulator) (k : Nat) (dither : Bool), k < 2 ^ 24 →
    m.acc1 < 2 ^ 24 → m.acc2 < 2 ^ 24 → m.acc3 < 2 ^ 24 → m.c2 ≤ 1 → m.c3 ≤ 1 → m.c3' ≤ 1 →
    -3 ≤ m.divisor k dither ∧ m.divisor k dither ≤ 4 ∧
    (let n := m.cycle k dither
     n.acc1 < 2 ^ 24 ∧ n.acc2 < 2 ^ 24 ∧ n.acc3 < 2 ^ 24 ∧ n.c2 ≤ 1 ∧ n.c3 ≤ 1 ∧ n.c3' ≤ 1))

/-! Field I/O. -/

/-- R538, R541, R545 to R548, R551, R552: pulses start at their offset and end after their width; what is diagnosed on an output
is shown and reported, a short switching the output off until a retry finds it gone; without VFIELD every output is off; an
input's edge is stamped and counted once its filter time has passed. What does not apply to the output or the input as it
stands changes nothing. -/
def Obligations.FieldIoPulsesAndStamps : Prop :=
  ∀ (s : State) (n : Nat) (x : Fout), n < 4 → s.fio.outs[n]? = some x →
    (let starts := x.set.mode = 3 ∧ s.fio.stopped = false ∧ s.fio.safeLevels = false ∧ s.tick.stopped = false ∧
       (s.tick.number.toNat - x.since) % atLeast1 x.set.div = 0 ∧ x.lastPulse ≠ some s.tick.number.toNat
     (¬ starts → exec (.fieldPulseStart n) s = .next s.settle) ∧
     (starts → Gives (.fieldPulseStart n) s (fun t => (t.fout n).pulsing = !s.foutLocked n ∧
       (t.fout n).lastPulse = some s.tick.number.toNat ∧ (t.fout n).set = x.set ∧
       s.tick.edgePs + 1000000 * x.set.offset ≤ t.clock.ps ∧ OnlyIn [.clock, .guard, .fio] s t))) ∧
    (x.pulsing = false → exec (.fieldPulseEnd n) s = .next s.settle) ∧
    (x.pulsing = true → Gives (.fieldPulseEnd n) s (fun t => (t.fout n).pulsing = false ∧
      s.tick.edgePs + 1000000 * (x.set.offset + x.set.width) ≤ t.clock.ps ∧ OnlyIn [.clock, .guard, .fio] s t)) ∧
    (∀ on : Bool,
     (let seen := s.fio.present = true ∧ s.foutPowered = true ∧ x.ol = false ∧ s.foutOn n = on ∧
        s.flag FIO_OUT_CFG (if on then 2 else 3) n = true
      (¬ seen → exec (.openLoadDetect n on) s = .next s.settle) ∧
      (seen → Gives (.openLoadDetect n on) s (fun t =>
        (t.fout n).ol = true ∧ t.guard.live.contains (0x1501, n) = true ∧ bitAt (t.fstat 21) 0 = true ∧
        OnlyIn [.regs, .hif, .log, .guard, .fio] s t)))) ∧
    (s.foutOn n = false → exec (.shortToGround n) s = .next s.settle) ∧
    (s.foutOn n = true → x.short = false → Gives (.shortToGround n) s (fun t => (t.fout n).short = true ∧
      t.foutOn n = false ∧ t.guard.live.contains (0x1502, n) = true ∧ bitAt (t.fstat 21) 1 = true ∧
      OnlyIn [.regs, .hif, .log, .guard, .fio] s t)) ∧
    (∀ still : Bool,
     (let tries := x.short = true ∧ s.foutCmd n = true ∧ s.fio.present = true ∧ s.foutPowered = true ∧
        s.foutLocked n = false
      (¬ tries → exec (.shortRetry n still) s = .next s.settle) ∧
      (tries → Gives (.shortRetry n still) s (fun t => (t.fout n).short = still ∧
        t.rd FIO_OUT_RETRY_COUNT n = bump32 (s.rd FIO_OUT_RETRY_COUNT n) ∧
        (still = false → t.guard.live.contains (0x1502, n) = false) ∧ OnlyIn [.regs, .guard, .fio] s t)))) ∧
    (let seen := s.fio.present = true ∧ s.foutPowered = true ∧ s.foutOn n = false ∧ x.ext = false
     (¬ seen → exec (.externalDrive n) s = .next s.settle) ∧
     (seen → (∀ a, a < 4 → a ≠ n → (s.fout a).onTick ≠ some s.tick.number.toNat) → Gives (.externalDrive n) s (fun t =>
       (t.fout n).ext = true ∧ t.guard.live.contains (0x1503, n) = true ∧ bitAt (t.fstat 21) 2 = true ∧
       t.rd FIO_CONFLICT_COUNT = s.rd FIO_CONFLICT_COUNT ∧ OnlyIn [.regs, .hif, .log, .guard, .fio] s t))) ∧
    (x.ol = false → exec (.fieldDiagnosisEnd n false) s = .next s.settle) ∧
    (x.ol = true → Gives (.fieldDiagnosisEnd n false) s (fun t => t.fout n = { x with ol := false } ∧
      t.guard.live.contains (0x1501, n) = false ∧ OnlyIn [.guard, .fio] s t)) ∧
    (x.ext = false → exec (.fieldDiagnosisEnd n true) s = .next s.settle) ∧
    (x.ext = true → Gives (.fieldDiagnosisEnd n true) s (fun t => (t.fout n).ext = false ∧
      t.guard.live.contains (0x1503, n) = false ∧ OnlyIn [.guard, .fio] s t)) ∧
    (s.fio.present = false → exec .vfieldLoss s = .next s.settle) ∧
    (s.fio.present = true → Gives .vfieldLoss s (fun t => t.fio.present = false ∧ t.foutOn n = false ∧
      (t.fout n).short = false ∧ (t.fout n).ol = false ∧ (t.fout n).ext = false ∧ t.causeLive 0x1505 = true ∧
      bitAt (t.fstat 21) 4 = true ∧ OnlyIn [.regs, .hif, .log, .guard, .fio, .fresh] s t)) ∧
    (∀ mv, (s.fio.present = true ∨ mv < 16000 ∨ 34000 < mv) → exec (.vfieldRestore mv) s = .next s.settle) ∧
    (∀ mv, s.fio.present = false → 16000 ≤ mv → mv ≤ 34000 → Gives (.vfieldRestore mv) s (fun t =>
      t.fio.present = true ∧ t.fio.vfieldMv = mv ∧ t.fio.outs = s.fio.outs ∧
      t.guard.live.contains (0x1505, 0xFF) = false ∧ OnlyIn [.guard, .fio] s t)) ∧
    (∀ (y : Fin') rising ns, s.fio.ins[n]? = some y →
      ((s.power.mode = .off ∨ s.pwr.keeperOn = false ∨ (s.asleep = false ∧ y.level = rising)) →
        exec (.fieldInputEdge n rising ns) s = .next s.settle) ∧
      (s.power.mode ≠ .off → s.pwr.keeperOn = true → s.asleep = false → y.level ≠ rising → s.tick.src ≠ 2 →
        (s.finWakes n rising = false ∨ s.power.armed = false) → Gives (.fieldInputEdge n rising ns) s (fun t =>
          t.fio.ins[n]? = some { level := rising, stamp := s.sampleNs ns - 3000 } ∧
          t.rd FIO_IN_EDGE_COUNT n = bump32 (s.rd FIO_IN_EDGE_COUNT n) ∧
          1000 * (s.sampleNs ns + 1000 * s.filterUs n) ≤ t.clock.ps ∧ OnlyIn [.regs, .clock, .mem, .sch, .fio] s t)))
end

