-- ==== Sys2Proof/Laws/Table.lean ====
section
/-! SUPPORT. The laws of sparse tables and lists: what a number holds after a write, for every table, and the canonical
form, which every write keeps. -/

namespace Sys2Proof.Machine

variable {α : Type}

theorem tget_tdel_same (d : α) (t : Table α) (i : Nat) : tget d (tdel t i) i = d := by
  induction t with
  | nil => rfl
  | cons p t ih =>
    obtain ⟨k, v⟩ := p
    by_cases h : k = i
    · subst h; simpa [tdel] using ih
    · have h' : ¬ i = k := fun e => h e.symm
      have : tdel ((k, v) :: t) i = (k, v) :: tdel t i := by simp [tdel, h]
      rw [this, tget, if_neg h']; exact ih

theorem tget_tdel_other (d : α) (t : Table α) {i j : Nat} (hij : j ≠ i) : tget d (tdel t i) j = tget d t j := by
  induction t with
  | nil => rfl
  | cons p t ih =>
    obtain ⟨k, v⟩ := p
    by_cases h : k = i
    · subst h
      have : tdel ((k, v) :: t) k = tdel t k := by simp [tdel]
      rw [this, tget, if_neg hij]; exact ih
    · have : tdel ((k, v) :: t) i = (k, v) :: tdel t i := by simp [tdel, h]
      rw [this, tget, tget, ih]

/-- A number holds what was written to it. -/
@[simp] theorem tget_tput_same [DecidableEq α] (d : α) (t : Table α) (i : Nat) (v : α) :
    tget d (tput d t i v) i = v := by
  induction t with
  | nil => by_cases h : v = d <;> simp [tput, tget, h]
  | cons p t ih =>
    obtain ⟨k, x⟩ := p
    unfold tput
    by_cases h1 : i < k
    · by_cases h : v = d
      · simp only [h1, h, if_true]; exact tget_tdel_same _ _ _
      · simp [h1, h, tget]
    · by_cases h2 : i = k
      · by_cases h : v = d
        · subst h2; simp only [h, if_true, Nat.lt_irrefl, if_false]; exact tget_tdel_same _ _ _
        · simp [h2, h, tget]
      · simp [h1, h2, tget, ih]

/-- Every other number holds what it held. -/
@[simp] theorem tget_tput_other [DecidableEq α] (d : α) (t : Table α) {i j : Nat} (v : α) (hij : j ≠ i) :
    tget d (tput d t i v) j = tget d t j := by
  induction t with
  | nil => by_cases h : v = d <;> simp [tput, tget, h, hij]
  | cons p t ih =>
    obtain ⟨k, x⟩ := p
    unfold tput
    by_cases h1 : i < k
    · by_cases h : v = d
      · simp only [h1, h, if_true]; exact tget_tdel_other _ _ hij
      · simp [h1, h, tget, hij]
    · by_cases h2 : i = k
      · by_cases h : v = d
        · subst h2; simp only [h, if_true, Nat.lt_irrefl, if_false]
          rw [tget_tdel_other _ _ hij, tget, if_neg hij]
        · subst h2; simp [h, tget, hij]
      · simp [h1, h2, tget, ih]

theorem tget_tput [DecidableEq α] (d : α) (t : Table α) (i j : Nat) (v : α) :
    tget d (tput d t i v) j = if j = i then v else tget d t j := by
  by_cases h : j = i
  · subst h; simp
  · simp [h]

theorem tget_tput_default [DecidableEq α] (d e : α) (t : Table α) {i j : Nat} (v : α) (hij : j ≠ i) :
    tget e (tput d t i v) j = tget e t j := by
  induction t with
  | nil => by_cases h : v = d <;> simp [tput, tget, h, hij]
  | cons p t ih =>
    obtain ⟨k, x⟩ := p
    unfold tput
    by_cases h1 : i < k
    · by_cases h : v = d
      · simp only [h1, h, if_true]; exact tget_tdel_other _ _ hij
      · simp [h1, h, tget, hij]
    · by_cases h2 : i = k
      · by_cases h : v = d
        · subst h2; simp only [h, if_true, Nat.lt_irrefl, if_false]
          rw [tget_tdel_other _ _ hij, tget, if_neg hij]
        · subst h2; simp [h, tget, hij]
      · simp [h1, h2, tget, ih]

@[simp] theorem tget_tmod_same [DecidableEq α] (d : α) (t : Table α) (i : Nat) (f : α → α) :
    tget d (tmod d t i f) i = f (tget d t i) := tget_tput_same _ _ _ _

@[simp] theorem tget_tmod_other [DecidableEq α] (d : α) (t : Table α) {i j : Nat} (f : α → α) (hij : j ≠ i) :
    tget d (tmod d t i f) j = tget d t j := tget_tput_other _ _ _ hij

@[simp] theorem tget_tset_same (d : α) (t : Table α) (i : Nat) (v : α) : tget d (tset t i v) i = v := by
  induction t with
  | nil => simp [tset, tget]
  | cons p t ih =>
    obtain ⟨k, x⟩ := p
    unfold tset
    split
    · simp [tget]
    · split
      · simp [tget]
      · next h2 => simp [tget, h2, ih]

@[simp] theorem tget_tset_other (d : α) (t : Table α) {i j : Nat} (v : α) (hij : j ≠ i) :
    tget d (tset t i v) j = tget d t j := by
  induction t with
  | nil => simp [tset, tget, hij]
  | cons p t ih =>
    obtain ⟨k, x⟩ := p
    unfold tset
    split
    · simp [tget, hij]
    · split
      · next h2 => subst h2; simp [tget, hij]
      · simp [tget, ih]

/-! The canonical form. -/

theorem twfFrom_mono [DecidableEq α] (d : α) {a b : Nat} (h : a ≤ b) (t : Table α) (ht : twfFrom d b t = true) :
    twfFrom d a t = true := by
  cases t with
  | nil => rfl
  | cons p t =>
    obtain ⟨k, x⟩ := p
    simp only [twfFrom, Bool.and_eq_true, decide_eq_true_eq] at ht ⊢
    exact ⟨⟨Nat.le_trans h ht.1.1, ht.1.2⟩, ht.2⟩

theorem tdel_of_twfFrom [DecidableEq α] (d : α) {lo i : Nat} (h : i < lo) (t : Table α) (ht : twfFrom d lo t = true) :
    tdel t i = t := by
  induction t generalizing lo with
  | nil => rfl
  | cons p t ih =>
    obtain ⟨k, x⟩ := p
    simp only [twfFrom, Bool.and_eq_true, decide_eq_true_eq] at ht
    have hk : ¬ k = i := by omega
    have h' := ih (lo := k + 1) (by omega) ht.2
    simp only [tdel, List.filter_cons] at h' ⊢
    simp [hk, h']

/-- A write keeps the canonical form. -/
theorem twfFrom_tput [DecidableEq α] (d : α) (t : Table α) (lo i : Nat) (v : α) (hi : lo ≤ i)
    (ht : twfFrom d lo t = true) : twfFrom d lo (tput d t i v) = true := by
  induction t generalizing lo with
  | nil => by_cases h : v = d <;> simp [tput, twfFrom, h, hi]
  | cons p t ih =>
    obtain ⟨k, x⟩ := p
    have ht' := ht
    simp only [twfFrom, Bool.and_eq_true, decide_eq_true_eq] at ht'
    unfold tput
    by_cases h1 : i < k
    · by_cases h : v = d
      · rw [if_pos h1, if_pos h, tdel_of_twfFrom d (lo := k) h1]
        · exact ht
        · simp only [twfFrom, Bool.and_eq_true, decide_eq_true_eq]
          exact ⟨⟨Nat.le_refl _, ht'.1.2⟩, ht'.2⟩
      · rw [if_pos h1, if_neg h]
        simp only [twfFrom, Bool.and_eq_true, decide_eq_true_eq, h, decide_false, Bool.not_false, and_true]
        exact ⟨hi, ⟨by omega, ht'.1.2⟩, ht'.2⟩
    · rw [if_neg h1]
      by_cases h2 : i = k
      · rw [if_pos h2]
        subst h2
        by_cases h : v = d
        · rw [if_pos h, tdel_of_twfFrom d (Nat.lt_succ_self i) t ht'.2]
          exact twfFrom_mono d (by omega) t ht'.2
        · rw [if_neg h]
          simp only [twfFrom, Bool.and_eq_true, decide_eq_true_eq, h, decide_false, Bool.not_false, and_true]
          exact ⟨hi, ht'.2⟩
      · rw [if_neg h2]
        simp only [twfFrom, Bool.and_eq_true, decide_eq_true_eq]
        exact ⟨ht'.1, ih (k + 1) (by omega) ht'.2⟩

theorem twf_tput [DecidableEq α] (d : α) (t : Table α) (i : Nat) (v : α) (ht : twf d t = true) :
    twf d (tput d t i v) = true := twfFrom_tput d t 0 i v (Nat.zero_le _) ht

theorem twf_tputs [DecidableEq α] (d : α) (vs : List α) (t : Table α) (a : Nat) (ht : twf d t = true) :
    twf d (tputs d t a vs) = true := by
  induction vs generalizing t a with
  | nil => exact ht
  | cons v vs ih => exact ih _ _ (twf_tput d t a v ht)

/-! Writes of several consecutive numbers. -/

theorem tget_tputs_outside [DecidableEq α] (d : α) (vs : List α) (t : Table α) (a j : Nat)
    (h : j < a ∨ a + vs.length ≤ j) : tget d (tputs d t a vs) j = tget d t j := by
  induction vs generalizing t a with
  | nil => rfl
  | cons v vs ih =>
    simp only [List.length_cons] at h
    rw [tputs, ih _ _ (by omega)]
    exact tget_tput_other d t v (by omega)

theorem tget_tputs_inside [DecidableEq α] (d : α) (vs : List α) (t : Table α) (a i : Nat) (h : i < vs.length) :
    tget d (tputs d t a vs) (a + i) = vs[i] := by
  induction vs generalizing t a i with
  | nil => exact absurd h (by simp)
  | cons v vs ih =>
    rw [tputs]
    cases i with
    | zero =>
      rw [tget_tputs_outside d vs _ (a + 1) (a + 0) (by omega)]
      simp
    | succ i =>
      have := ih (tput d t a v) (a + 1) i (by simpa using h)
      rw [show a + (i + 1) = a + 1 + i by omega]
      simpa using this

/-! The list of bytes that DMA and the MRAM writes splice in. -/

theorem tget_filter (d : α) (p : Nat → Bool) (t : Table α) (j : Nat) :
    tget d (t.filter (fun x => p x.1)) j = if p j then tget d t j else d := by
  induction t with
  | nil => simp [tget]
  | cons x t ih =>
    obtain ⟨k, v⟩ := x
    by_cases hk : p k
    · rw [List.filter_cons_of_pos (by simpa using hk), tget, ih, tget]
      by_cases hj : j = k
      · subst hj; simp [hk]
      · simp [hj]
    · rw [List.filter_cons_of_neg (by simpa using hk), ih, tget]
      by_cases hj : j = k
      · subst hj; simp [hk]
      · simp [hj]

theorem thas_cons (k : Nat) (v : α) (t : Table α) (j : Nat) : thas ((k, v) :: t) j = (k == j || thas t j) := rfl

theorem tget_append (d : α) (t u : Table α) (j : Nat) :
    tget d (t ++ u) j = if thas t j then tget d t j else tget d u j := by
  induction t with
  | nil => rfl
  | cons x t ih =>
    obtain ⟨k, v⟩ := x
    rw [List.cons_append, tget, ih, tget, thas_cons]
    by_cases hj : j = k
    · subst hj; simp
    · have hk : (k == j) = false := beq_eq_false_iff_ne.mpr (fun e => hj e.symm)
      simp [hj, hk]

theorem tget_of_not_thas (d : α) (t : Table α) (j : Nat) (h : thas t j = false) : tget d t j = d := by
  induction t with
  | nil => rfl
  | cons x t ih =>
    obtain ⟨k, v⟩ := x
    simp only [thas, List.any_cons, Bool.or_eq_false_iff, beq_eq_false_iff_ne] at h ih
    rw [tget, if_neg (fun e => h.1 e.symm)]
    exact ih h.2

theorem thas_cellsFrom (bs : List Byte) (a j : Nat) : thas (cellsFrom a bs) j = decide (a ≤ j ∧ j < a + bs.length) := by
  induction bs generalizing a with
  | nil => simp [cellsFrom, thas]
  | cons b bs ih =>
    have := ih (a + 1)
    simp only [thas] at this ⊢
    simp only [cellsFrom, List.any_cons, this, List.length_cons]
    by_cases h : a = j
    · subst h; simp
    · simp only [beq_eq_false_iff_ne.mpr h, Bool.false_or, decide_eq_decide]; omega

theorem tget_cellsFrom (d : Byte) (bs : List Byte) (a i : Nat) (h : i < bs.length) :
    tget d (cellsFrom a bs) (a + i) = bs[i] := by
  induction bs generalizing a i with
  | nil => exact absurd h (by simp)
  | cons b bs ih =>
    cases i with
    | zero => simp [cellsFrom, tget]
    | succ i =>
      have := ih (a + 1) i (by simpa using h)
      rw [cellsFrom, tget, if_neg (by omega), show a + (i + 1) = a + 1 + i by omega]
      simpa using this

theorem thas_filter (t : Table α) (p : Nat → Bool) (j : Nat) (h : p j = false) :
    thas (t.filter (fun x => p x.1)) j = false := by
  simp only [thas, List.any_eq_false, List.mem_filter]
  rintro ⟨k, v⟩ ⟨_, hk⟩ e
  simp only [beq_iff_eq] at e
  simp only at hk
  rw [e, h] at hk; cases hk

/-- A byte outside what was written is as before. -/
theorem tget_splice_outside (d : Byte) (m : Table Byte) (a : Nat) (bs : List Byte) (j : Nat)
    (h : j < a ∨ a + bs.length ≤ j) : tget d (splice m a bs) j = tget d m j := by
  have e1 := tget_filter d (fun k => decide (k < a)) m j
  have e2 := tget_filter d (fun k => decide (a + bs.length ≤ k)) m j
  have hc : thas (cellsFrom a bs) j = false := by rw [thas_cellsFrom]; simp; omega
  unfold splice
  rw [List.append_assoc, tget_append, tget_append, hc]
  simp only [Bool.false_eq_true, if_false]
  rcases h with h | h
  · have hn : ¬ a + bs.length ≤ j := by omega
    simp only [h, decide_true, if_true] at e1
    simp only [hn, decide_false, Bool.false_eq_true, if_false] at e2
    rw [e1, e2]
    split
    · rfl
    · next hh =>
      rw [Bool.not_eq_true] at hh
      exact (tget_of_not_thas d _ j hh).symm.trans e1
  · have hn : ¬ j < a := by omega
    have := thas_filter m (fun k => decide (k < a)) j (by simp [hn])
    simp only [h, decide_true, if_true] at e2
    rw [this, e2]; simp

/-- A byte inside what was written holds it. -/
theorem tget_splice_inside (d : Byte) (m : Table Byte) (a : Nat) (bs : List Byte) (i : Nat) (h : i < bs.length) :
    tget d (splice m a bs) (a + i) = bs[i] := by
  have hf := thas_filter m (fun k => decide (k < a)) (a + i) (by simp)
  have hc : thas (cellsFrom a bs) (a + i) = true := by rw [thas_cellsFrom]; simp [h]
  unfold splice
  rw [List.append_assoc, tget_append, tget_append, hf, hc]
  simp only [Bool.false_eq_true, if_false, if_true]
  exact tget_cellsFrom d bs a i h

/-! Elements of a list. -/

theorem getElem?_lmod (l : List α) (i j : Nat) (f : α → α) :
    (lmod l i f)[j]? = if i = j then (l[j]?).map f else l[j]? := by
  induction l generalizing i j with
  | nil => simp [lmod]
  | cons x l ih =>
    cases i with
    | zero => cases j <;> simp [lmod]
    | succ i =>
      cases j with
      | zero => simp [lmod]
      | succ j => simp [lmod, ih]

@[simp] theorem length_lmod (l : List α) (i : Nat) (f : α → α) : (lmod l i f).length = l.length := by
  induction l generalizing i with
  | nil => rfl
  | cons x l ih => cases i <;> simp [lmod, ih]

theorem lget_lmod (d : α) (l : List α) (i j : Nat) (f : α → α) :
    lget d (lmod l i f) j = if i = j ∧ j < l.length then f (lget d l j) else lget d l j := by
  unfold lget
  rw [getElem?_lmod]
  by_cases h : i = j
  · subst h
    by_cases hl : i < l.length
    · simp [hl]
    · simp [hl]
  · simp [h]

end Sys2Proof.Machine
end

