-- ==== Sys2Proof/Laws/State.lean ====
section
/-! SUPPORT. What the plain updates of the state leave alone, one lemma per field per update, and what the field that
changes then holds. -/

namespace Sys2Proof.Machine

/-! `settle`. -/

@[simp] theorem State.settle_pending (s : State) : s.settle.pending = s.pending := rfl
@[simp] theorem State.settle_regs (s : State) : s.settle.regs = s.regs := rfl
@[simp] theorem State.settle_bus (s : State) : s.settle.bus = s.bus := rfl
@[simp] theorem State.settle_sys (s : State) : s.settle.sys = s.sys := rfl
@[simp] theorem State.settle_engines (s : State) : s.settle.engines = s.engines := rfl
@[simp] theorem State.settle_clock (s : State) : s.settle.clock = s.clock := rfl
@[simp] theorem State.settle_tick (s : State) : s.settle.tick = s.tick := rfl
@[simp] theorem State.settle_hif (s : State) : s.settle.hif = s.hif := rfl
@[simp] theorem State.settle_chans (s : State) : s.settle.chans = s.chans := rfl
@[simp] theorem State.settle_partners (s : State) : s.settle.partners = s.partners := rfl
@[simp] theorem State.settle_gens (s : State) : s.settle.gens = s.gens := rfl
@[simp] theorem State.settle_csi (s : State) : s.settle.csi = s.csi := rfl
@[simp] theorem State.settle_usb (s : State) : s.settle.usb = s.usb := rfl
@[simp] theorem State.settle_flows (s : State) : s.settle.flows = s.flows := rfl
@[simp] theorem State.settle_queues (s : State) : s.settle.queues = s.queues := rfl
@[simp] theorem State.settle_eth (s : State) : s.settle.eth = s.eth := rfl
@[simp] theorem State.settle_cmp (s : State) : s.settle.cmp = s.cmp := rfl
@[simp] theorem State.settle_displays (s : State) : s.settle.displays = s.displays := rfl
@[simp] theorem State.settle_mem (s : State) : s.settle.mem = s.mem := rfl
@[simp] theorem State.settle_bpm (s : State) : s.settle.bpm = s.bpm := rfl
@[simp] theorem State.settle_sch (s : State) : s.settle.sch = s.sch := rfl
@[simp] theorem State.settle_log (s : State) : s.settle.log = s.log := rfl
@[simp] theorem State.settle_guard (s : State) : s.settle.guard = s.guard := rfl
@[simp] theorem State.settle_power (s : State) : s.settle.power = s.power := rfl
@[simp] theorem State.settle_clk (s : State) : s.settle.clk = s.clk := rfl
@[simp] theorem State.settle_pwr (s : State) : s.settle.pwr = s.pwr := rfl
@[simp] theorem State.settle_fio (s : State) : s.settle.fio = s.fio := rfl
@[simp] theorem State.settle_fresh (s : State) : s.settle.fresh = s.fresh := rfl

/-! `wr`. -/

@[simp] theorem State.wr_pending (s : State) (d : RegDef) (i j v : Nat) : (s.wr d i j v).pending = s.pending := rfl
@[simp] theorem State.wr_bus (s : State) (d : RegDef) (i j v : Nat) : (s.wr d i j v).bus = s.bus := rfl
@[simp] theorem State.wr_sys (s : State) (d : RegDef) (i j v : Nat) : (s.wr d i j v).sys = s.sys := rfl
@[simp] theorem State.wr_engines (s : State) (d : RegDef) (i j v : Nat) : (s.wr d i j v).engines = s.engines := rfl
@[simp] theorem State.wr_clock (s : State) (d : RegDef) (i j v : Nat) : (s.wr d i j v).clock = s.clock := rfl
@[simp] theorem State.wr_tick (s : State) (d : RegDef) (i j v : Nat) : (s.wr d i j v).tick = s.tick := rfl
@[simp] theorem State.wr_hif (s : State) (d : RegDef) (i j v : Nat) : (s.wr d i j v).hif = s.hif := rfl
@[simp] theorem State.wr_chans (s : State) (d : RegDef) (i j v : Nat) : (s.wr d i j v).chans = s.chans := rfl
@[simp] theorem State.wr_partners (s : State) (d : RegDef) (i j v : Nat) : (s.wr d i j v).partners = s.partners := rfl
@[simp] theorem State.wr_gens (s : State) (d : RegDef) (i j v : Nat) : (s.wr d i j v).gens = s.gens := rfl
@[simp] theorem State.wr_csi (s : State) (d : RegDef) (i j v : Nat) : (s.wr d i j v).csi = s.csi := rfl
@[simp] theorem State.wr_usb (s : State) (d : RegDef) (i j v : Nat) : (s.wr d i j v).usb = s.usb := rfl
@[simp] theorem State.wr_flows (s : State) (d : RegDef) (i j v : Nat) : (s.wr d i j v).flows = s.flows := rfl
@[simp] theorem State.wr_queues (s : State) (d : RegDef) (i j v : Nat) : (s.wr d i j v).queues = s.queues := rfl
@[simp] theorem State.wr_eth (s : State) (d : RegDef) (i j v : Nat) : (s.wr d i j v).eth = s.eth := rfl
@[simp] theorem State.wr_cmp (s : State) (d : RegDef) (i j v : Nat) : (s.wr d i j v).cmp = s.cmp := rfl
@[simp] theorem State.wr_displays (s : State) (d : RegDef) (i j v : Nat) : (s.wr d i j v).displays = s.displays := rfl
@[simp] theorem State.wr_mem (s : State) (d : RegDef) (i j v : Nat) : (s.wr d i j v).mem = s.mem := rfl
@[simp] theorem State.wr_bpm (s : State) (d : RegDef) (i j v : Nat) : (s.wr d i j v).bpm = s.bpm := rfl
@[simp] theorem State.wr_sch (s : State) (d : RegDef) (i j v : Nat) : (s.wr d i j v).sch = s.sch := rfl
@[simp] theorem State.wr_log (s : State) (d : RegDef) (i j v : Nat) : (s.wr d i j v).log = s.log := rfl
@[simp] theorem State.wr_guard (s : State) (d : RegDef) (i j v : Nat) : (s.wr d i j v).guard = s.guard := rfl
@[simp] theorem State.wr_power (s : State) (d : RegDef) (i j v : Nat) : (s.wr d i j v).power = s.power := rfl
@[simp] theorem State.wr_clk (s : State) (d : RegDef) (i j v : Nat) : (s.wr d i j v).clk = s.clk := rfl
@[simp] theorem State.wr_pwr (s : State) (d : RegDef) (i j v : Nat) : (s.wr d i j v).pwr = s.pwr := rfl
@[simp] theorem State.wr_fio (s : State) (d : RegDef) (i j v : Nat) : (s.wr d i j v).fio = s.fio := rfl
@[simp] theorem State.wr_pads (s : State) (d : RegDef) (i j v : Nat) : (s.wr d i j v).pads = s.pads := rfl
@[simp] theorem State.wr_fresh (s : State) (d : RegDef) (i j v : Nat) : (s.wr d i j v).fresh = s.fresh := rfl

/-! `wrFld`. -/

@[simp] theorem State.wrFld_pending (s : State) (d : RegDef) (hi lo v i j : Nat) : (s.wrFld d hi lo v i j).pending = s.pending := rfl
@[simp] theorem State.wrFld_bus (s : State) (d : RegDef) (hi lo v i j : Nat) : (s.wrFld d hi lo v i j).bus = s.bus := rfl
@[simp] theorem State.wrFld_sys (s : State) (d : RegDef) (hi lo v i j : Nat) : (s.wrFld d hi lo v i j).sys = s.sys := rfl
@[simp] theorem State.wrFld_engines (s : State) (d : RegDef) (hi lo v i j : Nat) : (s.wrFld d hi lo v i j).engines = s.engines := rfl
@[simp] theorem State.wrFld_clock (s : State) (d : RegDef) (hi lo v i j : Nat) : (s.wrFld d hi lo v i j).clock = s.clock := rfl
@[simp] theorem State.wrFld_tick (s : State) (d : RegDef) (hi lo v i j : Nat) : (s.wrFld d hi lo v i j).tick = s.tick := rfl
@[simp] theorem State.wrFld_hif (s : State) (d : RegDef) (hi lo v i j : Nat) : (s.wrFld d hi lo v i j).hif = s.hif := rfl
@[simp] theorem State.wrFld_chans (s : State) (d : RegDef) (hi lo v i j : Nat) : (s.wrFld d hi lo v i j).chans = s.chans := rfl
@[simp] theorem State.wrFld_partners (s : State) (d : RegDef) (hi lo v i j : Nat) : (s.wrFld d hi lo v i j).partners = s.partners := rfl
@[simp] theorem State.wrFld_gens (s : State) (d : RegDef) (hi lo v i j : Nat) : (s.wrFld d hi lo v i j).gens = s.gens := rfl
@[simp] theorem State.wrFld_csi (s : State) (d : RegDef) (hi lo v i j : Nat) : (s.wrFld d hi lo v i j).csi = s.csi := rfl
@[simp] theorem State.wrFld_usb (s : State) (d : RegDef) (hi lo v i j : Nat) : (s.wrFld d hi lo v i j).usb = s.usb := rfl
@[simp] theorem State.wrFld_flows (s : State) (d : RegDef) (hi lo v i j : Nat) : (s.wrFld d hi lo v i j).flows = s.flows := rfl
@[simp] theorem State.wrFld_queues (s : State) (d : RegDef) (hi lo v i j : Nat) : (s.wrFld d hi lo v i j).queues = s.queues := rfl
@[simp] theorem State.wrFld_eth (s : State) (d : RegDef) (hi lo v i j : Nat) : (s.wrFld d hi lo v i j).eth = s.eth := rfl
@[simp] theorem State.wrFld_cmp (s : State) (d : RegDef) (hi lo v i j : Nat) : (s.wrFld d hi lo v i j).cmp = s.cmp := rfl
@[simp] theorem State.wrFld_displays (s : State) (d : RegDef) (hi lo v i j : Nat) : (s.wrFld d hi lo v i j).displays = s.displays := rfl
@[simp] theorem State.wrFld_mem (s : State) (d : RegDef) (hi lo v i j : Nat) : (s.wrFld d hi lo v i j).mem = s.mem := rfl
@[simp] theorem State.wrFld_bpm (s : State) (d : RegDef) (hi lo v i j : Nat) : (s.wrFld d hi lo v i j).bpm = s.bpm := rfl
@[simp] theorem State.wrFld_sch (s : State) (d : RegDef) (hi lo v i j : Nat) : (s.wrFld d hi lo v i j).sch = s.sch := rfl
@[simp] theorem State.wrFld_log (s : State) (d : RegDef) (hi lo v i j : Nat) : (s.wrFld d hi lo v i j).log = s.log := rfl
@[simp] theorem State.wrFld_guard (s : State) (d : RegDef) (hi lo v i j : Nat) : (s.wrFld d hi lo v i j).guard = s.guard := rfl
@[simp] theorem State.wrFld_power (s : State) (d : RegDef) (hi lo v i j : Nat) : (s.wrFld d hi lo v i j).power = s.power := rfl
@[simp] theorem State.wrFld_clk (s : State) (d : RegDef) (hi lo v i j : Nat) : (s.wrFld d hi lo v i j).clk = s.clk := rfl
@[simp] theorem State.wrFld_pwr (s : State) (d : RegDef) (hi lo v i j : Nat) : (s.wrFld d hi lo v i j).pwr = s.pwr := rfl
@[simp] theorem State.wrFld_fio (s : State) (d : RegDef) (hi lo v i j : Nat) : (s.wrFld d hi lo v i j).fio = s.fio := rfl
@[simp] theorem State.wrFld_pads (s : State) (d : RegDef) (hi lo v i j : Nat) : (s.wrFld d hi lo v i j).pads = s.pads := rfl
@[simp] theorem State.wrFld_fresh (s : State) (d : RegDef) (hi lo v i j : Nat) : (s.wrFld d hi lo v i j).fresh = s.fresh := rfl

/-! `bump`. -/

@[simp] theorem State.bump_pending (s : State) (d : RegDef) (i : Nat) : (s.bump d i).pending = s.pending := rfl
@[simp] theorem State.bump_bus (s : State) (d : RegDef) (i : Nat) : (s.bump d i).bus = s.bus := rfl
@[simp] theorem State.bump_sys (s : State) (d : RegDef) (i : Nat) : (s.bump d i).sys = s.sys := rfl
@[simp] theorem State.bump_engines (s : State) (d : RegDef) (i : Nat) : (s.bump d i).engines = s.engines := rfl
@[simp] theorem State.bump_clock (s : State) (d : RegDef) (i : Nat) : (s.bump d i).clock = s.clock := rfl
@[simp] theorem State.bump_tick (s : State) (d : RegDef) (i : Nat) : (s.bump d i).tick = s.tick := rfl
@[simp] theorem State.bump_hif (s : State) (d : RegDef) (i : Nat) : (s.bump d i).hif = s.hif := rfl
@[simp] theorem State.bump_chans (s : State) (d : RegDef) (i : Nat) : (s.bump d i).chans = s.chans := rfl
@[simp] theorem State.bump_partners (s : State) (d : RegDef) (i : Nat) : (s.bump d i).partners = s.partners := rfl
@[simp] theorem State.bump_gens (s : State) (d : RegDef) (i : Nat) : (s.bump d i).gens = s.gens := rfl
@[simp] theorem State.bump_csi (s : State) (d : RegDef) (i : Nat) : (s.bump d i).csi = s.csi := rfl
@[simp] theorem State.bump_usb (s : State) (d : RegDef) (i : Nat) : (s.bump d i).usb = s.usb := rfl
@[simp] theorem State.bump_flows (s : State) (d : RegDef) (i : Nat) : (s.bump d i).flows = s.flows := rfl
@[simp] theorem State.bump_queues (s : State) (d : RegDef) (i : Nat) : (s.bump d i).queues = s.queues := rfl
@[simp] theorem State.bump_eth (s : State) (d : RegDef) (i : Nat) : (s.bump d i).eth = s.eth := rfl
@[simp] theorem State.bump_cmp (s : State) (d : RegDef) (i : Nat) : (s.bump d i).cmp = s.cmp := rfl
@[simp] theorem State.bump_displays (s : State) (d : RegDef) (i : Nat) : (s.bump d i).displays = s.displays := rfl
@[simp] theorem State.bump_mem (s : State) (d : RegDef) (i : Nat) : (s.bump d i).mem = s.mem := rfl
@[simp] theorem State.bump_bpm (s : State) (d : RegDef) (i : Nat) : (s.bump d i).bpm = s.bpm := rfl
@[simp] theorem State.bump_sch (s : State) (d : RegDef) (i : Nat) : (s.bump d i).sch = s.sch := rfl
@[simp] theorem State.bump_log (s : State) (d : RegDef) (i : Nat) : (s.bump d i).log = s.log := rfl
@[simp] theorem State.bump_guard (s : State) (d : RegDef) (i : Nat) : (s.bump d i).guard = s.guard := rfl
@[simp] theorem State.bump_power (s : State) (d : RegDef) (i : Nat) : (s.bump d i).power = s.power := rfl
@[simp] theorem State.bump_clk (s : State) (d : RegDef) (i : Nat) : (s.bump d i).clk = s.clk := rfl
@[simp] theorem State.bump_pwr (s : State) (d : RegDef) (i : Nat) : (s.bump d i).pwr = s.pwr := rfl
@[simp] theorem State.bump_fio (s : State) (d : RegDef) (i : Nat) : (s.bump d i).fio = s.fio := rfl
@[simp] theorem State.bump_pads (s : State) (d : RegDef) (i : Nat) : (s.bump d i).pads = s.pads := rfl
@[simp] theorem State.bump_fresh (s : State) (d : RegDef) (i : Nat) : (s.bump d i).fresh = s.fresh := rfl

/-! `bump64`. -/

@[simp] theorem State.bump64_pending (s : State) (d : RegDef) (i k : Nat) : (s.bump64 d i k).pending = s.pending := rfl
@[simp] theorem State.bump64_bus (s : State) (d : RegDef) (i k : Nat) : (s.bump64 d i k).bus = s.bus := rfl
@[simp] theorem State.bump64_sys (s : State) (d : RegDef) (i k : Nat) : (s.bump64 d i k).sys = s.sys := rfl
@[simp] theorem State.bump64_engines (s : State) (d : RegDef) (i k : Nat) : (s.bump64 d i k).engines = s.engines := rfl
@[simp] theorem State.bump64_clock (s : State) (d : RegDef) (i k : Nat) : (s.bump64 d i k).clock = s.clock := rfl
@[simp] theorem State.bump64_tick (s : State) (d : RegDef) (i k : Nat) : (s.bump64 d i k).tick = s.tick := rfl
@[simp] theorem State.bump64_hif (s : State) (d : RegDef) (i k : Nat) : (s.bump64 d i k).hif = s.hif := rfl
@[simp] theorem State.bump64_chans (s : State) (d : RegDef) (i k : Nat) : (s.bump64 d i k).chans = s.chans := rfl
@[simp] theorem State.bump64_partners (s : State) (d : RegDef) (i k : Nat) : (s.bump64 d i k).partners = s.partners := rfl
@[simp] theorem State.bump64_gens (s : State) (d : RegDef) (i k : Nat) : (s.bump64 d i k).gens = s.gens := rfl
@[simp] theorem State.bump64_csi (s : State) (d : RegDef) (i k : Nat) : (s.bump64 d i k).csi = s.csi := rfl
@[simp] theorem State.bump64_usb (s : State) (d : RegDef) (i k : Nat) : (s.bump64 d i k).usb = s.usb := rfl
@[simp] theorem State.bump64_flows (s : State) (d : RegDef) (i k : Nat) : (s.bump64 d i k).flows = s.flows := rfl
@[simp] theorem State.bump64_queues (s : State) (d : RegDef) (i k : Nat) : (s.bump64 d i k).queues = s.queues := rfl
@[simp] theorem State.bump64_eth (s : State) (d : RegDef) (i k : Nat) : (s.bump64 d i k).eth = s.eth := rfl
@[simp] theorem State.bump64_cmp (s : State) (d : RegDef) (i k : Nat) : (s.bump64 d i k).cmp = s.cmp := rfl
@[simp] theorem State.bump64_displays (s : State) (d : RegDef) (i k : Nat) : (s.bump64 d i k).displays = s.displays := rfl
@[simp] theorem State.bump64_mem (s : State) (d : RegDef) (i k : Nat) : (s.bump64 d i k).mem = s.mem := rfl
@[simp] theorem State.bump64_bpm (s : State) (d : RegDef) (i k : Nat) : (s.bump64 d i k).bpm = s.bpm := rfl
@[simp] theorem State.bump64_sch (s : State) (d : RegDef) (i k : Nat) : (s.bump64 d i k).sch = s.sch := rfl
@[simp] theorem State.bump64_log (s : State) (d : RegDef) (i k : Nat) : (s.bump64 d i k).log = s.log := rfl
@[simp] theorem State.bump64_guard (s : State) (d : RegDef) (i k : Nat) : (s.bump64 d i k).guard = s.guard := rfl
@[simp] theorem State.bump64_power (s : State) (d : RegDef) (i k : Nat) : (s.bump64 d i k).power = s.power := rfl
@[simp] theorem State.bump64_clk (s : State) (d : RegDef) (i k : Nat) : (s.bump64 d i k).clk = s.clk := rfl
@[simp] theorem State.bump64_pwr (s : State) (d : RegDef) (i k : Nat) : (s.bump64 d i k).pwr = s.pwr := rfl
@[simp] theorem State.bump64_fio (s : State) (d : RegDef) (i k : Nat) : (s.bump64 d i k).fio = s.fio := rfl
@[simp] theorem State.bump64_pads (s : State) (d : RegDef) (i k : Nat) : (s.bump64 d i k).pads = s.pads := rfl
@[simp] theorem State.bump64_fresh (s : State) (d : RegDef) (i k : Nat) : (s.bump64 d i k).fresh = s.fresh := rfl

/-! `freshen`. -/

@[simp] theorem State.freshen_pending (s : State) : s.freshen.pending = s.pending := rfl
@[simp] theorem State.freshen_regs (s : State) : s.freshen.regs = s.regs := rfl
@[simp] theorem State.freshen_bus (s : State) : s.freshen.bus = s.bus := rfl
@[simp] theorem State.freshen_sys (s : State) : s.freshen.sys = s.sys := rfl
@[simp] theorem State.freshen_engines (s : State) : s.freshen.engines = s.engines := rfl
@[simp] theorem State.freshen_clock (s : State) : s.freshen.clock = s.clock := rfl
@[simp] theorem State.freshen_tick (s : State) : s.freshen.tick = s.tick := rfl
@[simp] theorem State.freshen_hif (s : State) : s.freshen.hif = s.hif := rfl
@[simp] theorem State.freshen_chans (s : State) : s.freshen.chans = s.chans := rfl
@[simp] theorem State.freshen_partners (s : State) : s.freshen.partners = s.partners := rfl
@[simp] theorem State.freshen_gens (s : State) : s.freshen.gens = s.gens := rfl
@[simp] theorem State.freshen_csi (s : State) : s.freshen.csi = s.csi := rfl
@[simp] theorem State.freshen_usb (s : State) : s.freshen.usb = s.usb := rfl
@[simp] theorem State.freshen_flows (s : State) : s.freshen.flows = s.flows := rfl
@[simp] theorem State.freshen_queues (s : State) : s.freshen.queues = s.queues := rfl
@[simp] theorem State.freshen_eth (s : State) : s.freshen.eth = s.eth := rfl
@[simp] theorem State.freshen_cmp (s : State) : s.freshen.cmp = s.cmp := rfl
@[simp] theorem State.freshen_displays (s : State) : s.freshen.displays = s.displays := rfl
@[simp] theorem State.freshen_mem (s : State) : s.freshen.mem = s.mem := rfl
@[simp] theorem State.freshen_bpm (s : State) : s.freshen.bpm = s.bpm := rfl
@[simp] theorem State.freshen_sch (s : State) : s.freshen.sch = s.sch := rfl
@[simp] theorem State.freshen_log (s : State) : s.freshen.log = s.log := rfl
@[simp] theorem State.freshen_guard (s : State) : s.freshen.guard = s.guard := rfl
@[simp] theorem State.freshen_power (s : State) : s.freshen.power = s.power := rfl
@[simp] theorem State.freshen_clk (s : State) : s.freshen.clk = s.clk := rfl
@[simp] theorem State.freshen_pwr (s : State) : s.freshen.pwr = s.pwr := rfl
@[simp] theorem State.freshen_fio (s : State) : s.freshen.fio = s.fio := rfl
@[simp] theorem State.freshen_pads (s : State) : s.freshen.pads = s.pads := rfl

/-! `setStatus`. -/

@[simp] theorem State.setStatus_pending (s : State) (code : Nat) : (s.setStatus code).pending = s.pending := rfl
@[simp] theorem State.setStatus_regs (s : State) (code : Nat) : (s.setStatus code).regs = s.regs := rfl
@[simp] theorem State.setStatus_bus (s : State) (code : Nat) : (s.setStatus code).bus = s.bus := rfl
@[simp] theorem State.setStatus_sys (s : State) (code : Nat) : (s.setStatus code).sys = s.sys := rfl
@[simp] theorem State.setStatus_engines (s : State) (code : Nat) : (s.setStatus code).engines = s.engines := rfl
@[simp] theorem State.setStatus_clock (s : State) (code : Nat) : (s.setStatus code).clock = s.clock := rfl
@[simp] theorem State.setStatus_tick (s : State) (code : Nat) : (s.setStatus code).tick = s.tick := rfl
@[simp] theorem State.setStatus_hif (s : State) (code : Nat) : (s.setStatus code).hif = s.hif := rfl
@[simp] theorem State.setStatus_chans (s : State) (code : Nat) : (s.setStatus code).chans = s.chans := rfl
@[simp] theorem State.setStatus_partners (s : State) (code : Nat) : (s.setStatus code).partners = s.partners := rfl
@[simp] theorem State.setStatus_gens (s : State) (code : Nat) : (s.setStatus code).gens = s.gens := rfl
@[simp] theorem State.setStatus_csi (s : State) (code : Nat) : (s.setStatus code).csi = s.csi := rfl
@[simp] theorem State.setStatus_usb (s : State) (code : Nat) : (s.setStatus code).usb = s.usb := rfl
@[simp] theorem State.setStatus_flows (s : State) (code : Nat) : (s.setStatus code).flows = s.flows := rfl
@[simp] theorem State.setStatus_queues (s : State) (code : Nat) : (s.setStatus code).queues = s.queues := rfl
@[simp] theorem State.setStatus_eth (s : State) (code : Nat) : (s.setStatus code).eth = s.eth := rfl
@[simp] theorem State.setStatus_cmp (s : State) (code : Nat) : (s.setStatus code).cmp = s.cmp := rfl
@[simp] theorem State.setStatus_displays (s : State) (code : Nat) : (s.setStatus code).displays = s.displays := rfl
@[simp] theorem State.setStatus_mem (s : State) (code : Nat) : (s.setStatus code).mem = s.mem := rfl
@[simp] theorem State.setStatus_bpm (s : State) (code : Nat) : (s.setStatus code).bpm = s.bpm := rfl
@[simp] theorem State.setStatus_sch (s : State) (code : Nat) : (s.setStatus code).sch = s.sch := rfl
@[simp] theorem State.setStatus_log (s : State) (code : Nat) : (s.setStatus code).log = s.log := rfl
@[simp] theorem State.setStatus_power (s : State) (code : Nat) : (s.setStatus code).power = s.power := rfl
@[simp] theorem State.setStatus_clk (s : State) (code : Nat) : (s.setStatus code).clk = s.clk := rfl
@[simp] theorem State.setStatus_pwr (s : State) (code : Nat) : (s.setStatus code).pwr = s.pwr := rfl
@[simp] theorem State.setStatus_fio (s : State) (code : Nat) : (s.setStatus code).fio = s.fio := rfl
@[simp] theorem State.setStatus_pads (s : State) (code : Nat) : (s.setStatus code).pads = s.pads := rfl
@[simp] theorem State.setStatus_fresh (s : State) (code : Nat) : (s.setStatus code).fresh = s.fresh := rfl

/-! `present`. -/

@[simp] theorem State.present_pending (s : State) (code src : Nat) : (s.present code src).pending = s.pending := rfl
@[simp] theorem State.present_regs (s : State) (code src : Nat) : (s.present code src).regs = s.regs := rfl
@[simp] theorem State.present_bus (s : State) (code src : Nat) : (s.present code src).bus = s.bus := rfl
@[simp] theorem State.present_sys (s : State) (code src : Nat) : (s.present code src).sys = s.sys := rfl
@[simp] theorem State.present_engines (s : State) (code src : Nat) : (s.present code src).engines = s.engines := rfl
@[simp] theorem State.present_clock (s : State) (code src : Nat) : (s.present code src).clock = s.clock := rfl
@[simp] theorem State.present_tick (s : State) (code src : Nat) : (s.present code src).tick = s.tick := rfl
@[simp] theorem State.present_hif (s : State) (code src : Nat) : (s.present code src).hif = s.hif := rfl
@[simp] theorem State.present_chans (s : State) (code src : Nat) : (s.present code src).chans = s.chans := rfl
@[simp] theorem State.present_partners (s : State) (code src : Nat) : (s.present code src).partners = s.partners := rfl
@[simp] theorem State.present_gens (s : State) (code src : Nat) : (s.present code src).gens = s.gens := rfl
@[simp] theorem State.present_csi (s : State) (code src : Nat) : (s.present code src).csi = s.csi := rfl
@[simp] theorem State.present_usb (s : State) (code src : Nat) : (s.present code src).usb = s.usb := rfl
@[simp] theorem State.present_flows (s : State) (code src : Nat) : (s.present code src).flows = s.flows := rfl
@[simp] theorem State.present_queues (s : State) (code src : Nat) : (s.present code src).queues = s.queues := rfl
@[simp] theorem State.present_eth (s : State) (code src : Nat) : (s.present code src).eth = s.eth := rfl
@[simp] theorem State.present_cmp (s : State) (code src : Nat) : (s.present code src).cmp = s.cmp := rfl
@[simp] theorem State.present_displays (s : State) (code src : Nat) : (s.present code src).displays = s.displays := rfl
@[simp] theorem State.present_mem (s : State) (code src : Nat) : (s.present code src).mem = s.mem := rfl
@[simp] theorem State.present_bpm (s : State) (code src : Nat) : (s.present code src).bpm = s.bpm := rfl
@[simp] theorem State.present_sch (s : State) (code src : Nat) : (s.present code src).sch = s.sch := rfl
@[simp] theorem State.present_log (s : State) (code src : Nat) : (s.present code src).log = s.log := rfl
@[simp] theorem State.present_power (s : State) (code src : Nat) : (s.present code src).power = s.power := rfl
@[simp] theorem State.present_clk (s : State) (code src : Nat) : (s.present code src).clk = s.clk := rfl
@[simp] theorem State.present_pwr (s : State) (code src : Nat) : (s.present code src).pwr = s.pwr := rfl
@[simp] theorem State.present_fio (s : State) (code src : Nat) : (s.present code src).fio = s.fio := rfl
@[simp] theorem State.present_pads (s : State) (code src : Nat) : (s.present code src).pads = s.pads := rfl
@[simp] theorem State.present_fresh (s : State) (code src : Nat) : (s.present code src).fresh = s.fresh := rfl

/-! `gone`. -/

@[simp] theorem State.gone_pending (s : State) (code src : Nat) : (s.gone code src).pending = s.pending := rfl
@[simp] theorem State.gone_regs (s : State) (code src : Nat) : (s.gone code src).regs = s.regs := rfl
@[simp] theorem State.gone_bus (s : State) (code src : Nat) : (s.gone code src).bus = s.bus := rfl
@[simp] theorem State.gone_sys (s : State) (code src : Nat) : (s.gone code src).sys = s.sys := rfl
@[simp] theorem State.gone_engines (s : State) (code src : Nat) : (s.gone code src).engines = s.engines := rfl
@[simp] theorem State.gone_clock (s : State) (code src : Nat) : (s.gone code src).clock = s.clock := rfl
@[simp] theorem State.gone_tick (s : State) (code src : Nat) : (s.gone code src).tick = s.tick := rfl
@[simp] theorem State.gone_hif (s : State) (code src : Nat) : (s.gone code src).hif = s.hif := rfl
@[simp] theorem State.gone_chans (s : State) (code src : Nat) : (s.gone code src).chans = s.chans := rfl
@[simp] theorem State.gone_partners (s : State) (code src : Nat) : (s.gone code src).partners = s.partners := rfl
@[simp] theorem State.gone_gens (s : State) (code src : Nat) : (s.gone code src).gens = s.gens := rfl
@[simp] theorem State.gone_csi (s : State) (code src : Nat) : (s.gone code src).csi = s.csi := rfl
@[simp] theorem State.gone_usb (s : State) (code src : Nat) : (s.gone code src).usb = s.usb := rfl
@[simp] theorem State.gone_flows (s : State) (code src : Nat) : (s.gone code src).flows = s.flows := rfl
@[simp] theorem State.gone_queues (s : State) (code src : Nat) : (s.gone code src).queues = s.queues := rfl
@[simp] theorem State.gone_eth (s : State) (code src : Nat) : (s.gone code src).eth = s.eth := rfl
@[simp] theorem State.gone_cmp (s : State) (code src : Nat) : (s.gone code src).cmp = s.cmp := rfl
@[simp] theorem State.gone_displays (s : State) (code src : Nat) : (s.gone code src).displays = s.displays := rfl
@[simp] theorem State.gone_mem (s : State) (code src : Nat) : (s.gone code src).mem = s.mem := rfl
@[simp] theorem State.gone_bpm (s : State) (code src : Nat) : (s.gone code src).bpm = s.bpm := rfl
@[simp] theorem State.gone_sch (s : State) (code src : Nat) : (s.gone code src).sch = s.sch := rfl
@[simp] theorem State.gone_log (s : State) (code src : Nat) : (s.gone code src).log = s.log := rfl
@[simp] theorem State.gone_power (s : State) (code src : Nat) : (s.gone code src).power = s.power := rfl
@[simp] theorem State.gone_clk (s : State) (code src : Nat) : (s.gone code src).clk = s.clk := rfl
@[simp] theorem State.gone_pwr (s : State) (code src : Nat) : (s.gone code src).pwr = s.pwr := rfl
@[simp] theorem State.gone_fio (s : State) (code src : Nat) : (s.gone code src).fio = s.fio := rfl
@[simp] theorem State.gone_pads (s : State) (code src : Nat) : (s.gone code src).pads = s.pads := rfl
@[simp] theorem State.gone_fresh (s : State) (code src : Nat) : (s.gone code src).fresh = s.fresh := rfl

/-! `sendMsi`. -/

@[simp] theorem State.sendMsi_pending (s : State) (v : Nat) : (s.sendMsi v).pending = s.pending := rfl
@[simp] theorem State.sendMsi_regs (s : State) (v : Nat) : (s.sendMsi v).regs = s.regs := rfl
@[simp] theorem State.sendMsi_sys (s : State) (v : Nat) : (s.sendMsi v).sys = s.sys := rfl
@[simp] theorem State.sendMsi_engines (s : State) (v : Nat) : (s.sendMsi v).engines = s.engines := rfl
@[simp] theorem State.sendMsi_clock (s : State) (v : Nat) : (s.sendMsi v).clock = s.clock := rfl
@[simp] theorem State.sendMsi_tick (s : State) (v : Nat) : (s.sendMsi v).tick = s.tick := rfl
@[simp] theorem State.sendMsi_hif (s : State) (v : Nat) : (s.sendMsi v).hif = s.hif := rfl
@[simp] theorem State.sendMsi_chans (s : State) (v : Nat) : (s.sendMsi v).chans = s.chans := rfl
@[simp] theorem State.sendMsi_partners (s : State) (v : Nat) : (s.sendMsi v).partners = s.partners := rfl
@[simp] theorem State.sendMsi_gens (s : State) (v : Nat) : (s.sendMsi v).gens = s.gens := rfl
@[simp] theorem State.sendMsi_csi (s : State) (v : Nat) : (s.sendMsi v).csi = s.csi := rfl
@[simp] theorem State.sendMsi_usb (s : State) (v : Nat) : (s.sendMsi v).usb = s.usb := rfl
@[simp] theorem State.sendMsi_flows (s : State) (v : Nat) : (s.sendMsi v).flows = s.flows := rfl
@[simp] theorem State.sendMsi_queues (s : State) (v : Nat) : (s.sendMsi v).queues = s.queues := rfl
@[simp] theorem State.sendMsi_eth (s : State) (v : Nat) : (s.sendMsi v).eth = s.eth := rfl
@[simp] theorem State.sendMsi_cmp (s : State) (v : Nat) : (s.sendMsi v).cmp = s.cmp := rfl
@[simp] theorem State.sendMsi_displays (s : State) (v : Nat) : (s.sendMsi v).displays = s.displays := rfl
@[simp] theorem State.sendMsi_mem (s : State) (v : Nat) : (s.sendMsi v).mem = s.mem := rfl
@[simp] theorem State.sendMsi_bpm (s : State) (v : Nat) : (s.sendMsi v).bpm = s.bpm := rfl
@[simp] theorem State.sendMsi_sch (s : State) (v : Nat) : (s.sendMsi v).sch = s.sch := rfl
@[simp] theorem State.sendMsi_log (s : State) (v : Nat) : (s.sendMsi v).log = s.log := rfl
@[simp] theorem State.sendMsi_guard (s : State) (v : Nat) : (s.sendMsi v).guard = s.guard := rfl
@[simp] theorem State.sendMsi_power (s : State) (v : Nat) : (s.sendMsi v).power = s.power := rfl
@[simp] theorem State.sendMsi_clk (s : State) (v : Nat) : (s.sendMsi v).clk = s.clk := rfl
@[simp] theorem State.sendMsi_pwr (s : State) (v : Nat) : (s.sendMsi v).pwr = s.pwr := rfl
@[simp] theorem State.sendMsi_fio (s : State) (v : Nat) : (s.sendMsi v).fio = s.fio := rfl
@[simp] theorem State.sendMsi_pads (s : State) (v : Nat) : (s.sendMsi v).pads = s.pads := rfl
@[simp] theorem State.sendMsi_fresh (s : State) (v : Nat) : (s.sendMsi v).fresh = s.fresh := rfl

/-! `hostWrite`. -/

@[simp] theorem State.hostWrite_pending (s : State) (a : Nat) (bs : List Byte) : (s.hostWrite a bs).pending = s.pending := rfl
@[simp] theorem State.hostWrite_regs (s : State) (a : Nat) (bs : List Byte) : (s.hostWrite a bs).regs = s.regs := rfl
@[simp] theorem State.hostWrite_bus (s : State) (a : Nat) (bs : List Byte) : (s.hostWrite a bs).bus = s.bus := rfl
@[simp] theorem State.hostWrite_sys (s : State) (a : Nat) (bs : List Byte) : (s.hostWrite a bs).sys = s.sys := rfl
@[simp] theorem State.hostWrite_engines (s : State) (a : Nat) (bs : List Byte) : (s.hostWrite a bs).engines = s.engines := rfl
@[simp] theorem State.hostWrite_clock (s : State) (a : Nat) (bs : List Byte) : (s.hostWrite a bs).clock = s.clock := rfl
@[simp] theorem State.hostWrite_tick (s : State) (a : Nat) (bs : List Byte) : (s.hostWrite a bs).tick = s.tick := rfl
@[simp] theorem State.hostWrite_hif (s : State) (a : Nat) (bs : List Byte) : (s.hostWrite a bs).hif = s.hif := rfl
@[simp] theorem State.hostWrite_chans (s : State) (a : Nat) (bs : List Byte) : (s.hostWrite a bs).chans = s.chans := rfl
@[simp] theorem State.hostWrite_partners (s : State) (a : Nat) (bs : List Byte) : (s.hostWrite a bs).partners = s.partners := rfl
@[simp] theorem State.hostWrite_gens (s : State) (a : Nat) (bs : List Byte) : (s.hostWrite a bs).gens = s.gens := rfl
@[simp] theorem State.hostWrite_csi (s : State) (a : Nat) (bs : List Byte) : (s.hostWrite a bs).csi = s.csi := rfl
@[simp] theorem State.hostWrite_usb (s : State) (a : Nat) (bs : List Byte) : (s.hostWrite a bs).usb = s.usb := rfl
@[simp] theorem State.hostWrite_flows (s : State) (a : Nat) (bs : List Byte) : (s.hostWrite a bs).flows = s.flows := rfl
@[simp] theorem State.hostWrite_queues (s : State) (a : Nat) (bs : List Byte) : (s.hostWrite a bs).queues = s.queues := rfl
@[simp] theorem State.hostWrite_eth (s : State) (a : Nat) (bs : List Byte) : (s.hostWrite a bs).eth = s.eth := rfl
@[simp] theorem State.hostWrite_cmp (s : State) (a : Nat) (bs : List Byte) : (s.hostWrite a bs).cmp = s.cmp := rfl
@[simp] theorem State.hostWrite_displays (s : State) (a : Nat) (bs : List Byte) : (s.hostWrite a bs).displays = s.displays := rfl
@[simp] theorem State.hostWrite_bpm (s : State) (a : Nat) (bs : List Byte) : (s.hostWrite a bs).bpm = s.bpm := rfl
@[simp] theorem State.hostWrite_sch (s : State) (a : Nat) (bs : List Byte) : (s.hostWrite a bs).sch = s.sch := rfl
@[simp] theorem State.hostWrite_log (s : State) (a : Nat) (bs : List Byte) : (s.hostWrite a bs).log = s.log := rfl
@[simp] theorem State.hostWrite_guard (s : State) (a : Nat) (bs : List Byte) : (s.hostWrite a bs).guard = s.guard := rfl
@[simp] theorem State.hostWrite_power (s : State) (a : Nat) (bs : List Byte) : (s.hostWrite a bs).power = s.power := rfl
@[simp] theorem State.hostWrite_clk (s : State) (a : Nat) (bs : List Byte) : (s.hostWrite a bs).clk = s.clk := rfl
@[simp] theorem State.hostWrite_pwr (s : State) (a : Nat) (bs : List Byte) : (s.hostWrite a bs).pwr = s.pwr := rfl
@[simp] theorem State.hostWrite_fio (s : State) (a : Nat) (bs : List Byte) : (s.hostWrite a bs).fio = s.fio := rfl
@[simp] theorem State.hostWrite_pads (s : State) (a : Nat) (bs : List Byte) : (s.hostWrite a bs).pads = s.pads := rfl
@[simp] theorem State.hostWrite_fresh (s : State) (a : Nat) (bs : List Byte) : (s.hostWrite a bs).fresh = s.fresh := rfl

/-! `setSq`. -/

@[simp] theorem State.setSq_pending (s : State) (n : Nat) (q : Sq) : (s.setSq n q).pending = s.pending := rfl
@[simp] theorem State.setSq_regs (s : State) (n : Nat) (q : Sq) : (s.setSq n q).regs = s.regs := rfl
@[simp] theorem State.setSq_bus (s : State) (n : Nat) (q : Sq) : (s.setSq n q).bus = s.bus := rfl
@[simp] theorem State.setSq_sys (s : State) (n : Nat) (q : Sq) : (s.setSq n q).sys = s.sys := rfl
@[simp] theorem State.setSq_engines (s : State) (n : Nat) (q : Sq) : (s.setSq n q).engines = s.engines := rfl
@[simp] theorem State.setSq_clock (s : State) (n : Nat) (q : Sq) : (s.setSq n q).clock = s.clock := rfl
@[simp] theorem State.setSq_tick (s : State) (n : Nat) (q : Sq) : (s.setSq n q).tick = s.tick := rfl
@[simp] theorem State.setSq_chans (s : State) (n : Nat) (q : Sq) : (s.setSq n q).chans = s.chans := rfl
@[simp] theorem State.setSq_partners (s : State) (n : Nat) (q : Sq) : (s.setSq n q).partners = s.partners := rfl
@[simp] theorem State.setSq_gens (s : State) (n : Nat) (q : Sq) : (s.setSq n q).gens = s.gens := rfl
@[simp] theorem State.setSq_csi (s : State) (n : Nat) (q : Sq) : (s.setSq n q).csi = s.csi := rfl
@[simp] theorem State.setSq_usb (s : State) (n : Nat) (q : Sq) : (s.setSq n q).usb = s.usb := rfl
@[simp] theorem State.setSq_flows (s : State) (n : Nat) (q : Sq) : (s.setSq n q).flows = s.flows := rfl
@[simp] theorem State.setSq_queues (s : State) (n : Nat) (q : Sq) : (s.setSq n q).queues = s.queues := rfl
@[simp] theorem State.setSq_eth (s : State) (n : Nat) (q : Sq) : (s.setSq n q).eth = s.eth := rfl
@[simp] theorem State.setSq_cmp (s : State) (n : Nat) (q : Sq) : (s.setSq n q).cmp = s.cmp := rfl
@[simp] theorem State.setSq_displays (s : State) (n : Nat) (q : Sq) : (s.setSq n q).displays = s.displays := rfl
@[simp] theorem State.setSq_mem (s : State) (n : Nat) (q : Sq) : (s.setSq n q).mem = s.mem := rfl
@[simp] theorem State.setSq_bpm (s : State) (n : Nat) (q : Sq) : (s.setSq n q).bpm = s.bpm := rfl
@[simp] theorem State.setSq_sch (s : State) (n : Nat) (q : Sq) : (s.setSq n q).sch = s.sch := rfl
@[simp] theorem State.setSq_log (s : State) (n : Nat) (q : Sq) : (s.setSq n q).log = s.log := rfl
@[simp] theorem State.setSq_guard (s : State) (n : Nat) (q : Sq) : (s.setSq n q).guard = s.guard := rfl
@[simp] theorem State.setSq_power (s : State) (n : Nat) (q : Sq) : (s.setSq n q).power = s.power := rfl
@[simp] theorem State.setSq_clk (s : State) (n : Nat) (q : Sq) : (s.setSq n q).clk = s.clk := rfl
@[simp] theorem State.setSq_pwr (s : State) (n : Nat) (q : Sq) : (s.setSq n q).pwr = s.pwr := rfl
@[simp] theorem State.setSq_fio (s : State) (n : Nat) (q : Sq) : (s.setSq n q).fio = s.fio := rfl
@[simp] theorem State.setSq_pads (s : State) (n : Nat) (q : Sq) : (s.setSq n q).pads = s.pads := rfl
@[simp] theorem State.setSq_fresh (s : State) (n : Nat) (q : Sq) : (s.setSq n q).fresh = s.fresh := rfl

/-! `setCq`. -/

@[simp] theorem State.setCq_pending (s : State) (n : Nat) (q : Cq) : (s.setCq n q).pending = s.pending := rfl
@[simp] theorem State.setCq_regs (s : State) (n : Nat) (q : Cq) : (s.setCq n q).regs = s.regs := rfl
@[simp] theorem State.setCq_bus (s : State) (n : Nat) (q : Cq) : (s.setCq n q).bus = s.bus := rfl
@[simp] theorem State.setCq_sys (s : State) (n : Nat) (q : Cq) : (s.setCq n q).sys = s.sys := rfl
@[simp] theorem State.setCq_engines (s : State) (n : Nat) (q : Cq) : (s.setCq n q).engines = s.engines := rfl
@[simp] theorem State.setCq_clock (s : State) (n : Nat) (q : Cq) : (s.setCq n q).clock = s.clock := rfl
@[simp] theorem State.setCq_tick (s : State) (n : Nat) (q : Cq) : (s.setCq n q).tick = s.tick := rfl
@[simp] theorem State.setCq_chans (s : State) (n : Nat) (q : Cq) : (s.setCq n q).chans = s.chans := rfl
@[simp] theorem State.setCq_partners (s : State) (n : Nat) (q : Cq) : (s.setCq n q).partners = s.partners := rfl
@[simp] theorem State.setCq_gens (s : State) (n : Nat) (q : Cq) : (s.setCq n q).gens = s.gens := rfl
@[simp] theorem State.setCq_csi (s : State) (n : Nat) (q : Cq) : (s.setCq n q).csi = s.csi := rfl
@[simp] theorem State.setCq_usb (s : State) (n : Nat) (q : Cq) : (s.setCq n q).usb = s.usb := rfl
@[simp] theorem State.setCq_flows (s : State) (n : Nat) (q : Cq) : (s.setCq n q).flows = s.flows := rfl
@[simp] theorem State.setCq_queues (s : State) (n : Nat) (q : Cq) : (s.setCq n q).queues = s.queues := rfl
@[simp] theorem State.setCq_eth (s : State) (n : Nat) (q : Cq) : (s.setCq n q).eth = s.eth := rfl
@[simp] theorem State.setCq_cmp (s : State) (n : Nat) (q : Cq) : (s.setCq n q).cmp = s.cmp := rfl
@[simp] theorem State.setCq_displays (s : State) (n : Nat) (q : Cq) : (s.setCq n q).displays = s.displays := rfl
@[simp] theorem State.setCq_mem (s : State) (n : Nat) (q : Cq) : (s.setCq n q).mem = s.mem := rfl
@[simp] theorem State.setCq_bpm (s : State) (n : Nat) (q : Cq) : (s.setCq n q).bpm = s.bpm := rfl
@[simp] theorem State.setCq_sch (s : State) (n : Nat) (q : Cq) : (s.setCq n q).sch = s.sch := rfl
@[simp] theorem State.setCq_log (s : State) (n : Nat) (q : Cq) : (s.setCq n q).log = s.log := rfl
@[simp] theorem State.setCq_guard (s : State) (n : Nat) (q : Cq) : (s.setCq n q).guard = s.guard := rfl
@[simp] theorem State.setCq_power (s : State) (n : Nat) (q : Cq) : (s.setCq n q).power = s.power := rfl
@[simp] theorem State.setCq_clk (s : State) (n : Nat) (q : Cq) : (s.setCq n q).clk = s.clk := rfl
@[simp] theorem State.setCq_pwr (s : State) (n : Nat) (q : Cq) : (s.setCq n q).pwr = s.pwr := rfl
@[simp] theorem State.setCq_fio (s : State) (n : Nat) (q : Cq) : (s.setCq n q).fio = s.fio := rfl
@[simp] theorem State.setCq_pads (s : State) (n : Nat) (q : Cq) : (s.setCq n q).pads = s.pads := rfl
@[simp] theorem State.setCq_fresh (s : State) (n : Nat) (q : Cq) : (s.setCq n q).fresh = s.fresh := rfl

/-! `modJob`. -/

@[simp] theorem State.modJob_pending (s : State) (id : Nat) (f : Job → Job) : (s.modJob id f).pending = s.pending := rfl
@[simp] theorem State.modJob_regs (s : State) (id : Nat) (f : Job → Job) : (s.modJob id f).regs = s.regs := rfl
@[simp] theorem State.modJob_bus (s : State) (id : Nat) (f : Job → Job) : (s.modJob id f).bus = s.bus := rfl
@[simp] theorem State.modJob_sys (s : State) (id : Nat) (f : Job → Job) : (s.modJob id f).sys = s.sys := rfl
@[simp] theorem State.modJob_engines (s : State) (id : Nat) (f : Job → Job) : (s.modJob id f).engines = s.engines := rfl
@[simp] theorem State.modJob_clock (s : State) (id : Nat) (f : Job → Job) : (s.modJob id f).clock = s.clock := rfl
@[simp] theorem State.modJob_tick (s : State) (id : Nat) (f : Job → Job) : (s.modJob id f).tick = s.tick := rfl
@[simp] theorem State.modJob_chans (s : State) (id : Nat) (f : Job → Job) : (s.modJob id f).chans = s.chans := rfl
@[simp] theorem State.modJob_partners (s : State) (id : Nat) (f : Job → Job) : (s.modJob id f).partners = s.partners := rfl
@[simp] theorem State.modJob_gens (s : State) (id : Nat) (f : Job → Job) : (s.modJob id f).gens = s.gens := rfl
@[simp] theorem State.modJob_csi (s : State) (id : Nat) (f : Job → Job) : (s.modJob id f).csi = s.csi := rfl
@[simp] theorem State.modJob_usb (s : State) (id : Nat) (f : Job → Job) : (s.modJob id f).usb = s.usb := rfl
@[simp] theorem State.modJob_flows (s : State) (id : Nat) (f : Job → Job) : (s.modJob id f).flows = s.flows := rfl
@[simp] theorem State.modJob_queues (s : State) (id : Nat) (f : Job → Job) : (s.modJob id f).queues = s.queues := rfl
@[simp] theorem State.modJob_eth (s : State) (id : Nat) (f : Job → Job) : (s.modJob id f).eth = s.eth := rfl
@[simp] theorem State.modJob_cmp (s : State) (id : Nat) (f : Job → Job) : (s.modJob id f).cmp = s.cmp := rfl
@[simp] theorem State.modJob_displays (s : State) (id : Nat) (f : Job → Job) : (s.modJob id f).displays = s.displays := rfl
@[simp] theorem State.modJob_mem (s : State) (id : Nat) (f : Job → Job) : (s.modJob id f).mem = s.mem := rfl
@[simp] theorem State.modJob_bpm (s : State) (id : Nat) (f : Job → Job) : (s.modJob id f).bpm = s.bpm := rfl
@[simp] theorem State.modJob_sch (s : State) (id : Nat) (f : Job → Job) : (s.modJob id f).sch = s.sch := rfl
@[simp] theorem State.modJob_log (s : State) (id : Nat) (f : Job → Job) : (s.modJob id f).log = s.log := rfl
@[simp] theorem State.modJob_guard (s : State) (id : Nat) (f : Job → Job) : (s.modJob id f).guard = s.guard := rfl
@[simp] theorem State.modJob_power (s : State) (id : Nat) (f : Job → Job) : (s.modJob id f).power = s.power := rfl
@[simp] theorem State.modJob_clk (s : State) (id : Nat) (f : Job → Job) : (s.modJob id f).clk = s.clk := rfl
@[simp] theorem State.modJob_pwr (s : State) (id : Nat) (f : Job → Job) : (s.modJob id f).pwr = s.pwr := rfl
@[simp] theorem State.modJob_fio (s : State) (id : Nat) (f : Job → Job) : (s.modJob id f).fio = s.fio := rfl
@[simp] theorem State.modJob_pads (s : State) (id : Nat) (f : Job → Job) : (s.modJob id f).pads = s.pads := rfl
@[simp] theorem State.modJob_fresh (s : State) (id : Nat) (f : Job → Job) : (s.modJob id f).fresh = s.fresh := rfl

/-! `setChan`. -/

@[simp] theorem State.setChan_pending (s : State) (n : Nat) (c : Channel) : (s.setChan n c).pending = s.pending := rfl
@[simp] theorem State.setChan_regs (s : State) (n : Nat) (c : Channel) : (s.setChan n c).regs = s.regs := rfl
@[simp] theorem State.setChan_bus (s : State) (n : Nat) (c : Channel) : (s.setChan n c).bus = s.bus := rfl
@[simp] theorem State.setChan_sys (s : State) (n : Nat) (c : Channel) : (s.setChan n c).sys = s.sys := rfl
@[simp] theorem State.setChan_engines (s : State) (n : Nat) (c : Channel) : (s.setChan n c).engines = s.engines := rfl
@[simp] theorem State.setChan_clock (s : State) (n : Nat) (c : Channel) : (s.setChan n c).clock = s.clock := rfl
@[simp] theorem State.setChan_tick (s : State) (n : Nat) (c : Channel) : (s.setChan n c).tick = s.tick := rfl
@[simp] theorem State.setChan_hif (s : State) (n : Nat) (c : Channel) : (s.setChan n c).hif = s.hif := rfl
@[simp] theorem State.setChan_partners (s : State) (n : Nat) (c : Channel) : (s.setChan n c).partners = s.partners := rfl
@[simp] theorem State.setChan_gens (s : State) (n : Nat) (c : Channel) : (s.setChan n c).gens = s.gens := rfl
@[simp] theorem State.setChan_csi (s : State) (n : Nat) (c : Channel) : (s.setChan n c).csi = s.csi := rfl
@[simp] theorem State.setChan_usb (s : State) (n : Nat) (c : Channel) : (s.setChan n c).usb = s.usb := rfl
@[simp] theorem State.setChan_flows (s : State) (n : Nat) (c : Channel) : (s.setChan n c).flows = s.flows := rfl
@[simp] theorem State.setChan_queues (s : State) (n : Nat) (c : Channel) : (s.setChan n c).queues = s.queues := rfl
@[simp] theorem State.setChan_eth (s : State) (n : Nat) (c : Channel) : (s.setChan n c).eth = s.eth := rfl
@[simp] theorem State.setChan_cmp (s : State) (n : Nat) (c : Channel) : (s.setChan n c).cmp = s.cmp := rfl
@[simp] theorem State.setChan_displays (s : State) (n : Nat) (c : Channel) : (s.setChan n c).displays = s.displays := rfl
@[simp] theorem State.setChan_mem (s : State) (n : Nat) (c : Channel) : (s.setChan n c).mem = s.mem := rfl
@[simp] theorem State.setChan_bpm (s : State) (n : Nat) (c : Channel) : (s.setChan n c).bpm = s.bpm := rfl
@[simp] theorem State.setChan_sch (s : State) (n : Nat) (c : Channel) : (s.setChan n c).sch = s.sch := rfl
@[simp] theorem State.setChan_log (s : State) (n : Nat) (c : Channel) : (s.setChan n c).log = s.log := rfl
@[simp] theorem State.setChan_guard (s : State) (n : Nat) (c : Channel) : (s.setChan n c).guard = s.guard := rfl
@[simp] theorem State.setChan_power (s : State) (n : Nat) (c : Channel) : (s.setChan n c).power = s.power := rfl
@[simp] theorem State.setChan_clk (s : State) (n : Nat) (c : Channel) : (s.setChan n c).clk = s.clk := rfl
@[simp] theorem State.setChan_pwr (s : State) (n : Nat) (c : Channel) : (s.setChan n c).pwr = s.pwr := rfl
@[simp] theorem State.setChan_fio (s : State) (n : Nat) (c : Channel) : (s.setChan n c).fio = s.fio := rfl
@[simp] theorem State.setChan_pads (s : State) (n : Nat) (c : Channel) : (s.setChan n c).pads = s.pads := rfl
@[simp] theorem State.setChan_fresh (s : State) (n : Nat) (c : Channel) : (s.setChan n c).fresh = s.fresh := rfl

/-! `setPartner`. -/

@[simp] theorem State.setPartner_pending (s : State) (p : Nat) (x : Partner) : (s.setPartner p x).pending = s.pending := rfl
@[simp] theorem State.setPartner_regs (s : State) (p : Nat) (x : Partner) : (s.setPartner p x).regs = s.regs := rfl
@[simp] theorem State.setPartner_bus (s : State) (p : Nat) (x : Partner) : (s.setPartner p x).bus = s.bus := rfl
@[simp] theorem State.setPartner_sys (s : State) (p : Nat) (x : Partner) : (s.setPartner p x).sys = s.sys := rfl
@[simp] theorem State.setPartner_engines (s : State) (p : Nat) (x : Partner) : (s.setPartner p x).engines = s.engines := rfl
@[simp] theorem State.setPartner_clock (s : State) (p : Nat) (x : Partner) : (s.setPartner p x).clock = s.clock := rfl
@[simp] theorem State.setPartner_tick (s : State) (p : Nat) (x : Partner) : (s.setPartner p x).tick = s.tick := rfl
@[simp] theorem State.setPartner_hif (s : State) (p : Nat) (x : Partner) : (s.setPartner p x).hif = s.hif := rfl
@[simp] theorem State.setPartner_chans (s : State) (p : Nat) (x : Partner) : (s.setPartner p x).chans = s.chans := rfl
@[simp] theorem State.setPartner_gens (s : State) (p : Nat) (x : Partner) : (s.setPartner p x).gens = s.gens := rfl
@[simp] theorem State.setPartner_csi (s : State) (p : Nat) (x : Partner) : (s.setPartner p x).csi = s.csi := rfl
@[simp] theorem State.setPartner_usb (s : State) (p : Nat) (x : Partner) : (s.setPartner p x).usb = s.usb := rfl
@[simp] theorem State.setPartner_flows (s : State) (p : Nat) (x : Partner) : (s.setPartner p x).flows = s.flows := rfl
@[simp] theorem State.setPartner_queues (s : State) (p : Nat) (x : Partner) : (s.setPartner p x).queues = s.queues := rfl
@[simp] theorem State.setPartner_eth (s : State) (p : Nat) (x : Partner) : (s.setPartner p x).eth = s.eth := rfl
@[simp] theorem State.setPartner_cmp (s : State) (p : Nat) (x : Partner) : (s.setPartner p x).cmp = s.cmp := rfl
@[simp] theorem State.setPartner_displays (s : State) (p : Nat) (x : Partner) : (s.setPartner p x).displays = s.displays := rfl
@[simp] theorem State.setPartner_mem (s : State) (p : Nat) (x : Partner) : (s.setPartner p x).mem = s.mem := rfl
@[simp] theorem State.setPartner_bpm (s : State) (p : Nat) (x : Partner) : (s.setPartner p x).bpm = s.bpm := rfl
@[simp] theorem State.setPartner_sch (s : State) (p : Nat) (x : Partner) : (s.setPartner p x).sch = s.sch := rfl
@[simp] theorem State.setPartner_log (s : State) (p : Nat) (x : Partner) : (s.setPartner p x).log = s.log := rfl
@[simp] theorem State.setPartner_guard (s : State) (p : Nat) (x : Partner) : (s.setPartner p x).guard = s.guard := rfl
@[simp] theorem State.setPartner_power (s : State) (p : Nat) (x : Partner) : (s.setPartner p x).power = s.power := rfl
@[simp] theorem State.setPartner_clk (s : State) (p : Nat) (x : Partner) : (s.setPartner p x).clk = s.clk := rfl
@[simp] theorem State.setPartner_pwr (s : State) (p : Nat) (x : Partner) : (s.setPartner p x).pwr = s.pwr := rfl
@[simp] theorem State.setPartner_fio (s : State) (p : Nat) (x : Partner) : (s.setPartner p x).fio = s.fio := rfl
@[simp] theorem State.setPartner_pads (s : State) (p : Nat) (x : Partner) : (s.setPartner p x).pads = s.pads := rfl
@[simp] theorem State.setPartner_fresh (s : State) (p : Nat) (x : Partner) : (s.setPartner p x).fresh = s.fresh := rfl

/-! `modCsi`. -/

@[simp] theorem State.modCsi_pending (s : State) (p : Nat) (f : CsiPort → CsiPort) : (s.modCsi p f).pending = s.pending := rfl
@[simp] theorem State.modCsi_regs (s : State) (p : Nat) (f : CsiPort → CsiPort) : (s.modCsi p f).regs = s.regs := rfl
@[simp] theorem State.modCsi_bus (s : State) (p : Nat) (f : CsiPort → CsiPort) : (s.modCsi p f).bus = s.bus := rfl
@[simp] theorem State.modCsi_sys (s : State) (p : Nat) (f : CsiPort → CsiPort) : (s.modCsi p f).sys = s.sys := rfl
@[simp] theorem State.modCsi_engines (s : State) (p : Nat) (f : CsiPort → CsiPort) : (s.modCsi p f).engines = s.engines := rfl
@[simp] theorem State.modCsi_clock (s : State) (p : Nat) (f : CsiPort → CsiPort) : (s.modCsi p f).clock = s.clock := rfl
@[simp] theorem State.modCsi_tick (s : State) (p : Nat) (f : CsiPort → CsiPort) : (s.modCsi p f).tick = s.tick := rfl
@[simp] theorem State.modCsi_hif (s : State) (p : Nat) (f : CsiPort → CsiPort) : (s.modCsi p f).hif = s.hif := rfl
@[simp] theorem State.modCsi_chans (s : State) (p : Nat) (f : CsiPort → CsiPort) : (s.modCsi p f).chans = s.chans := rfl
@[simp] theorem State.modCsi_partners (s : State) (p : Nat) (f : CsiPort → CsiPort) : (s.modCsi p f).partners = s.partners := rfl
@[simp] theorem State.modCsi_gens (s : State) (p : Nat) (f : CsiPort → CsiPort) : (s.modCsi p f).gens = s.gens := rfl
@[simp] theorem State.modCsi_usb (s : State) (p : Nat) (f : CsiPort → CsiPort) : (s.modCsi p f).usb = s.usb := rfl
@[simp] theorem State.modCsi_flows (s : State) (p : Nat) (f : CsiPort → CsiPort) : (s.modCsi p f).flows = s.flows := rfl
@[simp] theorem State.modCsi_queues (s : State) (p : Nat) (f : CsiPort → CsiPort) : (s.modCsi p f).queues = s.queues := rfl
@[simp] theorem State.modCsi_eth (s : State) (p : Nat) (f : CsiPort → CsiPort) : (s.modCsi p f).eth = s.eth := rfl
@[simp] theorem State.modCsi_cmp (s : State) (p : Nat) (f : CsiPort → CsiPort) : (s.modCsi p f).cmp = s.cmp := rfl
@[simp] theorem State.modCsi_displays (s : State) (p : Nat) (f : CsiPort → CsiPort) : (s.modCsi p f).displays = s.displays := rfl
@[simp] theorem State.modCsi_mem (s : State) (p : Nat) (f : CsiPort → CsiPort) : (s.modCsi p f).mem = s.mem := rfl
@[simp] theorem State.modCsi_bpm (s : State) (p : Nat) (f : CsiPort → CsiPort) : (s.modCsi p f).bpm = s.bpm := rfl
@[simp] theorem State.modCsi_sch (s : State) (p : Nat) (f : CsiPort → CsiPort) : (s.modCsi p f).sch = s.sch := rfl
@[simp] theorem State.modCsi_log (s : State) (p : Nat) (f : CsiPort → CsiPort) : (s.modCsi p f).log = s.log := rfl
@[simp] theorem State.modCsi_guard (s : State) (p : Nat) (f : CsiPort → CsiPort) : (s.modCsi p f).guard = s.guard := rfl
@[simp] theorem State.modCsi_power (s : State) (p : Nat) (f : CsiPort → CsiPort) : (s.modCsi p f).power = s.power := rfl
@[simp] theorem State.modCsi_clk (s : State) (p : Nat) (f : CsiPort → CsiPort) : (s.modCsi p f).clk = s.clk := rfl
@[simp] theorem State.modCsi_pwr (s : State) (p : Nat) (f : CsiPort → CsiPort) : (s.modCsi p f).pwr = s.pwr := rfl
@[simp] theorem State.modCsi_fio (s : State) (p : Nat) (f : CsiPort → CsiPort) : (s.modCsi p f).fio = s.fio := rfl
@[simp] theorem State.modCsi_pads (s : State) (p : Nat) (f : CsiPort → CsiPort) : (s.modCsi p f).pads = s.pads := rfl
@[simp] theorem State.modCsi_fresh (s : State) (p : Nat) (f : CsiPort → CsiPort) : (s.modCsi p f).fresh = s.fresh := rfl

/-! `modUsb`. -/

@[simp] theorem State.modUsb_pending (s : State) (n : Nat) (f : UsbPort → UsbPort) : (s.modUsb n f).pending = s.pending := rfl
@[simp] theorem State.modUsb_regs (s : State) (n : Nat) (f : UsbPort → UsbPort) : (s.modUsb n f).regs = s.regs := rfl
@[simp] theorem State.modUsb_bus (s : State) (n : Nat) (f : UsbPort → UsbPort) : (s.modUsb n f).bus = s.bus := rfl
@[simp] theorem State.modUsb_sys (s : State) (n : Nat) (f : UsbPort → UsbPort) : (s.modUsb n f).sys = s.sys := rfl
@[simp] theorem State.modUsb_engines (s : State) (n : Nat) (f : UsbPort → UsbPort) : (s.modUsb n f).engines = s.engines := rfl
@[simp] theorem State.modUsb_clock (s : State) (n : Nat) (f : UsbPort → UsbPort) : (s.modUsb n f).clock = s.clock := rfl
@[simp] theorem State.modUsb_tick (s : State) (n : Nat) (f : UsbPort → UsbPort) : (s.modUsb n f).tick = s.tick := rfl
@[simp] theorem State.modUsb_hif (s : State) (n : Nat) (f : UsbPort → UsbPort) : (s.modUsb n f).hif = s.hif := rfl
@[simp] theorem State.modUsb_chans (s : State) (n : Nat) (f : UsbPort → UsbPort) : (s.modUsb n f).chans = s.chans := rfl
@[simp] theorem State.modUsb_partners (s : State) (n : Nat) (f : UsbPort → UsbPort) : (s.modUsb n f).partners = s.partners := rfl
@[simp] theorem State.modUsb_gens (s : State) (n : Nat) (f : UsbPort → UsbPort) : (s.modUsb n f).gens = s.gens := rfl
@[simp] theorem State.modUsb_csi (s : State) (n : Nat) (f : UsbPort → UsbPort) : (s.modUsb n f).csi = s.csi := rfl
@[simp] theorem State.modUsb_flows (s : State) (n : Nat) (f : UsbPort → UsbPort) : (s.modUsb n f).flows = s.flows := rfl
@[simp] theorem State.modUsb_queues (s : State) (n : Nat) (f : UsbPort → UsbPort) : (s.modUsb n f).queues = s.queues := rfl
@[simp] theorem State.modUsb_eth (s : State) (n : Nat) (f : UsbPort → UsbPort) : (s.modUsb n f).eth = s.eth := rfl
@[simp] theorem State.modUsb_cmp (s : State) (n : Nat) (f : UsbPort → UsbPort) : (s.modUsb n f).cmp = s.cmp := rfl
@[simp] theorem State.modUsb_displays (s : State) (n : Nat) (f : UsbPort → UsbPort) : (s.modUsb n f).displays = s.displays := rfl
@[simp] theorem State.modUsb_mem (s : State) (n : Nat) (f : UsbPort → UsbPort) : (s.modUsb n f).mem = s.mem := rfl
@[simp] theorem State.modUsb_bpm (s : State) (n : Nat) (f : UsbPort → UsbPort) : (s.modUsb n f).bpm = s.bpm := rfl
@[simp] theorem State.modUsb_sch (s : State) (n : Nat) (f : UsbPort → UsbPort) : (s.modUsb n f).sch = s.sch := rfl
@[simp] theorem State.modUsb_log (s : State) (n : Nat) (f : UsbPort → UsbPort) : (s.modUsb n f).log = s.log := rfl
@[simp] theorem State.modUsb_guard (s : State) (n : Nat) (f : UsbPort → UsbPort) : (s.modUsb n f).guard = s.guard := rfl
@[simp] theorem State.modUsb_power (s : State) (n : Nat) (f : UsbPort → UsbPort) : (s.modUsb n f).power = s.power := rfl
@[simp] theorem State.modUsb_clk (s : State) (n : Nat) (f : UsbPort → UsbPort) : (s.modUsb n f).clk = s.clk := rfl
@[simp] theorem State.modUsb_pwr (s : State) (n : Nat) (f : UsbPort → UsbPort) : (s.modUsb n f).pwr = s.pwr := rfl
@[simp] theorem State.modUsb_fio (s : State) (n : Nat) (f : UsbPort → UsbPort) : (s.modUsb n f).fio = s.fio := rfl
@[simp] theorem State.modUsb_pads (s : State) (n : Nat) (f : UsbPort → UsbPort) : (s.modUsb n f).pads = s.pads := rfl
@[simp] theorem State.modUsb_fresh (s : State) (n : Nat) (f : UsbPort → UsbPort) : (s.modUsb n f).fresh = s.fresh := rfl

/-! `setFlow`. -/

@[simp] theorem State.setFlow_pending (s : State) (f : Nat) (x : Flow) : (s.setFlow f x).pending = s.pending := rfl
@[simp] theorem State.setFlow_regs (s : State) (f : Nat) (x : Flow) : (s.setFlow f x).regs = s.regs := rfl
@[simp] theorem State.setFlow_bus (s : State) (f : Nat) (x : Flow) : (s.setFlow f x).bus = s.bus := rfl
@[simp] theorem State.setFlow_sys (s : State) (f : Nat) (x : Flow) : (s.setFlow f x).sys = s.sys := rfl
@[simp] theorem State.setFlow_engines (s : State) (f : Nat) (x : Flow) : (s.setFlow f x).engines = s.engines := rfl
@[simp] theorem State.setFlow_clock (s : State) (f : Nat) (x : Flow) : (s.setFlow f x).clock = s.clock := rfl
@[simp] theorem State.setFlow_tick (s : State) (f : Nat) (x : Flow) : (s.setFlow f x).tick = s.tick := rfl
@[simp] theorem State.setFlow_hif (s : State) (f : Nat) (x : Flow) : (s.setFlow f x).hif = s.hif := rfl
@[simp] theorem State.setFlow_chans (s : State) (f : Nat) (x : Flow) : (s.setFlow f x).chans = s.chans := rfl
@[simp] theorem State.setFlow_partners (s : State) (f : Nat) (x : Flow) : (s.setFlow f x).partners = s.partners := rfl
@[simp] theorem State.setFlow_gens (s : State) (f : Nat) (x : Flow) : (s.setFlow f x).gens = s.gens := rfl
@[simp] theorem State.setFlow_csi (s : State) (f : Nat) (x : Flow) : (s.setFlow f x).csi = s.csi := rfl
@[simp] theorem State.setFlow_usb (s : State) (f : Nat) (x : Flow) : (s.setFlow f x).usb = s.usb := rfl
@[simp] theorem State.setFlow_queues (s : State) (f : Nat) (x : Flow) : (s.setFlow f x).queues = s.queues := rfl
@[simp] theorem State.setFlow_eth (s : State) (f : Nat) (x : Flow) : (s.setFlow f x).eth = s.eth := rfl
@[simp] theorem State.setFlow_cmp (s : State) (f : Nat) (x : Flow) : (s.setFlow f x).cmp = s.cmp := rfl
@[simp] theorem State.setFlow_displays (s : State) (f : Nat) (x : Flow) : (s.setFlow f x).displays = s.displays := rfl
@[simp] theorem State.setFlow_mem (s : State) (f : Nat) (x : Flow) : (s.setFlow f x).mem = s.mem := rfl
@[simp] theorem State.setFlow_bpm (s : State) (f : Nat) (x : Flow) : (s.setFlow f x).bpm = s.bpm := rfl
@[simp] theorem State.setFlow_sch (s : State) (f : Nat) (x : Flow) : (s.setFlow f x).sch = s.sch := rfl
@[simp] theorem State.setFlow_log (s : State) (f : Nat) (x : Flow) : (s.setFlow f x).log = s.log := rfl
@[simp] theorem State.setFlow_guard (s : State) (f : Nat) (x : Flow) : (s.setFlow f x).guard = s.guard := rfl
@[simp] theorem State.setFlow_power (s : State) (f : Nat) (x : Flow) : (s.setFlow f x).power = s.power := rfl
@[simp] theorem State.setFlow_clk (s : State) (f : Nat) (x : Flow) : (s.setFlow f x).clk = s.clk := rfl
@[simp] theorem State.setFlow_pwr (s : State) (f : Nat) (x : Flow) : (s.setFlow f x).pwr = s.pwr := rfl
@[simp] theorem State.setFlow_fio (s : State) (f : Nat) (x : Flow) : (s.setFlow f x).fio = s.fio := rfl
@[simp] theorem State.setFlow_pads (s : State) (f : Nat) (x : Flow) : (s.setFlow f x).pads = s.pads := rfl
@[simp] theorem State.setFlow_fresh (s : State) (f : Nat) (x : Flow) : (s.setFlow f x).fresh = s.fresh := rfl

/-! `setQueue`. -/

@[simp] theorem State.setQueue_pending (s : State) (q : Nat) (x : Queue) : (s.setQueue q x).pending = s.pending := rfl
@[simp] theorem State.setQueue_regs (s : State) (q : Nat) (x : Queue) : (s.setQueue q x).regs = s.regs := rfl
@[simp] theorem State.setQueue_bus (s : State) (q : Nat) (x : Queue) : (s.setQueue q x).bus = s.bus := rfl
@[simp] theorem State.setQueue_sys (s : State) (q : Nat) (x : Queue) : (s.setQueue q x).sys = s.sys := rfl
@[simp] theorem State.setQueue_engines (s : State) (q : Nat) (x : Queue) : (s.setQueue q x).engines = s.engines := rfl
@[simp] theorem State.setQueue_clock (s : State) (q : Nat) (x : Queue) : (s.setQueue q x).clock = s.clock := rfl
@[simp] theorem State.setQueue_tick (s : State) (q : Nat) (x : Queue) : (s.setQueue q x).tick = s.tick := rfl
@[simp] theorem State.setQueue_hif (s : State) (q : Nat) (x : Queue) : (s.setQueue q x).hif = s.hif := rfl
@[simp] theorem State.setQueue_chans (s : State) (q : Nat) (x : Queue) : (s.setQueue q x).chans = s.chans := rfl
@[simp] theorem State.setQueue_partners (s : State) (q : Nat) (x : Queue) : (s.setQueue q x).partners = s.partners := rfl
@[simp] theorem State.setQueue_gens (s : State) (q : Nat) (x : Queue) : (s.setQueue q x).gens = s.gens := rfl
@[simp] theorem State.setQueue_csi (s : State) (q : Nat) (x : Queue) : (s.setQueue q x).csi = s.csi := rfl
@[simp] theorem State.setQueue_usb (s : State) (q : Nat) (x : Queue) : (s.setQueue q x).usb = s.usb := rfl
@[simp] theorem State.setQueue_flows (s : State) (q : Nat) (x : Queue) : (s.setQueue q x).flows = s.flows := rfl
@[simp] theorem State.setQueue_eth (s : State) (q : Nat) (x : Queue) : (s.setQueue q x).eth = s.eth := rfl
@[simp] theorem State.setQueue_cmp (s : State) (q : Nat) (x : Queue) : (s.setQueue q x).cmp = s.cmp := rfl
@[simp] theorem State.setQueue_displays (s : State) (q : Nat) (x : Queue) : (s.setQueue q x).displays = s.displays := rfl
@[simp] theorem State.setQueue_mem (s : State) (q : Nat) (x : Queue) : (s.setQueue q x).mem = s.mem := rfl
@[simp] theorem State.setQueue_bpm (s : State) (q : Nat) (x : Queue) : (s.setQueue q x).bpm = s.bpm := rfl
@[simp] theorem State.setQueue_sch (s : State) (q : Nat) (x : Queue) : (s.setQueue q x).sch = s.sch := rfl
@[simp] theorem State.setQueue_log (s : State) (q : Nat) (x : Queue) : (s.setQueue q x).log = s.log := rfl
@[simp] theorem State.setQueue_guard (s : State) (q : Nat) (x : Queue) : (s.setQueue q x).guard = s.guard := rfl
@[simp] theorem State.setQueue_power (s : State) (q : Nat) (x : Queue) : (s.setQueue q x).power = s.power := rfl
@[simp] theorem State.setQueue_clk (s : State) (q : Nat) (x : Queue) : (s.setQueue q x).clk = s.clk := rfl
@[simp] theorem State.setQueue_pwr (s : State) (q : Nat) (x : Queue) : (s.setQueue q x).pwr = s.pwr := rfl
@[simp] theorem State.setQueue_fio (s : State) (q : Nat) (x : Queue) : (s.setQueue q x).fio = s.fio := rfl
@[simp] theorem State.setQueue_pads (s : State) (q : Nat) (x : Queue) : (s.setQueue q x).pads = s.pads := rfl
@[simp] theorem State.setQueue_fresh (s : State) (q : Nat) (x : Queue) : (s.setQueue q x).fresh = s.fresh := rfl

/-! `modEth`. -/

@[simp] theorem State.modEth_pending (s : State) (m : Nat) (f : EthPort → EthPort) : (s.modEth m f).pending = s.pending := rfl
@[simp] theorem State.modEth_regs (s : State) (m : Nat) (f : EthPort → EthPort) : (s.modEth m f).regs = s.regs := rfl
@[simp] theorem State.modEth_bus (s : State) (m : Nat) (f : EthPort → EthPort) : (s.modEth m f).bus = s.bus := rfl
@[simp] theorem State.modEth_sys (s : State) (m : Nat) (f : EthPort → EthPort) : (s.modEth m f).sys = s.sys := rfl
@[simp] theorem State.modEth_engines (s : State) (m : Nat) (f : EthPort → EthPort) : (s.modEth m f).engines = s.engines := rfl
@[simp] theorem State.modEth_clock (s : State) (m : Nat) (f : EthPort → EthPort) : (s.modEth m f).clock = s.clock := rfl
@[simp] theorem State.modEth_tick (s : State) (m : Nat) (f : EthPort → EthPort) : (s.modEth m f).tick = s.tick := rfl
@[simp] theorem State.modEth_hif (s : State) (m : Nat) (f : EthPort → EthPort) : (s.modEth m f).hif = s.hif := rfl
@[simp] theorem State.modEth_chans (s : State) (m : Nat) (f : EthPort → EthPort) : (s.modEth m f).chans = s.chans := rfl
@[simp] theorem State.modEth_partners (s : State) (m : Nat) (f : EthPort → EthPort) : (s.modEth m f).partners = s.partners := rfl
@[simp] theorem State.modEth_gens (s : State) (m : Nat) (f : EthPort → EthPort) : (s.modEth m f).gens = s.gens := rfl
@[simp] theorem State.modEth_csi (s : State) (m : Nat) (f : EthPort → EthPort) : (s.modEth m f).csi = s.csi := rfl
@[simp] theorem State.modEth_usb (s : State) (m : Nat) (f : EthPort → EthPort) : (s.modEth m f).usb = s.usb := rfl
@[simp] theorem State.modEth_flows (s : State) (m : Nat) (f : EthPort → EthPort) : (s.modEth m f).flows = s.flows := rfl
@[simp] theorem State.modEth_queues (s : State) (m : Nat) (f : EthPort → EthPort) : (s.modEth m f).queues = s.queues := rfl
@[simp] theorem State.modEth_cmp (s : State) (m : Nat) (f : EthPort → EthPort) : (s.modEth m f).cmp = s.cmp := rfl
@[simp] theorem State.modEth_displays (s : State) (m : Nat) (f : EthPort → EthPort) : (s.modEth m f).displays = s.displays := rfl
@[simp] theorem State.modEth_mem (s : State) (m : Nat) (f : EthPort → EthPort) : (s.modEth m f).mem = s.mem := rfl
@[simp] theorem State.modEth_bpm (s : State) (m : Nat) (f : EthPort → EthPort) : (s.modEth m f).bpm = s.bpm := rfl
@[simp] theorem State.modEth_sch (s : State) (m : Nat) (f : EthPort → EthPort) : (s.modEth m f).sch = s.sch := rfl
@[simp] theorem State.modEth_log (s : State) (m : Nat) (f : EthPort → EthPort) : (s.modEth m f).log = s.log := rfl
@[simp] theorem State.modEth_guard (s : State) (m : Nat) (f : EthPort → EthPort) : (s.modEth m f).guard = s.guard := rfl
@[simp] theorem State.modEth_power (s : State) (m : Nat) (f : EthPort → EthPort) : (s.modEth m f).power = s.power := rfl
@[simp] theorem State.modEth_clk (s : State) (m : Nat) (f : EthPort → EthPort) : (s.modEth m f).clk = s.clk := rfl
@[simp] theorem State.modEth_pwr (s : State) (m : Nat) (f : EthPort → EthPort) : (s.modEth m f).pwr = s.pwr := rfl
@[simp] theorem State.modEth_fio (s : State) (m : Nat) (f : EthPort → EthPort) : (s.modEth m f).fio = s.fio := rfl
@[simp] theorem State.modEth_pads (s : State) (m : Nat) (f : EthPort → EthPort) : (s.modEth m f).pads = s.pads := rfl
@[simp] theorem State.modEth_fresh (s : State) (m : Nat) (f : EthPort → EthPort) : (s.modEth m f).fresh = s.fresh := rfl

/-! `modDisp`. -/

@[simp] theorem State.modDisp_pending (s : State) (d : Nat) (f : Display → Display) : (s.modDisp d f).pending = s.pending := rfl
@[simp] theorem State.modDisp_regs (s : State) (d : Nat) (f : Display → Display) : (s.modDisp d f).regs = s.regs := rfl
@[simp] theorem State.modDisp_bus (s : State) (d : Nat) (f : Display → Display) : (s.modDisp d f).bus = s.bus := rfl
@[simp] theorem State.modDisp_sys (s : State) (d : Nat) (f : Display → Display) : (s.modDisp d f).sys = s.sys := rfl
@[simp] theorem State.modDisp_engines (s : State) (d : Nat) (f : Display → Display) : (s.modDisp d f).engines = s.engines := rfl
@[simp] theorem State.modDisp_clock (s : State) (d : Nat) (f : Display → Display) : (s.modDisp d f).clock = s.clock := rfl
@[simp] theorem State.modDisp_tick (s : State) (d : Nat) (f : Display → Display) : (s.modDisp d f).tick = s.tick := rfl
@[simp] theorem State.modDisp_hif (s : State) (d : Nat) (f : Display → Display) : (s.modDisp d f).hif = s.hif := rfl
@[simp] theorem State.modDisp_chans (s : State) (d : Nat) (f : Display → Display) : (s.modDisp d f).chans = s.chans := rfl
@[simp] theorem State.modDisp_partners (s : State) (d : Nat) (f : Display → Display) : (s.modDisp d f).partners = s.partners := rfl
@[simp] theorem State.modDisp_gens (s : State) (d : Nat) (f : Display → Display) : (s.modDisp d f).gens = s.gens := rfl
@[simp] theorem State.modDisp_csi (s : State) (d : Nat) (f : Display → Display) : (s.modDisp d f).csi = s.csi := rfl
@[simp] theorem State.modDisp_usb (s : State) (d : Nat) (f : Display → Display) : (s.modDisp d f).usb = s.usb := rfl
@[simp] theorem State.modDisp_flows (s : State) (d : Nat) (f : Display → Display) : (s.modDisp d f).flows = s.flows := rfl
@[simp] theorem State.modDisp_queues (s : State) (d : Nat) (f : Display → Display) : (s.modDisp d f).queues = s.queues := rfl
@[simp] theorem State.modDisp_eth (s : State) (d : Nat) (f : Display → Display) : (s.modDisp d f).eth = s.eth := rfl
@[simp] theorem State.modDisp_cmp (s : State) (d : Nat) (f : Display → Display) : (s.modDisp d f).cmp = s.cmp := rfl
@[simp] theorem State.modDisp_mem (s : State) (d : Nat) (f : Display → Display) : (s.modDisp d f).mem = s.mem := rfl
@[simp] theorem State.modDisp_bpm (s : State) (d : Nat) (f : Display → Display) : (s.modDisp d f).bpm = s.bpm := rfl
@[simp] theorem State.modDisp_sch (s : State) (d : Nat) (f : Display → Display) : (s.modDisp d f).sch = s.sch := rfl
@[simp] theorem State.modDisp_log (s : State) (d : Nat) (f : Display → Display) : (s.modDisp d f).log = s.log := rfl
@[simp] theorem State.modDisp_guard (s : State) (d : Nat) (f : Display → Display) : (s.modDisp d f).guard = s.guard := rfl
@[simp] theorem State.modDisp_power (s : State) (d : Nat) (f : Display → Display) : (s.modDisp d f).power = s.power := rfl
@[simp] theorem State.modDisp_clk (s : State) (d : Nat) (f : Display → Display) : (s.modDisp d f).clk = s.clk := rfl
@[simp] theorem State.modDisp_pwr (s : State) (d : Nat) (f : Display → Display) : (s.modDisp d f).pwr = s.pwr := rfl
@[simp] theorem State.modDisp_fio (s : State) (d : Nat) (f : Display → Display) : (s.modDisp d f).fio = s.fio := rfl
@[simp] theorem State.modDisp_pads (s : State) (d : Nat) (f : Display → Display) : (s.modDisp d f).pads = s.pads := rfl
@[simp] theorem State.modDisp_fresh (s : State) (d : Nat) (f : Display → Display) : (s.modDisp d f).fresh = s.fresh := rfl

/-! `setThread`. -/

@[simp] theorem State.setThread_pending (s : State) (n : Nat) (t : Thread) : (s.setThread n t).pending = s.pending := rfl
@[simp] theorem State.setThread_regs (s : State) (n : Nat) (t : Thread) : (s.setThread n t).regs = s.regs := rfl
@[simp] theorem State.setThread_bus (s : State) (n : Nat) (t : Thread) : (s.setThread n t).bus = s.bus := rfl
@[simp] theorem State.setThread_sys (s : State) (n : Nat) (t : Thread) : (s.setThread n t).sys = s.sys := rfl
@[simp] theorem State.setThread_engines (s : State) (n : Nat) (t : Thread) : (s.setThread n t).engines = s.engines := rfl
@[simp] theorem State.setThread_clock (s : State) (n : Nat) (t : Thread) : (s.setThread n t).clock = s.clock := rfl
@[simp] theorem State.setThread_tick (s : State) (n : Nat) (t : Thread) : (s.setThread n t).tick = s.tick := rfl
@[simp] theorem State.setThread_hif (s : State) (n : Nat) (t : Thread) : (s.setThread n t).hif = s.hif := rfl
@[simp] theorem State.setThread_chans (s : State) (n : Nat) (t : Thread) : (s.setThread n t).chans = s.chans := rfl
@[simp] theorem State.setThread_partners (s : State) (n : Nat) (t : Thread) : (s.setThread n t).partners = s.partners := rfl
@[simp] theorem State.setThread_gens (s : State) (n : Nat) (t : Thread) : (s.setThread n t).gens = s.gens := rfl
@[simp] theorem State.setThread_csi (s : State) (n : Nat) (t : Thread) : (s.setThread n t).csi = s.csi := rfl
@[simp] theorem State.setThread_usb (s : State) (n : Nat) (t : Thread) : (s.setThread n t).usb = s.usb := rfl
@[simp] theorem State.setThread_flows (s : State) (n : Nat) (t : Thread) : (s.setThread n t).flows = s.flows := rfl
@[simp] theorem State.setThread_queues (s : State) (n : Nat) (t : Thread) : (s.setThread n t).queues = s.queues := rfl
@[simp] theorem State.setThread_eth (s : State) (n : Nat) (t : Thread) : (s.setThread n t).eth = s.eth := rfl
@[simp] theorem State.setThread_cmp (s : State) (n : Nat) (t : Thread) : (s.setThread n t).cmp = s.cmp := rfl
@[simp] theorem State.setThread_displays (s : State) (n : Nat) (t : Thread) : (s.setThread n t).displays = s.displays := rfl
@[simp] theorem State.setThread_mem (s : State) (n : Nat) (t : Thread) : (s.setThread n t).mem = s.mem := rfl
@[simp] theorem State.setThread_bpm (s : State) (n : Nat) (t : Thread) : (s.setThread n t).bpm = s.bpm := rfl
@[simp] theorem State.setThread_log (s : State) (n : Nat) (t : Thread) : (s.setThread n t).log = s.log := rfl
@[simp] theorem State.setThread_guard (s : State) (n : Nat) (t : Thread) : (s.setThread n t).guard = s.guard := rfl
@[simp] theorem State.setThread_power (s : State) (n : Nat) (t : Thread) : (s.setThread n t).power = s.power := rfl
@[simp] theorem State.setThread_clk (s : State) (n : Nat) (t : Thread) : (s.setThread n t).clk = s.clk := rfl
@[simp] theorem State.setThread_pwr (s : State) (n : Nat) (t : Thread) : (s.setThread n t).pwr = s.pwr := rfl
@[simp] theorem State.setThread_fio (s : State) (n : Nat) (t : Thread) : (s.setThread n t).fio = s.fio := rfl
@[simp] theorem State.setThread_pads (s : State) (n : Nat) (t : Thread) : (s.setThread n t).pads = s.pads := rfl
@[simp] theorem State.setThread_fresh (s : State) (n : Nat) (t : Thread) : (s.setThread n t).fresh = s.fresh := rfl

/-! `setSynth`. -/

@[simp] theorem State.setSynth_pending (s : State) (i : Nat) (x : Synth) : (s.setSynth i x).pending = s.pending := rfl
@[simp] theorem State.setSynth_regs (s : State) (i : Nat) (x : Synth) : (s.setSynth i x).regs = s.regs := rfl
@[simp] theorem State.setSynth_bus (s : State) (i : Nat) (x : Synth) : (s.setSynth i x).bus = s.bus := rfl
@[simp] theorem State.setSynth_sys (s : State) (i : Nat) (x : Synth) : (s.setSynth i x).sys = s.sys := rfl
@[simp] theorem State.setSynth_engines (s : State) (i : Nat) (x : Synth) : (s.setSynth i x).engines = s.engines := rfl
@[simp] theorem State.setSynth_clock (s : State) (i : Nat) (x : Synth) : (s.setSynth i x).clock = s.clock := rfl
@[simp] theorem State.setSynth_tick (s : State) (i : Nat) (x : Synth) : (s.setSynth i x).tick = s.tick := rfl
@[simp] theorem State.setSynth_hif (s : State) (i : Nat) (x : Synth) : (s.setSynth i x).hif = s.hif := rfl
@[simp] theorem State.setSynth_chans (s : State) (i : Nat) (x : Synth) : (s.setSynth i x).chans = s.chans := rfl
@[simp] theorem State.setSynth_partners (s : State) (i : Nat) (x : Synth) : (s.setSynth i x).partners = s.partners := rfl
@[simp] theorem State.setSynth_gens (s : State) (i : Nat) (x : Synth) : (s.setSynth i x).gens = s.gens := rfl
@[simp] theorem State.setSynth_csi (s : State) (i : Nat) (x : Synth) : (s.setSynth i x).csi = s.csi := rfl
@[simp] theorem State.setSynth_usb (s : State) (i : Nat) (x : Synth) : (s.setSynth i x).usb = s.usb := rfl
@[simp] theorem State.setSynth_flows (s : State) (i : Nat) (x : Synth) : (s.setSynth i x).flows = s.flows := rfl
@[simp] theorem State.setSynth_queues (s : State) (i : Nat) (x : Synth) : (s.setSynth i x).queues = s.queues := rfl
@[simp] theorem State.setSynth_eth (s : State) (i : Nat) (x : Synth) : (s.setSynth i x).eth = s.eth := rfl
@[simp] theorem State.setSynth_cmp (s : State) (i : Nat) (x : Synth) : (s.setSynth i x).cmp = s.cmp := rfl
@[simp] theorem State.setSynth_displays (s : State) (i : Nat) (x : Synth) : (s.setSynth i x).displays = s.displays := rfl
@[simp] theorem State.setSynth_mem (s : State) (i : Nat) (x : Synth) : (s.setSynth i x).mem = s.mem := rfl
@[simp] theorem State.setSynth_bpm (s : State) (i : Nat) (x : Synth) : (s.setSynth i x).bpm = s.bpm := rfl
@[simp] theorem State.setSynth_sch (s : State) (i : Nat) (x : Synth) : (s.setSynth i x).sch = s.sch := rfl
@[simp] theorem State.setSynth_log (s : State) (i : Nat) (x : Synth) : (s.setSynth i x).log = s.log := rfl
@[simp] theorem State.setSynth_guard (s : State) (i : Nat) (x : Synth) : (s.setSynth i x).guard = s.guard := rfl
@[simp] theorem State.setSynth_power (s : State) (i : Nat) (x : Synth) : (s.setSynth i x).power = s.power := rfl
@[simp] theorem State.setSynth_pwr (s : State) (i : Nat) (x : Synth) : (s.setSynth i x).pwr = s.pwr := rfl
@[simp] theorem State.setSynth_fio (s : State) (i : Nat) (x : Synth) : (s.setSynth i x).fio = s.fio := rfl
@[simp] theorem State.setSynth_pads (s : State) (i : Nat) (x : Synth) : (s.setSynth i x).pads = s.pads := rfl
@[simp] theorem State.setSynth_fresh (s : State) (i : Nat) (x : Synth) : (s.setSynth i x).fresh = s.fresh := rfl

/-! `modPhase`. -/

@[simp] theorem State.modPhase_pending (s : State) (p : Nat) (f : Phase → Phase) : (s.modPhase p f).pending = s.pending := rfl
@[simp] theorem State.modPhase_regs (s : State) (p : Nat) (f : Phase → Phase) : (s.modPhase p f).regs = s.regs := rfl
@[simp] theorem State.modPhase_bus (s : State) (p : Nat) (f : Phase → Phase) : (s.modPhase p f).bus = s.bus := rfl
@[simp] theorem State.modPhase_sys (s : State) (p : Nat) (f : Phase → Phase) : (s.modPhase p f).sys = s.sys := rfl
@[simp] theorem State.modPhase_engines (s : State) (p : Nat) (f : Phase → Phase) : (s.modPhase p f).engines = s.engines := rfl
@[simp] theorem State.modPhase_clock (s : State) (p : Nat) (f : Phase → Phase) : (s.modPhase p f).clock = s.clock := rfl
@[simp] theorem State.modPhase_tick (s : State) (p : Nat) (f : Phase → Phase) : (s.modPhase p f).tick = s.tick := rfl
@[simp] theorem State.modPhase_hif (s : State) (p : Nat) (f : Phase → Phase) : (s.modPhase p f).hif = s.hif := rfl
@[simp] theorem State.modPhase_chans (s : State) (p : Nat) (f : Phase → Phase) : (s.modPhase p f).chans = s.chans := rfl
@[simp] theorem State.modPhase_partners (s : State) (p : Nat) (f : Phase → Phase) : (s.modPhase p f).partners = s.partners := rfl
@[simp] theorem State.modPhase_gens (s : State) (p : Nat) (f : Phase → Phase) : (s.modPhase p f).gens = s.gens := rfl
@[simp] theorem State.modPhase_csi (s : State) (p : Nat) (f : Phase → Phase) : (s.modPhase p f).csi = s.csi := rfl
@[simp] theorem State.modPhase_usb (s : State) (p : Nat) (f : Phase → Phase) : (s.modPhase p f).usb = s.usb := rfl
@[simp] theorem State.modPhase_flows (s : State) (p : Nat) (f : Phase → Phase) : (s.modPhase p f).flows = s.flows := rfl
@[simp] theorem State.modPhase_queues (s : State) (p : Nat) (f : Phase → Phase) : (s.modPhase p f).queues = s.queues := rfl
@[simp] theorem State.modPhase_eth (s : State) (p : Nat) (f : Phase → Phase) : (s.modPhase p f).eth = s.eth := rfl
@[simp] theorem State.modPhase_cmp (s : State) (p : Nat) (f : Phase → Phase) : (s.modPhase p f).cmp = s.cmp := rfl
@[simp] theorem State.modPhase_displays (s : State) (p : Nat) (f : Phase → Phase) : (s.modPhase p f).displays = s.displays := rfl
@[simp] theorem State.modPhase_mem (s : State) (p : Nat) (f : Phase → Phase) : (s.modPhase p f).mem = s.mem := rfl
@[simp] theorem State.modPhase_bpm (s : State) (p : Nat) (f : Phase → Phase) : (s.modPhase p f).bpm = s.bpm := rfl
@[simp] theorem State.modPhase_sch (s : State) (p : Nat) (f : Phase → Phase) : (s.modPhase p f).sch = s.sch := rfl
@[simp] theorem State.modPhase_log (s : State) (p : Nat) (f : Phase → Phase) : (s.modPhase p f).log = s.log := rfl
@[simp] theorem State.modPhase_guard (s : State) (p : Nat) (f : Phase → Phase) : (s.modPhase p f).guard = s.guard := rfl
@[simp] theorem State.modPhase_power (s : State) (p : Nat) (f : Phase → Phase) : (s.modPhase p f).power = s.power := rfl
@[simp] theorem State.modPhase_clk (s : State) (p : Nat) (f : Phase → Phase) : (s.modPhase p f).clk = s.clk := rfl
@[simp] theorem State.modPhase_fio (s : State) (p : Nat) (f : Phase → Phase) : (s.modPhase p f).fio = s.fio := rfl
@[simp] theorem State.modPhase_pads (s : State) (p : Nat) (f : Phase → Phase) : (s.modPhase p f).pads = s.pads := rfl
@[simp] theorem State.modPhase_fresh (s : State) (p : Nat) (f : Phase → Phase) : (s.modPhase p f).fresh = s.fresh := rfl

/-! `modFout`. -/

@[simp] theorem State.modFout_pending (s : State) (n : Nat) (f : Fout → Fout) : (s.modFout n f).pending = s.pending := rfl
@[simp] theorem State.modFout_regs (s : State) (n : Nat) (f : Fout → Fout) : (s.modFout n f).regs = s.regs := rfl
@[simp] theorem State.modFout_bus (s : State) (n : Nat) (f : Fout → Fout) : (s.modFout n f).bus = s.bus := rfl
@[simp] theorem State.modFout_sys (s : State) (n : Nat) (f : Fout → Fout) : (s.modFout n f).sys = s.sys := rfl
@[simp] theorem State.modFout_engines (s : State) (n : Nat) (f : Fout → Fout) : (s.modFout n f).engines = s.engines := rfl
@[simp] theorem State.modFout_clock (s : State) (n : Nat) (f : Fout → Fout) : (s.modFout n f).clock = s.clock := rfl
@[simp] theorem State.modFout_tick (s : State) (n : Nat) (f : Fout → Fout) : (s.modFout n f).tick = s.tick := rfl
@[simp] theorem State.modFout_hif (s : State) (n : Nat) (f : Fout → Fout) : (s.modFout n f).hif = s.hif := rfl
@[simp] theorem State.modFout_chans (s : State) (n : Nat) (f : Fout → Fout) : (s.modFout n f).chans = s.chans := rfl
@[simp] theorem State.modFout_partners (s : State) (n : Nat) (f : Fout → Fout) : (s.modFout n f).partners = s.partners := rfl
@[simp] theorem State.modFout_gens (s : State) (n : Nat) (f : Fout → Fout) : (s.modFout n f).gens = s.gens := rfl
@[simp] theorem State.modFout_csi (s : State) (n : Nat) (f : Fout → Fout) : (s.modFout n f).csi = s.csi := rfl
@[simp] theorem State.modFout_usb (s : State) (n : Nat) (f : Fout → Fout) : (s.modFout n f).usb = s.usb := rfl
@[simp] theorem State.modFout_flows (s : State) (n : Nat) (f : Fout → Fout) : (s.modFout n f).flows = s.flows := rfl
@[simp] theorem State.modFout_queues (s : State) (n : Nat) (f : Fout → Fout) : (s.modFout n f).queues = s.queues := rfl
@[simp] theorem State.modFout_eth (s : State) (n : Nat) (f : Fout → Fout) : (s.modFout n f).eth = s.eth := rfl
@[simp] theorem State.modFout_cmp (s : State) (n : Nat) (f : Fout → Fout) : (s.modFout n f).cmp = s.cmp := rfl
@[simp] theorem State.modFout_displays (s : State) (n : Nat) (f : Fout → Fout) : (s.modFout n f).displays = s.displays := rfl
@[simp] theorem State.modFout_mem (s : State) (n : Nat) (f : Fout → Fout) : (s.modFout n f).mem = s.mem := rfl
@[simp] theorem State.modFout_bpm (s : State) (n : Nat) (f : Fout → Fout) : (s.modFout n f).bpm = s.bpm := rfl
@[simp] theorem State.modFout_sch (s : State) (n : Nat) (f : Fout → Fout) : (s.modFout n f).sch = s.sch := rfl
@[simp] theorem State.modFout_log (s : State) (n : Nat) (f : Fout → Fout) : (s.modFout n f).log = s.log := rfl
@[simp] theorem State.modFout_guard (s : State) (n : Nat) (f : Fout → Fout) : (s.modFout n f).guard = s.guard := rfl
@[simp] theorem State.modFout_power (s : State) (n : Nat) (f : Fout → Fout) : (s.modFout n f).power = s.power := rfl
@[simp] theorem State.modFout_clk (s : State) (n : Nat) (f : Fout → Fout) : (s.modFout n f).clk = s.clk := rfl
@[simp] theorem State.modFout_pwr (s : State) (n : Nat) (f : Fout → Fout) : (s.modFout n f).pwr = s.pwr := rfl
@[simp] theorem State.modFout_pads (s : State) (n : Nat) (f : Fout → Fout) : (s.modFout n f).pads = s.pads := rfl
@[simp] theorem State.modFout_fresh (s : State) (n : Nat) (f : Fout → Fout) : (s.modFout n f).fresh = s.fresh := rfl

/-! `stage`. -/

@[simp] theorem State.stage_pending (s : State) (n : Nat) : (s.stage n).pending = s.pending := rfl
@[simp] theorem State.stage_regs (s : State) (n : Nat) : (s.stage n).regs = s.regs := rfl
@[simp] theorem State.stage_bus (s : State) (n : Nat) : (s.stage n).bus = s.bus := rfl
@[simp] theorem State.stage_engines (s : State) (n : Nat) : (s.stage n).engines = s.engines := rfl
@[simp] theorem State.stage_clock (s : State) (n : Nat) : (s.stage n).clock = s.clock := rfl
@[simp] theorem State.stage_tick (s : State) (n : Nat) : (s.stage n).tick = s.tick := rfl
@[simp] theorem State.stage_hif (s : State) (n : Nat) : (s.stage n).hif = s.hif := rfl
@[simp] theorem State.stage_chans (s : State) (n : Nat) : (s.stage n).chans = s.chans := rfl
@[simp] theorem State.stage_partners (s : State) (n : Nat) : (s.stage n).partners = s.partners := rfl
@[simp] theorem State.stage_gens (s : State) (n : Nat) : (s.stage n).gens = s.gens := rfl
@[simp] theorem State.stage_csi (s : State) (n : Nat) : (s.stage n).csi = s.csi := rfl
@[simp] theorem State.stage_usb (s : State) (n : Nat) : (s.stage n).usb = s.usb := rfl
@[simp] theorem State.stage_flows (s : State) (n : Nat) : (s.stage n).flows = s.flows := rfl
@[simp] theorem State.stage_queues (s : State) (n : Nat) : (s.stage n).queues = s.queues := rfl
@[simp] theorem State.stage_eth (s : State) (n : Nat) : (s.stage n).eth = s.eth := rfl
@[simp] theorem State.stage_cmp (s : State) (n : Nat) : (s.stage n).cmp = s.cmp := rfl
@[simp] theorem State.stage_displays (s : State) (n : Nat) : (s.stage n).displays = s.displays := rfl
@[simp] theorem State.stage_mem (s : State) (n : Nat) : (s.stage n).mem = s.mem := rfl
@[simp] theorem State.stage_bpm (s : State) (n : Nat) : (s.stage n).bpm = s.bpm := rfl
@[simp] theorem State.stage_sch (s : State) (n : Nat) : (s.stage n).sch = s.sch := rfl
@[simp] theorem State.stage_log (s : State) (n : Nat) : (s.stage n).log = s.log := rfl
@[simp] theorem State.stage_guard (s : State) (n : Nat) : (s.stage n).guard = s.guard := rfl
@[simp] theorem State.stage_power (s : State) (n : Nat) : (s.stage n).power = s.power := rfl
@[simp] theorem State.stage_clk (s : State) (n : Nat) : (s.stage n).clk = s.clk := rfl
@[simp] theorem State.stage_pwr (s : State) (n : Nat) : (s.stage n).pwr = s.pwr := rfl
@[simp] theorem State.stage_fio (s : State) (n : Nat) : (s.stage n).fio = s.fio := rfl
@[simp] theorem State.stage_pads (s : State) (n : Nat) : (s.stage n).pads = s.pads := rfl
@[simp] theorem State.stage_fresh (s : State) (n : Nat) : (s.stage n).fresh = s.fresh := rfl

/-! What the changed field holds. -/

@[simp] theorem State.settle_pads (s : State) : s.settle.pads = padsOf s := rfl

@[simp] theorem State.settle_settled (s : State) : s.settle.Settled := rfl

@[simp] theorem State.settle_settle (s : State) : s.settle.settle = s.settle := rfl

theorem State.rd_lt (s : State) (d : RegDef) (i j : Nat) : s.rd d i j < 2 ^ 32 :=
  BitVec.isLt (tget (BitVec.ofNat 32 (d.resetAt i j)) s.regs (d.at i j))

@[simp] theorem State.rd_wr_same (s : State) (d : RegDef) (i j v : Nat) : (s.wr d i j v).rd d i j = v % 2 ^ 32 := by
  simp [State.rd, State.wr]

/-- A write of one register leaves every other register, whatever its reset value. -/
theorem State.rd_wr_other (s : State) (d e : RegDef) (i j v a b : Nat) (h : e.at a b ≠ d.at i j) :
    (s.wr d i j v).rd e a b = s.rd e a b := by
  simp only [State.rd, State.wr]; rw [tget_tput_default _ _ _ _ h]

theorem bump32_lt (v : Nat) (h : v < 2 ^ 32) : bump32 v < 2 ^ 32 := by
  unfold bump32; split <;> omega

@[simp] theorem State.rd_bump_same (s : State) (d : RegDef) (i : Nat) : (s.bump d i).rd d i = bump32 (s.rd d i) := by
  rw [State.bump, State.rd_wr_same]
  exact Nat.mod_eq_of_lt (bump32_lt _ (State.rd_lt s d i 0))

theorem State.rd_bump_other (s : State) (d e : RegDef) (i a b : Nat) (h : e.at a b ≠ d.at i) :
    (s.bump d i).rd e a b = s.rd e a b := State.rd_wr_other s d e i 0 _ a b h

@[simp] theorem State.chan_setChan_same (s : State) (n : Nat) (c : Channel) : (s.setChan n c).chan n = c := by
  simp [State.chan, State.setChan]

@[simp] theorem State.chan_setChan_other (s : State) {n m : Nat} (c : Channel) (h : m ≠ n) :
    (s.setChan n c).chan m = s.chan m := by
  simp [State.chan, State.setChan, h]

@[simp] theorem State.partner_setPartner_same (s : State) (p : Nat) (x : Partner) : (s.setPartner p x).partner p = x := by
  simp [State.partner, State.setPartner]

@[simp] theorem State.partner_setPartner_other (s : State) {p q : Nat} (x : Partner) (h : q ≠ p) :
    (s.setPartner p x).partner q = s.partner q := by
  simp [State.partner, State.setPartner, h]

@[simp] theorem State.flow_setFlow_same (s : State) (f : Nat) (x : Flow) : (s.setFlow f x).flow f = x := by
  simp [State.flow, State.setFlow]

@[simp] theorem State.flow_setFlow_other (s : State) {f g : Nat} (x : Flow) (h : g ≠ f) :
    (s.setFlow f x).flow g = s.flow g := by
  simp [State.flow, State.setFlow, h]

@[simp] theorem State.queue_setQueue_same (s : State) (q : Nat) (x : Queue) : (s.setQueue q x).queue q = x := by
  simp [State.queue, State.setQueue]

@[simp] theorem State.queue_setQueue_other (s : State) {q r : Nat} (x : Queue) (h : r ≠ q) :
    (s.setQueue q x).queue r = s.queue r := by
  simp [State.queue, State.setQueue, h]

@[simp] theorem State.sq_setSq_same (s : State) (n : Nat) (q : Sq) : (s.setSq n q).sq n = q := by
  simp [State.sq, State.setSq]

@[simp] theorem State.sq_setSq_other (s : State) {n m : Nat} (q : Sq) (h : m ≠ n) : (s.setSq n q).sq m = s.sq m := by
  simp [State.sq, State.setSq, h]

@[simp] theorem State.cq_setCq_same (s : State) (n : Nat) (q : Cq) : (s.setCq n q).cq n = q := by
  simp [State.cq, State.setCq]

@[simp] theorem State.cq_setCq_other (s : State) {n m : Nat} (q : Cq) (h : m ≠ n) : (s.setCq n q).cq m = s.cq m := by
  simp [State.cq, State.setCq, h]

@[simp] theorem State.thread_setThread_same (s : State) (n : Nat) (t : Thread) : (s.setThread n t).thread n = t := by
  simp [State.thread, State.setThread]

@[simp] theorem State.thread_setThread_other (s : State) {n m : Nat} (t : Thread) (h : m ≠ n) :
    (s.setThread n t).thread m = s.thread m := by
  simp [State.thread, State.setThread, h]

theorem State.fout_modFout_other (s : State) {n m : Nat} (f : Fout → Fout) (h : m ≠ n) :
    (s.modFout n f).fout m = s.fout m := by
  simp only [State.fout, State.modFout]; rw [lget_lmod, if_neg (fun c => h c.1.symm)]

theorem State.phase_modPhase_other (s : State) {n m : Nat} (f : Phase → Phase) (h : m ≠ n) :
    (s.modPhase n f).phase m = s.phase m := by
  simp only [State.phase, State.modPhase]; rw [lget_lmod, if_neg (fun c => h c.1.symm)]

@[simp] theorem State.gone_not_live (s : State) (code src : Nat) :
    (s.gone code src).guard.live.contains (code, src) = false := by
  simp [State.gone]

@[simp] theorem State.present_live (s : State) (code src : Nat) :
    (s.present code src).guard.live.contains (code, src) = true := by
  unfold State.present
  by_cases h : s.guard.live.contains (code, src) = true <;> simp_all

end Sys2Proof.Machine
end

