-- ==== Sys2Proof/Laws/Frame.lean ====
section
/-! SUPPORT. What the shared operations leave alone, in the words of `OnlyIn`, and how a command's answer is read. -/

namespace Sys2Proof.Machine

/-! Frames compose. -/

theorem Part.same_refl (s : State) (p : Part) : p.same s s := by cases p <;> rfl

theorem Part.same_trans {s t u : State} {p : Part} (h : p.same s t) (k : p.same t u) : p.same s u := by
  cases p <;> exact Eq.trans k h

theorem OnlyIn.refl (ps : List Part) (s : State) : OnlyIn ps s s := fun p => .inr (p.same_refl s)

theorem OnlyIn.trans {ps : List Part} {s t u : State} (h : OnlyIn ps s t) (k : OnlyIn ps t u) : OnlyIn ps s u := by
  intro p
  rcases h p with h | h
  · exact .inl h
  · exact (k p).imp id (fun k => Part.same_trans h k)

theorem OnlyIn.mono {ps qs : List Part} {s t : State} (h : OnlyIn ps s t) (k : ∀ p ∈ ps, p ∈ qs) : OnlyIn qs s t :=
  fun p => (h p).imp (k p) id

theorem OnlyIn.ite {ps : List Part} {s t u : State} {c : Prop} [Decidable c] (h : OnlyIn ps s t) (k : OnlyIn ps s u) :
    OnlyIn ps s (if c then t else u) := by split <;> assumption

/-- Pads are no part, so settling them changes none. -/
theorem OnlyIn.settle {ps : List Part} {s t : State} (h : OnlyIn ps s t) : OnlyIn ps s t.settle :=
  fun p => (h p).imp id (fun h => by cases p <;> exact h)

/-- A fold of steps that each change only these parts changes only these parts. -/
theorem OnlyIn.foldl {α : Type} {ps : List Part} (f : State → α → State) (h : ∀ s a, OnlyIn ps s (f s a)) (l : List α)
    (s : State) : OnlyIn ps s (l.foldl f s) := by
  induction l generalizing s with
  | nil => exact .refl _ _
  | cons a l ih => exact (h s a).trans (ih _)

/-! The shared operations. -/

theorem State.wr_onlyIn (s : State) (d : RegDef) (i j v : Nat) : OnlyIn [.regs] s (s.wr d i j v) := by
  intro p; cases p <;> first | exact .inr rfl | exact .inl (by decide)

theorem State.wrFld_onlyIn (s : State) (d : RegDef) (hi lo v i j : Nat) : OnlyIn [.regs] s (s.wrFld d hi lo v i j) :=
  State.wr_onlyIn _ _ _ _ _

theorem State.bump_onlyIn (s : State) (d : RegDef) (i : Nat) : OnlyIn [.regs] s (s.bump d i) := State.wr_onlyIn _ _ _ _ _

theorem State.bump64_onlyIn (s : State) (d : RegDef) (i k : Nat) : OnlyIn [.regs] s (s.bump64 d i k) := by
  intro p; cases p <;> first | exact .inr rfl | exact .inl (by decide)

theorem State.setStatus_onlyIn (s : State) (code : Nat) : OnlyIn [.guard] s (s.setStatus code) := by
  intro p; cases p <;> first | exact .inr rfl | exact .inl (by decide)

theorem State.present_onlyIn (s : State) (code src : Nat) : OnlyIn [.guard] s (s.present code src) := by
  intro p; cases p <;> first | exact .inr rfl | exact .inl (by decide)

theorem State.gone_onlyIn (s : State) (code src : Nat) : OnlyIn [.guard] s (s.gone code src) := by
  intro p; cases p <;> first | exact .inr rfl | exact .inl (by decide)

theorem State.hostWrite_onlyIn (s : State) (a : Nat) (bs : List Byte) : OnlyIn [.mem] s (s.hostWrite a bs) := by
  intro p; cases p <;> first | exact .inr rfl | exact .inl (by decide)

theorem State.advanceTo_onlyIn (s : State) (t : Nat) : OnlyIn [.clock] s (s.advanceTo t) := by
  intro p; cases p <;> first | exact .inr rfl | exact .inl (by decide)

theorem State.addLog_onlyIn (s : State) (e : LogEntry) : OnlyIn [.regs, .log] s (s.addLog e) := by
  have h : ∀ l, OnlyIn [.regs, .log] s { s with log := l } := fun l p => by
    cases p <;> first | exact .inr rfl | exact .inl (by decide)
  unfold State.addLog
  refine .ite (.ite (h _) ((h _).trans (OnlyIn.mono (State.bump_onlyIn _ _ _) (by decide)))) (.refl _ _)

theorem State.logEvent_onlyIn (s : State) (e : Event) : OnlyIn [.regs, .log] s (s.logEvent e) := by
  unfold State.logEvent
  exact .ite (s.addLog_onlyIn _) (.refl _ _)

theorem State.event_onlyIn (s : State) (code source : Nat) (data : List Nat) :
    OnlyIn [.regs, .log, .hif] s (s.event code source data) := by
  unfold State.event
  dsimp only
  generalize Event.mk s.ktime code source s.tick32 data = e
  have h : OnlyIn [.regs, .log, .hif] s (s.logEvent e) := OnlyIn.mono (s.logEvent_onlyIn e) (by decide)
  refine h.trans ?_
  intro p; cases p <;> first | exact .inr rfl | exact .inl (by decide)

theorem State.logFault_onlyIn (s : State) (code : Nat) (cls acted : FClass) (i : FaultInfo) :
    OnlyIn [.regs, .log, .hif] s (s.logFault code cls acted i) := by
  have h0 : OnlyIn [.regs, .log, .hif] s (if acted = .i then s.bump GRD_REACT_COUNT 0 else s) :=
    .ite (OnlyIn.mono (s.bump_onlyIn _ _) (by decide)) (.refl _ _)
  unfold State.logFault
  dsimp only
  generalize (if acted = FClass.i then s.bump GRD_REACT_COUNT 0 else s) = s1 at h0 ⊢
  refine h0.trans ?_
  split
  · intro p; cases p <;> first | exact .inr rfl | exact .inl (by decide)
  · have h1 : ∀ e, OnlyIn [.regs, .log, .hif] s1 (s1.addLog e) := fun e => OnlyIn.mono (s1.addLog_onlyIn e) (by decide)
    exact (h1 _).trans (.ite (.refl _ _) (State.event_onlyIn _ _ _ _))

/-- All that a Class I fault can change: its status bit, the log, the event queue and the counters. -/
theorem State.raiseI_onlyIn (s : State) (code : Nat) (i : FaultInfo) :
    OnlyIn [.regs, .log, .hif, .guard] s (s.raiseI code i) :=
  (OnlyIn.mono (s.setStatus_onlyIn code) (by decide)).trans (OnlyIn.mono (State.logFault_onlyIn _ _ _ _ _) (by decide))

theorem State.raiseCond_onlyIn (s : State) (code : Nat) (i : FaultInfo) :
    OnlyIn [.regs, .log, .hif, .guard] s (s.raiseCond code i) :=
  (s.raiseI_onlyIn code i).trans (OnlyIn.mono (State.present_onlyIn _ _ _) (by decide))

theorem State.sendMsi_onlyIn (s : State) (v : Nat) : OnlyIn [.bus] s (s.sendMsi v) := by
  intro p; cases p <;> first | exact .inr rfl | exact .inl (by decide)

theorem State.signal_onlyIn (s : State) (v : Nat) : OnlyIn [.bus] s (s.signal v) := by
  unfold State.signal
  refine .ite (s.sendMsi_onlyIn v) ?_
  intro p; cases p <;> first | exact .inr rfl | exact .inl (by decide)

theorem State.flushMsi_onlyIn (s : State) : OnlyIn [.bus] s s.flushMsi :=
  .foldl _ (fun s v => .ite (s.sendMsi_onlyIn v) (.refl _ _)) _ _

theorem State.dramWrite_onlyIn (s : State) (a : Nat) (bs : List Byte) : OnlyIn [.mem] s (s.dramWrite a bs) := by
  intro p; cases p <;> first | exact .inr rfl | exact .inl (by decide)

theorem State.linkCell_onlyIn (s : State) (h : Nat) : OnlyIn [.mem] s (s.linkCell h) := by
  unfold State.linkCell
  exact .ite (.refl _ _) (s.dramWrite_onlyIn _ _)

/-- All that a freed cell can change: the free stores, and the link words that its own bytes then hold. -/
theorem State.returnCell_onlyIn (s : State) (h : Nat) : OnlyIn [.bpm, .mem] s (s.returnCell h) := by
  unfold State.returnCell
  refine .ite (.refl _ _) ((OnlyIn.mono (s.linkCell_onlyIn h) (by decide)).trans ?_)
  intro p; cases p <;> first | exact .inr rfl | exact .inl (by decide)

theorem State.returnCells_onlyIn (s : State) (hs : List Nat) : OnlyIn [.bpm, .mem] s (s.returnCells hs) :=
  .foldl _ (fun s h => s.returnCell_onlyIn h) _ _

/-! Keeper time. -/

theorem State.stepPs_pos (s : State) : 0 < s.stepPs := by
  unfold State.stepPs; split <;> decide

/-- Keeper time never runs back. -/
theorem State.advanceTo_le (s : State) (t : Nat) : s.clock.ps ≤ (s.advanceTo t).clock.ps := by
  show s.clock.ps ≤ s.stepAt t
  unfold State.stepAt; split
  · exact Nat.le_refl _
  · exact Nat.le_add_right _ _

/-- Keeper time reaches the instant asked for, and passes it by less than one step. -/
theorem State.le_advanceTo (s : State) (t : Nat) : t ≤ (s.advanceTo t).clock.ps := by
  show t ≤ s.stepAt t
  unfold State.stepAt; split
  · assumption
  · show t ≤ s.clock.ps + (t - s.clock.ps + s.stepPs - 1) / s.stepPs * s.stepPs
    have hp := s.stepPs_pos
    have := Nat.div_add_mod (t - s.clock.ps + s.stepPs - 1) s.stepPs
    have hm := Nat.mod_lt (t - s.clock.ps + s.stepPs - 1) hp
    rw [Nat.mul_comm] at this
    omega

/-- What every Class I fault sets: the bit of its code in the status of its block. -/
theorem State.logFault_guard (s : State) (code : Nat) (cls acted : FClass) (i : FaultInfo) :
    (s.logFault code cls acted i).guard = s.guard := by
  rcases State.logFault_onlyIn s code cls acted i .guard with h | h
  · exact absurd h (by decide)
  · exact h

theorem State.raiseI_guard (s : State) (code : Nat) (i : FaultInfo) : (s.raiseI code i).guard = (s.setStatus code).guard :=
  State.logFault_guard ..

/-! Answers. -/

theorem done_eq (s : State) : done s = .next s.settle := rfl

theorem onUnit_lt {n count : Nat} (s t : State) (h : n < count) : onUnit n count s t = .next t.settle := by
  simp [onUnit, h, done]

theorem onUnit_ge {n count : Nat} (s t : State) (h : ¬ n < count) : onUnit n count s t = .next s.settle := by
  simp [onUnit, h, done]

/-- An answer that is known gives what holds of it. -/
theorem Gives.intro {i : Instr} {s t : State} {P : State → Prop} (h : exec i s = .next t) (k : P t) : Gives i s P :=
  ⟨t, h, k⟩

theorem Gives.and {i : Instr} {s : State} {P Q : State → Prop} (h : Gives i s P) (k : Gives i s Q) :
    Gives i s (fun t => P t ∧ Q t) := by
  obtain ⟨t, ht, p⟩ := h
  obtain ⟨u, hu, q⟩ := k
  rw [ht] at hu
  cases hu
  exact ⟨t, ht, p, q⟩

theorem Gives.imp {i : Instr} {s : State} {P Q : State → Prop} (h : Gives i s P) (k : ∀ t, P t → Q t) : Gives i s Q := by
  obtain ⟨t, ht, p⟩ := h
  exact ⟨t, ht, k t p⟩

end Sys2Proof.Machine
end

