-- ==== Sys2Proof/Laws/Memory.lean ====
section
/-! SUPPORT. Every operation on the memories keeps their canonical form, and what a write stores is what a read gives. -/

namespace Sys2Proof.Machine

variable {α : Type}

theorem risingFrom_mono {lo hi : Nat} (h : lo ≤ hi) (t : Table α) (ht : risingFrom hi t = true) : risingFrom lo t = true := by
  cases t with
  | nil => rfl
  | cons p t =>
    obtain ⟨k, v⟩ := p
    simp only [risingFrom, Bool.and_eq_true, decide_eq_true_eq] at *
    exact ⟨Nat.le_trans h ht.1, ht.2⟩

theorem risingFrom_filter (p : Nat × α → Bool) (t : Table α) (lo : Nat) (h : risingFrom lo t = true) :
    risingFrom lo (t.filter p) = true := by
  induction t generalizing lo with
  | nil => rfl
  | cons x t ih =>
    obtain ⟨k, v⟩ := x
    simp only [risingFrom, Bool.and_eq_true, decide_eq_true_eq] at h
    by_cases hp : p (k, v) = true
    · rw [List.filter_cons_of_pos hp]; simp [risingFrom, h.1, ih _ h.2]
    · rw [List.filter_cons_of_neg hp]; exact risingFrom_mono (by omega) _ (ih _ h.2)

/-- Numbers of the part of a table from `b` on rise from `b`. -/
theorem risingFrom_filter_ge (b : Nat) (t : Table α) (lo : Nat) (h : risingFrom lo t = true) :
    risingFrom b (t.filter (fun p => decide (b ≤ p.1))) = true := by
  induction t generalizing lo with
  | nil => rfl
  | cons x t ih =>
    obtain ⟨k, v⟩ := x
    simp only [risingFrom, Bool.and_eq_true, decide_eq_true_eq] at h
    by_cases hb : b ≤ k
    · rw [List.filter_cons_of_pos (by simpa using hb)]
      simp only [risingFrom, hb, decide_true, Bool.true_and]
      exact risingFrom_filter _ _ _ h.2
    · rw [List.filter_cons_of_neg (by simpa using hb)]; exact ih _ h.2

theorem risingFrom_append (t u : Table α) (lo a : Nat) (hlo : lo ≤ a) (ht : risingFrom lo t = true)
    (hu : risingFrom a u = true) (h : ∀ p ∈ t, p.1 < a) : risingFrom lo (t ++ u) = true := by
  induction t generalizing lo with
  | nil => exact risingFrom_mono hlo _ hu
  | cons x t ih =>
    obtain ⟨k, v⟩ := x
    simp only [risingFrom, Bool.and_eq_true, decide_eq_true_eq, List.cons_append] at *
    exact ⟨ht.1, ih _ (h (k, v) (by simp)) ht.2 (fun p hp => h p (by simp [hp]))⟩

theorem risingFrom_cellsFrom (bs : List Byte) (a : Nat) : risingFrom a (cellsFrom a bs) = true := by
  induction bs generalizing a with
  | nil => rfl
  | cons b t ih => simp [cellsFrom, risingFrom, ih]

theorem mem_cellsFrom_lt (bs : List Byte) (a : Nat) : ∀ p ∈ cellsFrom a bs, p.1 < a + bs.length := by
  induction bs generalizing a with
  | nil => simp [cellsFrom]
  | cons b t ih =>
    intro p hp
    simp only [cellsFrom, List.mem_cons, List.length_cons] at *
    rcases hp with rfl | hp
    · simp
    · have := ih _ p hp; omega

/-- Bytes written into a rising table leave it rising. -/
theorem risingFrom_splice (m : Table Byte) (a : Nat) (bs : List Byte) (h : risingFrom 0 m = true) :
    risingFrom 0 (splice m a bs) = true := by
  unfold splice
  refine risingFrom_append _ _ 0 (a + bs.length) (Nat.zero_le _) ?_ (risingFrom_filter_ge _ _ _ h) ?_
  · refine risingFrom_append _ _ 0 a (Nat.zero_le _) (risingFrom_filter _ _ _ h) (risingFrom_cellsFrom _ _) ?_
    intro p hp; simpa using (List.mem_filter.mp hp).2
  · intro p hp
    rcases List.mem_append.mp hp with hp | hp
    · have : p.1 < a := by simpa using (List.mem_filter.mp hp).2
      omega
    · exact mem_cellsFrom_lt _ _ p hp

theorem Memory.wf_iff (m : Mem) : Memory.wf m = true ↔
    twf 0 m.sram = true ∧ risingFrom 0 m.host = true ∧ risingFrom 0 m.dram = true ∧ risingFrom 0 m.mram = true := by
  simp [Memory.wf, and_assoc]

theorem Memory.wf_reset : Memory.wf State.reset.mem = true := by decide

/-- A DMA write to host memory keeps the form. -/
theorem Memory.wf_hostWrite (s : State) (a : Nat) (bs : List Byte) (h : Memory.wf s.mem = true) :
    Memory.wf (s.hostWrite a bs).mem = true := by
  rw [Memory.wf_iff] at *
  exact ⟨h.1, risingFrom_splice _ _ _ h.2.1, h.2.2⟩

/-- A write to the on-chip SRAM keeps the form. -/
theorem Memory.wf_sram (m : Mem) (a : Nat) (bs : List Byte) (h : Memory.wf m = true) :
    Memory.wf { m with sram := tputs 0 m.sram a bs } = true := by
  rw [Memory.wf_iff] at *
  exact ⟨twf_tputs _ _ _ _ h.1, h.2⟩

/-- A record in the trace ring keeps the form. -/
theorem Memory.wf_trace (m : Mem) (a : Nat) (bs : List Byte) (h : Memory.wf m = true) :
    Memory.wf { m with dram := splice m.dram a bs } = true := by
  rw [Memory.wf_iff] at *
  exact ⟨h.1, h.2.1, risingFrom_splice _ _ _ h.2.2.1, h.2.2.2⟩

/-- Programming of MRAM keeps the form. -/
theorem Memory.wf_mram (m : Mem) (a : Nat) (bs : List Byte) (h : Memory.wf m = true) :
    Memory.wf { m with mram := splice m.mram a bs } = true := by
  rw [Memory.wf_iff] at *
  exact ⟨h.1, h.2.1, h.2.2.1, risingFrom_splice _ _ _ h.2.2.2⟩

/-- Wiping the SRAM or the DRAM keeps the form. -/
theorem Memory.wf_wipe (m : Mem) (h : Memory.wf m = true) :
    Memory.wf { m with sram := [] } = true ∧ Memory.wf { m with dram := [] } = true := by
  rw [Memory.wf_iff] at h
  simp only [Memory.wf_iff]
  exact ⟨⟨rfl, h.2⟩, h.1, h.2.1, rfl, h.2.2.2⟩

/-- A host byte that a write covers reads as written; every other byte reads as before. -/
theorem hostWrite_inside (s : State) (d : Byte) (a : Nat) (bs : List Byte) (i : Nat) (h : i < bs.length) :
    tget d (s.hostWrite a bs).mem.host (a + i) = bs[i] := tget_splice_inside d _ a bs i h

theorem hostWrite_outside (s : State) (d : Byte) (a : Nat) (bs : List Byte) (j : Nat) (h : j < a ∨ a + bs.length ≤ j) :
    tget d (s.hostWrite a bs).mem.host j = tget d s.mem.host j := tget_splice_outside d _ a bs j h

end Sys2Proof.Machine
end

