-- ==== Sys2Proof/Tests/Slice0.lean ====
section
/-! SUPPORT. The model's own tests: ill-formed commands that the checks refuse, worked examples of the spec, and,
    for each
statement with hypotheses, concrete states and operands that meet them, one for each of its clauses. -/

set_option maxRecDepth 20000
set_option Elab.async false

namespace Sys2Proof.Tests

open Sys2Proof Sys2Proof.Machine

/-! Small states that the tests start from. -/

/-- The state that a command answers, the same state where it stops. -/
def after (i : Instr) (s : State) : State :=
  match exec i s with
  | .next t => t
  | .fault _ => s
  | .refused _ => s

def base : State :=
  let r := State.reset
  { r with sys := { r.sys with bootStage := 7 }, power := { r.power with mode := .run }, pwr := { r.pwr with pwrGood := true, railOk := 0x7F },
           tick := { r.tick with stopped := false }, bus := { r.bus with linkGen := 3, linkWidth := 4, bme := true } }
def act : State := { base with sys := { base.sys with cfg := .active } }
def env0 : BootEnv := { phaseFail := [], railFail := 0, fuseOk := true, trainOk := true, patchMismatch := [], wipeOk := true, wipeUs := 5 }
def ret : State := ({ base with power := { base.power with mode := .retain, armed := true, stbyReady := false, alarm := 5000000 }, pwr := { base.pwr with keeperOn := true }, tick := { base.tick with stopped := true } }).wr KPR_WAKE_EN 0 0 0x3FF
def bld : State := ((base.wr BPM_COMB_CFG 0 0 100).wr BPM_COMB_CFG 5 0 7).wr BPM_BASE_LO 0 0 0x4000000
def scr (s : State) (d : Nat) : State := ((((s.wr DSP_H1 d 0 (800 + 65536*100)).wr DSP_H2 d 0 (50+65536*50)).wr DSP_V1 d 0 (500 + 65536*50)).wr DSP_V2 d 0 (25+65536*25)).wr DSP_SEQ d 0 0
def disp0 : State := scr base 0
def goS : State := (((((((base.wr HIF_DB_BASE_LO 0 0 0x1000).wr HIF_ST_BASE_LO 0 0 0x2000).wr HIF_EVQ_BASE_LO 0 0 0x4000).wr HIF_EVQ_CFG 0 0 6).wr HIF_SQ_CFG 0 0 0x14).wr HIF_CQ_CFG 0 0 0x14).wr HIF_SQ_BASE_LO 0 0 0x5000).wr HIF_CQ_BASE_LO 0 0 0x6000
def run0 : State := { goS with sys := { goS.sys with cfg := .active }, hif := { goS.hif with dbRead := true } }
def blk (pi ci : Nat) : List Byte := leBytes 4 pi ++ leBytes 4 ci ++ List.replicate 4088 0
def desc (op flags ch cq : Nat) (rest : List Byte) : List Byte := padTo 64 (leBytes 1 op ++ leBytes 1 flags ++
    leBytes 1 ch ++ leBytes 1 cq ++ leBytes 4 0 ++ leBytes 8 0x77 ++ rest)
def rung : State := { run0 with hif := { run0.hif with sqs := [(0, { Sq.reset with pi := 2 })], fetching := true } }
/-- network state: link on port 0, MACs on -/
def netS : State :=
  let s : State := { run0 with eth := run0.eth.map (fun x => { x with link := true }) }
  let s := ((s.wr ETH_CFG 0 0 1).wr ETH_CFG 1 0 1).wr ETH_IP 0 0 0x0A000001
  let s := ((s.wr TRF_FLOW_CTL 0 0 (1 + 4)).wr TRF_FLOW_UDP 0 0 0x1234).wr TRF_FLOW_RATE 0 0 1000
  (s.wr TRF_Q_CFG 0 0 0x4001).wr ETH_MAC_LO 0 0 0x22334455
def ip0 (frag bad : Bool) (udp : List Byte) : List Byte :=
  let n := 20 + udp.length
  let h : List Byte := [0x45, 0, BitVec.ofNat 8 (n/256), BitVec.ofNat 8 n, 0,0, (if frag then 0x20 else 0), 0, 64, 17]
  let tl : List Byte := [1,2,3,4, 10,0,0,1]
  let c := 65535 - (sum16 (h ++ [0,0] ++ tl)) % 65535
  h ++ [BitVec.ofNat 8 (c/256), BitVec.ofNat 8 (c + (if bad then 1 else 0))] ++ tl ++ udp
def fr0 (dst : List Byte) (frag bad : Bool) (udp : List Byte) : EthFrame :=
  { bytes := dst ++ [0,0,0,0,0,1, 8, 0] ++ ip0 frag bad udp, fcsError := false, overrun := false, sfd := 1000, donl := false, ended := none, au := none }
def me : List Byte := [0,0,0x22,0x33,0x44,0x55]
def udp0 : List Byte := [0x11,0x11,0x12,0x34,0,12,0,0,1,2,3,4]
/-- The descriptor has been fetched as job 0. -/
def jobS (s : State) (d : List Byte) : State :=
  let x := descOf d
  { s with hif := { s.hif with sqs := [(0, { Sq.reset with pi := 1, ci := 1 })], nextJob := 1,
                               jobs := [Job.blank 0 .host 0 0 x (s.classFor x) 0],
                               creating := if x.opcode == 1 || x.opcode == 6 then [x.channel] else [] } }
/-- Combs 0 to 6 are built. -/
def combS : State :=
  let n := [100, 100, 100, 100, 100, 7, 20, 0]
  { run0 with bpm := { run0.bpm with built := true, base := 0x4000000, counts := n, cache := [16, 16, 16, 16], low := n, prevLow := n } }
def chanBytes (kind cls rank codec mode w h refs : Nat) (res : Nat × Nat × Nat) : List Byte :=
  leBytes 1 kind ++ leBytes 1 cls ++ leBytes 1 rank ++ leBytes 1 0 ++ leBytes 1 codec ++ leBytes 1 mode ++ leBytes 1 0 ++ leBytes 1 0 ++ leBytes 1 0 ++ leBytes 1 0 ++
  leBytes 2 w ++ leBytes 2 h ++ leBytes 1 refs ++ [0] ++ leBytes 4 res.1 ++ leBytes 4 res.2.1 ++ leBytes 4 res.2.2
def mkc (s : State) (ch : Nat) (cb : List Byte) : State := jobS s (desc 1 0 ch 0 cb)
def j0 : Job := Job.blank 0 .host 0 0 (descOf []) 0 0
def chS (s : State) (c : Channel) : State := { s with chans := [(3, c)] }


/-! Ill-formed commands: one at least for each check of a unit, port, ring, slot, display or offset. -/

def au0 : Au := { bits := 0, width := 16, height := 16, segments := 1, irap := true, reference := true, poc := 0, rows := 1, header := none, incomplete := false }
def end0 : CsiEnd := { paired := true, headerError := false, crcError := false, correctedHeaders := 0, overflow := false }
def uvc0 : UvcFrame := { format := 1, width := 16, height := 16, data := List.replicate 512 0, errorBit := false, startTick := 1, au := none }
def usb0 : UsbDevice := { ok := true, uvc := true, cls := 14, vid := 1, pid := 2, serial := [], modes := [], superSpeed := true }
def frame0 : EthFrame := { bytes := [], fcsError := false, overrun := false, sfd := 1000, donl := false, ended := none, au := none }
def sample0 : MeterSample := { vinMv := 24000, iinMa := 1000, coreNj := 0, memNj := 0, inputNj := 0, shares := [], dram := [], dramOther := 0, cmpNj := [(3, 1)] }
def sense0 (p s : Nat) : PhaseSense := { phase := p, sense := s, model := 3000, share := 3000, atRail := false }

/-- One number beyond the last unit of its kind. -/
def beyondA : List Instr :=
  [.displayEnable .pcie 3 1, .clockOutputEnable .pcie 4 0, .msixTableWrite 0x420 0, .faultStatusClear .pcie 0 0 0,
   .faultStatusClear .pcie 26 0 0, .logWindowRead .pcie 0x10000 false, .moderationTimeout 64, .ptpSyncMessage 2 ⟨[], 0⟩,
   .ptpSyncTimeout 2, .ethFrameReceive 2 frame0, .flowSilenceTimeout 32, .ethLinkDown 2, .ethLinkUp 2,
   .queueCreditAvailable 16, .frameTransmitEnd 2, .csiFrameComplete 4 0 end0, .csiFrameComplete 0 4 end0,
   .vcFrameStart 4 1, .vcFrameStart 0 0, .vcFrameStart 0 4, .uvcFrameComplete 3 uvc0, .camDetectAssert 4,
   .probeDelayExpiry 4, .identityReadDone 4 none, .identityRetryTimer 4, .initWriteDone 4, .initDelayExpiry 4,
   .i2cBusHeldLow 4, .camDetectDeassert 4, .usbEnumerationEnd 3 usb0, .usbDisconnect 3, .usbOvercurrent 3,
   .usbVbusLow 3, .usbOcRetry 3, .panelDetectAssert 3 none 0 0, .panelDepart 3]

/-- The same, from the panel timers to the field outputs. -/
def beyondB : List Instr :=
  [.vddLinkTimer 3, .frameBlTimer 3, .blLinkTimer 3, .linkVddTimer 3, .offWaitTimer 3, .exportPoint 32,
   .exportTimeout 32, .bufferRoomAvailable 3, .syntaxEngineInterrupt 3 0 0 0, .overlayCopyEnd 64 .failed,
   .compositionEnd 3, .spawn 256 0 false false 0 0 0 0 0, .retire 256, .yield 4, .signal 256 0, .dec 256,
   .bind 256 (.job 0), .threadRunLimit ⟨4, []⟩, .cellAllocate (.ingress 32) ⟨1, []⟩,
       .cellAllocate (.depacketiser 32) ⟨1, []⟩,
   .cellAllocate (.setup 32) ⟨1, []⟩, .cellAllocate (.overlay 64) ⟨1, []⟩, .cellAllocate (.netTx 16) ⟨1, []⟩,
   .cellAllocate (.firmware 0xC0 0) ⟨1, []⟩, .cellAllocate (.firmware 0x9F 0) ⟨1, []⟩, .cellFree 0 256,
       .freeStoreRefill 4,
   .freeStoreSpill 4, .sramScrub 0x600000 .clean, .mr4Change 8 false,
   .unitRetest .syn 3 true true true, .railOutOfWindow 0 true, .railOutOfWindow 6 true, 
   .phasePark 5 0, .phasePark 0 5, .auxOverload 2, .auxRetry 2 true]

/-- The same, from the clocks on. -/
def beyondC : List Instr :=
  [.cpllUnlock 2 false, .cpllRetune 2, .cpllStandbyReady 2, .synthLock 6 .table 0 0, .synthLockTimeout 6,
   .wakeInputEdge 2 true 0, .fieldInputEdge 4 true 0, .fieldPulseStart 4,
   .fieldPulseEnd 4, .openLoadDetect 4 true, .shortToGround 4, .shortRetry 4 true, .externalDrive 4,
   .csiPacketReceive 4 0 .frameStart, .csiPacketReceive 0 4 .frameStart, .detectPadChange (.cam 4),
   .detectPadChange (.panel 2), .pcieLinkUp 0 1, .pcieLinkUp 4 1, .pcieLinkUp 1 3,
       .sramWindowWrite .pcie 0x3FFFFC 0 .quiet,
   .sramWindowWrite .pcie 0xA00000 0 .quiet,
   .ppsPulseStart 2, .ppsPulseEnd 2, .usbConnect 3, .i2cBusReleased 4, .fieldDiagnosisEnd 4 true]

theorem test_units_beyond_a : beyondA.all (fun i => !i.unitsOk) = true := by decide +kernel
theorem test_units_beyond_b : beyondB.all (fun i => !i.unitsOk) = true := by decide +kernel
theorem test_units_beyond_c : beyondC.all (fun i => !i.unitsOk) = true := by decide +kernel

/-- The last unit of a kind is accepted. -/
def within : List Instr :=
  [.displayEnable .pcie 2 1, .clockOutputEnable .pcie 3 0, .msixTableWrite 0x41C 0, .moderationTimeout 63,
   .faultStatusClear .pcie 21 0 0, .flowSilenceTimeout 31, .queueCreditAvailable 15, .vcFrameStart 3 3,
   .uvcFrameComplete 2 uvc0, .camDetectAssert 3, .exportPoint 31, .retire 255, .yield 3, .cellFree 0 255,
   .mr4Change 7 false, .railOutOfWindow 5 true, .phaseOpenDetect [4], .synthLockTimeout 5, .fieldPulseStart 3,
   .pcieLinkUp 3 4, .sramWindowWrite .pcie 0x9FFFFC 0 ⟨[⟨0, 6, none⟩], .clean⟩, .ppsPulseStart 1]

theorem test_units_within : within.all (fun i => i.unitsOk && i.fieldsOk) = true := by decide +kernel

/-- Numbers that do not fit the field that they stand for. -/
def tooWide : List Instr :=
  [.registerWrite .pcie 0x1000000 4 0 ⟨false, none⟩, .registerWrite .pcie 0 9 0 ⟨false, none⟩,
   .registerWrite .pcie 0 0 0 ⟨false, none⟩, .counterLowWordRead .pcie ⟨0x1000000, 4, .quiet⟩,
   .counterLowWordRead .pcie ⟨0, 9, .quiet⟩, .runReached [] true (some 16), .phaseOpenDetect [5],
   .phaseSenseCheck [sense0 5 0] true, .meterInterval sample0, .counterLowWordWrite .pcie 0x1000000 0,
   .counterHighWordWrite .pcie 0x1000000 0 false, .rescueProgram .pcie 0x200000 ⟨0, true⟩ env0,
       .rescueProgram .pcie 0 ⟨4, true⟩ env0,
   .faultStatusClear .pcie 1 0 65536, .spiRead 0x1000000 0, .spawn 0 32 false false 0 0 0 0 0,
   .spawn 0 0 false false 16 0 0 0 0, .spawn 0 0 false false 0 256 0 0 0, .spawn 0 0 false false 0 0 65536 0 0,
   .spawn 0 0 false false 0 0 0 65536 0, .cellFree 0x1000000 0, .synthLock 0 .table 64 0, .encodeRowCoded 0 0 101,
   .bitLimitExceeded 0 65536 0, .bitLimitExceeded 0 0 65536, .blockCycleLimit 0 65536 0, .blockCycleLimit 0 0 65536]

theorem test_fields_too_wide : tooWide.all (fun i => i.unitsOk && !i.fieldsOk && !i.wf) = true := by decide +kernel

theorem test_beyond_changes_nothing : exec (.displayEnable .pcie 3 1) base = .next base.settle := rfl

/-! The step, and the words that the table does not give. -/

theorem test_no_word_decodes (n w : Nat) : decodeTableWord n w = none := rfl
theorem test_with_fetch_word (s : State) (n w : Nat) : s.withFetchWord n w = s := rfl
theorem test_idle_step : step State.reset = .next State.reset.idle := rfl

/-! An image that passes the header check of R460. What its key hash and its signature come to lies outside the model
(notes/assumptions/4.md), so that it is a premise here. -/

/-- The header of an image with no code and no patch: magic, FORMAT 1, die code, FW_VERSION 9, FW_EPOCH 0. -/
def header : List Byte :=
  [0x53, 0x51, 0x46, 0x57, 1, 0, 0, 0, 0x41, 0x4D, 0x53, 0x32, 9, 0, 0, 0] ++ List.replicate 0xB0 0
def imageAt (a : Nat) : List (Nat × Byte) := (List.range 0xC0).zip header |>.map (fun p => (a + p.1, p.2))
def good : State :=
  { base with mem := { base.mem with mram := imageAt 0 ++ imageAt slotSize, sram := imageAt 0 },
              sys := { base.sys with slotA := { state := 1, version := 9, epoch := 0 }, rescue := true } }

theorem test_header_slot : headerOk (good.slotByte 0) slotSize = true := by decide +kernel
theorem test_header_staged : headerOk (good.slotByte good.inactive) slotSize = true := by decide +kernel
theorem test_header_rescue : headerOk good.rescueByte 0xC0 = true := by decide +kernel

theorem image_good (f : Nat → Byte) (room : Nat) (h : headerOk f room = true)
    (k : Config.sha256 (imgBytes f 0x20 64) = Config.fwKeyHash)
    (g : Config.signatureOk (imgBytes f 0 (0x80 + codeLen f + patchLen f + 64)) = true) : imageErr f room 0 = 0 := by
  simp [imageErr, h, k, g]

/-- The premises of the starts hold for an image that the checks of R460 take. -/
theorem witness_StartsAndLossOfSupply_good_slot (k : Config.sha256 (imgBytes (good.slotByte 0) 0x20 64) = Config.fwKeyHash)
    (g : Config.signatureOk (imgBytes (good.slotByte 0) 0
      (0x80 + codeLen (good.slotByte 0) + patchLen (good.slotByte 0) + 64)) = true) :
    env0.phaseFail = [] ∧ env0.railFail = 0 ∧ env0.fuseOk = true ∧ env0.trainOk = true ∧
      good.sys.wipePending = none ∧ (good.slot good.sys.preferred).state = 1 ∧
      imageErr (good.slotByte good.sys.preferred) slotSize good.sys.fwEpochFuse = 0 :=
  ⟨by decide, by decide, by decide, by decide, by decide +kernel, by decide +kernel,
   image_good (good.slotByte 0) slotSize test_header_slot k g⟩

theorem staged_good (s : State) (f : Nat → Byte) (room : Nat) (h : headerOk f room = true) (z : patchLen f = 0)
    (q : s.sys.fwEpochFuse = 0) (k : Config.sha256 (imgBytes f 0x20 64) = Config.fwKeyHash)
    (g : Config.signatureOk (imgBytes f 0 (0x80 + codeLen f + patchLen f + 64)) = true) : s.stagedErr f room = 0 := by
  have e : imageErr f room s.sys.fwEpochFuse = 0 := q ▸ image_good f room h k g
  simp [State.stagedErr, e, State.embeddedOk, z]

theorem witness_RescueProgramsNamedSlots_good (k : Config.sha256 (imgBytes good.rescueByte 0x20 64) = Config.fwKeyHash)
    (g : Config.signatureOk (imgBytes good.rescueByte 0
      (0x80 + codeLen good.rescueByte + patchLen good.rescueByte + 64)) = true) :
    good.sys.rescue = true ∧ good.sys.restart = none ∧ good.reaches .pcie SYS_RESCUE_CTL.off = true ∧
      (if slotSize < 0xC0 then 0xC6 else good.stagedErr good.rescueByte 0xC0) = 0 := by
  refine ⟨by decide +kernel, by decide +kernel, by decide +kernel, ?_⟩
  simp [slotSize, staged_good good good.rescueByte 0xC0 test_header_rescue (by decide +kernel) (by decide +kernel) k g]

/-- What the spec gives numbers for: the tick (R59, R39), margins (R65) and 32-bit ticks (R16). -/
theorem test_work_window : workNs 20000000 = 18650000 := by decide +kernel
theorem test_floors : base.floorOf 1 = 12433333 ∧ base.floorOf 3 = 29840000 := by decide +kernel
theorem test_units_in : unitsIn 1 3 3 18650000 = 18650000 ∧ unitsIn 0 1 3 18650000 = 6216666 ∧
    unitsIn 1 3 1 18650000 = 9325000 ∧
    unitsIn 1 3 2 18650000 = 13987500 ∧ unitsIn 2 3 3 18650000 = 9325000 := by decide +kernel
theorem test_margin : base.withMargin 2073600 = 2280960 ∧ base.withMargin 8294400 = 9123840 ∧
    base.withMargin 1200000 = 1320000 := by decide +kernel
theorem test_ring_count : ringCount 0x0234 0xFFF0 = 580 ∧ ringCount 0x0234 0x0090 = 420 := by decide +kernel
def tickS : State := { base with tick := { base.tick with number := 0x1FFFFFFF0 } }
theorem test_tick_for : tickS.tickDiff 0x10 = 32 ∧ tickS.tickFor 0x10 = (0x200000010, false) := by decide +kernel
theorem test_tick_credit : (base.wr TRF_Q_RATE 0 0 6000).tickCredit 0 = 15000 := by decide +kernel
theorem test_packet_charge : packetCharge 1400 = 1478 ∧ packetCharge 1100 = 1178 ∧ packetCharge 41 = 119 := by
  decide +kernel
theorem test_tail_reserve : tailReserve 3 17 = 382 ∧ tailReserve 3 5 = 190 ∧ tailReserve 3 4 = 174 := by decide +kernel
theorem test_decode_detail : decodeDetail [⟨9, 12, 0x83⟩] false false 8 = 0x0801 := by decide +kernel
def screenS : State := (((base.wr DSP_H1 0 0 (1280 + 65536 * 48)).wr DSP_H2 0 0 (32 + 65536 * 80)).wr DSP_V1 0 0
  (800 + 65536 * 3)).wr DSP_V2 0 0 (6 + 65536 * 14)
theorem test_pixel_clock : screenS.framePixels 0 = 1440 * 823 ∧ screenS.fPix 0 = 59256000 ∧
    screenS.vpllSetting 0 0 = (135, 319, 16481937) := by decide +kernel
theorem test_steer : steerRaw 0 24 8 1185120 = -10125 ∧ steerRaw (-10125) 12 8 1185120 = -15187 ∧
    steerRaw (-15187) 6 8 1185120 = -17718 := by decide +kernel
theorem test_comb_for : combFor 510720 = 6 := by decide +kernel
theorem test_out_freq : outFreq 2 222 3728270 = some (6000000 * 2 ^ 24, 222 * 2 ^ 24 + 3728270) := by decide +kernel
theorem test_crc8 : crc8 [1] = 7 := by decide +kernel

/-- The layout example of Table 10.3 as the host asks for it, built. -/
def layoutS : State :=
  after .buildComplete (after (.combBuild .pcie)
    (((((((((base.wr BPM_BASE_HI 0 0 1).wr BPM_COMB_CFG 0 0 32768).wr BPM_COMB_CFG 1 0 16384).wr BPM_COMB_CFG 2 0 8192).wr
      BPM_COMB_CFG 3 0 4096).wr BPM_COMB_CFG 4 0 1024).wr BPM_COMB_CFG 5 0 256).wr BPM_COMB_CFG 6 0 128).wr BPM_COMB_CFG 7 0 96))
theorem test_comb_layout : (List.range 8).map layoutS.combBase =
    [0x12F000000, 0x12E000000, 0x12C000000, 0x128000000, 0x124000000, 0x120000000, 0x118000000, 0x100000000] ∧
    layoutS.cellAddr 0xA00011 = 0x120440000 := by decide +kernel

theorem test_reservations :
    ((screenS.wr DSP_CFG 0 0 6).reservation 0,
     (((base.wr DSP_H1 1 0 1920).wr DSP_V1 1 0 1080).wr DSP_CFG 1 0 6).reservation 1,
     (((base.wr DSP_H1 2 0 2560).wr DSP_V1 2 0 1440).wr DSP_CFG 2 0 8).reservation 2) =
    (3379200, 6842880, 16220160) := by decide +kernel

/-- The SRAM example of R304 to R309, seen by the host's port: ports 2 and 5 write, port 7 writes last. -/
def sramS : State := after (.sramWindowWrite .pcie (0x400000 + 0x123458) 9 ⟨[⟨0, 5, some 5⟩, ⟨0, 2, some 2⟩],
    .clean⟩) base
theorem test_sram_group : sramS.rd MEM_BUSY_COUNT 0 = 3 ∧
    tget 0 sramS.mem.sram 0x123458 = 9 := by decide +kernel

/-- The fault status example: the cause of bit 0 is still present, that of bit 1 is not. -/
def statusS : State := { base with guard := { base.guard with status := [(8, 3)], live := [(0x0801, 1)] } }
theorem test_status_clear :
    (statusS.readWord .pcie (GRD_FSTAT.at 7)).2 = 0x00010003 ∧
    ((after (.faultStatusClear .pcie 8 3 0) statusS).readWord .pcie (GRD_FSTAT.at 7)).2 = 0x00010001 ∧
    (after (.faultStatusClear .pcie 8 3 0) statusS).rd GRD_CLEAR_IGNORED_COUNT = 1 := by decide +kernel

/-- The phase example: P2 opens, then P1 fails three checks; P4 is the spare, and the point is OP4. -/
def powerS : State := after (.spareCheck true false) { base with pwr := { base.pwr with op := 4, target := 4, settled := true } }
def failing : PhaseSense := { phase := 1, sense := 0, model := 5250, share := 5250, atRail := false }
def lostS : State :=
  (List.range 3).foldl (fun s _ => after (.phaseSenseCheck [failing] true) s) (after (.phaseOpenDetect [2]) powerS)
theorem test_phase_loss :
    (lostS.readWord .pcie (GRD_FSTAT.at 0x12)).2 = 0x00070007 ∧ lostS.pwr.capA = 18 ∧ lostS.pwr.spare = 7 ∧
    lostS.ceilNow = 3 ∧ lostS.phasesLeft = 3 ∧ lostS.pwr.op = 3 := by decide +kernel

/-- The field output example: pair 3 locks out; outputs 0 and 1 have pulses, output 2 is off. -/
def pulseSet (div width : Nat) : FoutSet := { mode := 3, div := div, width := width, offset := 1000 }
def fieldS : State :=
  let s := base.wr FIO_CTL 0 0 8
  let s : State := { s with tick := { s.tick with number := 7001 } }
  let o := s.fio.outs
  { s with fio := { s.fio with present := true, safeLevels := false, restoreAtEdge := false, stopped := false,
                               outs := lmod (lmod o 0 (fun x => { x with set := pulseSet 2 100, since := 7000 })) 1
                                 (fun x => { x with set := pulseSet 1 2000, since := 7000 }) } }
def wiredS : State := after (.externalDrive 2) (after (.fieldPulseStart 1) (after (.fieldPulseStart 0) fieldS))
theorem test_field_pair : wiredS.foutOn 1 = false ∧ wiredS.fio.pairs = 8 ∧ wiredS.fio.locked = 8 := by decide +kernel
theorem test_field_status : ((after (.fieldDiagnosisEnd 2 true) wiredS).readWord .pcie (GRD_FSTAT.at 0x14)).2 = 0x0008000C := by
  decide +kernel
theorem test_field_limit :
    fieldS.foutSetOk (pulseSet 1 18980) = true ∧ fieldS.foutSetOk (pulseSet 1 18981) = false := by decide +kernel

/-- An SPI WRITE of the cold restart word: frame 02, address 4 bytes on, word, CRC-8. -/
def spiFrame (a v : Nat) : List Byte :=
  let b : List Byte := 2 :: (leBytes 3 a).reverse ++ leBytes 4 v
  b ++ [BitVec.ofNat 8 (crc8 b)]
theorem test_spi_cold_rescue : (after (.spiWrite (spiFrame SYS_RESTART.off 0x000352C3)) base).sys.restart.isSome = true ∧
    (after (.spiWrite (spiFrame SYS_RESTART.off 0x000352C4)) base).sys.restart = none := by decide +kernel

/-- The RETAIN example of chapter 14, from its quiesce edge on. -/
def quietS : State :=
  { base with power := { base.power with trans := .quiesced .retain, armed := true, quiesceTick := 9005,
                                         quiesceNs := 180080000000 },
              clock := { base.clock with ps := 180080000 * 10 ^ 6 },
              tick := { base.tick with number := 9005, edgePs := 180080000 * 10 ^ 6,
                                       nextPs := 180100000 * 10 ^ 6 } }.wr KPR_WAKE_EN 0 0 0x111
def wokenS : State :=
  after (.entryComplete) (after (.wakeInputEdge 0 false 180080600000) (after (.fieldInputEdge 2 true 180080300000) quietS))
theorem test_wake_latched : wokenS.power.latched.map (fun w => (w.source, w.ns, w.tick, w.when_)) =
    [(4, 180080300000, 9005, 0), (0, 180080600000, 9005, 0)] := by decide +kernel
theorem test_retain_exit_tick :
    ({ wokenS with clock := { wokenS.clock with ps := 180082300 * 10 ^ 6 } }).exitTick = 9006 := by decide +kernel

/-- The admission example of chapter 2: five Critical decodes, two Standard and one Bulk at the ceiling OP3. -/
def admitJob (id ch cls bits w h deferred : Nat) : Job :=
  { Job.blank id .host 0 0 (descOf (desc 0x10 0 ch 0 [])) cls 0 with
    ready := true, deferred := deferred, luma := w * h,
    au := some { au0 with bits := bits, width := w, height := h } }
def admitJobs : List Job :=
  (List.range 5).map (fun i => admitJob i 1 1 400000 1920 1080 0) ++
    [admitJob 5 8 2 400000 3840 2160 1, admitJob 6 9 2 1200000 1280 720 0, admitJob 7 10 3 800000 1920 1080 0]
def admitS : State :=
  let c : Channel := { Channel.free with state := 1 }
  { base with sys := { base.sys with cfg := .active }, pwr := { base.pwr with phaseCeil := true },
              tick := { base.tick with ceiling := 3, number := 1001 }, hif := { base.hif with jobs := admitJobs },
              chans := [(1, { c with cls := 1, codec := 3 }), (8, { c with cls := 2, codec := 2, maxDefer := 2 }),
                        (9, { c with cls := 2, codec := 1 }), (10, { c with cls := 3, codec := 1 })] }
def decidedS : State := after .admissionDecision admitS
theorem test_admission_spent : decidedS.tick.spent = [12724800, 12418560, 0, 0] ∧ decidedS.pwr.target = 2 := by
  decide +kernel
theorem test_admission_places : decidedS.hif.jobs.map (fun j => (j.id, j.engine, j.deferred)) =
    [(0, some 0, 0), (1, some 0, 0), (2, some 1, 0), (3, some 1, 0), (4, some 2, 0), (5, none, 2), (6, some 2, 0)] := by
  decide +kernel

/-- The worked example of 09_memory_and_dram.md: data address 0x1_2345_6789 on SQ4-I-8G. -/
theorem test_dram_place :
    State.reset.dramPlace 0x123456789 =
      some { rank := 1, row := 0x2345, bank := 3, channel := 1, column := 0x389 } ∧
    State.reset.checkByteAt 0x123456789 = 0x1E468ACF1 := by decide


/-! Witnesses: states and operands that meet the hypotheses of the statements, clause by clause. -/

/-- A table of channels with no export under way has none for any number. -/
theorem tget_all {α : Type} (p : α → Bool) (d : α) (t : Table α) (hd : p d = true)
    (h : t.all (fun q => p q.2) = true) (n : Nat) : p (tget d t n) = true := by
  induction t with
  | nil => exact hd
  | cons q t ih =>
    simp only [List.all_cons, Bool.and_eq_true] at h
    unfold tget
    split
    · exact h.1
    · exact ih h.2
theorem no_export (s : State) (h : s.chans.all (fun q => q.2.exporting.isNone) = true) (n : Nat) :
    (s.chan n).exporting = none :=
  Option.isNone_iff_eq_none.1 (tget_all (fun c : Channel => c.exporting.isNone) _ s.chans rfl h n)
theorem no_job (s : State) (id : Nat) (h : s.job? id = none) (j : Job) (e : s.job? id = some j) :
    j.phase ≠ .waiting ∨ (j.desc.opcode ≠ 0x40 ∧ j.desc.opcode ≠ 0x41) := by simp [h] at e
theorem staged_fits (s : State) (p : Path) (h : s.staged p = none) (a x : Nat) (e : s.staged p = some (a, x)) :
    x < 2 ^ 32 := by simp [h] at e
theorem not_identity (g : ProbeStage) (h : g = .absent) (k n : Nat) : g ≠ .identity k n := by simp [h]
theorem not_retryWait (g : ProbeStage) (h : g = .absent) (k n : Nat) : g ≠ .retryWait k n := by simp [h]
theorem not_init (g : ProbeStage) (h : g = .absent) (k : Nat) : g ≠ .init k := by simp [h]
theorem not_initWait (g : ProbeStage) (h : g = .absent) (k : Nat) : g ≠ .initWait k := by simp [h]


namespace Supply

def st_inputOpen : State := { base with pwr := { base.pwr with inputOpen := true } }
def st_auxOn : State := { base with pwr := { base.pwr with auxOvl := [1] }, regs := [] }.wr PWR_AUX_CFG 0 0 3

def s1 : State := base.raiseCond 0x1306

end Supply

namespace Counters

def fr (off : Nat) := (findReg off).getD (HIF_STATUS,0,0,0)
def ovf : State := (base.wr HIF_DMA_ERR_COUNT 0 0 0x7FFFFFFF).setCnt64 PWR_ENERGY_IN_UJ 0 (2^63-1)
def stg : State := { ovf with bus := { ovf.bus with stagedPcie := some (PWR_ENERGY_IN_UJ.at 0, 77), stagedSpi := some (PWR_ENERGY_IN_UJ.at 0, 78) } }
def s1 : State := { stg with sys := { stg.sys with cfg := .active } }

def s2 : State := { base with pending := [.settleFlag] }
def s3 : State := { s1 with pending := [.sramWindowWrite .pcie 0x400010 5 .quiet, .settleFlag] }

end Counters

namespace Ticks

def goS : State := (((((((base.wr HIF_DB_BASE_LO 0 0 0x1000).wr HIF_ST_BASE_LO 0 0 0x2000).wr HIF_EVQ_BASE_LO 0 0 0x4000).wr HIF_EVQ_CFG 0 0 6).wr HIF_SQ_CFG 0 0 0x14).wr HIF_CQ_CFG 0 0 0x14).wr HIF_SQ_BASE_LO 0 0 0x5000).wr HIF_CQ_BASE_LO 0 0 0x6000
def s1 : State := { base with sys := { base.sys with restart := some (2, true, true) } }

def s2 : State := { base with sys := { base.sys with restart := some (2, false, false) }, displays := base.displays.map (fun x => { x with step := .on }) }

end Ticks

namespace Modes

def lcs : State := { base with sys := { base.sys with lifeState := 1, loadResult := 0, fwEpoch := 5, fwEpochFuse := 3, imageEpoch := 2, slotA := { base.sys.slotA with state := 1 }, bootSlot := 0 } }
def res : State := { base with sys := { base.sys with rescue := true } }
def ret : State := ({ base with power := { base.power with mode := .retain, armed := true, stbyReady := false, alarm := 5000000 }, pwr := { base.pwr with keeperOn := true }, tick := { base.tick with stopped := true } }).wr KPR_WAKE_EN 0 0 0x3FF
def q1 : State := { base with power := { base.power with trans := .quiesced .retain } }
def wk : Wake := ⟨5, 6, 8, 0⟩
def s1 : State := { base with power := { base.power with stbyReady := true } }
def s2 : State := { base with power := { base.power with mode := .idle } }
def s3 : State := { q1 with power := { q1.power with latched := [wk] } }
def s4 : State := { ret with power := { ret.power with trans := .exiting .retain } }
def s5 : State := { base with bpm := { base.bpm with building := some ([1,2,3,4,5,6,7,8], 0) } }

def s6 : State := { base with power := { base.power with trans := .quiesced .deepStandby, latched := [wk] } }

end Modes

namespace Screens

def flt0 : State := (base.raiseCond 0x0201).raiseI 0x0202
def flt : State := { flt0 with log := { flt0.log with wr := 3, entries := [(2, { LogEntry.zero with code := 5 })] } }
def ta : State := { act with tick := { act.tick with out := true, window := .decided } }
def s1 : State := { disp0 with displays := disp0.displays.map (fun x => { x with present := true }) }
def s2 : State := { flt with log := { flt.log with entries := [(2, { LogEntry.zero with code := 0xFFFF })] } }
def s3 : State := { flt with pwr := { flt.pwr with keeperOn := true } }.wr KPR_LOG_CTL 0 0 0
def s4 : State := { base with pwr := { base.pwr with keeperOn := true } }
def s5 : State := { ret with pwr := { ret.pwr with keeperOn := true, pwrGood := false } }
def s6 : State := { ta with pwr := { ta.pwr with settled := false } }
def s7 : State := { act with tick := { act.tick with window := .guard } }

end Screens

namespace Rings

def pw : State := { run0 with tick := { run0.tick with window := .work, polls := 2 } }
def op : State := { run0 with pwr := { run0.pwr with settled := false, target := 3, op := 1 } }
def lk (s : State) := { s with bus := { s.bus with linkGen := 0, perst := true } }
def s1 : State := { run0 with hif := { run0.hif with dbRead := false } }
def s2 : State := { pw with bus := { pw.bus with linkGen := 0 } }
def s3 : State := lk run0
def s4 : State := { ret with bus := { ret.bus with perst := true}, power := { ret.power with mode := .deepStandby } }
def s5 : State := ret.wr KPR_WAKE_EN 0 0 0
def s6 : State := { run0 with hif := { run0.hif with cqs := [(0, { Cq.reset with pi := 2, recent := [{ entry := [1], before := [] }, { entry := [2], before := [] }] })], evPi := 1, evRecent := [{ entry := [3], before := [] }] } }

end Rings

namespace Net

def srcS (st : Nat) : State := { run0 with tick := { run0.tick with src := 1, srcState := st, edgePs := 10^10, nextPs := 3*10^10, missed := 1 } }
def ptM (two : Bool) (ty : Nat) : List Byte :=
  [BitVec.ofNat 8 ty, 2, 0, 44, 0, 0, (if two then 2 else 0)] ++ List.replicate 37 0
def pt (k good bad : Nat) (port : Nat := 0) : State :=
  let s := netS.wr TRF_PTP_CTL 0 0 (1 + 2000 * 65536)
  { s with eth := s.eth.map (fun x => { x with ptpState := k, good := good, bad := bad, ptp := { x.ptp with masters := [⟨0, [0]⟩] } }), tick := { s.tick with src := 3, srcState := 1, ptpPort := port } }

def frs : List EthFrame := [fr0 me false false udp0, fr0 me true false udp0, fr0 me false true udp0,
    fr0 [1,2,3,4,5,6] false false udp0]
def tx : TxFrame := ⟨.ptp 1, 100, 80, 0, 0, none, []⟩
def eg : State := { netS with queues := [(0, { Queue.reset with frames := [tx], credit := -500*10^9 })] }
def eg2 : State := { netS with eth := netS.eth.map (fun x => { x with sending := some (0, tx), sendEnd := 5*10^6 }) }
def s1 : State := srcS 1
def s2 : State := { srcS 1 with tick := {(srcS 1).tick with missed := 0}}
def s3 : State := pt 1 7 0
def s4 : State := pt 3 0 3
def s5 : State := netS.wr TRF_FLOW_BUCKET 0 0 0
def s7 : State := pt 2 0 0
def s8 : State := pt 3 0 0
def s9 : State := pt 2 7 0 1
def arp : EthFrame := { fr0 me false false udp0 with bytes := me ++ [0,0,0,0,0,1, 8, 6] ++ List.replicate 46 0 }
def ipProto (p : Byte) (udp : List Byte) : List Byte :=
  let n := 20 + udp.length
  let h : List Byte := [0x45, 0, BitVec.ofNat 8 (n/256), BitVec.ofNat 8 n, 0,0, 0, 0, 64, p]
  let tl : List Byte := [1,2,3,4, 10,0,0,1]
  let c := 65535 - (sum16 (h ++ [0,0] ++ tl)) % 65535
  h ++ [BitVec.ofNat 8 (c/256), BitVec.ofNat 8 c] ++ tl ++ udp
def tcp : EthFrame := { arp with bytes := me ++ [0,0,0,0,0,1, 8, 0] ++ ipProto 6 [1,2,3,4] }
def rtp0 : EthFrame := { arp with bytes := me ++ [0,0,0,0,0,1, 8, 0] ++ ipProto 17 ([0x11,0x11,0x12,0x34,0,25,0,0] ++ [0x80, 96, 0, 4, 0,0,0,1, 0,0,0,9, 0x65,1,2,3,4]) }
def mcast : EthFrame := { arp with bytes := [0xFF,0xFF,0xFF,0xFF,0xFF,0xFF] ++ [0,0,0,0,0,1, 8, 0] ++ ip0 false false udp0 }
def s6 : State := { netS with tick := { netS.tick with number := 100 }, flows := [(0, { Flow.reset with tokens := 10^13, expected := some 4 })] }

end Net

namespace Cams

def cam (g : ProbeStage) (det : Bool := true) : State :=
  let s : State := { run0 with csi := run0.csi.map (fun c => { c with stage := g, det := det, probe := [7], camEn := true }) }
  let s := (((s.wr CSI_PORT_CFG 0 0 (1 + 0xE0)).wr CSI_PORT_CFG 1 0 1).wr CSI_ID 0 1 (0x30000 + 5)).wr CSI_ID 0 3 0x20006
  (s.wr CSI_INIT 0 0 (3 + 24*2^24)).wr CSI_INIT 0 1 (0x80 + 256*4 + 24*2^24)
def withPartner (s : State) (port : Nat) : State :=
    { s with partners := [(5, { Partner.free with type := 1, port := port, ident := 9 })] }
def frm (s : State) (f : CsiFrame) : State := { s with csi := s.csi.map (fun c => { c with frames := [(1, f)] }) }
def cf : CsiFrame := ⟨0, 0x1E, 640, 480, 480, [1], false, false⟩
def usb (u : UsbPort) : State := { ((run0.wr USB_CTL 0 0 0x307)) with usb := [u, u, u] }
def u0 := UsbPort.reset
def dev (uvc ok : Bool) : UsbDevice := ⟨ok, uvc, 8, 0x1234, 0x5678, [65,66], [⟨1, 640, 480, 333333⟩], true⟩
def uvcS (bind : Bool) : State :=
  let s := usb { u0 with conn := true, modes := [⟨1, 640, 480, 333333⟩] }
  { s with partners := [(4, { Partner.free with type := 2, port := 0x20, flags := 1 })],
           chans := if bind then [(3, { Channel.free with state := 1, kind := 0, width := 1920, height := 1080, bindMode := 2, bindRef := 0x20, bound := some 4 })] else [] }
def s1 : State := cam .absent false
def s2 : State := cam .delay
def s3 : State := cam (.identity 1 0)
def s4 : State := cam (.identity 1 2)
def s5 : State := cam (.retryWait 1 1)
def s6 : State := cam (.init 0)
def s7 : State := cam (.initWait 1)
def s8 : State := cam (.initWait 0)
def s9 : State := cam .present
def s10 : State := withPartner (cam .present) 0
def s11 : State := frm (cam .present) cf
def s12 : State := usb { u0 with conn := true, enumerating := true }
def s13 : State := uvcS true

def s14 : State := (cam .delay).wr CSI_INIT 1 0 5
def s15 : State := cam (.identity 3 0)
def s16 : State := usb u0
def s17 : State := usb { u0 with oc := true, since := 5 }
def s18 : State := let s := uvcS true; { s with chans := s.chans.map (fun q => (q.1, { q.2 with width := 640, height := 480 })) }

end Cams

namespace Chans

def cb := chanBytes 1 2 0 1 0 640 480 2 (0,0,0)
def S1 := mkc combS 3 cb
def img : List Byte := (chS combS { channelOf cb 0 0 with auSeq := 4 }).exportImage 3
def s1 : State := mkc (chS combS (channelOf cb 0 0)) 3 cb
def s2 : State := mkc combS 3 (chanBytes 1 2 0 1 0 32 480 2 (0,0,0))
def s3 : State := mkc combS 3 (chanBytes 1 1 0 1 0 640 480 2 (0xFFFFFFF,0,0))
def s4 : State := jobS combS (desc 6 0 3 0 (leBytes 8 0x10000 ++ leBytes 4 (img.length+5) ++ [0xFF, 0] ))

def pj : State := jobS (chS combS (channelOf cb 0 0)) (desc 3 0 3 0 [])
def s5 : State := { pj with chans := [] }
def s6 : State := { pj with chans := [], hif := { pj.hif with creating := [3] } }
def s9 : State := { pj with hif := { pj.hif with jobs := pj.hif.jobs.map (fun j => { j with desc := { j.desc with flags := 1 } }) } }

def s7 : State := jobS (chS combS (channelOf cb 0 0)) (desc 6 0 3 0 (leBytes 8 0x10000 ++ leBytes 4 img.length ++
    [0xFF, 0]))
def img2 : List Byte := (chS combS { channelOf (chanBytes 1 2 0 1 0 32 480 2 (0,0,0)) 0 0 with auSeq := 4 }).exportImage 3
def img3 : List Byte := (chS combS { channelOf (chanBytes 1 1 0 1 0 640 480 2 (0xFFFFFFF,0,0)) 0 0 with auSeq := 4 }).exportImage 3
def s8 : State := jobS combS (desc 6 0 3 0 (leBytes 8 0x10000 ++ leBytes 4 img.length ++ [0xFF, 0]))

end Chans

namespace Decode

def ch0 : Channel := { channelOf (chanBytes 1 2 0 2 0 640 480 2 (0,0,0)) 0 0 with cq := 0, bound := none }
def chj (op : Nat) (pay : List Byte) (c : Channel) : State := jobS (chS combS c) (desc op 0 3 0 pay)
def exj (s : State) : State := { s with hif := { s.hif with jobs := s.hif.jobs.map (fun j => { j with phase := .executing }) } }
def hd : Header := { width := 640, height := 480, codedWidth := 640, codedHeight := 480, profile := 100, level := 40, highTier := false, interlaced := false, sliceGroups := false, chroma := 1, depth := 8, dpb := 2, layered := false, jBaseline := true, jArithmetic := false, jPrec8 := true, jSampling := true, jDnl := false }
def au0 (h : Option Header) : Au := { bits := 8000, width := 640, height := 480, segments := 1, irap := h.isSome, reference := true, poc := 4, rows := 30, header := h, incomplete := false }
def rep0 : DecReport := { syntax_ := [], missing := [], wanted := [], lost := [], blockW := 16, blockH := 16, vectors := [], list0 := none, idr := false, noPrior := false, shown := true, refs := [4], reorder := 0, redundant := 0, planes := [] }
def dch : Channel := { ch0 with kind := 2 }
def dj (c : Channel) (f : Job → Job) : State :=
  let s := chj 0x10 (leBytes 8 0x4000 ++ leBytes 4 1000) c
  { s with hif := { s.hif with jobs := s.hif.jobs.map f, nextJob := 9 } }
def working (s : State) : State := { s with tick := { s.tick with window := .work } }
def adm (h : Option Header) (c : Channel := dch) :=
    working (dj c (fun j => { j with phase := .admitted, ready := true, au := some (au0 h) }))
def two (cut : Bool) : State := let s := adm none; { s with hif := { s.hif with jobs := s.hif.jobs ++ s.hif.jobs.map (fun j => { j with id := 7, cut := cut }) }, engines := s.engines.map (fun e => { e with job := some 7 }) }
def s1 : State := chj 3 (leBytes 4 5 ++ leBytes 4 2) ch0
def s2 : State := chj 3 [] { ch0 with state := 3, pause := some ⟨0,1,2⟩ }
def s3 : State := chj 4 [] ch0
def s4 : State := chj 7 (leBytes 1 2 ++ leBytes 1 0x40) ch0
def s5 : State := chj 2 [] ch0
def s6 : State := chj 5 (leBytes 8 0x1000 ++ leBytes 4 65536 ++ leBytes 2 7 ++ [1]) ch0
def s7 : State := chj 5 (leBytes 8 0x1000 ++ leBytes 4 65536 ++ leBytes 2 7 ++ [1]) { ch0 with state := 3 }
def s8 : State := exj (chj 5 (leBytes 8 0x1000 ++ leBytes 4 65536 ++ leBytes 2 7 ++
    [1]) { ch0 with exporting := some (0, 0, true) })
def s9 : State := dj dch id
def s10 : State := dj dch (fun j => { j with desc := { j.desc with bytes := (j.desc.bytes.take 0x1C) ++ [2] ++ (j.desc.bytes.drop 0x1D) } })
def s11 : State := adm none
def s12 : State := adm (some { hd with interlaced := true })
def s13 : State := two true
def s14 : State := two false
def s15 : State := { adm none with tick := { (adm none).tick with composing := [1], window := .work } }

def s16 : State := chj 0x10 (leBytes 8 0x4000 ++ leBytes 4 1000) { ch0 with kind := 1 }
def s18 : State := dj dch (fun j => { j with ready := true, au := some (au0 none) })
def s19 : State := adm none { dch with decState := 3, unsup := 0x91 }

def s20 : State := chj 5 (leBytes 8 0x1000 ++ leBytes 4 65536 ++ leBytes 2 7 ++
    [1]) { ch0 with exporting := some (9, 9, true) }
def s21 : State := exj (chj 5 (leBytes 8 0x1000 ++ leBytes 4 65536 ++ leBytes 2 7 ++
    [1]) { ch0 with kind := kindRaw, exporting := some (0, 100, true) })

end Decode

namespace Encode

def ech : Channel := { channelOf (chanBytes 3 2 0 2 0 640 480 2 (0,0,0)) 0 0 with cq := 0 }
def chj (op : Nat) (pay : List Byte) (c : Channel) : State := jobS (chS combS c) (desc op 0 3 0 pay)
def blkE (rc : Nat := 0) (src : Nat := 4) (lv : Nat := 40) (qp : Nat := 30) : List Byte :=
  leBytes 1 src ++ leBytes 1 0 ++ leBytes 1 lv ++ leBytes 1 rc ++ leBytes 4 0 ++ leBytes 4 0 ++ leBytes 2 0 ++
      leBytes 1 qp ++ leBytes 1 qp ++ leBytes 1 qp ++ leBytes 1 10 ++ leBytes 1 40 ++ leBytes 1 0 ++ leBytes 2 30 ++
      leBytes 2 0 ++ leBytes 1 1 ++ leBytes 1 1 ++ leBytes 1 0 ++ leBytes 1 0 ++ leBytes 2 1000 ++ leBytes 1 96 ++
      leBytes 1 80 ++ leBytes 4 0 ++ leBytes 4 0 ++ leBytes 2 0 ++ leBytes 2 0 ++ leBytes 8 0 ++ leBytes 4 0 ++
      leBytes 8 0x10000 ++ leBytes 4 65536
def eo : Encoder := encoderOf (padTo 128 (blkE)) 0 0
def act2 (a : Nat) (p : List Byte) (e : Option Encoder) : State := chj 0x11 (leBytes 1 a ++ [0,0,0] ++
    leBytes 4 (if a = 0 then 640 else 0) ++ leBytes 8 (if a = 2 || a = 4 then 0 else 0x4000)) { ech with enc := e }
def admE (f : Job → Job) (e : Encoder) : State :=
  let s := act2 0 [] (some e)
  { s with hif := { s.hif with jobs := s.hif.jobs.map (fun j => f { j with phase := .admitted, ready := true, cap := 1000, rows := 30, settings := some e }) }, tick := { s.tick with window := .work } }
def s1 : State := chj 7 (leBytes 1 1 ++ leBytes 1 3) ech
def s2 : State := act2 1 [] none
def s3 : State := act2 1 [] (some eo)
def s4 : State := act2 0 [] (some eo)
def s5 : State := act2 0 [] (some { eo with numB := 2 })
def s6 : State := act2 2 [] (some { eo with lastQp := 17 })
def s7 : State := act2 3 [] (some eo)
def s8 : State := act2 4 [] (some eo)
def s9 : State := admE id eo
def s10 : State := admE (fun j => { j with cut := true, cutRow := 3 }) eo

def s11 : State := { s4 with chans := [(3, { ech with enc := some eo, state := 3 })] }
def s13 : State := chj 0x11 [4] { ech with kind := 2 }
def s14 : State := act2 2 [] (some { eo with stopping := some 5 })
def s15 : State := act2 4 [] none
def s16 : State := act2 0 [] (some { eo with source := 3 })
def s17 : State := let s := act2 2 [] (some eo); { s with hif := { s.hif with jobs := s.hif.jobs ++ s.hif.jobs.map (fun j => { j with id := 7, phase := .admitted, desc := { j.desc with bytes := j.desc.bytes.take 0x10 ++ [0] ++ j.desc.bytes.drop 0x11 } }) } }
def s18 : State := admE (fun j => { j with cut := true, cutRow := 0, rows := 30, rowsDone := 3 }) eo
def s19 : State := admE (fun j => { j with rows := 30, rowsDone := 3, cap := 10 ^ 6 }) eo
def s20 : State := admE (fun j => { j with rows := 30, rowsDone := 30, cap := 10 ^ 6 }) eo

end Encode

namespace Compose

def hj (op : Nat) (ch : Nat) (pay : List Byte) (s : State := combS) : State := jobS s (desc op 0 ch 0 pay)
def lay (d slot ty ref : Nat) (dw : Nat := 100) : List Byte := leBytes 1 d ++ leBytes 1 slot ++ leBytes 1 ty ++
    leBytes 1 ref ++ leBytes 2 0 ++ leBytes 2 0 ++ leBytes 2 (if ty = 3 then 0 else 64) ++
    leBytes 2 (if ty = 3 then 0 else 64) ++ leBytes 2 0 ++ leBytes 2 0 ++ leBytes 2 dw ++ leBytes 2 64 ++
    leBytes 1 255 ++ leBytes 1 (if ty = 1 then 5 else 0) ++ leBytes 1 8 ++ leBytes 1 0 ++ leBytes 4 0 ++ leBytes 3 0 ++
    [0] ++ leBytes 4 4
def dsp : State := chS (scr (scr combS 0) 2) { Channel.free with state := 1, kind := 0, width := 640, height := 480 }
def ovl (s : State) := { s with cmp := { s.cmp with copies := [{ job := 0, slot := 5, cells := [1], width := 64, height := 64, format := 0 }] } }
def ovd : List Byte := leBytes 8 0x10000 ++ leBytes 4 256 ++ leBytes 1 5 ++ leBytes 1 0 ++ leBytes 2 64 ++ leBytes 2 64
def exj (s : State) : State := { s with hif := { s.hif with jobs := s.hif.jobs.map (fun j => { j with phase := .executing }) } }
def s1 : State := hj 0x20 0xFF (lay 0 0 3 0) dsp
def s2 : State := { dsp with tick := { dsp.tick with window := .work, composing := [0,2] } }
def s3 : State := { dsp with tick := { dsp.tick with window := .work, composing := [0,2], cmpStarted := true } }
def s4 : State := hj 0x20 0xFF (lay 0 0 1 4) dsp
def s5 : State := hj 0x20 0xFF ([0, 255, 1, 5]) dsp
def s6 : State := hj 0x20 0xFF ([0, 255, 2, 5]) dsp
def s7 : State := hj 0x21 0xFF ovd dsp
def s8 : State := ovl (exj (hj 0x21 0xFF ovd dsp))

def s9 : State := ovl (hj 0x21 0xFF ovd dsp)

end Compose

namespace Jobs

def hj (op : Nat) (ch : Nat) (pay : List Byte) (s : State := combS) : State := jobS s (desc op 0 ch 0 pay)
def lay (d slot ty ref : Nat) (dw : Nat := 100) : List Byte := leBytes 1 d ++ leBytes 1 slot ++ leBytes 1 ty ++
    leBytes 1 ref ++ leBytes 2 0 ++ leBytes 2 0 ++ leBytes 2 (if ty = 3 then 0 else 64) ++
    leBytes 2 (if ty = 3 then 0 else 64) ++ leBytes 2 0 ++ leBytes 2 0 ++ leBytes 2 dw ++ leBytes 2 64 ++
    leBytes 1 255 ++ leBytes 1 (if ty = 1 then 5 else 0) ++ leBytes 1 8 ++ leBytes 1 0 ++ leBytes 4 0 ++ leBytes 3 0 ++
    [0] ++ leBytes 4 4
def dsp : State := chS (scr (scr combS 0) 2) { Channel.free with state := 1, kind := 0, width := 640, height := 480 }
def fio (mode div w off : Nat) : List Byte := leBytes 4 7 ++ leBytes 1 mode ++ leBytes 1 div ++ leBytes 2 w ++
    leBytes 4 off
def st (a len off : Nat) : List Byte := leBytes 8 (if a = 1 || a = 2 then 0 else 0x1000) ++
    leBytes 4 (if a = 1 || a = 2 then 0 else len) ++ leBytes 1 a ++ [0,0,0] ++ leBytes 4 off
def tx (q len : Nat) : List Byte := leBytes 8 0x1000 ++ leBytes 2 len ++ leBytes 1 q
def netC : State := { netS with bpm := combS.bpm, regs := netS.regs }
def full (s : State) : State := { s with queues := [(0, { Queue.reset with netBytes := 10^6 })] }
def badSlot (s : State) : State := { s with mem := { s.mem with mram := cellsFrom (slotBase s.inactive) [0, 0, 0, 0] } }
def slots (s : State) : State := { s with sys := { s.sys with slotA := ⟨1, 3, 0⟩, slotB := ⟨2, 4, 0⟩ } }
def s1 : State := hj 0x20 0xFF (lay 0 0 3 0) (dsp.wr DSP_CFG 0 0 0)
def s2 : State := hj 0x30 0xFF (fio 2 0 0 0)
def s3 : State := hj 0x30 0xFF (fio 3 0 100 5)
def s4 : State := hj 0x40 0xFF (leBytes 8 0x1000 ++ leBytes 4 0 ++ leBytes 2 5)
def s5 : State := hj 0x41 0xFF (leBytes 8 0x1000 ++ [1,0] ++ leBytes 2 3 ++ leBytes 4 0)
def s6 : State := hj 0x50 0xFF (st 0 64 0) (slots combS)
def s7 : State := hj 0x50 0xFF (st 0 128 0x17FFC0)
def s8 : State := hj 0x50 0xFF (st 1 0 0) (badSlot (slots combS))
def s9 : State := hj 0x50 0xFF (st 2 0 0)
def s10 : State := hj 0x50 0xFF (st 3 64 0)
def s11 : State := hj 0x50 0xFF (st 3 64 0xF0000)
def s12 : State := hj 0x50 0xFF (st 4 64 0)
def s13 : State := hj 0x50 0xFF (st 4 64 0xF0000)
def s14 : State := hj 0x51 0xFF (tx 0 64) netC
def s15 : State := hj 0x51 0xFF (tx 0 64) (full netC)
def s16 : State := hj 0x51 3 (tx 0 64) (chS netC { Channel.free with state := 3 })
def s17 : State := (hj 0x51 0xFF (tx 0 64) netC).wr TRF_Q_CFG 0 0 0
def commitS : State :=
  let s := hj 0x50 0xFF (st 1 0 0) (slots combS)
  { s with mem := { s.mem with mram := imageAt 0 ++ imageAt slotSize } }

end Jobs

namespace Dispatch

def th (x : Thread) (run : Bool := false) : State :=
    { combS with sch := { combS.sch with threads := [(9, x)], cores := combS.sch.cores.map (fun c => if run then { c with thread := some 9 } else c) } }
def nt (fm := false) (rl := 5) := newThread 3 fm false 15 7 0 rl 0 100
def big : State := { combS with bpm := { combS.bpm with cells := [(0, 0x20), (1, 7), (5*2^21+3, 0xFF)], recent := [9] } }
def s1 : State := th nt
def s2 : State := th { nt with counter := 1 }
def s3 : State := th { nt with counter := 0, state := 3 }
def s4 : State := th { nt with counter := 0, state := 3, pending := 255 }
def s5 : State := th { nt true with mask := 6 }
def s6 : State := th { nt true with mask := 6, state := 3} true
def s7 : State := th { nt false 0 with state := 3, counter := 0 } true
def s8 : State := { big with bpm := { big.bpm with cache := [3, 8, 28, 32] } }

def link (s : State) : State := { s with bpm := { s.bpm with cells := [(0, 0x20), (1, 7), (5*2^21+3, 0x20)], recent := [9] } }
def s9 : State := link combS
def s10 : State := let s := link combS; { s with mem := { s.mem with dram := (List.range 8).flatMap (fun c => (List.range 4).map (fun k => (s.cellAddr (s.pickCell c) + 4 + k, (0x5A#8)))) |>.filter (fun _ => true) } }

def s11 : State := { s9 with bpm := { s9.bpm with lists := [[5], [], [], [], [4*2^21+9], [5*2^21+1], [], []] } }
def s12 : State := { s11 with mem := { s11.mem with dram := (List.range 4).map (fun k => (s11.cellAddr (4*2^21+9) + 4 + k, (0x5A#8))) } }

end Dispatch

namespace Faults

def tr (s : State) : State := { s with mem := { s.mem with trained := 3 } }
def rep (b u : Nat) (p : Pair) (ch : List Nat := []) (k : Option UnitKind := none) : Report :=
    { block := b, unit := u, pair := p, channels := ch, jobs := [], addr := 0x1234, kind := k }
def allCodes : List (Nat × Nat) := (List.range 0x17).flatMap (fun b => ((blockCauses b).flatten).map (fun c => (b, c)))
def c3 : State := chS combS { Channel.free with state := 1, kind := 2, codec := 2 }
def cn (k : Nat) : Nat × Nat := lget (1,1) allCodes k
def repK (k u : Nat) (p : Nat → Pair) (kd : Option UnitKind) : Report := rep (cn k).1 u (p (cn k).2) [3] kd
def fen : State := { c3 with guard := { c3.guard with fenced := [(.syn, 1, 0x1001), (.core, 2, 0x0F01), (.pix, 0, 0x0801)] } }
def s1 : State := tr run0
def s2 : State := tr { run0 with mem := { run0.mem with maintTicks := 1000, maintChan := 1 }, tick := { run0.tick with window := .guard } }
def s3 : State := { fen with guard := { fen.guard with restarting := true, reaction := some { first := 0x0C02, acting := .m, startNs := 5, edges := 0, codes := [(0x0C02, 0)] } }}

def s4 : State := { fen with guard := { fen.guard with fenced := [(.core, 0, 0x0F01), (.core, 2, 0x0F01)] } }
def s5 : State := { (tr run0).wr GRD_CTL 0 0 0x0101 with guard := { run0.guard with mStarts := [0] } }
def s6 : State := { tr run0 with mem := { run0.mem with iecc := true } }
def s7 : State := { tr run0 with guard := { run0.guard with asserted := [(8, 0), (9, 1), (1, 0), (0x11, 0)] } }
def s8 : State := { tr run0 with guard := { run0.guard with safe := true } }
def s9 : State := { tr run0 with guard := { run0.guard with reaction := some { first := 0x0801, acting := .e, startNs := 5, edges := 0, codes := [(0x0801, 0)] } } }
def s10 : State := { tr run0 with power := { run0.power with mode := .retain } }

end Faults

namespace Boot

def badS : State := { base with sys := { base.sys with resetLow := true, bootStage := 6 } }
def s1 : State := { base with sys := { base.sys with bootStage := 6 } }
def s2 : State := { State.reset with pwr := { State.reset.pwr with seqFailed := true, seqNs := 1000 } }

def s3 : State := { s1 with pwr := { s1.pwr with phases := s1.pwr.phases.map (fun x => { x with state := 3 }) } }
def s4 : State := { base with power := { base.power with mode := .off } }

end Boot

namespace Stage

def ph0 : State := { base with pwr := { base.pwr with spare := 4, phases := (List.range 5).map (fun i => { state := if i = 4 then 1 else 0, byOpen := false, distrust := false, fails := 1, passes := 2, ma := 3 }), settled := true } }
def guardS : State := { act with pwr := { ph0.pwr with senseLost := false }, tick := { act.tick with window := .guard } }
def m0 : MeterSample := { vinMv := 12000, iinMa := 3000, coreNj := 5, memNj := 2999, inputNj := 123456, shares := [], dram := [], dramOther := 7, cmpNj := [(0, 5), (2, 9999)] }

def shedS (k : Nat) (s : State := ph0) : State :=
    { s with pwr := { s.pwr with phases := s.pwr.phases.zipIdx.map (fun x => if x.2 < k then { x.1 with state := 3 } else { x.1 with state := if x.2 = 4 then 1 else 0 }) } }
def s1 : State := shedS 1
def s2 : State := shedS 2
def inTurn : State := { ph0 with sys := act.sys, tick := { act.tick with window := .guard } }
def s3 : State := { ph0 with pwr := { ph0.pwr with throttle := true } }
def s4 : State := { ph0 with pwr := { ph0.pwr with hotNs := some 0, readNs := 5 } }
def s5 : State := { ph0 with pwr := { ph0.pwr with phases := ph0.pwr.phases.map (fun x => { x with fails := 2 }) } }
def s6 : State := { ph0 with pwr := { ph0.pwr with phases := ph0.pwr.phases.map (fun x => { x with state := 2 }) } }
def s7 : State := { ph0 with pwr := { ph0.pwr with fallNs := some 100, riseNs := some 3, thermCeil := 3 } }
def s8 : State := { ph0 with pwr := { ph0.pwr with spare := 7 } }

end Stage

namespace Clock

def ck (a b : Nat) (sb : Bool) (st : Nat := 4) : State :=
    { base with clk := { base.clk with active := 0, standby := sb, synths := (List.range 6).map (fun i => { Synth.reset with state := if i = 0 then a else if i = 1 then b else st, n := 319, k := 7, p := 2, hops := [(1,2,3),(0,0,0)] }) } }
def s1 : State := ck 4 4 true
def s2 : State := ck 4 4 false
def s3 : State := ck 5 4 true

def tn (st : Nat) : State := { base with clk := { base.clk with synths := (List.range 6).map (fun i => { Synth.reset with state := if i < 2 then 4 else st, n := 319, k := 7, p := 2, hops := [(1,2,3),(0,0,0)] }) } }
def s4 : State := tn 1
def s5 : State := tn 2
def s6 : State := tn 3
def s7 : State := ck 3 2 false 2
def s8 : State := { base with clock := { base.clock with oscFailed := true } }
def s9 : State := { tn 3 with clock := { base.clock with refFailed := true } }

end Clock

namespace Field

def fo : Fout := { Fout.reset with set := { mode := 3, div := 2, width := 100, offset := 50 } }
def fS (f : Fout → Fout) (cfg : Nat := 0) : State :=
  let b : State := { act with fio := { act.fio with present := true, outs := (List.range 4).map (fun i => if i = 1 then f fo else if i = 2 then { Fout.reset with set := { mode := 2, div := 0, width := 0, offset := 0 } } else Fout.reset) } }
  b.wr FIO_OUT_CFG 0 1 cfg
def noVf : State := { fS id with fio := { (fS id).fio with present := false } }
def s1 : State := fS id
def s2 : State := fS (fun x => { x with pulsing := true })
def s3 : State := fS (fun x => { x with pulsing := true, short := true })
def s4 : State := fS (fun x => { x with ol := true, ext := true })

end Field

namespace Input

def aS : State := { act with fio := { act.fio with ins := act.fio.ins.map (fun y => { y with level := true }) } }

end Input

namespace Panels

def owe (l : Bool) : State := let s := (run0.wr HIF_CQ_MOD 3 0 (5 * 65536 + 10)).wr HIF_CQ_CFG 3 0 0x1014
  { s with hif := { s.hif with cqs := [(3, { Cq.reset with unsignalled := 1, sinceNs := 77, pi := 1 })] }, bus := { s.bus with msixTable := if l then [(15, 0#32)] else [] } }
def dp (d : Nat) (f : Display → Display) (s : State := base) : State := s.modDisp d f
def here (d : Nat) (s : State := base) : State :=
    { (s.modDisp d (fun x => { x with present := true })) with partners := [(4, { Partner.free with type := 5, port := displayPort d, gen := 1 })] }
def s1 : State := owe true
def s2 : State := owe false
def s3 : State := (here 0).wr DSP_CFG 0 0 0x81
def s4 : State := dp 0 (fun x => { x with step := .on }) (here 0)
def s5 : State := dp 2 (fun x => { x with step := .on, raw := true })
def s6 : State := dp 2 (fun x => { x with step := .training })
def s7 : State := dp 2 (fun x => { x with step := .on, retrain := true })
def s8 : State := { dp 0 (fun x => { x with step := .on }) with cmp := { base.cmp with holdFrom := some 5 } }
def s9 : State := dp 2 (fun x => { x with step := .waitHpd })
def s10 : State := dp 0 (fun x => { x with step := .waitLink })
def s11 : State := dp 1 (fun x => { x with step := .waitBacklight })
def s12 : State := dp 1 (fun x => { x with step := .waitLinkOff })
def s13 : State := dp 1 (fun x => { x with step := .waitVddOff })
def s14 : State := dp 1 (fun x => { x with step := .waitOff })
def s15 : State := dp 1 (fun x => { x with step := .waitOff, again := true, present := true }) (base.wr DSP_CFG 1 0 1)

def wide (s : State) : State := scr s 2
def s16 : State := wide s6
def s17 : State := wide s7

end Panels


theorem witness_PadsFollowState : ∃ s t : State, step s = .next t :=
  ⟨Counters.s2, after .settleFlag base, rfl⟩

theorem witness_StepsKeepMemoryForm :
    ∃ s t : State, step s = .next t ∧ Memory.wf s.mem = true ∧ Bpm.wf s.bpm = true :=
  ⟨Counters.s2, after .settleFlag base, rfl, by decide +kernel, by decide +kernel⟩

theorem witness_EveryCommandCompletes :
    ∃ (i : Instr), i.unitsOk = false :=
  ⟨.displayEnable .pcie 3 1, by decide +kernel⟩

theorem witness_CfgWriteTakesOrCountsLate :
    ∃ (p : Path) (off : Nat) (s : State) (d : RegDef) (i : Nat) (j : Nat) (k : Nat), findReg off = some (d, i, j, k) ∧
      d.quiet = true ∧ isWindow off = false ∧ off % 4 = 0 ∧ s.reaches p off = true ∧ s.isActive = false ∧
      s.reaches Path.spi off = true ∧ s.reaches Path.pcie off = true :=
  ⟨Path.pcie, 196612, Modes.lcs, Option.get (Option.map (fun p => p.1) (findReg (196612))) (by decide +kernel),
      Option.get (Option.map (fun p => p.2.1) (findReg (196612))) (by decide +kernel), 0, 0, by decide +kernel⟩

theorem witness_RegisterWriteActsByField :
    ∃ fs : List Field, (∀ f ∈ fs, f.lo ≤ f.hi) ∧ fs.Pairwise Field.apart ∧ fs ≠ [] ∧ (∀ f ∈ fs, 7 < f.lo ∨ f.hi < 7) :=
  ⟨PWR_CFG.fields, by decide +kernel⟩

theorem witness_BadAccessesAreIgnored :
    (∃ (off : Nat) (size : Nat), (size ≠ 4 ∨ off % 4 ≠ 0)) ∧
    (∃ (off : Nat), isWindow off = false ∧ findReg off = none) :=
  ⟨⟨12, 4096, by decide +kernel⟩,
   ⟨1052, by decide +kernel⟩⟩

theorem witness_CounterIncrementWraps :
    ∃ (d : RegDef) (i : Nat) (k : Nat), k ≠ d.at i ∧ k ≠ d.at i + 4 :=
  ⟨KPR_LOG_CTL, 100, 5, by decide +kernel⟩

theorem witness_LowWordReadLatchesHigh :
    (∃ (p : Path) (off : Nat) (x : SramAccess) (s : State) (d : RegDef) (i : Nat), findReg off = some (d, i, 0, 0) ∧
      d.kind = RegKind.counter64 ∧ List.find? (fun x => x.1.off == d.off) (s.mirrors d.off i 0) = none ∧
      isWindow off = false ∧ off % 4 = 0 ∧ s.reaches p off = true) ∧
    (∃ (p : Path) (off : Nat) (s : State) (d : RegDef) (i : Nat) (w : Nat), findReg off = some (d, i, 0, w) ∧
      d.kind = RegKind.counter64 ∧ d.off >>> 15 ≠ 4 ∧ d.off >>> 15 ≠ 29 ∧ isWindow off = false ∧ off % 4 = 0 ∧
      s.reaches p off = true ∧ s.isActive = true) ∧
    (∃ (p : Path) (off : Nat) (s : State) (d : RegDef) (i : Nat) (w : Nat), findReg off = some (d, i, 0, w) ∧
      d.kind = RegKind.counter64 ∧ d.off >>> 15 ≠ 4 ∧ d.off >>> 15 ≠ 29 ∧ isWindow off = false ∧ off % 4 = 0 ∧
      s.reaches p off = true ∧ s.isActive = false ∧ w = 0) ∧
    (∃ (p : Path) (off : Nat) (s : State) (d : RegDef) (i : Nat) (w : Nat), findReg off = some (d, i, 0, w) ∧
      d.kind = RegKind.counter64 ∧ d.off >>> 15 ≠ 4 ∧ d.off >>> 15 ≠ 29 ∧ isWindow off = false ∧ off % 4 = 0 ∧
      s.reaches p off = true ∧ s.isActive = false ∧ w = 1 ∧ (∀ (a x : Nat), s.staged p = some (a, x) → x < 2 ^ 32)) :=
  ⟨⟨Path.pcie, PWR_ENERGY_IN_UJ.off, .quiet, Dispatch.s4,
      Option.get (Option.map (fun p => p.1) (findReg (PWR_ENERGY_IN_UJ.off))) (by decide +kernel),
      Option.get (Option.map (fun p => p.2.1) (findReg (PWR_ENERGY_IN_UJ.off))) (by decide +kernel), by decide +kernel⟩,
   ⟨Path.pcie, ETH_RX_FRAME_COUNT.off, Encode.s14,
       Option.get (Option.map (fun p => p.1) (findReg (ETH_RX_FRAME_COUNT.off))) (by decide +kernel),
       Option.get (Option.map (fun p => p.2.1) (findReg (ETH_RX_FRAME_COUNT.off))) (by decide +kernel), 0,
       by decide +kernel⟩,
   ⟨Path.spi, ETH_RX_FRAME_COUNT.off, Modes.s5,
       Option.get (Option.map (fun p => p.1) (findReg (ETH_RX_FRAME_COUNT.off))) (by decide +kernel),
       Option.get (Option.map (fun p => p.2.1) (findReg (ETH_RX_FRAME_COUNT.off))) (by decide +kernel), 0,
       by decide +kernel⟩,
   ⟨Path.pcie, DEC_PIC_COUNT.off+4, Modes.s5,
       Option.get (Option.map (fun p => p.1) (findReg (DEC_PIC_COUNT.off+4))) (by decide +kernel),
       Option.get (Option.map (fun p => p.2.1) (findReg (DEC_PIC_COUNT.off+4))) (by decide +kernel), 1,
       by decide +kernel, by decide +kernel, by decide +kernel, by decide +kernel, by decide +kernel,
       by decide +kernel, by decide +kernel, by decide +kernel, by decide +kernel, staged_fits _ _ (by decide +kernel)⟩⟩

theorem witness_RangedRegistersTakeRange :
    (∃ (p : Path) (s : State), s.reaches p TCK_PERIOD.off = true ∧ s.isActive = true) ∧
    (∃ (p : Path) (v : Word) (s : State), s.reaches p TCK_PERIOD.off = true ∧ s.isActive = false ∧
      (BitVec.toNat v < 4000000 ∨ 100000000 < BitVec.toNat v)) ∧
    (∃ (p : Path) (v : Word) (s : State), s.reaches p TCK_PERIOD.off = true ∧ s.isActive = false ∧
      4000000 ≤ BitVec.toNat v ∧ BitVec.toNat v ≤ 100000000) ∧
    (∃ (p : Path) (s : State), s.reaches p TCK_SRC_TOL.off = true ∧ s.reaches p TCK_ADM_CTL.off = true ∧
      s.isActive = true) ∧
    (∃ (p : Path) (adm : Bool) (v : Word) (s : State), s.reaches p TCK_SRC_TOL.off = true ∧
      s.reaches p TCK_ADM_CTL.off = true ∧ s.isActive = false ∧ (if adm = true then 25 < bits (BitVec.toNat v) 4 0 ∨
      50 < bits (BitVec.toNat v) 13 8 else 500 < bits (BitVec.toNat v) 8 0)) ∧
    (∃ (p : Path) (adm : Bool) (v : Word) (s : State), s.reaches p TCK_SRC_TOL.off = true ∧
      s.reaches p TCK_ADM_CTL.off = true ∧ s.isActive = false ∧ (¬if adm = true then 25 < bits (BitVec.toNat v) 4 0 ∨
      50 < bits (BitVec.toNat v) 13 8 else 500 < bits (BitVec.toNat v) 8 0)) ∧
    (∃ (p : Path) (n : Nat) (s : State), n < 4 ∧ s.reaches p (CLK_OUT.at n) = true ∧ s.isActive = true) ∧
    (∃ (p : Path) (n : Nat) (v : Word) (s : State), n < 4 ∧ s.reaches p (CLK_OUT.at n) = true ∧ s.isActive = false ∧
      (¬(bitAt (BitVec.toNat v) 0 = false ∨ bits (BitVec.toNat v) 4 3 = 3 ∨
      outInRange (BitVec.toNat v) (s.fld CLK_OUT_FRAC 23 0 n) = true))) :=
  ⟨⟨Path.pcie, Jobs.dsp, by decide +kernel⟩,
   ⟨Path.pcie, 0x80#32, Modes.s1, by decide +kernel⟩,
   ⟨Path.pcie, 20000000#32, Stage.s7, by decide +kernel⟩,
   ⟨Path.pcie, run0, by decide +kernel⟩,
   ⟨Path.pcie, false, 0xFFFFFFFF#32, Counters.s2, by decide +kernel⟩,
   ⟨Path.pcie, false, 0x81#32, Screens.s2, by decide +kernel⟩,
   ⟨Path.pcie, 2, Jobs.s10, by decide +kernel⟩,
   ⟨Path.pcie, 2, 100000001#32, screenS, by decide +kernel⟩⟩

theorem witness_RangedRegistersTakeRange_2 :
    ∃ (p : Path) (n : Nat) (v : Word) (s : State), n < 4 ∧ s.reaches p (CLK_OUT.at n) = true ∧ s.isActive = false ∧
      (bitAt (BitVec.toNat v) 0 = false ∨ bits (BitVec.toNat v) 4 3 = 3 ∨
      outInRange (BitVec.toNat v) (s.fld CLK_OUT_FRAC 23 0 n) = true) :=
  ⟨Path.pcie, 0, 500#32, Supply.st_auxOn, by decide +kernel⟩

theorem witness_GoChecksAndActivates :
    (∃ (p : Path) (s : State), s.reaches p SYS_CTL.off = true ∧ s.isActive = true) ∧
    (∃ (p : Path) (s : State), s.reaches p SYS_CTL.off = true ∧ s.isActive = false ∧ s.goErr ≠ 255) ∧
    (∃ (p : Path) (s : State), s.reaches p SYS_CTL.off = true ∧ s.isActive = false ∧ s.goErr = 255) :=
  ⟨⟨Path.pcie, Jobs.s17, by decide +kernel⟩,
   ⟨Path.pcie, Panels.s14, by decide +kernel⟩,
   ⟨Path.pcie, Ticks.goS, by decide +kernel⟩⟩

theorem witness_RestartsAreRequested :
    ∃ (p : Path) (v : Word) (s : State), s.reaches p SYS_RESTART.off = true ∧ bits (BitVec.toNat v) 15 0 ≠ 21187 :=
  ⟨Path.pcie, 0#32, Jobs.s14, by decide +kernel⟩

theorem witness_ResetPointStartsAgain :
    (∃ (s : State), s.sys.restart = none) ∧
    (∃ (s : State) (cause : Nat) (rescue : Bool), s.sys.restart = some (cause, rescue, false) ∧ s.allDark = false) ∧
    (∃ (s : State) (cause : Nat) (rescue : Bool) (imm : Bool), s.sys.restart = some (cause, rescue, imm) ∧ cause ≠ 6 ∧
      (imm = true ∨ s.allDark = true)) :=
  ⟨⟨Faults.s5, by decide +kernel⟩,
   ⟨Ticks.s2, Option.get (Option.map (fun p => p.1) (Ticks.s2).sys.restart) (by decide +kernel),
       Option.get (Option.map (fun p => p.2.1) (Ticks.s2).sys.restart) (by decide +kernel), by decide +kernel⟩,
   ⟨Ticks.s1, Option.get (Option.map (fun p => p.1) (Ticks.s1).sys.restart) (by decide +kernel),
       Option.get (Option.map (fun p => p.2.1) (Ticks.s1).sys.restart) (by decide +kernel),
       Option.get (Option.map (fun p => p.2.2) (Ticks.s1).sys.restart) (by decide +kernel), by decide +kernel⟩⟩

theorem witness_ResetKindsKeepAndWipe :
    (∃ (d : RegDef) (i : Nat), d.at i / 65536 ≠ 12) ∧
    (∃ (k : Nat) (d : RegDef) (i : Nat), k ≠ 0 ∧ k ≠ 6 ∧ d.at i / 65536 = 12) ∧
    (∃ (k : Nat), (k = 0 ∨ k = 6)) ∧
    (∃ (k : Nat), k = 2) ∧
    (∃ (k : Nat), k ≠ 2) ∧
    (∃ (k : Nat), k = 0) :=
  ⟨⟨SYS_LATE_WRITES, 40, by decide +kernel⟩,
   ⟨16, KPR_WAKE_EN, 5, by decide +kernel⟩,
   ⟨6, by decide +kernel⟩,
   ⟨2, by decide +kernel⟩,
   ⟨7, by decide +kernel⟩,
   ⟨0, by decide +kernel⟩⟩

theorem witness_LifeCycleCommandsAct :
    (∃ (p : Path) (s : State), s.reaches p LCS_CMD.off = true ∧ s.sys.restart.isSome = true ∧
      Option.map (fun x => x.1) s.sys.restart ≠ some 6) ∧
    (∃ (p : Path) (s : State), s.reaches p LCS_CMD.off = true ∧ s.sys.restart = none ∧ s.lcsRefusal 1 ≠ 0) ∧
    (∃ (p : Path) (s : State), s.reaches p LCS_CMD.off = true ∧ s.sys.restart = none ∧ s.lcsRefusal 2 ≠ 0) ∧
    (∃ (p : Path) (s : State), s.reaches p LCS_CMD.off = true ∧ s.sys.restart = none ∧ s.lcsRefusal 3 ≠ 0) ∧
    (∃ (p : Path) (s : State), s.reaches p LCS_CMD.off = true ∧ s.sys.restart = none ∧ s.lcsRefusal 2 = 0) ∧
    (∃ (p : Path) (s : State), s.reaches p LCS_CMD.off = true ∧ s.sys.restart = none ∧ s.lcsRefusal 3 = 0) ∧
    (∃ (p : Path) (env : BootEnv) (s : State), s.reaches p LCS_CMD.off = true ∧ s.sys.restart = none ∧
      s.lcsRefusal 1 = 0 ∧ env.wipeOk = true) ∧
    (∃ (p : Path) (cmd : Nat) (key : Nat) (s : State), s.reaches p LCS_CMD.off = true ∧ s.sys.restart = none ∧
      cmd < 16 ∧ key < 65536 ∧ key ≠ 31262) :=
  ⟨⟨Path.pcie, Ticks.s1, by decide +kernel⟩,
   ⟨Path.pcie, Compose.dsp, by decide +kernel⟩,
   ⟨Path.pcie, Compose.dsp, by decide +kernel⟩,
   ⟨Path.pcie, Encode.s14, by decide +kernel⟩,
   ⟨Path.pcie, Modes.lcs, by decide +kernel⟩,
   ⟨Path.pcie, Modes.lcs, by decide +kernel⟩,
   ⟨Path.pcie, { env0 with fuseOk := false }, disp0, by decide +kernel⟩,
   ⟨Path.pcie, 1, 31261, Screens.ta, by decide +kernel⟩⟩

theorem witness_RescueProgramsNamedSlots :
    (∃ (p : Path) (len : Nat) (slots : Nat) (s : State), s.reaches p SYS_RESCUE_CTL.off = true ∧ len < 2 ^ 21 ∧
      slots < 4 ∧ s.sys.rescue = false ∧ s.sys.restart = none) ∧
    (∃ (p : Path) (len : Nat) (slots : Nat) (s : State), s.reaches p SYS_RESCUE_CTL.off = true ∧ len < 2 ^ 21 ∧
      slots < 4 ∧ s.sys.rescue = true ∧ s.sys.restart = none ∧
      ((if slotSize < len then 198 else s.stagedErr s.rescueByte len) ≠ 0)) :=
  ⟨⟨Path.pcie, 0, 0, Faults.s1, by decide +kernel⟩,
   ⟨Path.pcie, 2097151, 0, Modes.res, by decide +kernel⟩⟩

theorem witness_ModeRequestsAreAnswered :
    (∃ (p : Path) (s : State) (m : Mode), m ∈ [Mode.deepStandby, .retain, .idle, .run] ∧
      s.reaches p PWR_MODE_REQ.off = true ∧ s.guard.safe = true) ∧
    (∃ (p : Path) (s : State) (m : Mode), m ∈ [Mode.deepStandby, .retain, .idle, .run] ∧
      s.reaches p PWR_MODE_REQ.off = true ∧ s.guard.safe = false ∧ s.power.trans = Transition.none ∧
      s.reacting = true) ∧
    (∃ (p : Path) (s : State) (m : Mode), m ∈ [Mode.deepStandby, .retain, .idle, .run] ∧
      s.reaches p PWR_MODE_REQ.off = true ∧ s.guard.safe = false ∧ s.power.trans = Transition.none ∧
      s.reacting = false ∧ (s.power.mode = Mode.run ∨ s.power.mode = Mode.idle) ∧ m = s.power.mode) ∧
    (∃ (p : Path) (s : State) (m : Mode), m ∈ [Mode.deepStandby, .retain, .idle, .run] ∧
      s.reaches p PWR_MODE_REQ.off = true ∧ s.guard.safe = false ∧ s.power.trans = Transition.none ∧
      s.reacting = false ∧ (s.power.mode = Mode.run ∨ s.power.mode = Mode.idle) ∧ m ≠ s.power.mode ∧ (m = Mode.retain ∨
      m = Mode.deepStandby) ∧ s.clock.oscFailed = true) ∧
    (∃ (p : Path) (s : State) (m : Mode), m ∈ [Mode.deepStandby, .retain, .idle, .run] ∧
      s.reaches p PWR_MODE_REQ.off = true ∧ s.guard.safe = false ∧ s.power.trans = Transition.none ∧
      s.reacting = false ∧ (s.power.mode = Mode.run ∨ s.power.mode = Mode.idle) ∧ m ≠ s.power.mode ∧
      (¬((m = Mode.retain ∨ m = Mode.deepStandby) ∧ s.clock.oscFailed = true))) ∧
    (∃ (s : State), s.power.stbyReady = false) ∧
    (∃ (s : State), s.power.stbyReady = true ∧ s.sys.bootStage = 7 ∧ s.guard.safe = false ∧
      s.power.trans = Transition.none ∧ s.reacting = false ∧ s.clock.oscFailed = false ∧ (s.power.mode = Mode.run ∨
      s.power.mode = Mode.idle)) :=
  ⟨⟨Path.pcie, Faults.s8, .deepStandby, by decide +kernel⟩,
   ⟨Path.pcie, Faults.s9, .deepStandby, by decide +kernel⟩,
   ⟨Path.pcie, Jobs.s9, (Jobs.s9).power.mode, by decide +kernel⟩,
   ⟨Path.pcie, Clock.s8, .deepStandby, by decide +kernel⟩,
   ⟨Path.pcie, Modes.s2, .run, by decide +kernel⟩,
   ⟨Modes.ret, by decide +kernel⟩,
   ⟨Cams.s1, by decide +kernel⟩⟩

theorem witness_WakeEventsLatchAndWake :
    (∃ (s : State) (p : Path), s.power.mode = Mode.retain ∧ s.power.trans = Transition.none ∧ s.power.armed = true ∧
      s.power.latched = [] ∧ s.reaches p KPR_WAKE_CMD.off = true) ∧
    (∃ (s : State), s.power.mode = Mode.retain ∧ s.power.trans = Transition.none ∧ s.power.armed = true ∧
      s.power.latched = [] ∧ s.power.stbyReady = false ∧ s.flag KPR_WAKE_EN 7 = true) ∧
    (∃ (s : State) (n : Nat), s.power.mode = Mode.retain ∧ s.power.trans = Transition.none ∧ s.power.armed = true ∧
      s.power.latched = [] ∧ n < 2 ∧ s.pwr.keeperOn = true ∧ s.flag KPR_WAKE_EN n = true) ∧
    (∃ (s : State), s.power.mode = Mode.retain ∧ s.power.trans = Transition.none ∧ s.power.armed = true ∧
      s.power.latched = [] ∧ s.power.alarm ≠ 0 ∧ s.power.alarmPassed = false ∧ s.pwr.keeperOn = true ∧
      s.flag KPR_WAKE_EN 6 = true) :=
  ⟨⟨Modes.ret, Path.spi, by decide +kernel⟩,
   ⟨Modes.ret, by decide +kernel⟩,
   ⟨Modes.ret, 1, by decide +kernel⟩,
   ⟨Modes.ret, by decide +kernel⟩⟩

theorem witness_LowPowerEntryAndExit :
    (∃ (s : State) (m : Mode), s.power.trans = Transition.quiesced m ∧ s.power.latched = []) ∧
    (∃ (s : State) (w : Wake) (rest : List Wake), s.power.latched = w :: rest ∧
      s.power.trans = Transition.quiesced Mode.retain) ∧
    (∃ (s : State) (w : Wake) (rest : List Wake), s.power.latched = w :: rest ∧
      s.power.trans = Transition.quiesced Mode.deepStandby) ∧
    (∃ (s : State), s.power.trans ≠ Transition.exiting Mode.retain) ∧
    (∃ (s : State), s.power.trans = Transition.exiting Mode.retain ∧ s.guard.safe = false) :=
  ⟨⟨Modes.q1, .retain, by decide +kernel⟩,
   ⟨Modes.s3, List.head ((Modes.s3).power.latched) (by decide +kernel), List.tail ((Modes.s3).power.latched),
       by decide +kernel⟩,
   ⟨Modes.s6, List.head ((Modes.s6).power.latched) (by decide +kernel), List.tail ((Modes.s6).power.latched),
       by decide +kernel⟩,
   ⟨State.reset, by decide +kernel⟩,
   ⟨Modes.s4, by decide +kernel⟩⟩

theorem witness_CombBuildChecksAndFills :
    (∃ (p : Path) (s : State), s.reaches p BPM_CTL.off = true ∧ s.isActive = false ∧ s.bpm.building.isSome = true) ∧
    (∃ (p : Path) (s : State), s.reaches p BPM_CTL.off = true ∧ s.isActive = false ∧ s.bpm.building = none) ∧
    (∃ (s : State) (counts : List Nat) (base : Nat), s.bpm.building = some (counts, base)) :=
  ⟨⟨Path.pcie, Modes.s5, by decide +kernel⟩,
   ⟨Path.pcie, Counters.s2, by decide +kernel⟩,
   ⟨Modes.s5, Option.get (Option.map (fun p => p.1) (Modes.s5).bpm.building) (by decide +kernel),
       Option.get (Option.map (fun p => p.2) (Modes.s5).bpm.building) (by decide +kernel), by decide +kernel⟩⟩

theorem witness_DisplayEnableChecks :
    (∃ (p : Path) (d : Nat) (s : State), d < 3 ∧ s.reaches p (DSP_CFG.at d) = true ∧ s.isActive = true) ∧
    (∃ (p : Path) (d : Nat) (v : Word) (s : State), d < 3 ∧ s.reaches p (DSP_CFG.at d) = true ∧ s.isActive = false ∧
      s.enabled d = true ∧ bitAt (BitVec.toNat v) 0 = false) ∧
    (∃ (p : Path) (d : Nat) (v : Word) (s : State), d < 3 ∧ s.reaches p (DSP_CFG.at d) = true ∧ s.isActive = false ∧
      s.enabled d = false ∧ bitAt (BitVec.toNat v) 0 = true ∧
      (s.wr DSP_CFG d 0 (writeFields false (BitVec.toNat v) (s.rd DSP_CFG d) DSP_CFG.fields)).displayErr d ((s.wr DSP_CFG d 0 (writeFields false (BitVec.toNat v) (s.rd DSP_CFG d) DSP_CFG.fields)).reserved - (s.wr DSP_CFG d 0 (writeFields false (BitVec.toNat v) (s.rd DSP_CFG d) DSP_CFG.fields)).reservation d) ≠ 0) ∧
    (∃ (p : Path) (d : Nat) (v : Word) (s : State), d < 3 ∧ s.reaches p (DSP_CFG.at d) = true ∧ s.isActive = false ∧
      s.enabled d = false ∧ bitAt (BitVec.toNat v) 0 = true ∧
      (s.wr DSP_CFG d 0 (writeFields false (BitVec.toNat v) (s.rd DSP_CFG d) DSP_CFG.fields)).displayErr d ((s.wr DSP_CFG d 0 (writeFields false (BitVec.toNat v) (s.rd DSP_CFG d) DSP_CFG.fields)).reserved - (s.wr DSP_CFG d 0 (writeFields false (BitVec.toNat v) (s.rd DSP_CFG d) DSP_CFG.fields)).reservation d) = 0) :=
  ⟨⟨Path.pcie, 2, Dispatch.s10, by decide +kernel⟩,
   ⟨Path.pcie, 1, 20000000#32, Panels.s15, by decide +kernel⟩,
   ⟨Path.pcie, 1, 1#32, Clock.s7, by decide +kernel⟩,
   ⟨Path.pcie, 0, 0xFFFFFFFF#32, Screens.s1, by decide +kernel⟩⟩

theorem witness_VectorsMaskAndModerate :
    (∃ (off : Nat) (s : State), off < 1056 ∧ off % 4 = 0 ∧ s.reaches Path.pcie (98304 + off) = true) ∧
    (∃ (s : State) (n : Nat), n < 64 ∧ s.owesSignal n = false) ∧
    (∃ (s : State) (n : Nat), n < 64 ∧ s.owesSignal n = true ∧ 0 < s.fld HIF_CQ_MOD 31 16 n) :=
  ⟨⟨512, Jobs.s4, by decide +kernel⟩,
   ⟨State.reset, 5, by decide +kernel⟩,
   ⟨Panels.s1, 3, by decide +kernel⟩⟩

theorem witness_StatusClearsAndLogReads :
    (∃ (p : Path) (b : Nat) (s : State), 1 ≤ b ∧ b ≤ 22 ∧ s.reaches p (GRD_FSTAT.at (b - 1)) = true) ∧
    (∃ (p : Path) (off : Nat) (s : State), off < 65536 ∧ off % 4 = 0 ∧ s.reaches p 851968 = true ∧
      s.reaches p (851968 + off) = true) :=
  ⟨⟨Path.pcie, 16, Supply.st_inputOpen, by decide +kernel⟩,
   ⟨Path.pcie, 20, Stage.s7, by decide +kernel⟩⟩

theorem witness_ManagementPortFrames :
    (∃ (s : State) (frame : List Byte), s.pwr.keeperOn = true ∧ leAt frame 0 1 = 2 ∧ spiFrameOk frame = false) ∧
    (∃ (s : State) (ws : List Word), s.pwr.keeperOn = true ∧ 1 ≤ ws.length ∧ ws.length ≤ 64) ∧
    (∃ (s : State) (frame : List Byte), s.pwr.keeperOn = true ∧ leAt frame 0 1 ≠ 2 ∧ leAt frame 0 1 ≠ 3 ∧
      leAt frame 0 1 ≠ 5) ∧
    (∃ (s : State) (k : Nat), s.pwr.keeperOn = true ∧ k ≤ 64) :=
  ⟨⟨State.reset, [0x02#8,1,2,3,4,5,6,7,8], by decide +kernel⟩,
   ⟨State.reset, [1#32], by decide +kernel⟩,
   ⟨State.reset, Net.ptM true 0, by decide +kernel⟩,
   ⟨State.reset, 15, by decide +kernel⟩⟩

theorem witness_TickEdgeOpensTick :
    (∃ (s : State), s.ticks = false) ∧
    (∃ (s : State), s.ticks = true) :=
  ⟨⟨quietS, by decide +kernel⟩,
   ⟨powerS, by decide +kernel⟩⟩

theorem witness_RingReads :
    (∃ (s : State), (s.canDma = false ∨ s.hif.dbRead = true)) ∧
    (∃ (s : State) (n : Nat), s.canDma = true ∧ s.hif.dbRead = false ∧ s.sqOn n = true) ∧
    (∃ (s : State), (s.canDma = false ∨ s.hif.fetching = false)) ∧
    (∃ (s : State) (n : Nat), s.canDma = true ∧ s.hif.fetching = true ∧ s.hif.polling = none ∧ s.nextRing = some n) :=
  ⟨⟨State.reset, by decide +kernel⟩,
   ⟨Rings.s1, 0, by decide +kernel⟩,
   ⟨State.reset, by decide +kernel⟩,
   ⟨rung, Option.get ((rung).nextRing) (by decide +kernel), by decide +kernel⟩⟩

theorem witness_PollsAndAdmissionOnce :
    (∃ (s : State), (s.tick.stopped = true ∨ s.tick.window ≠ Window.work ∨ s.tick.polls < s.tick.pollsDone + 1)) ∧
    (∃ (s : State), s.tick.stopped = false ∧ s.tick.window = Window.work ∧ s.tick.pollsDone < s.tick.polls) ∧
    (∃ (s : State), s.tick.stopped = false ∧ s.tick.window ≠ Window.admission) ∧
    (∃ (s : State), s.tick.stopped = false ∧ s.tick.window = Window.admission) :=
  ⟨⟨State.reset, by decide +kernel⟩,
   ⟨Rings.pw, by decide +kernel⟩,
   ⟨Compose.s2, by decide +kernel⟩,
   ⟨State.reset, by decide +kernel⟩⟩

theorem witness_OperatingPointConfirms :
    (∃ (s : State), s.pwr.settled = true) ∧
    (∃ (s : State), s.pwr.settled = false) :=
  ⟨⟨State.reset, by decide +kernel⟩,
   ⟨Rings.op, by decide +kernel⟩⟩

theorem witness_TickWindowsOpenAndClose :
    (∃ (s : State), s.tick.stopped = false ∧ s.tick.window = Window.decided ∧ s.pwr.settled = false) ∧
    (∃ (s : State), s.tick.stopped = false ∧ s.tick.window ≠ Window.decided) ∧
    (∃ (s : State), s.tick.stopped = false ∧ s.tick.window ≠ Window.guard) ∧
    (∃ (s : State), s.tick.stopped = false ∧ s.tick.window = Window.guard) ∧
    (∃ (s : State), s.tick.out = false) ∧
    (∃ (s : State), s.tick.out = true) :=
  ⟨⟨Screens.s6, by decide +kernel⟩,
   ⟨State.reset, by decide +kernel⟩,
   ⟨State.reset, by decide +kernel⟩,
   ⟨Faults.s2, by decide +kernel⟩,
   ⟨State.reset, by decide +kernel⟩,
   ⟨Screens.s6, by decide +kernel⟩⟩

theorem witness_LinkLossStopsRings :
    (∃ (s : State), s.bus.linkGen = 0) ∧
    (∃ (s : State), 0 < s.bus.linkGen) ∧
    (∃ (s : State), s.bus.bme = false) ∧
    (∃ (s : State), s.bus.bme = true) :=
  ⟨⟨State.reset, by decide +kernel⟩,
   ⟨Boot.badS, by decide +kernel⟩,
   ⟨State.reset, by decide +kernel⟩,
   ⟨Boot.badS, by decide +kernel⟩⟩

theorem witness_LinkReturnsAndWakes :
    (∃ (s : State) (gen : Nat) (width : Nat), 1 ≤ gen ∧ gen ≤ 3 ∧ (width = 1 ∨ width = 2 ∨ width = 4) ∧
      (s.bus.perst = true ∨ s.bus.endpointOff = true)) ∧
    (∃ (s : State) (gen : Nat) (width : Nat), 1 ≤ gen ∧ gen ≤ 3 ∧ (width = 1 ∨ width = 2 ∨ width = 4) ∧
      s.bus.perst = false ∧ s.bus.endpointOff = false ∧ 0 < s.sys.bootStage ∧ s.sys.resetLow = false ∧
      s.pwr.pwrGood = true) ∧
    (∃ (s : State), s.bus.perst = true ∧ s.power.mode ≠ Mode.deepStandby) ∧
    (∃ (s : State), s.bus.perst = true ∧ s.power.mode = Mode.deepStandby ∧ s.power.trans = Transition.none ∧
      s.power.armed = true ∧ s.flag KPR_WAKE_EN 9 = true ∧ s.power.latched.length < 16) ∧
    (∃ (s : State), (s.retaining = false ∨ s.bus.linkGen = 0)) ∧
    (∃ (s : State), 0 < s.bus.linkGen ∧ s.power.mode = Mode.retain ∧ s.power.trans = Transition.none ∧
      s.flag KPR_WAKE_EN 9 = true ∧ s.power.armed = true ∧ s.power.latched = []) ∧
    (∃ (s : State), 0 < s.bus.linkGen ∧ s.power.mode = Mode.retain ∧ s.power.trans = Transition.none ∧
      s.flag KPR_WAKE_EN 9 = false) :=
  ⟨⟨Rings.s3, 3, 4, by decide +kernel⟩,
   ⟨Boot.s1, 1, 2, by decide +kernel⟩,
   ⟨Rings.s3, by decide +kernel⟩,
   ⟨Rings.s4, by decide +kernel⟩,
   ⟨State.reset, by decide +kernel⟩,
   ⟨Modes.ret, by decide +kernel⟩,
   ⟨Faults.s10, by decide +kernel⟩⟩

theorem witness_DmaWriteFailure :
    (∃ (s : State), s.canDma = false) ∧
    (∃ (s : State) (id : Nat), s.canDma = true ∧ (∀ (j : Job), s.job? id = some j → j.phase ≠ JobPhase.waiting ∨
      j.desc.opcode ≠ 64 ∧ j.desc.opcode ≠ 65)) ∧
    (∃ (s : State) (n : Nat) (back : Nat), s.canDma = true ∧ back < (s.cq n).recent.length) ∧
    (∃ (s : State) (back : Nat), s.canDma = true ∧ back < s.hif.evRecent.length) :=
  ⟨⟨State.reset, by decide +kernel⟩,
   ⟨Cams.s1, 1, by decide +kernel, no_job _ _ (by decide +kernel)⟩,
   ⟨Rings.s6, 0, 1, by decide +kernel⟩,
   ⟨Rings.s6, 0, by decide +kernel⟩⟩

theorem witness_SourceEdgesSteerTimer :
    (∃ (s : State) (instant : Nat), s.edgeAt instant = false) ∧
    (∃ (s : State) (instant : Nat), s.edgeAt instant = true ∧ s.tick.srcState = 1 ∧
      1000 * s.tolNs < ((s.advanceTo (1000 * instant)).timerErr instant).natAbs) ∧
    (∃ (s : State) (instant : Nat), s.edgeAt instant = true ∧ s.tick.srcState = 1 ∧
      ((s.advanceTo (1000 * instant)).timerErr instant).natAbs ≤ 1000 * s.tolNs) ∧
    (∃ (s : State), (s.tick.src = 0 ∨ s.ticks = false)) ∧
    (∃ (s : State), s.tick.src ≠ 0 ∧ s.ticks = true ∧ s.tick.missed = 0) ∧
    (∃ (s : State), s.tick.src ≠ 0 ∧ s.ticks = true ∧ 1 ≤ s.tick.missed ∧ (s.tick.srcState = 1 ∨
      s.tick.srcState = 2)) :=
  ⟨⟨State.reset, 29000000, by decide +kernel⟩,
   ⟨Net.s1, 5, by decide +kernel⟩,
   ⟨Net.s1, 30000500, by decide +kernel⟩,
   ⟨State.reset, by decide +kernel⟩,
   ⟨Net.s2, by decide +kernel⟩,
   ⟨Net.s1, by decide +kernel⟩⟩

theorem witness_PtpPortSyncAndLoss :
    (∃ (s : State) (m : Nat) (x : EthPort) (b : List Byte), m < 2 ∧ s.eth[m]? = some x ∧ (s.ptpOn m = false ∨
      s.ptpHeaderOk m b = false)) ∧
    (∃ (s : State) (m : Nat) (x : EthPort) (b : List Byte), m < 2 ∧ s.eth[m]? = some x ∧ s.ptpOn m = true ∧
      s.ptpHeaderOk m b = true ∧ ptpType b = 0 ∧ s.fromMaster m b = true ∧ ptpTwoStep b = true) ∧
    (∃ (s : State) (m : Nat) (x : EthPort) (b : List Byte) (sfd : Nat), m < 2 ∧ s.eth[m]? = some x ∧ s.ptpOn m = true ∧
      s.ptpHeaderOk m b = true ∧ ptpType b = 0 ∧ s.fromMaster m b = true ∧ ptpTwoStep b = false ∧
      decide ((↑(s.stamp m (1000 * sfd)) - (ptpStamp b + ptpCorrection b) - x.ptp.delay).natAbs ≤ s.fld TRF_PTP_CTL 31 16 m) = true ∧ 7 ≤ x.good ∧ x.ptpState ≠ 3) ∧
    (∃ (s : State) (m : Nat) (x : EthPort) (b : List Byte) (sfd : Nat), m < 2 ∧ s.eth[m]? = some x ∧ s.ptpOn m = true ∧
      s.ptpHeaderOk m b = true ∧ ptpType b = 0 ∧ s.fromMaster m b = true ∧ ptpTwoStep b = false ∧
      (decide ((↑(s.stamp m (1000 * sfd)) - (ptpStamp b + ptpCorrection b) - x.ptp.delay).natAbs ≤ s.fld TRF_PTP_CTL 31 16 m) = false ∨ x.good < 7) ∧ x.ptpState ≠ 3) ∧
    (∃ (s : State) (m : Nat) (x : EthPort) (b : List Byte) (sfd : Nat), m < 2 ∧ s.eth[m]? = some x ∧ s.ptpOn m = true ∧
      s.ptpHeaderOk m b = true ∧ ptpType b = 0 ∧ s.fromMaster m b = true ∧ ptpTwoStep b = false ∧
      (decide ((↑(s.stamp m (1000 * sfd)) - (ptpStamp b + ptpCorrection b) - x.ptp.delay).natAbs ≤ s.fld TRF_PTP_CTL 31 16 m) = true ∨ x.bad < 3) ∧ x.ptpState = 3) ∧
    (∃ (s : State) (m : Nat) (x : EthPort) (b : List Byte) (sfd : Nat), m < 2 ∧ s.eth[m]? = some x ∧ s.ptpOn m = true ∧
      s.ptpHeaderOk m b = true ∧ ptpType b = 0 ∧ s.fromMaster m b = true ∧ ptpTwoStep b = false ∧
      decide ((↑(s.stamp m (1000 * sfd)) - (ptpStamp b + ptpCorrection b) - x.ptp.delay).natAbs ≤ s.fld TRF_PTP_CTL 31 16 m) = false ∧ 3 ≤ x.bad ∧ x.ptpState = 3) ∧
    (∃ (s : State) (m : Nat) (x : EthPort), m < 2 ∧ s.eth[m]? = some x ∧ x.ptpState = 2) ∧
    (∃ (s : State) (m : Nat) (x : EthPort), m < 2 ∧ s.eth[m]? = some x ∧ x.ptpState ≠ 2 ∧ x.ptpState ≠ 3) :=
  ⟨⟨State.reset, 0, Option.get ((State.reset).eth[(0)]?) (by decide +kernel), blk 1 0, by decide +kernel⟩,
   ⟨Net.s3, 0, Option.get ((Net.s3).eth[(0)]?) (by decide +kernel), Net.ptM true 0, by decide +kernel⟩,
   ⟨Net.s3, 0, Option.get ((Net.s3).eth[(0)]?) (by decide +kernel), Net.ptM false 0, 1000, by decide +kernel⟩,
   ⟨Net.s3, 0, Option.get ((Net.s3).eth[(0)]?) (by decide +kernel), Net.ptM false 0, 5000000, by decide +kernel⟩,
   ⟨Net.s4, 0, Option.get ((Net.s4).eth[(0)]?) (by decide +kernel), Net.ptM false 0, 0, by decide +kernel⟩,
   ⟨Net.s4, 0, Option.get ((Net.s4).eth[(0)]?) (by decide +kernel), Net.ptM false 0, 5000000, by decide +kernel⟩,
   ⟨Net.s7, 1, Option.get ((Net.s7).eth[(1)]?) (by decide +kernel), by decide +kernel⟩,
   ⟨State.reset, 1, Option.get ((State.reset).eth[(1)]?) (by decide +kernel), by decide +kernel⟩⟩

theorem witness_ReceivedFramesAreJudged :
    (∃ (s : State) (m : Nat), m < 2 ∧ (s.macOn m = false ∨ (s.ethPort m).link = false)) ∧
    (∃ (s : State) (m : Nat) (x : EthFrame), m < 2 ∧ s.macOn m = true ∧ (s.ethPort m).link = true ∧ x.overrun = true) ∧
    (∃ (s : State) (m : Nat) (x : EthFrame), m < 2 ∧ s.macOn m = true ∧ (s.ethPort m).link = true ∧ x.overrun = false ∧
      (x.fcsError = true ∨ 1518 < x.bytes.length)) ∧
    (∃ (s : State) (m : Nat) (x : EthFrame), m < 2 ∧ s.macOn m = true ∧ (s.ethPort m).link = true ∧ x.overrun = false ∧
      x.fcsError = false ∧ x.bytes.length ≤ 1518 ∧ s.macTakes m (beAt x.bytes 0 6) = false) ∧
    (∃ (s : State) (m : Nat) (x : EthFrame), m < 2 ∧ s.macOn m = true ∧ (s.ethPort m).link = true ∧ x.overrun = false ∧
      x.fcsError = false ∧ x.bytes.length ≤ 1518 ∧ s.macTakes m (beAt x.bytes 0 6) = true ∧
      (packetOf x.bytes).ethertype ≠ 2048) ∧
    (∃ (s : State) (m : Nat) (x : EthFrame), m < 2 ∧ s.macOn m = true ∧ (s.ethPort m).link = true ∧ x.overrun = false ∧
      x.fcsError = false ∧ x.bytes.length ≤ 1518 ∧ s.macTakes m (beAt x.bytes 0 6) = true ∧
      (packetOf x.bytes).ethertype = 2048 ∧ (packetOf x.bytes).headerOk = false) ∧
    (∃ (s : State) (m : Nat) (x : EthFrame), m < 2 ∧ s.macOn m = true ∧ (s.ethPort m).link = true ∧ x.overrun = false ∧
      x.fcsError = false ∧ x.bytes.length ≤ 1518 ∧ s.macTakes m (beAt x.bytes 0 6) = true ∧
      (packetOf x.bytes).ethertype = 2048 ∧ (packetOf x.bytes).headerOk = true ∧ (packetOf x.bytes).fragment = true) ∧
    (∃ (s : State) (m : Nat) (x : EthFrame), m < 2 ∧ s.macOn m = true ∧ (s.ethPort m).link = true ∧ x.overrun = false ∧
      x.fcsError = false ∧ x.bytes.length ≤ 1518 ∧ s.macTakes m (beAt x.bytes 0 6) = true ∧
      (packetOf x.bytes).ethertype = 2048 ∧ (packetOf x.bytes).headerOk = true ∧ (packetOf x.bytes).fragment = false ∧
      (packetOf x.bytes).isUdp = false) :=
  ⟨⟨State.reset, 0, by decide +kernel⟩,
   ⟨Jobs.netC, 1, { frame0 with overrun := true }, by decide +kernel⟩,
   ⟨Jobs.netC, 1, { frame0 with fcsError := true }, by decide +kernel⟩,
   ⟨Jobs.netC, 0, Net.frs[3], by decide +kernel⟩,
   ⟨Jobs.netC, 1, frame0, by decide +kernel⟩,
   ⟨Jobs.netC, 0, Net.frs[2], by decide +kernel⟩,
   ⟨Jobs.netC, 0, Net.frs[1], by decide +kernel⟩,
   ⟨Jobs.netC, 0, Net.tcp, by decide +kernel⟩⟩

theorem witness_ReceivedFramesAreJudged_2 :
    (∃ (s : State) (m : Nat) (x : EthFrame) (f : Nat), m < 2 ∧ s.macOn m = true ∧ (s.ethPort m).link = true ∧
      x.overrun = false ∧ x.fcsError = false ∧ x.bytes.length ≤ 1518 ∧ s.macTakes m (beAt x.bytes 0 6) = true ∧
      (packetOf x.bytes).ethertype = 2048 ∧ (packetOf x.bytes).headerOk = true ∧ (packetOf x.bytes).fragment = false ∧
      (packetOf x.bytes).isUdp = true ∧ (packetOf x.bytes).udpOk = true ∧ (s.flag TRF_PTP_CTL 0 m = false ∨
      (packetOf x.bytes).dstPort ≠ 319 ∧ (packetOf x.bytes).dstPort ≠ 320) ∧
      List.find? (s.flowMatches m (packetOf x.bytes)) (List.range 32) = some f ∧ s.fld TRF_FLOW_RATE 21 0 f ≠ 0 ∧
      s.tokensNow f < (packetOf x.bytes).totalLen * 10 ^ 9) ∧
    (∃ (s : State) (m : Nat) (x : EthFrame) (f : Nat), m < 2 ∧ s.macOn m = true ∧ (s.ethPort m).link = true ∧
      x.overrun = false ∧ x.fcsError = false ∧ x.bytes.length ≤ 1518 ∧ s.macTakes m (beAt x.bytes 0 6) = true ∧
      (packetOf x.bytes).ethertype = 2048 ∧ (packetOf x.bytes).headerOk = true ∧ (packetOf x.bytes).fragment = false ∧
      (packetOf x.bytes).isUdp = true ∧ (packetOf x.bytes).udpOk = true ∧ (s.flag TRF_PTP_CTL 0 m = false ∨
      (packetOf x.bytes).dstPort ≠ 319 ∧ (packetOf x.bytes).dstPort ≠ 320) ∧
      List.find? (s.flowMatches m (packetOf x.bytes)) (List.range 32) = some f ∧ s.fld TRF_FLOW_RATE 21 0 f ≠ 0 ∧
      (packetOf x.bytes).totalLen * 10 ^ 9 ≤ s.tokensNow f ∧
      s.rtpOk f (rtpOf (List.drop 8 (packetOf x.bytes).udp)) (List.drop 8 (packetOf x.bytes).udp).length x.donl = false) ∧
    (∃ (s : State) (f : Nat), f < 32 ∧ (s.flow f).expected.isSome = true ∧ s.ticks = true ∧
      s.tick.number.toNat ≥ (s.flow f).lastTick + atLeast1 (s.fld ETH_SILENCE 15 0 f)) ∧
    (∃ (s : State) (f : Nat), f < 32 ∧ ((s.flow f).expected = none ∨ ¬(s.ticks = true ∧
      s.tick.number.toNat ≥ (s.flow f).lastTick + atLeast1 (s.fld ETH_SILENCE 15 0 f)))) :=
  ⟨⟨Jobs.netC, 0, Net.mcast, Option.get (List.find? ((Jobs.netC).flowMatches (0) (packetOf (Net.mcast).bytes)) (List.range 32)) (by decide +kernel), by decide +kernel⟩,
   ⟨Net.s6, 0, Net.frs[0], Option.get (List.find? ((Net.s6).flowMatches (0) (packetOf (Net.frs[0]).bytes)) (List.range 32)) (by decide +kernel), by decide +kernel⟩,
   ⟨Net.s6, 0, by decide +kernel⟩,
   ⟨State.reset, 0, by decide +kernel⟩⟩

theorem witness_EgressQueuesSendByCredit :
    (∃ (s : State) (m : Nat) (x : EthPort) (q : Nat), m < 2 ∧ s.eth[m]? = some x ∧ q < 16 ∧ (s.queue q).frames = []) ∧
    (∃ (s : State) (m : Nat) (x : EthPort) (q : Nat) (f : TxFrame) (rest : List TxFrame), m < 2 ∧ s.eth[m]? = some x ∧
      q < 16 ∧ s.qPort q = m ∧ s.qOn q = true ∧ (s.queue q).frames = f :: rest ∧ (∀ r < q, s.qPort r = m →
      (s.queue r).frames = []) ∧ x.link = true ∧ x.sending = none ∧ x.ptpQueue = [] ∧ s.guard.safe = false ∧
      (s.queue q).creditNs ≤ s.ktime ∧ -10 ^ 15 ≤ (s.queue q).credit ∧ s.clock.ps < 2 ^ 73) ∧
    (∃ (s : State) (m : Nat) (x : EthPort) (q : Nat) (f : TxFrame), m < 2 ∧ s.eth[m]? = some x ∧ x.sending = some (q,
      f) ∧ q < 16 ∧ (∀ r < 16, (s.queue r).frames = []) ∧ x.ptpQueue = []) ∧
    (∃ (s : State) (m : Nat) (x : EthPort), m < 2 ∧ s.eth[m]? = some x ∧ x.link = false) ∧
    (∃ (s : State) (m : Nat) (x : EthPort), m < 2 ∧ s.eth[m]? = some x ∧ s.macOn m = false) ∧
    (∃ (s : State) (m : Nat) (x : EthPort), m < 2 ∧ s.eth[m]? = some x ∧ s.macOn m = true) :=
  ⟨⟨State.reset, 1, Option.get ((State.reset).eth[(1)]?) (by decide +kernel), 1, by decide +kernel⟩,
   ⟨Net.eg, (Net.eg).qPort (0), Option.get ((Net.eg).eth[((Net.eg).qPort (0))]?) (by decide +kernel), 0,
       List.head (((Net.eg).queue (0)).frames) (by decide +kernel), List.tail (((Net.eg).queue (0)).frames),
       by decide +kernel⟩,
   ⟨Net.eg2, 1, Option.get ((Net.eg2).eth[(1)]?) (by decide +kernel),
       Option.get (Option.map (fun p => p.1) (State.ethPort Net.eg2 1).sending) (by decide +kernel),
       Option.get (Option.map (fun p => p.2) (State.ethPort Net.eg2 1).sending) (by decide +kernel), by decide +kernel⟩,
   ⟨State.reset, 1, Option.get ((State.reset).eth[(1)]?) (by decide +kernel), by decide +kernel⟩,
   ⟨State.reset, 1, Option.get ((State.reset).eth[(1)]?) (by decide +kernel), by decide +kernel⟩,
   ⟨Jobs.netC, 1, Option.get ((Jobs.netC).eth[(1)]?) (by decide +kernel), by decide +kernel⟩⟩

theorem witness_CameraProbeIdentifies :
    (∃ (s : State) (p : Nat) (c : CsiPort), p < 4 ∧ s.csi[p]? = some c ∧ (s.csiOn p = false ∨ c.det = true)) ∧
    (∃ (s : State) (p : Nat) (c : CsiPort), p < 4 ∧ s.csi[p]? = some c ∧ s.csiOn p = true ∧ c.det = false) ∧
    (∃ (s : State) (p : Nat) (c : CsiPort), p < 4 ∧ s.csi[p]? = some c ∧ c.stage ≠ ProbeStage.delay) ∧
    (∃ (s : State) (p : Nat) (c : CsiPort), p < 4 ∧ s.csi[p]? = some c ∧ c.stage = ProbeStage.delay) ∧
    (∃ (s : State) (p : Nat) (c : CsiPort), p < 4 ∧ s.csi[p]? = some c ∧ (∀ (k n : Nat),
      c.stage ≠ ProbeStage.identity k n)) ∧
    (∃ (s : State) (p : Nat) (c : CsiPort) (k : Nat) (n : Nat), p < 4 ∧ s.csi[p]? = some c ∧
      c.stage = ProbeStage.identity k n ∧ n < 2) ∧
    (∃ (s : State) (p : Nat) (c : CsiPort) (k : Nat) (n : Nat), p < 4 ∧ s.csi[p]? = some c ∧
      c.stage = ProbeStage.identity k n ∧ 2 ≤ n) ∧
    (∃ (s : State) (p : Nat) (c : CsiPort), p < 4 ∧ s.csi[p]? = some c ∧ (∀ (k n : Nat),
      c.stage ≠ ProbeStage.retryWait k n)) :=
  ⟨⟨State.reset, 2, Option.get ((State.reset).csi[(2)]?) (by decide +kernel), by decide +kernel⟩,
   ⟨Cams.s1, 1, Option.get ((Cams.s1).csi[(1)]?) (by decide +kernel), by decide +kernel⟩,
   ⟨State.reset, 2, Option.get ((State.reset).csi[(2)]?) (by decide +kernel), by decide +kernel⟩,
   ⟨Cams.s14, 2, Option.get ((Cams.s14).csi[(2)]?) (by decide +kernel), by decide +kernel⟩,
   ⟨State.reset, 2, Option.get ((State.reset).csi[(2)]?) (by decide +kernel), by decide +kernel, by decide +kernel,
       not_identity _ (by decide +kernel)⟩,
   ⟨Cams.s15, 1, Option.get ((Cams.s15).csi[(1)]?) (by decide +kernel), 3, 0, by decide +kernel⟩,
   ⟨Cams.s4, 2, Option.get ((Cams.s4).csi[(2)]?) (by decide +kernel), 1, 2, by decide +kernel⟩,
   ⟨State.reset, 2, Option.get ((State.reset).csi[(2)]?) (by decide +kernel), by decide +kernel, by decide +kernel,
       not_retryWait _ (by decide +kernel)⟩⟩

theorem witness_CameraProbeIdentifies_2 :
    ∃ (s : State) (p : Nat) (c : CsiPort) (k : Nat) (n : Nat), p < 4 ∧ s.csi[p]? = some c ∧
      c.stage = ProbeStage.retryWait k n :=
  ⟨Cams.s5, 0, Option.get ((Cams.s5).csi[(0)]?) (by decide +kernel), 1, 1, by decide +kernel⟩

theorem witness_CameraArrivesAndDeparts :
    (∃ (s : State) (p : Nat) (c : CsiPort) (k : Nat), p < 4 ∧ s.csi[p]? = some c ∧ c.stage = ProbeStage.init k) ∧
    (∃ (s : State) (p : Nat) (c : CsiPort), p < 4 ∧ s.csi[p]? = some c ∧ (∀ (k : Nat), c.stage ≠ ProbeStage.init k)) ∧
    (∃ (s : State) (p : Nat) (c : CsiPort) (k : Nat), p < 4 ∧ s.csi[p]? = some c ∧ c.stage = ProbeStage.initWait k) ∧
    (∃ (s : State) (p : Nat) (c : CsiPort), p < 4 ∧ s.csi[p]? = some c ∧ (∀ (k : Nat),
      c.stage ≠ ProbeStage.initWait k)) ∧
    (∃ (s : State) (p : Nat) (c : CsiPort), p < 4 ∧ s.csi[p]? = some c ∧ (s.portsOn = false ∨ c.det = false)) ∧
    (∃ (s : State) (p : Nat) (c : CsiPort), p < 4 ∧ s.csi[p]? = some c ∧ s.portsOn = true ∧ c.det = true ∧
      c.stage.busy = true) ∧
    (∃ (s : State) (p : Nat) (c : CsiPort), p < 4 ∧ s.csi[p]? = some c ∧ s.portsOn = true ∧ c.det = true ∧
      c.stage.busy = false) ∧
    (∃ (s : State) (p : Nat) (c : CsiPort), p < 4 ∧ s.csi[p]? = some c ∧ (s.csiOn p = false ∨ c.i2cLow = true)) :=
  ⟨⟨Cams.s6, 0, Option.get ((Cams.s6).csi[(0)]?) (by decide +kernel), 0, by decide +kernel⟩,
   ⟨State.reset, 1, Option.get ((State.reset).csi[(1)]?) (by decide +kernel), by decide +kernel, by decide +kernel,
       not_init _ (by decide +kernel)⟩,
   ⟨Cams.s7, 3, Option.get ((Cams.s7).csi[(3)]?) (by decide +kernel), 1, by decide +kernel⟩,
   ⟨State.reset, 2, Option.get ((State.reset).csi[(2)]?) (by decide +kernel), by decide +kernel, by decide +kernel,
       not_initWait _ (by decide +kernel)⟩,
   ⟨State.reset, 1, Option.get ((State.reset).csi[(1)]?) (by decide +kernel), by decide +kernel⟩,
   ⟨Cams.s14, 1, Option.get ((Cams.s14).csi[(1)]?) (by decide +kernel), by decide +kernel⟩,
   ⟨Cams.s10, 0, Option.get ((Cams.s10).csi[(0)]?) (by decide +kernel), by decide +kernel⟩,
   ⟨State.reset, 0, Option.get ((State.reset).csi[(0)]?) (by decide +kernel), by decide +kernel⟩⟩

theorem witness_CameraArrivesAndDeparts_2 :
    ∃ (s : State) (p : Nat) (c : CsiPort), p < 4 ∧ s.csi[p]? = some c ∧ s.csiOn p = true ∧ c.i2cLow = false :=
  ⟨Cams.s1, 0, Option.get ((Cams.s1).csi[(0)]?) (by decide +kernel), by decide +kernel⟩

theorem witness_CameraFramesAreTaken :
    (∃ (s : State) (p : Nat) (vc : Nat) (c : CsiPort), p < 4 ∧ vc < 4 ∧ s.csi[p]? = some c ∧ s.vcOn p vc = true ∧
      1 ≤ vc) ∧
    (∃ (s : State) (p : Nat) (vc : Nat) (c : CsiPort), p < 4 ∧ vc < 4 ∧ s.csi[p]? = some c ∧ s.vcOn p vc = false) ∧
    (∃ (s : State) (p : Nat) (vc : Nat) (c : CsiPort), p < 4 ∧ vc < 4 ∧ s.csi[p]? = some c ∧ s.csiOn p = false) ∧
    (∃ (s : State) (p : Nat) (vc : Nat) (c : CsiPort), p < 4 ∧ vc < 4 ∧ s.csi[p]? = some c ∧ s.csiOn p = true) ∧
    (∃ (s : State) (p : Nat) (vc : Nat) (c : CsiPort) (how : CsiEnd), p < 4 ∧ vc < 4 ∧ s.csi[p]? = some c ∧
      s.vcOn p vc = true ∧ (((match Option.map (fun x => x.2) (List.find? (fun x => x.1 == vc) c.frames) with         | none => true         | some f => f.broken || !how.paired || f.lines == 0 || f.lines != f.height) ||         how.headerError ||       how.crcError ||     how.overflow) =   false) ∧ (Option.map (fun x => x.noCell) (Option.map (fun x => x.2) (List.find? (fun x => x.1 == vc) c.frames))).getD false = false) ∧
    (∃ (s : State) (p : Nat) (vc : Nat) (c : CsiPort) (how : CsiEnd), p < 4 ∧ vc < 4 ∧ s.csi[p]? = some c ∧
      s.vcOn p vc = true ∧ (((match Option.map (fun x => x.2) (List.find? (fun x => x.1 == vc) c.frames) with         | none => true         | some f => f.broken || !how.paired || f.lines == 0 || f.lines != f.height) ||         how.headerError ||       how.crcError ||     how.overflow) =   true)) :=
  ⟨⟨Cams.s10, 0, 3, Option.get ((Cams.s10).csi[(0)]?) (by decide +kernel), by decide +kernel⟩,
   ⟨State.reset, 0, 3, Option.get ((State.reset).csi[(0)]?) (by decide +kernel), by decide +kernel⟩,
   ⟨State.reset, 1, 0, Option.get ((State.reset).csi[(1)]?) (by decide +kernel), by decide +kernel⟩,
   ⟨Cams.s1, 1, 2, Option.get ((Cams.s1).csi[(1)]?) (by decide +kernel), by decide +kernel⟩,
   ⟨Cams.s11, 0, 1, Option.get ((Cams.s11).csi[(0)]?) (by decide +kernel), end0, by decide +kernel⟩,
   ⟨Cams.s10, 0, 2, Option.get ((Cams.s10).csi[(0)]?) (by decide +kernel), end0, by decide +kernel⟩⟩

theorem witness_UsbDevicesComeAndGo :
    (∃ (s : State) (n : Nat) (u : UsbPort), n < 3 ∧ s.usb[n]? = some u ∧ (s.vbusOn n = false ∨ u.conn = true)) ∧
    (∃ (s : State) (n : Nat) (u : UsbPort), n < 3 ∧ s.usb[n]? = some u ∧ s.vbusOn n = true ∧ u.conn = false) ∧
    (∃ (s : State) (n : Nat) (u : UsbPort), n < 3 ∧ s.usb[n]? = some u ∧ (s.vbusOn n = false ∨ u.enumerating = false)) ∧
    (∃ (s : State) (n : Nat) (u : UsbPort) (d : UsbDevice), n < 3 ∧ s.usb[n]? = some u ∧ s.vbusOn n = true ∧
      u.enumerating = true ∧ d.ok = true) ∧
    (∃ (s : State) (n : Nat) (u : UsbPort) (d : UsbDevice), n < 3 ∧ s.usb[n]? = some u ∧ s.vbusOn n = true ∧
      u.enumerating = true ∧ d.ok = false) ∧
    (∃ (s : State) (n : Nat) (u : UsbPort), n < 3 ∧ s.usb[n]? = some u ∧ (s.portsOn = false ∨ u.conn = false)) ∧
    (∃ (s : State) (n : Nat) (u : UsbPort), n < 3 ∧ s.usb[n]? = some u ∧ s.portsOn = true ∧ u.conn = true) ∧
    (∃ (s : State) (n : Nat) (u : UsbPort), n < 3 ∧ s.usb[n]? = some u ∧ s.vbusOn n = false) :=
  ⟨⟨State.reset, 2, Option.get ((State.reset).usb[(2)]?) (by decide +kernel), by decide +kernel⟩,
   ⟨Cams.s16, 0, Option.get ((Cams.s16).usb[(0)]?) (by decide +kernel), by decide +kernel⟩,
   ⟨State.reset, 2, Option.get ((State.reset).usb[(2)]?) (by decide +kernel), by decide +kernel⟩,
   ⟨Cams.s12, 2, Option.get ((Cams.s12).usb[(2)]?) (by decide +kernel), Cams.dev false true, by decide +kernel⟩,
   ⟨Cams.s12, 2, Option.get ((Cams.s12).usb[(2)]?) (by decide +kernel), Cams.dev true false, by decide +kernel⟩,
   ⟨State.reset, 2, Option.get ((State.reset).usb[(2)]?) (by decide +kernel), by decide +kernel⟩,
   ⟨Cams.s12, 1, Option.get ((Cams.s12).usb[(1)]?) (by decide +kernel), by decide +kernel⟩,
   ⟨State.reset, 2, Option.get ((State.reset).usb[(2)]?) (by decide +kernel), by decide +kernel⟩⟩

theorem witness_UsbDevicesComeAndGo_2 :
    (∃ (s : State) (n : Nat) (u : UsbPort), n < 3 ∧ s.usb[n]? = some u ∧ (s.portsOn = false ∨ u.oc = false)) ∧
    (∃ (s : State) (n : Nat) (u : UsbPort), n < 3 ∧ s.usb[n]? = some u ∧ s.portsOn = true ∧ u.oc = true) ∧
    (∃ (s : State) (n : Nat) (u : UsbPort) (f : UvcFrame), n < 3 ∧ s.usb[n]? = some u ∧ (¬(s.vbusOn n = true ∧
      u.conn = true ∧ Option.map (ofMode f) (s.uvcStream n) = some true))) ∧
    (∃ (s : State) (n : Nat) (u : UsbPort) (f : UvcFrame), n < 3 ∧ s.usb[n]? = some u ∧ s.vbusOn n = true ∧
      u.conn = true ∧ Option.map (ofMode f) (s.uvcStream n) = some true ∧ f.errorBit = true) ∧
    (∃ (s : State) (n : Nat) (u : UsbPort) (f : UvcFrame), n < 3 ∧ s.usb[n]? = some u ∧ s.vbusOn n = true ∧
      u.conn = true ∧ Option.map (ofMode f) (s.uvcStream n) = some true ∧ f.errorBit = false) :=
  ⟨⟨State.reset, 0, Option.get ((State.reset).usb[(0)]?) (by decide +kernel), by decide +kernel⟩,
   ⟨Cams.s17, 2, Option.get ((Cams.s17).usb[(2)]?) (by decide +kernel), by decide +kernel⟩,
   ⟨State.reset, 2, Option.get ((State.reset).usb[(2)]?) (by decide +kernel),
       { uvc0 with width := 640, height := 480, data := List.replicate 614400 0 }, by decide +kernel⟩,
   ⟨Cams.s13, 0, Option.get ((Cams.s13).usb[(0)]?) (by decide +kernel),
       { uvc0 with width := 640, height := 480, data := List.replicate 614400 0, errorBit := true }, by decide +kernel⟩,
   ⟨Cams.s13, 0, Option.get ((Cams.s13).usb[(0)]?) (by decide +kernel),
       { uvc0 with width := 640, height := 480, data := List.replicate 614400 0 }, by decide +kernel⟩⟩

theorem witness_PanelsComeAndGo :
    (∃ (s : State) (d : Nat) (x : Display), d < 3 ∧ s.displays[d]? = some x ∧ s.portsOn = false) ∧
    (∃ (s : State) (d : Nat) (x : Display) (id : Nat), d < 3 ∧ s.displays[d]? = some x ∧ s.portsOn = true ∧
      s.atPort (displayPort d) = none ∧ x.present = false ∧
      List.find? (fun q => (s.partner q).type == 0) (List.range 24) = some id) ∧
    (∃ (s : State) (d : Nat) (x : Display) (id : Nat), d < 3 ∧ s.displays[d]? = some x ∧ s.portsOn = true ∧
      s.atPort (displayPort d) = some id) ∧
    (∃ (s : State) (d : Nat) (x : Display), d < 3 ∧ s.displays[d]? = some x ∧ s.portsOn = true ∧ x.present = true) ∧
    (∃ (s : State) (d : Nat) (x : Display), d < 3 ∧ s.displays[d]? = some x ∧ d < 2 ∧ s.portsOn = true) ∧
    (∃ (s : State) (d : Nat) (x : Display), d < 3 ∧ s.displays[d]? = some x ∧ d = 2 ∧ s.portsOn = true) ∧
    (∃ (s : State) (d : Nat) (x : Display), d < 3 ∧ s.displays[d]? = some x ∧ d = 2 ∧ x.step.linked = true) ∧
    (∃ (s : State) (d : Nat) (x : Display), d < 3 ∧ s.displays[d]? = some x ∧ d = 2 ∧ x.step.linked = false) :=
  ⟨⟨State.reset, 2, Option.get ((State.reset).displays[(2)]?) (by decide +kernel), by decide +kernel⟩,
   ⟨Cams.s1, 1, Option.get ((Cams.s1).displays[(1)]?) (by decide +kernel),
       Option.get (List.find? (fun q => ((Cams.s1).partner q).type == 0) (List.range 24)) (by decide +kernel),
       by decide +kernel⟩,
   ⟨Panels.s3, 0, Option.get ((Panels.s3).displays[(0)]?) (by decide +kernel),
       Option.get ((Panels.s3).atPort (displayPort (0))) (by decide +kernel), by decide +kernel⟩,
   ⟨Panels.s15, 1, Option.get ((Panels.s15).displays[(1)]?) (by decide +kernel), by decide +kernel⟩,
   ⟨Cams.s1, 1, Option.get ((Cams.s1).displays[(1)]?) (by decide +kernel), by decide +kernel⟩,
   ⟨Decode.s1, 2, Option.get ((Decode.s1).displays[(2)]?) (by decide +kernel), by decide +kernel⟩,
   ⟨Panels.s5, 2, Option.get ((Panels.s5).displays[(2)]?) (by decide +kernel), by decide +kernel⟩,
   ⟨Faults.s3, 2, Option.get ((Faults.s3).displays[(2)]?) (by decide +kernel), by decide +kernel⟩⟩

theorem witness_PanelsComeAndGo_2 :
    (∃ (s : State) (d : Nat) (x : Display), d < 3 ∧ s.displays[d]? = some x ∧ d = 2 ∧ x.retrain = false ∧
      x.step ≠ PanelStep.training) ∧
    (∃ (s : State) (d : Nat) (x : Display) (trained : List (Nat × Nat)) (l : Nat) (r : Nat), d < 3 ∧
      s.displays[d]? = some x ∧ d = 2 ∧ x.retrain = false ∧ x.step = PanelStep.training ∧
      s.trainedAs 2 trained = some (l, r)) ∧
    (∃ (s : State) (d : Nat) (x : Display) (trained : List (Nat × Nat)), d < 3 ∧ s.displays[d]? = some x ∧ d = 2 ∧
      (x.step = PanelStep.training ∨ x.retrain = true) ∧ s.trainedAs 2 trained = none) ∧
    (∃ (s : State) (d : Nat) (x : Display) (trained : List (Nat × Nat)) (l : Nat) (r : Nat), d < 3 ∧
      s.displays[d]? = some x ∧ d = 2 ∧ x.retrain = true ∧ s.trainedAs 2 trained = some (l, r)) ∧
    (∃ (s : State) (d : Nat) (x : Display) (p : Nat) (c : CsiPort), d < 3 ∧ s.displays[d]? = some x ∧ p < 4 ∧
      s.csi[p]? = some c ∧ s.portsOn = true) ∧
    (∃ (s : State) (d : Nat) (x : Display), d < 3 ∧ s.displays[d]? = some x ∧ (s.cmp.holdFrom = none ∨
      s.guard.safe = true)) ∧
    (∃ (s : State) (d : Nat) (x : Display) (at' : Nat), d < 3 ∧ s.displays[d]? = some x ∧ s.cmp.holdFrom = some at' ∧
      s.guard.safe = false) :=
  ⟨⟨Net.s6, 2, Option.get ((Net.s6).displays[(2)]?) (by decide +kernel), by decide +kernel⟩,
   ⟨Panels.s16, 2, Option.get ((Panels.s16).displays[(2)]?) (by decide +kernel),
       [(1,0),(2,0),(4,0),(1,1),(2,1),(4,1),(1,2),(2,2),(4,2)],
       Option.get (Option.map (fun p => p.1) ((Panels.s16).trainedAs 2 ([(1,0),(2,0),(4,0),(1,1),(2,1),(4,1),(1,2),(2,2),(4,2)]))) (by decide +kernel), Option.get (Option.map (fun p => p.2) ((Panels.s16).trainedAs 2 ([(1,0),(2,0),(4,0),(1,1),(2,1),(4,1),(1,2),(2,2),(4,2)]))) (by decide +kernel), by decide +kernel⟩,
   ⟨Panels.s6, 2, Option.get ((Panels.s6).displays[(2)]?) (by decide +kernel), [(1,2)], by decide +kernel⟩,
   ⟨Panels.s17, 2, Option.get ((Panels.s17).displays[(2)]?) (by decide +kernel),
       [(1,0),(2,0),(4,0),(1,1),(2,1),(4,1),(1,2),(2,2),(4,2)],
       Option.get (Option.map (fun p => p.1) ((Panels.s17).trainedAs 2 ([(1,0),(2,0),(4,0),(1,1),(2,1),(4,1),(1,2),(2,2),(4,2)]))) (by decide +kernel), Option.get (Option.map (fun p => p.2) ((Panels.s17).trainedAs 2 ([(1,0),(2,0),(4,0),(1,1),(2,1),(4,1),(1,2),(2,2),(4,2)]))) (by decide +kernel), by decide +kernel⟩,
   ⟨Cams.s1, 1, Option.get ((Cams.s1).displays[(1)]?) (by decide +kernel), 0,
       Option.get ((Cams.s1).csi[(0)]?) (by decide +kernel), by decide +kernel⟩,
   ⟨State.reset, 2, Option.get ((State.reset).displays[(2)]?) (by decide +kernel), by decide +kernel⟩,
   ⟨Panels.s8, 1, Option.get ((Panels.s8).displays[(1)]?) (by decide +kernel),
       Option.get ((Panels.s8).cmp.holdFrom) (by decide +kernel), by decide +kernel⟩⟩

theorem witness_PanelPowerSequence :
    (∃ (s : State) (d : Nat) (x : Display), d < 3 ∧ s.displays[d]? = some x ∧ d = 2 ∧ x.step = PanelStep.waitHpd) ∧
    (∃ (s : State) (d : Nat) (x : Display), d < 3 ∧ s.displays[d]? = some x ∧ x.step = PanelStep.waitLink) ∧
    (∃ (s : State) (d : Nat) (x : Display), d < 3 ∧ s.displays[d]? = some x ∧ x.step = PanelStep.waitBacklight) ∧
    (∃ (s : State) (d : Nat) (x : Display), d < 3 ∧ s.displays[d]? = some x ∧ x.step = PanelStep.waitLinkOff) ∧
    (∃ (s : State) (d : Nat) (x : Display), d < 3 ∧ s.displays[d]? = some x ∧ x.step = PanelStep.waitVddOff) ∧
    (∃ (s : State) (d : Nat) (x : Display), d < 3 ∧ s.displays[d]? = some x ∧ x.step = PanelStep.waitOff) ∧
    (∃ (s : State) (d : Nat) (x : Display), d < 3 ∧ s.displays[d]? = some x ∧ d = 2 ∧ x.step ≠ PanelStep.waitHpd) ∧
    (∃ (s : State) (d : Nat) (x : Display), d < 3 ∧ s.displays[d]? = some x ∧ x.step ≠ PanelStep.waitLink) :=
  ⟨⟨Panels.s9, 2, Option.get ((Panels.s9).displays[(2)]?) (by decide +kernel), by decide +kernel⟩,
   ⟨Panels.s10, 0, Option.get ((Panels.s10).displays[(0)]?) (by decide +kernel), by decide +kernel⟩,
   ⟨Panels.s11, 1, Option.get ((Panels.s11).displays[(1)]?) (by decide +kernel), by decide +kernel⟩,
   ⟨Panels.s12, 1, Option.get ((Panels.s12).displays[(1)]?) (by decide +kernel), by decide +kernel⟩,
   ⟨Panels.s13, 1, Option.get ((Panels.s13).displays[(1)]?) (by decide +kernel), by decide +kernel⟩,
   ⟨Panels.s14, 1, Option.get ((Panels.s14).displays[(1)]?) (by decide +kernel), by decide +kernel⟩,
   ⟨statusS, 2, Option.get ((statusS).displays[(2)]?) (by decide +kernel), by decide +kernel⟩,
   ⟨State.reset, 0, Option.get ((State.reset).displays[(0)]?) (by decide +kernel), by decide +kernel⟩⟩

theorem witness_PanelPowerSequence_2 :
    (∃ (s : State) (d : Nat) (x : Display), d < 3 ∧ s.displays[d]? = some x ∧ x.step ≠ PanelStep.waitBacklight) ∧
    (∃ (s : State) (d : Nat) (x : Display), d < 3 ∧ s.displays[d]? = some x ∧ x.step ≠ PanelStep.waitLinkOff) ∧
    (∃ (s : State) (d : Nat) (x : Display), d < 3 ∧ s.displays[d]? = some x ∧ x.step ≠ PanelStep.waitVddOff) ∧
    (∃ (s : State) (d : Nat) (x : Display), d < 3 ∧ s.displays[d]? = some x ∧ x.step ≠ PanelStep.waitOff) :=
  ⟨⟨State.reset, 2, Option.get ((State.reset).displays[(2)]?) (by decide +kernel), by decide +kernel⟩,
   ⟨State.reset, 2, Option.get ((State.reset).displays[(2)]?) (by decide +kernel), by decide +kernel⟩,
   ⟨State.reset, 1, Option.get ((State.reset).displays[(1)]?) (by decide +kernel), by decide +kernel⟩,
   ⟨State.reset, 0, Option.get ((State.reset).displays[(0)]?) (by decide +kernel), by decide +kernel⟩⟩

theorem witness_FirmwareTakesUpJobs :
    (∃ (s : State) (id : Nat) (op : Nat), op ∈ [0x01, 0x02, 0x03, 0x04, 0x05, 0x06, 0x07, 0x10, 0x11, 0x20, 0x21, 0x30,
      0x40, 0x41, 0x50, 0x51] ∧ s.readyJob id op = none) ∧
    (∃ (s : State) (id : Nat) (op : Nat) (j : Job), op ∈ [0x01, 0x02, 0x03, 0x04, 0x05, 0x06, 0x07, 0x10, 0x11, 0x20,
      0x21, 0x30, 0x40, 0x41, 0x50, 0x51] ∧ s.readyJob id op = some j ∧ s.postable j = true ∧
      (¬(needsChannel op = false ∨ s.chanExists j.desc.channel = true)) ∧
      s.hif.creating.contains j.desc.channel = true) ∧
    (∃ (s : State) (id : Nat) (op : Nat) (j : Job), op ∈ [0x01, 0x02, 0x03, 0x04, 0x05, 0x06, 0x07, 0x10, 0x11, 0x20,
      0x21, 0x30, 0x40, 0x41, 0x50, 0x51] ∧ s.readyJob id op = some j ∧ s.postable j = true ∧
      (¬(needsChannel op = false ∨ s.chanExists j.desc.channel = true)) ∧
      s.hif.creating.contains j.desc.channel = false) ∧
    (∃ (s : State) (id : Nat) (op : Nat) (j : Job), op ∈ [0x01, 0x02, 0x03, 0x04, 0x05, 0x06, 0x07, 0x10, 0x11, 0x20,
      0x21, 0x30, 0x40, 0x41, 0x50, 0x51] ∧ s.readyJob id op = some j ∧ s.postable j = true ∧ (needsChannel op = false ∨ s.chanExists j.desc.channel = true) ∧ s.classOk j.desc = false) ∧
    (∃ (s : State) (id : Nat) (op : Nat) (j : Job), op ∈ [0x01, 0x02, 0x03, 0x04, 0x05, 0x06, 0x07, 0x10, 0x11, 0x20,
      0x21, 0x30, 0x40, 0x41, 0x50, 0x51] ∧ s.readyJob id op = some j ∧ s.postable j = true ∧ (needsChannel op = false ∨ s.chanExists j.desc.channel = true) ∧ s.classOk j.desc = true ∧ op = 16 ∧ s.kindOk j.desc = false) :=
  ⟨⟨State.reset, 9, 17, by decide +kernel⟩,
   ⟨Chans.s6, 0, 3, Option.get ((Chans.s6).readyJob (0) (3)) (by decide +kernel), by decide +kernel⟩,
   ⟨Chans.s5, 0, 3, Option.get ((Chans.s5).readyJob (0) (3)) (by decide +kernel), by decide +kernel⟩,
   ⟨Chans.s9, 0, 3, Option.get ((Chans.s9).readyJob (0) (3)) (by decide +kernel), by decide +kernel⟩,
   ⟨Decode.s16, 0, 16, Option.get ((Decode.s16).readyJob (0) (16)) (by decide +kernel), by decide +kernel⟩⟩

theorem witness_ChannelCreateOrRefuse :
    (∃ (s : State) (id : Nat) (j : Job), s.postable j = true ∧ s.readyJob id 1 = some j ∧ (needsChannel 1 = true →
      s.chanExists j.desc.channel = true) ∧ s.classOk j.desc = true ∧ (1 = 16 → s.kindOk j.desc = true) ∧
      s.chanExists j.desc.channel = true) ∧
    (∃ (s : State) (id : Nat) (j : Job), s.postable j = true ∧ s.readyJob id 1 = some j ∧ (needsChannel 1 = true →
      s.chanExists j.desc.channel = true) ∧ s.classOk j.desc = true ∧ (1 = 16 → s.kindOk j.desc = true) ∧
      s.chanExists j.desc.channel = false ∧ orphans j.desc.channel j.id s.hif.jobs = [] ∧
      s.createOk (channelOf j.desc.bytes 16 j.desc.cq) = false) ∧
    (∃ (s : State) (id : Nat) (j : Job) (r : Nat), s.postable j = true ∧ s.readyJob id 1 = some j ∧
      (needsChannel 1 = true → s.chanExists j.desc.channel = true) ∧ s.classOk j.desc = true ∧ (1 = 16 →
      s.kindOk j.desc = true) ∧ s.chanExists j.desc.channel = false ∧ orphans j.desc.channel j.id s.hif.jobs = [] ∧
      s.createOk (channelOf j.desc.bytes 16 j.desc.cq) = true ∧
      s.overFloor (channelOf j.desc.bytes 16 j.desc.cq) = some r) ∧
    (∃ (s : State) (id : Nat) (j : Job), s.postable j = true ∧ s.readyJob id 1 = some j ∧ (needsChannel 1 = true →
      s.chanExists j.desc.channel = true) ∧ s.classOk j.desc = true ∧ (1 = 16 → s.kindOk j.desc = true) ∧
      s.chanExists j.desc.channel = false ∧ orphans j.desc.channel j.id s.hif.jobs = [] ∧
      s.createOk (channelOf j.desc.bytes 16 j.desc.cq) = true ∧
      s.overFloor (channelOf j.desc.bytes 16 j.desc.cq) = none) ∧
    (∃ (s : State) (id : Nat) (j : Job), s.postable j = true ∧ s.readyJob id 6 = some j ∧ (needsChannel 6 = true →
      s.chanExists j.desc.channel = true) ∧ s.classOk j.desc = true ∧ (6 = 16 → s.kindOk j.desc = true) ∧
      s.chanExists j.desc.channel = true) ∧
    (∃ (s : State) (id : Nat) (j : Job) (b : List Byte), s.postable j = true ∧ s.readyJob id 6 = some j ∧
      (needsChannel 6 = true → s.chanExists j.desc.channel = true) ∧ s.classOk j.desc = true ∧ (6 = 16 →
      s.kindOk j.desc = true) ∧ s.chanExists j.desc.channel = false ∧ orphans j.desc.channel j.id s.hif.jobs = [] ∧
      imageOk b (j.u32 24) = false) ∧
    (∃ (s : State) (id : Nat) (j : Job) (b : List Byte), s.postable j = true ∧ s.readyJob id 6 = some j ∧
      (needsChannel 6 = true → s.chanExists j.desc.channel = true) ∧ s.classOk j.desc = true ∧ (6 = 16 →
      s.kindOk j.desc = true) ∧ s.chanExists j.desc.channel = false ∧ orphans j.desc.channel j.id s.hif.jobs = [] ∧
      imageOk b (j.u32 24) = true ∧ s.createOk (importChannel (List.take (leAt b 8 4) b) j.desc.cq (j.u8 28) (j.u8 29) s.tick.number.toNat) = false) ∧
    (∃ (s : State) (id : Nat) (j : Job) (b : List Byte) (r : Nat), s.postable j = true ∧ s.readyJob id 6 = some j ∧
      (needsChannel 6 = true → s.chanExists j.desc.channel = true) ∧ s.classOk j.desc = true ∧ (6 = 16 →
      s.kindOk j.desc = true) ∧ s.chanExists j.desc.channel = false ∧ orphans j.desc.channel j.id s.hif.jobs = [] ∧
      imageOk b (j.u32 24) = true ∧ s.createOk (importChannel (List.take (leAt b 8 4) b) j.desc.cq (j.u8 28) (j.u8 29) s.tick.number.toNat) = true ∧ s.overFloor (importChannel (List.take (leAt b 8 4) b) j.desc.cq (j.u8 28) (j.u8 29) s.tick.number.toNat) = some r) :=
  ⟨⟨Chans.s1, 0, Option.get ((Chans.s1).readyJob (0) 1) (by decide +kernel), by decide +kernel⟩,
   ⟨Chans.s2, 0, Option.get ((Chans.s2).readyJob (0) 1) (by decide +kernel), by decide +kernel⟩,
   ⟨Chans.s3, 0, Option.get ((Chans.s3).readyJob (0) 1) (by decide +kernel),
       Option.get ((Chans.s3).overFloor (channelOf (Option.get ((Chans.s3).readyJob (0) 1) (by decide +kernel)).desc.bytes 16 (Option.get ((Chans.s3).readyJob (0) 1) (by decide +kernel)).desc.cq)) (by decide +kernel), by decide +kernel⟩,
   ⟨Chans.S1, 0, Option.get ((Chans.S1).readyJob (0) 1) (by decide +kernel), by decide +kernel⟩,
   ⟨Chans.s7, 0, Option.get ((Chans.s7).readyJob (0) 6) (by decide +kernel), by decide +kernel⟩,
   ⟨Chans.s4, 0, Option.get ((Chans.s4).readyJob (0) 6) (by decide +kernel), [], by decide +kernel⟩,
   ⟨Chans.s4, 0, Option.get ((Chans.s4).readyJob (0) 6) (by decide +kernel), Chans.img2, by decide +kernel⟩,
   ⟨Chans.s4, 0, Option.get ((Chans.s4).readyJob (0) 6) (by decide +kernel), Chans.img3,
       Option.get ((Chans.s4).overFloor (importChannel (List.take (leAt (Chans.img3) 8 4) (Chans.img3)) (Option.get ((Chans.s4).readyJob (0) 6) (by decide +kernel)).desc.cq ((Option.get ((Chans.s4).readyJob (0) 6) (by decide +kernel)).u8 28) ((Option.get ((Chans.s4).readyJob (0) 6) (by decide +kernel)).u8 29) (Chans.s4).tick.number.toNat)) (by decide +kernel), by decide +kernel⟩⟩

theorem witness_ChannelCreateOrRefuse_2 :
    ∃ (s : State) (id : Nat) (j : Job) (b : List Byte), s.postable j = true ∧ s.readyJob id 6 = some j ∧
      (needsChannel 6 = true → s.chanExists j.desc.channel = true) ∧ s.classOk j.desc = true ∧ (6 = 16 →
      s.kindOk j.desc = true) ∧ s.chanExists j.desc.channel = false ∧ orphans j.desc.channel j.id s.hif.jobs = [] ∧
      imageOk b (j.u32 24) = true ∧ s.createOk (importChannel (List.take (leAt b 8 4) b) j.desc.cq (j.u8 28) (j.u8 29) s.tick.number.toNat) = true ∧ s.overFloor (importChannel (List.take (leAt b 8 4) b) j.desc.cq (j.u8 28) (j.u8 29) s.tick.number.toNat) = none :=
  ⟨Chans.s4, 0, Option.get ((Chans.s4).readyJob (0) 6) (by decide +kernel), Chans.img, by decide +kernel⟩

theorem witness_ChannelJobsTakeEffect :
    (∃ (s : State) (id : Nat) (j : Job), s.postable j = true ∧ s.readyJob id 3 = some j ∧ (needsChannel 3 = true →
      s.chanExists j.desc.channel = true) ∧ s.classOk j.desc = true ∧ (3 = 16 → s.kindOk j.desc = true) ∧
      (s.chan j.desc.channel).state ≠ 3 ∧ (s.chan j.desc.channel).pause = none) ∧
    (∃ (s : State) (id : Nat) (j : Job), s.postable j = true ∧ s.readyJob id 3 = some j ∧ (needsChannel 3 = true →
      s.chanExists j.desc.channel = true) ∧ s.classOk j.desc = true ∧ (3 = 16 → s.kindOk j.desc = true) ∧
      ((s.chan j.desc.channel).state = 3 ∨ (s.chan j.desc.channel).pause.isSome = true)) ∧
    (∃ (s : State) (id : Nat) (j : Job), s.postable j = true ∧ s.readyJob id 4 = some j ∧ (needsChannel 4 = true →
      s.chanExists j.desc.channel = true) ∧ s.classOk j.desc = true ∧ (4 = 16 → s.kindOk j.desc = true)) ∧
    (∃ (s : State) (id : Nat) (j : Job), s.postable j = true ∧ s.readyJob id 7 = some j ∧ (needsChannel 7 = true →
      s.chanExists j.desc.channel = true) ∧ s.classOk j.desc = true ∧ (7 = 16 → s.kindOk j.desc = true) ∧
      s.bindOk (s.chan j.desc.channel).kind (j.u8 16) (j.u8 17) (j.u8 18) = true) ∧
    (∃ (s : State) (id : Nat) (j : Job), s.postable j = true ∧ s.readyJob id 7 = some j ∧ (needsChannel 7 = true →
      s.chanExists j.desc.channel = true) ∧ s.classOk j.desc = true ∧ (7 = 16 → s.kindOk j.desc = true) ∧
      s.bindOk (s.chan j.desc.channel).kind (j.u8 16) (j.u8 17) (j.u8 18) = false) ∧
    (∃ (s : State) (id : Nat) (j : Job), s.postable j = true ∧ s.readyJob id 2 = some j ∧ (needsChannel 2 = true →
      s.chanExists j.desc.channel = true) ∧ s.classOk j.desc = true ∧ (2 = 16 → s.kindOk j.desc = true)) ∧
    (∃ (s : State) (id : Nat) (j : Job), s.postable j = true ∧ s.readyJob id 5 = some j ∧ (needsChannel 5 = true →
      s.chanExists j.desc.channel = true) ∧ s.classOk j.desc = true ∧ (5 = 16 → s.kindOk j.desc = true) ∧
      (s.chan j.desc.channel).state = 3) ∧
    (∃ (s : State) (id : Nat) (j : Job), s.postable j = true ∧ s.readyJob id 5 = some j ∧ (needsChannel 5 = true →
      s.chanExists j.desc.channel = true) ∧ s.classOk j.desc = true ∧ (5 = 16 → s.kindOk j.desc = true) ∧
      (s.chan j.desc.channel).state ≠ 3 ∧ (s.chan j.desc.channel).exporting.isSome = true) :=
  ⟨⟨Chans.pj, 0, Option.get ((Chans.pj).readyJob (0) 3) (by decide +kernel), by decide +kernel⟩,
   ⟨Decode.s2, 0, Option.get ((Decode.s2).readyJob (0) 3) (by decide +kernel), by decide +kernel⟩,
   ⟨Decode.s3, 0, Option.get ((Decode.s3).readyJob (0) 4) (by decide +kernel), by decide +kernel⟩,
   ⟨Decode.s4, 0, Option.get ((Decode.s4).readyJob (0) 7) (by decide +kernel), by decide +kernel⟩,
   ⟨Encode.s1, 0, Option.get ((Encode.s1).readyJob (0) 7) (by decide +kernel), by decide +kernel⟩,
   ⟨Decode.s5, 0, Option.get ((Decode.s5).readyJob (0) 2) (by decide +kernel), by decide +kernel⟩,
   ⟨Decode.s7, 0, Option.get ((Decode.s7).readyJob (0) 5) (by decide +kernel), by decide +kernel⟩,
   ⟨Decode.s20, 0, Option.get ((Decode.s20).readyJob (0) 5) (by decide +kernel), by decide +kernel⟩⟩

theorem witness_ChannelJobsTakeEffect_2 :
    (∃ (s : State) (id : Nat) (j : Job), s.postable j = true ∧ s.readyJob id 5 = some j ∧ (needsChannel 5 = true →
      s.chanExists j.desc.channel = true) ∧ s.classOk j.desc = true ∧ (5 = 16 → s.kindOk j.desc = true) ∧
      (s.chan j.desc.channel).state ≠ 3 ∧ (s.chan j.desc.channel).exporting = none) ∧
    (∃ (s : State) (id : Nat) (j : Job) (lim : Nat) (pause : Bool), s.postable j = true ∧
      (s.chan j.desc.channel).exporting = some (id, lim, pause) ∧ j.desc.channel < 32 ∧ s.job? id = some j ∧
      j.phase = JobPhase.executing ∧ j.desc.opcode = 5 ∧ s.fwRuns = true ∧ (s.chan j.desc.channel).state = 1 ∧
      (s.chan j.desc.channel).closing = [] ∧ s.atBoundary j.desc.channel = true) ∧
    (∃ (s : State) (id : Nat) (j : Job) (lim : Nat) (pause : Bool), s.postable j = true ∧
      (s.chan j.desc.channel).exporting = some (id, lim, pause) ∧ j.desc.channel < 32 ∧ s.job? id = some j ∧
      j.phase = JobPhase.executing ∧ j.desc.opcode = 5 ∧ (s.fwRuns = false ∨ (s.chan j.desc.channel).state ≠ 1 ∨
      (s.chan j.desc.channel).closing ≠ [] ∨ s.atBoundary j.desc.channel = false)) ∧
    (∃ (s : State) (id : Nat) (j : Job) (lim : Nat) (pause : Bool), s.postable j = true ∧
      (s.chan j.desc.channel).exporting = some (id, lim, pause) ∧ j.desc.channel < 32 ∧ s.job? id = some j ∧
      j.phase = JobPhase.executing ∧ j.desc.opcode = 5 ∧ lim ≤ s.tick.number.toNat) ∧
    (∃ (s : State) (id : Nat) (j : Job) (lim : Nat) (pause : Bool), s.postable j = true ∧
      (s.chan j.desc.channel).exporting = some (id, lim, pause) ∧ j.desc.channel < 32 ∧ s.job? id = some j ∧
      j.phase = JobPhase.executing ∧ j.desc.opcode = 5 ∧ s.tick.number.toNat < lim) ∧
    (∃ (s : State) (n : Nat), n < 32 ∧ (s.chan n).exporting = none) :=
  ⟨⟨Decode.s6, 0, Option.get ((Decode.s6).readyJob (0) 5) (by decide +kernel), by decide +kernel⟩,
   ⟨Decode.s21, 0, Option.get ((Decode.s21).job? (0)) (by decide +kernel),
       Option.get (Option.map (fun p => p.2.1) ((Decode.s21).chan (Option.get ((Decode.s21).job? (0)) (by decide +kernel)).desc.channel).exporting) (by decide +kernel), Option.get (Option.map (fun p => p.2.2) ((Decode.s21).chan (Option.get ((Decode.s21).job? (0)) (by decide +kernel)).desc.channel).exporting) (by decide +kernel), by decide +kernel⟩,
   ⟨Decode.s8, 0, Option.get ((Decode.s8).job? (0)) (by decide +kernel),
       Option.get (Option.map (fun p => p.2.1) ((Decode.s8).chan (Option.get ((Decode.s8).job? (0)) (by decide +kernel)).desc.channel).exporting) (by decide +kernel), Option.get (Option.map (fun p => p.2.2) ((Decode.s8).chan (Option.get ((Decode.s8).job? (0)) (by decide +kernel)).desc.channel).exporting) (by decide +kernel), by decide +kernel⟩,
   ⟨Decode.s8, 0, Option.get ((Decode.s8).job? (0)) (by decide +kernel),
       Option.get (Option.map (fun p => p.2.1) ((Decode.s8).chan (Option.get ((Decode.s8).job? (0)) (by decide +kernel)).desc.channel).exporting) (by decide +kernel), Option.get (Option.map (fun p => p.2.2) ((Decode.s8).chan (Option.get ((Decode.s8).job? (0)) (by decide +kernel)).desc.channel).exporting) (by decide +kernel), by decide +kernel⟩,
   ⟨Decode.s21, 0, Option.get ((Decode.s21).job? (0)) (by decide +kernel),
       Option.get (Option.map (fun p => p.2.1) ((Decode.s21).chan (Option.get ((Decode.s21).job? (0)) (by decide +kernel)).desc.channel).exporting) (by decide +kernel), Option.get (Option.map (fun p => p.2.2) ((Decode.s21).chan (Option.get ((Decode.s21).job? (0)) (by decide +kernel)).desc.channel).exporting) (by decide +kernel), by decide +kernel⟩,
   ⟨State.reset, 5, by decide +kernel⟩⟩

theorem witness_DecodeJobsRunAndEnd :
    (∃ (s : State) (id : Nat) (kind : CapKind), s.job? id = none ∧ (kind = CapKind.syn ∨ kind = CapKind.pix ∨
      kind = CapKind.enc)) ∧
    (∃ (s : State) (id : Nat) (j : Job), s.job? id = some j ∧ s.readyJob id 16 = some j ∧ (needsChannel 16 = true →
      s.chanExists j.desc.channel = true) ∧ s.classOk j.desc = true ∧ (16 = 16 → s.kindOk j.desc = true) ∧
      j.ready = true) ∧
    (∃ (s : State) (id : Nat) (j : Job) (au : Au), s.job? id = some j ∧ s.readyJob id 16 = some j ∧
      (needsChannel 16 = true → s.chanExists j.desc.channel = true) ∧ s.classOk j.desc = true ∧ (16 = 16 →
      s.kindOk j.desc = true) ∧ j.ready = false ∧ s.pitchOk j au = true) ∧
    (∃ (s : State) (id : Nat) (j : Job) (au : Au), s.job? id = some j ∧ s.readyJob id 16 = some j ∧
      (needsChannel 16 = true → s.chanExists j.desc.channel = true) ∧ s.classOk j.desc = true ∧ (16 = 16 →
      s.kindOk j.desc = true) ∧ j.ready = false ∧ s.pitchOk j au = false ∧ s.postable j = true) ∧
    (∃ (s : State) (id : Nat) (j : Job), s.job? id = some j ∧ (j.au = none ∨ j.phase ≠ JobPhase.admitted ∨
      j.desc.opcode ≠ 16 ∨ s.enginesRun = false)) ∧
    (∃ (s : State) (id : Nat) (j : Job) (au : Au), s.job? id = some j ∧ j.au = some au ∧ j.phase = JobPhase.admitted ∧
      j.desc.opcode = 16 ∧ s.enginesRun = true ∧ s.postable j = true ∧
      ((match au.header with   | none => !decide ((s.chan j.desc.channel).decState = 3 ∧
      (s.chan j.desc.channel).codec ≠ 1)   | some h => headerErr (s.chan j.desc.channel) h == 0 && !(decide ((s.chan j.desc.channel).decState = 3 ∧ (s.chan j.desc.channel).codec ≠ 1) && !au.irap)) =   false) ∧ (∀ (n : Nat), (s.chan n).exporting = none)) ∧
    (∃ (s : State) (id : Nat) (j : Job) (au : Au), s.job? id = some j ∧ j.au = some au ∧ j.phase = JobPhase.admitted ∧
      j.desc.opcode = 16 ∧ s.enginesRun = true ∧ s.postable j = true ∧
      ((match au.header with   | none => !decide ((s.chan j.desc.channel).decState = 3 ∧
      (s.chan j.desc.channel).codec ≠ 1)   | some h => headerErr (s.chan j.desc.channel) h == 0 && !(decide ((s.chan j.desc.channel).decState = 3 ∧ (s.chan j.desc.channel).codec ≠ 1) && !au.irap)) =   true) ∧ (∀ (n : Nat), (s.chan n).exporting = none)) ∧
    (∃ (s : State) (id : Nat) (j : Job) (row : Nat), s.job? id = some j ∧ (¬(j.decoding = true ∧ s.enginesRun = true ∧
      (j.cut = false ∨ row < j.cutRow)))) :=
  ⟨⟨State.reset, 1, .syn, by decide +kernel⟩,
   ⟨Decode.s18, 0, Option.get ((Decode.s18).job? (0)) (by decide +kernel), by decide +kernel⟩,
   ⟨Decode.s9, 0, Option.get ((Decode.s9).job? (0)) (by decide +kernel), Decode.au0 none, by decide +kernel⟩,
   ⟨Decode.s10, 0, Option.get ((Decode.s10).job? (0)) (by decide +kernel), Decode.au0 none, by decide +kernel⟩,
   ⟨Chans.S1, 0, Option.get ((Chans.S1).job? (0)) (by decide +kernel), by decide +kernel⟩,
   ⟨Decode.s12, 0, Option.get ((Decode.s12).job? (0)) (by decide +kernel),
       Option.get ((Option.get ((Decode.s12).job? (0)) (by decide +kernel)).au) (by decide +kernel), by decide +kernel,
       by decide +kernel, by decide +kernel, by decide +kernel, by decide +kernel, by decide +kernel,
       by decide +kernel, no_export _ (by decide +kernel)⟩,
   ⟨Decode.s11, 0, Option.get ((Decode.s11).job? (0)) (by decide +kernel),
       Option.get ((Option.get ((Decode.s11).job? (0)) (by decide +kernel)).au) (by decide +kernel), by decide +kernel,
       by decide +kernel, by decide +kernel, by decide +kernel, by decide +kernel, by decide +kernel,
       by decide +kernel, no_export _ (by decide +kernel)⟩,
   ⟨Chans.S1, 0, Option.get ((Chans.S1).job? (0)) (by decide +kernel), 1, by decide +kernel⟩⟩

theorem witness_DecodeJobsRunAndEnd_2 :
    (∃ (s : State) (id : Nat) (j : Job) (row : Nat), s.job? id = some j ∧ j.decoding = true ∧ s.enginesRun = true ∧
      (j.cut = false ∨ row < j.cutRow) ∧ (∀ (n : Nat), (s.chan n).exporting = none)) ∧
    (∃ (s : State) (id : Nat) (j : Job) (kind : CapKind) (cycles : Nat), s.job? id = some j ∧ (kind = CapKind.syn ∨
      kind = CapKind.pix ∨ kind = CapKind.enc) ∧ (¬(s.tick.window = Window.work ∧ j.cycleCap kind ≤ cycles ∧
      j.cuttable kind = true))) ∧
    (∃ (s : State) (id : Nat) (j : Job) (kind : CapKind) (cycles : Nat), s.job? id = some j ∧ (kind = CapKind.syn ∨
      kind = CapKind.pix ∨ kind = CapKind.enc) ∧ s.tick.window = Window.work ∧ j.cycleCap kind ≤ cycles ∧
      j.cuttable kind = true ∧ (∀ (n : Nat), (s.chan n).exporting = none)) ∧
    (∃ (s : State) (id : Nat) (j : Job) (d : Nat) (cycles : Nat), s.job? id = some j ∧ (¬(s.tick.window = Window.work ∧
      s.composeCost d * 5 / 10 ≤ cycles))) ∧
    (∃ (s : State) (id : Nat) (j : Job) (d : Nat) (cycles : Nat), s.job? id = some j ∧ s.tick.window = Window.work ∧
      s.composeCost d * 5 / 10 ≤ cycles ∧ s.tick.composing.contains d = true ∧ s.tick.composed.contains d = false) ∧
    (∃ (s : State) (id : Nat) (j : Job) (e : Nat) (x : SynEngine), s.job? id = some j ∧ e < 3 ∧ s.engines[e]? = some x ∧ x.job = none) ∧
    (∃ (s : State) (id : Nat) (j : Job) (e : Nat) (x : SynEngine) (old : Nat) (k : Job), s.job? id = some j ∧ e < 3 ∧
      s.engines[e]? = some x ∧ x.job = some old ∧ s.job? old = some k ∧ k.cut = false ∧ (j.phase ≠ JobPhase.admitted ∨
      j.cut = true ∨ old = id)) ∧
    (∃ (s : State) (id : Nat) (j : Job) (e : Nat) (x : SynEngine) (old : Nat) (k : Job), s.job? id = some j ∧ e < 3 ∧
      s.engines[e]? = some x ∧ x.job = some old ∧ s.job? old = some k ∧ k.cut = false ∧ j.phase = JobPhase.admitted ∧
      j.cut = false ∧ old ≠ id ∧ (∀ (n : Nat), (s.chan n).exporting = none)) :=
  ⟨⟨Decode.s11, 0, Option.get ((Decode.s11).job? (0)) (by decide +kernel), 1, by decide +kernel, by decide +kernel,
      by decide +kernel, by decide +kernel, no_export _ (by decide +kernel)⟩,
   ⟨Chans.S1, 0, Option.get ((Chans.S1).job? (0)) (by decide +kernel), .syn, 100000, by decide +kernel⟩,
   ⟨Decode.s11, 0, Option.get ((Decode.s11).job? (0)) (by decide +kernel), .pix, 100000, by decide +kernel,
       by decide +kernel, by decide +kernel, by decide +kernel, by decide +kernel, no_export _ (by decide +kernel)⟩,
   ⟨Chans.S1, 0, Option.get ((Chans.S1).job? (0)) (by decide +kernel), 9, 100000000, by decide +kernel⟩,
   ⟨Decode.s15, 0, Option.get ((Decode.s15).job? (0)) (by decide +kernel), 1, 1000000000000, by decide +kernel⟩,
   ⟨Chans.S1, 0, Option.get ((Chans.S1).job? (0)) (by decide +kernel), 2,
       Option.get ((Chans.S1).engines[(2)]?) (by decide +kernel), by decide +kernel⟩,
   ⟨Decode.s14, 7, Option.get ((Decode.s14).job? (7)) (by decide +kernel), 1,
       Option.get ((Decode.s14).engines[(1)]?) (by decide +kernel),
       Option.get ((lget SynEngine.reset (State.engines Decode.s14) 1).job) (by decide +kernel),
       Option.get ((Decode.s14).job? (Option.get ((lget SynEngine.reset (State.engines Decode.s14) 1).job) (by decide +kernel))) (by decide +kernel), by decide +kernel⟩,
   ⟨Decode.s14, 0, Option.get ((Decode.s14).job? (0)) (by decide +kernel), 2,
       Option.get ((Decode.s14).engines[(2)]?) (by decide +kernel),
       Option.get ((lget SynEngine.reset (State.engines Decode.s14) 2).job) (by decide +kernel),
       Option.get ((Decode.s14).job? (Option.get ((lget SynEngine.reset (State.engines Decode.s14) 2).job) (by decide +kernel))) (by decide +kernel), by decide +kernel, by decide +kernel, by decide +kernel, by decide +kernel, by decide +kernel, by decide +kernel, by decide +kernel, by decide +kernel, by decide +kernel, no_export _ (by decide +kernel)⟩⟩

theorem witness_DecodeJobsRunAndEnd_3 :
    ∃ (s : State) (id : Nat) (j : Job) (e : Nat) (x : SynEngine) (old : Nat) (k : Job), s.job? id = some j ∧ e < 3 ∧
      s.engines[e]? = some x ∧ x.job = some old ∧ s.job? old = some k ∧ k.cut = true :=
  ⟨Decode.s13, 7, Option.get ((Decode.s13).job? (7)) (by decide +kernel), 1,
      Option.get ((Decode.s13).engines[(1)]?) (by decide +kernel),
      Option.get ((lget SynEngine.reset (State.engines Decode.s13) 1).job) (by decide +kernel),
      Option.get ((Decode.s13).job? (Option.get ((lget SynEngine.reset (State.engines Decode.s13) 1).job) (by decide +kernel))) (by decide +kernel), by decide +kernel⟩

theorem witness_EncodeJobsRunAndEnd :
    (∃ (s : State) (id : Nat) (j : Job) (c : Channel) (action : Nat), s.chan j.desc.channel = c ∧
      s.readyJob id 17 = some j ∧ (needsChannel 17 = true → s.chanExists j.desc.channel = true) ∧
      s.classOk j.desc = true ∧ (17 = 16 → s.kindOk j.desc = true) ∧ j.ready = false ∧ s.postable j = true ∧
      action < 5 ∧ j.u8 16 ≠ action) ∧
    (∃ (s : State) (id : Nat) (j : Job) (c : Channel) (action : Nat), s.chan j.desc.channel = c ∧
      s.readyJob id 17 = some j ∧ (needsChannel 17 = true → s.chanExists j.desc.channel = true) ∧
      s.classOk j.desc = true ∧ (17 = 16 → s.kindOk j.desc = true) ∧ j.ready = false ∧ s.postable j = true ∧
      action < 5 ∧ j.u8 16 = action ∧ c.state = 3) ∧
    (∃ (s : State) (id : Nat) (j : Job) (c : Channel) (action : Nat), s.chan j.desc.channel = c ∧
      s.readyJob id 17 = some j ∧ (needsChannel 17 = true → s.chanExists j.desc.channel = true) ∧
      s.classOk j.desc = true ∧ (17 = 16 → s.kindOk j.desc = true) ∧ j.ready = false ∧ s.postable j = true ∧
      action < 5 ∧ j.u8 16 = action ∧ c.state ≠ 3 ∧ c.kind ≠ 3) ∧
    (∃ (s : State) (id : Nat) (j : Job) (c : Channel) (action : Nat), s.chan j.desc.channel = c ∧
      s.readyJob id 17 = some j ∧ (needsChannel 17 = true → s.chanExists j.desc.channel = true) ∧
      s.classOk j.desc = true ∧ (17 = 16 → s.kindOk j.desc = true) ∧ j.ready = false ∧ s.postable j = true ∧
      action < 5 ∧ j.u8 16 = action ∧ c.state ≠ 3 ∧ c.kind = 3 ∧ action ≠ 1 ∧
      ((c.enc.bind fun x => x.stopping).isSome = true ∨ c.enc = none)) ∧
    (∃ (s : State) (id : Nat) (j : Job) (c : Channel), s.chan j.desc.channel = c ∧ s.readyJob id 17 = some j ∧
      (needsChannel 17 = true → s.chanExists j.desc.channel = true) ∧ s.classOk j.desc = true ∧ (17 = 16 →
      s.kindOk j.desc = true) ∧ j.ready = false ∧ s.postable j = true ∧ c.state ≠ 3 ∧ c.kind = 3 ∧ j.u8 16 = 1 ∧
      c.enc.isSome = true) ∧
    (∃ (s : State) (id : Nat) (j : Job) (c : Channel) (b : List Byte) (status : Nat) (reason : Nat),
      s.chan j.desc.channel = c ∧ s.readyJob id 17 = some j ∧ (needsChannel 17 = true →
      s.chanExists j.desc.channel = true) ∧ s.classOk j.desc = true ∧ (17 = 16 → s.kindOk j.desc = true) ∧
      j.ready = false ∧ s.postable j = true ∧ c.state ≠ 3 ∧ c.kind = 3 ∧ j.u8 16 = 1 ∧ c.enc = none ∧
      s.encRefusal j.desc.channel (encoderOf (padTo 128 b) (s.fld ENC_CTL 0 0) j.desc.cq) (padTo 128 b) = some (status,
      reason)) ∧
    (∃ (s : State) (id : Nat) (j : Job) (c : Channel) (b : List Byte), s.chan j.desc.channel = c ∧
      s.readyJob id 17 = some j ∧ (needsChannel 17 = true → s.chanExists j.desc.channel = true) ∧
      s.classOk j.desc = true ∧ (17 = 16 → s.kindOk j.desc = true) ∧ j.ready = false ∧ s.postable j = true ∧
      c.state ≠ 3 ∧ c.kind = 3 ∧ j.u8 16 = 1 ∧ c.enc = none ∧
      s.encRefusal j.desc.channel (encoderOf (padTo 128 b) (s.fld ENC_CTL 0 0) j.desc.cq) (padTo 128 b) = none) ∧
    (∃ (s : State) (id : Nat) (j : Job) (c : Channel) (e : Encoder), s.chan j.desc.channel = c ∧
      s.readyJob id 17 = some j ∧ (needsChannel 17 = true → s.chanExists j.desc.channel = true) ∧
      s.classOk j.desc = true ∧ (17 = 16 → s.kindOk j.desc = true) ∧ j.ready = false ∧ s.postable j = true ∧
      c.state ≠ 3 ∧ c.kind = 3 ∧ c.enc = some e ∧ e.stopping = none ∧ j.u8 16 = 0 ∧ e.source ≠ 4) :=
  ⟨⟨Encode.s11, 0, Option.get ((Encode.s11).readyJob (0) 17) (by decide +kernel),
      (Encode.s11).chan (Option.get ((Encode.s11).readyJob (0) 17) (by decide +kernel)).desc.channel, 4,
      by decide +kernel⟩,
   ⟨Encode.s11, 0, Option.get ((Encode.s11).readyJob (0) 17) (by decide +kernel),
       (Encode.s11).chan (Option.get ((Encode.s11).readyJob (0) 17) (by decide +kernel)).desc.channel,
       (Option.get ((Encode.s11).readyJob (0) 17) (by decide +kernel)).u8 16, by decide +kernel⟩,
   ⟨Encode.s13, 0, Option.get ((Encode.s13).readyJob (0) 17) (by decide +kernel),
       (Encode.s13).chan (Option.get ((Encode.s13).readyJob (0) 17) (by decide +kernel)).desc.channel,
       (Option.get ((Encode.s13).readyJob (0) 17) (by decide +kernel)).u8 16, by decide +kernel⟩,
   ⟨Encode.s14, 0, Option.get ((Encode.s14).readyJob (0) 17) (by decide +kernel),
       (Encode.s14).chan (Option.get ((Encode.s14).readyJob (0) 17) (by decide +kernel)).desc.channel,
       (Option.get ((Encode.s14).readyJob (0) 17) (by decide +kernel)).u8 16, by decide +kernel⟩,
   ⟨Encode.s3, 0, Option.get ((Encode.s3).readyJob (0) 17) (by decide +kernel),
       (Encode.s3).chan (Option.get ((Encode.s3).readyJob (0) 17) (by decide +kernel)).desc.channel, by decide +kernel⟩,
   ⟨Encode.s2, 0, Option.get ((Encode.s2).readyJob (0) 17) (by decide +kernel),
       (Encode.s2).chan (Option.get ((Encode.s2).readyJob (0) 17) (by decide +kernel)).desc.channel,
       List.replicate 300 7#8, Option.get (Option.map (fun p => p.1) ((Encode.s2).encRefusal (Option.get ((Encode.s2).readyJob (0) 17) (by decide +kernel)).desc.channel (encoderOf (padTo 128 (List.replicate 300 7#8)) ((Encode.s2).fld ENC_CTL 0 0) (Option.get ((Encode.s2).readyJob (0) 17) (by decide +kernel)).desc.cq) (padTo 128 (List.replicate 300 7#8)))) (by decide +kernel), Option.get (Option.map (fun p => p.2) ((Encode.s2).encRefusal (Option.get ((Encode.s2).readyJob (0) 17) (by decide +kernel)).desc.channel (encoderOf (padTo 128 (List.replicate 300 7#8)) ((Encode.s2).fld ENC_CTL 0 0) (Option.get ((Encode.s2).readyJob (0) 17) (by decide +kernel)).desc.cq) (padTo 128 (List.replicate 300 7#8)))) (by decide +kernel), by decide +kernel⟩,
   ⟨Encode.s2, 0, Option.get ((Encode.s2).readyJob (0) 17) (by decide +kernel),
       (Encode.s2).chan (Option.get ((Encode.s2).readyJob (0) 17) (by decide +kernel)).desc.channel, Encode.blkE,
       by decide +kernel⟩,
   ⟨Encode.s16, 0, Option.get ((Encode.s16).readyJob (0) 17) (by decide +kernel),
       (Encode.s16).chan (Option.get ((Encode.s16).readyJob (0) 17) (by decide +kernel)).desc.channel,
       Option.get (((Encode.s16).chan (Option.get ((Encode.s16).readyJob (0) 17) (by decide +kernel)).desc.channel).enc) (by decide +kernel), by decide +kernel⟩⟩

theorem witness_EncodeJobsRunAndEnd_2 :
    (∃ (s : State) (id : Nat) (j : Job) (c : Channel) (e : Encoder), s.chan j.desc.channel = c ∧
      s.readyJob id 17 = some j ∧ (needsChannel 17 = true → s.chanExists j.desc.channel = true) ∧
      s.classOk j.desc = true ∧ (17 = 16 → s.kindOk j.desc = true) ∧ j.ready = false ∧ s.postable j = true ∧
      c.state ≠ 3 ∧ c.kind = 3 ∧ c.enc = some e ∧ e.stopping = none ∧ j.u8 16 = 0 ∧ e.source = 4 ∧
      (e.heldFrames.any fun x => x.job == some id) = false ∧ e.heldFrames.length < e.numB) ∧
    (∃ (s : State) (id : Nat) (j : Job) (c : Channel) (e : Encoder), s.chan j.desc.channel = c ∧
      s.readyJob id 17 = some j ∧ (needsChannel 17 = true → s.chanExists j.desc.channel = true) ∧
      s.classOk j.desc = true ∧ (17 = 16 → s.kindOk j.desc = true) ∧ j.ready = false ∧ s.postable j = true ∧
      c.state ≠ 3 ∧ c.kind = 3 ∧ c.enc = some e ∧ e.stopping = none ∧ j.u8 16 = 0 ∧ e.source = 4 ∧
      (e.heldFrames.any fun x => x.job == some id) = false ∧ e.numB ≤ e.heldFrames.length) ∧
    (∃ (s : State) (id : Nat) (j : Job) (c : Channel) (e : Encoder), s.chan j.desc.channel = c ∧
      s.readyJob id 17 = some j ∧ (needsChannel 17 = true → s.chanExists j.desc.channel = true) ∧
      s.classOk j.desc = true ∧ (17 = 16 → s.kindOk j.desc = true) ∧ j.ready = false ∧ s.postable j = true ∧
      c.state ≠ 3 ∧ c.kind = 3 ∧ c.enc = some e ∧ e.stopping = none ∧ j.u8 16 = 2 ∧
      s.framesOpen j.desc.channel = true) ∧
    (∃ (s : State) (id : Nat) (j : Job) (c : Channel) (e : Encoder), s.chan j.desc.channel = c ∧
      s.readyJob id 17 = some j ∧ (needsChannel 17 = true → s.chanExists j.desc.channel = true) ∧
      s.classOk j.desc = true ∧ (17 = 16 → s.kindOk j.desc = true) ∧ j.ready = false ∧ s.postable j = true ∧
      c.state ≠ 3 ∧ c.kind = 3 ∧ c.enc = some e ∧ e.stopping = none ∧ j.u8 16 = 2 ∧
      s.framesOpen j.desc.channel = false ∧ e.heldFrames = []) ∧
    (∃ (s : State) (id : Nat) (j : Job) (c : Channel) (e : Encoder) (b : List Byte), s.chan j.desc.channel = c ∧
      s.readyJob id 17 = some j ∧ (needsChannel 17 = true → s.chanExists j.desc.channel = true) ∧
      s.classOk j.desc = true ∧ (17 = 16 → s.kindOk j.desc = true) ∧ j.ready = false ∧ s.postable j = true ∧
      c.state ≠ 3 ∧ c.kind = 3 ∧ c.enc = some e ∧ e.stopping = none ∧ j.u8 16 = 3 ∧
      (e.updated (encoderOf (padTo 128 b) e.meRange e.cq)).block ≠ (encoderOf (padTo 128 b) e.meRange e.cq).block) ∧
    (∃ (s : State) (id : Nat) (j : Job) (c : Channel) (e : Encoder) (b : List Byte) (status : Nat) (reason : Nat),
      s.chan j.desc.channel = c ∧ s.readyJob id 17 = some j ∧ (needsChannel 17 = true →
      s.chanExists j.desc.channel = true) ∧ s.classOk j.desc = true ∧ (17 = 16 → s.kindOk j.desc = true) ∧
      j.ready = false ∧ s.postable j = true ∧ c.state ≠ 3 ∧ c.kind = 3 ∧ c.enc = some e ∧ e.stopping = none ∧
      j.u8 16 = 3 ∧ (e.updated (encoderOf (padTo 128 b) e.meRange e.cq)).block = (encoderOf (padTo 128 b) e.meRange e.cq).block ∧ s.encRefusal j.desc.channel (e.updated (encoderOf (padTo 128 b) e.meRange e.cq)) (padTo 128 b) = some (status, reason)) ∧
    (∃ (s : State) (id : Nat) (j : Job) (c : Channel) (e : Encoder) (b : List Byte), s.chan j.desc.channel = c ∧
      s.readyJob id 17 = some j ∧ (needsChannel 17 = true → s.chanExists j.desc.channel = true) ∧
      s.classOk j.desc = true ∧ (17 = 16 → s.kindOk j.desc = true) ∧ j.ready = false ∧ s.postable j = true ∧
      c.state ≠ 3 ∧ c.kind = 3 ∧ c.enc = some e ∧ e.stopping = none ∧ j.u8 16 = 3 ∧
      (e.updated (encoderOf (padTo 128 b) e.meRange e.cq)).block = (encoderOf (padTo 128 b) e.meRange e.cq).block ∧
      s.encRefusal j.desc.channel (e.updated (encoderOf (padTo 128 b) e.meRange e.cq)) (padTo 128 b) = none) ∧
    (∃ (s : State) (id : Nat) (j : Job) (c : Channel) (e : Encoder), s.chan j.desc.channel = c ∧
      s.readyJob id 17 = some j ∧ (needsChannel 17 = true → s.chanExists j.desc.channel = true) ∧
      s.classOk j.desc = true ∧ (17 = 16 → s.kindOk j.desc = true) ∧ j.ready = false ∧ s.postable j = true ∧
      c.state ≠ 3 ∧ c.kind = 3 ∧ c.enc = some e ∧ e.stopping = none ∧ j.u8 16 = 4) :=
  ⟨⟨Encode.s5, 0, Option.get ((Encode.s5).readyJob (0) 17) (by decide +kernel),
      (Encode.s5).chan (Option.get ((Encode.s5).readyJob (0) 17) (by decide +kernel)).desc.channel,
      Option.get (((Encode.s5).chan (Option.get ((Encode.s5).readyJob (0) 17) (by decide +kernel)).desc.channel).enc) (by decide +kernel), by decide +kernel⟩,
   ⟨Encode.s4, 0, Option.get ((Encode.s4).readyJob (0) 17) (by decide +kernel),
       (Encode.s4).chan (Option.get ((Encode.s4).readyJob (0) 17) (by decide +kernel)).desc.channel,
       Option.get (((Encode.s4).chan (Option.get ((Encode.s4).readyJob (0) 17) (by decide +kernel)).desc.channel).enc) (by decide +kernel), by decide +kernel⟩,
   ⟨Encode.s17, 0, Option.get ((Encode.s17).readyJob (0) 17) (by decide +kernel),
       (Encode.s17).chan (Option.get ((Encode.s17).readyJob (0) 17) (by decide +kernel)).desc.channel,
       Option.get (((Encode.s17).chan (Option.get ((Encode.s17).readyJob (0) 17) (by decide +kernel)).desc.channel).enc) (by decide +kernel), by decide +kernel⟩,
   ⟨Encode.s6, 0, Option.get ((Encode.s6).readyJob (0) 17) (by decide +kernel),
       (Encode.s6).chan (Option.get ((Encode.s6).readyJob (0) 17) (by decide +kernel)).desc.channel,
       Option.get (((Encode.s6).chan (Option.get ((Encode.s6).readyJob (0) 17) (by decide +kernel)).desc.channel).enc) (by decide +kernel), by decide +kernel⟩,
   ⟨Encode.s7, 0, Option.get ((Encode.s7).readyJob (0) 17) (by decide +kernel),
       (Encode.s7).chan (Option.get ((Encode.s7).readyJob (0) 17) (by decide +kernel)).desc.channel,
       Option.get (((Encode.s7).chan (Option.get ((Encode.s7).readyJob (0) 17) (by decide +kernel)).desc.channel).enc) (by decide +kernel), Net.ptM false 11, by decide +kernel⟩,
   ⟨Encode.s7, 0, Option.get ((Encode.s7).readyJob (0) 17) (by decide +kernel),
       (Encode.s7).chan (Option.get ((Encode.s7).readyJob (0) 17) (by decide +kernel)).desc.channel,
       Option.get (((Encode.s7).chan (Option.get ((Encode.s7).readyJob (0) 17) (by decide +kernel)).desc.channel).enc) (by decide +kernel), Encode.blkE 3 4 40 30, Option.get (Option.map (fun p => p.1) ((Encode.s7).encRefusal (Option.get ((Encode.s7).readyJob (0) 17) (by decide +kernel)).desc.channel ((Option.get (((Encode.s7).chan (Option.get ((Encode.s7).readyJob (0) 17) (by decide +kernel)).desc.channel).enc) (by decide +kernel)).updated (encoderOf (padTo 128 (Encode.blkE 3 4 40 30)) (Option.get (((Encode.s7).chan (Option.get ((Encode.s7).readyJob (0) 17) (by decide +kernel)).desc.channel).enc) (by decide +kernel)).meRange (Option.get (((Encode.s7).chan (Option.get ((Encode.s7).readyJob (0) 17) (by decide +kernel)).desc.channel).enc) (by decide +kernel)).cq)) (padTo 128 (Encode.blkE 3 4 40 30)))) (by decide +kernel), Option.get (Option.map (fun p => p.2) ((Encode.s7).encRefusal (Option.get ((Encode.s7).readyJob (0) 17) (by decide +kernel)).desc.channel ((Option.get (((Encode.s7).chan (Option.get ((Encode.s7).readyJob (0) 17) (by decide +kernel)).desc.channel).enc) (by decide +kernel)).updated (encoderOf (padTo 128 (Encode.blkE 3 4 40 30)) (Option.get (((Encode.s7).chan (Option.get ((Encode.s7).readyJob (0) 17) (by decide +kernel)).desc.channel).enc) (by decide +kernel)).meRange (Option.get (((Encode.s7).chan (Option.get ((Encode.s7).readyJob (0) 17) (by decide +kernel)).desc.channel).enc) (by decide +kernel)).cq)) (padTo 128 (Encode.blkE 3 4 40 30)))) (by decide +kernel), by decide +kernel⟩,
   ⟨Encode.s7, 0, Option.get ((Encode.s7).readyJob (0) 17) (by decide +kernel),
       (Encode.s7).chan (Option.get ((Encode.s7).readyJob (0) 17) (by decide +kernel)).desc.channel,
       Option.get (((Encode.s7).chan (Option.get ((Encode.s7).readyJob (0) 17) (by decide +kernel)).desc.channel).enc) (by decide +kernel), Encode.blkE, by decide +kernel⟩,
   ⟨Encode.s8, 0, Option.get ((Encode.s8).readyJob (0) 17) (by decide +kernel),
       (Encode.s8).chan (Option.get ((Encode.s8).readyJob (0) 17) (by decide +kernel)).desc.channel,
       Option.get (((Encode.s8).chan (Option.get ((Encode.s8).readyJob (0) 17) (by decide +kernel)).desc.channel).enc) (by decide +kernel), by decide +kernel⟩⟩

theorem witness_EncodeJobsRunAndEnd_3 :
    (∃ (s : State) (id : Nat), s.encoding id = none) ∧
    (∃ (s : State) (id : Nat) (j : Job) (e : Encoder), s.encoding id = some (j, e) ∧ (j.cut = true ∧
      j.cutRow ≤ j.rowsDone ∨ j.sizeCut = true ∨ j.rows ≤ j.rowsDone)) ∧
    (∃ (s : State) (id : Nat) (j : Job) (e : Encoder) (bytes : Nat), s.encoding id = some (j, e) ∧ (¬(j.cut = true ∧
      j.cutRow ≤ j.rowsDone ∨ j.sizeCut = true ∨ j.rows ≤ j.rowsDone)) ∧
      rowTotal (s.chan j.desc.channel).codec e j bytes + tailReserve e.rcMode (j.rows - (j.rowsDone + 1)) ≤ j.cap ∧
      (∀ (n : Nat), (s.chan n).exporting = none)) ∧
    (∃ (s : State) (id : Nat) (j : Job) (e : Encoder) (bytes : Nat), s.encoding id = some (j, e) ∧ (¬(j.cut = true ∧
      j.cutRow ≤ j.rowsDone ∨ j.sizeCut = true ∨ j.rows ≤ j.rowsDone)) ∧
      (¬rowTotal (s.chan j.desc.channel).codec e j bytes + tailReserve e.rcMode (j.rows - (j.rowsDone + 1)) ≤ j.cap) ∧
      (∀ (n : Nat), (s.chan n).exporting = none)) ∧
    (∃ (s : State) (id : Nat) (j : Job) (e : Encoder), s.encoding id = some (j, e) ∧ (¬(j.cut = true ∨
      j.sizeCut = true ∨ j.rows ≤ j.rowsDone))) ∧
    (∃ (s : State) (id : Nat) (j : Job) (e : Encoder), s.encoding id = some (j, e) ∧ (j.cut = true ∨ j.sizeCut = true ∨
      j.rows ≤ j.rowsDone) ∧ ((s.chan j.desc.channel).enc.bind fun x => x.stopping) = none ∧ s.postable j = true ∧
      (∀ (n : Nat), (s.chan n).exporting = none)) :=
  ⟨⟨State.reset, 1, by decide +kernel⟩,
   ⟨Encode.s18, 0, Option.get (Option.map (fun p => p.1) ((Encode.s18).encoding (0))) (by decide +kernel),
       Option.get (Option.map (fun p => p.2) ((Encode.s18).encoding (0))) (by decide +kernel), by decide +kernel⟩,
   ⟨Encode.s10, 0, Option.get (Option.map (fun p => p.1) ((Encode.s10).encoding (0))) (by decide +kernel),
       Option.get (Option.map (fun p => p.2) ((Encode.s10).encoding (0))) (by decide +kernel), 0, by decide +kernel,
       by decide +kernel, by decide +kernel, no_export _ (by decide +kernel)⟩,
   ⟨Encode.s10, 0, Option.get (Option.map (fun p => p.1) ((Encode.s10).encoding (0))) (by decide +kernel),
       Option.get (Option.map (fun p => p.2) ((Encode.s10).encoding (0))) (by decide +kernel), 1000, by decide +kernel,
       by decide +kernel, by decide +kernel, no_export _ (by decide +kernel)⟩,
   ⟨Encode.s19, 0, Option.get (Option.map (fun p => p.1) ((Encode.s19).encoding (0))) (by decide +kernel),
       Option.get (Option.map (fun p => p.2) ((Encode.s19).encoding (0))) (by decide +kernel), by decide +kernel⟩,
   ⟨Encode.s10, 0, Option.get (Option.map (fun p => p.1) ((Encode.s10).encoding (0))) (by decide +kernel),
       Option.get (Option.map (fun p => p.2) ((Encode.s10).encoding (0))) (by decide +kernel), by decide +kernel,
       by decide +kernel, by decide +kernel, by decide +kernel, no_export _ (by decide +kernel)⟩⟩

theorem witness_CompositionOfFrames :
    (∃ (s : State) (id : Nat) (j : Job), s.postable j = true ∧ s.readyJob id 32 = some j ∧ (needsChannel 32 = true →
      s.chanExists j.desc.channel = true) ∧ s.classOk j.desc = true ∧ (32 = 16 → s.kindOk j.desc = true) ∧
      j.u8 17 ≠ 255 ∧ (¬(j.u8 16 ≤ 2 ∧ j.u8 17 ≤ 15 ∧ s.layerOk (j.u8 16) (layerOf j.desc.bytes) = true))) ∧
    (∃ (s : State) (id : Nat) (j : Job), s.postable j = true ∧ s.readyJob id 32 = some j ∧ (needsChannel 32 = true →
      s.chanExists j.desc.channel = true) ∧ s.classOk j.desc = true ∧ (32 = 16 → s.kindOk j.desc = true) ∧
      j.u8 17 ≠ 255 ∧ j.u8 16 ≤ 2 ∧ j.u8 17 ≤ 15 ∧ s.layerOk (j.u8 16) (layerOf j.desc.bytes) = true ∧
      (layerOf j.desc.bytes).srcType ≠ 0 ∧ s.overLayers ((fun c => { tick := (s.tickFor (j.u32 48)).1, job := id, change := c }) (LayerChange.layer (j.u8 16) (j.u8 17) (layerOf j.desc.bytes))) (j.u8 16) = true) ∧
    (∃ (s : State) (id : Nat) (j : Job), s.postable j = true ∧ s.readyJob id 32 = some j ∧ (needsChannel 32 = true →
      s.chanExists j.desc.channel = true) ∧ s.classOk j.desc = true ∧ (32 = 16 → s.kindOk j.desc = true) ∧
      j.u8 17 ≠ 255 ∧ j.u8 16 ≤ 2 ∧ j.u8 17 ≤ 15 ∧ s.layerOk (j.u8 16) (layerOf j.desc.bytes) = true ∧
      (¬((layerOf j.desc.bytes).srcType ≠ 0 ∧
      s.overLayers ((fun c => { tick := (s.tickFor (j.u32 48)).1, job := id, change := c }) (LayerChange.layer (j.u8 16) (j.u8 17) (layerOf j.desc.bytes))) (j.u8 16) = true))) ∧
    (∃ (s : State) (id : Nat) (j : Job), s.postable j = true ∧ s.readyJob id 32 = some j ∧ (needsChannel 32 = true →
      s.chanExists j.desc.channel = true) ∧ s.classOk j.desc = true ∧ (32 = 16 → s.kindOk j.desc = true) ∧
      j.u8 17 = 255 ∧ j.u8 16 ≤ 2 ∧ j.u8 18 ≤ 1) ∧
    (∃ (s : State) (id : Nat) (j : Job), s.postable j = true ∧ s.readyJob id 32 = some j ∧ (needsChannel 32 = true →
      s.chanExists j.desc.channel = true) ∧ s.classOk j.desc = true ∧ (32 = 16 → s.kindOk j.desc = true) ∧
      j.u8 17 = 255 ∧ (¬(j.u8 16 ≤ 2 ∧ j.u8 18 ≤ 1))) ∧
    (∃ (s : State) (id : Nat) (j : Job), s.postable j = true ∧ s.readyJob id 33 = some j ∧ (needsChannel 33 = true →
      s.chanExists j.desc.channel = true) ∧ s.classOk j.desc = true ∧ (33 = 16 → s.kindOk j.desc = true) ∧
      (s.cmp.copies.any fun c => c.slot == j.u8 28) = true) ∧
    (∃ (s : State) (id : Nat) (j : Job), s.postable j = true ∧ s.readyJob id 33 = some j ∧ (needsChannel 33 = true →
      s.chanExists j.desc.channel = true) ∧ s.classOk j.desc = true ∧ (33 = 16 → s.kindOk j.desc = true) ∧
      (s.cmp.copies.any fun c => c.slot == j.u8 28) = false) ∧
    (∃ (s : State) (j : Job) (slot : Nat) (c : Copy), s.postable j = true ∧ slot < 64 ∧
      List.find? (fun c => c.slot == slot) s.cmp.copies = some c ∧ s.job? c.job = some j ∧
      j.phase = JobPhase.executing) :=
  ⟨⟨Compose.s4, 0, Option.get ((Compose.s4).readyJob (0) 32) (by decide +kernel), by decide +kernel⟩,
   ⟨Jobs.s1, 0, Option.get ((Jobs.s1).readyJob (0) 32) (by decide +kernel), by decide +kernel⟩,
   ⟨Compose.s1, 0, Option.get ((Compose.s1).readyJob (0) 32) (by decide +kernel), by decide +kernel⟩,
   ⟨Compose.s5, 0, Option.get ((Compose.s5).readyJob (0) 32) (by decide +kernel), by decide +kernel⟩,
   ⟨Compose.s6, 0, Option.get ((Compose.s6).readyJob (0) 32) (by decide +kernel), by decide +kernel⟩,
   ⟨Compose.s9, 0, Option.get ((Compose.s9).readyJob (0) 33) (by decide +kernel), by decide +kernel⟩,
   ⟨Compose.s7, 0, Option.get ((Compose.s7).readyJob (0) 33) (by decide +kernel), by decide +kernel⟩,
   ⟨Compose.s8, Option.get ((Compose.s8).job? (Option.get (List.find? (fun c => c.slot == (5)) (Compose.s8).cmp.copies) (by decide +kernel)).job) (by decide +kernel), 5, Option.get (List.find? (fun c => c.slot == (5)) (Compose.s8).cmp.copies) (by decide +kernel), by decide +kernel⟩⟩

theorem witness_CompositionOfFrames_2 :
    (∃ (s : State) (slot : Nat), slot < 64 ∧ List.find? (fun c => c.slot == slot) s.cmp.copies = none) ∧
    (∃ (s : State), (s.tick.window ≠ Window.work ∨ s.tick.cmpStarted = true)) ∧
    (∃ (s : State), s.tick.window = Window.work ∧ s.tick.cmpStarted = false) ∧
    (∃ (s : State) (d : Nat), d < 3 ∧ (s.tick.window ≠ Window.work ∨ s.tick.cmpStarted = false ∨
      s.nextCompose ≠ some d)) ∧
    (∃ (s : State) (d : Nat), d < 3 ∧ s.tick.window = Window.work ∧ s.tick.cmpStarted = true ∧
      s.nextCompose = some d) :=
  ⟨⟨State.reset, 9, by decide +kernel⟩,
   ⟨State.reset, by decide +kernel⟩,
   ⟨Compose.s2, by decide +kernel⟩,
   ⟨State.reset, 0, by decide +kernel⟩,
   ⟨Compose.s3, Option.get ((Compose.s3).nextCompose) (by decide +kernel), by decide +kernel⟩⟩

theorem witness_HostJobsComplete :
    (∃ (s : State) (id : Nat) (j : Job), s.postable j = true ∧ s.readyJob id 48 = some j ∧ (needsChannel 48 = true →
      s.chanExists j.desc.channel = true) ∧ s.classOk j.desc = true ∧ (48 = 16 → s.kindOk j.desc = true) ∧
      (List.map (foutSetAt j.desc.bytes) (List.range 4)).all s.foutSetOk = true) ∧
    (∃ (s : State) (id : Nat) (j : Job), s.postable j = true ∧ s.readyJob id 48 = some j ∧ (needsChannel 48 = true →
      s.chanExists j.desc.channel = true) ∧ s.classOk j.desc = true ∧ (48 = 16 → s.kindOk j.desc = true) ∧
      (List.map (foutSetAt j.desc.bytes) (List.range 4)).all s.foutSetOk = false) ∧
    (∃ (s : State) (id : Nat) (j : Job), s.postable j = true ∧ s.readyJob id 64 = some j ∧ (needsChannel 64 = true →
      s.chanExists j.desc.channel = true) ∧ s.classOk j.desc = true ∧ (64 = 16 → s.kindOk j.desc = true)) ∧
    (∃ (s : State) (id : Nat) (j : Job), s.postable j = true ∧ s.readyJob id 65 = some j ∧ (needsChannel 65 = true →
      s.chanExists j.desc.channel = true) ∧ s.classOk j.desc = true ∧ (65 = 16 → s.kindOk j.desc = true)) ∧
    (∃ (s : State) (id : Nat) (j : Job), s.postable j = true ∧ s.readyJob id 80 = some j ∧ (needsChannel 80 = true →
      s.chanExists j.desc.channel = true) ∧ s.classOk j.desc = true ∧ (80 = 16 → s.kindOk j.desc = true) ∧
      s.stageBefore id = false ∧ j.u8 28 = 0 ∧ slotSize < j.u32 32 + j.u32 24) ∧
    (∃ (s : State) (id : Nat) (j : Job), s.postable j = true ∧ s.readyJob id 80 = some j ∧ (needsChannel 80 = true →
      s.chanExists j.desc.channel = true) ∧ s.classOk j.desc = true ∧ (80 = 16 → s.kindOk j.desc = true) ∧
      s.stageBefore id = false ∧ j.u8 28 = 0 ∧ j.u32 32 + j.u32 24 ≤ slotSize) ∧
    (∃ (s : State) (id : Nat) (j : Job), s.postable j = true ∧ s.readyJob id 80 = some j ∧ (needsChannel 80 = true →
      s.chanExists j.desc.channel = true) ∧ s.classOk j.desc = true ∧ (80 = 16 → s.kindOk j.desc = true) ∧
      s.stageBefore id = false ∧ j.u8 28 = 1 ∧ s.stagedErr (s.slotByte s.inactive) slotSize ≠ 0) ∧
    (∃ (s : State) (id : Nat) (j : Job), s.postable j = true ∧ s.readyJob id 80 = some j ∧ (needsChannel 80 = true →
      s.chanExists j.desc.channel = true) ∧ s.classOk j.desc = true ∧ (80 = 16 → s.kindOk j.desc = true) ∧
      s.stageBefore id = false ∧ j.u8 28 = 2) :=
  ⟨⟨Jobs.s2, 0, Option.get ((Jobs.s2).readyJob (0) 48) (by decide +kernel), by decide +kernel⟩,
   ⟨Jobs.s3, 0, Option.get ((Jobs.s3).readyJob (0) 48) (by decide +kernel), by decide +kernel⟩,
   ⟨Jobs.s4, 0, Option.get ((Jobs.s4).readyJob (0) 64) (by decide +kernel), by decide +kernel⟩,
   ⟨Jobs.s5, 0, Option.get ((Jobs.s5).readyJob (0) 65) (by decide +kernel), by decide +kernel⟩,
   ⟨Jobs.s7, 0, Option.get ((Jobs.s7).readyJob (0) 80) (by decide +kernel), by decide +kernel⟩,
   ⟨Jobs.s6, 0, Option.get ((Jobs.s6).readyJob (0) 80) (by decide +kernel), by decide +kernel⟩,
   ⟨Jobs.s8, 0, Option.get ((Jobs.s8).readyJob (0) 80) (by decide +kernel), by decide +kernel⟩,
   ⟨Jobs.s9, 0, Option.get ((Jobs.s9).readyJob (0) 80) (by decide +kernel), by decide +kernel⟩⟩

theorem witness_HostJobsComplete_2 :
    (∃ (s : State) (id : Nat) (j : Job), s.postable j = true ∧ s.readyJob id 80 = some j ∧ (needsChannel 80 = true →
      s.chanExists j.desc.channel = true) ∧ s.classOk j.desc = true ∧ (80 = 16 → s.kindOk j.desc = true) ∧
      s.stageBefore id = false ∧ j.u8 28 = 3 ∧ userSize < j.u32 32 + j.u32 24) ∧
    (∃ (s : State) (id : Nat) (j : Job), s.postable j = true ∧ s.readyJob id 80 = some j ∧ (needsChannel 80 = true →
      s.chanExists j.desc.channel = true) ∧ s.classOk j.desc = true ∧ (80 = 16 → s.kindOk j.desc = true) ∧
      s.stageBefore id = false ∧ j.u8 28 = 3 ∧ j.u32 32 + j.u32 24 ≤ userSize) ∧
    (∃ (s : State) (id : Nat) (j : Job), s.postable j = true ∧ s.readyJob id 80 = some j ∧ (needsChannel 80 = true →
      s.chanExists j.desc.channel = true) ∧ s.classOk j.desc = true ∧ (80 = 16 → s.kindOk j.desc = true) ∧
      s.stageBefore id = false ∧ j.u8 28 = 4 ∧ userSize < j.u32 32 + j.u32 24) ∧
    (∃ (s : State) (id : Nat) (j : Job), s.postable j = true ∧ s.readyJob id 80 = some j ∧ (needsChannel 80 = true →
      s.chanExists j.desc.channel = true) ∧ s.classOk j.desc = true ∧ (80 = 16 → s.kindOk j.desc = true) ∧
      s.stageBefore id = false ∧ j.u8 28 = 4 ∧ j.u32 32 + j.u32 24 ≤ userSize) ∧
    (∃ (s : State) (id : Nat) (j : Job), s.postable j = true ∧ s.readyJob id 81 = some j ∧ (needsChannel 81 = true →
      s.chanExists j.desc.channel = true) ∧ s.classOk j.desc = true ∧ (81 = 16 → s.kindOk j.desc = true) ∧
      j.desc.channel < 32 ∧ (s.chan j.desc.channel).state = 3) ∧
    (∃ (s : State) (id : Nat) (j : Job), s.postable j = true ∧ s.readyJob id 81 = some j ∧ (needsChannel 81 = true →
      s.chanExists j.desc.channel = true) ∧ s.classOk j.desc = true ∧ (81 = 16 → s.kindOk j.desc = true) ∧
      (32 ≤ j.desc.channel ∨ (s.chan j.desc.channel).state ≠ 3) ∧ s.qOn (j.u8 26) = false) ∧
    (∃ (s : State) (id : Nat) (j : Job), s.postable j = true ∧ s.readyJob id 81 = some j ∧ (needsChannel 81 = true →
      s.chanExists j.desc.channel = true) ∧ s.classOk j.desc = true ∧ (81 = 16 → s.kindOk j.desc = true) ∧
      (32 ≤ j.desc.channel ∨ (s.chan j.desc.channel).state ≠ 3) ∧ s.qOn (j.u8 26) = true ∧
      s.qDepth (j.u8 26) ≤ (s.queue (j.u8 26)).netBytes) ∧
    (∃ (s : State) (id : Nat) (j : Job), s.postable j = true ∧ s.readyJob id 81 = some j ∧ (needsChannel 81 = true →
      s.chanExists j.desc.channel = true) ∧ s.classOk j.desc = true ∧ (81 = 16 → s.kindOk j.desc = true) ∧
      (32 ≤ j.desc.channel ∨ (s.chan j.desc.channel).state ≠ 3) ∧ s.qOn (j.u8 26) = true ∧
      (s.queue (j.u8 26)).netBytes < s.qDepth (j.u8 26)) :=
  ⟨⟨Jobs.s11, 0, Option.get ((Jobs.s11).readyJob (0) 80) (by decide +kernel), by decide +kernel⟩,
   ⟨Jobs.s10, 0, Option.get ((Jobs.s10).readyJob (0) 80) (by decide +kernel), by decide +kernel⟩,
   ⟨Jobs.s13, 0, Option.get ((Jobs.s13).readyJob (0) 80) (by decide +kernel), by decide +kernel⟩,
   ⟨Jobs.s12, 0, Option.get ((Jobs.s12).readyJob (0) 80) (by decide +kernel), by decide +kernel⟩,
   ⟨Jobs.s16, 0, Option.get ((Jobs.s16).readyJob (0) 81) (by decide +kernel), by decide +kernel⟩,
   ⟨Jobs.s17, 0, Option.get ((Jobs.s17).readyJob (0) 81) (by decide +kernel), by decide +kernel⟩,
   ⟨Jobs.s15, 0, Option.get ((Jobs.s15).readyJob (0) 81) (by decide +kernel), by decide +kernel⟩,
   ⟨Jobs.s14, 0, Option.get ((Jobs.s14).readyJob (0) 81) (by decide +kernel), by decide +kernel⟩⟩

theorem witness_DispatcherOperations :
    (∃ (s : State) (slot : Nat) (x : Thread), slot < 256 ∧ s.thread slot = x ∧ (s.coresRun = false ∨ x.state ≠ 0)) ∧
    (∃ (s : State) (slot : Nat) (x : Thread), slot < 256 ∧ s.thread slot = x ∧ s.coresRun = false) ∧
    (∃ (s : State) (slot : Nat) (x : Thread) (c : Nat), slot < 256 ∧ s.thread slot = x ∧ (s.coresRun = false ∨
      (s.core c).thread = none)) ∧
    (∃ (s : State) (slot : Nat) (x : Thread), slot < 256 ∧ s.thread slot = x ∧ (s.coresRun = false ∨ x.state = 0 ∨
      x.flagsMode = false)) ∧
    (∃ (s : State) (slot : Nat) (x : Thread), slot < 256 ∧ s.thread slot = x ∧ (s.coresRun = false ∨ x.state = 0 ∨
      x.flagsMode = true)) ∧
    (∃ (s : State) (slot : Nat) (x : Thread) (what : Bound), slot < 256 ∧ s.thread slot = x ∧ (s.coresRun = false ∨
      x.state = 0 ∨ x.bounds.contains what = true)) ∧
    (∃ (s : State) (slot : Nat) (x : Thread) (c : Nat), slot < 256 ∧ s.thread slot = x ∧ (s.core c).thread = none) ∧
    (∃ (s : State) (slot : Nat) (x : Thread) (prio : Nat) (fm : Bool) (all : Bool) (aff : Nat) (tag : Nat) (rl : Nat) (reload : Nat) (mask : Word), slot < 256 ∧ s.thread slot = x ∧ s.coresRun = true ∧ x.state = 0 ∧ (newThread prio fm all aff tag rl reload mask s.ktime).due = false) :=
  ⟨⟨State.reset, 0, (State.reset).thread (0), by decide +kernel⟩,
   ⟨State.reset, 3, (State.reset).thread (3), by decide +kernel⟩,
   ⟨State.reset, 9, (State.reset).thread (9), 4, by decide +kernel⟩,
   ⟨State.reset, 3, (State.reset).thread (3), by decide +kernel⟩,
   ⟨State.reset, 0, (State.reset).thread (0), by decide +kernel⟩,
   ⟨State.reset, 255, (State.reset).thread (255), .job 0, by decide +kernel⟩,
   ⟨State.reset, 255, (State.reset).thread (255), 2, by decide +kernel⟩,
   ⟨Cams.s1, 1, (Cams.s1).thread (1), 5, true, false, 40, 7, 5, 31, 0xFFFFFFFF#32, by decide +kernel⟩⟩

theorem witness_DispatcherOperations_2 :
    (∃ (s : State) (slot : Nat) (x : Thread) (prio : Nat) (fm : Bool) (all : Bool) (aff : Nat) (tag : Nat) (rl : Nat) (reload : Nat) (mask : Word), slot < 256 ∧ s.thread slot = x ∧ s.coresRun = true ∧ x.state = 0 ∧ (newThread prio fm all aff tag rl reload mask s.ktime).due = true) ∧
    (∃ (s : State) (slot : Nat) (x : Thread) (c : Nat), slot < 256 ∧ s.thread slot = x ∧ s.coresRun = true ∧ c < 4 ∧
      (s.core c).thread = some slot ∧ x.due = false) ∧
    (∃ (s : State) (slot : Nat) (x : Thread) (c : Nat), slot < 256 ∧ s.thread slot = x ∧ s.coresRun = true ∧ c < 4 ∧
      (s.core c).thread = some slot ∧ x.due = true) ∧
    (∃ (s : State) (slot : Nat) (x : Thread) (flags : Word), slot < 256 ∧ s.thread slot = x ∧ s.coresRun = true ∧
      x.flagsMode = true ∧ x.state ≠ 0 ∧ (x.state ≠ 1 ∨ Thread.due { x with flags := x.flags ||| flags } = false)) ∧
    (∃ (s : State) (slot : Nat) (x : Thread) (flags : Word), slot < 256 ∧ s.thread slot = x ∧ s.coresRun = true ∧
      x.flagsMode = true ∧ x.state ≠ 0 ∧ x.state = 1 ∧ Thread.due { x with flags := x.flags ||| flags } = true) ∧
    (∃ (s : State) (slot : Nat) (x : Thread), slot < 256 ∧ s.thread slot = x ∧ s.coresRun = true ∧ x.flagsMode = false ∧ x.state ≠ 0 ∧ (2 ≤ x.counter ∨ x.counter = 1 ∧ x.state ≠ 1)) ∧
    (∃ (s : State) (slot : Nat) (x : Thread), slot < 256 ∧ s.thread slot = x ∧ s.coresRun = true ∧ x.flagsMode = false ∧ x.state ≠ 0 ∧ x.counter = 1 ∧ x.state = 1) ∧
    (∃ (s : State) (slot : Nat) (x : Thread), slot < 256 ∧ s.thread slot = x ∧ s.coresRun = true ∧ x.flagsMode = false ∧ x.state ≠ 0 ∧ x.counter = 0 ∧ x.pending ≠ 255) :=
  ⟨⟨Cams.s1, 9, (Cams.s1).thread (9), 640, false, true, 1, 7, 0, 0, 26#32, by decide +kernel⟩,
   ⟨Dispatch.s6, Option.get (((Dispatch.s6).core (0)).thread) (by decide +kernel),
       (Dispatch.s6).thread (Option.get (((Dispatch.s6).core (0)).thread) (by decide +kernel)), 0, by decide +kernel⟩,
   ⟨Dispatch.s7, Option.get (((Dispatch.s7).core (1)).thread) (by decide +kernel),
       (Dispatch.s7).thread (Option.get (((Dispatch.s7).core (1)).thread) (by decide +kernel)), 1, by decide +kernel⟩,
   ⟨Dispatch.s5, 9, (Dispatch.s5).thread (9), 0x19#32, by decide +kernel⟩,
   ⟨Dispatch.s5, 9, (Dispatch.s5).thread (9), 26#32, by decide +kernel⟩,
   ⟨Dispatch.s1, 9, (Dispatch.s1).thread (9), by decide +kernel⟩,
   ⟨Dispatch.s2, 9, (Dispatch.s2).thread (9), by decide +kernel⟩,
   ⟨Dispatch.s3, 9, (Dispatch.s3).thread (9), by decide +kernel⟩⟩

theorem witness_DispatcherOperations_3 :
    (∃ (s : State) (slot : Nat) (x : Thread), slot < 256 ∧ s.thread slot = x ∧ s.coresRun = true ∧ x.flagsMode = false ∧ x.state ≠ 0 ∧ x.counter = 0 ∧ x.pending = 255) ∧
    (∃ (s : State) (slot : Nat) (x : Thread) (what : Bound), slot < 256 ∧ s.thread slot = x ∧ s.coresRun = true ∧
      x.state ≠ 0 ∧ x.bounds.contains what = false) :=
  ⟨⟨Dispatch.s4, 9, (Dispatch.s4).thread (9), by decide +kernel⟩,
   ⟨Dispatch.s1, 9, (Dispatch.s1).thread (9), .job 0, by decide +kernel⟩⟩

theorem witness_CellsAllocateAndFree :
    (∃ (s : State), s.memoriesRun = false) ∧
    (∃ (who : Requester) (tag : Nat), realRequester who = true ∧ tag < 256) ∧
    (∃ (s : State) (n : Nat) (size : Nat), s.memoriesRun = true ∧ n < 32 ∧ size ≤ 2 ^ 22 ∧ s.bpm.wf = true ∧
      0 < s.combFree (combFor size) ∧ s.linkOk (s.pickCell (combFor size)) = true) ∧
    (∃ (s : State) (n : Nat) (size : Nat), s.memoriesRun = true ∧ n < 32 ∧ size ≤ 2 ^ 22 ∧ s.bpm.wf = true ∧
      0 < s.combFree (combFor size) ∧ s.linkOk (s.pickCell (combFor size)) = false) ∧
    (∃ (s : State) (n : Nat) (size : Nat), s.memoriesRun = true ∧ n < 32 ∧ size ≤ 2 ^ 22 ∧ s.bpm.wf = true ∧
      s.combFree (combFor size) = 0 ∧ (s.chan n).bound = none ∧ (s.bpm.mismatch = none)) ∧
    (∃ (s : State) (tag : Nat), s.memoriesRun = true ∧ tag < 256 ∧ s.bpm.recent.contains tag = true) ∧
    (∃ (s : State) (h : Nat) (tag : Nat), s.memoriesRun = true ∧ tag < 256 ∧ s.bpm.recent.contains tag = false ∧
      (¬(h < 2 ^ 24 - 1 ∧ handleIndex h < lget 0 s.bpm.counts (handleComb h)))) ∧
    (∃ (s : State) (h : Nat) (tag : Nat), s.memoriesRun = true ∧ tag < 256 ∧ s.bpm.recent.contains tag = false ∧
      h < 2 ^ 24 - 1 ∧ handleIndex h < lget 0 s.bpm.counts (handleComb h) ∧ thas s.bpm.cells h = false) :=
  ⟨⟨State.reset, by decide +kernel⟩,
   ⟨.overlay 5, 9, by decide +kernel⟩,
   ⟨Dispatch.s11, 0, 1, by decide +kernel⟩,
   ⟨Dispatch.s12, 0, 65536, by decide +kernel⟩,
   ⟨Cams.s1, 6, 2, by decide +kernel⟩,
   ⟨Dispatch.big, 9, by decide +kernel⟩,
   ⟨Cams.s1, 2, 9, by decide +kernel⟩,
   ⟨Chans.S1, 99, 9, by decide +kernel⟩⟩

theorem witness_CellsAllocateAndFree_2 :
    (∃ (s : State) (h : Nat) (tag : Nat), s.memoriesRun = true ∧ tag < 256 ∧ s.bpm.recent.contains tag = false ∧
      h < 2 ^ 24 - 1 ∧ handleIndex h < lget 0 s.bpm.counts (handleComb h) ∧ thas s.bpm.cells h = true ∧
      (tget 255 s.bpm.cells h ≠ tag ∨ tag = 255)) ∧
    (∃ (s : State) (h : Nat) (tag : Nat), s.memoriesRun = true ∧ tag < 256 ∧ s.bpm.recent.contains tag = false ∧
      h < 2 ^ 24 - 1 ∧ handleIndex h < lget 0 s.bpm.counts (handleComb h) ∧ tget 255 s.bpm.cells h = tag ∧ tag ≠ 255) ∧
    (∃ (s : State) (c : Nat) (k : Nat), s.memoriesRun = true ∧ c < 4 ∧ s.bpm.cache[c]? = some k ∧ k ≤ 8) ∧
    (∃ (s : State) (c : Nat) (k : Nat), s.memoriesRun = true ∧ c < 4 ∧ s.bpm.cache[c]? = some k ∧ 8 < k) ∧
    (∃ (s : State) (c : Nat) (k : Nat), s.memoriesRun = true ∧ c < 4 ∧ s.bpm.cache[c]? = some k ∧ 28 ≤ k) ∧
    (∃ (s : State) (c : Nat) (k : Nat), s.memoriesRun = true ∧ c < 4 ∧ s.bpm.cache[c]? = some k ∧ k < 28) :=
  ⟨⟨Dispatch.big, 0, 160, by decide +kernel⟩,
   ⟨Dispatch.big, 1, tget 255 (Dispatch.big).bpm.cells (1), by decide +kernel⟩,
   ⟨Cams.s1, 0, Option.get ((Cams.s1).bpm.cache[(0)]?) (by decide +kernel), by decide +kernel⟩,
   ⟨Chans.S1, 3, Option.get ((Chans.S1).bpm.cache[(3)]?) (by decide +kernel), by decide +kernel⟩,
   ⟨Dispatch.s8, 2, Option.get ((Dispatch.s8).bpm.cache[(2)]?) (by decide +kernel), by decide +kernel⟩,
   ⟨Cams.s1, 1, Option.get ((Cams.s1).bpm.cache[(1)]?) (by decide +kernel), by decide +kernel⟩⟩

theorem witness_MemoryUpkeep :
    (∃ (p : Path) (off : Nat) (s : State), isSramOffset off = true ∧ off % 4 = 0 ∧ s.reaches p off = true ∧
      s.isActive = true) ∧
    (∃ (p : Path) (off : Nat) (s : State) (q : Nat), isSramOffset off = true ∧ off % 4 = 0 ∧ s.reaches p off = true ∧
      s.isActive = false ∧ q < 7) ∧
    (∃ (a : Nat) (s : State), a < sramBytes ∧ (¬(s.flag MEM_SCRUB 0 = true ∧ s.asleep = false ∧ s.sys.bootStage = 7 ∧
      s.power.mode ≠ Mode.off))) ∧
    (∃ (a : Nat) (s : State) (n : Nat), a < sramBytes ∧ s.flag MEM_SCRUB 0 = true ∧ s.asleep = false ∧
      s.sys.bootStage = 7 ∧ s.power.mode ≠ Mode.off ∧ n < 32) ∧
    (∃ (a : Nat) (s : State) (h : Nat), a < sramBytes ∧ s.flag MEM_SCRUB 0 = true ∧ s.asleep = false ∧
      s.sys.bootStage = 7 ∧ s.power.mode ≠ Mode.off ∧ h < 2 ^ 24 ∧ handleIndex h < lget 0 s.bpm.counts (handleComb h)) ∧
    (∃ (s : State), (¬(s.dramRuns = true ∧ s.maintDue = true ∧ s.ticks = true ∧ s.tick.window = Window.guard))) ∧
    (∃ (s : State), s.dramRuns = true ∧ s.maintDue = true ∧ s.ticks = true ∧ s.tick.window = Window.guard) ∧
    (∃ (s : State) (code : Nat), (s.dramRuns = false ∨ code = s.mem.mr4)) :=
  ⟨⟨Path.pcie, 4194320, Encode.s8, by decide +kernel⟩,
   ⟨Path.pcie, 4194304, Clock.s2, 3, by decide +kernel⟩,
   ⟨0, Boot.badS, by decide +kernel⟩,
   ⟨0, Compose.s6, 4, by decide +kernel⟩,
   ⟨0, Decode.s6, 1, by decide +kernel⟩,
   ⟨State.reset, by decide +kernel⟩,
   ⟨Faults.s2, by decide +kernel⟩,
   ⟨State.reset, 2, by decide +kernel⟩⟩

theorem witness_MemoryUpkeep_2 :
    (∃ (s : State) (code : Nat), s.dramRuns = true ∧ code < 8 ∧ code ≠ s.mem.mr4) ∧
    (∃ (s : State), s.dramRuns = false) :=
  ⟨⟨Faults.s1, 1, by decide +kernel⟩,
   ⟨State.reset, by decide +kernel⟩⟩

theorem witness_FaultReportsByClass :
    (∃ (s : State) (r : Report), (reportReal r = false ∨ s.guardRuns r.block = false)) ∧
    (∃ (r : Report) (q : Report), reportCode r < reportCode q) ∧
    (∃ (s : State) (r : Report) (cause : Nat), reportReal r = true ∧ s.guardRuns r.block = true ∧
      r.pair = Pair.asserted cause true ∧ cause < 256 ∧ ((ownCodes.contains (256 * r.block + cause) = true ∨
      dramDataCodes.contains (256 * r.block + cause) = true ∧ s.mem.iecc = false ∨ (256 * r.block + cause) = 2053 ∧
      s.letsThrough r.unit r.addr = true) ∨ s.guard.asserted.contains (r.block, r.unit) = true)) ∧
    (∃ (s : State) (r : Report) (cause : Nat), reportReal r = true ∧ s.guardRuns r.block = true ∧
      r.pair = Pair.asserted cause true ∧ cause < 256 ∧ (¬(ownCodes.contains (256 * r.block + cause) = true ∨
      dramDataCodes.contains (256 * r.block + cause) = true ∧ s.mem.iecc = false ∨ (256 * r.block + cause) = 2053 ∧
      s.letsThrough r.unit r.addr = true)) ∧ s.guard.asserted.contains (r.block, r.unit) = false ∧
      (faultClass (256 * r.block + cause) = some FClass.i ∨ s.guard.safe = true)) ∧
    (∃ (s : State) (r : Report) (cause : Nat), reportReal r = true ∧ s.guardRuns r.block = true ∧
      r.pair = Pair.asserted cause true ∧ cause < 256 ∧ (¬(ownCodes.contains (256 * r.block + cause) = true ∨
      dramDataCodes.contains (256 * r.block + cause) = true ∧ s.mem.iecc = false ∨ (256 * r.block + cause) = 2053 ∧
      s.letsThrough r.unit r.addr = true)) ∧ s.guard.asserted.contains (r.block, r.unit) = false ∧
      faultClass (256 * r.block + cause) = some FClass.c ∧ s.guard.reaction = none ∧ s.guard.safe = false ∧
      s.lowPower = false ∧ s.namedChans (256 * r.block + cause) r.unit r.channels ≠ []) ∧
    (∃ (s : State) (r : Report) (cause : Nat) (k : UnitKind) (u : Nat), reportReal r = true ∧
      s.guardRuns r.block = true ∧ r.pair = Pair.asserted cause true ∧ cause < 256 ∧
      (¬(ownCodes.contains (256 * r.block + cause) = true ∨ dramDataCodes.contains (256 * r.block + cause) = true ∧
      s.mem.iecc = false ∨ (256 * r.block + cause) = 2053 ∧ s.letsThrough r.unit r.addr = true)) ∧
      s.guard.asserted.contains (r.block, r.unit) = false ∧ faultClass (256 * r.block + cause) = some FClass.e ∧
      s.guard.reaction = none ∧ s.guard.safe = false ∧ s.lowPower = false ∧
      reportUnit r (256 * r.block + cause) = some (k, u) ∧ s.isFenced k u = false ∧ (k = UnitKind.core →
      2 < s.healthyOf UnitKind.core)) ∧
    (∃ (s : State) (r : Report) (cause : Nat) (k : UnitKind) (u : Nat), reportReal r = true ∧
      s.guardRuns r.block = true ∧ r.pair = Pair.asserted cause true ∧ cause < 256 ∧
      (¬(ownCodes.contains (256 * r.block + cause) = true ∨ dramDataCodes.contains (256 * r.block + cause) = true ∧
      s.mem.iecc = false ∨ (256 * r.block + cause) = 2053 ∧ s.letsThrough r.unit r.addr = true)) ∧
      s.guard.asserted.contains (r.block, r.unit) = false ∧ faultClass (256 * r.block + cause) = some FClass.e ∧
      s.guard.reaction = none ∧ s.guard.safe = false ∧ s.lowPower = false ∧
      reportUnit r (256 * r.block + cause) = some (k, u) ∧ s.isFenced k u = false ∧ k = UnitKind.core ∧
      s.healthyOf UnitKind.core ≤ 2) ∧
    (∃ (s : State) (r : Report) (cause : Nat), reportReal r = true ∧ s.guardRuns r.block = true ∧
      r.pair = Pair.asserted cause true ∧ cause < 256 ∧ (¬(ownCodes.contains (256 * r.block + cause) = true ∨
      dramDataCodes.contains (256 * r.block + cause) = true ∧ s.mem.iecc = false ∨ (256 * r.block + cause) = 2053 ∧
      s.letsThrough r.unit r.addr = true)) ∧ s.guard.asserted.contains (r.block, r.unit) = false ∧
      faultClass (256 * r.block + cause) = some FClass.m ∧ s.guard.reaction = none ∧ s.guard.safe = false ∧
      s.lowPower = false ∧ s.overLimit = false) :=
  ⟨⟨State.reset, Faults.rep 8 300 .idle, by decide +kernel⟩,
   ⟨Faults.rep 1 1 .idle [3] (some .core), Faults.repK 47 0 (fun c => .asserted c true) (some .syn), by decide +kernel⟩,
   ⟨State.reset, Faults.repK 142 0 (fun c => .asserted c true) (some .syn), 1, by decide +kernel⟩,
   ⟨State.reset, Faults.repK 20 0 (fun c => .asserted c true) (some .syn), 1, by decide +kernel⟩,
   ⟨Cams.s13, Faults.repK 28 1 (fun c => .asserted c true) (some .pix), 3, by decide +kernel⟩,
   ⟨State.reset, Faults.repK 88 1 (fun c => .asserted c true) (some .pix), 1,
       Option.get (Option.map (fun p => p.1) (reportUnit (Faults.repK 88 1 (fun c => .asserted c true) (some .pix)) (256 * (Faults.repK 88 1 (fun c => .asserted c true) (some .pix)).block + (1)))) (by decide +kernel), Option.get (Option.map (fun p => p.2) (reportUnit (Faults.repK 88 1 (fun c => .asserted c true) (some .pix)) (256 * (Faults.repK 88 1 (fun c => .asserted c true) (some .pix)).block + (1)))) (by decide +kernel), by decide +kernel⟩,
   ⟨Faults.s4, Faults.repK 80 1 (fun c => .asserted c true) (some .pix), 1,
       Option.get (Option.map (fun p => p.1) (reportUnit (Faults.repK 80 1 (fun c => .asserted c true) (some .pix)) (256 * (Faults.repK 80 1 (fun c => .asserted c true) (some .pix)).block + (1)))) (by decide +kernel), Option.get (Option.map (fun p => p.2) (reportUnit (Faults.repK 80 1 (fun c => .asserted c true) (some .pix)) (256 * (Faults.repK 80 1 (fun c => .asserted c true) (some .pix)).block + (1)))) (by decide +kernel), by decide +kernel⟩,
   ⟨State.reset, Faults.repK 2 0 (fun c => .asserted c true) (some .syn), 4, by decide +kernel⟩⟩

theorem witness_FaultReportsByClass_2 :
    (∃ (s : State) (r : Report) (cause : Nat), reportReal r = true ∧ s.guardRuns r.block = true ∧
      r.pair = Pair.asserted cause true ∧ cause < 256 ∧ (¬(ownCodes.contains (256 * r.block + cause) = true ∨
      dramDataCodes.contains (256 * r.block + cause) = true ∧ s.mem.iecc = false ∨ (256 * r.block + cause) = 2053 ∧
      s.letsThrough r.unit r.addr = true)) ∧ s.guard.asserted.contains (r.block, r.unit) = false ∧
      faultClass (256 * r.block + cause) = some FClass.m ∧ s.guard.reaction = none ∧ s.guard.safe = false ∧
      s.lowPower = false ∧ s.overLimit = true) ∧
    (∃ (s : State) (r : Report) (cause : Nat), reportReal r = true ∧ s.guardRuns r.block = true ∧
      r.pair = Pair.asserted cause true ∧ cause < 256 ∧ (¬(ownCodes.contains (256 * r.block + cause) = true ∨
      dramDataCodes.contains (256 * r.block + cause) = true ∧ s.mem.iecc = false ∨ (256 * r.block + cause) = 2053 ∧
      s.letsThrough r.unit r.addr = true)) ∧ s.guard.asserted.contains (r.block, r.unit) = false ∧
      faultClass (256 * r.block + cause) = some FClass.m ∧ s.guard.safe = false ∧ s.lowPower = true) ∧
    (∃ (s : State) (r : Report) (cause : Nat) (x : Reaction), reportReal r = true ∧ s.guardRuns r.block = true ∧
      r.pair = Pair.asserted cause true ∧ cause < 256 ∧ (¬(ownCodes.contains (256 * r.block + cause) = true ∨
      dramDataCodes.contains (256 * r.block + cause) = true ∧ s.mem.iecc = false ∨ (256 * r.block + cause) = 2053 ∧
      s.letsThrough r.unit r.addr = true)) ∧ s.guard.asserted.contains (r.block, r.unit) = false ∧
      faultClass (256 * r.block + cause) = some FClass.m ∧ s.guard.reaction = some x ∧ (x.acting = FClass.c ∨
      x.acting = FClass.e) ∧ s.guard.safe = false ∧ s.lowPower = false ∧ s.overLimit = false) ∧
    (∃ (s : State) (r : Report) (cause : Nat), reportReal r = true ∧ s.guardRuns r.block = true ∧
      r.pair = Pair.asserted cause true ∧ cause < 256 ∧ (¬(ownCodes.contains (256 * r.block + cause) = true ∨
      dramDataCodes.contains (256 * r.block + cause) = true ∧ s.mem.iecc = false ∨ (256 * r.block + cause) = 2053 ∧
      s.letsThrough r.unit r.addr = true)) ∧ s.guard.asserted.contains (r.block, r.unit) = false ∧
      faultClass (256 * r.block + cause) = some FClass.s ∧ s.guard.safe = false) ∧
    (∃ (s : State) (r : Report), reportReal r = true ∧ s.guardRuns r.block = true ∧ r.pair = Pair.equalOnce) ∧
    (∃ (s : State) (r : Report), reportReal r = true ∧ s.guardRuns r.block = true ∧ r.pair = Pair.idle) ∧
    (∃ (s : State) (r : Report), reportReal r = true ∧ s.guardRuns r.block = true ∧ s.guard.asserted.contains (r.block,
      r.unit) = true ∧ (r.pair = Pair.equalTwice ∨ ∃ cause, r.pair = Pair.asserted cause false)) ∧
    (∃ (s : State) (r : Report) (k : UnitKind) (u : Nat), reportReal r = true ∧ s.guardRuns r.block = true ∧
      s.guard.asserted.contains (r.block, r.unit) = false ∧ s.guard.reaction = none ∧ s.guard.safe = false ∧
      s.lowPower = false ∧ s.overLimit = false ∧ reportUnit r 4354 = some (k, u) ∧ k ≠ UnitKind.core ∧
      s.isFenced k u = false ∧ (r.pair = Pair.equalTwice ∨ ∃ cause, r.pair = Pair.asserted cause false)) :=
  ⟨⟨Faults.s5, Faults.repK 118 0 (fun c => .asserted c true) (some .syn), 5, by decide +kernel⟩,
   ⟨Faults.s10, Faults.repK 63 0 (fun c => .asserted c true) (some .syn), 4, by decide +kernel⟩,
   ⟨Faults.s9, Faults.repK 62 1 (fun c => .asserted c true) (some .pix), 3,
       Option.get ((Faults.s9).guard.reaction) (by decide +kernel), by decide +kernel⟩,
   ⟨State.reset, Faults.repK 120 1 (fun c => .asserted c true) (some .pix), 7, by decide +kernel⟩,
   ⟨State.reset, Faults.rep 3 0 .equalOnce [] (some .core), by decide +kernel⟩,
   ⟨State.reset, Faults.rep 22 1 .idle [3] (some .pix), by decide +kernel⟩,
   ⟨Faults.s7, Faults.rep 1 0 .equalTwice [] (some .syn), by decide +kernel, by decide +kernel, by decide +kernel,
       .inl (by decide +kernel)⟩,
   ⟨State.reset, Faults.rep 8 1 (.asserted 3 false) [3] (some .pix),
       Option.get (Option.map (fun p => p.1) (reportUnit (Faults.rep 8 1 (.asserted 3 false) [3] (some .pix)) 4354)) (by decide +kernel), Option.get (Option.map (fun p => p.2) (reportUnit (Faults.rep 8 1 (.asserted 3 false) [3] (some .pix)) 4354)) (by decide +kernel), by decide +kernel, by decide +kernel, by decide +kernel, by decide +kernel, by decide +kernel, by decide +kernel, by decide +kernel, by decide +kernel, by decide +kernel, by decide +kernel, .inr ⟨3, by decide +kernel⟩⟩⟩

theorem witness_FaultReportsByClass_3 :
    ∃ (s : State) (r : Report), reportReal r = true ∧ s.guardRuns r.block = true ∧ s.guard.asserted.contains (r.block,
      r.unit) = false ∧ s.guard.reaction = none ∧ s.guard.safe = false ∧ s.lowPower = false ∧ s.overLimit = false ∧
      reportUnit r 4354 = none ∧ (r.pair = Pair.equalTwice ∨ ∃ cause, r.pair = Pair.asserted cause false) :=
  ⟨State.reset, Faults.rep 5 1 (.asserted 3 false) [3] (some .syn), by decide +kernel, by decide +kernel,
      by decide +kernel, by decide +kernel, by decide +kernel, by decide +kernel, by decide +kernel, by decide +kernel,
      .inr ⟨3, by decide +kernel⟩⟩

theorem witness_GuardRecovers :
    (∃ (s : State) (x : Reaction), s.guard.restarting = true ∧ s.guard.reaction = some x ∧ x.acting.num ≤ 4) ∧
    (∃ (s : State) (x : Reaction), s.guard.restarting = true ∧ s.guard.reaction = some x ∧ s.guard.safe = false) ∧
    (∃ (s : State) (k : UnitKind) (u : Nat), u < unitCount k ∧ (¬(s.isFenced k u = true ∧
      s.guard.returning.contains (k, u) = false ∧ s.guard.safe = false ∧ s.guard.restarting = false ∧ s.asleep = false ∧ s.sys.bootStage = 7))) ∧
    (∃ (s : State) (k : UnitKind) (u : Nat) (passed : Bool) (digestOk : Bool) (readBackOk : Bool), u < unitCount k ∧
      s.isFenced k u = true ∧ s.guard.returning.contains (k, u) = false ∧ s.guard.safe = false ∧
      s.guard.restarting = false ∧ s.asleep = false ∧ s.sys.bootStage = 7 ∧ passed = true ∧ (k = UnitKind.syn →
      digestOk = true ∧ readBackOk = true)) ∧
    (∃ (s : State) (k : UnitKind) (u : Nat) (passed : Bool) (digestOk : Bool) (readBackOk : Bool), u < unitCount k ∧
      s.isFenced k u = true ∧ s.guard.returning.contains (k, u) = false ∧ s.guard.safe = false ∧
      s.guard.restarting = false ∧ s.asleep = false ∧ s.sys.bootStage = 7 ∧ (¬(passed = true ∧ (k = UnitKind.syn →
      digestOk = true ∧ readBackOk = true)))) :=
  ⟨⟨Faults.s3, Option.get ((Faults.s3).guard.reaction) (by decide +kernel), by decide +kernel⟩,
   ⟨Faults.s3, Option.get ((Faults.s3).guard.reaction) (by decide +kernel), by decide +kernel⟩,
   ⟨State.reset, .core, 0, by decide +kernel⟩,
   ⟨Faults.fen, .syn, 1, true, true, true, by decide +kernel⟩,
   ⟨Faults.fen, .pix, 0, false, true, true, by decide +kernel⟩⟩

theorem witness_StartsAndLossOfSupply :
    (∃ (env : BootEnv), env.phaseFail = [] ∧ env.railFail ≠ 0) ∧
    (∃ (s : State), s.pwr.seqFailed = true) ∧
    (∃ (s : State), (s.power.mode = Mode.off ∨ s.power.mode = Mode.deepStandby ∨ s.pwr.pwrGood = false)) ∧
    (∃ (s : State), s.power.mode ≠ Mode.off ∧ s.power.mode ≠ Mode.deepStandby ∧ s.pwr.pwrGood = true) ∧
    (∃ (s : State), s.sys.resetLow = false) ∧
    (∃ (s : State), s.sys.resetLow = true) ∧
    (∃ (s : State), s.booting = false) ∧
    (∃ (s : State), s.booting = true ∧ 3 ≤ s.phasesLeft ∧ s.sys.bootStage = 6) :=
  ⟨⟨{ env0 with railFail := 2 }, by decide +kernel⟩,
   ⟨Boot.s2, by decide +kernel⟩,
   ⟨Boot.s4, by decide +kernel⟩,
   ⟨State.reset, by decide +kernel⟩,
   ⟨State.reset, by decide +kernel⟩,
   ⟨Boot.badS, by decide +kernel⟩,
   ⟨Boot.badS, by decide +kernel⟩,
   ⟨Boot.s1, by decide +kernel⟩⟩

theorem witness_StartsAndLossOfSupply_2 :
    (∃ (s : State) (k : Nat), s.booting = true ∧ 3 ≤ s.phasesLeft ∧ s.sys.bootStage ≠ 6 ∧ s.goodSlot = some k ∧
      s.sys.wipePending = none) ∧
    (∃ (s : State), s.booting = true ∧ s.sys.bootStage = 6 ∧ s.phasesLeft < 3) ∧
    (∃ (s : State), s.power.mode = Mode.off ∧ s.pwr.seqFailed = false) ∧
    (∃ (s : State), (s.power.mode ≠ Mode.off ∨ s.pwr.seqFailed = true)) :=
  ⟨⟨State.reset, Option.get ((State.reset).goodSlot) (by decide +kernel), by decide +kernel⟩,
   ⟨Boot.s3, by decide +kernel⟩,
   ⟨Boot.s4, by decide +kernel⟩,
   ⟨State.reset, by decide +kernel⟩⟩

theorem witness_SupplyRailsAct :
    (∃ (s : State), (s.power.mode = Mode.off ∨ s.pwr.inputOpen = true)) ∧
    (∃ (s : State) (ms : Nat), s.power.mode ≠ Mode.off ∧ s.pwr.inputOpen = false ∧ s.pwr.clamps = [] ∧
      s.clock.ps < 2 ^ 73 ∧ ms < 10 ^ 6 ∧ ms ≤ 100) ∧
    (∃ (s : State) (ms : Nat), s.power.mode ≠ Mode.off ∧ s.pwr.inputOpen = false ∧ s.pwr.clamps = [] ∧
      s.clock.ps < 2 ^ 73 ∧ ms < 10 ^ 6 ∧ 100 < ms) ∧
    (∃ (s : State), s.powered = false) ∧
    (∃ (s : State), s.powered = true ∧ s.causeLive 4870 = true) ∧
    (∃ (s : State), s.powered = true ∧ s.causeLive 4870 = false) ∧
    (∃ (s : State) (n : Nat), s.powered = true ∧ n ≠ 1) ∧
    (∃ (s : State) (rail : Nat), s.powered = true ∧ 1 ≤ rail ∧ rail ≤ 5) :=
  ⟨⟨Boot.s4, by decide +kernel⟩,
   ⟨State.reset, 0, by decide +kernel⟩,
   ⟨State.reset, 999999, by decide +kernel⟩,
   ⟨Boot.s4, by decide +kernel⟩,
   ⟨Supply.s1, by decide +kernel⟩,
   ⟨State.reset, by decide +kernel⟩,
   ⟨State.reset, 4, by decide +kernel⟩,
   ⟨State.reset, 5, by decide +kernel⟩⟩

theorem witness_SupplyRailsAct_2 :
    (∃ (s : State) (n : Nat), n < 2 ∧ s.auxOn n = false) ∧
    (∃ (s : State) (n : Nat), n < 2 ∧ s.auxOn n = true) ∧
    (∃ (s : State) (n : Nat), n < 2 ∧ s.pwr.auxOvl.contains n = true) ∧
    (∃ (s : State) (n : Nat), n < 2 ∧ s.pwr.auxOvl.contains n = false) :=
  ⟨⟨Boot.s4, 1, by decide +kernel⟩,
   ⟨State.reset, 1, by decide +kernel⟩,
   ⟨Supply.st_auxOn, 1, by decide +kernel⟩,
   ⟨State.reset, 1, by decide +kernel⟩⟩

theorem witness_CoreRegulatorActs :
    (∃ (s : State), s.coreRail = false) ∧
    (∃ (s : State) (p : Nat) (x : Phase), s.coreRail = true ∧ p < 5 ∧ s.pwr.phases[p]? = some x ∧ x.state ≠ 0) ∧
    (∃ (s : State) (p : Nat) (x : Phase), s.coreRail = true ∧ p < 5 ∧ s.pwr.phases[p]? = some x ∧ s.phasesLeft = 4 ∧
      x.state = 0) ∧
    (∃ (s : State) (p : Nat) (x : Phase), s.coreRail = true ∧ p < 5 ∧ s.pwr.phases[p]? = some x ∧ s.phasesLeft = 3 ∧
      x.state = 0 ∧ s.guard.safe = false ∧ s.causeLive 4868 = false) ∧
    (∃ (s : State) (p : Nat) (x : Phase), s.coreRail = true ∧ p < 5 ∧ s.pwr.phases[p]? = some x ∧ (¬(s.ticks = true ∧
      s.power.mode = Mode.run ∧ s.tick.window = Window.guard) ∨ s.pwr.spare = 7)) ∧
    (∃ (s : State) (p : Nat) (x : Phase), s.coreRail = true ∧ p < 5 ∧ s.pwr.phases[p]? = some x ∧ s.phasesLeft = 5 ∧
      s.pwr.spare = p ∧ x.isShed = false ∧ s.ticks = true ∧ s.power.mode = Mode.run ∧ s.tick.window = Window.guard) ∧
    (∃ (s : State) (p : Nat) (x : Phase) (r : PhaseSense), s.coreRail = true ∧ p < 5 ∧ s.pwr.phases[p]? = some x ∧
      r.phase = p ∧ x.state = 0 ∧ r.atRail = false ∧ s.pwr.senseLost = false ∧ x.distrust = false ∧
      (s.pwr.phases.any fun x => x.distrust) = false ∧ Machine.dist r.sense r.model ≤ 700 ∧
      Machine.dist r.sense r.share ≤ 700) ∧
    (∃ (s : State) (p : Nat) (x : Phase) (r : PhaseSense), s.coreRail = true ∧ p < 5 ∧ s.pwr.phases[p]? = some x ∧
      r.phase = p ∧ x.state = 0 ∧ r.atRail = false ∧ s.pwr.senseLost = false ∧ x.distrust = false ∧
      (s.pwr.phases.any fun x => x.distrust) = false ∧ 1750 < Machine.dist r.sense r.model ∧
      1750 < Machine.dist r.sense r.share ∧ x.fails = 2 ∧ s.phasesLeft = 5) :=
  ⟨⟨Boot.s4, by decide +kernel⟩,
   ⟨State.reset, 4, Option.get ((State.reset).pwr.phases[(4)]?) (by decide +kernel), by decide +kernel⟩,
   ⟨Stage.s1, 2, Option.get ((Stage.s1).pwr.phases[(2)]?) (by decide +kernel), by decide +kernel⟩,
   ⟨Stage.s2, 3, Option.get ((Stage.s2).pwr.phases[(3)]?) (by decide +kernel), by decide +kernel⟩,
   ⟨State.reset, 1, Option.get ((State.reset).pwr.phases[(1)]?) (by decide +kernel), by decide +kernel⟩,
   ⟨Faults.s2, (Faults.s2).pwr.spare, Option.get ((Faults.s2).pwr.phases[((Faults.s2).pwr.spare)]?) (by decide +kernel), by decide +kernel⟩,
   ⟨State.reset, (sense0 0 3000).phase, Option.get ((State.reset).pwr.phases[((sense0 0 3000).phase)]?) (by decide +kernel), sense0 0 3000, by decide +kernel⟩,
   ⟨Stage.s5, (failing).phase, Option.get ((Stage.s5).pwr.phases[((failing).phase)]?) (by decide +kernel), failing,
       by decide +kernel⟩⟩

theorem witness_CoreRegulatorActs_2 :
    (∃ (s : State) (a : Nat) (b : Nat) (x : Phase) (y : Phase), s.coreRail = true ∧ a < 5 ∧ b < 5 ∧ a ≠ b ∧
      s.pwr.phases[a]? = some x ∧ s.pwr.phases[b]? = some y ∧ (x.state ≠ 0 ∨ y.state ≠ 0 ∨ s.pwr.settled = false)) ∧
    (∃ (s : State) (a : Nat) (b : Nat) (x : Phase) (y : Phase), s.coreRail = true ∧ a < 5 ∧ b < 5 ∧ a ≠ b ∧
      s.pwr.phases[a]? = some x ∧ s.pwr.phases[b]? = some y ∧ x.state = 0 ∧ y.state = 0 ∧ s.pwr.settled = true) ∧
    (∃ (s : State), s.coreRail = true ∧ (s.pwr.throttle = true ∨ s.guard.safe = true)) ∧
    (∃ (s : State), s.coreRail = true ∧ s.pwr.throttle = false ∧ s.guard.safe = false) ∧
    (∃ (s : State) (tj : Int) (treg : Int), s.coreRail = true ∧ s.guard.safe = false ∧ tj < 125 ∧ treg < 130 ∧
      s.warnC ≤ max tj treg ∧ s.pwr.fallNs = none) ∧
    (∃ (s : State) (tj : Int) (treg : Int), s.coreRail = true ∧ s.guard.safe = false ∧ tj < 125 ∧ treg < 130 ∧
      s.warnC - 10 < max tj treg ∧ max tj treg < s.warnC) ∧
    (∃ (s : State) (tj : Int) (treg : Int) (t0 : Nat), s.coreRail = true ∧ s.guard.safe = false ∧ (125 ≤ tj ∨
      130 ≤ treg) ∧ s.pwr.hotNs = some t0 ∧ t0 ≤ s.pwr.readNs ∧ s.pwr.readNs < 2 ^ 62 ∧ s.clock.ps < 2 ^ 73 ∧
      s.causeLive 4872 = false) ∧
    (∃ (s : State), s.coreRail = true ∧ s.asleep = true) :=
  ⟨⟨Boot.s3, 2, 0, Option.get ((Boot.s3).pwr.phases[(2)]?) (by decide +kernel),
      Option.get ((Boot.s3).pwr.phases[(0)]?) (by decide +kernel), by decide +kernel⟩,
   ⟨State.reset, 1, 0, Option.get ((State.reset).pwr.phases[(1)]?) (by decide +kernel),
       Option.get ((State.reset).pwr.phases[(0)]?) (by decide +kernel), by decide +kernel⟩,
   ⟨Faults.s8, by decide +kernel⟩,
   ⟨State.reset, by decide +kernel⟩,
   ⟨State.reset, 124, 125, by decide +kernel⟩,
   ⟨State.reset, 85, 105, by decide +kernel⟩,
   ⟨Stage.s4, 125, 7, Option.get ((Stage.s4).pwr.hotNs) (by decide +kernel), by decide +kernel⟩,
   ⟨Modes.q1, by decide +kernel⟩⟩

theorem witness_CoreRegulatorActs_3 :
    ∃ (s : State) (m : MeterSample), s.coreRail = true ∧ s.asleep = false ∧ (∀ p ∈ m.cmpNj, p.1 < 3) :=
  ⟨State.reset, Stage.m0, by decide +kernel⟩

theorem witness_ClocksLockAndFail :
    (∃ (s : State), (s.coreRail = false ∨ s.causeLive 5127 = true)) ∧
    (∃ (s : State), s.coreRail = true ∧ s.causeLive 5127 = false ∧ s.guard.safe = false) ∧
    (∃ (s : State) (i : Nat) (x : Synth) (y : Synth), i < 2 ∧ s.clk.synths[i]? = some x ∧
      s.clk.synths[1 - i]? = some y ∧ (s.coreRail = false ∨ x.state ≠ 4)) ∧
    (∃ (s : State) (i : Nat) (x : Synth) (y : Synth), i < 2 ∧ s.clk.synths[i]? = some x ∧
      s.clk.synths[1 - i]? = some y ∧ s.coreRail = true ∧ x.state = 4 ∧ i = s.clk.active ∧ s.clk.standby = true ∧
      y.state = 4) ∧
    (∃ (s : State) (i : Nat) (x : Synth) (y : Synth), i < 2 ∧ s.clk.synths[i]? = some x ∧
      s.clk.synths[1 - i]? = some y ∧ s.coreRail = true ∧ x.state = 4 ∧ i = s.clk.active ∧ s.clk.standby = false ∧
      s.guard.safe = false) ∧
    (∃ (s : State) (i : Nat) (x : Synth) (y : Synth), i < 2 ∧ s.clk.synths[i]? = some x ∧
      s.clk.synths[1 - i]? = some y ∧ s.coreRail = true ∧ x.state = 4 ∧ i ≠ s.clk.active ∧ y.state = 4) ∧
    (∃ (s : State) (i : Nat) (x : Synth) (y : Synth), i < 2 ∧ s.clk.synths[i]? = some x ∧
      s.clk.synths[1 - i]? = some y ∧ (s.coreRail = false ∨ x.state ≠ 5 ∨ s.clock.refFailed = true)) ∧
    (∃ (s : State) (i : Nat) (x : Synth) (y : Synth), i < 2 ∧ s.clk.synths[i]? = some x ∧
      s.clk.synths[1 - i]? = some y ∧ s.coreRail = true ∧ x.state = 5 ∧ s.clock.refFailed = false) :=
  ⟨⟨Boot.s4, by decide +kernel⟩,
   ⟨State.reset, by decide +kernel⟩,
   ⟨State.reset, 1, Option.get ((State.reset).clk.synths[(1)]?) (by decide +kernel),
       Option.get ((State.reset).clk.synths[1 - (1)]?) (by decide +kernel), by decide +kernel⟩,
   ⟨Clock.s1, (Clock.s1).clk.active, Option.get ((Clock.s1).clk.synths[((Clock.s1).clk.active)]?) (by decide +kernel),
       Option.get ((Clock.s1).clk.synths[1 - ((Clock.s1).clk.active)]?) (by decide +kernel), by decide +kernel⟩,
   ⟨Clock.s2, (Clock.s2).clk.active, Option.get ((Clock.s2).clk.synths[((Clock.s2).clk.active)]?) (by decide +kernel),
       Option.get ((Clock.s2).clk.synths[1 - ((Clock.s2).clk.active)]?) (by decide +kernel), by decide +kernel⟩,
   ⟨Clock.s1, 1, Option.get ((Clock.s1).clk.synths[(1)]?) (by decide +kernel),
       Option.get ((Clock.s1).clk.synths[1 - (1)]?) (by decide +kernel), by decide +kernel⟩,
   ⟨State.reset, 1, Option.get ((State.reset).clk.synths[(1)]?) (by decide +kernel),
       Option.get ((State.reset).clk.synths[1 - (1)]?) (by decide +kernel), by decide +kernel⟩,
   ⟨Clock.s3, 0, Option.get ((Clock.s3).clk.synths[(0)]?) (by decide +kernel),
       Option.get ((Clock.s3).clk.synths[1 - (0)]?) (by decide +kernel), by decide +kernel⟩⟩

theorem witness_ClocksLockAndFail_2 :
    (∃ (s : State) (i : Nat) (x : Synth) (y : Synth), i < 2 ∧ s.clk.synths[i]? = some x ∧
      s.clk.synths[1 - i]? = some y ∧ (x.state ≠ 4 ∨ i = s.clk.active)) ∧
    (∃ (s : State) (i : Nat) (x : Synth), i < 6 ∧ s.clk.synths[i]? = some x ∧ (x.tuning = false ∨
      s.clock.refFailed = true)) ∧
    (∃ (s : State) (i : Nat) (x : Synth), i < 6 ∧ s.clk.synths[i]? = some x ∧ x.tuning = true ∧
      s.clock.refFailed = false ∧ 2 ≤ i) ∧
    (∃ (s : State), (s.pwr.keeperOn = false ∨ s.clock.oscFailed = true)) ∧
    (∃ (s : State), s.pwr.keeperOn = true ∧ s.clock.oscFailed = false ∧ s.power.trans = Transition.none ∧
      s.power.mode = Mode.run) ∧
    (∃ (s : State), s.pwr.keeperOn = true ∧ s.clock.oscFailed = false ∧ s.power.trans = Transition.none ∧
      s.power.mode = Mode.retain ∧ s.power.armed = true ∧ s.power.latched = []) ∧
    (∃ (m : Modulator) (k : Nat), k < 2 ^ 24 ∧ m.acc1 < 2 ^ 24 ∧ m.acc2 < 2 ^ 24 ∧ m.acc3 < 2 ^ 24 ∧ m.c2 ≤ 1 ∧
      m.c3 ≤ 1 ∧ m.c3' ≤ 1) :=
  ⟨⟨State.reset, 0, Option.get ((State.reset).clk.synths[(0)]?) (by decide +kernel),
      Option.get ((State.reset).clk.synths[1 - (0)]?) (by decide +kernel), by decide +kernel⟩,
   ⟨State.reset, 0, Option.get ((State.reset).clk.synths[(0)]?) (by decide +kernel), by decide +kernel⟩,
   ⟨Clock.s4, 2, Option.get ((Clock.s4).clk.synths[(2)]?) (by decide +kernel), by decide +kernel⟩,
   ⟨Clock.s8, by decide +kernel⟩,
   ⟨State.reset, by decide +kernel⟩,
   ⟨Modes.ret, by decide +kernel⟩,
   ⟨⟨0,0,0,0,0,0,1⟩, 6, by decide +kernel⟩⟩

theorem witness_FieldIoPulsesAndStamps :
    (∃ (s : State) (n : Nat) (x : Fout), n < 4 ∧ s.fio.outs[n]? = some x ∧ (¬(x.set.mode = 3 ∧ s.fio.stopped = false ∧
      s.fio.safeLevels = false ∧ s.tick.stopped = false ∧ (s.tick.number.toNat - x.since) % atLeast1 x.set.div = 0 ∧
      x.lastPulse ≠ some s.tick.number.toNat))) ∧
    (∃ (s : State) (n : Nat) (x : Fout), n < 4 ∧ s.fio.outs[n]? = some x ∧ x.set.mode = 3 ∧ s.fio.stopped = false ∧
      s.fio.safeLevels = false ∧ s.tick.stopped = false ∧ (s.tick.number.toNat - x.since) % atLeast1 x.set.div = 0 ∧
      x.lastPulse ≠ some s.tick.number.toNat) ∧
    (∃ (s : State) (n : Nat) (x : Fout), n < 4 ∧ s.fio.outs[n]? = some x ∧ x.pulsing = false) ∧
    (∃ (s : State) (n : Nat) (x : Fout), n < 4 ∧ s.fio.outs[n]? = some x ∧ x.pulsing = true) ∧
    (∃ (s : State) (n : Nat) (x : Fout) (on : Bool), n < 4 ∧ s.fio.outs[n]? = some x ∧ (¬(s.fio.present = true ∧
      s.foutPowered = true ∧ x.ol = false ∧ s.foutOn n = on ∧
      s.flag FIO_OUT_CFG (if on = true then 2 else 3) n = true))) ∧
    (∃ (s : State) (n : Nat) (x : Fout) (on : Bool), n < 4 ∧ s.fio.outs[n]? = some x ∧ s.fio.present = true ∧
      s.foutPowered = true ∧ x.ol = false ∧ s.foutOn n = on ∧
      (s.flag FIO_OUT_CFG (if on = true then 2 else 3) n = true)) ∧
    (∃ (s : State) (n : Nat) (x : Fout), n < 4 ∧ s.fio.outs[n]? = some x ∧ s.foutOn n = true ∧ x.short = false) ∧
    (∃ (s : State) (n : Nat) (x : Fout), n < 4 ∧ s.fio.outs[n]? = some x ∧ (¬(x.short = true ∧ s.foutCmd n = true ∧
      s.fio.present = true ∧ s.foutPowered = true ∧ s.foutLocked n = false))) :=
  ⟨⟨State.reset, 1, Option.get ((State.reset).fio.outs[(1)]?) (by decide +kernel), by decide +kernel⟩,
   ⟨Field.noVf, 1, Option.get ((Field.noVf).fio.outs[(1)]?) (by decide +kernel), by decide +kernel⟩,
   ⟨State.reset, 3, Option.get ((State.reset).fio.outs[(3)]?) (by decide +kernel), by decide +kernel⟩,
   ⟨Field.s2, 1, Option.get ((Field.s2).fio.outs[(1)]?) (by decide +kernel), by decide +kernel⟩,
   ⟨State.reset, 2, Option.get ((State.reset).fio.outs[(2)]?) (by decide +kernel), true, by decide +kernel⟩,
   ⟨Field.s1, 3, Option.get ((Field.s1).fio.outs[(3)]?) (by decide +kernel), (Field.s1).foutOn (3), by decide +kernel⟩,
   ⟨Field.s1, 2, Option.get ((Field.s1).fio.outs[(2)]?) (by decide +kernel), by decide +kernel⟩,
   ⟨State.reset, 3, Option.get ((State.reset).fio.outs[(3)]?) (by decide +kernel), by decide +kernel⟩⟩

theorem witness_FieldIoPulsesAndStamps_2 :
    (∃ (s : State) (n : Nat) (x : Fout), n < 4 ∧ s.fio.outs[n]? = some x ∧ x.short = true ∧ s.foutCmd n = true ∧
      s.fio.present = true ∧ s.foutPowered = true ∧ s.foutLocked n = false) ∧
    (∃ (s : State) (n : Nat) (x : Fout), n < 4 ∧ s.fio.outs[n]? = some x ∧ (¬(s.fio.present = true ∧
      s.foutPowered = true ∧ s.foutOn n = false ∧ x.ext = false))) ∧
    (∃ (s : State) (n : Nat) (x : Fout), n < 4 ∧ s.fio.outs[n]? = some x ∧ s.fio.present = true ∧ s.foutPowered = true ∧ s.foutOn n = false ∧ x.ext = false ∧ (∀ a < 4, a ≠ n → (s.fout a).onTick ≠ some s.tick.number.toNat)) ∧
    (∃ (s : State) (n : Nat) (x : Fout), n < 4 ∧ s.fio.outs[n]? = some x ∧ x.ol = true) ∧
    (∃ (s : State) (n : Nat) (x : Fout), n < 4 ∧ s.fio.outs[n]? = some x ∧ x.ext = true) ∧
    (∃ (s : State) (n : Nat) (x : Fout) (mv : Nat), n < 4 ∧ s.fio.outs[n]? = some x ∧ (s.fio.present = true ∨
      mv < 16000 ∨ 34000 < mv)) ∧
    (∃ (s : State) (n : Nat) (x : Fout) (mv : Nat), n < 4 ∧ s.fio.outs[n]? = some x ∧ s.fio.present = false ∧
      16000 ≤ mv ∧ mv ≤ 34000) ∧
    (∃ (s : State) (n : Nat) (x : Fout) (y : Fin') (rising : Bool), n < 4 ∧ s.fio.outs[n]? = some x ∧
      s.fio.ins[n]? = some y ∧ (s.power.mode = Mode.off ∨ s.pwr.keeperOn = false ∨ s.asleep = false ∧
      y.level = rising)) :=
  ⟨⟨Field.s3, 1, Option.get ((Field.s3).fio.outs[(1)]?) (by decide +kernel), by decide +kernel⟩,
   ⟨State.reset, 2, Option.get ((State.reset).fio.outs[(2)]?) (by decide +kernel), by decide +kernel⟩,
   ⟨Field.s1, 1, Option.get ((Field.s1).fio.outs[(1)]?) (by decide +kernel), by decide +kernel⟩,
   ⟨Field.s4, 1, Option.get ((Field.s4).fio.outs[(1)]?) (by decide +kernel), by decide +kernel⟩,
   ⟨Field.s4, 1, Option.get ((Field.s4).fio.outs[(1)]?) (by decide +kernel), by decide +kernel⟩,
   ⟨State.reset, 1, Option.get ((State.reset).fio.outs[(1)]?) (by decide +kernel), 9000, by decide +kernel⟩,
   ⟨State.reset, 3, Option.get ((State.reset).fio.outs[(3)]?) (by decide +kernel), 24000, by decide +kernel⟩,
   ⟨State.reset, 2, Option.get ((State.reset).fio.outs[(2)]?) (by decide +kernel),
       Option.get ((State.reset).fio.ins[(2)]?) (by decide +kernel), false, by decide +kernel⟩⟩

theorem witness_FieldIoPulsesAndStamps_3 :
    ∃ (s : State) (n : Nat) (x : Fout) (y : Fin') (rising : Bool), n < 4 ∧ s.fio.outs[n]? = some x ∧
      s.fio.ins[n]? = some y ∧ s.power.mode ≠ Mode.off ∧ s.pwr.keeperOn = true ∧ s.asleep = false ∧ y.level ≠ rising ∧
      s.tick.src ≠ 2 ∧ (s.finWakes n rising = false ∨ s.power.armed = false) :=
  ⟨State.reset, 0, Option.get ((State.reset).fio.outs[(0)]?) (by decide +kernel),
      Option.get ((State.reset).fio.ins[(0)]?) (by decide +kernel), true, by decide +kernel⟩

theorem witness_HostJobsComplete_copy :
    ∃ (s : State) (id : Nat) (j : Job), s.postable j = true ∧ (s.takeable id 0x40 j ∨ s.takeable id 0x41 j) :=
  ⟨Jobs.s4, 0, Option.get (Jobs.s4.readyJob 0 0x40) (by decide +kernel), by decide +kernel⟩

theorem test_header_commit : headerOk (Jobs.commitS.slotByte Jobs.commitS.inactive) slotSize = true := by decide +kernel
theorem witness_HostJobsComplete_commit
    (k : Config.sha256 (imgBytes (Jobs.commitS.slotByte Jobs.commitS.inactive) 0x20 64) = Config.fwKeyHash)
    (g : Config.signatureOk (imgBytes (Jobs.commitS.slotByte Jobs.commitS.inactive) 0
      (0x80 + codeLen (Jobs.commitS.slotByte Jobs.commitS.inactive) +
        patchLen (Jobs.commitS.slotByte Jobs.commitS.inactive) + 64)) = true) :
    ∃ (s : State) (id : Nat) (j : Job), s.postable j = true ∧ s.takeable id 0x50 j ∧ s.stageBefore id = false ∧
      j.u8 0x1C = 1 ∧ s.stagedErr (s.slotByte s.inactive) slotSize = 0 :=
  ⟨Jobs.commitS, 0, Option.get (Jobs.commitS.readyJob 0 0x50) (by decide +kernel), by decide +kernel, by decide +kernel,
   by decide +kernel, by decide +kernel,
   staged_good Jobs.commitS _ slotSize test_header_commit (by decide +kernel) (by decide +kernel) k g⟩

end Sys2Proof.Tests
end

section
namespace Sys2Proof.Machine

theorem step_cons (s : State) (c : Instr) (rest : List Instr) :
    step { s with pending := c :: rest } = exec c { s with pending := rest } := rfl

/-! Bits of a field, read through `Nat.testBit`. -/

theorem bitAt_eq_testBit (v i : Nat) : bitAt v i = v.testBit i := by
  rw [bitAt, Nat.testBit_eq_decide_div_mod_eq, Nat.shiftRight_eq_div_pow, beq_eq_decide]

theorem testBit_bits (v hi lo i : Nat) : (bits v hi lo).testBit i = (decide (i < hi + 1 - lo) && v.testBit (lo + i)) := by
  rw [bits, Nat.testBit_mod_two_pow, Nat.testBit_shiftRight]

/-- Two numbers hold the same field exactly when they agree on its bits. -/
theorem bits_eq_iff {v w hi lo : Nat} : bits v hi lo = bits w hi lo ↔ ∀ k, lo ≤ k → k ≤ hi → v.testBit k = w.testBit k := by
  constructor
  · intro h k h1 h2
    have := congrArg (·.testBit (k - lo)) h
    simpa [testBit_bits, show k - lo < hi + 1 - lo by omega, show lo + (k - lo) = k by omega] using this
  · intro h
    refine Nat.eq_of_testBit_eq fun i => ?_
    rw [testBit_bits, testBit_bits]
    by_cases hi' : i < hi + 1 - lo
    · rw [h (lo + i) (by omega) (by omega)]
    · simp [hi']

/-- The low part, the new field and the high part of a word make up the word that `putBits` gives. -/
theorem putBits_eq (v hi lo x : Nat) (h : lo ≤ hi) :
    putBits v hi lo x = 2 ^ lo * (2 ^ (hi + 1 - lo) * (v >>> (hi + 1)) + x % 2 ^ (hi + 1 - lo)) + v % 2 ^ lo := by
  have e : (v >>> lo) >>> (hi + 1 - lo) = v >>> (hi + 1) := by rw [← Nat.shiftRight_add]; congr 1; omega
  have h1 := Nat.div_add_mod v (2 ^ lo)
  have h2 := Nat.div_add_mod (v >>> lo) (2 ^ (hi + 1 - lo))
  rw [← Nat.shiftRight_eq_div_pow] at h1
  rw [← Nat.shiftRight_eq_div_pow, e] at h2
  have hv : v = bits v hi lo * 2 ^ lo + (2 ^ lo * (2 ^ (hi + 1 - lo) * (v >>> (hi + 1))) + v % 2 ^ lo) := by
    rw [bits]; conv_lhs => rw [← h1, ← h2]
    ring
  have hs : v - bits v hi lo * 2 ^ lo = 2 ^ lo * (2 ^ (hi + 1 - lo) * (v >>> (hi + 1))) + v % 2 ^ lo :=
    Nat.sub_eq_of_eq_add' hv
  rw [putBits, hs]; ring

theorem testBit_putBits (v hi lo x k : Nat) (h : lo ≤ hi) :
    (putBits v hi lo x).testBit k = if lo ≤ k ∧ k ≤ hi then x.testBit (k - lo) else v.testBit k := by
  rw [putBits_eq v hi lo x h]
  rw [Nat.testBit_two_pow_mul_add _ (Nat.mod_lt _ (by positivity)), Nat.testBit_two_pow_mul_add _ (Nat.mod_lt _ (by positivity))]
  simp only [Nat.testBit_mod_two_pow, Nat.testBit_shiftRight]
  by_cases h1 : k < lo
  · simp [h1, Nat.not_le.mpr h1]
  · by_cases h2 : k ≤ hi
    · simp [h1, Nat.not_lt.mp h1, h2, show k - lo < hi + 1 - lo by omega]
    · simp [h1, h2, show ¬ k - lo < hi + 1 - lo by omega, show hi + 1 + (k - lo - (hi + 1 - lo)) = k by omega]


theorem bitAt_putBits (v hi lo x k : Nat) (h : lo ≤ hi) :
    bitAt (putBits v hi lo x) k = if lo ≤ k ∧ k ≤ hi then bitAt x (k - lo) else bitAt v k := by
  simp only [bitAt_eq_testBit, testBit_putBits _ _ _ _ _ h]

theorem bits_putBits_same (v hi lo x : Nat) (h : lo ≤ hi) : bits (putBits v hi lo (bits x hi lo)) hi lo = bits x hi lo :=
  bits_eq_iff.mpr fun k h1 h2 => by
    rw [testBit_putBits _ _ _ _ _ h, if_pos ⟨h1, h2⟩, testBit_bits, decide_eq_true (by omega), Bool.true_and,
      Nat.add_sub_cancel' h1]

theorem bits_putBits_apart (v hi lo x : Nat) (g : Field) (h : lo ≤ hi) (hg : g.hi < lo ∨ hi < g.lo) :
    bits (putBits v hi lo x) g.hi g.lo = bits v g.hi g.lo :=
  bits_eq_iff.mpr fun k h1 h2 => by rw [testBit_putBits _ _ _ _ _ h, if_neg (by omega)]

/-! A write, field by field (R577). -/

/-- The first field takes its bits of the value when the host can write it; the others follow. -/
theorem writeFields_cons (active : Bool) (v old : Nat) (f : Field) (fs : List Field) :
    writeFields active v old (f :: fs) =
      writeFields active v (if f.writable active then putBits old f.hi f.lo (bits v f.hi f.lo) else old) fs := by
  rw [writeFields]
  obtain ⟨hi, lo, access, reset⟩ := f
  cases access <;> cases active <;> rfl

/-- A bit outside every field keeps its value. -/
theorem bitAt_writeFields_outside (active : Bool) (v old : Nat) (fs : List Field) (hfs : ∀ f ∈ fs, f.lo ≤ f.hi) (k : Nat)
    (hk : ∀ f ∈ fs, k < f.lo ∨ f.hi < k) : bitAt (writeFields active v old fs) k = bitAt old k := by
  induction fs generalizing old with
  | nil => rfl
  | cons f fs ih =>
    rw [writeFields_cons, ih _ (fun g hg => hfs g (.tail _ hg)) (fun g hg => hk g (.tail _ hg))]
    have hf := hk f (.head _)
    split
    · rw [bitAt_putBits _ _ _ _ _ (hfs f (.head _)), if_neg (by omega)]
    · rfl

/-- A field apart from all that are written keeps its value. -/
theorem bits_writeFields_apart (active : Bool) (v old : Nat) (g : Field) (fs : List Field) (hfs : ∀ f ∈ fs, f.lo ≤ f.hi)
    (h : ∀ f ∈ fs, g.apart f) : bits (writeFields active v old fs) g.hi g.lo = bits old g.hi g.lo :=
  bits_eq_iff.mpr fun k h1 h2 => by
    simp only [← bitAt_eq_testBit]
    refine bitAt_writeFields_outside active v old fs hfs k fun f hf => ?_
    have := h f hf
    omega

/-- Each of disjoint fields takes the value's bits when the host can write it, and keeps its own otherwise. -/
theorem bits_writeFields (active : Bool) (v old : Nat) (fs : List Field) (hfs : ∀ f ∈ fs, f.lo ≤ f.hi)
    (hd : fs.Pairwise Field.apart) (f : Field) (hf : f ∈ fs) :
    bits (writeFields active v old fs) f.hi f.lo = if f.writable active then bits v f.hi f.lo else bits old f.hi f.lo := by
  induction fs generalizing old with
  | nil => cases hf
  | cons g fs ih =>
    obtain ⟨hg, hd⟩ := List.pairwise_cons.mp hd
    have hfs' : ∀ f ∈ fs, f.lo ≤ f.hi := fun f h => hfs f (.tail _ h)
    rw [writeFields_cons]
    cases hf with
    | head =>
      rw [bits_writeFields_apart active v _ f fs hfs' hg]
      split
      · exact bits_putBits_same _ _ _ _ (hfs f (.head _))
      · rfl
    | tail _ hf =>
      rw [ih _ hfs' hd hf]
      split
      · rfl
      · split
        · exact bits_putBits_apart _ _ _ _ f (hfs g (.head _)) (hg f hf).symm
        · rfl

/-! The counters of R18 and R19. -/

theorem bump32_count (v : Nat) : bump32 v % 2 ^ 31 = (v % 2 ^ 31 + 1) % 2 ^ 31 := by
  unfold bump32; split <;> omega

theorem bump32_ovf {v : Nat} (h : v < 2 ^ 32) : 2 ^ 31 ≤ bump32 v ↔ 2 ^ 31 ≤ v ∨ v % 2 ^ 31 = 2 ^ 31 - 1 := by
  unfold bump32; split <;> omega

theorem bump64_one_count (v : Nat) : bump64 v 1 % 2 ^ 63 = (v % 2 ^ 63 + 1) % 2 ^ 63 := by
  unfold bump64; split <;> omega

theorem bump64_one_ovf (v : Nat) : 2 ^ 63 ≤ bump64 v 1 ↔ 2 ^ 63 ≤ v ∨ v % 2 ^ 63 = 2 ^ 63 - 1 := by
  unfold bump64; split <;> omega

theorem bump64_lt (v k : Nat) : bump64 v k < 2 ^ 64 := by
  unfold bump64; split <;> omega

/-- A 64-bit counter holds, in its two words, the value that it was given. -/
theorem State.cnt64_setCnt64 (s : State) (d : RegDef) (i v : Nat) (h : v < 2 ^ 64) : (s.setCnt64 d i v).cnt64 d i = v := by
  simp only [State.cnt64, State.setCnt64, tget_tput_same]
  rw [tget_tput_other _ _ _ (by omega), tget_tput_same, BitVec.toNat_ofNat, BitVec.toNat_ofNat]
  omega

theorem State.setCnt64_other (s : State) (d : RegDef) (i v : Nat) (e : Word) (k : Nat) (h : k ≠ d.at i)
    (h4 : k ≠ d.at i + 4) : tget e (s.setCnt64 d i v).regs k = tget e s.regs k := by
  simp only [State.setCnt64]
  rw [tget_tput_default _ _ _ _ h4, tget_tput_default _ _ _ _ h]

theorem State.setCnt64_onlyIn (s : State) (d : RegDef) (i v : Nat) : OnlyIn [.regs] s (s.setCnt64 d i v) := by
  intro p; cases p <;> first | exact .inr rfl | exact .inl (by decide)

theorem State.wr_other (s : State) (d : RegDef) (i j v : Nat) (e : Word) (k : Nat) (h : k ≠ d.at i j) :
    tget e (s.wr d i j v).regs k = tget e s.regs k := tget_tput_default _ _ _ _ h

/-- Settles O1, by evaluation: the two cases of the queue are the two cases of `step`. -/
theorem stepRunsFront : Obligations.StepRunsFront := fun s c rest =>
  ⟨step_cons s c rest, ({ s with pending := [] } : State).idle, rfl, rfl, rfl, rfl, rfl,
    fun p => by cases p <;> first | exact .inr rfl | exact .inl (by decide)⟩

/-- Settles O6, by induction on the list of fields: a field apart from the others keeps what its own turn left. -/
theorem registerWriteActsByField : Obligations.RegisterWriteActsByField := fun active v old fs hfs hd =>
  ⟨bits_writeFields active v old fs hfs hd, bitAt_writeFields_outside active v old fs hfs⟩

/-- Settles O8, by arithmetic on COUNT and OVF as quotient and remainder. -/
theorem counterIncrementWraps : Obligations.CounterIncrementWraps := by
  intro s d i
  refine ⟨⟨?_, ?_, s.bump_onlyIn d i, fun e k => s.wr_other d i 0 _ e k⟩,
    ?_, ?_, s.bump64_onlyIn d i 1, fun e k => s.setCnt64_other d i _ e k⟩
  · rw [State.rd_bump_same]; exact bump32_count _
  · rw [State.rd_bump_same]; exact bump32_ovf (s.rd_lt d i 0)
  · rw [State.bump64, State.cnt64_setCnt64 _ _ _ _ (bump64_lt _ _)]; exact bump64_one_count _
  · rw [State.bump64, State.cnt64_setCnt64 _ _ _ _ (bump64_lt _ _)]; exact bump64_one_ovf _
end Sys2Proof.Machine
end

section
namespace Sys2Proof.Machine

/-! What reads and writes the buses of the two paths. -/

@[simp] theorem State.busRead_setRead_same (s : State) (p : Path) (v : Nat) : (s.setRead p v).busRead p = v := by
  cases p <;> rfl

theorem State.busRead_setRead_other (s : State) {p q : Path} (v : Nat) (h : q ≠ p) :
    (s.setRead p v).busRead q = s.busRead q := by
  cases p <;> cases q <;> first | rfl | exact absurd rfl h

@[simp] theorem State.latch_setRead (s : State) (p q : Path) (v : Nat) : (s.setRead p v).latch q = s.latch q := by
  cases p <;> cases q <;> rfl

@[simp] theorem State.busRead_setLatch (s : State) (p q : Path) (v : Nat) : (s.setLatch p v).busRead q = s.busRead q := by
  cases p <;> cases q <;> rfl

@[simp] theorem State.latch_setLatch_same (s : State) (p : Path) (v : Nat) : (s.setLatch p v).latch p = v := by
  cases p <;> rfl

theorem State.latch_setLatch_other (s : State) {p q : Path} (v : Nat) (h : q ≠ p) : (s.setLatch p v).latch q = s.latch q := by
  cases p <;> cases q <;> first | rfl | exact absurd rfl h

theorem State.setRead_onlyIn (s : State) (p : Path) (v : Nat) : OnlyIn [.bus] s (s.setRead p v) := by
  cases p <;> intro q <;> cases q <;> first | exact .inr rfl | exact .inl (by decide)

theorem State.setLatch_onlyIn (s : State) (p : Path) (v : Nat) : OnlyIn [.bus] s (s.setLatch p v) := by
  cases p <;> intro q <;> cases q <;> first | exact .inr rfl | exact .inl (by decide)

theorem State.setStaged_onlyIn (s : State) (p : Path) (x : Option (Nat × Nat)) : OnlyIn [.bus] s (s.setStaged p x) := by
  cases p <;> intro q <;> cases q <;> first | exact .inr rfl | exact .inl (by decide)

@[simp] theorem State.staged_setStaged_same (s : State) (p : Path) (x : Option (Nat × Nat)) :
    (s.setStaged p x).staged p = x := by
  cases p <;> rfl

theorem State.staged_setStaged_other (s : State) {p q : Path} (x : Option (Nat × Nat)) (h : q ≠ p) :
    (s.setStaged p x).staged q = s.staged q := by
  cases p <;> cases q <;> first | rfl | exact absurd rfl h

@[simp] theorem State.cnt64_setStaged (s : State) (p : Path) (x : Option (Nat × Nat)) (d : RegDef) (i : Nat) :
    (s.setStaged p x).cnt64 d i = s.cnt64 d i := by
  cases p <;> rfl

@[simp] theorem State.staged_setCnt64 (s : State) (p : Path) (d : RegDef) (i v : Nat) :
    (s.setCnt64 d i v).staged p = s.staged p := by
  cases p <;> rfl

/-! Offsets. -/

theorem isWindow_eq_false {off : Nat} : isWindow off = false ↔ isSramOffset off = false ∧ isMsixOffset off = false ∧
    isPbaOffset off = false ∧ ¬ (0xD0000 ≤ off ∧ off < 0xE0000) := by
  simp [isWindow, and_assoc]

/-! Accesses that do nothing (R9, R10). -/

/-- A write that is not of 32 bits at a multiple of 4 leaves the state alone (R9). -/
theorem State.write_of_unaligned (s : State) (p : Path) {off size : Nat} (v : Word) (inc : Bool)
    (h : size ≠ 4 ∨ off % 4 ≠ 0) : s.write p off size v inc = s := by
  unfold State.write
  split
  · next h4 => exact if_pos (.inr (h.resolve_left (absurd h4)))
  · rfl

/-- A write to an unimplemented offset leaves the state alone (R10). -/
theorem State.write_of_unimplemented (s : State) (p : Path) {off : Nat} (size : Nat) (v : Word) (inc : Bool)
    (hw : isWindow off = false) (h : findReg off = none) : s.write p off size v inc = s := by
  obtain ⟨hs, hm, -, -⟩ := isWindow_eq_false.mp hw
  simp [State.write, State.writeWord, hs, hm, h]

/-- Two writes that meet leave alone what neither of them changes. -/
theorem State.writeMeeting_of_ignored (s : State) (p : Path) (off size : Nat) (v : Word) (inc : Bool) (meets : Option Word)
    (h : ∀ p v inc, s.write p off size v inc = s) : s.writeMeeting p off size v inc meets = s := by
  cases meets with
  | none => exact h _ _ _
  | some w => cases p <;> simp [State.writeMeeting, h]

/-- What a 32-bit read returns, where the path reaches: the word at the offset; 0 elsewhere. -/
theorem State.readWord_snd (s : State) (p : Path) (off : Nat) :
    (s.readWord p off).2 = if s.reaches p off then s.wordAt p off else 0 := by
  unfold State.readWord
  split
  · dsimp only
    split
    · rfl
    · split <;> rfl
  · rfl

theorem State.wordAt_of_unaligned (s : State) (p : Path) {off : Nat} (h : off % 4 ≠ 0) : s.wordAt p off = 0 := by
  rw [State.wordAt, if_pos h]

/-- Outside the windows a word is that of the register at the offset. -/
theorem State.wordAt_register (s : State) (p : Path) {off : Nat} (ha : off % 4 = 0) (hw : isWindow off = false) :
    s.wordAt p off = match findReg off with
      | none => 0
      | some (d, i, j, w) => if isHigh d w then s.latch p else s.shown d i j w := by
  obtain ⟨hs, hm, hp, hl⟩ := isWindow_eq_false.mp hw
  simp only [State.wordAt, hs, hm, hp, hl, ha]
  rfl

/-- A read that is not of 32 bits at a multiple of 4 returns 0 (R9). -/
theorem State.read_of_unaligned (s : State) (p : Path) {off size : Nat} (h : size ≠ 4 ∨ off % 4 ≠ 0) :
    (s.read p off size).2 = 0 := by
  unfold State.read
  split
  · next h4 =>
    rw [State.readWord_snd, State.wordAt_of_unaligned s p (h.resolve_left (absurd h4)), ite_self]
  · rfl

/-- A read of an unimplemented offset returns 0 and leaves the state alone (R10). -/
theorem State.read_of_unimplemented (s : State) (p : Path) {off : Nat} (size : Nat) (hw : isWindow off = false)
    (h : findReg off = none) : s.read p off size = (s, 0) := by
  by_cases ha : off % 4 = 0
  · simp [State.read, State.readWord, State.wordAt_register s p ha hw, h]
  · simp [State.read, State.readWord, State.wordAt_of_unaligned s p ha, h]

/-- The answer of a read that is not one of 32 bits in the SRAM window. -/
theorem exec_counterLowWordRead (p : Path) {off size : Nat} (x : SramAccess) (s : State)
    (h : ¬ (size = 4 ∧ isSramOffset off = true)) : exec (.counterLowWordRead p ⟨off, size, x⟩) s =
      .next ((s.read p off size).1.setRead p (s.read p off size).2).settle := congrArg done (if_neg h)

/-- The answer of a 32-bit read in the SRAM window. -/
theorem exec_counterLowWordRead_sram (p : Path) {off size : Nat} (x : SramAccess) (s : State)
    (h : size = 4 ∧ isSramOffset off = true) : exec (.counterLowWordRead p ⟨off, size, x⟩) s =
      .next (s.windowRead p off x).settle := congrArg done (if_pos h)

theorem State.windowRead_of_unaligned (s : State) (p : Path) {off : Nat} (x : SramAccess) (h : off % 4 ≠ 0) :
    s.windowRead p off x = s.setRead p 0 := by
  rw [State.windowRead, if_pos (.inr h)]

/-- Settles O7: an access that is ignored leaves every branch of `write` and `read` early. -/
theorem badAccessesAreIgnored : Obligations.BadAccessesAreIgnored := by
  intro p off size v inc meets x s
  refine ⟨fun h => ⟨?_, ?_⟩, fun hw hn => ⟨?_, ?_⟩⟩
  · exact congrArg done (s.writeMeeting_of_ignored p off size v inc meets fun _ _ _ => State.write_of_unaligned _ _ _ _ h)
  · by_cases hs : size = 4 ∧ isSramOffset off = true
    · refine ⟨_, exec_counterLowWordRead_sram p x s hs, ?_⟩
      rw [State.windowRead_of_unaligned _ _ _ (h.resolve_left (absurd hs.1))]
      exact State.busRead_setRead_same s p 0
    · refine ⟨_, exec_counterLowWordRead p x s hs, ?_⟩
      rw [State.read_of_unaligned _ _ h]
      exact State.busRead_setRead_same _ p 0
  · exact congrArg done (s.writeMeeting_of_ignored p off size v inc meets fun _ _ _ =>
      State.write_of_unimplemented _ _ _ _ _ hw hn)
  · refine ⟨_, exec_counterLowWordRead p x s (by simp [(isWindow_eq_false.mp hw).1]), ?_⟩
    rw [State.read_of_unimplemented s p size hw hn]
    exact ⟨State.busRead_setRead_same s p 0, (s.setRead_onlyIn p 0).settle⟩

/-- After reset every register holds its reset value. -/
theorem State.rd_reset (d : RegDef) (i j : Nat) : State.reset.rd d i j = d.resetAt i j % 2 ^ 32 := BitVec.toNat_ofNat ..

/-- After reset a flag of a register that no part is programmed into shows its reset value. -/
theorem State.flag_reset {d : RegDef} (h : d.kind ≠ .factory) (b i j : Nat) :
    State.reset.flag d b i j = bitAt (d.resetNat % 2 ^ 32) b := by
  rw [State.flag, State.rd_reset, RegDef.resetAt, if_neg h]

theorem State.sqOn_reset (n : Nat) : State.reset.sqOn n = false := by
  rw [State.sqOn, State.flag_reset (by decide), show bitAt (HIF_SQ_CFG.resetNat % 2 ^ 32) 4 = false by decide, Bool.and_false]

theorem State.cqOn_reset (n : Nat) : State.reset.cqOn n = false := by
  rw [State.cqOn, State.flag_reset (by decide), show bitAt (HIF_CQ_CFG.resetNat % 2 ^ 32) 4 = false by decide, Bool.and_false]

/-- Settles O55: each part by evaluation, the registers by their reset values. -/
theorem stateAfterPowerOnReset : Obligations.StateAfterPowerOnReset :=
  have quiet : State.reset.pending = [] := rfl
  have registers : ∀ d i j, State.reset.rd d i j = d.resetAt i j % 2 ^ 32 := State.rd_reset
  have rings : ∀ n, State.reset.sqOn n = false ∧ State.reset.cqOn n = false := fun n => ⟨State.sqOn_reset n, State.cqOn_reset n⟩
  have channels : ∀ n, State.reset.chanExists n = false := fun _ => Bool.and_false _
  have sram : ∀ a, tget 0 State.reset.mem.sram a = 0 := fun _ => rfl
  have cells : Bpm.wf State.reset.bpm = true := by decide
  have pads : State.reset.Settled := rfl
  ⟨quiet, registers, rings, rfl, rfl, by decide, rfl, rfl, channels, fun _ => rfl, fun _ => rfl, fun _ => rfl, rfl,
   sram, Memory.wf_reset, cells, pads⟩

/-! Writes of a 64-bit counter (R22, R25). -/

/-- An aligned write that reaches a counter outside the windows is a write of that counter. -/
theorem State.writeWord_counter64 {s : State} {p : Path} {off : Nat} (v : Word) (inc : Bool) {d : RegDef} {i j w : Nat}
    (hr : s.reaches p off = true) (ha : off % 4 = 0) (hw : isWindow off = false) (hf : findReg off = some (d, i, j, w))
    (hk : d.kind = .counter64) : s.writeWord p off v inc = s.writeCounter p d i w v.toNat inc := by
  obtain ⟨hs, hm, -, -⟩ := isWindow_eq_false.mp hw
  simp [State.writeWord, hr, ha, hs, hm, hf, hk]

/-- A taken write of a counter outside the TCK and CLK blocks leaves CFG_ERR alone. -/
theorem State.noteRange_other (s : State) {off : Nat} (h4 : off >>> 15 ≠ 4) (h29 : off >>> 15 ≠ 29) :
    s.noteRange off false = s := by
  simp [State.noteRange, h4, h29]

theorem State.writeCounter_active {s : State} (p : Path) (d : RegDef) (i w v : Nat) (h : s.isActive = true) :
    s.writeCounter p d i w v false = s.bump SYS_LATE_WRITES := by
  simp [State.writeCounter, h]

theorem State.writeCounter_config {s : State} (p : Path) {d : RegDef} (i w v : Nat) (inc : Bool) (h : s.isActive = false)
    (hk : d.kind = .counter64) (h4 : d.off >>> 15 ≠ 4) (h29 : d.off >>> 15 ≠ 29) :
    s.writeCounter p d i w v inc = s.write64 p d i w v inc := by
  simp [State.writeCounter, h, hk, State.noteRange_other s h4 h29]

/-- The low word that a write of the high word takes with it: the word staged for the counter on the path, else the one
that the counter holds. -/
def State.lowFor (s : State) (p : Path) (d : RegDef) (i : Nat) : Nat :=
  if (s.staged p).any (fun x => x.1 == d.at i) then ((s.staged p).map (·.2)).getD 0 else s.cnt64 d i % 2 ^ 32

/-- A write of the high word loads the whole counter, and uses up the word staged for it. -/
theorem State.write64_high (s : State) (p : Path) (d : RegDef) (i v : Nat) (inc : Bool) :
    s.write64 p d i 1 v inc =
      (let u := s.setCnt64 d i (loadCount64 (s.cnt64 d i) (v * 2 ^ 32 + s.lowFor p d i) inc)
       if (s.staged p).any (fun x => x.1 == d.at i) then u.setStaged p none else u) := by
  unfold State.write64 State.lowFor
  rw [if_neg (by decide)]
  cases h : s.staged p with
  | none => simp
  | some x =>
    obtain ⟨a, low⟩ := x
    by_cases ha : a = d.at i <;> simp [ha]

theorem State.lowFor_lt {s : State} {p : Path} (h : ∀ a x, s.staged p = some (a, x) → x < 2 ^ 32) (d : RegDef) (i : Nat) :
    s.lowFor p d i < 2 ^ 32 := by
  unfold State.lowFor
  cases hp : s.staged p with
  | none => simpa using Nat.mod_lt _ (by decide)
  | some x =>
    have := h x.1 x.2 hp
    split
    · exact this
    · exact Nat.mod_lt _ (by decide)

theorem loadCount64_lt (old : Nat) {v : Nat} (inc : Bool) (h : v < 2 ^ 64) : loadCount64 old v inc < 2 ^ 64 := by
  unfold loadCount64; split <;> omega

/-- After a write of the high word the counter holds what it loaded. -/
theorem State.cnt64_write64_high {s : State} {p : Path} (hp : ∀ a x, s.staged p = some (a, x) → x < 2 ^ 32) (d : RegDef)
    (i : Nat) (v : Word) (inc : Bool) :
    (s.write64 p d i 1 v.toNat inc).cnt64 d i = loadCount64 (s.cnt64 d i) (v.toNat * 2 ^ 32 + s.lowFor p d i) inc := by
  have hlt : loadCount64 (s.cnt64 d i) (v.toNat * 2 ^ 32 + s.lowFor p d i) inc < 2 ^ 64 :=
    loadCount64_lt _ _ (by have := s.lowFor_lt hp d i; have := v.isLt; omega)
  rw [State.write64_high]
  dsimp only
  split
  · rw [State.cnt64_setStaged, State.cnt64_setCnt64 _ _ _ _ hlt]
  · exact State.cnt64_setCnt64 _ _ _ _ hlt

/-- A write of the high word changes the registers, and on its own path alone the staged word. -/
theorem State.write64_high_frame (s : State) (p : Path) (d : RegDef) (i v : Nat) (inc : Bool) :
    OnlyIn [.bus, .regs] s (s.write64 p d i 1 v inc) ∧
    (∀ q, q ≠ p → (s.write64 p d i 1 v inc).staged q = s.staged q) ∧
    (∀ x, s.staged p = some (d.at i, x) → (s.write64 p d i 1 v inc).staged p = none) := by
  rw [State.write64_high]
  dsimp only
  have hu := OnlyIn.mono (s.setCnt64_onlyIn d i (loadCount64 (s.cnt64 d i) (v * 2 ^ 32 + s.lowFor p d i) inc))
    (qs := [.bus, .regs]) (by decide)
  split
  · refine ⟨hu.trans (OnlyIn.mono (State.setStaged_onlyIn _ p none) (by decide)), fun q hq => ?_, fun _ _ => ?_⟩
    · rw [State.staged_setStaged_other _ _ hq, State.staged_setCnt64]
    · exact State.staged_setStaged_same ..
  · next hn =>
    exact ⟨hu, fun q _ => State.staged_setCnt64 .., fun x hx => absurd (by simp [hx]) hn⟩

/-! Reads of a 64-bit counter (R20, R21, R24). -/

/-- A read of a counter's low word returns it and latches the high word. -/
theorem State.readWord_counter64_low {s : State} {p : Path} {off : Nat} {d : RegDef} {i j : Nat}
    (hf : findReg off = some (d, i, j, 0)) (hk : d.kind = .counter64)
    (hm : (s.mirrors d.off i j).find? (fun x => x.1.off == d.off) = none)
    (hlow : isHigh d 0 = false)
    (hw : isWindow off = false) (ha : off % 4 = 0) (hr : s.reaches p off = true) :
    s.readWord p off = (s.setLatch p (tget 0 s.regs (d.at i + 4)).toNat, (tget 0 s.regs (d.at i)).toNat) := by
  have hv : s.wordAt p off = (tget 0 s.regs (d.at i)).toNat := by
    simp [State.wordAt_register s p ha hw, hf, hlow, State.shown, hm, hk]
  simp [State.readWord, hr, hf, State.highWord, hk, hv]

/-- A read of a counter's high word returns what the path latched. -/
theorem State.readWord_counter64_high {s : State} {p : Path} {off : Nat} {d : RegDef} {i j : Nat}
    (hf : findReg off = some (d, i, j, 1)) (hk : d.kind = .counter64) (hw : isWindow off = false) (ha : off % 4 = 0)
    (hr : s.reaches p off = true) : (s.readWord p off).2 = s.latch p := by
  rw [State.readWord_snd, if_pos hr, State.wordAt_register s p ha hw, hf]
  simp [isHigh, hk]

/-- A register that `findReg` finds is one of its block's list. -/
theorem findReg_mem {off : Nat} {d : RegDef} {x : Nat × Nat × Nat} (h : findReg off = some (d, x)) : d ∈ blockRegs off := by
  unfold findReg at h
  generalize blockRegs off = l at h
  induction l with
  | nil => cases h
  | cons e l ih =>
    unfold findIn at h
    split at h
    · cases h; exact .head _
    · exact .tail _ (ih h)

end Sys2Proof.Machine
end

section
namespace Sys2Proof.Machine

/-- No register of the map that is a 64-bit counter stands at the offset of the other two high words. -/
theorem isHigh_of_mem {off : Nat} {d : RegDef} (h : d ∈ blockRegs off) (hk : d.kind = .counter64) : isHigh d 0 = false := by
  have all : ∀ d ∈ blockRegs off, d.kind = .counter64 → isHigh d 0 = false := by
    unfold blockRegs
    split <;> decide
  exact all d h hk

/-- Settles O9, from the two words of a 64-bit counter as one number: `cnt64_write64_high` says what a load leaves. -/
theorem lowWordReadLatchesHigh : Obligations.LowWordReadLatchesHigh := by
  refine ⟨fun p q off x s d i hf hk hm hw ha hr => ?_, fun p off v inc s d i w hf hk h4 h29 hw ha hr => ⟨?_, ?_, ?_⟩⟩
  · have hread : s.read p off 4 = (s.setLatch p (tget 0 s.regs (d.at i + 4)).toNat, (tget 0 s.regs (d.at i)).toNat) :=
      State.readWord_counter64_low hf hk hm (isHigh_of_mem (findReg_mem hf) hk) hw ha hr
    refine ⟨_, exec_counterLowWordRead p x s (by simp [(isWindow_eq_false.mp hw).1]), ?_⟩
    rw [hread]
    generalize (tget 0 s.regs (d.at i + 4)).toNat = high, (tget 0 s.regs (d.at i)).toNat = low
    have hlatch : ((s.setLatch p high).setRead p low).latch p = high := by
      rw [State.latch_setRead, State.latch_setLatch_same]
    refine ⟨State.busRead_setRead_same .., hlatch, fun hq => ⟨?_, ?_⟩, ?_, fun u e k hf' hk' hw' hr' hl => ?_⟩
    · exact (State.latch_setRead ..).trans (State.latch_setLatch_other s _ hq)
    · exact (State.busRead_setRead_other _ _ hq).trans (State.busRead_setLatch ..)
    · exact ((s.setLatch_onlyIn p high).trans (State.setRead_onlyIn _ p low)).settle
    · rw [State.readWord_counter64_high hf' hk' hw' (by omega) hr', hl]
      exact hlatch
  · intro hact
    have write : s.writeWord p off v = s.bump SYS_LATE_WRITES := by
      rw [State.writeWord_counter64 v false hr ha hw hf hk, State.writeCounter_active p d i w _ hact]
    exact ⟨congrArg done write, congrArg done write⟩
  · rintro hcfg rfl
    have write : s.writeWord p off v = s.setStaged p (some (d.at i, v.toNat)) := by
      rw [State.writeWord_counter64 v false hr ha hw hf hk, State.writeCounter_config p i 0 _ _ hcfg hk h4 h29]
      rfl
    refine ⟨_, congrArg done write, State.staged_setStaged_same .., State.cnt64_setStaged .., ?_, fun q hq => ?_⟩
    · exact (s.setStaged_onlyIn p _).settle
    · exact State.staged_setStaged_other s _ hq
  · rintro hcfg rfl hst
    have write : s.writeWord p off v inc = s.write64 p d i 1 v.toNat inc := by
      rw [State.writeWord_counter64 v inc hr ha hw hf hk, State.writeCounter_config p i 1 _ _ hcfg hk h4 h29]
    obtain ⟨frame, others, used⟩ := s.write64_high_frame p d i v.toNat inc
    exact ⟨_, congrArg done write, frame.settle, others, used, State.cnt64_write64_high hst d i v inc⟩

end Sys2Proof.Machine
end

section
namespace Sys2Proof.Machine

/-! Frames in a chain: a command's state changes one operation after another, each within the parts that may change. -/

variable {ps qs : List Part} {r s t : State}

/-- One more change, within the parts that may change. -/
theorem OnlyIn.step (h : OnlyIn ps r s) (k : OnlyIn qs s t) (hq : ∀ p ∈ qs, p ∈ ps) : OnlyIn ps r t :=
  h.trans (k.mono hq)

theorem OnlyIn.sch {x : Sch} (h : OnlyIn ps r s) (hp : Part.sch ∈ ps) : OnlyIn ps r { s with sch := x } :=
  h.trans fun p => by cases p <;> first | exact .inr rfl | exact .inl hp

theorem OnlyIn.clk {x : Clk} (h : OnlyIn ps r s) (hp : Part.clk ∈ ps) : OnlyIn ps r { s with clk := x } :=
  h.trans fun p => by cases p <;> first | exact .inr rfl | exact .inl hp

theorem OnlyIn.guard {x : Guard} (h : OnlyIn ps r s) (hp : Part.guard ∈ ps) : OnlyIn ps r { s with guard := x } :=
  h.trans fun p => by cases p <;> first | exact .inr rfl | exact .inl hp

theorem OnlyIn.power {x : Power} (h : OnlyIn ps r s) (hp : Part.power ∈ ps) : OnlyIn ps r { s with power := x } :=
  h.trans fun p => by cases p <;> first | exact .inr rfl | exact .inl hp

/-- A fold that carries a list beside the state. -/
theorem OnlyIn.foldl_fst {α β : Type} (h : OnlyIn ps r s) {f : State × β → α → State × β} {b : β} {l : List α}
    (hf : ∀ acc a, OnlyIn ps acc.1 (f acc a).1) : OnlyIn ps r (l.foldl f (s, b)).1 := by
  induction l generalizing s b with
  | nil => exact h
  | cons a l ih => exact ih (s := (f (s, b) a).1) (b := (f (s, b) a).2) (h.trans (hf (s, b) a))

/-! The dispatcher: threads, cores, their counters and the trace. -/

/-- All that the dispatcher changes. -/
abbrev dispatcherParts : List Part := [.regs, .mem, .sch]

theorem State.setThread_onlyIn (s : State) (n : Nat) (t : Thread) : OnlyIn [.sch] s (s.setThread n t) := (OnlyIn.refl _ s).sch (by decide)

theorem State.setCore_onlyIn (s : State) (n : Nat) (x : Core) : OnlyIn [.sch] s (s.setCore n x) := (OnlyIn.refl _ s).sch (by decide)

theorem State.trace_onlyIn (s : State) (kind core slot rule : Nat) (prev : Option Nat) (before : Thread) :
    OnlyIn dispatcherParts s (s.trace kind core slot rule prev before) := by
  have lost : OnlyIn dispatcherParts s (s.bump SCH_TRACE_LOST_COUNT) := (OnlyIn.refl _ s).step (s.bump_onlyIn _ _) (by decide)
  have dram (a : Nat) (bs : List Byte) : OnlyIn dispatcherParts s (s.dramWrite a bs) :=
    (OnlyIn.refl _ s).step (s.dramWrite_onlyIn a bs) (by decide)
  have host (a : Nat) (bs : List Byte) : OnlyIn dispatcherParts s (s.hostWrite a bs) :=
    (OnlyIn.refl _ s).step (s.hostWrite_onlyIn a bs) (by decide)
  unfold State.trace
  exact .ite (OnlyIn.sch (.ite (.ite (dram _ _) lost) (.ite (host _ _) lost)) (by decide)) (.refl _ _)

theorem State.markReady_onlyIn (s : State) (n : Nat) : OnlyIn dispatcherParts s (s.markReady n) :=
  ((OnlyIn.refl _ s).step (s.setThread_onlyIn n _) (by decide)).step (State.trace_onlyIn _ _ _ _ _ _ _) (by decide)

theorem State.runOn_onlyIn (s : State) (n c : Nat) : OnlyIn dispatcherParts s (s.runOn n c) :=
  (((OnlyIn.refl _ s).step (State.setThread_onlyIn _ _ _) (by decide)).step (State.setCore_onlyIn _ _ _) (by decide)).step (State.bump64_onlyIn _ _ _ _) (by decide)

theorem State.dispatchOn_onlyIn (s : State) (c : Nat) : OnlyIn dispatcherParts s (s.dispatchOn c) := by
  unfold State.dispatchOn
  refine .ite ?_ (.refl _ _)
  split
  · exact .refl _ _
  · exact (s.runOn_onlyIn _ _).trans (State.trace_onlyIn _ _ _ _ _ _ _)

theorem State.dispatch_onlyIn (s : State) : OnlyIn dispatcherParts s s.dispatch :=
  .foldl _ (fun s c => s.dispatchOn_onlyIn c) _ _

theorem State.preempt_onlyIn (n : Nat) (s : State) (slot : Nat) : OnlyIn dispatcherParts s (State.preempt n s slot) := by
  induction n generalizing s slot with
  | zero => exact .refl _ _
  | succ n ih =>
    unfold State.preempt
    refine .ite ?_ (.refl _ _)
    split
    · exact .refl _ _
    · refine .ite ?_ (.refl _ _)
      have yields (v c : Nat) (t : Thread) (x : Core) : OnlyIn dispatcherParts s ((s.setThread v t).setCore c x) :=
        ((OnlyIn.refl _ s).step (s.setThread_onlyIn v t) (by decide)).step (State.setCore_onlyIn _ c x) (by decide)
      exact (((((yields _ _ _ _).trans (State.runOn_onlyIn _ _ _)).step (State.bump_onlyIn _ _ _) (by decide)).trans
        (State.trace_onlyIn _ _ _ _ _ _ _)).trans (State.dispatch_onlyIn _)).trans (ih _ _)

theorem State.seatThreads_onlyIn (s : State) (l : List Nat) : OnlyIn dispatcherParts s (s.seatThreads l) :=
  (OnlyIn.ite (.refl _ s) s.dispatch_onlyIn).trans (.foldl _ (fun s n => s.preempt_onlyIn 4 n) _ _)

theorem State.raiseFlags_onlyIn (flags : Word) (acc : State × List Nat) (n : Nat) :
    OnlyIn dispatcherParts acc.1 (State.raiseFlags flags acc n).1 := by
  obtain ⟨s, ready⟩ := acc
  have set := (OnlyIn.refl dispatcherParts s).step (s.setThread_onlyIn n { s.thread n with flags := (s.thread n).flags ||| flags }) (by decide)
  unfold State.raiseFlags
  dsimp only
  split
  · exact .refl _ _
  · split
    · exact set.trans (State.markReady_onlyIn _ _)
    · exact set

theorem State.signalThreads_onlyIn (s : State) (l : List Nat) (flags : Word) :
    OnlyIn dispatcherParts s (s.signalThreads l flags) :=
  ((OnlyIn.refl _ s).foldl_fst (State.raiseFlags_onlyIn flags)).trans (State.seatThreads_onlyIn _ _)

theorem State.hwFlag_onlyIn (s : State) (b : Nat) : OnlyIn dispatcherParts s (s.hwFlag b) := s.signalThreads_onlyIn _ _

theorem State.makeReady_onlyIn (s : State) (n : Nat) : OnlyIn dispatcherParts s (s.makeReady n) :=
  (s.markReady_onlyIn n).trans (State.seatThreads_onlyIn _ _)

end Sys2Proof.Machine
end

section
namespace Sys2Proof.Machine

/-- From `r` to `s` Keeper time stands, and no fault status bit is cleared. -/
structure Steady (r s : State) : Prop where
  clock : s.clock = r.clock
  status : ∀ b k, bitAt (r.fstat b) k = true → bitAt (s.fstat b) k = true

namespace Steady

variable {r s t : State}

theorem refl (s : State) : Steady s s := ⟨rfl, fun _ _ => id⟩

/-- A change that touches neither. -/
theorem upd (h : Steady r s) (hc : t.clock = s.clock) (hg : t.guard.status = s.guard.status) :
    Steady r t where
  clock := hc.trans h.clock
  status b k a := by rw [State.fstat, hg]; exact h.status b k a

/-- A change of any parts but the clock and the Guard, by name of the state before. -/
theorem rest {regs : Table Word} {bus : Bus} {sys : Sys} {engines : List SynEngine} {tick : Tick} {hif : Hif}
    {chans : Table Channel} {partners : Table Partner} {gens : Table Nat} {csi : List CsiPort} {usb : List UsbPort}
    {flows : Table Flow} {queues : Table Queue} {eth : List EthPort} {cmp : Cmp} {displays : List Display} {mem : Mem}
    {bpm : Bpm} {sch : Sch} {log : Log} {power : Power} {clk : Clk} {pwr : Pwr} {fio : Fio} {pads : Pads} {fresh : Nat}
    (h : Steady r s) : Steady r { s with
      regs := regs, bus := bus, sys := sys, engines := engines, tick := tick, hif := hif, chans := chans,
      partners := partners, gens := gens, csi := csi, usb := usb, flows := flows, queues := queues, eth := eth, cmp := cmp,
      displays := displays, mem := mem, bpm := bpm, sch := sch, log := log, power := power, clk := clk, pwr := pwr,
      fio := fio, pads := pads, fresh := fresh } := h.upd rfl rfl

theorem guard {x : Guard} (h : Steady r s) (hx : x.status = s.guard.status) : Steady r { s with guard := x } :=
  h.upd rfl hx

/-- A change within parts of which none is the clock or the Guard. -/
theorem of_onlyIn {ps : List Part} (h : Steady r s) (k : OnlyIn ps s t)
    (hc : Part.clock ∉ ps) (hg : Part.guard ∉ ps) : Steady r t :=
  h.upd ((k .clock).resolve_left hc) (congrArg Guard.status ((k .guard).resolve_left hg))

theorem ite {c : Prop} [Decidable c] (h : Steady r s) (k : Steady r t) : Steady r (if c then s else t) := by
  split <;> assumption

theorem foldl {α : Type} {f : State → α → State} {l : List α} (h : Steady r s)
    (hf : ∀ s a, Steady r s → Steady r (f s a)) : Steady r (l.foldl f s) := by
  induction l generalizing s with
  | nil => exact h
  | cons a l ih => exact ih (hf s a h)

/-- A fold that carries something beside the state. -/
theorem foldl_fst {α β : Type} {f : State × β → α → State × β} {b : β} {l : List α} (h : Steady r s)
    (hf : ∀ acc a, Steady r acc.1 → Steady r (f acc a).1) : Steady r (l.foldl f (s, b)).1 := by
  induction l generalizing s b with
  | nil => exact h
  | cons a l ih => exact ih (s := (f (s, b) a).1) (b := (f (s, b) a).2) (hf (s, b) a h)

/-! Registers, memories, buses. -/

theorem wr {d : RegDef} {i j v : Nat} (h : Steady r s) : Steady r (s.wr d i j v) := h.upd rfl rfl
theorem bump {d : RegDef} {i : Nat} (h : Steady r s) : Steady r (s.bump d i) := h.wr
theorem bump64 {d : RegDef} {i k : Nat} (h : Steady r s) : Steady r (s.bump64 d i k) := h.upd rfl rfl
theorem hostWrite {a : Nat} {bs : List Byte} (h : Steady r s) : Steady r (s.hostWrite a bs) := h.upd rfl rfl
theorem putEntry {x : RingAt} {pi : Nat} {e : List Byte} (h : Steady r s) : Steady r (s.putEntry x pi e).1 := h.hostWrite
theorem freshen (h : Steady r s) : Steady r s.freshen := h.upd rfl rfl
theorem signal {v : Nat} (h : Steady r s) : Steady r (s.signal v) := h.of_onlyIn (s.signal_onlyIn v) (by decide) (by decide)
theorem flushMsi (h : Steady r s) : Steady r s.flushMsi := h.of_onlyIn s.flushMsi_onlyIn (by decide) (by decide)

/-! The dispatcher. -/

theorem setThread {n : Nat} {x : Thread} (h : Steady r s) : Steady r (s.setThread n x) := h.upd rfl rfl
theorem setCore {n : Nat} {x : Core} (h : Steady r s) : Steady r (s.setCore n x) := h.upd rfl rfl
theorem trace {a b c d : Nat} {e : Option Nat} {f : Thread} (h : Steady r s) : Steady r (s.trace a b c d e f) :=
  h.of_onlyIn (s.trace_onlyIn a b c d e f) (by decide) (by decide)
theorem markReady {n : Nat} (h : Steady r s) : Steady r (s.markReady n) := h.of_onlyIn (s.markReady_onlyIn n) (by decide) (by decide)
theorem makeReady {n : Nat} (h : Steady r s) : Steady r (s.makeReady n) := h.of_onlyIn (s.makeReady_onlyIn n) (by decide) (by decide)
theorem dispatch (h : Steady r s) : Steady r s.dispatch := h.of_onlyIn s.dispatch_onlyIn (by decide) (by decide)
theorem seatThreads {l : List Nat} (h : Steady r s) : Steady r (s.seatThreads l) := h.of_onlyIn (s.seatThreads_onlyIn l) (by decide) (by decide)
theorem hwFlag {b : Nat} (h : Steady r s) : Steady r (s.hwFlag b) := h.of_onlyIn (s.hwFlag_onlyIn b) (by decide) (by decide)

/-! The trouble log, the events and the status bits. -/

theorem logFault {c : Nat} {a b : FClass} {i : FaultInfo} (h : Steady r s) : Steady r (s.logFault c a b i) :=
  h.of_onlyIn (s.logFault_onlyIn c a b i) (by decide) (by decide)
theorem logMerged {c l : Nat} {a b : FClass} {i : FaultInfo} (h : Steady r s) : Steady r (s.logMerged c a b i l) :=
  h.bump.logFault

end Steady

/-- Raising a code sets its status bit and leaves every other. -/
theorem State.bitAt_setStatus (s : State) (code b k : Nat) : bitAt ((s.setStatus code).fstat b) k =
    (bitAt (s.fstat b) k || decide (b = code / 256 ∧ k = code % 256 - 1)) := by
  simp only [State.setStatus, State.fstat, tmod, tget_tput, bitAt_eq_testBit]
  split
  · next h => subst h; simp [Nat.testBit_two_pow, eq_comm]
  · next h => simp [h]

namespace Steady

variable {r s t : State}

theorem setStatus {c : Nat} (h : Steady r s) : Steady r (s.setStatus c) where
  clock := h.clock
  status b k a := by rw [State.bitAt_setStatus, h.status b k a, Bool.true_or]

theorem present {c n : Nat} (h : Steady r s) : Steady r (s.present c n) := h.upd rfl rfl
theorem raiseI {c : Nat} {i : FaultInfo} (h : Steady r s) : Steady r (s.raiseI c i) := h.setStatus.logFault
theorem raiseCond {c : Nat} {i : FaultInfo} (h : Steady r s) : Steady r (s.raiseCond c i) := h.raiseI.present

/-! Counters of threads, which a completion counts down. -/

theorem countDown {acc : State × List Nat} {n : Nat} (h : Steady r acc.1) : Steady r (State.countDown acc n).1 := by
  obtain ⟨s, ready⟩ := acc
  unfold State.countDown
  dsimp only
  split
  · exact h
  · split
    · split
      · exact Steady.raiseI (Steady.bump h)
      · exact Steady.setThread h
    · split
      · exact (Steady.setThread h).markReady
      · exact Steady.setThread h

theorem decThreads {l : List Nat} (h : Steady r s) : Steady r (s.decThreads l) :=
  (h.foldl_fst fun _ _ h => h.countDown).seatThreads
theorem decBound {b : Bound} (h : Steady r s) : Steady r (s.decBound b) := h.decThreads

/-! Cells and jobs. -/

theorem returnCell {c : Nat} (h : Steady r s) : Steady r (s.returnCell c) := h.of_onlyIn (s.returnCell_onlyIn c) (by decide) (by decide)
theorem returnCells {l : List Nat} (h : Steady r s) : Steady r (s.returnCells l) := h.of_onlyIn (s.returnCells_onlyIn l) (by decide) (by decide)
theorem dueTags {l : List Nat} (h : Steady r s) : Steady r (s.dueTags l) := h.upd rfl rfl
theorem dropJob {n : Nat} (h : Steady r s) : Steady r (s.dropJob n) :=
  (h.returnCells (l := ((s.job? n).map (·.cells)).getD [])).upd rfl rfl
theorem modJob {n : Nat} {f : Job → Job} (h : Steady r s) : Steady r (s.modJob n f) := h.upd rfl rfl
theorem freeJobCells {n st : Nat} (h : Steady r s) : Steady r (s.freeJobCells n st) := (h.ite h.returnCells).modJob
theorem setCq {n : Nat} {q : Cq} (h : Steady r s) : Steady r (s.setCq n q) := h.upd rfl rfl
theorem setChan {n : Nat} {c : Channel} (h : Steady r s) : Steady r (s.setChan n c) := h.upd rfl rfl
theorem modChan {n : Nat} {f : Channel → Channel} (h : Steady r s) : Steady r (s.modChan n f) := h.setChan

theorem noteRecord {c : Cpl} {pi : Nat} (h : Steady r s) : Steady r (s.noteRecord c pi) := by
  unfold State.noteRecord
  split
  · dsimp only
    split
    · exact h
    · split
      · exact h
      · exact h.upd rfl rfl
  · exact h

theorem writeCpl {n : Nat} {c : Cpl} (h : Steady r s) : Steady r (s.writeCpl n c) :=
  have written := ((h.putEntry (x := s.cqAt n)).bump64.decBound.noteRecord).setCq
  written.signal.ite written

theorem postCpl {n : Nat} {c : Cpl} {rsv : Bool} (h : Steady r s) : Steady r (s.postCpl n c rsv).1 := by
  generalize hp : s.postCpl n c rsv = p
  unfold State.postCpl at hp
  split at hp
  · exact hp ▸ h
  · split at hp
    · exact hp ▸ h.bump
    · extract_lets q kept at hp
      have hkept : Steady r kept := h.setCq.ite h
      split at hp
      · exact hp ▸ hkept
      · exact hp ▸ hkept.writeCpl

theorem postJob {j : Job} {c : Cpl} (h : Steady r s) : Steady r (s.postJob j c) := by
  have posted := h.postCpl (n := j.cq) (c := c) (rsv := j.reserved)
  unfold State.postJob
  split
  · exact h.modJob
  · split
    · next e => rw [e] at posted; exact posted.dropJob
    · next e => rw [e] at posted; exact posted.dropJob
    · next e =>
      rw [e] at posted
      split
      · exact posted.bump.dropJob
      · exact posted.modJob
      · exact posted.modJob

theorem countCpl {st : Nat} (h : Steady r s) : Steady r (s.countCpl st) := by
  unfold State.countCpl
  split
  · exact h.bump
  · exact h.bump
  · exact h.bump
  · exact h.bump
  · exact h

theorem leaveEngines {n : Nat} (h : Steady r s) : Steady r (s.leaveEngines n) := h.upd rfl rfl

theorem endJob {n : Nat} {e : End} (h : Steady r s) : Steady r (s.endJob n e) := by
  unfold State.endJob
  split
  · exact h
  · dsimp only
    split
    · exact h.freeJobCells
    · exact h.freeJobCells.countCpl.postJob
    · exact h.freeJobCells.countCpl.postJob
    · exact h.freeJobCells.leaveEngines.countCpl.decBound.postJob

theorem finish {n d x : Nat} (h : Steady r s) : Steady r (s.finish n d x) := h.endJob

/-! Exports, engines and the compositor. -/

theorem exportNow {n : Nat} (h : Steady r s) : Steady r (s.exportNow n) := by
  unfold State.exportNow
  split
  · exact h
  · split
    · exact h.modChan
    · exact ((h.hostWrite.ite h).modChan).finish

theorem exportDue {n : Nat} (h : Steady r s) : Steady r (s.exportDue n) := h.exportNow.ite h
theorem exportBefore {j : Job} (h : Steady r s) : Steady r (s.exportBefore j) := h.exportDue.ite h

theorem takeSegment {e n : Nat} (h : Steady r s) : Steady r (s.takeSegment e n) := by
  unfold State.takeSegment
  split
  · exact h.exportBefore.modJob.rest
  · exact h.modJob.rest

theorem feedEngine {e : Nat} (h : Steady r s) : Steady r (s.feedEngine e) := by
  unfold State.feedEngine
  dsimp only
  split
  · exact h
  · split
    · exact h.upd rfl rfl
    · split
      · exact h
      · exact h.takeSegment

theorem progress (h : Steady r s) : Steady r s.progress := h.upd rfl rfl
theorem stall (h : Steady r s) : Steady r s.stall := h.upd rfl rfl
theorem feedEngines (h : Steady r s) : Steady r s.feedEngines :=
  (h.progress.stall.foldl fun _ _ h => h.feedEngine).ite h

theorem modDisp {d : Nat} {f : Display → Display} (h : Steady r s) : Steady r (s.modDisp d f) := h.upd rfl rfl
theorem composeStart {d : Nat} (h : Steady r s) : Steady r (s.composeStart d) := h.modDisp

theorem startCompositor (h : Steady r s) : Steady r s.startCompositor := by
  have begun : Steady r { s with tick := { s.tick with cmpStarted := true } } := h.upd rfl rfl
  unfold State.startCompositor
  split
  · exact h
  · dsimp only
    split
    · exact begun
    · exact begun.composeStart

theorem maybeCompose (h : Steady r s) : Steady r s.maybeCompose := h.startCompositor.ite h

/-! What a reaction discards. -/

theorem setQueue {q : Nat} {x : Queue} (h : Steady r s) : Steady r (s.setQueue q x) := h.upd rfl rfl
theorem touchQueue {q : Nat} (h : Steady r s) : Steady r (s.touchQueue q) := h.setQueue
theorem dropPackets {n : Nat} (h : Steady r s) : Steady r (s.dropPackets n) := h.foldl fun _ _ h => h.touchQueue.setQueue

theorem countSegments {n : Nat} (h : Steady r s) : Steady r (s.countSegments n) := by
  unfold State.countSegments
  split
  · exact h
  · exact h.bump64.ite h

theorem discardJob {f n : Nat} (h : Steady r s) : Steady r (s.discardJob f n) := by
  unfold State.discardJob
  split
  · exact h
  · split
    · exact h
    · exact h.countSegments.endJob.dropPackets.modChan.ite h.countSegments.endJob.dropPackets

theorem dropUnit {n : Nat} (h : Steady r s) : Steady r (s.dropUnit n) := by
  unfold State.dropUnit
  split
  · exact h
  · dsimp only
    split
    · exact h.upd rfl rfl
    · exact h

theorem discardChan {f n : Nat} (h : Steady r s) : Steady r (s.discardChan f n) :=
  ((h.foldl fun _ _ h => h.discardJob).modChan.dropUnit.dueTags).ite h

theorem placeAgain {n : Nat} (h : Steady r s) : Steady r (s.placeAgain n) := by
  unfold State.placeAgain
  split
  · exact h.modJob.rest
  · exact h

theorem moveWork {u : Nat} (h : Steady r s) : Steady r (s.moveWork u) := h.foldl fun _ _ h => h.placeAgain

theorem discardE {k : UnitKind} {u c : Nat} {ids : List Nat} (h : Steady r s) : Steady r (s.discardE k u c ids) := by
  have discarded : Steady r (ids.foldl (fun s id => s.discardJob c id) s) := h.foldl fun _ _ h => h.discardJob
  cases k with
  | syn => exact discarded.dueTags.moveWork.feedEngines.maybeCompose
  | pix => exact discarded.dueTags.feedEngines.maybeCompose
  | enc => exact discarded.dueTags.feedEngines.maybeCompose
  | core => exact discarded.dueTags.feedEngines.maybeCompose

theorem stopCore {c n : Nat} (h : Steady r s) : Steady r (s.stopCore c n) := by
  unfold State.stopCore
  dsimp only
  split
  · exact h.setCore.trace
  · next t _ =>
    have traced {u : State} {x : Thread} (k : Steady r u) :
        Steady r (State.trace (if n = 0x0F01 then u.trace 5 c t 0 none x else u) 6 c t 0 none x) := (k.trace.ite k).trace
    exact (traced h.setCore.setThread).makeReady.ite (traced h.setCore.setThread).dispatch

theorem fence {k : UnitKind} {u c : Nat} (h : Steady r s) : Steady r (s.fence k u c) := by
  have fenced : Steady r { s with guard := { s.guard with fenced := s.guard.fenced ++ [(k, u, c)] } } := h.upd rfl rfl
  unfold State.fence
  split
  · exact h
  · cases k with
    | syn => exact fenced.present.rest.raiseCond.ite fenced.present.rest
    | pix => exact fenced.present.raiseCond.ite fenced.present
    | enc => exact fenced.present.raiseCond.ite fenced.present
    | core => exact fenced.present.stopCore

theorem actOn {c : Nat} {cls acting : FClass} {x : Targets} (h : Steady r s) : Steady r (s.actOn c cls x acting) := by
  unfold State.actOn
  split
  · exact h.ite (h.foldl fun _ _ h => h.discardChan).feedEngines.maybeCompose
  · split
    · exact h
    · exact h.fence.discardE
  · exact h

/-! A Class M restart. -/

theorem restartJob {c : Nat} {u : List Nat} {j : Job} (h : Steady r s) : Steady r (State.restartJob c u s j) := by
  unfold State.restartJob
  split
  · exact h.bump.dropJob.ite h
  · exact h.dropJob.ite h.endJob

theorem resetPath (h : Steady r s) : Steady r s.resetPath := h.upd rfl rfl

theorem startM {c : Nat} {u : List Nat} (h : Steady r s) : Steady r (s.startM c u) := by
  refine dueTags (foldl (resetPath (foldl ?_ fun _ _ h => h.restartJob)) fun _ _ h => h.returnCell)
  exact h.upd rfl rfl

/-! SAFE. -/

theorem setSynth {i : Nat} {x : Synth} (h : Steady r s) : Steady r (s.setSynth i x) := h.upd rfl rfl
theorem startTune {i n k p : Nat} (h : Steady r s) : Steady r (s.startTune i n k p) := h.setSynth
theorem lockSynth {i n b us : Nat} (h : Steady r s) : Steady r (s.lockSynth i n b us) :=
  h.ite (h.setSynth.ite h.setSynth)
theorem lockFree {i : Nat} (h : Steady r s) : Steady r (s.lockFree i) := h.lockSynth.freshen.freshen
theorem lockPlls (h : Steady r s) : Steady r s.lockPlls :=
  (h.startTune (i := 0)).startTune.startTune.lockFree.lockFree.lockFree.rest
theorem panelDown {d : Nat} (h : Steady r s) : Steady r (s.panelDown d) := h.modDisp

theorem enterSafe (h : Steady r s) : Steady r s.enterSafe := by
  have down : Steady r ((List.range 3).foldl (fun s d => s.panelDown d) (s.bump GRD_REACT_COUNT 4)) :=
    h.bump.foldl fun _ _ h => h.panelDown
  unfold State.enterSafe
  split
  · exact h
  · refine flushMsi (ite (lockPlls ?_) ?_)
    · exact down.upd rfl rfl
    · exact down.upd rfl rfl

theorem toSafe {l x : Nat} (h : Steady r s) : Steady r (s.toSafe l x) := (h.ite h.setStatus.present.logMerged).enterSafe

theorem setReaction {x : Reaction} (h : Steady r s) : Steady r (s.setReaction x) := h.upd rfl rfl

theorem react {c : Nat} {cls : FClass} {i : FaultInfo} {x : Targets} (h : Steady r s) : Steady r (s.react c cls i x) := by
  unfold State.react
  extract_lets eff old newM extra acting ids i first g a begun logged shown restarted
  have hbegun : Steady r begun := h.upd rfl rfl
  have hlogged : Steady r logged := by
    unfold logged
    split
    · exact hbegun.logFault.signal.hwFlag
    · exact h.setReaction.logMerged
  have hshown : Steady r shown := hlogged.ite hlogged.present
  have hrestarted : Steady r restarted := hshown.startM.ite hshown
  exact hshown.toSafe.ite hrestarted.actOn

/-- Raising a fault, with all that its reaction does, once its status bit is set. -/
theorem raise_of_setStatus {c : Nat} {i : FaultInfo} {x : Targets} (h : isFault c = true) (bit : Steady r (s.setStatus c)) :
    Steady r (s.raise c i x) := by
  unfold State.raise
  split
  · next hn => simp [isFault, hn] at h
  · exact bit.logFault.ite ((bit.logFault.present.ite bit.logFault).ite (bit.logFault.ite
      ((bit.logFault.present.guard (by rfl)).ite bit.react)))

theorem raise {c : Nat} {i : FaultInfo} {x : Targets} (h : Steady r s) : Steady r (s.raise c i x) := by
  by_cases hc : isFault c = true
  · exact raise_of_setStatus hc h.setStatus
  · rw [isFault, Bool.not_eq_true, Option.isSome_eq_false_iff, Option.isNone_iff_eq_none] at hc
    simpa only [State.raise, hc] using h

end Steady
end Sys2Proof.Machine
end

section
namespace Sys2Proof.Machine

theorem State.writeReg_GRD_FSTAT (s : State) (p : Path) (i v : Nat) (found : Option Bool) :
    s.writeReg p GRD_FSTAT i 0 v found =
      (s.wr GRD_FSTAT i 0 (writeFields s.isActive v (s.rd GRD_FSTAT i) GRD_FSTAT.fields)).clearStatus (i + 1) v := by
  have hcfg : GRD_FSTAT.has .cfg = false := by decide
  have hsvc : GRD_FSTAT.has .svc = false := by decide
  have hw1c : GRD_FSTAT.has .w1c = true := by decide
  have hlate : s.countLate GRD_FSTAT (s.rd GRD_FSTAT i) v = s := by
    have hd : GRD_FSTAT.cfgDiffers (s.rd GRD_FSTAT i) v = false := rfl
    have ha : GRD_FSTAT.allCfg = false := by decide
    simp [State.countLate, hd, ha]
  have hrange : s.outOfRange GRD_FSTAT i v = false := rfl
  have hrows : s.rowsCut GRD_FSTAT v = false := rfl
  simp only [State.writeReg, hlate, hcfg, hsvc, hw1c, hrange, hrows]
  simp [State.writeW1c, show GRD_FSTAT.off ≠ SYS_CTL.off by decide, show GRD_FSTAT.off ≠ BPM_CTL.off by decide,
    show ¬ GRD_FSTAT.off >>> 15 = 30 by decide]

/-- The register map names GRD_FSTAT_b at its offset, aligned and outside the windows. -/
theorem findReg_GRD_FSTAT {i : Nat} (h : i < 22) : findReg (GRD_FSTAT.at i) = some (GRD_FSTAT, i, 0, 0) ∧
    GRD_FSTAT.at i % 4 = 0 ∧ isSramOffset (GRD_FSTAT.at i) = false ∧ isMsixOffset (GRD_FSTAT.at i) = false := by
  have all : ∀ i < 22, findReg (GRD_FSTAT.at i) = some (GRD_FSTAT, i, 0, 0) ∧
    GRD_FSTAT.at i % 4 = 0 ∧ isSramOffset (GRD_FSTAT.at i) = false ∧ isMsixOffset (GRD_FSTAT.at i) = false := by decide
  exact all i h

/-- A write of GRD_FSTAT_b clears the addressed bits. -/
theorem State.writeWord_GRD_FSTAT {s : State} {p : Path} {i : Nat} (h : i < 22) (hr : s.reaches p (GRD_FSTAT.at i) = true)
    (v : Word) : ∃ x, s.writeWord p (GRD_FSTAT.at i) v = (s.wr GRD_FSTAT i 0 x).clearStatus (i + 1) v.toNat := by
  obtain ⟨hf, ha, hs, hm⟩ := findReg_GRD_FSTAT h
  have hk : ¬ (GRD_FSTAT.kind = .counter ∨ GRD_FSTAT.kind = .counter64) := by decide
  refine ⟨writeFields s.isActive v.toNat (s.rd GRD_FSTAT i) GRD_FSTAT.fields, ?_⟩
  simp [State.writeWord, hr, ha, hs, hm, hf, hk, s.writeReg_GRD_FSTAT p i v.toNat none]

/-! Clearing (R411, R412). -/

theorem State.event_guard (s : State) (code source : Nat) (data : List Nat) : (s.event code source data).guard = s.guard :=
  (s.event_onlyIn code source data .guard).resolve_left (by decide)

theorem State.causeLive_congr {s t : State} (h : t.guard.live = s.guard.live) (code : Nat) :
    t.causeLive code = s.causeLive code := by
  rw [State.causeLive, h, State.causeLive]

/-- Clearing one bit leaves the causes that are present as they are, and the status of every other block. -/
theorem State.clearBit_frame (b : Nat) (s : State) (k : Nat) :
    OnlyIn [.regs, .guard, .log, .hif] s (State.clearBit b s k) ∧ (State.clearBit b s k).guard.live = s.guard.live ∧
    ∀ c, c ≠ b → (State.clearBit b s k).fstat c = s.fstat c := by
  unfold State.clearBit
  dsimp only
  split
  · split
    · exact ⟨OnlyIn.mono (s.bump_onlyIn _ 0) (by decide), rfl, fun _ _ => rfl⟩
    · have cleared : OnlyIn [.regs, .guard, .log, .hif] s { s with guard := { s.guard with
          status := tput 0 s.guard.status b (putBits (s.fstat b) k k 0) } } := (OnlyIn.refl _ s).guard (by decide)
      refine ⟨cleared.step (State.event_onlyIn _ _ _ _) (by decide), ?_, fun c hc => ?_⟩
      · rw [State.event_guard]
      · rw [State.fstat, State.event_guard]; exact tget_tput_other _ _ _ hc
  · exact ⟨.refl _ _, rfl, fun _ _ => rfl⟩

/-- The bit is cleared when its cause is gone; every other bit stays. -/
theorem State.bitAt_clearBit (b : Nat) (s : State) (k j : Nat) : bitAt ((State.clearBit b s k).fstat b) j =
    (bitAt (s.fstat b) j && !(decide (j = k) && !s.causeLive (b * 256 + k + 1))) := by
  unfold State.clearBit
  dsimp only
  split
  · next hb =>
    split
    · next hl => simp [hl, State.fstat]
    · next hl =>
      rw [State.fstat, State.event_guard]
      simp only [tget_tput_same, bitAt_putBits _ _ _ _ _ (Nat.le_refl k)]
      by_cases hj : j = k
      · subst hj; simp [hl, bitAt]
      · rw [if_neg (by omega)]; simp [hj]
  · next hb =>
    by_cases hj : j = k
    · subst hj; simp [hb]
    · simp [hj]

/-- Clearing the bits of a list. -/
theorem State.clearBits_frame (b : Nat) (l : List Nat) (s : State) :
    OnlyIn [.regs, .guard, .log, .hif] s (l.foldl (State.clearBit b) s) ∧
    (l.foldl (State.clearBit b) s).guard.live = s.guard.live ∧
    ∀ c, c ≠ b → (l.foldl (State.clearBit b) s).fstat c = s.fstat c := by
  induction l generalizing s with
  | nil => exact ⟨.refl _ _, rfl, fun _ _ => rfl⟩
  | cons k l ih =>
    obtain ⟨only, live, others⟩ := State.clearBit_frame b s k
    obtain ⟨only', live', others'⟩ := ih (State.clearBit b s k)
    exact ⟨only.trans only', live'.trans live, fun c hc => (others' c hc).trans (others c hc)⟩

theorem State.bitAt_clearBits (b : Nat) (l : List Nat) (s : State) (j : Nat) :
    bitAt ((l.foldl (State.clearBit b) s).fstat b) j =
      (bitAt (s.fstat b) j && !(decide (j ∈ l) && !s.causeLive (b * 256 + j + 1))) := by
  induction l generalizing s with
  | nil => simp
  | cons k l ih =>
    rw [List.foldl_cons, ih, State.bitAt_clearBit, State.causeLive_congr (State.clearBit_frame b s k).2.1]
    by_cases hj : j = k
    · subst hj; cases s.causeLive (b * 256 + j + 1) <;> simp
    · simp [hj]

theorem mem_setBits {v n k : Nat} : k ∈ setBits v n ↔ k < n ∧ bitAt v k = true := by simp [setBits]

theorem bitAt_mod {v n k : Nat} (h : k < n) : bitAt (v % 2 ^ n) k = bitAt v k := by
  rw [bitAt_eq_testBit, bitAt_eq_testBit, Nat.testBit_mod_two_pow, decide_eq_true h, Bool.true_and]

/-- What a clear leaves in the status of its block: each addressed bit whose cause is gone is cleared. -/
theorem State.bitAt_clearStatus (s : State) (b v : Nat) {k : Nat} (hk : k < 16) :
    bitAt ((s.clearStatus b v).fstat b) k = (bitAt (s.fstat b) k && !(bitAt v k && !s.causeLive (b * 256 + k + 1))) := by
  rw [State.clearStatus, State.bitAt_clearBits, show (65536 : Nat) = 2 ^ 16 from rfl]
  simp only [mem_setBits, bitAt_mod hk, hk, true_and, Bool.decide_eq_true]

/-! A fault raised in the same cycle. -/

/-- Raising a code of the tables sets its status bit, whatever its reaction does. -/
theorem State.raise_sets (s : State) {code : Nat} (h : isFault code = true) (i : FaultInfo) (x : Targets) :
    bitAt ((s.raise code i x).fstat (code / 256)) (code % 256 - 1) = true := by
  refine (Steady.raise_of_setStatus h (Steady.refl _)).status _ _ ?_
  simp [State.bitAt_setStatus]

/-- Raising the causes of a list leaves the status bit of each set. -/
theorem State.raiseNow_sets (b : Nat) (l : List Nat) (s : State) {k : Nat} (hk : k ∈ l) (h16 : k < 16)
    (hf : isFault (b * 256 + k + 1) = true) : bitAt ((l.foldl (State.raiseNow b) s).fstat b) k = true := by
  induction l generalizing s with
  | nil => cases hk
  | cons j l ih =>
    cases hk with
    | head =>
      have hset := s.raise_sets hf {} {}
      rw [show (b * 256 + k + 1) / 256 = b by omega, show (b * 256 + k + 1) % 256 - 1 = k by omega] at hset
      have keeps : Steady (s.raise (b * 256 + k + 1)) (l.foldl (State.raiseNow b) (s.raise (b * 256 + k + 1))) :=
        (Steady.refl _).foldl fun _ _ h => h.raise.ite h
      rw [List.foldl_cons, State.raiseNow, if_pos hf]
      exact keeps.status b k hset
    | tail _ hk => exact ih _ hk

/-! The log window (R415, R419). -/

/-- An offset of the log window names no register. -/
theorem findReg_logWindow {off : Nat} (h : off < 0x10000) : findReg (0xD0000 + off) = none := by
  have block : (0xD0000 + off) >>> 15 = 26 ∨ (0xD0000 + off) >>> 15 = 27 := by
    rw [Nat.shiftRight_eq_div_pow]; omega
  unfold findReg blockRegs
  rcases block with h | h <;> rw [h] <;> rfl

/-- A read in the log window returns the word of the entry and changes nothing. -/
theorem State.readWord_logWindow {s : State} {p : Path} {off : Nat} (h : off < 0x10000) (ha : off % 4 = 0)
    (hr : s.reaches p (0xD0000 + off) = true) :
    s.readWord p (0xD0000 + off) = (s, leAt (s.logAt (off / 32)).bytes (off % 32) 4) := by
  have hs : isSramOffset (0xD0000 + off) = false := by simp [isSramOffset]; omega
  have hm : isMsixOffset (0xD0000 + off) = false := by simp [isMsixOffset]; omega
  have hp : isPbaOffset (0xD0000 + off) = false := by simp [isPbaOffset]; omega
  have hw : s.wordAt p (0xD0000 + off) = leAt (s.logAt (off / 32)).bytes (off % 32) 4 := by
    rw [State.wordAt, if_neg (by omega)]
    simp only [hs, hm, hp, Bool.false_eq_true, if_false]
    rw [if_pos (by omega), Nat.add_sub_cancel_left]
  simp [State.readWord, hr, findReg_logWindow h, hw]

/-- A read where no register stands leaves the state alone. -/
theorem State.readWord_fst {s : State} (p : Path) {off : Nat} (h : findReg off = none) : (s.readWord p off).1 = s := by
  unfold State.readWord
  split
  · rw [h]
  · rfl

theorem mem_tput {α : Type} [DecidableEq α] {d : α} {t : Table α} {i : Nat} {v : α} {q : Nat × α} (h : q ∈ tput d t i v) :
    q = (i, v) ∨ q ∈ t := by
  induction t with
  | nil =>
    unfold tput at h
    split at h
    · cases h
    · exact .inl (List.mem_singleton.mp h)
  | cons p t ih =>
    obtain ⟨k, x⟩ := p
    have old {q : Nat × α} (h : q ∈ tdel ((k, x) :: t) i) : q ∈ (k, x) :: t := (List.mem_filter.mp h).1
    unfold tput at h
    split at h
    · split at h
      · exact .inr (old h)
      · exact List.mem_cons.mp h
    · split at h
      · split at h
        · exact .inr (.tail _ (List.mem_filter.mp h).1)
        · exact (List.mem_cons.mp h).imp id (.tail _)
      · rcases List.mem_cons.mp h with h | h
        · exact .inr (h ▸ .head _)
        · exact (ih h).imp id (.tail _)

/-- An entry goes over the oldest place of the log. -/
theorem State.addLog_entries {s : State} (e : LogEntry) (h : s.pwr.keeperOn = true) :
    (s.addLog e).log.entries = tput .zero s.log.entries (s.log.wr % 2048) e := by
  unfold State.addLog
  rw [if_pos h]
  dsimp only
  split <;> rfl

/-- Writing an entry leaves the log's settings. -/
theorem State.addLog_flag (s : State) (e : LogEntry) (b : Nat) :
    (s.addLog e).flag KPR_LOG_CTL b = s.flag KPR_LOG_CTL b := by
  unfold State.addLog
  dsimp only
  split
  · split
    · rfl
    · rw [State.flag, State.rd_bump_other _ _ _ _ _ _ (by decide)]; rfl
  · rfl

/-- An event that EVT_MASK does not select leaves the log alone. -/
theorem State.event_log {s : State} {code : Nat} (source : Nat) (data : List Nat)
    (h : s.flag KPR_LOG_CTL (code / 16) = false) : (s.event code source data).log = s.log := by
  have hl (e : Event) (he : e.code = code) : s.logEvent e = s := by simp [State.logEvent, he, h]
  unfold State.event
  dsimp only
  rw [hl _ rfl]

theorem State.repeated_eq_none {s : State} {code : Nat} (src addr : Nat) (h : ∀ q ∈ s.log.entries, q.2.code ≠ code) :
    s.repeated code src addr = none := by
  unfold State.repeated
  rw [Option.map_eq_none_iff, List.find?_eq_none]
  intro q hq
  simp [h q hq]

/-- A Class I fault that is not yet in the log gets an entry of its own, and no other when FAULT_RAISED is not logged. -/
theorem State.raiseI_entries {s : State} {code : Nat} (i : FaultInfo) (hk : s.pwr.keeperOn = true)
    (hf : s.flag KPR_LOG_CTL 1 = false) (hn : ∀ q ∈ s.log.entries, q.2.code ≠ code) : ∃ e : LogEntry, e.code = code ∧
    (s.raiseI code i).log.entries = tput .zero s.log.entries (s.log.wr % 2048) e := by
  generalize hu : (s.setStatus code).bump GRD_REACT_COUNT 0 = u
  have hlog : u.log = s.log := by rw [← hu]; rfl
  have hkeeper : u.pwr.keeperOn = true := by rw [← hu]; exact hk
  have hflag : u.flag KPR_LOG_CTL 1 = false := by
    rw [← hu, State.flag, State.rd_bump_other _ _ _ _ _ _ (by decide)]; exact hf
  have hrep : u.repeated code i.source i.addr = none := State.repeated_eq_none _ _ (hlog ▸ hn)
  rw [State.raiseI, State.logFault, if_pos rfl, hu]
  dsimp only
  rw [if_pos rfl, hrep]
  refine ⟨{ ktime := u.ktime, tick := u.tick32, code := code, source := i.source,
            cls := FClass.i.num + 8 * FClass.i.num + 64 * b2n i.merged, rep := 0, channel := i.channel, link := i.link,
            discarded := i.discarded, addr := i.addr }, rfl, ?_⟩
  dsimp only
  split
  · rw [State.addLog_entries _ hkeeper, hlog]
  · rw [State.event_log _ _ (by rw [State.addLog_flag]; exact hflag), State.addLog_entries _ hkeeper, hlog]

theorem State.loseEntry_of_lost {s : State} {k : Nat} (h : s.logAt k = .lost) : s.loseEntry k = s := if_pos h

theorem State.loseEntry_onlyIn (s : State) (k : Nat) : OnlyIn [.log, .guard, .hif, .regs] s (s.loseEntry k) := by
  have lost (l : Log) : OnlyIn [.log, .guard, .hif, .regs] s { s with log := l } := fun p => by
    cases p <;> first | exact .inr rfl | exact .inl (by decide)
  exact .ite (.refl _ _) ((lost _).step (State.raiseI_onlyIn _ _ _) (by decide))

/-- A lost entry is rewritten, and logged in the entry that is written next. -/
theorem State.loseEntry_entries {s : State} {k : Nat} (h : s.logAt k ≠ .lost) (hk : s.pwr.keeperOn = true)
    (hf : s.flag KPR_LOG_CTL 1 = false) (hn : ∀ q ∈ s.log.entries, q.2.code ≠ 0x1202) : ∃ e : LogEntry, e.code = 0x1202 ∧
    (s.loseEntry k).log.entries = tput .zero (tput .zero s.log.entries (k % 2048) .lost) (s.log.wr % 2048) e := by
  rw [State.loseEntry, if_neg h]
  refine State.raiseI_entries {} hk hf fun q hq => ?_
  rcases mem_tput hq with rfl | hq
  · exact (by decide : LogEntry.lost.code ≠ 0x1202)
  · exact hn q hq

theorem exec_logWindowRead {p : Path} {off : Nat} (bad : Bool) {s : State} (h : off < 0x10000)
    (hr : s.reaches p 0xD0000 = true) : ∃ v, exec (.logWindowRead p off bad) s =
      .next ((if bad then s.loseEntry (off / 32) else s).setRead p v).settle := by
  generalize hu : (if bad then s.loseEntry (off / 32) else s) = u
  refine ⟨(u.readWord p (0xD0000 + off)).2, (onUnit_lt s _ h).trans ?_⟩
  rw [State.readLogWindow, if_pos hr]
  dsimp only
  rw [hu, State.readWord_fst p (findReg_logWindow h)]

/-- What a clear of GRD_FSTAT_b answers, whatever is raised with it. -/
theorem exec_faultStatusClear {p : Path} {b : Nat} (v : Word) (raised : Nat) {s : State} (hb : 1 ≤ b) (hb' : b ≤ 0x16)
    (hr : s.reaches p (GRD_FSTAT.at (b - 1)) = true) : ∃ x, exec (.faultStatusClear p b v raised) s =
      .next ((setBits (raised % 65536) 16).foldl (State.raiseNow b) ((s.wr GRD_FSTAT (b - 1) 0 x).clearStatus b
        (v.toNat % 65536 - (v.toNat % 65536 &&& raised % 65536)))).settle := by
  have hblock : isBlock b = true := by simp [isBlock, hb, hb']
  obtain ⟨x, hx⟩ := State.writeWord_GRD_FSTAT (by omega) hr
    (BitVec.ofNat 32 (v.toNat % 65536 - (v.toNat % 65536 &&& raised % 65536)))
  refine ⟨x, (if_pos hblock).trans (congrArg (fun u => done (List.foldl _ u _)) (hx.trans ?_))⟩
  rw [Nat.sub_add_cancel hb, BitVec.toNat_ofNat, Nat.mod_eq_of_lt (by omega)]

/-- Settles O23: clearing goes bit by bit (`bitAt_clearStatus`), what is raised after it never clears a bit (`Steady`), and a lost
entry is rewritten before the fault's own entry is added. -/
theorem statusClearsAndLogReads : Obligations.StatusClearsAndLogReads := by
  refine ⟨fun p b v s hb hb' hr => ⟨?_, fun raised => ?_⟩, fun p off s hoff ha hr hr' => ⟨?_, ?_⟩⟩
  · obtain ⟨x, hx⟩ := exec_faultStatusClear v 0 hb hb' hr
    have hval : v.toNat % 65536 - (v.toNat % 65536 &&& 0 % 65536) = v.toNat % 65536 := by simp
    rw [hval] at hx
    obtain ⟨only, live, others⟩ := State.clearBits_frame b (setBits (v.toNat % 65536 % 65536) 16) (s.wr GRD_FSTAT (b - 1) 0 x)
    refine ⟨_, hx, fun k hk => ?_, others, live, ?_⟩
    · exact (State.bitAt_clearStatus _ b _ hk).trans (by
        rw [show (65536 : Nat) = 2 ^ 16 from rfl, bitAt_mod hk]; rfl)
    · exact (OnlyIn.mono (s.wr_onlyIn _ _ _ _) (by decide) |>.trans only).settle
  · obtain ⟨x, hx⟩ := exec_faultStatusClear v raised hb hb' hr
    refine ⟨_, hx, fun k hk hbit hf => State.raiseNow_sets b _ _ (mem_setBits.mpr ⟨hk, ?_⟩) hk hf⟩
    rw [show (65536 : Nat) = 2 ^ 16 from rfl, bitAt_mod hk, hbit]
  · refine ⟨((s.readWord p (0xD0000 + off)).1.setRead p (s.readWord p (0xD0000 + off)).2).settle, ?_, ?_⟩
    · exact (onUnit_lt s _ hoff).trans (congrArg (fun u => Host.Outcome.next (State.settle u)) (if_pos hr))
    · rw [State.readWord_logWindow hoff ha hr']
      exact ⟨State.busRead_setRead_same .., by cases p <;> rfl, (s.setRead_onlyIn p _).settle⟩
  · obtain ⟨x, hx⟩ := exec_logWindowRead (p := p) true hoff hr
    have hlog : ((s.loseEntry (off / 32)).setRead p x).settle.log = (s.loseEntry (off / 32)).log := by cases p <;> rfl
    refine ⟨_, hx, fun hl => ?_, fun hl hf hk hn hne => ?_, ?_⟩
    · exact hlog.trans (by rw [State.loseEntry_of_lost hl])
    · obtain ⟨e, he, hent⟩ := State.loseEntry_entries hl hk hf hn
      have hat (k : Nat) : ((s.loseEntry (off / 32)).setRead p x).settle.logAt k =
          tget .zero (tput .zero (tput .zero s.log.entries (off / 32 % 2048) .lost) (s.log.wr % 2048) e) (k % 2048) := by
        rw [State.logAt, hlog, hent]
      have hplace : off / 32 % 2048 = off / 32 := Nat.mod_eq_of_lt (by omega)
      constructor
      · exact (hat _).trans (by rw [tget_tput_other _ _ _ (by omega), tget_tput_same])
      · exact (congrArg LogEntry.code (hat _)).trans (by rw [tget_tput_same, he])
    · exact ((OnlyIn.mono (s.loseEntry_onlyIn _) (by decide)).trans (OnlyIn.mono (State.setRead_onlyIn _ p x) (by decide))).settle

end Sys2Proof.Machine
end

section
namespace Sys2Proof.Machine

/-- Where the channel jobs of the ending tick stop the tick, as a reaction that ends in SAFE does (R449), no edge comes. -/
theorem State.tickEdge_of_stopped {s : State} (errs : List Int) (h : s.ticks = true) (hr : s.runChanJobs.ticks = false) :
    s.tickEdge errs = s.runChanJobs := by
  simp [State.tickEdge, State.edge, h, hr]

/-- CHAN_CREATE of channel 0, HOST_DECODE, H.264 in ROW_LOCKSTEP, 512 × 512, two references: frame buffers of 1 MiB cells. -/
def createDesc : Desc :=
  descOf ([1] ++ List.replicate 15 0 ++ [2, 1, 0, 0, 2, 1, 0, 0, 0, 0, 0, 2, 0, 2, 2])

/-- A module in RUN and ACTIVE, at the start of a tick that has fetched `createDesc`. The first free cell of comb 6 has a wrong check
word (R339), and three Class M restarts have begun within M_WINDOW_S, as many as M_LIMIT allows (R408). -/
def brokenCombState : State :=
  { State.reset with
    sys := { Sys.reset with bootStage := 7, cfg := .active }
    power := { Power.reset with mode := .run }
    tick := { Tick.reset with stopped := false }
    guard := { Guard.reset with mStarts := [0, 0, 0] }
    hif := { Hif.reset with nextJob := 1, jobs := [Job.blank 0 .host 0 0 createDesc 0 0], creating := [0] }
    bpm := { Bpm.reset with built := true, base := 0x4000000, counts := [0, 0, 0, 0, 0, 0, 4, 0],
                            lists := [[], [], [], [], [], [], [6 * 2 ^ 21], []] }
    mem := { Mem.reset with dram := [(0x4000004, 0)] } }

theorem brokenCombState_ticks : brokenCombState.ticks = true := by decide

/-- The allocation finds the wrong check word; BPM 0x0E02 is one Class M restart too many, so the module goes to SAFE. -/
theorem brokenCombState_stops : brokenCombState.runChanJobs.ticks = false ∧
    brokenCombState.runChanJobs.tick.number = brokenCombState.tick.number := by decide +kernel

/-- Refutes O25: `brokenCombState` ticks, but the channel job that is executed before the edge ends in SAFE, which stops the
tick: its number stays. -/
theorem not_tickEdgeOpensTick : ¬ Obligations.TickEdgeOpensTick := by
  intro h
  obtain ⟨t, ht, hnumber, -⟩ := (h [] brokenCombState).2 brokenCombState_ticks
  obtain ⟨stops, number⟩ := brokenCombState_stops
  have answer : exec (.tickEdge []) brokenCombState = .next brokenCombState.runChanJobs.settle :=
    congrArg done (State.tickEdge_of_stopped [] brokenCombState_ticks stops)
  cases answer.symm.trans ht
  exact absurd (number.symm.trans hnumber) (by decide)

end Sys2Proof.Machine
end

section
namespace Sys2Proof.Machine

/-! The modulator (R482, R483). -/

/-- The first accumulator's input passes K by at most one. -/
theorem Modulator.input_le (m : Modulator) (k : Nat) (dither : Bool) : m.input k dither ≤ k + 1 := by
  unfold Modulator.input
  split
  · split <;> omega
  · omega

/-- The three carries of a cycle are bits, and the first accumulator's is one. -/
theorem mash_carries {a b c i : Nat} (hi : i ≤ 2 ^ 24) (ha : a < 2 ^ 24) (hb : b < 2 ^ 24) (hc : c < 2 ^ 24) :
    (a + i) / 2 ^ 24 ≤ 1 ∧ (b + (a + i) % 2 ^ 24) / 2 ^ 24 ≤ 1 ∧
    (c + (b + (a + i) % 2 ^ 24) % 2 ^ 24) / 2 ^ 24 ≤ 1 := by omega

/-- The divisor's offset of one cycle. -/
theorem Modulator.divisor_bounds {m : Modulator} {k : Nat} (dither : Bool) (hk : k < 2 ^ 24) (h1 : m.acc1 < 2 ^ 24)
    (h2 : m.acc2 < 2 ^ 24) (h3 : m.acc3 < 2 ^ 24) (c2 : m.c2 ≤ 1) (c3 : m.c3 ≤ 1) (c3' : m.c3' ≤ 1) :
    -3 ≤ m.divisor k dither ∧ m.divisor k dither ≤ 4 := by
  unfold Modulator.divisor
  split
  · decide
  · obtain ⟨q1, q2, q3⟩ := mash_carries (Nat.le_trans (m.input_le k dither) hk) h1 h2 h3
    dsimp only
    omega

/-- One cycle keeps the accumulators and the carries in their ranges. -/
theorem Modulator.cycle_ranges {m : Modulator} {k : Nat} (dither : Bool) (hk : k < 2 ^ 24) (h1 : m.acc1 < 2 ^ 24)
    (h2 : m.acc2 < 2 ^ 24) (h3 : m.acc3 < 2 ^ 24) (c2 : m.c2 ≤ 1) (c3 : m.c3 ≤ 1) (c3' : m.c3' ≤ 1) :
    (m.cycle k dither).acc1 < 2 ^ 24 ∧ (m.cycle k dither).acc2 < 2 ^ 24 ∧ (m.cycle k dither).acc3 < 2 ^ 24 ∧
    (m.cycle k dither).c2 ≤ 1 ∧ (m.cycle k dither).c3 ≤ 1 ∧ (m.cycle k dither).c3' ≤ 1 := by
  unfold Modulator.cycle
  split
  · exact ⟨h1, h2, h3, c2, c3, c3'⟩
  · obtain ⟨-, q2, q3⟩ := mash_carries (Nat.le_trans (m.input_le k dither) hk) h1 h2 h3
    exact ⟨Nat.mod_lt _ (by decide), Nat.mod_lt _ (by decide), Nat.mod_lt _ (by decide), q2, q3, c3⟩

/-! Parts that a frame keeps. -/

section
variable {ps : List Part} {s t : State}

theorem OnlyIn.guard_eq (h : OnlyIn ps s t) (hp : Part.guard ∉ ps) : t.guard = s.guard := (h .guard).resolve_left hp
theorem OnlyIn.power_eq (h : OnlyIn ps s t) (hp : Part.power ∉ ps) : t.power = s.power := (h .power).resolve_left hp
theorem OnlyIn.clock_eq (h : OnlyIn ps s t) (hp : Part.clock ∉ ps) : t.clock = s.clock := (h .clock).resolve_left hp
theorem OnlyIn.clk_eq (h : OnlyIn ps s t) (hp : Part.clk ∉ ps) : t.clk = s.clk := (h .clk).resolve_left hp

theorem OnlyIn.clock (h : OnlyIn ps r s) {x : Clock} (hp : Part.clock ∈ ps) : OnlyIn ps r { s with clock := x } :=
  h.trans fun p => by cases p <;> first | exact .inr rfl | exact .inl hp

theorem OnlyIn.mem (h : OnlyIn ps r s) {x : Mem} (hp : Part.mem ∈ ps) : OnlyIn ps r { s with mem := x } :=
  h.trans fun p => by cases p <;> first | exact .inr rfl | exact .inl hp

end

/-! SAFE (R402, R449). -/

theorem State.panelDown_onlyIn (s : State) (d : Nat) : OnlyIn [.displays] s (s.panelDown d) := by
  intro p; cases p <;> first | exact .inr rfl | exact .inl (by decide)

/-- SAFE from a mode with the core rail up leaves the clock unit as it is. -/
theorem State.enterSafe_spec {s : State} (h : s.guard.safe = false) (hr : s.power.mode ≠ .retain)
    (hd : s.power.mode ≠ .deepStandby) :
    s.enterSafe.guard.safe = true ∧ s.enterSafe.power.mode = .safe ∧ s.enterSafe.clk = s.clk := by
  generalize hu : s.enterSafe = u
  unfold State.enterSafe at hu
  rw [if_neg (by simp [h])] at hu
  extract_lets s1 s2 p bus tick mem guard pwr fio s3 at hu
  have hp : p = s.power := (OnlyIn.foldl _ State.panelDown_onlyIn _ s1).power_eq (by decide)
  have hclk : s2.clk = s.clk := (OnlyIn.foldl _ State.panelDown_onlyIn _ s1).clk_eq (by decide)
  rw [if_neg (by rw [hp]; simp [hr, hd])] at hu
  have k : OnlyIn [.bus] s3 u := hu ▸ s3.flushMsi_onlyIn
  rw [k.guard_eq (by decide), k.power_eq (by decide), k.clk_eq (by decide)]
  exact ⟨rfl, rfl, hclk⟩

/-- All that a Class S fault changes before SAFE is entered. -/
abbrev safeParts : List Part := [.regs, .bus, .hif, .mem, .sch, .log, .guard]

theorem FClass.max_s (cls : FClass) : cls.max .s = .s := by cases cls <;> rfl

/-- A Class S fault is logged, and SAFE follows, whatever reaction is in progress. -/
theorem State.react_s (s : State) (code : Nat) (i : FaultInfo) : ∃ u, s.react code .s i {} = u.enterSafe ∧
    OnlyIn safeParts s u ∧ u.guard.safe = s.guard.safe := by
  generalize hv : s.react code .s i {} = v
  unfold State.react at hv
  extract_lets eff old newM extra acting ids i first g a begun logged shown restarted at hv
  have hextra : extra = 0 := rfl
  have hacting : acting = .s := FClass.max_s old
  have hlogged : OnlyIn safeParts s logged ∧ logged.guard.safe = s.guard.safe := by
    unfold logged
    split
    · have k : OnlyIn [.regs, .bus, .hif, .mem, .sch, .log] begun
          (((begun.logFault code .s acting i).signal 65).hwFlag 4) :=
        (((OnlyIn.refl _ begun).step (State.logFault_onlyIn _ _ _ _ _) (by decide)).step
          (State.signal_onlyIn _ 65) (by decide)).step (State.hwFlag_onlyIn _ 4) (by decide)
      refine ⟨OnlyIn.trans ?_ (k.mono (by decide)), (congrArg Guard.safe (k.guard_eq (by decide))).trans rfl⟩
      exact (OnlyIn.refl _ s).guard (by decide)
    · next r _ =>
      have k : OnlyIn [.regs, .hif, .log] (s.setReaction { r with acting := acting, codes := r.codes ++ [(code, i.source)] })
          ((s.setReaction { r with acting := acting, codes := r.codes ++ [(code, i.source)] }).logMerged
            code .s acting i r.first) :=
        ((OnlyIn.refl _ _).step (State.bump_onlyIn _ _ _) (by decide)).step (State.logFault_onlyIn _ _ _ _ _) (by decide)
      refine ⟨OnlyIn.trans ?_ (k.mono (by decide)), (congrArg Guard.safe (k.guard_eq (by decide))).trans rfl⟩
      exact (OnlyIn.refl _ s).guard (by decide)
  rw [if_pos hacting, State.toSafe, if_pos hextra] at hv
  exact ⟨shown, hv.symm, hlogged.1.step (State.present_onlyIn _ _ _) (by decide), hlogged.2⟩

theorem State.raise_s {s : State} {code : Nat} (hc : faultClass code = some .s) (hs : s.guard.safe = false) (i : FaultInfo) :
    ∃ u, s.raise code i = u.enterSafe ∧ OnlyIn safeParts s u ∧ u.guard.safe = false := by
  obtain ⟨u, hu, only, safe⟩ := (s.setStatus code).react_s code (if i.channel = 0xFF then { i with channel := 0xFF } else i)
  refine ⟨u, ?_, ((OnlyIn.refl _ s).step (s.setStatus_onlyIn code) (by decide)).trans only, safe.trans hs⟩
  rw [← hu, State.raise, hc]
  simp [hs, effClass, State.idleFault, State.setStatus]

/-- A Class S fault outside SAFE, with the core rail up, ends in SAFE with its status bit set; Keeper time stands, and the clock
unit is as it was. -/
theorem State.raise_s_spec {s : State} {code : Nat} (hc : faultClass code = some .s) (hs : s.guard.safe = false)
    (hrail : s.coreRail = true) (i : FaultInfo) :
    (s.raise code i).guard.safe = true ∧ (s.raise code i).power.mode = .safe ∧ (s.raise code i).clock = s.clock ∧
    (s.raise code i).clk = s.clk ∧ bitAt ((s.raise code i).fstat (code / 256)) (code % 256 - 1) = true := by
  have hclock : (s.raise code i).clock = s.clock := (Steady.refl s).raise.clock
  have hbit := s.raise_sets (by rw [isFault, hc]; rfl) i {}
  obtain ⟨u, hu, only, safe⟩ := State.raise_s hc hs i
  simp only [State.coreRail, State.powered, Bool.and_eq_true, decide_eq_true_eq] at hrail
  obtain ⟨⟨-, hd⟩, hr⟩ := hrail
  have hp := only.power_eq (by decide)
  obtain ⟨hsafe, hmode, hclk⟩ := State.enterSafe_spec safe (by rwa [hp]) (by rwa [hp])
  refine ⟨hu ▸ hsafe, hu ▸ hmode, hclock, ?_, hbit⟩
  rw [hu, hclk, only.clk_eq (by decide)]

/-! Synthesisers. -/

theorem State.synth_of_getElem? {s : State} {i : Nat} {x : Synth} (h : s.clk.synths[i]? = some x) : s.synth i = x := by
  simp [State.synth, lget, h]

theorem State.synth_setSynth_same {s : State} {i : Nat} (x : Synth) (h : i < s.clk.synths.length) :
    (s.setSynth i x).synth i = x := by
  simp only [State.synth, State.setSynth]; rw [lget_lmod, if_pos ⟨rfl, h⟩]

theorem State.synth_setSynth_other (s : State) {i j : Nat} (x : Synth) (h : j ≠ i) : (s.setSynth i x).synth j = s.synth j := by
  simp only [State.synth, State.setSynth]; rw [lget_lmod, if_neg (fun c => h c.1.symm)]

theorem State.setSynth_onlyIn (s : State) (i : Nat) (x : Synth) : OnlyIn [.clk] s (s.setSynth i x) :=
  (OnlyIn.refl _ s).clk (by decide)

theorem State.startTune_onlyIn (s : State) (i n k p : Nat) : OnlyIn [.clk] s (s.startTune i n k p) := s.setSynth_onlyIn i _

theorem State.loseSynth_onlyIn (s : State) (i : Nat) : OnlyIn [.regs, .clk] s (s.loseSynth i) :=
  ((OnlyIn.refl _ s).step (s.setSynth_onlyIn i _) (by decide)).step (State.bump_onlyIn _ _ _) (by decide)

end Sys2Proof.Machine
end

section
namespace Sys2Proof.Machine

/-! Counters of the CLK block, which a fault's own counters leave alone. -/

theorem State.rd_addLog (s : State) (e : LogEntry) {d : RegDef} {k : Nat} (h : 0xE8000 ≤ d.at k) :
    (s.addLog e).rd d k = s.rd d k := by
  have lost : d.at k ≠ KPR_LOG_LOST.at 0 := fun c => absurd (c ▸ h) (by decide)
  unfold State.addLog
  dsimp only
  split
  · split
    · rfl
    · rw [State.rd_bump_other _ _ _ _ _ _ lost]; rfl
  · rfl

theorem State.rd_event (s : State) (code source : Nat) (data : List Nat) {d : RegDef} {k : Nat} (h : 0xE8000 ≤ d.at k) :
    (s.event code source data).rd d k = s.rd d k := by
  unfold State.event State.logEvent
  dsimp only
  split
  · exact s.rd_addLog _ h
  · rfl

theorem State.rd_logFault (s : State) (code : Nat) (cls acted : FClass) (i : FaultInfo) {d : RegDef} {k : Nat}
    (h : 0xE8000 ≤ d.at k) : (s.logFault code cls acted i).rd d k = s.rd d k := by
  have react : d.at k ≠ GRD_REACT_COUNT.at 0 := fun c => absurd (c ▸ h) (by decide)
  have counted : (if acted = .i then s.bump GRD_REACT_COUNT 0 else s).rd d k = s.rd d k := by
    split
    · exact State.rd_bump_other _ _ _ _ _ _ react
    · rfl
  unfold State.logFault
  dsimp only
  generalize (if acted = .i then s.bump GRD_REACT_COUNT 0 else s) = u at counted ⊢
  split
  · exact counted
  · split
    · exact (u.rd_addLog _ h).trans counted
    · exact (State.rd_event _ _ _ _ h).trans ((u.rd_addLog _ h).trans counted)

theorem State.rd_raiseCond (s : State) (code : Nat) (i : FaultInfo) {d : RegDef} {k : Nat} (h : 0xE8000 ≤ d.at k) :
    (s.raiseCond code i).rd d k = s.rd d k := State.rd_logFault (s.setStatus code) code .i .i i h

/-! Losing lock. -/

theorem State.synth_congr {s t : State} (h : t.clk.synths = s.clk.synths) (i : Nat) : t.synth i = s.synth i := by
  rw [State.synth, h, State.synth]

theorem State.locked_congr {s t : State} (h : t.clk = s.clk) (i : Nat) : t.locked i = s.locked i := by
  rw [State.locked, State.synth_congr (congrArg Clk.synths h), State.locked]

theorem State.locked_setSynth_lost (s : State) (i j : Nat) :
    (s.setSynth i { s.synth i with state := 5 }).locked j = (s.locked j && !decide (j = i)) := by
  by_cases hj : j = i
  · subst hj
    simp only [State.locked, State.synth, State.setSynth, lget_lmod]
    split
    · simp
    · next h =>
      have : s.clk.synths[j]? = none := List.getElem?_eq_none (by simpa using h)
      simp [lget, this, Synth.reset]
  · simp [State.locked, State.synth_setSynth_other _ _ hj, hj]

/-- What takes its timing from the reference loses lock, or stops tuning, with it. -/
def State.loseTiming (s : State) (i : Nat) : State :=
  if s.locked i then s.loseSynth i else s.setSynth i { s.synth i with state := 5 }

theorem State.loseTiming_onlyIn (s : State) (i : Nat) : OnlyIn [.regs, .clk] s (s.loseTiming i) :=
  .ite (s.loseSynth_onlyIn i) ((s.setSynth_onlyIn i _).mono (by decide))

theorem State.locked_loseTiming (s : State) (i j : Nat) : (s.loseTiming i).locked j = (s.locked j && !decide (j = i)) := by
  unfold State.loseTiming
  split
  · exact s.locked_setSynth_lost i j
  · exact s.locked_setSynth_lost i j

theorem State.locked_foldl_loseTiming (l : List Nat) (s : State) (j : Nat) :
    (l.foldl State.loseTiming s).locked j = (s.locked j && !decide (j ∈ l)) := by
  induction l generalizing s with
  | nil => simp
  | cons i l ih => rw [List.foldl_cons, ih, State.locked_loseTiming]; simp [Bool.and_assoc]

/-- The state in which REFERENCE_FAILURE is reported. -/
def State.withoutReference (s : State) : State :=
  let u := ((List.range 6).filter (fun i => s.locked i || (s.synth i).tuning)).foldl State.loseTiming s
  { u with clock := { u.clock with refFailed := true }, clk := { u.clk with backup := true, standby := false, dramDll := 0 } }

theorem State.refFails_eq {s : State} (hrail : s.coreRail = true) (hl : s.causeLive 0x1407 = false) :
    s.refFails = s.withoutReference.raise 0x1407 := by
  unfold State.refFails
  rw [if_pos (by rw [hrail, hl]; rfl)]
  rfl

theorem State.refFails_of_not {s : State} (h : s.coreRail = false ∨ s.causeLive 0x1407 = true) : s.refFails = s := by
  unfold State.refFails
  rw [if_neg (by rcases h with h | h <;> simp [h])]

theorem State.withoutReference_onlyIn (s : State) : OnlyIn [.regs, .clk, .clock] s s.withoutReference :=
  (OnlyIn.mono (OnlyIn.foldl _ State.loseTiming_onlyIn _ s) (by decide)).trans
    (fun p => by cases p <;> first | exact .inr rfl | exact .inl (by decide))

theorem State.locked_withoutReference (s : State) {i : Nat} (h : i < 6) : s.withoutReference.locked i = false := by
  refine (State.locked_foldl_loseTiming _ s i).trans ?_
  simp only [List.mem_filter, List.mem_range, h, true_and]
  cases s.locked i <;> simp

/-- The core rail depends on the supplies and the mode only. -/
theorem State.coreRail_congr {s t : State} (hp : t.pwr = s.pwr) (hm : t.power = s.power) : t.coreRail = s.coreRail := by
  simp only [State.coreRail, State.powered, hp, hm]

theorem State.referenceFailure_gives {s : State} (hrail : s.coreRail = true) (hl : s.causeLive 0x1407 = false)
    (hs : s.guard.safe = false) : Gives .referenceFailure s (fun t =>
      t.guard.safe = true ∧ t.power.mode = .safe ∧ t.clock.refFailed = true ∧ t.clk.backup = true ∧
      (∀ i, i < 6 → t.locked i = false) ∧ bitAt (t.fstat 20) 6 = true) := by
  have only := s.withoutReference_onlyIn
  have hrail' : s.withoutReference.coreRail = true :=
    (State.coreRail_congr ((only .pwr).resolve_left (by decide)) (only.power_eq (by decide))).trans hrail
  have hs' : s.withoutReference.guard.safe = false := by rw [only.guard_eq (by decide)]; exact hs
  obtain ⟨safe, mode, clock, clk, bit⟩ := State.raise_s_spec (code := 0x1407) (by decide) hs' hrail' {}
  refine ⟨_, congrArg done (State.refFails_eq hrail hl), safe, mode, ?_, ?_, fun i hi => ?_, bit⟩
  · exact (congrArg Clock.refFailed clock).trans rfl
  · exact (congrArg Clk.backup clk).trans rfl
  · exact (State.locked_congr clk i).trans (s.locked_withoutReference hi)

/-! Core PLLs (R491 to R494). -/

theorem State.loseSynth_active (s : State) (i : Nat) : (s.loseSynth i).clk.active = s.clk.active := rfl

theorem State.loseSynth_state {s : State} {i : Nat} (h : i < s.clk.synths.length) : ((s.loseSynth i).synth i).state = 5 :=
  congrArg Synth.state (State.synth_setSynth_same (s := s) { s.synth i with state := 5 } h)

theorem State.rd_loseSynth (s : State) (i : Nat) :
    (s.loseSynth i).rd CLK_UNLOCK_COUNT i = bump32 (s.rd CLK_UNLOCK_COUNT i) := State.rd_bump_same _ _ _

theorem State.rd_loseSynth_other (s : State) (i : Nat) {d : RegDef} (h : d.at 0 ≠ CLK_UNLOCK_COUNT.at i) :
    (s.loseSynth i).rd d = s.rd d := State.rd_bump_other _ _ _ _ _ _ h

/-- The suppressed pulse of an engine clock is counted (R491). -/
def State.countPulse (s : State) (pulse : Bool) : State := if pulse then s.bump CLK_PULSE_SUPPRESS_COUNT else s

theorem State.countPulse_onlyIn (s : State) (pulse : Bool) : OnlyIn [.regs] s (s.countPulse pulse) :=
  .ite (s.bump_onlyIn _ _) (.refl _ _)

theorem State.rd_countPulse (s : State) (pulse : Bool) : (s.countPulse pulse).rd CLK_PULSE_SUPPRESS_COUNT =
    if pulse then bump32 (s.rd CLK_PULSE_SUPPRESS_COUNT) else s.rd CLK_PULSE_SUPPRESS_COUNT := by
  unfold State.countPulse
  split
  · exact s.rd_bump_same _ 0
  · rfl

theorem State.rd_countPulse_other (s : State) (pulse : Bool) {d : RegDef} {k : Nat}
    (h : d.at k ≠ CLK_PULSE_SUPPRESS_COUNT.at 0) : (s.countPulse pulse).rd d k = s.rd d k := by
  unfold State.countPulse
  split
  · exact s.rd_bump_other _ _ _ _ _ h
  · rfl

/-- The other core PLL becomes the active one, and there is no standby. -/
def State.switchCpll (s : State) (other : Nat) : State :=
  ({ s with clk := { s.clk with active := other, standby := false } }).bump CLK_CPLL_SWITCH_COUNT

theorem State.switchCpll_onlyIn (s : State) (other : Nat) : OnlyIn [.regs, .clk] s (s.switchCpll other) :=
  ((OnlyIn.refl _ s).clk (by decide)).step (State.bump_onlyIn _ _ _) (by decide)

theorem State.cpllUnlocks_of_not {s : State} {i : Nat} (h : s.coreRail = false ∨ s.locked i = false) (pulse : Bool) :
    s.cpllUnlocks i pulse = s := by
  unfold State.cpllUnlocks
  rw [if_neg (by rcases h with h | h <;> simp [h])]

theorem State.cpllUnlocks_active {s : State} (h : s.coreRail = true) (hl : s.locked s.clk.active = true) (pulse : Bool) :
    s.cpllUnlocks s.clk.active pulse = (s.countPulse pulse).cpllLost s.clk.active := by
  simp [State.cpllUnlocks, State.countPulse, h, hl]

theorem State.cpllUnlocks_standby {s : State} {i : Nat} (h : s.coreRail = true) (hl : s.locked i = true)
    (ha : i ≠ s.clk.active) (pulse : Bool) : s.cpllUnlocks i pulse = s.cpllLost i := by
  simp [State.cpllUnlocks, h, hl, ha]

theorem State.cpllLost_switches {s : State} (h : s.clk.standby = true) (hl : s.locked (1 - s.clk.active) = true) :
    s.cpllLost s.clk.active =
      ((s.loseSynth s.clk.active).switchCpll (1 - s.clk.active)).raiseCond 0x1401 { source := s.clk.active } := by
  unfold State.cpllLost
  dsimp only
  rw [State.loseSynth_active, if_pos rfl, if_pos (by simp [h, hl])]
  rfl

theorem State.cpllLost_stops {s : State} (h : s.clk.standby = false) :
    s.cpllLost s.clk.active = (s.loseSynth s.clk.active).raise 0x1402 := by
  unfold State.cpllLost
  dsimp only
  rw [State.loseSynth_active, if_pos rfl, if_neg (by simp [h])]

theorem State.cpllLost_standby {s : State} {i : Nat} (hi : i < 2) (ha : i ≠ s.clk.active) (hl : s.locked (1 - i) = true) :
    s.cpllLost i = ({ s.loseSynth i with clk := { (s.loseSynth i).clk with standby := false } }).raiseCond 0x1401
      { source := i } := by
  have other : (s.loseSynth i).locked (1 - i) = true := by
    refine (s.locked_setSynth_lost i (1 - i)).trans ?_
    simp [hl]; omega
  unfold State.cpllLost
  dsimp only
  rw [State.loseSynth_active, if_neg ha, if_pos other]

end Sys2Proof.Machine
end

section
namespace Sys2Proof.Machine

/-! CPLL_UNLOCK, CPLL_RETUNE, CPLL_STANDBY_READY (R491 to R494). -/

/-- The counters of a lost core PLL are three registers, above every counter of a fault. -/
theorem clkCounters_apart : ∀ i < 2, CLK_UNLOCK_COUNT.at i ≠ CLK_CPLL_SWITCH_COUNT.at 0 ∧
    CLK_UNLOCK_COUNT.at i ≠ CLK_PULSE_SUPPRESS_COUNT.at 0 ∧ 0xE8000 ≤ CLK_UNLOCK_COUNT.at i := by decide

theorem State.cpllUnlock_none {s : State} {i : Nat} (hi : i < 2) (h : s.coreRail = false ∨ s.locked i = false) (pulse : Bool) :
    exec (.cpllUnlock i pulse) s = .next s.settle :=
  (onUnit_lt s _ hi).trans (congrArg done (State.cpllUnlocks_of_not h pulse))

theorem State.cpllUnlock_switches {s : State} (hi : s.clk.active < 2) (hr : s.coreRail = true)
    (hl : s.locked s.clk.active = true) (hs : s.clk.standby = true) (hy : s.locked (1 - s.clk.active) = true)
    (hlen : s.clk.active < s.clk.synths.length) (pulse : Bool) : Gives (.cpllUnlock s.clk.active pulse) s (fun t =>
      t.clk.active = 1 - s.clk.active ∧ t.clk.standby = false ∧ (t.synth s.clk.active).state = 5 ∧
      t.rd CLK_CPLL_SWITCH_COUNT = bump32 (s.rd CLK_CPLL_SWITCH_COUNT) ∧
      t.rd CLK_UNLOCK_COUNT s.clk.active = bump32 (s.rd CLK_UNLOCK_COUNT s.clk.active) ∧
      t.rd CLK_PULSE_SUPPRESS_COUNT = (if pulse then bump32 (s.rd CLK_PULSE_SUPPRESS_COUNT)
                                       else s.rd CLK_PULSE_SUPPRESS_COUNT) ∧
      t.guard.live.contains (0x1401, s.clk.active) = true ∧ OnlyIn [.regs, .hif, .log, .guard, .clk] s t) := by
  obtain ⟨apartS, apartP, high⟩ := clkCounters_apart _ hi
  generalize hu : s.countPulse pulse = u
  have huOnly : OnlyIn [.regs] s u := hu ▸ s.countPulse_onlyIn pulse
  have huClk : u.clk = s.clk := huOnly.clk_eq (by decide)
  generalize hv : (u.loseSynth s.clk.active).switchCpll (1 - s.clk.active) = v
  have lost : s.cpllUnlocks s.clk.active pulse = v.raiseCond 0x1401 { source := s.clk.active } := by
    have switches := State.cpllLost_switches (s := u) (huClk ▸ hs) (by rw [State.locked_congr huClk, huClk]; exact hy)
    rw [huClk, hv] at switches
    rw [State.cpllUnlocks_active hr hl, hu, switches]
  have only := v.raiseCond_onlyIn 0x1401 { source := s.clk.active }
  have clk := only.clk_eq (by decide)
  have before : OnlyIn [.regs, .hif, .log, .guard, .clk] s v := hv ▸
    ((huOnly.mono (by decide)).step (u.loseSynth_onlyIn _) (by decide)).step (State.switchCpll_onlyIn _ _) (by decide)
  refine ⟨_, (onUnit_lt s _ hi).trans (congrArg done lost), ?_, ?_, ?_, ?_, ?_, ?_, ?_, (before.step only (by decide)).settle⟩
  · exact (congrArg Clk.active clk).trans (by rw [← hv]; rfl)
  · exact (congrArg Clk.standby clk).trans (by rw [← hv]; rfl)
  · refine (congrArg Synth.state (State.synth_congr (congrArg Clk.synths clk) _)).trans ?_
    rw [← hv]
    exact State.loseSynth_state (by rw [huClk]; exact hlen)
  · refine (v.rd_raiseCond _ _ (d := CLK_CPLL_SWITCH_COUNT) (k := 0) (by decide)).trans ?_
    rw [← hv, State.switchCpll, State.rd_bump_same]
    exact congrArg bump32 ((u.rd_loseSynth_other _ apartS.symm).trans (by rw [← hu, s.rd_countPulse_other pulse (by decide)]))
  · refine (v.rd_raiseCond _ _ high).trans ?_
    rw [← hv, State.switchCpll, State.rd_bump_other _ _ _ _ _ _ apartS]
    exact (u.rd_loseSynth _).trans (by rw [← hu, s.rd_countPulse_other pulse apartP])
  · refine (v.rd_raiseCond _ _ (d := CLK_PULSE_SUPPRESS_COUNT) (k := 0) (by decide)).trans ?_
    rw [← hv, State.switchCpll, State.rd_bump_other _ _ _ _ _ _ (by decide), ← s.rd_countPulse pulse, hu]
    exact u.rd_loseSynth_other _ apartP.symm
  · exact State.present_live _ _ _

theorem State.cpllUnlock_stops {s : State} (hi : s.clk.active < 2) (hr : s.coreRail = true)
    (hl : s.locked s.clk.active = true) (hs : s.clk.standby = false) (hsafe : s.guard.safe = false)
    (hlen : s.clk.active < s.clk.synths.length) (pulse : Bool) : Gives (.cpllUnlock s.clk.active pulse) s (fun t =>
      t.guard.safe = true ∧ t.power.mode = .safe ∧ bitAt (t.fstat 20) 1 = true ∧ (t.synth s.clk.active).state = 5) := by
  generalize hu : s.countPulse pulse = u
  have huOnly : OnlyIn [.regs] s u := hu ▸ s.countPulse_onlyIn pulse
  have huClk : u.clk = s.clk := huOnly.clk_eq (by decide)
  generalize hv : u.loseSynth s.clk.active = v
  have lost : s.cpllUnlocks s.clk.active pulse = v.raise 0x1402 := by
    have stops := State.cpllLost_stops (s := u) (huClk ▸ hs)
    rw [huClk, hv] at stops
    rw [State.cpllUnlocks_active hr hl, hu, stops]
  have before : OnlyIn [.regs, .clk] s v := hv ▸ (huOnly.mono (by decide)).step (u.loseSynth_onlyIn _) (by decide)
  obtain ⟨safe, mode, -, clk, bit⟩ := State.raise_s_spec (s := v) (code := 0x1402) (by decide)
    (by rw [before.guard_eq (by decide)]; exact hsafe)
    ((State.coreRail_congr ((before .pwr).resolve_left (by decide)) (before.power_eq (by decide))).trans hr) {}
  refine ⟨_, (onUnit_lt s _ hi).trans (congrArg done lost), safe, mode, bit, ?_⟩
  refine (congrArg Synth.state (State.synth_congr (congrArg Clk.synths clk) _)).trans ?_
  rw [← hv]
  exact State.loseSynth_state (by rw [huClk]; exact hlen)

theorem State.cpllUnlock_standby {s : State} {i : Nat} (hi : i < 2) (hr : s.coreRail = true) (hl : s.locked i = true)
    (ha : i ≠ s.clk.active) (hy : s.locked (1 - i) = true) (pulse : Bool) : Gives (.cpllUnlock i pulse) s (fun t =>
      t.clk.active = s.clk.active ∧ t.clk.standby = false ∧ t.guard.live.contains (0x1401, i) = true ∧
      OnlyIn [.regs, .hif, .log, .guard, .clk] s t) := by
  have lost := (State.cpllUnlocks_standby hr hl ha pulse).trans (State.cpllLost_standby hi ha hy)
  generalize hv : { s.loseSynth i with clk := { (s.loseSynth i).clk with standby := false } } = v at lost
  have before : OnlyIn [.regs, .hif, .log, .guard, .clk] s v := hv ▸
    ((OnlyIn.refl _ s).step (s.loseSynth_onlyIn i) (by decide)).clk (by decide)
  have only := v.raiseCond_onlyIn 0x1401 { source := i }
  have clk := only.clk_eq (by decide)
  refine ⟨_, (onUnit_lt s _ hi).trans (congrArg done lost), ?_, ?_, State.present_live _ _ _, (before.step only (by decide)).settle⟩
  · exact (congrArg Clk.active clk).trans (by rw [← hv]; rfl)
  · exact (congrArg Clk.standby clk).trans (by rw [← hv])

theorem State.cpllRetunes_of_not {s : State} {i : Nat}
    (h : s.coreRail = false ∨ (s.synth i).state ≠ 5 ∨ s.clock.refFailed = true) : s.cpllRetunes i = s := by
  unfold State.cpllRetunes
  rw [if_neg (by rcases h with h | h | h <;> simp [h])]

theorem State.cpllRetunes_eq {s : State} {i : Nat} (hr : s.coreRail = true) (h : (s.synth i).state = 5)
    (hf : s.clock.refFailed = false) : s.cpllRetunes i = s.tuneCpll i := by
  simp [State.cpllRetunes, hr, h, hf]

theorem State.tuneMethod_cases (s : State) (i n k p : Nat) :
    s.tuneMethod i n k p = 1 ∨ s.tuneMethod i n k p = 2 ∨ s.tuneMethod i n k p = 3 := by
  unfold State.tuneMethod
  split
  · exact .inl rfl
  · split
    · exact .inr (.inl rfl)
    · exact .inr (.inr rfl)

/-- A tuning that starts holds its setting, by one of the three methods. -/
theorem State.startTune_synth {s : State} {i : Nat} (h : i < s.clk.synths.length) (n k p : Nat) :
    ((s.startTune i n k p).synth i).tuning = true ∧ ((s.startTune i n k p).synth i).n = n ∧
    ((s.startTune i n k p).synth i).k = k ∧ ((s.startTune i n k p).synth i).p = p := by
  rw [State.startTune, State.synth_setSynth_same _ h]
  refine ⟨?_, rfl, rfl, rfl⟩
  rcases s.tuneMethod_cases i n k p with m | m | m <;> simp [Synth.tuning, m]

theorem State.cpllReady_of_not {s : State} {i : Nat} (h : (s.synth i).state ≠ 4 ∨ i = s.clk.active) : s.cpllReady i = s := by
  unfold State.cpllReady State.locked
  rw [if_neg (by rcases h with h | h <;> simp [h])]

theorem State.cpllReady_eq {s : State} {i : Nat} (h : (s.synth i).state = 4) (ha : i ≠ s.clk.active) :
    s.cpllReady i = { s with clk := { s.clk with standby := true } } := by
  simp [State.cpllReady, State.locked, h, ha]

/-! SYNTH_LOCK and SYNTH_LOCK_TIMEOUT (R486, R487). -/

/-- Moving a slot to the front keeps the slots. -/
theorem raiseHop_perm (hops : List (Nat × Nat × Nat)) (i : Nat) : (raiseHop hops i).Perm hops := by
  unfold raiseHop
  split
  · exact .refl _
  · next x h =>
    obtain ⟨hi, hx⟩ := List.getElem?_eq_some_iff.mp h
    have split : hops = hops.take i ++ x :: hops.drop (i + 1) := by
      rw [← hx, List.getElem_cons_drop, List.take_append_drop]
    conv => rhs; rw [split]
    exact List.perm_middle.symm

theorem nearBand_near (start band : Nat) : nearBand start band ≤ start + 4 ∧ start ≤ nearBand start band + 4 := by
  unfold nearBand
  split <;> omega

/-- What a synthesiser under tuning holds when it has locked, whatever the method. -/
structure LockedFrom (s : State) (i : Nat) (x : Synth) (band us : Nat) (y : Synth) : Prop where
  state : y.state = 4
  us : y.us = min us 200
  n : y.n = x.n
  k : y.k = x.k
  hop : x.state = 1 → y.hops.length = x.hops.length ∧ ∀ h ∈ x.hops, h ∈ y.hops
  table : x.state = 2 → y.hops = pushHop x.hops (x.n, y.band, x.p) ∧ y.band ≤ s.tableBand i x.n x.k + 4 ∧
    s.tableBand i x.n x.k ≤ y.band + 4
  search : x.state = 3 → y.hops = pushHop x.hops (x.n, y.band, x.p) ∧ y.band = band % 64

theorem min_us_mod (us : Nat) : min us 200 % 65536 = min us 200 := by omega

theorem State.lockSynth_locked {s : State} {i : Nat} (ht : (s.synth i).tuning = true)
    (named band us : Nat) : ∃ y, s.lockSynth i named band (min us 200) = s.setSynth i y ∧
    LockedFrom s i (s.synth i) band us y := by
  unfold State.lockSynth
  dsimp only
  rw [if_neg (by simp [ht]), min_us_mod]
  split
  · next h1 =>
    have perm := raiseHop_perm (s.synth i).hops ((s.synth i).hopSlot named)
    exact ⟨_, rfl, { state := rfl, us := rfl, n := rfl, k := rfl
                     hop := fun _ => ⟨perm.length_eq, fun _ => perm.mem_iff.mpr⟩
                     table := fun h2 => absurd (h1.symm.trans h2) (by decide)
                     search := fun h3 => absurd (h1.symm.trans h3) (by decide) }⟩
  · next h1 =>
    refine ⟨_, rfl, { state := rfl, us := rfl, n := rfl, k := rfl, hop := fun h => absurd h h1
                      table := fun h2 => ⟨rfl, ?_⟩, search := fun h3 => ⟨rfl, ?_⟩ }⟩
    · rw [if_pos h2]; exact nearBand_near _ _
    · rw [if_neg (by rw [h3]; decide)]

theorem State.synthLocks_of_not {s : State} {i : Nat} (h : (s.synth i).tuning = false ∨ s.clock.refFailed = true)
    (m : LockMethod) (band us : Nat) : s.synthLocks i m band us = s := by
  unfold State.synthLocks
  rw [if_neg (by rcases h with h | h <;> simp [h])]

theorem State.lockFails_of_not {s : State} {i : Nat} (h : (s.synth i).tuning = false ∨ s.clock.refFailed = true) :
    s.lockFails i = s := by
  unfold State.lockFails
  rw [if_neg (by rcases h with h | h <;> simp [h])]

theorem State.synthLock_gives {s : State} {i : Nat} (hi : i < 6) (h : i < s.clk.synths.length)
    (ht : (s.synth i).tuning = true) (hf : s.clock.refFailed = false) (m : LockMethod) (band us : Nat) :
    Gives (.synthLock i m band us) s (fun t => LockedFrom s i (s.synth i) band us (t.synth i) ∧
      (i < 2 → t.guard.live.contains (0x1401, i) = false) ∧ OnlyIn [.guard, .clk] s t) := by
  obtain ⟨y, hy, locked⟩ := State.lockSynth_locked ht (hopNamed m) band us
  have locks : s.synthLocks i m band us = if i < 2 then (s.setSynth i y).gone 0x1401 i else s.setSynth i y := by
    simp only [State.synthLocks, ht, hf, hy]; rfl
  have synth := State.synth_setSynth_same (s := s) y h
  have only : OnlyIn [.guard, .clk] s (s.setSynth i y) := (s.setSynth_onlyIn i y).mono (by decide)
  refine ⟨_, (onUnit_lt s _ hi).trans (congrArg done locks), ?_, fun h2 => ?_, ?_⟩
  · have kept : (if i < 2 then (s.setSynth i y).gone 0x1401 i else s.setSynth i y).settle.synth i = y := by
      split
      · exact synth
      · exact synth
    rw [kept]; exact locked
  · rw [if_pos h2]; exact State.gone_not_live _ _ _
  · exact (OnlyIn.ite (only.step (State.gone_onlyIn _ _ _) (by decide)) only).settle

end Sys2Proof.Machine
end

section
namespace Sys2Proof.Machine

/-- The state in which a synthesiser that is no core PLL is reported as lost; the MPLL takes the DRAM into self-refresh. -/
def State.synthLost (s : State) (i : Nat) : State :=
  let u := (s.setSynth i { s.synth i with us := 200 }).loseSynth i
  if i = 5 then { u with mem := { u.mem with selfRefresh := true } } else u

theorem State.lockFails_eq {s : State} {i : Nat} (h2 : 2 ≤ i) (hi : i < 6) (ht : (s.synth i).tuning = true)
    (hf : s.clock.refFailed = false) :
    s.lockFails i = (s.synthLost i).raise (if i = 5 then 0x1404 else 0x1403) { source := i } := by
  unfold State.lockFails State.synthLost
  dsimp only
  rw [if_pos (by rw [ht, hf]; rfl), if_neg (by omega)]
  by_cases h5 : i = 5
  · rw [if_neg (by omega), if_pos h5, if_pos h5]
  · rw [if_pos (by omega), if_neg h5, if_neg h5]

theorem State.synthLost_spec {s : State} {i : Nat} (h : i < s.clk.synths.length) :
    ((s.synthLost i).synth i).state = 5 ∧ ((s.synthLost i).synth i).us = 200 ∧
    (s.synthLost i).rd CLK_UNLOCK_COUNT i = bump32 (s.rd CLK_UNLOCK_COUNT i) ∧
    (if i = 5 then (s.synthLost i).mem.selfRefresh = true ∧ OnlyIn [.regs, .mem, .clk] s (s.synthLost i)
     else OnlyIn [.regs, .clk] s (s.synthLost i)) := by
  generalize hx : { s.synth i with us := 200 } = x
  have hus : x.us = 200 := by rw [← hx]
  generalize hu : (s.setSynth i x).loseSynth i = u
  have synth : u.synth i = { x with state := 5 } := by
    have held := State.synth_setSynth_same x h
    rw [← hu]
    refine (State.synth_setSynth_same (s := s.setSynth i x) _ (by simpa [State.setSynth] using h)).trans ?_
    rw [held]
  have count : u.rd CLK_UNLOCK_COUNT i = bump32 (s.rd CLK_UNLOCK_COUNT i) := by rw [← hu]; exact State.rd_loseSynth _ i
  have only : OnlyIn [.regs, .clk] s u := hu ▸
    ((s.setSynth_onlyIn i x).mono (by decide)).trans ((s.setSynth i x).loseSynth_onlyIn i)
  have lost : s.synthLost i = if i = 5 then { u with mem := { u.mem with selfRefresh := true } } else u := by
    rw [State.synthLost, hx, hu]
  by_cases h5 : i = 5
  · rw [if_pos h5] at lost ⊢
    rw [lost]
    refine ⟨congrArg Synth.state synth, (congrArg Synth.us synth).trans hus, count, rfl, ?_⟩
    exact (only.mono (by decide)).mem (by decide)
  · rw [if_neg h5] at lost ⊢
    rw [lost]
    exact ⟨congrArg Synth.state synth, (congrArg Synth.us synth).trans hus, count, only⟩

/-! The Keeper's oscillator (R14, R410). -/

theorem State.causeLive_present (s : State) (code src : Nat) : (s.present code src).causeLive code = true := by
  have live := s.present_live code src
  rw [List.contains_iff_mem] at live
  exact List.any_eq_true.mpr ⟨_, live, by simp⟩

theorem State.bitAt_raiseCond (s : State) (code : Nat) (i : FaultInfo) :
    bitAt ((s.raiseCond code i).fstat (code / 256)) (code % 256 - 1) = true := by
  have status : (s.raiseCond code i).fstat (code / 256) = (s.setStatus code).fstat (code / 256) := by
    have kept := congrArg Guard.status (s.raiseI_guard code i)
    exact congrArg (fun x => tget 0 x (code / 256)) kept
  rw [status, State.bitAt_setStatus]
  simp

/-- The 32.768 kHz oscillator has failed. -/
def State.withoutOsc (s : State) : State := { s with clock := { s.clock with oscFailed := true } }

theorem State.withoutOsc_onlyIn (s : State) : OnlyIn [.clock] s s.withoutOsc := (OnlyIn.refl _ s).clock (by decide)

theorem State.slowTime_withoutOsc (s : State) : s.withoutOsc.slowTime = s.slowTime := rfl

/-- The state in which the failure is declared: in slow time, four periods after the first missing one. -/
def State.oscStops (s : State) : State :=
  if s.withoutOsc.slowTime then s.withoutOsc.advanceTo (s.clock.ps + 4 * 30517578) else s.withoutOsc

theorem State.oscStops_onlyIn (s : State) : OnlyIn [.clock] s s.oscStops :=
  .ite (s.withoutOsc_onlyIn.trans (State.advanceTo_onlyIn _ _)) s.withoutOsc_onlyIn

theorem State.oscStops_failed (s : State) : s.oscStops.clock.oscFailed = true := by
  unfold State.oscStops
  split
  · rfl
  · rfl

theorem State.oscStops_ps_of_slow {s : State} (h : s.slowTime = true) :
    s.clock.ps + 4 * 30517578 ≤ s.oscStops.clock.ps := by
  rw [State.oscStops, s.slowTime_withoutOsc, if_pos h]
  exact State.le_advanceTo _ _

theorem State.oscStops_ps_of_fast {s : State} (h : s.slowTime = false) : s.oscStops.clock.ps = s.clock.ps := by
  rw [State.oscStops, s.slowTime_withoutOsc, if_neg (by rw [h]; decide)]
  rfl

theorem State.oscFails_of_not {s : State} (h : s.pwr.keeperOn = false ∨ s.clock.oscFailed = true) : s.oscFails = s := if_pos h

theorem State.oscFails_eq {s : State} (hk : s.pwr.keeperOn = true) (ho : s.clock.oscFailed = false) (hm : s.power.mode ≠ .off) :
    s.oscFails = if (s.oscStops.raiseCond 0x1203).keeperCounts
      then (s.oscStops.raiseCond 0x1203).wakeEvent 8 s.ktime s.tick32 else s.oscStops.raiseCond 0x1203 := by
  have hm' : s.oscStops.power.mode ≠ .off := by rw [s.oscStops_onlyIn.power_eq (by decide)]; exact hm
  unfold State.oscFails
  rw [if_neg (by simp [hk, ho])]
  exact if_neg hm'

/-- The oscillator's failure is reported, in every mode in which the Keeper runs. -/
theorem State.oscStops_reported (s : State) :
    (s.oscStops.raiseCond 0x1203).clock = s.oscStops.clock ∧ (s.oscStops.raiseCond 0x1203).power = s.power ∧
    (s.oscStops.raiseCond 0x1203).causeLive 0x1203 = true ∧ bitAt ((s.oscStops.raiseCond 0x1203).fstat 18) 2 = true ∧
    OnlyIn [.regs, .clock, .hif, .log, .guard] s (s.oscStops.raiseCond 0x1203) := by
  have only := s.oscStops.raiseCond_onlyIn 0x1203 {}
  refine ⟨only.clock_eq (by decide), (only.power_eq (by decide)).trans (s.oscStops_onlyIn.power_eq (by decide)),
    State.causeLive_present _ _ _, s.oscStops.bitAt_raiseCond 0x1203 {}, ?_⟩
  exact (s.oscStops_onlyIn.mono (by decide)).step only (by decide)

theorem State.oscillatorFailure_run {s : State} (hk : s.pwr.keeperOn = true) (ho : s.clock.oscFailed = false)
    (ht : s.power.trans = .none) (hm : s.power.mode = .run) : Gives .keeperOscillatorFailure s (fun t =>
      t.clock.oscFailed = true ∧ (s.clock.refFailed = false → t.clock.ps = s.clock.ps) ∧ t.causeLive 0x1203 = true ∧
      bitAt (t.fstat 18) 2 = true ∧ OnlyIn [.regs, .clock, .hif, .log, .guard] s t) := by
  obtain ⟨clock, power, live, bit, only⟩ := s.oscStops_reported
  have counts : (s.oscStops.raiseCond 0x1203).keeperCounts = false := by
    simp [State.keeperCounts, power, ht, hm, Transition.isEntry]
  have fails := State.oscFails_eq hk ho (by rw [hm]; decide)
  rw [if_neg (by rw [counts]; decide)] at fails
  refine ⟨_, congrArg done fails, (congrArg Clock.oscFailed clock).trans s.oscStops_failed, fun hr => ?_, live, bit, only.settle⟩
  exact (congrArg Clock.ps clock).trans (State.oscStops_ps_of_fast (by simp [State.slowTime, hr, hm]))

/-- The first wake event of an armed latch in RETAIN is latched and starts the exit. -/
theorem State.wakeEvent_retain {s : State} {ns tick : Nat} (ha : s.power.armed = true) (hl : s.power.latched = [])
    (hm : s.power.mode = .retain) (ht : s.power.trans = .none) : ∃ p : Power, s.wakeEvent 8 ns tick = { s with power := p } ∧
    p.trans = .exiting .retain ∧ p.latched.map (fun w => (w.source, w.ns)) = [(8, ns)] := by
  simp [State.wakeEvent, State.wakeOn, State.startExit, ha, hl, hm, ht, insertBy]

theorem State.oscillatorFailure_retain {s : State} (hk : s.pwr.keeperOn = true) (ho : s.clock.oscFailed = false)
    (ht : s.power.trans = .none) (hm : s.power.mode = .retain) (ha : s.power.armed = true) (hl : s.power.latched = []) :
    Gives .keeperOscillatorFailure s (fun t => t.clock.oscFailed = true ∧
      s.clock.ps + 4 * 30517578 ≤ t.clock.ps ∧ t.causeLive 0x1203 = true ∧ t.power.trans = .exiting .retain ∧
      t.power.latched.map (fun w => (w.source, w.ns)) = [(8, s.ktime)] ∧
      OnlyIn [.regs, .clock, .hif, .log, .guard, .power] s t) := by
  obtain ⟨clock, power, live, -, only⟩ := s.oscStops_reported
  have counts : (s.oscStops.raiseCond 0x1203).keeperCounts = true := by simp [State.keeperCounts, power, hm]
  have fails := State.oscFails_eq hk ho (by rw [hm]; decide)
  rw [if_pos counts] at fails
  obtain ⟨p, woken, exiting, latched⟩ := State.wakeEvent_retain (s := s.oscStops.raiseCond 0x1203) (ns := s.ktime)
    (tick := s.tick32) (by rw [power]; exact ha) (by rw [power]; exact hl) (by rw [power]; exact hm) (by rw [power]; exact ht)
  refine ⟨_, congrArg done (fails.trans woken), (congrArg Clock.oscFailed clock).trans s.oscStops_failed, ?_, live, exiting,
    latched, ((only.mono (by decide)).power (by decide)).settle⟩
  refine Nat.le_trans (State.oscStops_ps_of_slow (by simp [State.slowTime, hm])) (Nat.le_of_eq ?_)
  exact (congrArg Clock.ps clock).symm

theorem State.oscillatorRestored (s : State) : Gives .keeperOscillatorRestored s (fun t =>
    t.clock = { s.clock with oscFailed := false } ∧ t.guard.live.contains (0x1203, 0xFF) = false ∧
    OnlyIn [.clock, .guard] s t) :=
  ⟨_, rfl, rfl, State.gone_not_live _ _ _,
    (((OnlyIn.refl _ s).clock (by decide)).step (State.gone_onlyIn _ _ _) (by decide)).settle⟩

/-! The statement. -/

theorem State.locked_of_getElem? {s : State} {i : Nat} {x : Synth} (h : s.clk.synths[i]? = some x) :
    s.locked i = (x.state == 4) := by rw [State.locked, State.synth_of_getElem? h]

theorem lt_of_getElem?_eq_some {α : Type} {l : List α} {i : Nat} {x : α} (h : l[i]? = some x) : i < l.length :=
  (List.getElem?_eq_some_iff.mp h).1

/-- Settles O59, one lemma per command: what it is not ready for leaves the state, and a Class S loss ends in SAFE
(`State.raise_s_spec`), which leaves the clock unit alone while the core rail is up. -/
theorem clocksLockAndFail : Obligations.ClocksLockAndFail := by
  refine ⟨fun s => ⟨?_, State.referenceFailure_gives, fun i x y hi hx hy => ⟨?_, ?_, ?_, ?_, ?_, ?_, ?_⟩,
    fun i x m band us hi hx => ⟨?_, fun ht hf => ⟨?_, fun h2 => ?_⟩⟩, ?_, fun hk ho ht => ⟨?_, ?_⟩, s.oscillatorRestored⟩,
    fun m k dither hk h1 h2 h3 c2 c3 c3' => ?_⟩
  · exact fun h => congrArg done (State.refFails_of_not h)
  · intro pulse h
    refine State.cpllUnlock_none hi (h.imp id fun h => ?_) pulse
    rw [State.locked_of_getElem? hx]; simpa using h
  · intro pulse hr h4 ha
    subst ha
    have locked : s.locked s.clk.active = true := by rw [State.locked_of_getElem? hx]; simp [h4]
    have len := lt_of_getElem?_eq_some hx
    refine ⟨fun hs h4' => ?_, fun hs hsafe => State.cpllUnlock_stops hi hr locked hs hsafe len pulse⟩
    exact State.cpllUnlock_switches hi hr locked hs (by rw [State.locked_of_getElem? hy]; simp [h4']) len pulse
  · intro pulse hr h4 ha h4'
    exact State.cpllUnlock_standby hi hr (by rw [State.locked_of_getElem? hx]; simp [h4]) ha
      (by rw [State.locked_of_getElem? hy]; simp [h4']) pulse
  · intro h
    rw [← State.synth_of_getElem? hx] at h
    exact (onUnit_lt s _ hi).trans (congrArg done (State.cpllRetunes_of_not h))
  · intro hr h5 hf
    rw [← State.synth_of_getElem? hx] at h5
    obtain ⟨tuning, n, k, p⟩ := State.startTune_synth (lt_of_getElem?_eq_some hx) 240 0 (twoQ s.pwr.op)
    exact ⟨_, (onUnit_lt s _ hi).trans (congrArg done (State.cpllRetunes_eq hr h5 hf)), tuning, n, k, p,
      (s.startTune_onlyIn i _ _ _).settle⟩
  · intro h
    rw [← State.synth_of_getElem? hx] at h
    exact (onUnit_lt s _ hi).trans (congrArg done (State.cpllReady_of_not h))
  · intro h4 ha
    rw [← State.synth_of_getElem? hx] at h4
    exact ⟨_, (onUnit_lt s _ hi).trans (congrArg done (State.cpllReady_eq h4 ha)), rfl,
      ((OnlyIn.refl _ s).clk (by decide)).settle⟩
  · intro h
    rw [← State.synth_of_getElem? hx] at h
    exact ⟨(onUnit_lt s _ hi).trans (congrArg done (State.synthLocks_of_not h m band us)),
      (onUnit_lt s _ hi).trans (congrArg done (State.lockFails_of_not h))⟩
  · have held := State.synth_of_getElem? hx
    obtain ⟨t, answer, locked, gone, only⟩ :=
      State.synthLock_gives hi (lt_of_getElem?_eq_some hx) (held ▸ ht) hf m band us
    obtain ⟨state, us, n, k, hop, table, search⟩ := held ▸ locked
    exact ⟨t, answer, ⟨state, us, n, k, hop, table, search⟩, gone, only⟩
  · obtain ⟨state, us, count, only⟩ := State.synthLost_spec (lt_of_getElem?_eq_some hx)
    rw [← State.synth_of_getElem? hx] at ht
    exact ⟨_, (onUnit_lt s _ hi).trans (congrArg done (State.lockFails_eq h2 hi ht hf)), state, us, count, only⟩
  · exact fun h => congrArg done (State.oscFails_of_not h)
  · exact State.oscillatorFailure_run hk ho ht
  · exact State.oscillatorFailure_retain hk ho ht
  · obtain ⟨low, high⟩ := Modulator.divisor_bounds dither hk h1 h2 h3 c2 c3 c3'
    exact ⟨low, high, Modulator.cycle_ranges dither hk h1 h2 h3 c2 c3 c3'⟩

end Sys2Proof.Machine
end

section
namespace Sys2Proof.Machine

/-! Parts that a frame keeps, and what is read of them alone. -/

section
variable {ps : List Part} {r s t : State}

theorem OnlyIn.regs_eq (h : OnlyIn ps s t) (hp : Part.regs ∉ ps) : t.regs = s.regs := (h .regs).resolve_left hp
theorem OnlyIn.hif_eq (h : OnlyIn ps s t) (hp : Part.hif ∉ ps) : t.hif = s.hif := (h .hif).resolve_left hp
theorem OnlyIn.mem_eq (h : OnlyIn ps s t) (hp : Part.mem ∉ ps) : t.mem = s.mem := (h .mem).resolve_left hp
theorem OnlyIn.bpm_eq (h : OnlyIn ps s t) (hp : Part.bpm ∉ ps) : t.bpm = s.bpm := (h .bpm).resolve_left hp

theorem OnlyIn.tick_eq (h : OnlyIn ps s t) (hp : Part.tick ∉ ps) : t.tick = s.tick := (h .tick).resolve_left hp
theorem OnlyIn.chans_eq (h : OnlyIn ps s t) (hp : Part.chans ∉ ps) : t.chans = s.chans := (h .chans).resolve_left hp
theorem OnlyIn.pwr_eq (h : OnlyIn ps s t) (hp : Part.pwr ∉ ps) : t.pwr = s.pwr := (h .pwr).resolve_left hp
theorem OnlyIn.sys_eq (h : OnlyIn ps s t) (hp : Part.sys ∉ ps) : t.sys = s.sys := (h .sys).resolve_left hp
theorem OnlyIn.engines_eq (h : OnlyIn ps s t) (hp : Part.engines ∉ ps) : t.engines = s.engines :=
  (h .engines).resolve_left hp

theorem OnlyIn.tick (h : OnlyIn ps r s) {x : Tick} (hp : Part.tick ∈ ps) : OnlyIn ps r { s with tick := x } :=
  h.trans fun p => by cases p <;> first | exact .inr rfl | exact .inl hp

/-- The engines change, and the counter of free values that they draw from. -/
theorem OnlyIn.engines (h : OnlyIn ps r s) {l : List SynEngine} {n : Nat} (hp : Part.engines ∈ ps)
    (hf : Part.fresh ∈ ps) : OnlyIn ps r { s with engines := l, fresh := n } :=
  h.trans fun p => by cases p <;> first | exact .inr rfl | exact .inl hp | exact .inl hf

theorem State.rd_congr (h : t.regs = s.regs) (d : RegDef) (i : Nat) : t.rd d i = s.rd d i := by simp only [State.rd, h]

theorem State.combFree_congr (h : t.bpm = s.bpm) (c : Nat) : t.combFree c = s.combFree c := by
  simp only [State.combFree, State.combFreeMap, State.combUsed, h]

end

/-! The end of a Class M restart (R401). -/

theorem State.fillStores_onlyIn (s : State) : OnlyIn [.bpm, .mem] s s.fillStores := by
  intro p; cases p <;> first | exact .inr rfl | exact .inl (by decide)

/-- The stores are filled from the cell map: every cell that is free in it can be allocated. -/
theorem State.combFree_fillStores (s : State) (c : Nat) : s.fillStores.combFree c = s.combFreeMap c := rfl

theorem State.freshen_onlyIn (s : State) : OnlyIn [.fresh] s s.freshen := by
  intro p; cases p <;> first | exact .inr rfl | exact .inl (by decide)

theorem State.lockSynth_onlyIn (s : State) (i named band us : Nat) : OnlyIn [.clk] s (s.lockSynth i named band us) :=
  .ite (.refl _ s) (.ite (s.setSynth_onlyIn i _) (s.setSynth_onlyIn i _))

theorem State.lockFree_onlyIn (s : State) (i : Nat) : OnlyIn [.clk, .fresh] s (s.lockFree i) :=
  (((s.lockSynth_onlyIn i _ _ _).mono (by decide)).step (State.freshen_onlyIn _) (by decide)).step
    (State.freshen_onlyIn _) (by decide)

theorem State.relock_onlyIn (s : State) : OnlyIn [.clk, .mem, .fresh] s s.relock := by
  have locked := OnlyIn.foldl _ State.lockFree_onlyIn ((List.range 6).filter fun i => 2 ≤ i && (s.synth i).state == 5) s
  unfold State.relock
  dsimp only
  generalize List.foldl _ s _ = u at locked ⊢
  refine (locked.mono (by decide)).trans ?_
  intro p; cases p <;> first | exact .inr rfl | exact .inl (by decide)

/-- A reaction that ends is counted under the class carried out, and leaves the Guard free for the next. -/
theorem State.endReaction_spec {s : State} {x : Reaction} (h : s.guard.reaction = some x) :
    s.endReaction.guard.reaction = none ∧ s.endReaction.guard.restarting = s.guard.restarting ∧
    s.endReaction.guard.resumeAtEdge = s.guard.resumeAtEdge ∧
    s.endReaction.rd GRD_REACT_COUNT x.acting.num = bump32 (s.rd GRD_REACT_COUNT x.acting.num) ∧
    OnlyIn [.regs, .guard] s s.endReaction := by
  unfold State.endReaction
  rw [h]
  exact ⟨rfl, rfl, rfl, s.rd_bump_same _ _, ((s.bump_onlyIn _ _).mono (by decide)).guard (by decide)⟩

/-- The state in which the restart's reaction ends: the stores filled, the clocks locked, admission due at the next edge. -/
def State.restartDone (s : State) : State :=
  { s.fillStores.relock with
    guard := { s.fillStores.relock.guard with restarting := false, resumeAtEdge := true }
    hif := { s.fillStores.relock.hif with dpRestart := true } }

theorem State.restartEnd_eq {s : State} (h : s.guard.restarting = true) : s.restartEnd = s.restartDone.endReaction := if_pos h

/-- What has changed when the restart's reaction ends: the free stores are as the cell map has them, and the DRAM is trained. -/
theorem State.restartDone_spec (s : State) :
    s.restartDone.guard = { s.guard with restarting := false, resumeAtEdge := true } ∧ s.restartDone.hif.dpRestart = true ∧
    s.restartDone.mem.trained = 3 ∧ s.restartDone.mem.selfRefresh = false ∧ s.restartDone.bpm = s.fillStores.bpm ∧
    OnlyIn [.hif, .mem, .bpm, .guard, .clk, .fresh] s s.restartDone := by
  have kept := s.fillStores.relock_onlyIn
  have guard : s.fillStores.relock.guard = s.guard :=
    (kept.guard_eq (by decide)).trans (s.fillStores_onlyIn.guard_eq (by decide))
  refine ⟨by rw [State.restartDone, guard], rfl, rfl, rfl, kept.bpm_eq (by decide), ?_⟩
  refine ((s.fillStores_onlyIn.mono (by decide)).step kept (by decide)).trans ?_
  unfold State.restartDone
  generalize s.fillStores.relock = u
  intro p; cases p <;> first | exact .inr rfl | exact .inl (by decide)

theorem State.dataPathRestartEnd_gives {s : State} {x : Reaction} (h : s.guard.restarting = true)
    (hx : s.guard.reaction = some x) : Gives .dataPathRestartEnd s (fun t =>
      t.guard.restarting = false ∧ t.guard.resumeAtEdge = true ∧ t.guard.reaction = none ∧ t.hif.dpRestart = true ∧
      t.rd GRD_REACT_COUNT x.acting.num = bump32 (s.rd GRD_REACT_COUNT x.acting.num) ∧ t.mem.trained = 3 ∧
      t.mem.selfRefresh = false ∧ t.bpm.broken = [] ∧ t.bpm.cells = s.bpm.cells ∧
      (∀ c, c < 8 → t.combFree c = s.combFreeMap c) ∧
      OnlyIn [.regs, .hif, .mem, .bpm, .guard, .clk, .fresh] s t) := by
  obtain ⟨guard, shown, trained, awake, stores, only⟩ := s.restartDone_spec
  obtain ⟨free, restarting, resume, count, ended⟩ :=
    State.endReaction_spec (s := s.restartDone) (x := x) ((congrArg Guard.reaction guard).trans hx)
  have regs : s.restartDone.regs = s.regs := only.regs_eq (by decide)
  have mem := ended.mem_eq (by decide)
  have bpm := (ended.bpm_eq (by decide)).trans stores
  refine ⟨_, congrArg done (State.restartEnd_eq h), restarting.trans (congrArg Guard.restarting guard),
    resume.trans (congrArg Guard.resumeAtEdge guard), free, (congrArg Hif.dpRestart (ended.hif_eq (by decide))).trans shown,
    count.trans (congrArg bump32 (State.rd_congr regs _ _)), (congrArg Mem.trained mem).trans trained,
    (congrArg Mem.selfRefresh mem).trans awake, (congrArg Bpm.broken bpm).trans rfl,
    (congrArg Bpm.cells bpm).trans rfl, fun c _ => ?_, ?_⟩
  · exact (State.combFree_congr bpm c).trans (s.combFree_fillStores c)
  · exact ((only.mono (by decide)).step ended (by decide)).settle

/-! A restart that takes too long (R404). -/

theorem State.lockPlls_onlyIn (s : State) : OnlyIn [.clk, .fresh] s s.lockPlls := by
  have tuned : OnlyIn [.clk, .fresh] s ((s.tuneCpll 0).tuneCpll 1).tuneMpll :=
    (((s.startTune_onlyIn 0 _ _ _).trans (State.startTune_onlyIn _ 1 _ _ _)).trans
      (State.startTune_onlyIn _ 5 _ _ _)).mono (by decide)
  exact (((tuned.trans (State.lockFree_onlyIn _ 0)).trans (State.lockFree_onlyIn _ 1)).trans
    (State.lockFree_onlyIn _ 5)).clk (by decide)

/-- SAFE from RETAIN or DEEP STANDBY switches the SRAM banks on and locks the PLLs (R449). -/
theorem State.lockBanksAndPlls_onlyIn (s : State) :
    OnlyIn [.mem, .clk, .fresh] s ({ s with mem := { s.mem with bankOn := 0xFFFF } } : State).lockPlls :=
  ((OnlyIn.refl _ s).mem (by decide)).step (State.lockPlls_onlyIn _) (by decide)

/-- SAFE, from whatever mode, ends a restart. -/
theorem State.enterSafe_safe {s : State} (h : s.guard.safe = false) :
    s.enterSafe.guard.safe = true ∧ s.enterSafe.guard.restarting = false ∧ s.enterSafe.power.mode = .safe := by
  generalize hu : s.enterSafe = u
  unfold State.enterSafe at hu
  rw [if_neg (by simp [h])] at hu
  extract_lets s1 s2 p bus tick mem guard pwr fio s3 at hu
  have k : OnlyIn [.mem, .clk, .fresh, .bus] s3 u :=
    hu ▸ (OnlyIn.ite (s3.lockBanksAndPlls_onlyIn.mono (by decide)) (.refl _ s3)).step (State.flushMsi_onlyIn _) (by decide)
  rw [k.guard_eq (by decide), k.power_eq (by decide)]
  exact ⟨rfl, rfl, rfl⟩

theorem State.reactionTimeout_gives {s : State} {x : Reaction} (h : s.guard.restarting = true)
    (hx : s.guard.reaction = some x) (hs : s.guard.safe = false) : Gives .reactionTimeout s (fun t =>
      t.guard.safe = true ∧ t.guard.restarting = false ∧ t.power.mode = .safe ∧ bitAt (t.fstat 17) 3 = true ∧
      1000 * (x.startNs + 250000000) ≤ t.clock.ps) := by
  generalize hv : s.advanceTo (1000 * (x.startNs + 250000000)) = v
  have late : s.reactionLate = v.raise 0x1104 := by
    unfold State.reactionLate
    rw [hx]
    exact (if_pos h).trans (by rw [hv])
  have outside : v.guard.safe = false := by
    rw [← hv, (State.advanceTo_onlyIn _ _).guard_eq (by decide)]
    exact hs
  obtain ⟨u, raised, -, notSafe⟩ := State.raise_s (s := v) (code := 0x1104) (by decide) outside {}
  obtain ⟨safe, ended, mode⟩ := State.enterSafe_safe notSafe
  rw [← raised] at safe ended mode
  have bit : bitAt ((v.raise 0x1104).fstat 17) 3 = true := v.raise_sets (code := 0x1104) (by decide) {} {}
  have clock : (v.raise 0x1104).clock = v.clock := (Steady.refl v).raise.clock
  have reached : 1000 * (x.startNs + 250000000) ≤ v.clock.ps := hv ▸ s.le_advanceTo _
  rw [← clock] at reached
  exact ⟨_, congrArg done late, safe, ended, mode, bit, reached⟩

/-! Retest (R37, R385). -/

/-- A unit that is retested now: fenced, not returning, in a module that runs and is not being restarted. -/
def State.retests (s : State) (k : UnitKind) (u : Nat) : Prop :=
  s.isFenced k u = true ∧ s.guard.returning.contains (k, u) = false ∧ s.guard.safe = false ∧
    s.guard.restarting = false ∧ s.asleep = false ∧ s.sys.bootStage = 7

/-- The retest of a unit is good: it passes, and an engine of kind `.syn` has its patch RAM as it should be. -/
def retestGood (k : UnitKind) (passed digestOk readBackOk : Bool) : Prop :=
  passed = true ∧ (k = .syn → digestOk = true ∧ readBackOk = true)

theorem State.retest_of_not {s : State} {k : UnitKind} {u : Nat} (h : ¬ s.retests k u) (passed digestOk readBackOk : Bool) :
    s.retest k u passed digestOk readBackOk = s :=
  if_neg fun c => h (by simpa [State.retests, and_assoc] using c)

theorem State.retest_of_good {s : State} {k : UnitKind} {u : Nat} {passed digestOk readBackOk : Bool}
    (h : s.retests k u) (hg : retestGood k passed digestOk readBackOk) : s.retest k u passed digestOk readBackOk =
      { s with guard := { s.guard with returning := s.guard.returning ++ [(k, u)] } } := by
  obtain ⟨hp, hk⟩ := hg
  refine (if_pos (by simpa [State.retests, and_assoc] using h)).trans (if_pos ?_)
  cases k with
  | syn => simp [hp, hk rfl]
  | pix => simp [hp]
  | enc => simp [hp]
  | core => simp [hp]

theorem State.retest_of_bad {s : State} {k : UnitKind} {u : Nat} {passed digestOk readBackOk : Bool}
    (h : s.retests k u) (hg : ¬ retestGood k passed digestOk readBackOk) : s.retest k u passed digestOk readBackOk =
      s.raiseCond (retestCode k) { source := u } := by
  refine (if_pos (by simpa [State.retests, and_assoc] using h)).trans (if_neg fun c => hg ?_)
  cases k with
  | syn => simpa [retestGood] using c
  | pix => simpa [retestGood] using c
  | enc => simpa [retestGood] using c
  | core => simpa [retestGood] using c

/-- A Class I condition fences no unit and returns none. -/
theorem State.raiseCond_units (s : State) (code : Nat) (i : FaultInfo) :
    (s.raiseCond code i).guard.fenced = s.guard.fenced ∧ (s.raiseCond code i).guard.returning = s.guard.returning :=
  have kept := s.raiseI_guard code i
  ⟨(congrArg Guard.fenced kept).trans rfl, (congrArg Guard.returning kept).trans rfl⟩

theorem State.unitRetest_good {s : State} {k : UnitKind} {u : Nat} {passed digestOk readBackOk : Bool}
    (hu : u < unitCount k) (h : s.retests k u) (hg : retestGood k passed digestOk readBackOk) :
    Gives (.unitRetest k u passed digestOk readBackOk) s (fun t =>
      t.guard.returning = s.guard.returning ++ [(k, u)] ∧ t.isFenced k u = true ∧ OnlyIn [.guard] s t) :=
  ⟨_, (onUnit_lt s _ hu).trans (congrArg done (State.retest_of_good h hg)), rfl, h.1,
    ((OnlyIn.refl _ s).guard (by decide)).settle⟩

theorem State.unitRetest_bad {s : State} {k : UnitKind} {u : Nat} {passed digestOk readBackOk : Bool}
    (hu : u < unitCount k) (h : s.retests k u) (hg : ¬ retestGood k passed digestOk readBackOk) :
    Gives (.unitRetest k u passed digestOk readBackOk) s (fun t =>
      t.isFenced k u = true ∧ t.guard.returning = s.guard.returning ∧
      bitAt (t.fstat (retestCode k / 256)) (retestCode k % 256 - 1) = true ∧ t.causeLive (retestCode k) = true ∧
      OnlyIn [.regs, .hif, .log, .guard] s t) := by
  obtain ⟨fenced, returning⟩ := s.raiseCond_units (retestCode k) { source := u }
  refine ⟨_, (onUnit_lt s _ hu).trans (congrArg done (State.retest_of_bad h hg)), ?_, returning,
    s.bitAt_raiseCond _ _, State.causeLive_present _ _ _, ((s.raiseCond_onlyIn _ _).mono (by decide)).settle⟩
  exact (congrArg (fun l => l.any fun f => decide (f.1 = k) && f.2.1 == u) fenced).trans h.1

/-- Settles O54, one lemma per command: a restart that ends leaves its reaction counted and the stores as the cell map has
them, one that does not ends in SAFE, and a retest acts only on a unit that is fenced. -/
theorem guardRecovers : Obligations.GuardRecovers := by
  refine fun s => ⟨fun h => ⟨?_, ?_⟩, fun x h hx _ => State.dataPathRestartEnd_gives h hx,
    fun x h hx hs => State.reactionTimeout_gives h hx hs, fun k u passed digestOk readBackOk hu => ⟨fun h => ?_, ?_, ?_⟩⟩
  · exact congrArg done (if_neg (by simp [h]))
  · refine congrArg done ?_
    unfold State.reactionLate
    split
    · rfl
    · exact if_neg (by simp [h])
  · exact (onUnit_lt s _ hu).trans (congrArg done (State.retest_of_not h passed digestOk readBackOk))
  · exact State.unitRetest_good hu
  · exact State.unitRetest_bad hu

end Sys2Proof.Machine
end

section
namespace Sys2Proof.Machine

/-! What a CHAN_EXPORT that falls due in the work window leaves alone: the tick, and the registers from the PWR block on. -/

/-- From `r` to `s` the tick stands as it was, and so does every register from the PWR block on. -/
structure Confined (r s : State) : Prop where
  tick : s.tick = r.tick
  high : ∀ (e : Word) (k : Nat), 0xE0000 ≤ k → tget e s.regs k = tget e r.regs k

namespace Confined

variable {r s t : State}

theorem refl (s : State) : Confined s s := ⟨rfl, fun _ _ _ => rfl⟩

theorem rd (h : Confined r s) {d : RegDef} {i : Nat} (hd : 0xE0000 ≤ d.at i) : s.rd d i = r.rd d i :=
  congrArg BitVec.toNat (h.high _ _ hd)

/-- A change that touches neither the tick nor a register. -/
theorem upd (h : Confined r s) (ht : t.tick = s.tick) (hr : t.regs = s.regs) : Confined r t where
  tick := ht.trans h.tick
  high e k hk := by rw [hr]; exact h.high e k hk

theorem of_onlyIn {ps : List Part} (h : Confined r s) (k : OnlyIn ps s t) (ht : Part.tick ∉ ps) (hr : Part.regs ∉ ps) :
    Confined r t := h.upd (k.tick_eq ht) (k.regs_eq hr)

theorem ite {c : Prop} [Decidable c] (h : Confined r s) (k : Confined r t) : Confined r (if c then s else t) := by
  split <;> assumption

theorem foldl {α : Type} {f : State → α → State} {l : List α} (h : Confined r s)
    (hf : ∀ s a, Confined r s → Confined r (f s a)) : Confined r (l.foldl f s) := by
  induction l generalizing s with
  | nil => exact h
  | cons a l ih => exact ih (hf s a h)

/-- A fold that carries something beside the state. -/
theorem foldl_fst {α β : Type} {f : State × β → α → State × β} {b : β} {l : List α} (h : Confined r s)
    (hf : ∀ acc a, Confined r acc.1 → Confined r (f acc a).1) : Confined r (l.foldl f (s, b)).1 := by
  induction l generalizing s b with
  | nil => exact h
  | cons a l ih => exact ih (s := (f (s, b) a).1) (b := (f (s, b) a).2) (hf (s, b) a h)

/-! Counters below the PWR block. -/

theorem bump {d : RegDef} {i : Nat} (h : Confined r s) (hd : d.at i < 0xE0000) : Confined r (s.bump d i) where
  tick := h.tick
  high e k hk := (s.wr_other d i 0 _ e k (by omega)).trans (h.high e k hk)

theorem bump64 {d : RegDef} {i n : Nat} (h : Confined r s) (hd : d.at i + 4 < 0xE0000) : Confined r (s.bump64 d i n) where
  tick := h.tick
  high e k hk := (s.setCnt64_other d i _ e k (by omega) (by omega)).trans (h.high e k hk)

theorem hostWrite {a : Nat} {bs : List Byte} (h : Confined r s) : Confined r (s.hostWrite a bs) := h.upd rfl rfl

/-! The trouble log. -/

theorem addLog {e : LogEntry} (h : Confined r s) : Confined r (s.addLog e) := by
  unfold State.addLog
  exact ite (ite (h.upd rfl rfl) (bump (h.upd rfl rfl) (by decide))) h

theorem event {c n : Nat} {l : List Nat} (h : Confined r s) : Confined r (s.event c n l) :=
  (h.addLog.ite h).upd rfl rfl

theorem logFault {c : Nat} {a b : FClass} {i : FaultInfo} (h : Confined r s) : Confined r (s.logFault c a b i) := by
  have counted : Confined r (if b = .i then s.bump GRD_REACT_COUNT 0 else s) := (h.bump (by decide)).ite h
  unfold State.logFault
  dsimp only
  split
  · exact counted.upd rfl rfl
  · exact counted.addLog.ite counted.addLog.event

theorem raiseI {c : Nat} {i : FaultInfo} (h : Confined r s) : Confined r (s.raiseI c i) := logFault (h.upd rfl rfl)

/-! The dispatcher. -/

theorem setThread {n : Nat} {x : Thread} (h : Confined r s) : Confined r (s.setThread n x) := h.upd rfl rfl
theorem setCore {n : Nat} {x : Core} (h : Confined r s) : Confined r (s.setCore n x) := h.upd rfl rfl

theorem trace {a b c d : Nat} {e : Option Nat} {f : Thread} (h : Confined r s) : Confined r (s.trace a b c d e f) := by
  have lost : Confined r (s.bump SCH_TRACE_LOST_COUNT) := h.bump (by decide)
  have dram (a : Nat) (bs : List Byte) : Confined r (s.dramWrite a bs) := h.upd rfl rfl
  unfold State.trace
  exact ite (upd (ite (ite (dram _ _) lost) (ite h.hostWrite lost)) rfl rfl) h

theorem markReady {n : Nat} (h : Confined r s) : Confined r (s.markReady n) := h.setThread.trace
theorem runOn {n c : Nat} (h : Confined r s) : Confined r (s.runOn n c) := h.setThread.setCore.bump64 (by decide)

theorem dispatchOn {c : Nat} (h : Confined r s) : Confined r (s.dispatchOn c) := by
  unfold State.dispatchOn
  refine ite ?_ h
  split
  · exact h
  · exact h.runOn.trace

theorem dispatch (h : Confined r s) : Confined r s.dispatch := h.foldl fun _ _ h => h.dispatchOn

theorem preempt {m n : Nat} (h : Confined r s) : Confined r (State.preempt m s n) := by
  induction m generalizing s n with
  | zero => exact h
  | succ m ih =>
    unfold State.preempt
    refine ite ?_ h
    split
    · exact h
    · exact ite (ih (h.setThread.setCore.runOn.bump (by decide)).trace.dispatch) h

theorem seatThreads {l : List Nat} (h : Confined r s) : Confined r (s.seatThreads l) :=
  (h.ite h.dispatch).foldl fun _ _ h => h.preempt

theorem countDown {acc : State × List Nat} {n : Nat} (h : Confined r acc.1) : Confined r (State.countDown acc n).1 := by
  obtain ⟨s, ready⟩ := acc
  unfold State.countDown
  dsimp only
  split
  · exact h
  · split
    · split
      · exact raiseI (bump h (by decide))
      · exact setThread h
    · split
      · exact (setThread h).markReady
      · exact setThread h

theorem decBound {b : Bound} (h : Confined r s) : Confined r (s.decBound b) :=
  (h.foldl_fst fun _ _ h => h.countDown).seatThreads

/-! Completions. -/

theorem returnCells {l : List Nat} (h : Confined r s) : Confined r (s.returnCells l) :=
  h.of_onlyIn (s.returnCells_onlyIn l) (by decide) (by decide)
theorem dropJob {n : Nat} (h : Confined r s) : Confined r (s.dropJob n) :=
  (h.returnCells (l := ((s.job? n).map (·.cells)).getD [])).upd rfl rfl
theorem leaveEngines {n : Nat} (h : Confined r s) : Confined r (s.leaveEngines n) := h.upd rfl rfl
theorem modJob {n : Nat} {f : Job → Job} (h : Confined r s) : Confined r (s.modJob n f) := h.upd rfl rfl
theorem freeJobCells {n st : Nat} (h : Confined r s) : Confined r (s.freeJobCells n st) := (h.ite h.returnCells).modJob
theorem setCq {n : Nat} {q : Cq} (h : Confined r s) : Confined r (s.setCq n q) := h.upd rfl rfl
theorem modChan {n : Nat} {f : Channel → Channel} (h : Confined r s) : Confined r (s.modChan n f) := h.upd rfl rfl

theorem noteRecord {c : Cpl} {pi : Nat} (h : Confined r s) : Confined r (s.noteRecord c pi) := by
  unfold State.noteRecord
  refine ite ?_ h
  dsimp only
  split
  · exact h
  · split
    · exact h
    · exact h.upd rfl rfl

theorem writeCpl {n : Nat} {c : Cpl} (h : Confined r s) : Confined r (s.writeCpl n c) := by
  have entry : Confined r (s.putEntry (s.cqAt n) (s.cq n).pi (c.bytes 0 s.tick32)).1 := h.upd rfl rfl
  have counted := entry.bump64 (d := HIF_CPL_POST_COUNT) (i := 0) (n := 1) (by decide)
  have written := (counted.decBound (b := .completion n)).noteRecord (c := c) (pi := (s.cq n).pi)
  exact ite (written.setCq.of_onlyIn (State.signal_onlyIn _ n) (by decide) (by decide)) written.setCq

theorem postCpl {n : Nat} {c : Cpl} {rsv : Bool} (h : Confined r s) : Confined r (s.postCpl n c rsv).1 := by
  generalize hp : s.postCpl n c rsv = p
  unfold State.postCpl at hp
  split at hp
  · exact hp ▸ h
  · split at hp
    · exact hp ▸ h.bump (by decide)
    · extract_lets q kept at hp
      have hkept : Confined r kept := h.setCq.ite h
      split at hp
      · exact hp ▸ hkept
      · exact hp ▸ hkept.writeCpl

theorem postJob {j : Job} {c : Cpl} (h : Confined r s) : Confined r (s.postJob j c) := by
  have posted := h.postCpl (n := j.cq) (c := c) (rsv := j.reserved)
  unfold State.postJob
  refine ite h.modJob ?_
  split
  · next e => rw [e] at posted; exact posted.dropJob
  · next e => rw [e] at posted; exact posted.dropJob
  · next e =>
    rw [e] at posted
    split
    · exact (posted.bump (by decide)).dropJob
    · exact posted.modJob
    · exact posted.modJob

theorem countCpl {st : Nat} (h : Confined r s) : Confined r (s.countCpl st) := by
  unfold State.countCpl
  split
  · exact h.bump (by decide)
  · exact h.bump (by decide)
  · exact h.bump (by decide)
  · exact h.bump (by decide)
  · exact h

theorem endJob {n : Nat} {e : End} (h : Confined r s) : Confined r (s.endJob n e) := by
  unfold State.endJob
  split
  · exact h
  · dsimp only
    split
    · exact h.freeJobCells
    · exact h.freeJobCells.countCpl.postJob
    · exact h.freeJobCells.countCpl.postJob
    · exact h.freeJobCells.leaveEngines.countCpl.decBound.postJob

/-! Exports and the engines. -/

theorem exportNow {n : Nat} (h : Confined r s) : Confined r (s.exportNow n) := by
  unfold State.exportNow
  split
  · exact h
  · split
    · exact h.modChan
    · exact (h.hostWrite.ite h).modChan.endJob

theorem exportBefore {j : Job} (h : Confined r s) : Confined r (s.exportBefore j) := (h.exportNow.ite h).ite h

theorem engines {l : List SynEngine} {n : Nat} (h : Confined r s) : Confined r { s with engines := l, fresh := n } :=
  h.upd rfl rfl

theorem takeSegment {e n : Nat} (h : Confined r s) : Confined r (s.takeSegment e n) := by
  unfold State.takeSegment
  split
  · exact h.exportBefore.modJob.engines
  · exact h.modJob.engines

theorem feedEngine {e : Nat} (h : Confined r s) : Confined r (s.feedEngine e) := by
  unfold State.feedEngine
  refine ite h ?_
  split
  · exact h.upd rfl rfl
  · split
    · exact h
    · exact h.takeSegment

theorem feedEngines (h : Confined r s) : Confined r s.feedEngines :=
  ite ((h.upd rfl rfl : Confined r s.progress.stall).foldl fun _ _ h => h.feedEngine) h

end Confined

end Sys2Proof.Machine
end

section
namespace Sys2Proof.Machine

/-! Work begins: the engines take up work and the compositor starts (R27, R284). -/

/-- What the engines change when they take up work and no CHAN_EXPORT waits. -/
abbrev feedParts : List Part := [.engines, .hif, .fresh]

/-- No CHAN_EXPORT waits. -/
def State.noExport (s : State) : Prop := ∀ n, (s.chan n).exporting = none

theorem State.noExport_congr {s t : State} (h : t.chans = s.chans) (k : s.noExport) : t.noExport := fun n => by
  rw [State.chan, h]; exact k n

theorem State.exportBefore_of_noExport {s : State} (h : s.noExport) (j : Job) : s.exportBefore j = s := by
  have now : s.exportNow j.desc.channel = s := by unfold State.exportNow; rw [h]
  simp [State.exportBefore, State.exportDue, now]

theorem State.modJob_onlyIn (s : State) (n : Nat) (f : Job → Job) : OnlyIn [.hif] s (s.modJob n f) := by
  intro p; cases p <;> first | exact .inr rfl | exact .inl (by decide)

theorem State.takeSegment_onlyIn {s : State} (h : s.noExport) (e n : Nat) : OnlyIn feedParts s (s.takeSegment e n) := by
  have taken (f : Job → Job) : OnlyIn feedParts s (s.modJob n f) := (s.modJob_onlyIn n f).mono (by decide)
  unfold State.takeSegment
  split
  · rw [State.exportBefore_of_noExport h]
    exact (taken _).engines (by decide) (by decide)
  · exact (taken _).engines (by decide) (by decide)

theorem State.feedEngine_onlyIn {s : State} (h : s.noExport) (e : Nat) : OnlyIn feedParts s (s.feedEngine e) := by
  unfold State.feedEngine
  refine .ite (.refl _ s) ?_
  split
  · intro p; cases p <;> first | exact .inr rfl | exact .inl (by decide)
  · split
    · exact .refl _ s
    · exact State.takeSegment_onlyIn h _ _

theorem State.feedEngines_onlyIn {s : State} (h : s.noExport) : OnlyIn feedParts s s.feedEngines := by
  have come : OnlyIn feedParts s s.progress.stall := by
    intro p; cases p <;> first | exact .inr rfl | exact .inl (by decide)
  refine .ite (List.foldlRecOn (motive := OnlyIn feedParts s) _ _ come fun u fed e _ => ?_) (.refl _ s)
  exact fed.trans (State.feedEngine_onlyIn (State.noExport_congr (fed.chans_eq (by decide)) h) e)

theorem State.startCompositor_onlyIn (s : State) : OnlyIn [.tick, .displays] s s.startCompositor := by
  have begun := (OnlyIn.refl [.tick, .displays] s).tick (x := { s.tick with cmpStarted := true }) (by decide)
  unfold State.startCompositor
  refine .ite (.refl _ s) ?_
  dsimp only
  split
  · exact begun
  · refine begun.trans ?_
    intro p; cases p <;> first | exact .inr rfl | exact .inl (by decide)

theorem State.maybeCompose_onlyIn (s : State) : OnlyIn [.tick, .displays] s s.maybeCompose :=
  .ite s.startCompositor_onlyIn (.refl _ s)

/-- The start of the compositor moves neither the window nor the tick number. -/
theorem State.maybeCompose_tick (s : State) :
    s.maybeCompose.tick.window = s.tick.window ∧ s.maybeCompose.tick.number = s.tick.number := by
  unfold State.maybeCompose State.startCompositor
  split
  · split
    · exact ⟨rfl, rfl⟩
    · dsimp only
      split
      · exact ⟨rfl, rfl⟩
      · exact ⟨rfl, rfl⟩
  · exact ⟨rfl, rfl⟩

/-- The window becomes the work window. -/
def State.inWork (s : State) : State := { s with tick := { s.tick with window := .work } }

/-- Work begins. -/
def State.beginWork (s : State) : State := s.inWork.feedEngines.maybeCompose

theorem State.beginWork_spec (s : State) :
    s.beginWork.tick.window = .work ∧ s.beginWork.tick.number = s.tick.number ∧
    s.beginWork.rd PWR_SETTLE_LATE_COUNT = s.rd PWR_SETTLE_LATE_COUNT ∧ Steady s s.beginWork := by
  have fed := (Confined.refl s.inWork).feedEngines
  have opened : Steady s s.inWork := (Steady.refl s).rest
  obtain ⟨window, number⟩ := s.inWork.feedEngines.maybeCompose_tick
  refine ⟨window.trans (congrArg Tick.window fed.tick), number.trans ((congrArg Tick.number fed.tick).trans rfl), ?_,
    opened.feedEngines.maybeCompose⟩
  exact (State.rd_congr ((State.maybeCompose_onlyIn _).regs_eq (by decide)) _ _).trans (fed.rd (by decide))

theorem State.beginWork_onlyIn {s : State} (h : s.noExport) :
    OnlyIn [.engines, .tick, .hif, .displays, .fresh] s s.beginWork := by
  have opened : OnlyIn [.engines, .tick, .hif, .displays, .fresh] s s.inWork := (OnlyIn.refl _ s).tick (by decide)
  exact (opened.step (State.feedEngines_onlyIn (State.noExport_congr (opened.chans_eq (by decide)) h)) (by decide)).step
    (State.maybeCompose_onlyIn _) (by decide)

/-! The work window (R27, R446). -/

theorem State.toOffset_onlyIn (s : State) (ns : Nat) : OnlyIn [.clock] s (s.toOffset ns) := s.advanceTo_onlyIn _

theorem State.le_toOffset (s : State) (ns : Nat) : s.tick.edgePs + 1000 * ns ≤ (s.toOffset ns).clock.ps := s.le_advanceTo _

/-- The settle flag is late: the fault is raised and counted. -/
def State.settleMissed (s : State) : State := (s.raiseI 0x0302).bump PWR_SETTLE_LATE_COUNT

theorem State.settleMissed_onlyIn (s : State) : OnlyIn [.regs, .log, .hif, .guard] s s.settleMissed :=
  (s.raiseI_onlyIn 0x0302 {}).step (State.bump_onlyIn _ _ _) (by decide)

theorem State.settleMissed_count (s : State) :
    s.settleMissed.rd PWR_SETTLE_LATE_COUNT = bump32 (s.rd PWR_SETTLE_LATE_COUNT) :=
  (State.rd_bump_same _ _ _).trans (congrArg bump32 ((Confined.refl s).raiseI.rd (by decide)))

theorem State.settleMissed_status (s : State) : bitAt (s.settleMissed.fstat 3) 1 = true := by
  refine ((Steady.refl (s.setStatus 0x0302)).logFault.bump : Steady _ s.settleMissed).status 3 1 ?_
  rw [State.bitAt_setStatus]
  simp

theorem State.openWork_of_not {s : State} (h : s.tick.window ≠ .decided) : s.openWork = s := if_pos (.inr h)

theorem State.openWork_eq {s : State} (hs : s.tick.stopped = false) (hw : s.tick.window = .decided) : s.openWork =
    (if s.pwr.settled then s.toOffset 150000 else (s.toOffset 150000).settleMissed).beginWork := by
  have pwr : (s.toOffset 150000).pwr = s.pwr := (s.toOffset_onlyIn _).pwr_eq (by decide)
  unfold State.openWork
  rw [if_neg (by simp [hs, hw])]
  dsimp only
  rw [pwr]
  rfl

theorem State.openWork_settled {s : State} (hs : s.tick.stopped = false) (hw : s.tick.window = .decided)
    (hp : s.pwr.settled = true) : s.openWork.tick.window = .work ∧ s.openWork.tick.number = s.tick.number ∧
      s.tick.edgePs + 150000000 ≤ s.openWork.clock.ps ∧
      (s.noExport → OnlyIn [.engines, .clock, .tick, .hif, .displays, .fresh] s s.openWork) := by
  have due := s.toOffset_onlyIn 150000
  have reached := s.le_toOffset 150000
  rw [State.openWork_eq hs hw, if_pos hp]
  obtain ⟨window, number, -, steady⟩ := (s.toOffset 150000).beginWork_spec
  refine ⟨window, number.trans (congrArg Tick.number (due.tick_eq (by decide))), ?_, fun he => ?_⟩
  · rw [steady.clock]; omega
  · have begun := State.beginWork_onlyIn (State.noExport_congr (due.chans_eq (by decide)) he)
    exact (due.mono (by decide)).step begun (by decide)

theorem State.openWork_late {s : State} (hs : s.tick.stopped = false) (hw : s.tick.window = .decided)
    (hp : s.pwr.settled = false) : s.openWork.tick.window = .work ∧ s.openWork.tick.number = s.tick.number ∧
      s.tick.edgePs + 150000000 ≤ s.openWork.clock.ps ∧
      s.openWork.rd PWR_SETTLE_LATE_COUNT = bump32 (s.rd PWR_SETTLE_LATE_COUNT) ∧ bitAt (s.openWork.fstat 3) 1 = true ∧
      (s.noExport → s.openWork.pwr = s.pwr) := by
  have due := s.toOffset_onlyIn 150000
  have reached := s.le_toOffset 150000
  rw [State.openWork_eq hs hw, if_neg (by simp [hp])]
  generalize s.toOffset 150000 = u at due reached ⊢
  have missed : OnlyIn [.clock, .regs, .log, .hif, .guard] s u.settleMissed :=
    (due.mono (by decide)).step u.settleMissed_onlyIn (by decide)
  obtain ⟨window, number, count, steady⟩ := u.settleMissed.beginWork_spec
  refine ⟨window, number.trans (congrArg Tick.number (missed.tick_eq (by decide))), ?_, ?_,
    steady.status 3 1 u.settleMissed_status, fun he => ?_⟩
  · rw [steady.clock, u.settleMissed_onlyIn.clock_eq (by decide)]; omega
  · rw [count, u.settleMissed_count, State.rd_congr (due.regs_eq (by decide))]
  · exact ((State.beginWork_onlyIn (State.noExport_congr (missed.chans_eq (by decide)) he)).pwr_eq (by decide)).trans
      (missed.pwr_eq (by decide))

theorem State.workWindowStart_gives {s : State} (hs : s.tick.stopped = false) (hw : s.tick.window = .decided) :
    Gives .workWindowStart s (fun t => t.tick.window = .work ∧ t.tick.number = s.tick.number ∧
      s.tick.edgePs + 150000000 ≤ t.clock.ps ∧
      (s.pwr.settled = true → s.noExport → OnlyIn [.engines, .clock, .tick, .hif, .displays, .fresh] s t) ∧
      (s.pwr.settled = false → t.rd PWR_SETTLE_LATE_COUNT = bump32 (s.rd PWR_SETTLE_LATE_COUNT) ∧
        bitAt (t.fstat 3) 1 = true)) := by
  cases hp : s.pwr.settled with
  | true =>
    obtain ⟨window, number, reached, only⟩ := State.openWork_settled hs hw hp
    exact ⟨_, rfl, window, number, reached, fun _ he => (only he).settle, fun c => (nomatch c)⟩
  | false =>
    obtain ⟨window, number, reached, count, status, -⟩ := State.openWork_late hs hw hp
    exact ⟨_, rfl, window, number, reached, fun c => (nomatch c), fun _ => ⟨count, status⟩⟩

theorem State.settleLate_gives {s : State} (hs : s.tick.stopped = false) (hw : s.tick.window = .decided)
    (hp : s.pwr.settled = false) : Gives .settleLate s (fun t => t.tick.window = .work ∧ (s.noExport → t.pwr = s.pwr) ∧
      t.rd PWR_SETTLE_LATE_COUNT = bump32 (s.rd PWR_SETTLE_LATE_COUNT) ∧ bitAt (t.fstat 3) 1 = true) := by
  obtain ⟨window, -, -, count, status, pwr⟩ := State.openWork_late hs hw hp
  have late : s.settleLate = s.openWork := if_neg (by simp [hp])
  exact ⟨_, congrArg done late, window, pwr, count, status⟩

/-! The guard window (R59, R62, R86). -/

/-- A job after the cut of job `n`. -/
def Job.cutAs (n : Nat) (j : Job) : Job := if j.id = n then { j with cut := true, cutRow := 0 } else j

theorem Job.cutAs_spec (n : Nat) (j : Job) : (j.cutAs n).id = j.id ∧ (j.cutAs n).phase = j.phase ∧
    (j.cut = true ∨ j.id = n → (j.cutAs n).cut = true) := by
  unfold Job.cutAs
  split
  · exact ⟨rfl, rfl, fun _ => rfl⟩
  · next h => exact ⟨rfl, rfl, fun c => c.resolve_right h⟩

theorem State.countSegments_onlyIn (s : State) (n : Nat) : OnlyIn [.regs] s (s.countSegments n) := by
  unfold State.countSegments
  split
  · exact .refl _ s
  · exact .ite (s.bump64_onlyIn _ _ _) (.refl _ s)

theorem State.cutJob_onlyIn (s : State) (n : Nat) : OnlyIn [.regs, .hif] s (s.cutJob n) := by
  unfold State.cutJob
  split
  · exact .refl _ s
  · have cut := ((s.countSegments_onlyIn n).mono (by decide)).step (State.modJob_onlyIn (s.countSegments n) n
      fun j => { j with cut := true, cutRow := 0 }) (qs := [.hif]) (ps := [.regs, .hif]) (by decide)
    exact .ite cut (cut.step (State.bump_onlyIn _ _ _) (by decide))

/-- A cut job is cut wherever it stands in the job table, and no other is. -/
theorem State.cutJob_jobs (s : State) (n : Nat) : (s.cutJob n).hif.jobs = s.hif.jobs.map (Job.cutAs n) := by
  unfold State.cutJob
  split
  · next h =>
    have same (j : Job) (hj : j ∈ s.hif.jobs) : j.cutAs n = j :=
      if_neg fun c => List.find?_eq_none.mp h j (List.mem_append_left _ hj) (by simp [c])
    exact ((List.map_congr_left same).trans (List.map_id' _)).symm
  · have kept := (s.countSegments_onlyIn n).hif_eq (by decide)
    split
    · exact congrArg (fun h => h.jobs.map (Job.cutAs n)) kept
    · exact congrArg (fun h => h.jobs.map (Job.cutAs n)) kept

/-- After the cuts of several jobs each job of the table has the number and phase that it had, and each of these is cut. -/
theorem State.cutJobs_jobs (l : List Job) (s : State) {j : Job}
    (hj : j ∈ (l.foldl (fun s k => s.cutJob k.id) s).hif.jobs) :
    ∃ i ∈ s.hif.jobs, i.id = j.id ∧ i.phase = j.phase ∧ (i.cut = true ∨ i.id ∈ l.map (·.id) → j.cut = true) := by
  induction l generalizing s with
  | nil => exact ⟨j, hj, rfl, rfl, fun c => c.resolve_right (by simp)⟩
  | cons k l ih =>
    obtain ⟨i', hi', id', phase', cut'⟩ := ih (s.cutJob k.id) hj
    rw [State.cutJob_jobs, List.mem_map] at hi'
    obtain ⟨i, hi, rfl⟩ := hi'
    obtain ⟨id, phase, cut⟩ := i.cutAs_spec k.id
    refine ⟨i, hi, id.symm.trans id', phase.symm.trans phase', fun c => cut' ?_⟩
    rw [List.map_cons, List.mem_cons] at c
    rcases c with c | c | c
    · exact .inl (cut (.inl c))
    · exact .inl (cut (.inr c))
    · exact .inr (by rw [id]; exact c)

theorem State.cutCompose_onlyIn (s : State) (d : Nat) : OnlyIn [.regs, .tick] s (s.cutCompose d) := by
  have cut := (OnlyIn.refl [.regs, .tick] s).tick (x := { s.tick with composing := ldel s.tick.composing d }) (by decide)
  exact .ite (cut.step (State.bump_onlyIn _ _ _) (by decide)) (.refl _ s)

theorem State.cutCompose_window (s : State) (d : Nat) : (s.cutCompose d).tick.window = s.tick.window := by
  unfold State.cutCompose
  split
  · rfl
  · rfl

theorem State.patrolStep_onlyIn (s : State) : OnlyIn [.mem] s s.patrolStep :=
  .ite ((OnlyIn.refl _ s).mem (by decide)) (.refl _ s)

/-- The guard-window stop leaves every engine idle and what they worked on cut. -/
theorem State.guardStop_spec (s : State) :
    s.guardStop.tick.window = s.tick.window ∧ (∀ e ∈ s.guardStop.engines, e.job = none ∧ e.saved = []) ∧
    (∀ j ∈ s.guardStop.hif.jobs, j.phase = .admitted → j.cut = true) ∧
    OnlyIn [.regs, .engines, .tick, .hif] s s.guardStop := by
  generalize hl : (s.hif.jobs ++ s.hif.live).filter (fun j => decide (j.phase = .admitted)) = busy
  generalize hc : busy.foldl (fun s (j : Job) => s.cutJob j.id) s = c
  have cut : OnlyIn [.regs, .hif] s c := hc ▸ .foldl _ (fun s (j : Job) => s.cutJob_onlyIn j.id) _ s
  have stop : s.guardStop =
      [0, 1, 2].foldl (fun s d => s.cutCompose d) { c with engines := c.engines.map SynEngine.idle } := by
    rw [← hc, ← hl]; rfl
  rw [stop]
  have idle : OnlyIn [.engines] c { c with engines := c.engines.map SynEngine.idle } := by
    intro p; cases p <;> first | exact .inr rfl | exact .inl (by decide)
  have composed := OnlyIn.foldl (fun s d => s.cutCompose d) State.cutCompose_onlyIn [0, 1, 2]
    { c with engines := c.engines.map SynEngine.idle }
  refine ⟨?_, fun e he => ?_, fun j hj hp => ?_, ?_⟩
  · simp only [List.foldl_cons, List.foldl_nil, State.cutCompose_window]
    exact congrArg Tick.window (cut.tick_eq (by decide))
  · rw [composed.engines_eq (by decide)] at he
    obtain ⟨e', -, rfl⟩ := List.mem_map.mp he
    exact ⟨rfl, rfl⟩
  · rw [composed.hif_eq (by decide)] at hj
    obtain ⟨i, hi, id, phase, isCut⟩ := State.cutJobs_jobs busy s (hc ▸ hj)
    refine isCut (.inr (List.mem_map_of_mem ?_))
    rw [← hl]
    exact List.mem_filter.mpr ⟨List.mem_append_left _ hi, by simp [phase, hp]⟩
  · exact ((cut.mono (by decide)).step idle (by decide)).step composed (by decide)

/-- The state in which the guard window starts, before the engines stop. -/
def State.guardDue (s : State) : State :=
  ({ s.toOffset (guardAt s.tick.periodNs) with
      tick := { (s.toOffset (guardAt s.tick.periodNs)).tick with window := .guard } } : State).patrolStep

theorem State.guardDue_spec (s : State) : s.guardDue.tick.window = .guard ∧ s.guardDue.isActive = s.isActive ∧
    s.tick.edgePs + 1000 * guardAt s.tick.periodNs ≤ s.guardDue.clock.ps ∧ OnlyIn [.clock, .tick, .mem] s s.guardDue := by
  have due := s.toOffset_onlyIn (guardAt s.tick.periodNs)
  have reached := s.le_toOffset (guardAt s.tick.periodNs)
  unfold State.guardDue
  generalize s.toOffset (guardAt s.tick.periodNs) = u at due reached ⊢
  have patrol := State.patrolStep_onlyIn { u with tick := { u.tick with window := .guard } }
  have only : OnlyIn [.clock, .tick, .mem] s ({ u with tick := { u.tick with window := .guard } } : State).patrolStep :=
    ((due.mono (by decide)).tick (by decide)).step patrol (by decide)
  refine ⟨congrArg Tick.window (patrol.tick_eq (by decide)), ?_, ?_, only⟩
  · simp only [State.isActive, only.sys_eq (by decide)]
  · rw [patrol.clock_eq (by decide)]; exact reached

theorem State.openGuard_eq {s : State} (hs : s.tick.stopped = false) (hw : s.tick.window ≠ .guard) :
    s.openGuard = (if s.guardDue.isActive then s.guardDue.guardStop else s.guardDue).hwFlag 3 := if_neg (by simp [hs, hw])

theorem State.guardWindowStart_gives {s : State} (hs : s.tick.stopped = false) (hw : s.tick.window ≠ .guard) :
    Gives .guardWindowStart s (fun t => t.tick.window = .guard ∧
      s.tick.edgePs + 1000 * guardAt s.tick.periodNs ≤ t.clock.ps ∧
      (s.isActive = true → (∀ e ∈ t.engines, e.job = none ∧ e.saved = []) ∧
        ∀ j ∈ t.hif.jobs, j.phase = .admitted → j.cut = true) ∧
      OnlyIn [.regs, .engines, .clock, .tick, .hif, .mem, .sch] s t) := by
  obtain ⟨window, active, reached, due⟩ := s.guardDue_spec
  obtain ⟨stopWindow, idle, cut, stop⟩ := s.guardDue.guardStop_spec
  have opened := State.openGuard_eq hs hw
  rw [active] at opened
  cases ha : s.isActive with
  | true =>
    rw [if_pos ha] at opened
    have flag := s.guardDue.guardStop.hwFlag_onlyIn 3
    rw [← opened] at flag
    refine ⟨_, rfl, ?_, ?_, fun _ => ⟨?_, ?_⟩, ?_⟩
    · exact (congrArg Tick.window (flag.tick_eq (by decide))).trans (stopWindow.trans window)
    · simp only [State.settle_clock, flag.clock_eq (by decide), stop.clock_eq (by decide)]; exact reached
    · simp only [State.settle_engines, flag.engines_eq (by decide)]; exact idle
    · simp only [State.settle_hif, flag.hif_eq (by decide)]; exact cut
    · exact (((due.mono (by decide)).step stop (by decide)).step flag (by decide)).settle
  | false =>
    rw [if_neg (by simp [ha])] at opened
    have flag := s.guardDue.hwFlag_onlyIn 3
    rw [← opened] at flag
    refine ⟨_, rfl, (congrArg Tick.window (flag.tick_eq (by decide))).trans window, ?_, fun c => (nomatch c), ?_⟩
    · simp only [State.settle_clock, flag.clock_eq (by decide)]; exact reached
    · exact ((due.mono (by decide)).step flag (by decide)).settle

/-! The TICK_OUT pulse (R58). -/

/-- No column of Table 19.3 drives a low pad of RUN and IDLE high. -/
theorem PadPhase.run_false_ne_high (p : PadPhase) : p.run false ≠ .high := by cases p <;> decide

theorem State.tickOutPulseEnd_gives {s : State} (h : s.tick.out = true) : Gives .tickOutPulseEnd s (fun t =>
    t.tick.out = false ∧ t.pads.tickOut ≠ .high ∧
    s.tick.edgePs + 1000000 * atLeast1 (s.fld TCK_CTL 15 8) ≤ t.clock.ps ∧
    s.clock.ps ≤ t.clock.ps ∧ OnlyIn [.clock, .tick] s t) := by
  have due := s.toOffset_onlyIn (1000 * atLeast1 (s.fld TCK_CTL 15 8))
  have reached := s.le_toOffset (1000 * atLeast1 (s.fld TCK_CTL 15 8))
  have forward : s.clock.ps ≤ (s.toOffset (1000 * atLeast1 (s.fld TCK_CTL 15 8))).clock.ps := s.advanceTo_le _
  have ended : s.tickOutEnd = _ := if_pos h
  generalize s.toOffset (1000 * atLeast1 (s.fld TCK_CTL 15 8)) = u at due reached forward ended
  refine ⟨_, congrArg done ended, rfl, PadPhase.run_false_ne_high _, ?_, forward,
    ((due.mono (by decide)).tick (by decide)).settle⟩
  show s.tick.edgePs + 1000000 * atLeast1 (s.fld TCK_CTL 15 8) ≤ u.clock.ps
  omega

/-- Settles O29, one lemma per command: a CHAN_EXPORT that falls due as work begins moves neither the tick nor the count of
late settling (`Confined`), work begins after a decision only, and the guard window opens once. -/
theorem tickWindowsOpenAndClose : Obligations.TickWindowsOpenAndClose := by
  refine ⟨fun s hs => ⟨fun hw => ⟨State.workWindowStart_gives hs hw, State.settleLate_gives hs hw⟩, fun hw => ⟨?_, ?_⟩,
    State.guardWindowStart_gives hs, fun hw => congrArg done (if_pos (.inr hw))⟩,
    fun s => ⟨fun h => congrArg done (if_neg (by simp [h])), State.tickOutPulseEnd_gives⟩⟩
  · exact congrArg done (State.openWork_of_not hw)
  · exact congrArg done (by rw [State.settleLate, State.openWork_of_not hw, ite_self])

end Sys2Proof.Machine
end

section
namespace Sys2Proof.Machine

/-! A source in force without a phase (R54). -/

/-- A timer that is in none of the states of a source takes no note of an edge that passes. -/
theorem State.missEdge_of_internal {s : State} (h : s.tick.srcState = 0) : s.missEdge.tick.missed = s.tick.missed := by
  have noted (u : State) (hu : u.tick = s.tick) : u.edgeMissed.tick.missed = s.tick.missed := by
    rw [State.edgeMissed, hu, h]
    exact congrArg Tick.missed hu
  unfold State.missEdge
  split
  · rfl
  · dsimp only
    split
    · exact noted s rfl
    · exact noted _ rfl

/-- A module in RUN with TICK_IN in force, whose timer is still in the state of the internal source. -/
def internalTimerState : State :=
  { State.reset with
    sys := { Sys.reset with bootStage := 7 }
    power := { Power.reset with mode := .run }
    tick := { Tick.reset with stopped := false, src := 1, srcState := 0 } }

/-- Refutes O33: the clause of the first edge that passes does not name the timer's state. In `internalTimerState` a source is in
force and ticks come, but the timer is internal, and the edge is not remembered. -/
theorem not_sourceEdgesSteerTimer : ¬ Obligations.SourceEdgesSteerTimer := by
  intro h
  obtain ⟨-, passes, -⟩ := h.2 internalTimerState
  obtain ⟨t, ht, missed, -⟩ := passes (by decide) (by decide) (by decide)
  have answer : exec .predictedEdgeMissed internalTimerState = .next internalTimerState.missEdge.settle := rfl
  cases answer.symm.trans ht
  exact absurd ((State.missEdge_of_internal rfl).symm.trans missed) (by decide)

end Sys2Proof.Machine
end

section
namespace Sys2Proof.Machine

/-! A decode whose completion ring has a number that no ring has. -/

/-- A JPEG header of a process that the module does not decode (Table 6.4, reason 0x90). -/
def progressiveHeader : Header :=
  { width := 64, height := 64, codedWidth := 64, codedHeight := 64, profile := 0, level := 0, highTier := false,
    interlaced := false, sliceGroups := false, chroma := 1, depth := 8, dpb := 0, layered := false, jBaseline := false,
    jArithmetic := false, jPrec8 := true, jSampling := true, jDnl := false }

/-- The access unit that carries it. -/
def progressiveAu : Au :=
  { bits := 8000, width := 64, height := 64, segments := 1, irap := true, reference := false, poc := 0, rows := 8,
    header := some progressiveHeader, incomplete := false }

/-- A report of the engines that found nothing: the header refuses the picture. -/
def emptyReport : DecReport :=
  { syntax_ := [], missing := [], wanted := [], lost := [], blockW := 8, blockH := 8, vectors := [], list0 := none,
    idr := false, noPrior := false, shown := true, refs := [], reorder := 0, redundant := 0, planes := [] }

/-- A decode on the engines whose completion goes to ring 0x3F01. -/
def farRingJob : Job :=
  { Job.blank 0 .host 0 0x3F01 { descOf [] with opcode := 0x10 } 2 0 with
    phase := .admitted, ready := true, au := some progressiveAu }

/-- A module in ACTIVE, in the work window, with `farRingJob` on the engines. Fifteen headers have been refused; the ring holds one
entry. -/
def farRingState : State :=
  { State.reset with
    sys := { Sys.reset with bootStage := 7, cfg := .active }
    power := { Power.reset with mode := .run }
    bus := { Bus.reset with linkGen := 3, linkWidth := 4, bme := true }
    tick := { Tick.reset with stopped := false, window := .work }
    hif := { Hif.reset with nextJob := 1, jobs := [farRingJob], cqs := [(0x3F01, { Cq.reset with pi := 1 })] }
    chans := [(0, { Channel.free with state := 1, kind := 1, codec := 1 })]
    regs := [(DEC_UNSUP_COUNT.at 0, 15)] }

theorem farRingState_noExport (n : Nat) : (farRingState.chan n).exporting = none := by
  simp only [State.chan, farRingState, tget]
  split
  · rfl
  · rfl

/-- HIF_CQ_CFG_0x3F01 would stand at the offset of DEC_UNSUP_COUNT. The count of the refused header, 16, leaves the ring the size
of one entry, so the ended job waits for room. -/
theorem farRingState_waits : ((farRingState.endDecode 0 emptyReport).job? 0).isSome = true := by decide +kernel

/-- Refutes O46: `postable` asks for room in the job's ring and leaves the ring's number open. In `farRingState` the ring's size
is read where the refused header is counted, and the decode does not leave (R240). -/
theorem not_decodeJobsRunAndEnd : ¬ Obligations.DecodeJobsRunAndEnd := by
  intro h
  obtain ⟨-, -, ends, -⟩ := h.2 farRingState 0 farRingJob (by decide)
  obtain ⟨refused, -⟩ := ends progressiveAu emptyReport rfl rfl rfl (by decide) (by decide) farRingState_noExport
  obtain ⟨t, ht, ⟨-, -, left⟩, -⟩ := refused (by decide)
  have answer : exec (.decodeEnd 0 emptyReport) farRingState = .next (farRingState.endDecode 0 emptyReport).settle := rfl
  cases answer.symm.trans ht
  exact absurd farRingState_waits (by rw [show (farRingState.endDecode 0 emptyReport).job? 0 = none from left]; decide)

end Sys2Proof.Machine
end

section
namespace Sys2Proof.Machine

/-! Writes of registers whose value has a range (R49, R503, R577, R580). -/

/-- A plain register of CFG fields alone whose write, where it is taken, is stored as it comes: no GO, no build, no clear, no field
output. -/
def RegDef.stored (d : RegDef) : Bool :=
  decide (d.kind = .plain) && d.allCfg && d.off >>> 15 != 30 &&
    decide (d.off ∉ [SYS_CTL.off, BPM_CTL.off, GRD_FSTAT.off, HIF_STATUS.off, DEC_ROWBUF_CFG.off])

/-- A write at `off` goes to element `i` of such a register. -/
abbrev RegDef.WrittenAt (d : RegDef) (off i : Nat) : Prop :=
  findReg off = some (d, i, 0, 0) ∧ off % 4 = 0 ∧ isSramOffset off = false ∧ isMsixOffset off = false ∧ d.stored = true

section
variable {d : RegDef} {off i : Nat} {s : State} {p : Path}

theorem RegDef.stored_iff : d.stored = true ↔ d.kind = .plain ∧ d.allCfg = true ∧ d.off >>> 15 ≠ 30 ∧ d.off ≠ SYS_CTL.off ∧
    d.off ≠ BPM_CTL.off ∧ d.off ≠ GRD_FSTAT.off ∧ d.off ≠ HIF_STATUS.off ∧ d.off ≠ DEC_ROWBUF_CFG.off := by
  simp [RegDef.stored, and_assoc]

theorem RegDef.has_of_allCfg (hk : d.kind = .plain) (h : d.allCfg = true) :
    d.has .cfg = true ∧ d.has .svc = false ∧ d.has .w1c = false := by
  simpa [RegDef.allCfg, hk, and_assoc] using h

theorem State.writeWord_eq_writeReg (h : d.WrittenAt off i) (hr : s.reaches p off = true) (v : Word) :
    s.writeWord p off v = s.writeReg p d i 0 v.toNat none := by
  obtain ⟨found, aligned, sram, msix, stored⟩ := h
  obtain ⟨hk, -⟩ := RegDef.stored_iff.mp stored
  simp [State.writeWord, hr, aligned, sram, msix, found, hk]

/-- In ACTIVE the write is ignored and counted. -/
theorem State.writeWord_late (h : d.WrittenAt off i) (hr : s.reaches p off = true) (ha : s.isActive = true) (v : Word) :
    s.writeWord p off v = s.bump SYS_LATE_WRITES := by
  rw [State.writeWord_eq_writeReg h hr]
  obtain ⟨-, -, -, -, stored⟩ := h
  obtain ⟨hk, hcfg, -, hgo, hbuild, -⟩ := RegDef.stored_iff.mp stored
  obtain ⟨-, hsvc, hw1c⟩ := RegDef.has_of_allCfg hk hcfg
  simp [State.writeReg, State.countLate, ha, hcfg, hgo, hbuild, hsvc, hw1c]

/-- In CONFIG a value out of range is ignored as a whole and noted. -/
theorem State.writeWord_ignored (h : d.WrittenAt off i) (hr : s.reaches p off = true) (ha : s.isActive = false) {v : Word}
    (hv : s.outOfRange d i v.toNat = true) : s.writeWord p off v = s.noteRange d.off true := by
  rw [State.writeWord_eq_writeReg h hr]
  obtain ⟨-, -, -, -, stored⟩ := h
  obtain ⟨-, -, -, hgo, hbuild, -⟩ := RegDef.stored_iff.mp stored
  simp [State.writeReg, State.countLate, ha, hgo, hbuild, hv]

/-- In CONFIG a value in range is stored, CFG_ERR is cleared, and what hangs on the register follows. -/
theorem State.writeWord_taken (h : d.WrittenAt off i) (hr : s.reaches p off = true) (ha : s.isActive = false) {v : Word}
    (hv : s.outOfRange d i v.toNat = false) : s.writeWord p off v =
      ((s.wr d i 0 (writeFields false v.toNat (s.rd d i) d.fields)).noteRange d.off false).afterCfg d i (s.rd d i) := by
  rw [State.writeWord_eq_writeReg h hr]
  obtain ⟨-, -, -, -, stored⟩ := h
  obtain ⟨hk, hcfg, hfio, hgo, hbuild, hfstat, hlink, hrows⟩ := RegDef.stored_iff.mp stored
  obtain ⟨hhas, hsvc, -⟩ := RegDef.has_of_allCfg hk hcfg
  simp [State.writeReg, State.countLate, State.rowsCut, State.writeW1c, ha, hfio, hgo, hbuild, hfstat, hlink, hrows, hhas, hsvc, hv]

end

theorem writtenAt_TCK : ∀ d ∈ [TCK_PERIOD, TCK_SRC_TOL, TCK_ADM_CTL], d.WrittenAt d.off 0 := by decide

theorem writtenAt_CLK_OUT : ∀ n < 4, CLK_OUT.WrittenAt (CLK_OUT.at n) n := by decide

/-! Fields of a register that has been written. -/

theorem bits_mod_two_pow {v hi lo n : Nat} (h : hi < n) : bits (v % 2 ^ n) hi lo = bits v hi lo :=
  bits_eq_iff.mpr fun k _ hk => by rw [Nat.testBit_mod_two_pow, decide_eq_true (by omega), Bool.true_and]

/-- A field of the register that a write has just stored. -/
theorem State.fld_wr_writeFields (s : State) (d : RegDef) (i j v : Nat) {f : Field} (hf : f ∈ d.fields) (hw : f.access = .cfg)
    (hi : f.hi < 32) (hfs : ∀ f ∈ d.fields, f.lo ≤ f.hi) (hd : d.fields.Pairwise Field.apart) :
    (s.wr d i j (writeFields false v (s.rd d i j) d.fields)).fld d f.hi f.lo i j = bits v f.hi f.lo := by
  rw [State.fld, State.rd_wr_same, bits_mod_two_pow hi, bits_writeFields _ _ _ _ hfs hd f hf,
    if_pos (by simp [Field.writable, hw])]

theorem State.flag_wrFld_clear (s : State) (d : RegDef) {k : Nat} (i j : Nat) (h : k < 32) :
    (s.wrFld d k k 0 i j).flag d k i j = false := by
  rw [State.flag, State.wrFld, State.rd_wr_same, bitAt_mod h, bitAt_putBits _ _ _ _ _ (Nat.le_refl k),
    if_pos ⟨Nat.le_refl k, Nat.le_refl k⟩]
  simp [bitAt]

theorem State.rd_wrFld_other (s : State) (d e : RegDef) (hi lo v i j a b : Nat) (h : e.at a b ≠ d.at i j) :
    (s.wrFld d hi lo v i j).rd e a b = s.rd e a b := s.rd_wr_other d e i j _ a b h

/-- A write leaves a 32-bit register within 32 bits. -/
theorem writeFields_lt (active : Bool) (v : Nat) {old : Nat} {fs : List Field} (h : old < 2 ^ 32)
    (hfs : ∀ f ∈ fs, f.lo ≤ f.hi ∧ f.hi < 32) : writeFields active v old fs < 2 ^ 32 := by
  refine Nat.lt_pow_two_of_testBit _ fun k hk => ?_
  rw [← bitAt_eq_testBit, bitAt_writeFields_outside _ _ _ _ (fun f hf => (hfs f hf).1) k
    (fun f hf => .inr (Nat.lt_of_lt_of_le (hfs f hf).2 hk)), bitAt_eq_testBit]
  exact Nat.testBit_lt_two_pow (Nat.lt_of_lt_of_le h (Nat.pow_le_pow_right (by decide) hk))

/-! The repeated checks of the displays (R294). -/

/-- From `r` to `s` only displays, their clocks and registers have changed, and no register below the DSP block. -/
structure DisplaysOnly (r s : State) : Prop where
  only : OnlyIn [.regs, .displays, .clk] r s
  low : ∀ (e : Word) (k : Nat), k < 0x68000 → tget e s.regs k = tget e r.regs k

namespace DisplaysOnly
variable {r s : State}

theorem refl (s : State) : DisplaysOnly s s := ⟨.refl _ s, fun _ _ _ => rfl⟩

theorem rd (h : DisplaysOnly r s) {d : RegDef} {i : Nat} (hd : d.at i < 0x68000) : s.rd d i = r.rd d i :=
  congrArg BitVec.toNat (h.low _ _ hd)

theorem disableDisplay (h : DisplaysOnly r s) (d err : Nat) : DisplaysOnly r (s.disableDisplay d err) where
  only := (((h.only.step (s.wrFld_onlyIn DSP_CFG 0 0 0 d 0) (by decide)).step (State.wrFld_onlyIn _ DSP_STATUS 11 8 err d 0)
    (by decide)).step (State.panelDown_onlyIn _ d) (by decide)).step (State.setSynth_onlyIn _ (2 + d) _) (by decide)
  low e k hk := by
    have cfg : DSP_CFG.at d 0 = 0x68000 + d * DSP_CFG.stride := rfl
    have status : DSP_STATUS.at d 0 = DSP_STATUS.off + d * DSP_STATUS.stride := rfl
    have above : 0x68000 ≤ DSP_STATUS.off := by decide
    refine ((State.wr_other _ DSP_STATUS d 0 _ e k (by omega)).trans (s.wr_other DSP_CFG d 0 _ e k (by omega))).trans ?_
    exact h.low e k hk

theorem recheckOne {acc : State × Nat} (h : DisplaysOnly r acc.1) (d : Nat) : DisplaysOnly r (State.recheckOne acc d).1 := by
  obtain ⟨s, held⟩ := acc
  unfold State.recheckOne
  dsimp only
  split
  · split
    · exact h
    · exact h.disableDisplay d _
  · exact h

theorem recheckDisplays (h : DisplaysOnly r s) : DisplaysOnly r s.recheckDisplays :=
  List.foldlRecOn (motive := fun acc : State × Nat => DisplaysOnly r acc.1) _ _ h fun _ h d _ => h.recheckOne d

end DisplaysOnly

/-! The tick's registers and the clock outputs. -/

/-- A register of the TCK block as a write in range leaves it, with CFG_ERR clear. -/
def State.tckTaken (s : State) (d : RegDef) (v : Nat) : State :=
  (s.wr d 0 0 (writeFields false v (s.rd d) d.fields)).noteRange d.off false

theorem State.tckTaken_spec (s : State) {d : RegDef} (v : Nat) (hd : d ∈ [TCK_PERIOD, TCK_SRC_TOL, TCK_ADM_CTL]) :
    (s.tckTaken d v).flag TCK_STATUS 16 = false ∧
    (∀ f ∈ d.fields, (s.tckTaken d v).fld d f.hi f.lo = bits v f.hi f.lo) ∧
    (∀ e : RegDef, e.at 0 ≠ d.at 0 → e.at 0 ≠ TCK_STATUS.at 0 → (s.tckTaken d v).rd e = s.rd e) ∧
    OnlyIn [.regs] s (s.tckTaken d v) := by
  have shape : ∀ d ∈ [TCK_PERIOD, TCK_SRC_TOL, TCK_ADM_CTL], d.off >>> 15 = 4 ∧ d.at 0 ≠ TCK_STATUS.at 0 ∧
      (∀ f ∈ d.fields, f.access = .cfg ∧ f.hi < 32 ∧ f.lo ≤ f.hi) ∧ d.fields.Pairwise Field.apart := by decide
  obtain ⟨block, apart, fields, disjoint⟩ := shape d hd
  have noted : s.tckTaken d v = (s.wr d 0 0 (writeFields false v (s.rd d) d.fields)).wrFld TCK_STATUS 16 16 0 := if_pos block
  rw [noted]
  refine ⟨State.flag_wrFld_clear _ _ 0 0 (by decide), fun f hf => ?_, fun e he hs => ?_, ?_⟩
  · obtain ⟨cfg, hi, -⟩ := fields f hf
    rw [State.fld, State.rd_wrFld_other _ _ _ _ _ _ _ _ _ _ apart]
    exact s.fld_wr_writeFields d 0 0 v hf cfg hi (fun f hf => (fields f hf).2.2) disjoint
  · exact (State.rd_wrFld_other _ _ _ _ _ _ _ _ _ _ hs).trans (s.rd_wr_other _ _ _ _ _ _ _ he)
  · exact (s.wr_onlyIn _ _ _ _).trans (State.wrFld_onlyIn _ _ _ _ _ _ _)

/-- After the period the displays are checked again, and their clocks start afresh when it changed. -/
theorem State.afterCfg_period (s : State) (old : Nat) : DisplaysOnly s (s.afterCfg TCK_PERIOD 0 old) := by
  refine DisplaysOnly.recheckDisplays (s := if old = s.period then s
    else { s with displays := s.displays.map fun x : Display => { x with y := 0 } }) ?_
  split
  · exact .refl s
  · exact ⟨fun p => by cases p <;> first | exact .inr rfl | exact .inl (by decide), fun _ _ _ => rfl⟩

theorem State.afterCfg_tolerance (s : State) (old : Nat) : s.afterCfg TCK_SRC_TOL 0 old = s := rfl

theorem State.afterCfg_margins (s : State) (old : Nat) : s.afterCfg TCK_ADM_CTL 0 old = s.recheckDisplays := rfl

theorem State.afterCfg_clockOutput (s : State) (n old : Nat) : s.afterCfg CLK_OUT n old = s := rfl

theorem State.noteRange_clockOutput (s : State) (bad : Bool) : s.noteRange CLK_OUT.off bad = s.wrFld CLK_STATUS 12 12 (b2n bad) := rfl

/-- A value of 32 bits is its one field. -/
theorem bits_word {v : Nat} (h : v < 2 ^ 32) : bits v 31 0 = v := Nat.mod_eq_of_lt h

theorem State.outOfRange_period (s : State) (v : Nat) :
    s.outOfRange TCK_PERIOD 0 v = true ↔ v < 4000000 ∨ 100000000 < v := by
  rw [State.outOfRange, if_pos rfl, Bool.or_eq_true, decide_eq_true_eq, decide_eq_true_eq]

theorem State.outOfRange_margins (s : State) (v : Nat) :
    s.outOfRange TCK_ADM_CTL 0 v = true ↔ 25 < bits v 4 0 ∨ 50 < bits v 13 8 := by
  have range : s.outOfRange TCK_ADM_CTL 0 v = (decide (25 < bits v 4 0) || decide (50 < bits v 13 8)) := rfl
  rw [range, Bool.or_eq_true, decide_eq_true_eq, decide_eq_true_eq]

theorem State.outOfRange_tolerance (s : State) (v : Nat) : s.outOfRange TCK_SRC_TOL 0 v = true ↔ 500 < bits v 8 0 := by
  have range : s.outOfRange TCK_SRC_TOL 0 v = decide (500 < bits v 8 0) := rfl
  rw [range, decide_eq_true_eq]

theorem State.tickPeriodWrite_gives {s : State} {p : Path} (hr : s.reaches p TCK_PERIOD.off = true) (ha : s.isActive = false)
    {v : Word} (lo : 4000000 ≤ v.toNat) (hi : v.toNat ≤ 100000000) : Gives (.tickPeriodWrite p v) s (fun t =>
      t.period = v.toNat ∧ t.flag TCK_STATUS 16 = false ∧ OnlyIn [.regs, .displays, .clk] s t) := by
  have range : s.outOfRange TCK_PERIOD 0 v.toNat = false := by
    rw [← Bool.not_eq_true, State.outOfRange_period]; omega
  have write : s.writeWord p TCK_PERIOD.off v = (s.tckTaken TCK_PERIOD v.toNat).afterCfg TCK_PERIOD 0 (s.rd TCK_PERIOD) :=
    State.writeWord_taken (writtenAt_TCK TCK_PERIOD (by decide)) hr ha range
  obtain ⟨flag, fields, -, only⟩ := s.tckTaken_spec v.toNat (d := TCK_PERIOD) (by decide)
  have period : (s.tckTaken TCK_PERIOD v.toNat).fld TCK_PERIOD 31 0 = bits v.toNat 31 0 :=
    fields ⟨31, 0, .cfg, 0x1312D00⟩ (by decide)
  rw [State.fld, bits_word (State.rd_lt _ _ _ _), bits_word v.isLt] at period
  have after := (s.tckTaken TCK_PERIOD v.toNat).afterCfg_period (s.rd TCK_PERIOD)
  generalize s.tckTaken TCK_PERIOD v.toNat = u at write flag period only after
  generalize u.afterCfg TCK_PERIOD 0 (s.rd TCK_PERIOD) = w at write after
  exact ⟨_, congrArg done write, (after.rd (by decide)).trans period, (congrArg (bitAt · 16) (after.rd (by decide))).trans flag,
    ((only.mono (by decide)).trans after.only).settle⟩

/-- The tolerance and the margins of admission are taken alike (R580). -/
theorem State.writeWord_limit {s : State} {p : Path} {d : RegDef} (hd : d ∈ [TCK_SRC_TOL, TCK_ADM_CTL])
    (hr : s.reaches p d.off = true) (ha : s.isActive = false) {v : Word} (hv : s.outOfRange d 0 v.toNat = false) :
    (s.writeWord p d.off v).flag TCK_STATUS 16 = false ∧ OnlyIn [.regs, .displays, .clk] s (s.writeWord p d.off v) ∧
    (∀ f ∈ d.fields, (s.writeWord p d.off v).fld d f.hi f.lo = bits v.toNat f.hi f.lo) ∧
    ∀ e ∈ [TCK_SRC_TOL, TCK_ADM_CTL], e.at 0 ≠ d.at 0 → (s.writeWord p d.off v).rd e = s.rd e := by
  have hd' : d ∈ [TCK_PERIOD, TCK_SRC_TOL, TCK_ADM_CTL] := .tail _ hd
  have low : ∀ e ∈ [TCK_SRC_TOL, TCK_ADM_CTL], e.at 0 < 0x68000 ∧ e.at 0 ≠ TCK_STATUS.at 0 := by decide
  obtain ⟨flag, fields, others, only⟩ := s.tckTaken_spec v.toNat hd'
  have after : DisplaysOnly (s.tckTaken d v.toNat) (s.writeWord p d.off v) := by
    rw [State.writeWord_taken (writtenAt_TCK d hd') hr ha hv]
    rcases List.mem_pair.mp hd with rfl | rfl
    · exact .refl _
    · exact (DisplaysOnly.refl _).recheckDisplays
  refine ⟨(congrArg (bitAt · 16) (after.rd (by decide))).trans flag, (only.mono (by decide)).trans after.only,
    fun f hf => (congrArg (bits · f.hi f.lo) (after.rd (low d hd).1)).trans (fields f hf), fun e he apart => ?_⟩
  exact (after.rd (low e he).1).trans (others e apart (low e he).2)

theorem State.tckLimitWrite_bad {s : State} {p : Path} {d : RegDef} (hd : d ∈ [TCK_SRC_TOL, TCK_ADM_CTL])
    (hr : s.reaches p d.off = true) (ha : s.isActive = false) {v : Word} (hv : s.outOfRange d 0 v.toNat = true) :
    s.writeWord p d.off v = s.wrFld TCK_STATUS 16 16 1 := by
  have block : ∀ d ∈ [TCK_SRC_TOL, TCK_ADM_CTL], d.off >>> 15 = 4 := by decide
  rw [State.writeWord_ignored (writtenAt_TCK d (.tail _ hd)) hr ha hv]
  exact if_pos (block d hd)

/-! Clock outputs (R503). -/

theorem State.outOfRange_clockOutput (s : State) (n v : Nat) : s.outOfRange CLK_OUT n v = true ↔
    ¬ (bitAt v 0 = false ∨ bits v 4 3 = 3 ∨ outInRange v (s.fld CLK_OUT_FRAC 23 0 n) = true) := by
  have range : s.outOfRange CLK_OUT n v =
      (bitAt v 0 && decide (bits v 4 3 ≠ 3) && !outInRange v (s.fld CLK_OUT_FRAC 23 0 n)) := rfl
  simp [range, and_assoc]

theorem State.clockOutputEnable_gives {s : State} {p : Path} {n : Nat} (hn : n < 4) (hr : s.reaches p (CLK_OUT.at n) = true)
    (ha : s.isActive = false) {v : Word} (hv : s.outOfRange CLK_OUT n v.toNat = false) :
    Gives (.clockOutputEnable p n v) s (fun t => t.rd CLK_OUT n = writeFields false v.toNat (s.rd CLK_OUT n) CLK_OUT.fields ∧
      t.flag CLK_STATUS 12 = false ∧ OnlyIn [.regs] s t) := by
  have write := State.writeWord_taken (writtenAt_CLK_OUT n hn) hr ha hv
  rw [State.afterCfg_clockOutput, State.noteRange_clockOutput] at write
  have apart : ∀ n < 4, CLK_OUT.at n ≠ CLK_STATUS.at 0 := by decide
  refine ⟨_, (onUnit_lt s _ hn).trans (congrArg done write), ?_, State.flag_wrFld_clear _ _ 0 0 (by decide), ?_⟩
  · refine (State.rd_wrFld_other _ _ _ _ _ _ _ _ _ _ (apart n hn)).trans ((s.rd_wr_same _ _ _ _).trans (Nat.mod_eq_of_lt ?_))
    exact writeFields_lt false _ (s.rd_lt _ _ _) (by decide)
  · exact ((s.wr_onlyIn _ _ _ _).trans (State.wrFld_onlyIn _ _ _ _ _ _ _)).settle

/-- Settles O10: the three kinds of register share one write (`State.writeWord_late`, `_ignored`, `_taken`), and what follows the
period and the margins touches displays only. -/
theorem rangedRegistersTakeRange : Obligations.RangedRegistersTakeRange := by
  refine ⟨fun p v s hr => ⟨fun ha => ?_, fun ha hv => ⟨?_, ?_⟩, fun ha lo hi => State.tickPeriodWrite_gives hr ha lo hi⟩,
    fun p adm v s htol hadm => ?_, fun p n v s hn hr => ⟨fun ha => ?_, fun ha hv => ?_, fun ha hv => ?_⟩⟩
  · exact congrArg done (State.writeWord_late (writtenAt_TCK TCK_PERIOD (by decide)) hr ha v)
  · have range := (s.outOfRange_period v.toNat).mpr hv
    exact congrArg done (State.writeWord_ignored (writtenAt_TCK TCK_PERIOD (by decide)) hr ha range)
  · exact State.rd_wrFld_other _ _ _ _ _ _ _ _ _ _ (by decide)
  · cases adm with
    | true =>
      refine ⟨fun ha => ?_, fun ha hv => ?_, fun ha hv => ?_⟩
      · exact congrArg done (State.writeWord_late (writtenAt_TCK TCK_ADM_CTL (by decide)) hadm ha v)
      · exact congrArg done (State.tckLimitWrite_bad (by decide) hadm ha ((s.outOfRange_margins _).mpr hv))
      · obtain ⟨flag, only, fields, others⟩ := State.writeWord_limit (d := TCK_ADM_CTL) (by decide) hadm ha
          (Bool.not_eq_true _ ▸ mt (s.outOfRange_margins v.toNat).mp hv)
        exact ⟨_, rfl, flag, only.settle, fields ⟨4, 0, .cfg, 10⟩ (by decide), fields ⟨13, 8, .cfg, 0⟩ (by decide),
          others TCK_SRC_TOL (by decide) (by decide)⟩
    | false =>
      refine ⟨fun ha => ?_, fun ha hv => ?_, fun ha hv => ?_⟩
      · exact congrArg done (State.writeWord_late (writtenAt_TCK TCK_SRC_TOL (by decide)) htol ha v)
      · exact congrArg done (State.tckLimitWrite_bad (by decide) htol ha ((s.outOfRange_tolerance _).mpr hv))
      · obtain ⟨flag, only, fields, others⟩ := State.writeWord_limit (d := TCK_SRC_TOL) (by decide) htol ha
          (Bool.not_eq_true _ ▸ mt (s.outOfRange_tolerance v.toNat).mp hv)
        exact ⟨_, rfl, flag, only.settle, fields ⟨8, 0, .cfg, 50⟩ (by decide), others TCK_ADM_CTL (by decide) (by decide)⟩
  · exact (onUnit_lt s _ hn).trans (congrArg done (State.writeWord_late (writtenAt_CLK_OUT n hn) hr ha v))
  · have write := State.writeWord_ignored (writtenAt_CLK_OUT n hn) hr ha ((s.outOfRange_clockOutput n v.toNat).mpr hv)
    exact (onUnit_lt s _ hn).trans (congrArg done write)
  · refine State.clockOutputEnable_gives hn hr ha ?_
    rw [← Bool.not_eq_true, State.outOfRange_clockOutput]
    exact not_not_intro hv

end Sys2Proof.Machine
end

section
namespace Sys2Proof.Machine

/-! What fetching and admission leave alone: Keeper time, the window, the tick's number and the polls that it has made (R60, R61, R70,
R72). -/

/-- From `r` to `s` Keeper time stands, and the tick stands where it stood: same window, same number, as many polls made. What
else the tick holds (what is spent, what is short, the point in force) may change. -/
structure Paced (r s : State) : Prop where
  clock : s.clock = r.clock
  window : s.tick.window = r.tick.window
  number : s.tick.number = r.tick.number
  pollsDone : s.tick.pollsDone = r.tick.pollsDone

namespace Paced

variable {r s t : State}

theorem refl (s : State) : Paced s s := ⟨rfl, rfl, rfl, rfl⟩

theorem upd (h : Paced r s) (hc : t.clock = s.clock) (hw : t.tick.window = s.tick.window) (hn : t.tick.number = s.tick.number)
    (hp : t.tick.pollsDone = s.tick.pollsDone) : Paced r t :=
  ⟨hc.trans h.clock, hw.trans h.window, hn.trans h.number, hp.trans h.pollsDone⟩

/-- A change of neither the clock nor the tick. -/
theorem keep (h : Paced r s) (hc : t.clock = s.clock) (ht : t.tick = s.tick) : Paced r t :=
  h.upd hc (congrArg Tick.window ht) (congrArg Tick.number ht) (congrArg Tick.pollsDone ht)

theorem of_onlyIn {ps : List Part} (h : Paced r s) (k : OnlyIn ps s t) (hc : Part.clock ∉ ps) (ht : Part.tick ∉ ps) : Paced r t :=
  h.keep (k.clock_eq hc) (k.tick_eq ht)

/-- A change through which Keeper time and the tick are known to stand. -/
theorem of_confined (h : Paced r s) (a : Steady s t) (b : Confined s t) : Paced r t := h.keep a.clock b.tick

/-- A change of any parts but the clock and the tick, by name of the state before. -/
theorem rest {regs : Table Word} {hif : Hif} {chans : Table Channel} {mem : Mem} {bpm : Bpm} {sch : Sch} {clk : Clk} {pwr : Pwr}
    {queues : Table Queue} {eth : List EthPort} {fresh : Nat} (h : Paced r s) : Paced r { s with
      regs := regs, hif := hif, chans := chans, mem := mem, bpm := bpm, sch := sch, clk := clk, pwr := pwr, queues := queues,
      eth := eth, fresh := fresh } := h.keep rfl rfl

theorem ite {c : Prop} [Decidable c] (h : Paced r s) (k : Paced r t) : Paced r (if c then s else t) := by
  split <;> assumption

theorem foldl {α : Type} {f : State → α → State} {l : List α} (h : Paced r s)
    (hf : ∀ s a, Paced r s → Paced r (f s a)) : Paced r (l.foldl f s) :=
  List.foldlRecOn l f h fun s hs a _ => hf s a hs

/-- A fold that carries something beside the state. -/
theorem foldl_fst {α β : Type} {f : State × β → α → State × β} {b : β} {l : List α} (h : Paced r s)
    (hf : ∀ acc a, Paced r acc.1 → Paced r (f acc a).1) : Paced r (l.foldl f (s, b)).1 :=
  List.foldlRecOn (motive := fun acc => Paced r acc.1) l f h fun acc hs a _ => hf acc a hs

/-! The shared operations. -/

theorem bump {d : RegDef} {i : Nat} (h : Paced r s) : Paced r (s.bump d i) := h.rest
theorem bump64 {d : RegDef} {i k : Nat} (h : Paced r s) : Paced r (s.bump64 d i k) := h.rest
theorem hostWrite {a : Nat} {bs : List Byte} (h : Paced r s) : Paced r (s.hostWrite a bs) := h.rest
theorem freshen (h : Paced r s) : Paced r s.freshen := h.rest
theorem setSq {n : Nat} {q : Sq} (h : Paced r s) : Paced r (s.setSq n q) := h.rest
theorem setCq {n : Nat} {q : Cq} (h : Paced r s) : Paced r (s.setCq n q) := h.rest
theorem setChan {n : Nat} {c : Channel} (h : Paced r s) : Paced r (s.setChan n c) := h.rest
theorem modChan {n : Nat} {f : Channel → Channel} (h : Paced r s) : Paced r (s.modChan n f) := h.setChan
theorem modJob {n : Nat} {f : Job → Job} (h : Paced r s) : Paced r (s.modJob n f) := h.rest
theorem dropJob {n : Nat} (h : Paced r s) : Paced r (s.dropJob n) := h.of_confined (Steady.refl s).dropJob (Confined.refl s).dropJob
theorem raiseI {c : Nat} {i : FaultInfo} (h : Paced r s) : Paced r (s.raiseI c i) :=
  h.of_confined (Steady.refl s).raiseI (Confined.refl s).raiseI
theorem event {c n : Nat} {l : List Nat} (h : Paced r s) : Paced r (s.event c n l) :=
  h.of_onlyIn (s.event_onlyIn c n l) (by decide) (by decide)
theorem hwFlag {b : Nat} (h : Paced r s) : Paced r (s.hwFlag b) := h.of_onlyIn (s.hwFlag_onlyIn b) (by decide) (by decide)
theorem returnCell {c : Nat} (h : Paced r s) : Paced r (s.returnCell c) :=
  h.of_onlyIn (s.returnCell_onlyIn c) (by decide) (by decide)
theorem decBound {b : Bound} (h : Paced r s) : Paced r (s.decBound b) :=
  h.of_confined (Steady.refl s).decBound (Confined.refl s).decBound
theorem postJob {j : Job} {c : Cpl} (h : Paced r s) : Paced r (s.postJob j c) :=
  h.of_confined (Steady.refl s).postJob (Confined.refl s).postJob
theorem endJob {n : Nat} {e : End} (h : Paced r s) : Paced r (s.endJob n e) :=
  h.of_confined (Steady.refl s).endJob (Confined.refl s).endJob
theorem feedEngines (h : Paced r s) : Paced r s.feedEngines :=
  h.of_confined (Steady.refl s).feedEngines (Confined.refl s).feedEngines

/-! Admission (R60, R65, R69, R70, R74, R77 to R83). -/

theorem admitJob {j : Job} {e : Option Nat} {cost : List Nat} (h : Paced r s) : Paced r (s.admitJob j e cost) := by
  unfold State.admitJob
  extract_lets n enc live tag admitted named ring taken tick charged
  have htaken : Paced r taken := h.modJob.setCq.ite h.modJob
  have hcharged : Paced r charged := htaken.upd rfl rfl rfl rfl
  clear_value enc charged
  split
  · exact hcharged.modChan
  · exact hcharged

theorem tryAdmit {p : Purse} {j : Job} {e : Option Nat} {cost : List Nat} (h : Paced r s) :
    Paced r (s.tryAdmit p j e cost).1 := by
  unfold State.tryAdmit
  split
  · exact h.admitJob
  · exact h.bump.dropJob
  · exact h.endJob

theorem defer {j : Job} (h : Paced r s) : Paced r (s.defer j) := h.modJob.bump

theorem considerCritical {p : Purse} {j : Job} (h : Paced r s) : Paced r (s.considerCritical p j).1 := by
  unfold State.considerCritical
  extract_lets cost avail e short lim
  split
  · exact h.tryAdmit
  · split
    · exact h.defer
    · exact h.tryAdmit

theorem considerStandard {p : Purse} {j : Job} (h : Paced r s) : Paced r (s.considerStandard p j).1 := by
  unfold State.considerStandard
  dsimp only
  split
  · exact h.tryAdmit
  · split
    · exact h.endJob
    · exact h.defer.upd rfl rfl rfl rfl

theorem considerBulk {p : Purse} {j : Job} (h : Paced r s) : Paced r (s.considerBulk p j).1 := by
  unfold State.considerBulk
  dsimp only
  split
  · exact h.tryAdmit
  · exact h.endJob

theorem considerOne {acc : State × Purse} {id : Nat} (h : Paced r acc.1) : Paced r (State.considerOne acc id).1 := by
  unfold State.considerOne
  dsimp only
  split
  · exact h
  · split
    · exact h
    · split
      · exact h.considerCritical
      · exact h.considerStandard
      · exact h.considerBulk

theorem admitComposition (h : Paced r s) : Paced r s.admitComposition := h.upd rfl rfl rfl rfl

theorem refusePaused (h : Paced r s) : Paced r s.refusePaused := h.foldl fun _ _ h => h.endJob

theorem tidySlots {n : Nat} (h : Paced r s) : Paced r (s.tidySlots n) := by
  unfold State.tidySlots
  dsimp only
  split
  · exact h
  · split
    · exact h.setChan
    · exact h.setChan

theorem supersedeDecode {n : Nat} (h : Paced r s) : Paced r (s.supersedeDecode n) := by
  unfold State.supersedeDecode
  dsimp only
  split
  · exact h.tidySlots.endJob.modJob.tidySlots.ite h.tidySlots
  · exact h.tidySlots

theorem supersedeEncode {n : Nat} (h : Paced r s) : Paced r (s.supersedeEncode n) := h.foldl fun _ _ h => h.endJob

theorem clockAt {op : Nat} (h : Paced r s) : Paced r (s.clockAt op) := (h.ite h.bump).rest

theorem requestOp {op : Nat} (h : Paced r s) : Paced r (s.requestOp op) := h.clockAt.ite (h.ite h.rest)

theorem choosePoint {p : Purse} (h : Paced r s) : Paced r (s.choosePoint p) :=
  requestOp ((h.foldl fun _ _ h => h.modJob).upd rfl rfl rfl rfl)

theorem startPort {m : Nat} (h : Paced r s) : Paced r (s.startPort m) := by
  unfold State.startPort
  dsimp only
  split
  · exact h
  · split
    · exact h.rest
    · exact h
    · split
      · exact h.rest
      · exact (h.rest.bump.ite h.rest).rest

theorem enqueue {q : Nat} {f : TxFrame} (h : Paced r s) : Paced r (s.enqueue q f) := startPort h.rest

theorem sendPacket {n job captured since : Nat} {e : Encoder} {m : Bool} {b : List Byte} (h : Paced r s) :
    Paced r (s.sendPacket n job e captured since m b) := h.modChan.freshen.enqueue

theorem writeRecord {n tag k detail : Nat} {e : Encoder} {b : List Byte} (h : Paced r s) :
    Paced r (s.writeRecord n e b tag k detail) := by
  unfold State.writeRecord
  extract_lets len wrap wrapped start written
  have hwrapped : Paced r wrapped := h.hostWrite.ite h
  have hwritten : Paced r written := hwrapped.hostWrite.ite hwrapped
  exact hwritten.modChan

theorem sendEnd {n job tag : Nat} {e : Encoder} (h : Paced r s) : Paced r (s.sendEnd n job tag e) := by
  unfold State.sendEnd
  split
  · exact h
  · extract_lets sent
    have hsent : Paced r sent := h.sendPacket.ite h
    exact hsent.writeRecord.ite hsent

theorem finishStop {n : Nat} (h : Paced r s) : Paced r (s.finishStop n) := by
  unfold State.finishStop
  split
  · exact h
  · split
    · exact h
    · exact h.ite (h.sendEnd.foldl fun _ _ h => h.returnCell).modChan.endJob

theorem finishStops (h : Paced r s) : Paced r s.finishStops := h.foldl fun _ _ h => h.finishStop

theorem decide_ (h : Paced r s) : Paced r s.decide_ := by
  unfold State.decide_
  extract_lets paused superseded
  have hsuperseded : Paced r superseded :=
    h.admitComposition.refusePaused.foldl fun _ _ h => h.supersedeDecode.supersedeEncode
  dsimp only
  exact (hsuperseded.foldl_fst fun _ _ h => h.considerOne).choosePoint.finishStops.hwFlag

/-! Doorbell reads and fetches (R103, R107, R109, R114, R115, R136, R144, R145). -/

theorem badIndex {n : Nat} (h : Paced r s) : Paced r (s.badIndex n) := h.raiseI

theorem freeBitstream {q ci : Nat} (h : Paced r s) : Paced r (s.freeBitstream q ci) := h.rest

theorem takeLine {b : List Byte} {n : Nat} (h : Paced r s) : Paced r (State.takeLine b s n) := by
  unfold State.takeLine
  extract_lets pi ci ev q submitted c completed
  have hs : Paced r submitted := (h.setSq.ite h.setSq.badIndex).ite h
  have hc : Paced r completed := (hs.setCq.freeBitstream.ite hs.badIndex).ite hs
  exact (hc.rest.ite hc.badIndex).ite hc

theorem drainDone (h : Paced r s) : Paced r s.drainDone := h.foldl fun s j h => by
  split
  · exact h.ite h.postJob
  · exact h

theorem takeDoorbell {b : List Byte} (h : Paced r s) : Paced r (s.takeDoorbell b) :=
  (h.foldl fun _ _ h => h.takeLine).rest.drainDone

theorem doorbellFailed {poisoned : Bool} (h : Paced r s) : Paced r (s.doorbellFailed poisoned) :=
  have failed := h.rest.bump.raiseI
  failed.raiseI.ite failed

theorem readDoorbell {a : Served (List Byte)} (h : Paced r s) : Paced r (s.readDoorbell a) := by
  unfold State.readDoorbell
  cases a with
  | ok b => exact h.takeDoorbell
  | failed => exact h.doorbellFailed
  | poisoned => exact h.doorbellFailed

theorem takeFlow {cq : Nat} (h : Paced r s) : Paced r (s.takeFlow cq).1 := by
  unfold State.takeFlow
  split
  · exact h
  · exact h.rest

theorem enterJob {n poll : Nat} {d : Desc} (h : Paced r s) : Paced r (s.enterJob n d poll) := by
  unfold State.enterJob
  extract_lets q fetched cq
  have hfetched : Paced r (fetched.takeFlow cq).1 := h.setSq.bump64.takeFlow
  dsimp only
  split
  · exact hfetched.rest.decBound.endJob
  · exact hfetched.rest.decBound.rest.ite hfetched.rest.decBound

theorem fetchFailed {n : Nat} {poisoned : Bool} (h : Paced r s) : Paced r (s.fetchFailed n poisoned) :=
  have failed := h.bump.raiseI.ite h.bump
  failed.setSq.ite failed.setSq.raiseI

theorem noteServed {n : Nat} (h : Paced r s) : Paced r (s.noteServed n) := h.rest

theorem endFetch (h : Paced r s) : Paced r s.endFetch := by
  unfold State.endFetch
  dsimp only
  split
  · exact h.rest
  · exact h.rest.ite h.rest.bump.event

theorem fetchAll {poll : Nat} {l : List (Served (List Byte))} (h : Paced r s) : Paced r (State.fetchAll poll s l) := by
  induction l generalizing s with
  | nil => exact h.endFetch.ite h
  | cons a l ih =>
    unfold State.fetchAll
    split
    · exact h.endFetch
    · cases a with
      | ok b => exact ih h.noteServed.enterJob
      | failed => exact ih h.noteServed.fetchFailed
      | poisoned => exact ih h.noteServed.fetchFailed

/-! The end of a poll (R61, R72, R75, R110, R132). -/

theorem considerAtPoll {id : Nat} (h : Paced r s) : Paced r (s.considerAtPoll id) := by
  unfold State.considerAtPoll
  split
  · exact h
  · extract_lets considered rest op p cost
    have hconsidered : Paced r considered := h.modJob
    refine h.ite (hconsidered.endJob.ite ?_)
    refine ite ?_ ?_
    · exact hconsidered.tryAdmit.upd rfl rfl rfl rfl
    · exact hconsidered.endJob.ite hconsidered

theorem dropOld (h : Paced r s) : Paced r s.dropOld := h.foldl fun s j h => by
  split
  · exact h.bump.dropJob
  · exact h.dropJob
  · exact h.dropJob
  · exact h.dropJob

theorem statusBlock {poll : Nat} (h : Paced r s) : Paced r (s.statusBlock poll) :=
  h.ite (h.dropOld.ite h).hostWrite.rest

theorem finishPoll (h : Paced r s) : Paced r s.finishPoll := by
  unfold State.finishPoll
  split
  · exact h
  · extract_lets hif ended got flagged considered
    have hended : Paced r ended := h.rest
    have hflagged : Paced r flagged := hended.hwFlag.ite hended
    have hconsidered : Paced r considered := (hflagged.foldl fun _ _ h => h.considerAtPoll).feedEngines
    exact h.ite (hconsidered.statusBlock.ite hconsidered)

end Paced

/-! The poll (R61, R72, R99). -/

/-- The tick has made poll `i`. -/
def State.countPoll (s : State) (i : Nat) : State := { s with tick := { s.tick with pollsDone := i } }

/-- A poll reads the doorbell block, fetches, and admission considers what it brought. -/
def State.pollRead (s : State) (i : Nat) (db : Served (List Byte)) (arrivals : List (Served (List Byte))) : State :=
  let s := ({ s with hif := { s.hif with polling := some (i, s.hif.nextJob) } } : State).readDoorbell db
  (if s.hif.fetching then State.fetchAll i s arrivals else s).finishPoll

/-- Poll `i`, at the time at which it is due. -/
def State.pollNth (s : State) (i : Nat) (db : Served (List Byte)) (arrivals : List (Served (List Byte))) : State :=
  if (s.countPoll i).canDma && (s.countPoll i).hif.started then (s.countPoll i).pollRead i db arrivals else s.countPoll i

section
variable {r s : State} {i : Nat} {db : Served (List Byte)} {arrivals : List (Served (List Byte))}

theorem State.poll_eq : s.poll db arrivals =
    if s.tick.stopped = true ∨ s.tick.window ≠ .work ∨ s.tick.polls < s.tick.pollsDone + 1 then s
    else (s.toOffset (s.pollAt (s.tick.pollsDone + 1))).pollNth (s.tick.pollsDone + 1) db arrivals := rfl

theorem State.countPoll_onlyIn (s : State) (i : Nat) : OnlyIn [.tick] s (s.countPoll i) := (OnlyIn.refl _ s).tick (by decide)

theorem State.canDma_toOffset (s : State) (ns : Nat) : (s.toOffset ns).canDma = s.canDma := rfl

theorem State.canDma_countPoll (s : State) (i : Nat) : (s.countPoll i).canDma = s.canDma := rfl

/-- Where ring traffic does not run, a poll reads nothing. -/
theorem State.pollNth_of_quiet (quiet : s.canDma = false ∨ s.hif.started = false) : s.pollNth i db arrivals = s.countPoll i := by
  have idle : ¬((s.countPoll i).canDma && (s.countPoll i).hif.started) = true := by
    rw [s.canDma_countPoll, (s.countPoll_onlyIn i).hif_eq (by decide)]
    simpa only [Bool.and_eq_true, not_and_or, Bool.not_eq_true] using quiet
  exact if_neg idle

theorem Paced.pollRead (h : Paced r s) : Paced r (s.pollRead i db arrivals) :=
  have rung := h.rest.readDoorbell
  (rung.fetchAll.ite rung).finishPoll

theorem State.pollNth_paced : Paced (s.countPoll i) (s.pollNth i db arrivals) := (Paced.refl _).pollRead.ite (.refl _)

theorem State.poll_of_not_owed (h : s.tick.stopped = true ∨ s.tick.window ≠ .work ∨ s.tick.polls < s.tick.pollsDone + 1) :
    s.poll db arrivals = s := if_pos h

theorem State.poll_of_owed (hs : s.tick.stopped = false) (hw : s.tick.window = .work) (ho : s.tick.pollsDone < s.tick.polls) :
    s.poll db arrivals = (s.toOffset (s.pollAt (s.tick.pollsDone + 1))).pollNth (s.tick.pollsDone + 1) db arrivals := by
  rw [State.poll_eq, if_neg]
  simp only [hs, hw, Bool.false_eq_true, ne_eq, not_true, false_or]
  omega

theorem State.poll_gives (hs : s.tick.stopped = false) (hw : s.tick.window = .work) (ho : s.tick.pollsDone < s.tick.polls) :
    Gives (.subTickPoll db arrivals) s (fun t => t.tick.pollsDone = s.tick.pollsDone + 1 ∧ t.tick.window = .work ∧
      t.tick.number = s.tick.number ∧ s.clock.ps ≤ t.clock.ps ∧
      ((s.canDma = false ∨ s.hif.started = false) → OnlyIn [.clock, .tick] s t)) := by
  have due := s.toOffset_onlyIn (s.pollAt (s.tick.pollsDone + 1))
  have forward : s.clock.ps ≤ (s.toOffset (s.pollAt (s.tick.pollsDone + 1))).clock.ps := s.advanceTo_le _
  have traffic : (s.toOffset (s.pollAt (s.tick.pollsDone + 1))).canDma = s.canDma := s.canDma_toOffset _
  have made := State.poll_of_owed (db := db) (arrivals := arrivals) hs hw ho
  generalize s.toOffset (s.pollAt (s.tick.pollsDone + 1)) = u at due forward traffic made
  have paced := State.pollNth_paced (s := u) (i := s.tick.pollsDone + 1) (db := db) (arrivals := arrivals)
  have window : u.tick.window = s.tick.window := congrArg Tick.window (due.tick_eq (by decide))
  have number : u.tick.number = s.tick.number := congrArg Tick.number (due.tick_eq (by decide))
  refine ⟨_, congrArg done made, paced.pollsDone, paced.window.trans (window.trans hw), paced.number.trans number, ?_,
    fun quiet => ?_⟩
  · rw [State.settle_clock, paced.clock]
    exact forward
  · rw [← traffic, ← due.hif_eq (by decide)] at quiet
    rw [State.pollNth_of_quiet quiet]
    exact ((due.mono (by decide)).step (u.countPoll_onlyIn _) (by decide)).settle

end

/-! The decision (R60, R70). -/

/-- The window waits for its work, and no job waits for a poll. -/
def State.toDecided (s : State) : State :=
  { s with tick := { s.tick with window := .decided }, bpm := { s.bpm with recent := [] },
           hif := { s.hif with jobs := s.hif.jobs.map fun j => { j with atPoll := 0 } } }

/-- The decision, at the time at which it is due. -/
def State.decideNow (s : State) : State := if s.toDecided.admits then s.toDecided.decide_ else s.toDecided

section
variable {s : State}

theorem State.decision_eq :
    s.decision = if s.tick.stopped = true ∨ s.tick.window ≠ .admission then s else (s.toOffset 100000).decideNow := rfl

theorem State.toDecided_onlyIn (s : State) : OnlyIn [.tick, .bpm, .hif] s s.toDecided := by
  intro p; cases p <;> first | exact .inr rfl | exact .inl (by decide)

theorem State.toDecided_phases (s : State) : s.toDecided.hif.jobs.map (·.phase) = s.hif.jobs.map (·.phase) := by
  simp [State.toDecided]

theorem State.admits_toOffset (s : State) (ns : Nat) : (s.toOffset ns).admits = s.admits := rfl

theorem State.admits_toDecided (s : State) : s.toDecided.admits = s.admits := rfl

/-- Where admission does not run, no job is considered. -/
theorem State.decideNow_of_closed (h : s.admits = false) : s.decideNow = s.toDecided := by
  rw [State.decideNow, s.admits_toDecided, h]
  exact if_neg Bool.false_ne_true

theorem State.decideNow_closed {u : State} (due : OnlyIn [.clock] s u) (h : u.admits = false) :
    OnlyIn [.clock, .tick, .bpm, .hif] s u.decideNow ∧ u.decideNow.hif.live = s.hif.live ∧
      u.decideNow.hif.jobs.map (·.phase) = s.hif.jobs.map (·.phase) := by
  rw [State.decideNow_of_closed h, ← due.hif_eq (by decide)]
  exact ⟨(due.mono (by decide)).step u.toDecided_onlyIn (by decide), rfl, u.toDecided_phases⟩

theorem State.decideNow_paced : Paced s.toDecided s.decideNow := (Paced.refl _).decide_.ite (.refl _)

theorem State.decision_of_not (h : s.tick.window ≠ .admission) : s.decision = s := if_pos (.inr h)

theorem State.decision_of_admission (hs : s.tick.stopped = false) (hw : s.tick.window = .admission) :
    s.decision = (s.toOffset 100000).decideNow := by
  rw [State.decision_eq, if_neg]
  simp [hs, hw]

theorem State.decision_gives (hs : s.tick.stopped = false) (hw : s.tick.window = .admission) :
    Gives .admissionDecision s (fun t => t.tick.window = .decided ∧ t.tick.number = s.tick.number ∧
      s.tick.edgePs + 100000000 ≤ t.clock.ps ∧
      (s.admits = false → OnlyIn [.clock, .tick, .bpm, .hif] s t ∧ t.hif.live = s.hif.live ∧
        t.hif.jobs.map (·.phase) = s.hif.jobs.map (·.phase))) := by
  have due := s.toOffset_onlyIn 100000
  have reached := s.le_toOffset 100000
  have admits : (s.toOffset 100000).admits = s.admits := s.admits_toOffset _
  have made := State.decision_of_admission hs hw
  generalize s.toOffset 100000 = u at due reached admits made
  have paced := u.decideNow_paced
  have number : u.tick.number = s.tick.number := congrArg Tick.number (due.tick_eq (by decide))
  refine ⟨_, congrArg done made, paced.window, paced.number.trans number, ?_, fun closed => ?_⟩
  · have clock : u.decideNow.settle.clock = u.clock := paced.clock
    rw [clock]
    omega
  · obtain ⟨frame, live, phases⟩ := State.decideNow_closed due (admits.trans closed)
    exact ⟨frame.settle, live, phases⟩

end

/-- Settles O27: fetching and admission leave Keeper time, the window and the counts of the tick alone (`Paced`), so a
poll and a decision end with those of their first step. -/
theorem pollsAndAdmissionOnce : Obligations.PollsAndAdmissionOnce :=
  ⟨fun _ _ _ => ⟨fun h => congrArg done (State.poll_of_not_owed h), State.poll_gives⟩,
    fun _ hs => ⟨fun hw => congrArg done (State.decision_of_not hw), State.decision_gives hs⟩⟩

end Sys2Proof.Machine
end

section
namespace Sys2Proof.Machine

/-! Plain CFG registers (R577, R142). -/

/-- What makes a register plain: its fields are all CFG, it is neither of the two registers of its blocks that do more than store,
and it stands in a block whose writes only store. -/
theorem RegDef.quiet_iff {d : RegDef} : d.quiet = true ↔ d.kind = .plain ∧ d.has .cfg = true ∧ d.has .svc = false ∧
    d.has .w1c = false ∧ d.off >>> 15 ∈ [2, 6, 7, 8, 10, 11, 12, 14, 15] ∧ d.off ≠ HIF_STATUS.off ∧
    d.off ≠ DEC_ROWBUF_CFG.off := by
  unfold RegDef.quiet RegDef.allCfg
  cases d.kind <;> simp [and_assoc]

/-- A register of another block is not the one at the offset. -/
theorem RegDef.quiet_ne {d : RegDef} (h : d.quiet = true) {off : Nat}
    (ho : off >>> 15 ∉ [2, 6, 7, 8, 10, 11, 12, 14, 15]) : d.off ≠ off := by
  rintro rfl
  obtain ⟨-, -, -, -, block, -⟩ := RegDef.quiet_iff.mp h
  exact ho block

/-- No block of a plain CFG register is one whose writes do more than store. -/
theorem RegDef.quiet_block {d : RegDef} (h : d.quiet = true) :
    d.off >>> 15 ≠ 4 ∧ d.off >>> 15 ≠ 13 ∧ d.off >>> 15 ≠ 29 ∧ d.off >>> 15 ≠ 30 := by
  obtain ⟨-, -, -, -, block, -⟩ := RegDef.quiet_iff.mp h
  refine ⟨?_, ?_, ?_, ?_⟩ <;> intro e <;> rw [e] at block <;> revert block <;> decide

theorem State.outOfRange_quiet (s : State) {d : RegDef} (h : d.quiet = true) (i v : Nat) : s.outOfRange d i v = false := by
  simp only [State.outOfRange, RegDef.quiet_ne h (show TCK_PERIOD.off >>> 15 ∉ _ by decide),
    RegDef.quiet_ne h (show TCK_SRC_TOL.off >>> 15 ∉ _ by decide), RegDef.quiet_ne h (show TCK_ADM_CTL.off >>> 15 ∉ _ by decide),
    RegDef.quiet_ne h (show TRF_PTP_PHASE.off >>> 15 ∉ _ by decide), RegDef.quiet_ne h (show CLK_OUT.off >>> 15 ∉ _ by decide),
    if_false]

theorem State.rowsCut_quiet (s : State) {d : RegDef} (h : d.quiet = true) (v : Nat) : s.rowsCut d v = false := by
  obtain ⟨-, -, -, -, -, -, rows⟩ := RegDef.quiet_iff.mp h
  simp [State.rowsCut, rows]

theorem State.noteRange_quiet (s : State) {d : RegDef} (h : d.quiet = true) (bad : Bool) : s.noteRange d.off bad = s := by
  obtain ⟨h4, -, h29, -⟩ := RegDef.quiet_block h
  simp only [State.noteRange, h4, h29, RegDef.quiet_ne h (show TRF_PTP_PHASE.off >>> 15 ∉ _ by decide), if_false]

theorem State.writeW1c_quiet (s : State) {d : RegDef} (h : d.quiet = true) (i v : Nat) : s.writeW1c d i v = s := by
  obtain ⟨-, -, -, -, -, status, -⟩ := RegDef.quiet_iff.mp h
  simp only [State.writeW1c, RegDef.quiet_ne h (show GRD_FSTAT.off >>> 15 ∉ _ by decide), status, false_and, if_false]

theorem State.afterCfg_quiet (s : State) {d : RegDef} (h : d.quiet = true) (i old : Nat) : s.afterCfg d i old = s := by
  obtain ⟨-, h13, -, -⟩ := RegDef.quiet_block h
  simp only [State.afterCfg, h13, RegDef.quiet_ne h (show BPM_COMB_WATER.off >>> 15 ∉ _ by decide),
    RegDef.quiet_ne h (show TCK_PERIOD.off >>> 15 ∉ _ by decide), RegDef.quiet_ne h (show TCK_ADM_CTL.off >>> 15 ∉ _ by decide),
    RegDef.quiet_ne h (show TRF_PTP_CTL.off >>> 15 ∉ _ by decide), if_false]

/-- A plain CFG register takes a write in CONFIG and ignores it, counted, in ACTIVE (R577, Table 0.3). -/
theorem State.writeReg_quiet (s : State) (p : Path) {d : RegDef} (h : d.quiet = true) (i j v : Nat) (found : Option Bool) :
    s.writeReg p d i j v found = if s.isActive then s.bump SYS_LATE_WRITES
      else s.wr d i j (writeFields false v (s.rd d i j) d.fields) := by
  obtain ⟨kind, cfg, svc, w1c, -, -, -⟩ := RegDef.quiet_iff.mp h
  obtain ⟨-, -, -, h30⟩ := RegDef.quiet_block h
  have all : d.allCfg = true := by simp [RegDef.allCfg, kind, cfg, svc, w1c]
  cases ha : s.isActive <;>
    simp [State.writeReg, State.countLate, ha, all, cfg, svc, w1c, h30, RegDef.quiet_ne h (show SYS_CTL.off >>> 15 ∉ _ by decide),
      RegDef.quiet_ne h (show BPM_CTL.off >>> 15 ∉ _ by decide), State.outOfRange_quiet _ h, State.rowsCut_quiet _ h,
      State.noteRange_quiet _ h, State.writeW1c_quiet _ h, State.afterCfg_quiet _ h]

/-- An aligned write that reaches a plain CFG register is a write of that register. -/
theorem State.write_quiet {s : State} {p : Path} {off : Nat} (v : Word) (inc : Bool) {d : RegDef} {i j k : Nat}
    (hf : findReg off = some (d, i, j, k)) (hq : d.quiet = true) (hw : isWindow off = false) (ha : off % 4 = 0)
    (hr : s.reaches p off = true) : s.write p off 4 v inc = if s.isActive then s.bump SYS_LATE_WRITES
      else s.wr d i j (writeFields false v.toNat (s.rd d i j) d.fields) := by
  obtain ⟨hs, hm, -, -⟩ := isWindow_eq_false.mp hw
  have kind : d.kind = .plain := (RegDef.quiet_iff.mp hq).1
  rw [← State.writeReg_quiet s p hq i j v.toNat none]
  simp [State.write, State.writeWord, hr, ha, hs, hm, hf, kind]

/-- Settles O5: a plain CFG register leaves every branch of `writeReg` but the one that stores, and a write of a register changes
neither what a path reaches nor the configuration state, so that the second of two writes is taken like the first. -/
theorem cfgWriteTakesOrCountsLate : Obligations.CfgWriteTakesOrCountsLate := by
  intro p off v w inc s d i j k hf hq hw ha hr
  have taken {u : State} (hu : u.isActive = false) {q : Path} (hq' : u.reaches q off = true) (x : Word) (inc : Bool) :
      u.write q off 4 x inc = u.wr d i j (writeFields false x.toNat (u.rd d i j) d.fields) := by
    rw [State.write_quiet x inc hf hq hw ha hq', hu]; rfl
  refine ⟨congrArg done (State.write_quiet v inc hf hq hw ha hr), fun hcfg hspi hpcie => congrArg done ?_⟩
  have both (x y : Word) : (s.write .spi off 4 x inc).write .pcie off 4 y false =
      (let u := s.wr d i j (writeFields false x.toNat (s.rd d i j) d.fields)
       u.wr d i j (writeFields false y.toNat (u.rd d i j) d.fields)) := by
    rw [taken hcfg hspi]
    exact taken (u := s.wr d i j _) hcfg hpcie y false
  cases p with
  | spi => exact both v w
  | pcie => exact both w v

end Sys2Proof.Machine
end

section
namespace Sys2Proof.Machine

/-! GO (R96, R98, R99). -/

theorem State.fld_wrFld_same (s : State) (d : RegDef) {hi lo : Nat} (v i j : Nat) (h : lo ≤ hi) (hi32 : hi < 32) :
    (s.wrFld d hi lo v i j).fld d hi lo i j = v % 2 ^ (hi + 1 - lo) := by
  rw [State.fld, State.wrFld, State.rd_wr_same, bits_mod_two_pow hi32]
  refine Nat.eq_of_testBit_eq fun k => ?_
  rw [testBit_bits, testBit_putBits _ _ _ _ _ h, Nat.testBit_mod_two_pow]
  by_cases hk : k < hi + 1 - lo
  · rw [if_pos (by omega), Nat.add_sub_cancel_left]
  · simp [hk]

theorem State.startSource_onlyIn (s : State) (src : Nat) : OnlyIn [.tick, .guard] s (s.startSource src) :=
  ((OnlyIn.refl _ s).tick (by decide)).step (State.gone_onlyIn _ _ _) (by decide)

theorem State.goTrace_onlyIn (s : State) : OnlyIn [.sch] s s.goTrace := (OnlyIn.refl _ s).sch (by decide)

theorem OnlyIn.flows {ps : List Part} {r s : State} (h : OnlyIn ps r s) {x : Table Flow} (hp : Part.flows ∈ ps) :
    OnlyIn ps r { s with flows := x } :=
  h.trans fun p => by cases p <;> first | exact .inr rfl | exact .inl hp

theorem State.goFlows_onlyIn (s : State) : OnlyIn [.flows] s s.goFlows := (OnlyIn.refl _ s).flows (by decide)

theorem State.modDisp_onlyIn (s : State) (d : Nat) (f : Display → Display) : OnlyIn [.displays] s (s.modDisp d f) := by
  intro p; cases p <;> first | exact .inr rfl | exact .inl (by decide)

theorem State.displayStart_onlyIn (s : State) (d : Nat) : OnlyIn [.displays] s (s.displayStart d) := s.modDisp_onlyIn d _

theorem State.goDisplays_onlyIn (s : State) : OnlyIn [.displays] s s.goDisplays := .foldl _ State.displayStart_onlyIn _ s

/-- The module as GO makes it before the trace, the flows, the displays and the tick source start: ACTIVE, with rings at 0 that
wait for the first edge. -/
def State.goRings (s : State) : State :=
  { s.wrFld HIF_STATUS 23 16 0xFF with
    sys := { s.sys with cfg := .active }
    hif := { s.hif with
      sqs := [], cqs := [], evPi := 0, evCi := 0, evRecent := [], seq := 0, peak := 0, fetching := false, dbRead := true,
      linkStopped := false, started := false, polling := none, jtFull := false }
    mem := { s.mem with iecc := s.flag DRC_CTL 0 } }

theorem State.goRings_onlyIn (s : State) : OnlyIn [.regs, .sys, .hif, .mem] s s.goRings := by
  intro p; cases p <;> first | exact .inr rfl | exact .inl (by decide)

/-- What GO starts after that: neither a register nor the rings, the memories or the configuration state. -/
theorem State.goActive_onlyIn (s : State) : OnlyIn [.tick, .flows, .displays, .sch, .guard] s.goRings s.goActive := by
  have iecc : (s.wrFld HIF_STATUS 23 16 0xFF).flag DRC_CTL 0 = s.flag DRC_CTL 0 :=
    congrArg (bitAt · 0) (s.rd_wrFld_other HIF_STATUS DRC_CTL 23 16 0xFF 0 0 0 0 (by decide))
  have started := (((s.goRings.goTrace_onlyIn).mono (qs := [.tick, .flows, .displays, .sch, .guard]) (by decide)).step
    (State.goFlows_onlyIn _) (by decide)).step (State.goDisplays_onlyIn _) (by decide)
  have rings : s.goActive = (let u := s.goRings.goTrace.goFlows.goDisplays
      if u.fld TCK_CTL 1 0 = 0 then u else u.startSource (u.fld TCK_CTL 1 0)) := by
    unfold State.goRings
    rw [← iecc]
    rfl
  rw [rings]
  dsimp only
  split
  · exact started
  · exact started.step (State.startSource_onlyIn _ _) (by decide)

/-- GO in CONFIG, when the HIF configuration holds. -/
theorem State.goActive_spec (s : State) : s.goActive.isActive = true ∧ s.goActive.fld HIF_STATUS 23 16 = 0xFF ∧
    (∀ n, s.goActive.sq n = .reset) ∧ (∀ n, s.goActive.cq n = .reset) ∧ s.goActive.hif.evPi = 0 ∧ s.goActive.hif.evCi = 0 ∧
    s.goActive.hif.seq = 0 ∧ s.goActive.hif.started = false ∧ s.goActive.mem.iecc = s.flag DRC_CTL 0 ∧
    OnlyIn [.regs, .sys, .tick, .hif, .flows, .displays, .mem, .sch, .guard] s s.goActive := by
  have after := s.goActive_onlyIn
  have hif := after.hif_eq (by decide)
  have shown : s.goRings.fld HIF_STATUS 23 16 = 0xFF :=
    s.fld_wrFld_same HIF_STATUS 0xFF 0 0 (by decide) (by decide)
  refine ⟨?_, ?_, fun n => ?_, fun n => ?_, ?_, ?_, ?_, ?_, ?_, (s.goRings_onlyIn.mono (by decide)).trans (after.mono (by decide))⟩
  · rw [State.isActive, after.sys_eq (by decide)]; rfl
  · exact (congrArg (bits · 23 16) (State.rd_congr (after.regs_eq (by decide)) _ _)).trans shown
  · rw [State.sq, hif]; rfl
  · rw [State.cq, hif]; rfl
  · rw [hif]; rfl
  · rw [hif]; rfl
  · rw [hif]; rfl
  · rw [hif]; rfl
  · rw [after.mem_eq (by decide)]; rfl

/-- A write of GO is counted in ACTIVE, and is the check of R98 in CONFIG. -/
theorem State.writeWord_go {s : State} {p : Path} (h : s.reaches p SYS_CTL.off = true) :
    s.writeWord p SYS_CTL.off 1 = if s.isActive then s.bump SYS_LATE_WRITES else s.writeGo := by
  have found : findReg SYS_CTL.off = some (SYS_CTL, 0, 0, 0) := by decide
  have place : SYS_CTL.off % 4 = 0 ∧ isSramOffset SYS_CTL.off = false ∧ isMsixOffset SYS_CTL.off = false := by decide
  obtain ⟨aligned, sram, msix⟩ := place
  have kind : ¬ (SYS_CTL.kind = .counter ∨ SYS_CTL.kind = .counter64) := by decide
  have all : SYS_CTL.allCfg = true := by decide
  have one : bitAt 1 0 = true := by decide
  have word : s.writeWord p SYS_CTL.off 1 = s.writeReg p SYS_CTL 0 0 (BitVec.toNat (1 : Word)) none := by
    simp [State.writeWord, h, aligned, sram, msix, found, kind]
  rw [word, State.writeReg]
  cases ha : s.isActive
  · simp [State.countLate, ha, one]
  · have still : (s.bump SYS_LATE_WRITES).isActive = true := ha
    simp [State.countLate, ha, all, still]

theorem exec_go {s : State} {p : Path} (h : s.reaches p SYS_CTL.off = true) : exec (.go p) s =
    .next (if s.isActive then s.bump SYS_LATE_WRITES else s.writeGo).settle := congrArg done (State.writeWord_go h)

/-- Settles O11: a write of GO is `writeGo` in CONFIG, whose two branches are the two answers of the check. -/
theorem goChecksAndActivates : Obligations.GoChecksAndActivates := by
  intro p s hr
  refine ⟨fun ha => ?_, fun ha hbad => ?_, fun ha hgood => ⟨_, exec_go hr, ?_⟩⟩
  · rw [exec_go hr, ha]; rfl
  · rw [exec_go hr, ha, State.writeGo]; simp [hbad]
  · have taken : (if s.isActive then s.bump SYS_LATE_WRITES else s.writeGo) = s.goActive := by
      simp [ha, State.writeGo, hgood]
    obtain ⟨active, shown, sq, cq, pi, ci, seq, started, iecc, only⟩ := s.goActive_spec
    rw [taken]
    exact ⟨active, shown, sq, cq, pi, ci, seq, started, iecc, only.settle⟩

end Sys2Proof.Machine
end

section
namespace Sys2Proof.Machine

/-! MSI-X vectors (R92, R94). -/

variable {ps : List Part} {r s : State}

theorem OnlyIn.bus (h : OnlyIn ps r s) {x : Bus} (hp : Part.bus ∈ ps) : OnlyIn ps r { s with bus := x } :=
  h.trans fun p => by cases p <;> first | exact .inr rfl | exact .inl hp

theorem OnlyIn.hif (h : OnlyIn ps r s) {x : Hif} (hp : Part.hif ∈ ps) : OnlyIn ps r { s with hif := x } :=
  h.trans fun p => by cases p <;> first | exact .inr rfl | exact .inl hp

@[simp] theorem contains_ldel (l : List Nat) (x k : Nat) : (ldel l x).contains k = (l.contains k && !(k == x)) := by
  rw [Bool.eq_iff_iff]; simp [ldel]

@[simp] theorem contains_ladd (l : List Nat) (x k : Nat) : (ladd l x).contains k = (l.contains k || k == x) := by
  unfold ladd
  split
  · next h =>
    by_cases hk : k = x
    · subst hk; simpa using h
    · simp [hk]
  · rw [Bool.eq_iff_iff]; simp

/-- One pending vector gets its chance to send. -/
def State.tryMsi (s : State) (v : Nat) : State := if s.canSend && !s.masked v then s.sendMsi v else s

/-- A vector that sends is pending no more; nothing about any other vector changes, nor what is masked and whether the function
can send. -/
theorem State.tryMsi_spec (s : State) (v : Nat) :
    (s.tryMsi v).bus.msixTable = s.bus.msixTable ∧ (s.tryMsi v).canSend = s.canSend ∧
    (∀ k, (s.tryMsi v).bus.pba.contains k = (s.bus.pba.contains k && !(k == v && s.canSend && !s.masked k))) ∧
    ∀ k, s.masked k = true → tget 0 (s.tryMsi v).bus.msixSent k = tget 0 s.bus.msixSent k := by
  unfold State.tryMsi
  split
  · next h =>
    obtain ⟨send, unmasked⟩ := Bool.and_eq_true_iff.mp h
    refine ⟨rfl, rfl, fun k => (contains_ldel _ _ _).trans ?_, fun k hk => tget_tmod_other _ _ _ ?_⟩
    · by_cases hk : k = v
      · subst hk; simp [send, unmasked]
      · have other : (k == v) = false := beq_eq_false_iff_ne.mpr hk
        rw [other]; rfl
    · rintro rfl; simp [hk] at unmasked
  · next h =>
    refine ⟨rfl, rfl, fun k => ?_, fun _ _ => rfl⟩
    by_cases hk : k = v
    · subst hk; cases hs : s.canSend <;> cases hm : s.masked k <;> simp_all
    · simp [hk]

theorem State.masked_congr {s t : State} (h : t.bus.msixTable = s.bus.msixTable) (k : Nat) : t.masked k = s.masked k := by
  rw [State.masked, State.msixWord, h, State.masked, State.msixWord]

theorem State.foldl_tryMsi_spec (l : List Nat) (s : State) :
    (l.foldl State.tryMsi s).bus.msixTable = s.bus.msixTable ∧ (l.foldl State.tryMsi s).canSend = s.canSend ∧
    (∀ k, (l.foldl State.tryMsi s).bus.pba.contains k =
      (s.bus.pba.contains k && !(l.contains k && s.canSend && !s.masked k))) ∧
    ∀ k, s.masked k = true → tget 0 (l.foldl State.tryMsi s).bus.msixSent k = tget 0 s.bus.msixSent k := by
  induction l generalizing s with
  | nil => simp
  | cons v l ih =>
    obtain ⟨table, send, pending, sent⟩ := s.tryMsi_spec v
    obtain ⟨table', send', pending', sent'⟩ := ih (s.tryMsi v)
    have masked (k : Nat) := State.masked_congr table k
    refine ⟨table'.trans table, send'.trans send, fun k => ?_, fun k hk => (sent' k ((masked k).trans hk)).trans (sent k hk)⟩
    rw [List.foldl_cons, pending', pending, send, masked, List.contains_cons]
    cases s.bus.pba.contains k <;> cases (k == v) <;> cases l.contains k <;> cases s.canSend <;> cases s.masked k <;> rfl

theorem State.flushMsi_eq (s : State) : s.flushMsi = s.bus.pba.foldl State.tryMsi s := rfl

/-- Pending messages go out: what may send is pending no more, and a masked vector keeps its message. -/
theorem State.flushMsi_spec (s : State) :
    s.flushMsi.bus.msixTable = s.bus.msixTable ∧
    (∀ k, s.flushMsi.canSend = true → s.flushMsi.masked k = false → s.flushMsi.bus.pba.contains k = false) ∧
    ∀ k, s.flushMsi.masked k = true → s.flushMsi.bus.pba.contains k = s.bus.pba.contains k ∧
      tget 0 s.flushMsi.bus.msixSent k = tget 0 s.bus.msixSent k := by
  rw [State.flushMsi_eq]
  obtain ⟨table, send, pending, sent⟩ := State.foldl_tryMsi_spec s.bus.pba s
  refine ⟨table, fun k hs hm => ?_, fun k hm => ?_⟩
  · rw [send] at hs
    rw [State.masked_congr table] at hm
    rw [pending, hs, hm]; simp
  · rw [State.masked_congr table] at hm
    exact ⟨by rw [pending, hm]; simp, sent k hm⟩

/-- What a word of the MSI-X table keeps of a value: its reserved bits read 0 (R92). -/
def msixKept (w : Nat) (v : Word) : Word := if w = 3 then v &&& 1 else if w = 0 then v &&& 0xFFFFFFFC else v

/-- The MSI-X table with a word written. -/
def State.withMsixWord (s : State) (k w : Nat) (v : Word) : State :=
  { s with bus := { s.bus with msixTable := tput (if w = 3 then 1 else 0) s.bus.msixTable (4 * k + w) (msixKept w v) } }

theorem State.msixWord_withMsixWord_same (s : State) (k w : Nat) (v : Word) :
    (s.withMsixWord k w v).msixWord k w = msixKept w v := tget_tput_same _ _ _ _

theorem State.msixWord_withMsixWord_other (s : State) {k w a b : Nat} (v : Word) (hw : w < 4) (hb : b < 4)
    (h : a ≠ k ∨ b ≠ w) : (s.withMsixWord k w v).msixWord a b = s.msixWord a b :=
  tget_tput_default _ _ _ _ (by omega)

theorem State.writeMsix_eq (s : State) (off : Nat) (v : Word) :
    s.writeMsix (0x18000 + off) v = (s.withMsixWord (off / 16) (off / 4 % 4) v).flushMsi := by
  unfold State.writeMsix State.withMsixWord msixKept
  rw [Nat.add_sub_cancel_left, show 4 * (off / 16) + off / 4 % 4 = off / 4 by omega]

theorem exec_msixTableWrite {off : Nat} (v : Word) {s : State} (h : off < 0x420) (ha : off % 4 = 0)
    (hr : s.reaches .pcie (0x18000 + off) = true) : exec (.msixTableWrite off v) s =
      .next ((s.withMsixWord (off / 16) (off / 4 % 4) v).flushMsi).settle := by
  have sram : isSramOffset (0x18000 + off) = false := by simp [isSramOffset]; omega
  have msix : isMsixOffset (0x18000 + off) = true := by simp [isMsixOffset]; omega
  have aligned : (0x18000 + off) % 4 = 0 := by omega
  have word : s.writeWord .pcie (0x18000 + off) v = s.writeMsix (0x18000 + off) v := by
    simp [State.writeWord, hr, aligned, sram, msix]
  rw [State.writeMsix_eq] at word
  exact (onUnit_lt s _ h).trans (congrArg done word)

/-! Moderation (R130). -/

theorem State.owesSignal_signalRing (s : State) (n : Nat) : (s.signalRing n).owesSignal n = false := by
  have counted : ((s.signalRing n).cq n).unsignalled = 0 := by
    rw [State.signalRing, State.cq, (State.signal_onlyIn _ n).hif_eq (by decide)]
    exact congrArg Cq.unsignalled (State.cq_setCq_same s n _)
  simp [State.owesSignal, counted]

theorem State.cq_signalRing (s : State) (n k : Nat) :
    (s.signalRing n).cq k = if k = n then { s.cq n with unsignalled := 0 } else s.cq k := by
  rw [State.signalRing, State.cq, (State.signal_onlyIn _ n).hif_eq (by decide), ← State.cq]
  split
  · next h => subst h; exact State.cq_setCq_same ..
  · next h => exact State.cq_setCq_other s _ h

theorem State.signalRing_onlyIn (s : State) (n : Nat) : OnlyIn [.bus, .hif] s (s.signalRing n) :=
  ((OnlyIn.refl _ s).hif (by decide)).step (State.signal_onlyIn _ n) (by decide)

/-- A vector that can send sends one message; one that cannot is pending. -/
theorem State.signal_spec (s : State) (v : Nat) :
    (s.canSend = true → s.masked v = false → tget 0 (s.signal v).bus.msixSent v = tget 0 s.bus.msixSent v + 1) ∧
    (s.canSend = false ∨ s.masked v = true → (s.signal v).bus.pba.contains v = true) := by
  refine ⟨fun hs hm => ?_, fun h => ?_⟩
  · rw [State.signal, if_pos (by simp [hs, hm])]
    exact tget_tmod_same _ _ _ _
  · rw [State.signal, if_neg (by rcases h with h | h <;> simp [h])]
    exact (contains_ladd _ _ _).trans (by simp)

theorem State.moderationTimeout_gives {s : State} {n : Nat} (hn : n < 64) (ho : s.owesSignal n = true)
    (hus : 0 < s.fld HIF_CQ_MOD 31 16 n) : Gives (.moderationTimeout n) s (fun t =>
      (t.cq n).unsignalled = 0 ∧ (t.cq n).pi = (s.cq n).pi ∧ t.owesSignal n = false ∧ (∀ k, k ≠ n → t.cq k = s.cq k) ∧
      1000 * ((s.cq n).sinceNs + 1000 * s.fld HIF_CQ_MOD 31 16 n) ≤ t.clock.ps ∧
      (s.canSend = true → s.masked n = false → tget 0 t.bus.msixSent n = tget 0 s.bus.msixSent n + 1) ∧
      (s.canSend = false ∨ s.masked n = true → t.bus.pba.contains n = true) ∧ OnlyIn [.bus, .clock, .hif] s t) := by
  have due : s.moderate n = (s.advanceTo (1000 * ((s.cq n).sinceNs + 1000 * s.fld HIF_CQ_MOD 31 16 n))).signalRing n :=
    if_pos (by simp [ho, hus])
  have late := s.le_advanceTo (1000 * ((s.cq n).sinceNs + 1000 * s.fld HIF_CQ_MOD 31 16 n))
  have waited := s.advanceTo_onlyIn (1000 * ((s.cq n).sinceNs + 1000 * s.fld HIF_CQ_MOD 31 16 n))
  refine ⟨_, (onUnit_lt s _ hn).trans (congrArg done due), ?_⟩
  obtain ⟨sent, pending⟩ := ((s.advanceTo (1000 * ((s.cq n).sinceNs + 1000 * s.fld HIF_CQ_MOD 31 16 n))).setCq n
    { s.cq n with unsignalled := 0 }).signal_spec n
  refine ⟨?_, ?_, State.owesSignal_signalRing _ n, fun k hk => ?_, ?_, sent, pending, ?_⟩
  · exact (congrArg Cq.unsignalled (State.cq_signalRing _ n n)).trans (by rw [if_pos rfl])
  · exact (congrArg Cq.pi (State.cq_signalRing _ n n)).trans (by rw [if_pos rfl]; rfl)
  · exact (State.cq_signalRing _ n k).trans (if_neg hk)
  · exact late.trans_eq (congrArg Clock.ps ((State.signalRing_onlyIn _ n).clock_eq (by decide))).symm
  · exact ((waited.mono (by decide)).step (State.signalRing_onlyIn _ n) (by decide)).settle

/-- Settles O22: a table write is one word and then what may send (`State.flushMsi_spec`), and the time limit is one signal of the
ring (`State.signal_spec`). -/
theorem vectorsMaskAndModerate : Obligations.VectorsMaskAndModerate := by
  refine ⟨fun off v s h ha hr => ⟨_, exec_msixTableWrite v h ha hr, ?_⟩, fun s n hn =>
    ⟨fun ho => (onUnit_lt s _ hn).trans (congrArg done (if_neg (by simp [ho]))), State.moderationTimeout_gives hn⟩⟩
  obtain ⟨table, gone, kept⟩ := (s.withMsixWord (off / 16) (off / 4 % 4) v).flushMsi_spec
  have word (a b : Nat) : (s.withMsixWord (off / 16) (off / 4 % 4) v).flushMsi.msixWord a b =
      (s.withMsixWord (off / 16) (off / 4 % 4) v).msixWord a b := by rw [State.msixWord, table, State.msixWord]
  refine ⟨?_, fun k w hw hne => ?_, gone, kept, ?_⟩
  · exact (word _ _).trans (State.msixWord_withMsixWord_same ..)
  · exact (word _ _).trans (State.msixWord_withMsixWord_other s v (by omega) hw hne)
  · exact (((OnlyIn.refl _ s).bus (by decide)).trans (State.flushMsi_onlyIn _)).settle

end Sys2Proof.Machine
end

section
namespace Sys2Proof.Machine

/-! Class I faults: what raising one leaves alone of the registers and the host interface. -/

/-- A register is neither of the two that a Class I fault counts in. -/
abbrev RegDef.aside (d : RegDef) (k : Nat := 0) : Prop := d.at k ≠ KPR_LOG_LOST.at 0 ∧ d.at k ≠ GRD_REACT_COUNT.at 0

theorem State.rd_addLog_aside (s : State) (e : LogEntry) {d : RegDef} {k : Nat} (h : d.aside k) :
    (s.addLog e).rd d k = s.rd d k := by
  unfold State.addLog
  dsimp only
  split
  · split
    · rfl
    · exact State.rd_bump_other _ _ _ _ _ _ h.1
  · rfl

theorem State.rd_event_aside (s : State) (code source : Nat) (data : List Nat) {d : RegDef} {k : Nat} (h : d.aside k) :
    (s.event code source data).rd d k = s.rd d k := by
  unfold State.event State.logEvent
  dsimp only
  split
  · exact s.rd_addLog_aside _ h
  · rfl

/-- An event is due at the next edge, and the rest of the host interface is as it was. -/
theorem State.event_hif (s : State) (code source : Nat) (data : List Nat) : ∃ l,
    (s.event code source data).hif = { s.hif with evDue := l } := by
  unfold State.event
  dsimp only
  generalize Event.mk s.ktime code source s.tick32 data = e
  exact ⟨s.hif.evDue ++ [e], by rw [(s.logEvent_onlyIn e).hif_eq (by decide)]⟩

/-- What logging a fault leaves: the host interface but for the events due, and every register but its two counters. -/
theorem State.logFault_aside (s : State) (code : Nat) (cls acted : FClass) (i : FaultInfo) :
    (∃ l, (s.logFault code cls acted i).hif = { s.hif with evDue := l }) ∧
    ∀ {d : RegDef} {k : Nat}, d.aside k → (s.logFault code cls acted i).rd d k = s.rd d k := by
  have counted : (if acted = .i then s.bump GRD_REACT_COUNT 0 else s).hif = s.hif ∧
      ∀ {d : RegDef} {k : Nat}, d.aside k → (if acted = .i then s.bump GRD_REACT_COUNT 0 else s).rd d k = s.rd d k := by
    split
    · exact ⟨rfl, fun h => State.rd_bump_other _ _ _ _ _ _ h.2⟩
    · exact ⟨rfl, fun _ => rfl⟩
  unfold State.logFault
  dsimp only
  generalize (if acted = .i then s.bump GRD_REACT_COUNT 0 else s) = u at counted ⊢
  obtain ⟨hif, regs⟩ := counted
  have logged (e : LogEntry) : (u.addLog e).hif = s.hif := ((u.addLog_onlyIn e).hif_eq (by decide)).trans hif
  split
  · exact ⟨⟨s.hif.evDue, hif⟩, regs⟩
  · split
    · exact ⟨⟨s.hif.evDue, logged _⟩, fun h => (u.rd_addLog_aside _ h).trans (regs h)⟩
    · refine ⟨?_, fun h => (State.rd_event_aside _ _ _ _ h).trans ((u.rd_addLog_aside _ h).trans (regs h))⟩
      obtain ⟨l, hl⟩ := State.event_hif (u.addLog _) _ _ _
      exact ⟨l, hl.trans (by rw [logged])⟩

theorem State.raiseI_aside (s : State) (code : Nat) (i : FaultInfo) :
    (∃ l, (s.raiseI code i).hif = { s.hif with evDue := l }) ∧
    ∀ {d : RegDef} {k : Nat}, d.aside k → (s.raiseI code i).rd d k = s.rd d k :=
  (s.setStatus code).logFault_aside code .i .i i

theorem State.raiseCond_aside (s : State) (code : Nat) (i : FaultInfo) :
    (∃ l, (s.raiseCond code i).hif = { s.hif with evDue := l }) ∧
    ∀ {d : RegDef} {k : Nat}, d.aside k → (s.raiseCond code i).rd d k = s.rd d k := s.raiseI_aside code i

theorem State.raiseI_sets (s : State) (code : Nat) (i : FaultInfo) :
    bitAt ((s.raiseI code i).fstat (code / 256)) (code % 256 - 1) = true := by
  rw [State.fstat, State.raiseI_guard, ← State.fstat, State.bitAt_setStatus]
  simp

theorem State.raiseCond_sets (s : State) (code : Nat) (i : FaultInfo) :
    bitAt ((s.raiseCond code i).fstat (code / 256)) (code % 256 - 1) = true := s.raiseI_sets code i

end Sys2Proof.Machine
end

section
namespace Sys2Proof.Machine

/-! Numbers as bytes, least significant first. -/

@[simp] theorem length_leBytes (n v : Nat) : (leBytes n v).length = n := by
  induction n generalizing v with
  | zero => rfl
  | succ n ih => simp [leBytes, ih]

theorem leNat_leBytes (n v : Nat) : leNat (leBytes n v) = v % 256 ^ n := by
  induction n generalizing v with
  | zero => simp [leBytes, leNat, Nat.mod_one]
  | succ n ih =>
    rw [leBytes, leNat, ih, BitVec.toNat_ofNat, show 2 ^ 8 = 256 from rfl, Nat.pow_succ', Nat.mod_mul]

/-! The CRC-8 of the management port. -/

theorem crc8Step_lt {c : Nat} (h : c < 256) : crc8Step c < 256 := by
  unfold crc8Step
  split
  · exact Nat.xor_lt_two_pow (n := 8) (Nat.mod_lt _ (by decide)) (by decide)
  · omega

theorem crc8Steps_lt (n : Nat) {c : Nat} (h : c < 256) : crc8Steps n c < 256 := by
  induction n generalizing c with
  | zero => exact h
  | succ n ih => exact ih (crc8Step_lt h)

theorem crc8_lt (bs : List Byte) : crc8 bs < 256 :=
  List.foldlRecOn (motive := (· < 256)) bs _ (by decide) fun _ h b _ =>
    crc8Steps_lt 8 (Nat.xor_lt_two_pow (n := 8) h b.isLt)

/-! WRITE frames (R139, R140). -/

/-- The bytes of words, each least significant byte first. -/
abbrev wordBytes (ws : List Word) : List Byte := ws.flatMap fun v => leBytes 4 v.toNat

theorem length_wordBytes (ws : List Word) : (wordBytes ws).length = 4 * ws.length := by
  induction ws with
  | nil => rfl
  | cons v ws ih => rw [wordBytes, List.flatMap_cons, List.length_append, length_leBytes, ih, List.length_cons]; omega

/-- A frame whose CRC is that of what came before, with 1 to 64 words, is correct. -/
theorem spiFrameOk_of_crc {head : List Byte} {n : Nat} (h : head.length = 4 + 4 * n) (h1 : 1 ≤ n) (h64 : n ≤ 64) :
    spiFrameOk (head ++ [BitVec.ofNat 8 (crc8 head)]) = true := by
  have crc : crc8 head % 2 ^ 8 = crc8 head := Nat.mod_eq_of_lt (crc8_lt head)
  simp only [spiFrameOk, List.length_append, List.length_singleton, List.dropLast_concat, List.getLast?_concat,
    Option.map_some, Option.getD_some, BitVec.toNat_ofNat, crc, h, beq_self_eq_true, Bool.and_true, Bool.and_eq_true,
    decide_eq_true_eq, beq_iff_eq]
  omega

/-- The words of a frame go to consecutive offsets. -/
theorem State.spiWords_eq (ws : List Word) (s : State) (a : Nat) : s.spiWords a (wordBytes ws) =
    (ws.zipIdx).foldl (fun (u : State) x => u.writeWord .spi (a + 4 * x.2) x.1) s := by
  suffices h : ∀ k, s.spiWords (a + 4 * k) (wordBytes ws) =
      (ws.zipIdx k).foldl (fun (u : State) x => u.writeWord .spi (a + 4 * x.2) x.1) s from h 0
  induction ws generalizing s with
  | nil => exact fun _ => rfl
  | cons v ws ih =>
    intro k
    have word : BitVec.ofNat 32 (leNat (leBytes 4 v.toNat)) = v := by
      rw [leNat_leBytes, show 256 ^ 4 = 2 ^ 32 from rfl, Nat.mod_eq_of_lt v.isLt, BitVec.ofNat_toNat, BitVec.setWidth_eq]
    have first : s.spiWords (a + 4 * k) (wordBytes (v :: ws)) =
        State.spiWords (s.writeWord .spi (a + 4 * k) (BitVec.ofNat 32 (leNat (leBytes 4 v.toNat)))) (a + 4 * k + 4)
          (wordBytes ws) := rfl
    rw [first, word, show a + 4 * k + 4 = a + 4 * (k + 1) by omega, ih]
    rfl

theorem State.spiFrame_write {s : State} {frame : List Byte} (h : leAt frame 0 1 = 2) : s.spiFrame frame = s.spiWriteFrame frame := by
  simp [State.spiFrame, h]

theorem exec_spiWrite_words {s : State} (hk : s.pwr.keeperOn = true) (a2 a1 a0 : Byte) {ws : List Word} (h1 : 1 ≤ ws.length)
    (h64 : ws.length ≤ 64) :
    (let head : List Byte := 2 :: a2 :: a1 :: a0 :: wordBytes ws
     exec (.spiWrite (head ++ [BitVec.ofNat 8 (crc8 head)])) s = .next
       (ws.zipIdx.foldl (fun (u : State) x =>
           u.writeWord .spi (65536 * a2.toNat + 256 * a1.toNat + a0.toNat + 4 * x.2) x.1)
         { s with bus := { s.bus with spiOut := [], spiCrcErr := false } }).settle) := by
  intro head
  have len : head.length = 4 + 4 * ws.length := by
    rw [show head.length = (wordBytes ws).length + 4 from rfl, length_wordBytes]; omega
  have good := spiFrameOk_of_crc len h1 h64
  have address : beAt (head ++ [BitVec.ofNat 8 (crc8 head)]) 1 3 = 65536 * a2.toNat + 256 * a1.toNat + a0.toNat := by
    show leNat [a0, a1, a2] = _
    simp only [leNat]; omega
  have body : ((head ++ [BitVec.ofNat 8 (crc8 head)]).drop 4).dropLast = wordBytes ws :=
    (congrArg List.dropLast (show _ = wordBytes ws ++ [BitVec.ofNat 8 (crc8 head)] from rfl)).trans List.dropLast_concat
  have written : s.spiWriteFrame (head ++ [BitVec.ofNat 8 (crc8 head)]) =
      State.spiWords { s with bus := { s.bus with spiOut := [], spiCrcErr := false } }
        (65536 * a2.toNat + 256 * a1.toNat + a0.toNat) (wordBytes ws) := by
    rw [← address, ← body, State.spiWriteFrame, if_neg (by simp [hk])]
    exact if_pos good
  exact congrArg done ((State.spiFrame_write (show leAt (head ++ _) 0 1 = 2 from rfl)).trans
    (written.trans (State.spiWords_eq ws _ _)))

/-- A WRITE frame that is cut or wrong writes no word (R140). -/
theorem spiWrite_bad_gives {s : State} (hk : s.pwr.keeperOn = true) {frame : List Byte} (h : leAt frame 0 1 = 2)
    (hbad : spiFrameOk frame = false) : Gives (.spiWrite frame) s (fun t =>
      t.bus.spiCrcErr = true ∧ OnlyIn [.bus, .regs, .guard, .log, .hif] s t ∧ bitAt (t.fstat 2) 7 = true ∧
      t.rd HIF_SPI_CRC_ERR_COUNT = bump32 (s.rd HIF_SPI_CRC_ERR_COUNT)) := by
  let u : State := { s with bus := { s.bus with spiOut := [], spiCrcErr := true } }
  have counted : s.spiWriteFrame frame = (u.bump HIF_SPI_CRC_ERR_COUNT).raiseI 0x0208 := by
    rw [State.spiWriteFrame, if_neg (by simp [hk])]
    exact if_neg (by simp [hbad])
  have flagged : OnlyIn [.bus, .regs, .guard, .log, .hif] s u := (OnlyIn.refl _ s).bus (by decide)
  have raised := (u.bump HIF_SPI_CRC_ERR_COUNT).raiseI_onlyIn 0x0208 {}
  refine ⟨_, congrArg done ((State.spiFrame_write h).trans counted), ?_, ?_, State.raiseI_sets _ 0x0208 _, ?_⟩
  · exact congrArg Bus.spiCrcErr ((raised .bus).resolve_left (by decide))
  · exact ((flagged.step (u.bump_onlyIn _ _) (by decide)).step raised (by decide)).settle
  · exact ((State.raiseI_aside _ 0x0208 {}).2 (d := HIF_SPI_CRC_ERR_COUNT) (k := 0) (by decide)).trans (u.rd_bump_same _ _)

/-! READ frames. -/

/-- What a read of a word changes: the high-word latch of its path, and the counter of free values. -/
theorem State.readWord_effect (s : State) (p : Path) (off : Nat) : ∃ u, (s.readWord p off).1 = u ∧
    OnlyIn [.bus, .fresh] s u ∧ u.bus.linkGen = s.bus.linkGen ∧ u.bus.endpointOff = s.bus.endpointOff ∧
    u.bus.spiCrcErr = s.bus.spiCrcErr := by
  have same : OnlyIn [.bus, .fresh] s s ∧ s.bus.linkGen = s.bus.linkGen ∧ s.bus.endpointOff = s.bus.endpointOff ∧
      s.bus.spiCrcErr = s.bus.spiCrcErr := ⟨.refl _ _, rfl, rfl, rfl⟩
  have drawn : OnlyIn [.bus, .fresh] s s.drawn := by
    intro p; cases p <;> first | exact .inr rfl | exact .inl (by decide)
  unfold State.readWord
  split
  · dsimp only
    split
    · exact ⟨_, rfl, same⟩
    · split
      · dsimp only
        split
        · exact ⟨_, rfl, drawn, rfl, rfl, rfl⟩
        · exact ⟨_, rfl, same⟩
      · exact ⟨_, rfl, OnlyIn.mono (s.setLatch_onlyIn p _) (by decide), by cases p <;> rfl, by cases p <;> rfl, by cases p <;> rfl⟩
  · exact ⟨_, rfl, same⟩

/-- The STATUS byte of the management port shows parts that a read leaves alone. -/
theorem State.spiStatus_readWord (s : State) (p : Path) (off : Nat) :
    (s.readWord p off).1.spiStatus = s.spiStatus ∧ OnlyIn [.bus, .fresh] s (s.readWord p off).1 := by
  obtain ⟨u, hu, only, gen, ep, crc⟩ := s.readWord_effect p off
  rw [hu]
  refine ⟨?_, only⟩
  have keeper : u.keeperOnly = s.keeperOnly := by
    simp only [State.keeperOnly, only.power_eq (by decide), only.sys_eq (by decide), only.pwr_eq (by decide)]
  have active : u.isActive = s.isActive := by rw [State.isActive, only.sys_eq (by decide), State.isActive]
  rw [State.spiStatus, gen, ep, crc, keeper, active, only.guard_eq (by decide), State.spiStatus]

/-- Words read from consecutive offsets: four bytes for each, and nothing else changes. -/
theorem State.spiReadWords_spec (n : Nat) (s : State) (a : Nat) (out : List Byte) :
    (State.spiReadWords n s a out).2.length = out.length + 4 * n ∧
    (State.spiReadWords n s a out).1.spiStatus = s.spiStatus ∧ OnlyIn [.bus, .fresh] s (State.spiReadWords n s a out).1 := by
  induction n generalizing s a out with
  | zero => exact ⟨rfl, rfl, .refl _ _⟩
  | succ n ih =>
    obtain ⟨len, status, only⟩ := ih (s.readWord .spi a).1 (a + 4) (out ++ leBytes 4 (s.readWord .spi a).2)
    obtain ⟨status', only'⟩ := s.spiStatus_readWord .spi a
    refine ⟨len.trans ?_, status.trans status', only'.trans only⟩
    rw [List.length_append, length_leBytes]; omega

/-- How many words a READ frame of so many clocked bytes reads. -/
def spiWordCount (clocks : Nat) : Nat := min 64 (if clocks % 4 = 1 then clocks / 4 else ceilDiv clocks 4)

/-- What a READ frame returns after the words: their CRC-8, then 0xFF (Table 3.13). -/
def spiTail (clocks : Nat) (data : List Byte) : List Byte :=
  if clocks % 4 = 1 ∨ 256 < clocks then BitVec.ofNat 8 (crc8 data) :: List.replicate (clocks - 257) 0xFF else []

/-- The words that a READ frame reads. -/
abbrev State.spiData (s : State) (address clocks : Nat) : List Byte :=
  (State.spiReadWords (spiWordCount clocks) s address []).2

theorem State.length_spiData (s : State) (address clocks : Nat) : (s.spiData address clocks).length = 4 * spiWordCount clocks :=
  (State.spiReadWords_spec _ s address []).1.trans (by simp)

/-- What a READ frame answers: STATUS, then as many bytes of the words and their CRC as are clocked. -/
theorem spiRead_gives {s : State} (hk : s.pwr.keeperOn = true) (address clocks : Nat) :
    Gives (.spiRead address clocks) s (fun t => OnlyIn [.bus, .fresh] s t ∧ t.bus.spiOut = BitVec.ofNat 8 s.spiStatus ::
      (s.spiData address clocks ++ spiTail clocks (s.spiData address clocks)).take clocks) := by
  obtain ⟨-, status, only⟩ := State.spiReadWords_spec (spiWordCount clocks) s address []
  refine ⟨_, congrArg done (if_neg (by simp [hk])), (only.bus (by decide)).settle, ?_⟩
  rw [← status]
  rfl

/-- As many bytes as are clocked are there. -/
theorem spiReply_length {clocks : Nat} {data : List Byte} (h : data.length = 4 * spiWordCount clocks) :
    clocks ≤ (data ++ spiTail clocks data).length := by
  unfold spiWordCount ceilDiv at h
  rw [List.length_append, h]
  by_cases hc : clocks % 4 = 1 ∨ 256 < clocks
  · have tail : (spiTail clocks data).length = clocks - 257 + 1 := by simp [spiTail, if_pos hc]
    rw [tail]
    split <;> omega
  · obtain ⟨h1, h256⟩ := not_or.mp hc
    rw [if_neg h1]
    omega

/-- A whole number of words and one byte are clocked: the words and their CRC. -/
theorem spiReply_whole {k : Nat} (hk : k ≤ 64) {data : List Byte} (h : data.length = 4 * spiWordCount (4 * k + 1)) :
    (data ++ spiTail (4 * k + 1) data).take (4 * k + 1) = data ++ [BitVec.ofNat 8 (crc8 data)] := by
  have one : (4 * k + 1) % 4 = 1 := by omega
  have tail : spiTail (4 * k + 1) data = [BitVec.ofNat 8 (crc8 data)] := by
    rw [spiTail, if_pos (.inl one), show 4 * k + 1 - 257 = 0 by omega]; rfl
  rw [tail]
  refine List.take_of_length_le ?_
  rw [List.length_append, h, spiWordCount, if_pos one]
  simp only [List.length_singleton]
  omega

/-- Settles O24: a WRITE frame's words are applied one after the other when it is whole (`State.spiWords_eq`), and a READ frame
returns its words and their CRC (`spiRead_gives`). -/
theorem managementPortFrames : Obligations.ManagementPortFrames := by
  intro s hk
  refine ⟨fun frame h hbad => spiWrite_bad_gives hk h hbad, fun a2 a1 a0 ws h1 h64 => exec_spiWrite_words hk a2 a1 a0 h1 h64,
    fun frame h2 h3 h5 => congrArg done ?_, ?_, fun address clocks => ?_, fun address => ?_, fun address k h64 => ?_⟩
  · unfold State.spiFrame
    split
    · next h => exact absurd h h2
    · next h => exact absurd h h3
    · next h => exact absurd h h5
    · rfl
  · exact ⟨_, congrArg done (if_pos hk), rfl, ((OnlyIn.refl _ s).bus (by decide)).settle⟩
  · refine (spiRead_gives hk address clocks).imp fun t ⟨only, out⟩ => ⟨?_, ?_, only⟩
    · rw [out, List.length_cons, List.length_take, Nat.min_eq_left (spiReply_length (s.length_spiData address clocks))]
    · rw [out]; rfl
  · refine (spiRead_gives hk address 5).imp fun t ⟨_, out⟩ => ?_
    rw [out, List.drop_succ_cons, List.drop_zero, spiReply_whole (k := 1) (by decide) (s.length_spiData address 5)]
    rfl
  · refine (spiRead_gives hk address (4 * k + 1)).imp fun t ⟨_, out⟩ body c hbody => ?_
    rw [out, List.drop_succ_cons, List.drop_zero, spiReply_whole h64 (s.length_spiData address (4 * k + 1))] at hbody
    obtain ⟨rfl, hc⟩ := List.append_inj' hbody rfl
    exact (List.singleton_inj.mp hc).symm

end Sys2Proof.Machine
end

section
namespace Sys2Proof.Machine

/-! What waits for ring room once ring operation has stopped (R116, R117). -/

variable {s t u : State}

theorem OnlyIn.bus_eq {ps : List Part} (h : OnlyIn ps s t) (hp : Part.bus ∉ ps) : t.bus = s.bus := (h .bus).resolve_left hp

/-- The completion of the job waits for room in its ring. -/
def Job.waits (j : Job) : Prop := j.flow = none ∧ ∃ c, j.phase = .done c

/-- From `s` to `t` jobs have left and lost completions have been counted, and nothing else has happened to the rings. -/
structure Drains (s t : State) : Prop where
  only : OnlyIn [.regs, .hif, .mem, .bpm] s t
  stopped : t.hif.linkStopped = s.hif.linkStopped
  fetching : t.hif.fetching = s.hif.fetching
  jobs : ∀ j ∈ t.hif.jobs, j ∈ s.hif.jobs
  regs : ∀ (d : RegDef) (k : Nat), d.at k ≠ HIF_CPL_LOST_COUNT.at 0 → t.rd d k = s.rd d k

theorem Drains.refl (s : State) : Drains s s := ⟨.refl _ _, rfl, rfl, fun _ => id, fun _ _ _ => rfl⟩

theorem Drains.trans (h : Drains s t) (k : Drains t u) : Drains s u where
  only := h.only.trans k.only
  stopped := k.stopped.trans h.stopped
  fetching := k.fetching.trans h.fetching
  jobs j hj := h.jobs j (k.jobs j hj)
  regs d i hd := (k.regs d i hd).trans (h.regs d i hd)

theorem State.dropJob_onlyIn (s : State) (id : Nat) : OnlyIn [.hif, .mem, .bpm] s (s.dropJob id) :=
  ((OnlyIn.refl _ s).step (s.returnCells_onlyIn _) (by decide)).hif (by decide)

/-- A job that is dropped leaves the job table; every other job stays as it is. -/
theorem State.dropJob_hif (s : State) (id : Nat) : (s.dropJob id).hif =
    { s.hif with jobs := s.hif.jobs.filter (fun j => !(j.id == id)), live := s.hif.live.filter (fun j => !(j.id == id)) } := by
  exact congrArg (fun h : Hif => { h with jobs := h.jobs.filter (fun j => !(j.id == id)),
                                          live := h.live.filter (fun j => !(j.id == id)) })
    ((s.returnCells_onlyIn (((s.job? id).map (·.cells)).getD [])).hif_eq (by decide))

theorem State.drains_dropJob (s : State) (id : Nat) : Drains s (s.dropJob id) where
  only := (s.dropJob_onlyIn id).mono (by decide)
  stopped := by rw [State.dropJob_hif]
  fetching := by rw [State.dropJob_hif]
  jobs j hj := by rw [State.dropJob_hif] at hj; exact (List.mem_filter.mp hj).1
  regs d k _ := State.rd_congr ((s.dropJob_onlyIn id).regs_eq (by decide)) d k

theorem State.drains_bump (s : State) : Drains s (s.bump HIF_CPL_LOST_COUNT) where
  only := (s.bump_onlyIn _ _).mono (by decide)
  stopped := rfl
  fetching := rfl
  jobs _ := id
  regs d k hd := s.rd_bump_other _ d 0 k 0 hd

/-- Where no ring traffic runs, a completion that no flow orders is dropped with its job. -/
theorem State.postJob_stopped {s : State} (h : s.hif.linkStopped = true) {j : Job} (hj : j.flow = none) (c : Cpl) :
    Drains s (s.postJob j c) ∧ ∀ x ∈ (s.postJob j c).hif.jobs, x.id ≠ j.id := by
  have off : s.canDma = false := by simp [State.canDma, h]
  have gone (u : State) : ∀ x ∈ (u.dropJob j.id).hif.jobs, x.id ≠ j.id := by
    intro x hx
    rw [State.dropJob_hif] at hx
    simpa using (List.mem_filter.mp hx).2
  unfold State.postJob State.postCpl
  rw [if_neg (by simp [hj])]
  cases hs : s.guard.safe with
  | true => exact ⟨s.drains_dropJob _, gone s⟩
  | false =>
    simp only [off]
    exact ⟨s.drains_bump.trans (State.drains_dropJob _ _), gone _⟩

/-- One job's turn when ring operation stops. -/
def State.drainJob (s : State) (j : Job) : State :=
  match j.phase with
  | .done c => if j.flow.isSome then s else s.postJob j c
  | _ => s

theorem State.drainDone_eq (s : State) : s.drainDone = (s.hif.jobs ++ s.hif.live).foldl State.drainJob s := rfl

theorem State.drainJob_stopped {s : State} (h : s.hif.linkStopped = true) (j : Job) :
    Drains s (s.drainJob j) ∧ (j.waits → j ∉ (s.drainJob j).hif.jobs) := by
  unfold State.drainJob
  split
  · next c _ =>
    cases hf : j.flow with
    | some f => exact ⟨.refl s, fun w => by simp [Job.waits, hf] at w⟩
    | none =>
      obtain ⟨drains, gone⟩ := State.postJob_stopped h hf c
      exact ⟨drains, fun _ hj => gone j hj rfl⟩
  · next hn => exact ⟨.refl s, fun ⟨_, c, hc⟩ => absurd hc (hn c)⟩

theorem State.foldl_drainJob_stopped (l : List Job) {s : State} (h : s.hif.linkStopped = true) :
    Drains s (l.foldl State.drainJob s) ∧ ∀ j ∈ l, j.waits → j ∉ (l.foldl State.drainJob s).hif.jobs := by
  induction l generalizing s with
  | nil => exact ⟨.refl s, fun _ hj => nomatch hj⟩
  | cons j l ih =>
    obtain ⟨first, gone⟩ := State.drainJob_stopped h j
    obtain ⟨rest, gone'⟩ := ih (first.stopped.trans h)
    refine ⟨first.trans rest, fun x hx w hin => ?_⟩
    rcases List.mem_cons.mp hx with rfl | hx
    · exact gone w (rest.jobs x hin)
    · exact gone' x hx w hin

/-- Ring operation has just stopped: what waits for room is still there. -/
def State.ringsOff (s : State) : State :=
  { s with hif := { s.hif with linkStopped := true, fetching := false, polling := none },
           bus := { s.bus with linkLost := true } }

theorem State.ringsOff_onlyIn (s : State) : OnlyIn [.hif, .bus] s s.ringsOff := by
  intro p; cases p <;> first | exact .inr rfl | exact .inl (by decide)

/-- Ring operation stops: jobs leave, and none is left that waits for ring room. -/
theorem State.stopRings_spec (s : State) : Drains s.ringsOff s.stopRings ∧
    ∀ j ∈ s.stopRings.hif.jobs, j.flow = none → ∀ c, j.phase ≠ .done c := by
  obtain ⟨drains, gone⟩ := State.foldl_drainJob_stopped (s.ringsOff.hif.jobs ++ s.ringsOff.hif.live) (s := s.ringsOff) rfl
  exact ⟨drains, fun j hj hf c hc => gone j (List.mem_append_left _ (drains.jobs j hj)) ⟨hf, c, hc⟩ hj⟩

/-- Ring operation has stopped, and nothing waits for ring room. -/
structure RingsStopped (t : State) : Prop where
  stopped : t.hif.linkStopped = true
  lost : t.bus.linkLost = true
  fetching : t.hif.fetching = false
  drained : ∀ j ∈ t.hif.jobs, j.flow = none → ∀ c, j.phase ≠ .done c

theorem State.ringsStopped_stopRings (s : State) : RingsStopped s.stopRings := by
  obtain ⟨drains, drained⟩ := s.stopRings_spec
  exact ⟨drains.stopped, congrArg Bus.linkLost (drains.only.bus_eq (by decide)), drains.fetching, drained⟩

/-- A Class I condition reported after that leaves it so. -/
theorem RingsStopped.raiseCond (h : RingsStopped s) (code : Nat) (i : FaultInfo) : RingsStopped (s.raiseCond code i) := by
  obtain ⟨l, hif⟩ := (s.raiseCond_aside code i).1
  have bus := (s.raiseCond_onlyIn code i).bus_eq (by decide)
  exact ⟨by rw [hif]; exact h.stopped, by rw [bus]; exact h.lost, by rw [hif]; exact h.fetching, by rw [hif]; exact h.drained⟩

theorem State.causeLive_raiseCond (s : State) (code : Nat) : (s.raiseCond code).causeLive code = true := by
  have live := (s.raiseI code).present_live code 0xFF
  rw [List.contains_iff_mem] at live
  exact List.any_eq_true.mpr ⟨_, live, beq_self_eq_true _⟩

/-- All that the loss of the link changes. -/
abbrev linkParts : List Part := [.regs, .bus, .hif, .mem, .bpm, .log, .guard]

theorem State.stopRings_onlyIn (s : State) : OnlyIn linkParts s s.stopRings :=
  (s.ringsOff_onlyIn.mono (by decide)).step s.stopRings_spec.1.only (by decide)

/-- What stopping the rings leaves of the buses and of every register but the counter of lost completions. -/
theorem State.stopRings_bus (s : State) : s.stopRings.bus = { s.bus with linkLost := true } :=
  s.stopRings_spec.1.only.bus_eq (by decide)

theorem State.rd_stopRings (s : State) {d : RegDef} {k : Nat} (hd : d.at k ≠ HIF_CPL_LOST_COUNT.at 0) :
    s.stopRings.rd d k = s.rd d k := s.stopRings_spec.1.regs d k hd

/-! The link goes down, bus mastering ends, D3hot, PERST_N (R91, R116, R145, R560). -/

theorem State.resetFunction_onlyIn (s : State) : OnlyIn [.bus] s s.resetFunction := (OnlyIn.refl _ s).bus (by decide)

/-- A link that goes down resets the function; in ACTIVE it stops the rings, is counted and reported. -/
theorem State.linkDown_up {s : State} (h : 0 < s.bus.linkGen) : s.linkDown =
    if s.isActive then ((s.resetFunction.stopRings).bump HIF_LINK_DOWN_COUNT).raiseCond 0x0201 else s.resetFunction :=
  if_neg (by omega)

theorem State.linkDown_down {s : State} (h : s.bus.linkGen = 0) : s.linkDown = s := if_pos h

/-- What a lost link leaves: the rings stopped, the loss counted and present. -/
theorem State.linkLost_spec (s : State) :
    (let t := ((s.resetFunction.stopRings).bump HIF_LINK_DOWN_COUNT).raiseCond 0x0201
     RingsStopped t ∧ t.bus = { s.resetFunction.bus with linkLost := true } ∧ t.causeLive 0x0201 = true ∧
     bitAt (t.fstat 2) 0 = true ∧ t.rd HIF_LINK_DOWN_COUNT = bump32 (s.rd HIF_LINK_DOWN_COUNT) ∧ OnlyIn linkParts s t) := by
  have stopped : RingsStopped (s.resetFunction.stopRings.bump HIF_LINK_DOWN_COUNT) :=
    have h := State.ringsStopped_stopRings s.resetFunction
    ⟨h.stopped, h.lost, h.fetching, h.drained⟩
  have raised := (s.resetFunction.stopRings.bump HIF_LINK_DOWN_COUNT).raiseCond_onlyIn 0x0201 {}
  refine ⟨stopped.raiseCond _ _, ?_, State.causeLive_raiseCond _ _, State.raiseCond_sets _ 0x0201 _, ?_, ?_⟩
  · exact (raised.bus_eq (by decide)).trans s.resetFunction.stopRings_bus
  · refine ((State.raiseCond_aside _ 0x0201 {}).2 (d := HIF_LINK_DOWN_COUNT) (k := 0) (by decide)).trans ?_
    exact (State.rd_bump_same _ _ _).trans (congrArg bump32 (State.rd_stopRings _ (by decide)))
  · exact (((s.resetFunction_onlyIn.mono (by decide)).trans (State.stopRings_onlyIn _)).step (State.bump_onlyIn _ _ _)
      (by decide)).step raised (by decide)

/-- In any state a link that goes down leaves the function reset; in CONFIG nothing else changes. -/
theorem State.linkDown_spec {s : State} (h : 0 < s.bus.linkGen) :
    s.linkDown.bus = { s.resetFunction.bus with linkLost := s.isActive || s.bus.linkLost } ∧
    (s.isActive = false → OnlyIn [.bus] s s.linkDown) ∧ OnlyIn linkParts s s.linkDown := by
  rw [State.linkDown_up h]
  cases ha : s.isActive with
  | true =>
    obtain ⟨-, bus, -, -, -, only⟩ := s.linkLost_spec
    exact ⟨bus, fun c => absurd c (by decide), only⟩
  | false => exact ⟨rfl, fun _ => s.resetFunction_onlyIn, s.resetFunction_onlyIn.mono (by decide)⟩

theorem State.pcieLinkDown_gives {s : State} (h : 0 < s.bus.linkGen) : Gives .pcieLinkDown s (fun t =>
    t.bus.linkGen = 0 ∧ t.bus.bme = false ∧ t.bus.msixTable = [] ∧ t.bus.pba = [] ∧
    (s.isActive = true → RingsStopped t ∧ t.causeLive 0x0201 = true ∧ bitAt (t.fstat 2) 0 = true ∧
      t.rd HIF_LINK_DOWN_COUNT = bump32 (s.rd HIF_LINK_DOWN_COUNT)) ∧
    (s.isActive = false → OnlyIn [.bus] s t) ∧ OnlyIn linkParts s t) := by
  obtain ⟨bus, config, only⟩ := State.linkDown_spec h
  refine ⟨_, rfl, ?_, ?_, ?_, ?_, fun ha => ?_, fun ha => (config ha).settle, only.settle⟩
  · exact congrArg Bus.linkGen bus
  · exact congrArg Bus.bme bus
  · exact congrArg Bus.msixTable bus
  · exact congrArg Bus.pba bus
  · obtain ⟨stopped, -, live, status, counted, -⟩ := s.linkLost_spec
    have down := State.linkDown_up h
    rw [ha] at down
    rw [down]
    exact ⟨⟨stopped.stopped, stopped.lost, stopped.fetching, stopped.drained⟩, live, status, counted⟩

theorem State.busMasterDisable_gives {s : State} (h : s.bus.bme = true) : Gives .busMasterDisable s (fun t =>
    t.bus.bme = false ∧ t.bus.linkGen = s.bus.linkGen ∧
    (s.isActive = true → RingsStopped t ∧ t.causeLive 0x0209 = true ∧ bitAt (t.fstat 2) 8 = true) ∧
    (s.isActive = false → OnlyIn [.bus] s t) ∧ OnlyIn linkParts s t) := by
  let u : State := { s with bus := { s.bus with bme := false } }
  have off : s.masterOff = if s.isActive then u.stopRings.raiseCond 0x0209 else u := if_neg (by simp [h])
  have cleared : OnlyIn [.bus] s u := (OnlyIn.refl _ s).bus (by decide)
  refine ⟨_, congrArg done off, ?_⟩
  cases ha : s.isActive with
  | true =>
    have raised := u.stopRings.raiseCond_onlyIn 0x0209 {}
    have bus : (u.stopRings.raiseCond 0x0209).bus = { u.bus with linkLost := true } :=
      (raised.bus_eq (by decide)).trans u.stopRings_bus
    obtain ⟨stopped, lost, fetching, drained⟩ := u.ringsStopped_stopRings.raiseCond 0x0209 {}
    refine ⟨congrArg Bus.bme bus, (congrArg Bus.linkGen bus).trans rfl, fun _ => ⟨⟨stopped, lost, fetching, drained⟩, ?_, ?_⟩,
      fun c => absurd c (by decide), ?_⟩
    · exact State.causeLive_raiseCond _ _
    · exact State.raiseCond_sets _ 0x0209 _
    · exact (((cleared.mono (by decide)).trans u.stopRings_onlyIn).step raised (by decide)).settle
  | false => exact ⟨rfl, rfl, fun c => absurd c (by decide), fun _ => cleared.settle, (cleared.mono (by decide)).settle⟩

/-- A function that cannot send keeps its pending messages. -/
theorem State.flushMsi_of_silent {s : State} (h : s.canSend = false) : s.flushMsi = s := by
  rw [State.flushMsi_eq]
  refine List.foldlRecOn (motive := (· = s)) _ _ rfl fun u hu v _ => ?_
  rw [hu, State.tryMsi, if_neg (by simp [h])]

theorem State.deviceToD3hot_gives {s : State} (h : 0 < s.bus.linkGen) : Gives (.deviceStateChange true) s (fun t =>
    t.bus.d3hot = true ∧ t.bus.pba = s.bus.pba ∧ t.bus.msixSent = s.bus.msixSent ∧
    (s.isActive = true → s.bus.d3hot = false → RingsStopped t) ∧
    (s.isActive = false → OnlyIn [.bus] s t) ∧ OnlyIn linkParts s t) := by
  let u : State := { s with bus := { s.bus with d3hot := true } }
  have silent : u.flushMsi = u := State.flushMsi_of_silent (by simp [State.canSend, u])
  have state : s.deviceState true = if !s.bus.d3hot && s.isActive then u.stopRings else u := by
    have moved : s.deviceState true = if !s.bus.d3hot && s.isActive then u.stopRings else u.flushMsi :=
      if_neg (show ¬ s.bus.linkGen = 0 by omega)
    rw [moved, silent]
  have moved : OnlyIn [.bus] s u := (OnlyIn.refl _ s).bus (by decide)
  refine ⟨_, congrArg done state, ?_⟩
  cases hs : (!s.bus.d3hot && s.isActive) with
  | true =>
    have active : s.isActive = true := by simp_all
    obtain ⟨stopped, lost, fetching, drained⟩ := u.ringsStopped_stopRings
    have bus := u.stopRings_bus
    exact ⟨congrArg Bus.d3hot bus, (congrArg Bus.pba bus).trans rfl,
      (congrArg Bus.msixSent bus).trans rfl, fun _ _ => ⟨stopped, lost, fetching, drained⟩,
      fun c => absurd c (by simp [active]), ((moved.mono (by decide)).trans u.stopRings_onlyIn).settle⟩
  | false =>
    exact ⟨rfl, rfl, rfl, fun ha hd => by simp [ha, hd] at hs, fun _ => moved.settle, (moved.mono (by decide)).settle⟩

theorem State.perstAssert_gives (s : State) : Gives .perstAssert s (fun t =>
    t.bus.perst = true ∧ t.bus.linkGen = 0 ∧ t.bus.bme = false ∧ t.bus.msixTable = [] ∧ t.bus.pba = [] ∧
    OnlyIn linkParts s t) := by
  let u : State := { s with bus := { s.bus with perst := true } }
  have low : OnlyIn linkParts s u := (OnlyIn.refl _ s).bus (by decide)
  have down : u.linkDown.bus.perst = true ∧ OnlyIn linkParts u u.linkDown := by
    rcases Nat.eq_zero_or_pos u.bus.linkGen with h0 | h
    · rw [State.linkDown_down h0]; exact ⟨rfl, .refl _ _⟩
    · obtain ⟨bus, -, only⟩ := State.linkDown_spec h
      exact ⟨congrArg Bus.perst bus, only⟩
  exact ⟨_, rfl, down.1, rfl, rfl, rfl, rfl, ((low.trans down.2).step (State.resetFunction_onlyIn _) (by decide)).settle⟩

theorem RingsStopped.all {t : State} (h : RingsStopped t) : t.hif.linkStopped = true ∧ t.bus.linkLost = true ∧
    t.hif.fetching = false ∧ ∀ j ∈ t.hif.jobs, j.flow = none → ∀ c, j.phase ≠ .done c :=
  ⟨h.stopped, h.lost, h.fetching, h.drained⟩

/-- Settles O30: the three events stop the rings in one way (`State.ringsStopped_stopRings`): once `linkStopped` is set no completion
is posted, so that every job that waits for room leaves. -/
theorem linkLossStopsRings : Obligations.LinkLossStopsRings := by
  intro s
  refine ⟨fun h0 => congrArg done (State.linkDown_down h0), fun h => (State.pcieLinkDown_gives h).imp ?_,
    fun hb => congrArg done (if_pos hb), fun hb => (State.busMasterDisable_gives hb).imp ?_,
    fun h => (State.deviceToD3hot_gives h).imp ?_, s.perstAssert_gives⟩
  · rintro t ⟨gen, bme, table, pba, active, config, only⟩
    refine ⟨gen, bme, table, pba, fun ha => ?_, config, only⟩
    obtain ⟨stopped, live, status, counted⟩ := active ha
    exact ⟨stopped.all, live, status, counted⟩
  · rintro t ⟨bme, gen, active, config, only⟩
    refine ⟨bme, gen, fun ha => ?_, config, only⟩
    obtain ⟨stopped, live, status⟩ := active ha
    exact ⟨stopped.all, live, status⟩
  · rintro t ⟨d3, pba, sent, active, config, only⟩
    exact ⟨d3, pba, sent, fun ha hd => (active ha hd).all, config, only⟩

end Sys2Proof.Machine
end

section
namespace Sys2Proof.Machine

/-! The link returns (R90, R94, R97). -/

theorem State.linkUp_held {s : State} (h : s.bus.perst = true ∨ s.bus.endpointOff = true) (gen width : Nat) :
    s.linkUp gen width = s := if_pos (by rcases h with h | h <;> simp [h])

theorem exec_pcieLinkUp {s : State} {gen width : Nat} (hg : 1 ≤ gen) (hg' : gen ≤ 3) (hw : width = 1 ∨ width = 2 ∨ width = 4) :
    exec (.pcieLinkUp gen width) s = .next (s.linkUp gen width).settle := congrArg done (if_pos ⟨hg, hg', hw⟩)

theorem State.linkUp_spec {s : State} (hp : s.bus.perst = false) (he : s.bus.endpointOff = false) (hb : 0 < s.sys.bootStage)
    (hr : s.sys.resetLow = false) (hg : s.pwr.pwrGood = true) (gen width : Nat) :
    (s.linkUp gen width).bus = { s.bus with linkGen := gen, linkWidth := width } ∧
    (s.linkUp gen width).guard.live.contains (0x0201, 0xFF) = false ∧ OnlyIn [.bus, .guard] s (s.linkUp gen width) := by
  let u : State := { s with bus := { s.bus with linkGen := gen, linkWidth := width } }
  have up : s.linkUp gen width = u.gone 0x0201 0xFF := if_neg (by simp [hp, he, hr, hg]; omega)
  have trained : OnlyIn [.bus, .guard] s u := (OnlyIn.refl _ s).bus (by decide)
  rw [up]
  exact ⟨rfl, State.gone_not_live _ _ _, trained.step (State.gone_onlyIn _ _ _) (by decide)⟩

/-- Messages that go out change the pending bits and what has been sent, and nothing else of the buses. -/
theorem State.flushMsi_bus (s : State) : ∃ sent pending, s.flushMsi.bus = { s.bus with msixSent := sent, pba := pending } := by
  rw [State.flushMsi_eq]
  refine List.foldlRecOn (motive := fun w : State => ∃ x y, w.bus = { s.bus with msixSent := x, pba := y }) _ _
    ⟨_, _, rfl⟩ fun w hw v _ => ?_
  obtain ⟨x, y, hw⟩ := hw
  rw [State.tryMsi]
  split
  · exact ⟨_, _, congrArg (fun b : Bus => { b with msixSent := tmod 0 b.msixSent v (· + 1), pba := ldel b.pba v }) hw⟩
  · exact ⟨_, _, hw⟩

theorem State.busMasterEnable_gives {s : State} (h : 0 < s.bus.linkGen) : Gives .busMasterEnable s (fun t =>
    t.bus.bme = true ∧ t.guard.live.contains (0x0209, 0xFF) = false ∧
    (∀ k, t.canSend = true → t.masked k = false → t.bus.pba.contains k = false) ∧ OnlyIn [.bus, .guard] s t) := by
  let u : State := { s with bus := { s.bus with bme := true } }
  have on : s.masterOn = (u.gone 0x0209 0xFF).flushMsi := if_neg (show ¬ s.bus.linkGen = 0 by omega)
  have enabled : OnlyIn [.bus, .guard] s (u.gone 0x0209 0xFF) :=
    OnlyIn.step ((OnlyIn.refl _ s).bus (by decide)) (u.gone_onlyIn _ _) (by decide)
  have flushed := (u.gone 0x0209 0xFF).flushMsi_onlyIn
  obtain ⟨x, y, bus⟩ := (u.gone 0x0209 0xFF).flushMsi_bus
  refine ⟨_, congrArg done on, (congrArg Bus.bme bus).trans rfl, ?_, (State.flushMsi_spec _).2.1, ?_⟩
  · exact (congrArg (fun g => g.live.contains (0x0209, 0xFF)) (flushed.guard_eq (by decide))).trans (State.gone_not_live _ _ _)
  · exact (enabled.step flushed (by decide)).settle

theorem State.deviceToD0_gives {s : State} (h : 0 < s.bus.linkGen) : Gives (.deviceStateChange false) s (fun t =>
    t.bus.d3hot = false ∧ (∀ k, t.canSend = true → t.masked k = false → t.bus.pba.contains k = false) ∧
    OnlyIn [.bus] s t) := by
  let u : State := { s with bus := { s.bus with d3hot := false } }
  have state : s.deviceState false = u.flushMsi := if_neg (show ¬ s.bus.linkGen = 0 by omega)
  have moved : OnlyIn [.bus] s u := (OnlyIn.refl _ s).bus (by decide)
  obtain ⟨x, y, bus⟩ := u.flushMsi_bus
  exact ⟨_, congrArg done state, (congrArg Bus.d3hot bus).trans rfl, u.flushMsi_spec.2.1, (moved.trans u.flushMsi_onlyIn).settle⟩

/-! PERST_N is released (R560, Table 14.5). -/

theorem State.perstHigh_awake {s : State} (h : s.bus.perst = true) (hm : s.power.mode ≠ .deepStandby) :
    s.perstHigh = { s with bus := { s.bus with perst := false } } := by
  rw [State.perstHigh, if_neg (by simp [h])]
  dsimp only
  split
  · next hd => exact absurd hd hm
  all_goals rfl

theorem State.perstHigh_deepStandby {s : State} (h : s.bus.perst = true) (hm : s.power.mode = .deepStandby) :
    s.perstHigh = State.wakeNow { s with bus := { s.bus with perst := false } } 9 := by
  rw [State.perstHigh, if_neg (by simp [h])]
  dsimp only
  rw [hm]

/-! Wake events of an armed latch (R430, R439, R440). -/

/-- The latch with a wake event of source `src` that happens now. -/
def State.latchNow (s : State) (src : Nat) : State :=
  { s with power := { s.power with
      seen := s.power.seen ||| 2 ^ src
      latched := insertBy Wake.le
        { ns := s.ktime, tick := s.tick32, source := src, when_ := s.wakeWhen } s.power.latched } }

theorem State.wakeNow_latches {s : State} {src : Nat} (ha : s.power.armed = true) (hw : s.wakeOn src = true)
    (hl : s.power.latched.length < 16) : s.wakeNow src = (s.latchNow src).startExit src := by
  rw [State.wakeNow, State.wakeEvent, if_neg (by simp [ha, hw])]
  exact if_pos hl

theorem mem_insertBy_self {α : Type} (le : α → α → Bool) (x : α) (l : List α) : x ∈ insertBy le x l := by
  induction l with
  | nil => exact .head _
  | cons y l ih =>
    unfold insertBy
    split
    · exact .tail _ ih
    · exact .head _

theorem State.latchNow_source (s : State) (src : Nat) :
    (s.latchNow src).power.latched.any (fun w => w.source == src) = true :=
  List.any_eq_true.mpr ⟨_, mem_insertBy_self _ _ _, beq_self_eq_true _⟩

/-- The exit from RETAIN starts; PCIE_WAKE_N stays high for an event of the link. -/
theorem State.startExit_retain {s : State} (hm : s.power.mode = .retain) (ht : s.power.trans = .none) (src : Nat) :
    s.startExit src = { s with power := { s.power with trans := .exiting .retain, wakeOut := decide (src ≠ 9) } } := by
  rw [State.startExit, hm]
  exact if_pos ht

/-- The exit from DEEP STANDBY starts the module anew and keeps the latch and the level of PERST_N. -/
theorem State.startExit_deepStandby {s : State} (hm : s.power.mode = .deepStandby) (ht : s.power.trans = .none) (src : Nat) :
    (s.startExit src).bus.perst = s.bus.perst ∧ (s.startExit src).power.trans = .exiting .deepStandby ∧
    (s.startExit src).power.wakeOut = decide (src ≠ 9) ∧ (s.startExit src).power.latched = s.power.latched := by
  rw [State.startExit, hm]
  dsimp only
  rw [if_pos ht]
  exact ⟨rfl, rfl, rfl, rfl⟩

theorem State.wakeOn_nine {s : State} (h : s.flag KPR_WAKE_EN 9 = true) : s.wakeOn 9 = true := by simp [State.wakeOn, h]

theorem State.perstRelease_wakes {s : State} (h : s.bus.perst = true) (hm : s.power.mode = .deepStandby)
    (ht : s.power.trans = .none) (ha : s.power.armed = true) (he : s.flag KPR_WAKE_EN 9 = true)
    (hl : s.power.latched.length < 16) : Gives .perstRelease s (fun t =>
      t.bus.perst = false ∧ t.power.trans = .exiting .deepStandby ∧ t.power.wakeOut = false ∧
      t.power.latched.any (fun w => w.source == 9) = true) := by
  let u : State := { s with bus := { s.bus with perst := false } }
  have wakes : u.wakeNow 9 = (u.latchNow 9).startExit 9 := State.wakeNow_latches ha (State.wakeOn_nine he) hl
  obtain ⟨perst, trans, out, latched⟩ := State.startExit_deepStandby (s := u.latchNow 9) hm ht 9
  refine ⟨_, congrArg done ((State.perstHigh_deepStandby h hm).trans wakes), perst, trans, out, ?_⟩
  exact (congrArg (List.any · fun w => w.source == 9) latched).trans (u.latchNow_source 9)

/-! Requests in RETAIN (R432). -/

/-- The request is held until RUN. -/
def State.holdRequest (s : State) (cfg : Bool) (off : Nat) (v : Option Word) : State :=
  { s with bus := { s.bus with held := s.bus.held ++ [(cfg, off, v)] } }

theorem State.retaining_of_mode {s : State} (hm : s.power.mode = .retain) : s.retaining = true := by
  simp [State.retaining, hm]

/-- A request that the link brings in RETAIN, by its three outcomes. -/
theorem State.requestInRetain_eq {s : State} (hg : 0 < s.bus.linkGen) (hm : s.power.mode = .retain) (cfg : Bool) (off : Nat)
    (v : Option Word) : s.requestInRetain cfg off v =
      if s.wakeOn 9 then (s.holdRequest cfg off v).wakeNow 9
      else if cfg then { s with bus := { s.bus with crs := s.bus.crs + 1 } } else s.holdRequest cfg off v :=
  if_neg (by simp [State.retaining_of_mode hm]; omega)

theorem State.requestInRetain_wakes {s : State} (hg : 0 < s.bus.linkGen) (hm : s.power.mode = .retain)
    (ht : s.power.trans = .none) (he : s.flag KPR_WAKE_EN 9 = true) (ha : s.power.armed = true) (hl : s.power.latched = [])
    (cfg : Bool) (off : Nat) (v : Option Word) : Gives (.pcieRequestInRetain cfg off v) s (fun t =>
      t.bus.held = s.bus.held ++ [(cfg, off, v)] ∧ t.power.trans = .exiting .retain ∧ t.power.wakeOut = false ∧
      t.power.latched.map (·.source) = [9] ∧ OnlyIn [.bus, .power] s t) := by
  have wakes : (s.holdRequest cfg off v).wakeNow 9 = ((s.holdRequest cfg off v).latchNow 9).startExit 9 :=
    State.wakeNow_latches ha (State.wakeOn_nine he) (show s.power.latched.length < 16 by simp [hl])
  have answer : s.requestInRetain cfg off v = ((s.holdRequest cfg off v).latchNow 9).startExit 9 := by
    rw [State.requestInRetain_eq hg hm, if_pos (State.wakeOn_nine he), wakes]
  rw [State.startExit_retain (s := (s.holdRequest cfg off v).latchNow 9) hm ht] at answer
  have held : OnlyIn [.bus, .power] s (s.holdRequest cfg off v) := (OnlyIn.refl _ s).bus (by decide)
  have latched : OnlyIn [.bus, .power] s ((s.holdRequest cfg off v).latchNow 9) := held.power (by decide)
  refine ⟨_, congrArg done answer, rfl, rfl, rfl, ?_, (latched.power (by decide)).settle⟩
  show (insertBy Wake.le _ s.power.latched).map (·.source) = [9]
  rw [hl]; rfl

theorem State.requestInRetain_stays {s : State} (hg : 0 < s.bus.linkGen) (hm : s.power.mode = .retain)
    (he : s.flag KPR_WAKE_EN 9 = false) (cfg : Bool) (off : Nat) (v : Option Word) :
    Gives (.pcieRequestInRetain cfg off v) s (fun t =>
      t.bus.held = (if cfg then s.bus.held else s.bus.held ++ [(cfg, off, v)]) ∧
      t.bus.crs = (if cfg then s.bus.crs + 1 else s.bus.crs) ∧ OnlyIn [.bus] s t) := by
  have asleep : s.wakeOn 9 = false := by simp [State.wakeOn, he]
  have answer := State.requestInRetain_eq hg hm cfg off v
  rw [asleep] at answer
  refine ⟨_, congrArg done answer, ?_⟩
  cases cfg with
  | true => exact ⟨rfl, rfl, ((OnlyIn.refl [.bus] s).bus (by decide)).settle⟩
  | false => exact ⟨rfl, rfl, ((OnlyIn.refl [.bus] s).bus (by decide)).settle⟩

/-- Settles O31: the link's return and D0 let out what may send (`State.flushMsi_spec`), and a wake event is latched before the exit
starts, which in DEEP STANDBY keeps the latch through the reset. -/
theorem linkReturnsAndWakes : Obligations.LinkReturnsAndWakes := by
  refine ⟨fun s => ⟨fun gen width hg hg' hw => ⟨fun h => ?_, fun hp he hb hr hgood => ?_⟩,
    fun h => ⟨State.busMasterEnable_gives h, State.deviceToD0_gives h⟩, fun h => congrArg done (if_pos h), fun h hm => ?_,
    State.perstRelease_wakes⟩, fun s cfg off v => ⟨fun h => congrArg done (if_pos h), fun hg hm ht => ⟨fun he ha hl => ?_,
      fun he => State.requestInRetain_stays hg hm he cfg off v⟩⟩⟩
  · exact (exec_pcieLinkUp hg hg' hw).trans (congrArg done (State.linkUp_held h gen width))
  · obtain ⟨bus, gone, only⟩ := State.linkUp_spec hp he hb hr hgood gen width
    refine ⟨_, exec_pcieLinkUp hg hg' hw, ?_, ?_, ?_, gone, only.settle⟩
    · exact congrArg Bus.linkGen bus
    · exact congrArg Bus.linkWidth bus
    · exact (congrArg Bus.bme bus).trans rfl
  · exact ⟨_, congrArg done (State.perstHigh_awake h hm), rfl, ((OnlyIn.refl _ s).bus (by decide)).settle⟩
  · exact State.requestInRetain_wakes hg hm ht he ha hl cfg off v

end Sys2Proof.Machine
end

section
namespace Sys2Proof.Machine

/-! An entry that did not reach host memory (R131). -/

theorem State.putEntries_spec (r : RingAt) (l : List (List Byte)) (s : State) (pi : Nat) (posts : List RingPost) :
    OnlyIn [.mem] s (State.putEntries r s pi l posts).1 ∧
    (State.putEntries r s pi l posts).2.length = posts.length + l.length := by
  induction l generalizing s pi posts with
  | nil => exact ⟨.refl _ _, rfl⟩
  | cons e l ih =>
    obtain ⟨only, len⟩ := ih (s.putEntry r pi e).1 ((pi + 1) % 65536) ((s.putEntry r pi e).2 :: posts)
    refine ⟨(s.hostWrite_onlyIn _ _).trans only, len.trans ?_⟩
    rw [List.length_cons, List.length_cons]; omega

/-- The slot of a lost entry is used again: the later entries move down, and one entry less is kept. -/
theorem State.loseSlot_spec (s : State) (r : RingAt) (pi : Nat) {back : Nat} {posts : List RingPost} (h : back < posts.length)
    (mark : List Byte → List Byte) :
    OnlyIn [.mem] s (s.loseSlot r pi back posts mark).1 ∧ (s.loseSlot r pi back posts mark).2.length + 1 = posts.length := by
  have undo (s : State) (p : RingPost × Nat) : OnlyIn [.mem] s (s.unputEntry r ((pi + 65535 - p.2) % 65536) p.1) :=
    (OnlyIn.refl _ s).mem (by decide)
  have undone := OnlyIn.foldl _ undo (posts.take (back + 1)).zipIdx s
  unfold State.loseSlot
  extract_lets taken u again marked
  have count : marked.length = back := by
    have entries : again.length = back := by simp [again, taken]; omega
    rw [← entries]
    unfold marked
    clear_value again
    cases again <;> rfl
  obtain ⟨only, len⟩ := State.putEntries_spec r marked u ((pi + 65535 - back) % 65536) (posts.drop (back + 1))
  refine ⟨undone.trans only, ?_⟩
  rw [len, count, List.length_drop]; omega

theorem State.patchStatus_onlyIn (s : State) (off at' now : Nat) : OnlyIn [.mem] s (s.patchStatus off at' now) :=
  .ite (s.hostWrite_onlyIn _ _) (.refl _ _)

theorem OnlyIn.chans {ps : List Part} {r s : State} (h : OnlyIn ps r s) {x : Table Channel} (hp : Part.chans ∈ ps) :
    OnlyIn ps r { s with chans := x } :=
  h.trans fun p => by cases p <;> first | exact .inr rfl | exact .inl hp

theorem OnlyIn.fstat_eq {ps : List Part} {s t : State} (h : OnlyIn ps s t) (hp : Part.guard ∉ ps) (b : Nat) :
    t.fstat b = s.fstat b := by rw [State.fstat, h.guard_eq hp, State.fstat]

/-- A lost completion: its ring is one entry shorter, and the loss is counted; every other ring and counter stays. -/
theorem State.takeBackCpl_spec {s : State} {n back : Nat} (h : back < (s.cq n).recent.length) :
    ((s.takeBackCpl n back).cq n).pi = ((s.cq n).pi + 65535) % 65536 ∧
    ((s.takeBackCpl n back).cq n).recent.length + 1 = (s.cq n).recent.length ∧
    (∀ k, k ≠ n → (s.takeBackCpl n back).cq k = s.cq k) ∧
    (s.takeBackCpl n back).rd HIF_CPL_LOST_COUNT = bump32 (s.rd HIF_CPL_LOST_COUNT) ∧
    (s.takeBackCpl n back).rd HIF_DMA_ERR_COUNT = s.rd HIF_DMA_ERR_COUNT ∧
    OnlyIn [.regs, .hif, .chans, .mem] s (s.takeBackCpl n back) := by
  have lost := s.loseSlot_spec (s.cqAt n) (s.cq n).pi h id
  unfold State.takeBackCpl
  dsimp only
  rw [if_neg (by omega)]
  generalize s.loseSlot (s.cqAt n) (s.cq n).pi back (s.cq n).recent id = p at lost ⊢
  obtain ⟨u, posts⟩ := p
  obtain ⟨only, len⟩ := lost
  dsimp only at only len ⊢
  generalize hq : ({ s.cq n with
      pi := ((s.cq n).pi + 65535) % 65536, recent := posts,
      unsignalled := if back < (s.cq n).unsignalled then (s.cq n).unsignalled - 1 else (s.cq n).unsignalled } : Cq) = q
  let v := (u.setCq n q).lowerRings n (((s.cq n).pi + 65535 - back) % 65536) (s.cq n).pi
  have patched := v.patchStatus_onlyIn (0x180 + 2 * n) (((s.cq n).pi + 65535 - back) % 65536) (s.cq n).pi
  have cq (k : Nat) : ((v.patchStatus (0x180 + 2 * n) (((s.cq n).pi + 65535 - back) % 65536) (s.cq n).pi).bump
      HIF_CPL_LOST_COUNT).cq k = (u.setCq n q).cq k := congrArg (fun h : Hif => tget Cq.reset h.cqs k) (patched.hif_eq (by decide))
  have same : (u.setCq n q).cq n = q := State.cq_setCq_same u n q
  have rd (d : RegDef) : (v.patchStatus (0x180 + 2 * n) (((s.cq n).pi + 65535 - back) % 65536) (s.cq n).pi).rd d = s.rd d :=
    (State.rd_congr (patched.regs_eq (by decide)) d 0).trans (State.rd_congr (only.regs_eq (by decide)) d 0)
  refine ⟨?_, ?_, fun k hk => ?_, ?_, ?_, ?_⟩
  · rw [cq, same, ← hq]
  · rw [cq, same, ← hq]; exact len
  · rw [cq, State.cq_setCq_other _ _ hk]
    exact congrArg (fun h : Hif => tget Cq.reset h.cqs k) (only.hif_eq (by decide))
  · exact (State.rd_bump_same _ _ _).trans (congrArg bump32 (rd _))
  · exact (State.rd_bump_other _ _ _ _ _ _ (by decide)).trans (rd _)
  · have lowered : OnlyIn [.regs, .hif, .chans, .mem] s v := OnlyIn.chans (OnlyIn.hif (only.mono (qs := [.regs, .hif, .chans, .mem]) (by decide)) (by decide)) (by decide)
    exact (lowered.step patched (by decide)).step (State.bump_onlyIn _ _ _) (by decide)

/-- A lost event: the event queue is one entry shorter, the loss is counted, and the next event says so where it was the newest. -/
theorem State.takeBackEvent_spec {s : State} {back : Nat} (h : back < s.hif.evRecent.length) :
    (s.takeBackEvent back).hif.evPi = (s.hif.evPi + 65535) % 65536 ∧
    (s.takeBackEvent back).hif.evRecent.length + 1 = s.hif.evRecent.length ∧
    (back = 0 → (s.takeBackEvent back).hif.lostBefore = true) ∧
    (s.takeBackEvent back).rd HIF_EVQ_LOST_COUNT = bump32 (s.rd HIF_EVQ_LOST_COUNT) ∧
    (s.takeBackEvent back).rd HIF_DMA_ERR_COUNT = s.rd HIF_DMA_ERR_COUNT ∧
    OnlyIn [.regs, .hif, .mem] s (s.takeBackEvent back) := by
  have lost := s.loseSlot_spec s.evAt s.hif.evPi h markLost
  unfold State.takeBackEvent
  dsimp only
  rw [if_neg (by omega)]
  generalize s.loseSlot s.evAt s.hif.evPi back s.hif.evRecent markLost = p at lost ⊢
  obtain ⟨u, posts⟩ := p
  obtain ⟨only, len⟩ := lost
  dsimp only at only len ⊢
  generalize hx : ({ s.hif with
      evPi := (s.hif.evPi + 65535) % 65536, evRecent := posts, lostBefore := s.hif.lostBefore || back == 0,
      lostNow := true } : Hif) = x
  let v : State := { u with hif := x }
  have patched := v.patchStatus_onlyIn 0x10 ((s.hif.evPi + 65535 - back) % 65536) s.hif.evPi
  have hif : ((v.patchStatus 0x10 ((s.hif.evPi + 65535 - back) % 65536) s.hif.evPi).bump HIF_EVQ_LOST_COUNT).hif = x :=
    patched.hif_eq (by decide)
  have rd (d : RegDef) : (v.patchStatus 0x10 ((s.hif.evPi + 65535 - back) % 65536) s.hif.evPi).rd d = s.rd d :=
    (State.rd_congr (patched.regs_eq (by decide)) d 0).trans (State.rd_congr (only.regs_eq (by decide)) d 0)
  refine ⟨?_, ?_, fun h0 => ?_, ?_, ?_, ?_⟩
  · rw [hif, ← hx]
  · rw [hif, ← hx]; exact len
  · rw [hif, ← hx, h0]; simp
  · exact (State.rd_bump_same _ _ _).trans (congrArg bump32 (rd _))
  · exact (State.rd_bump_other _ _ _ _ _ _ (by decide)).trans (rd _)
  · have shorter : OnlyIn [.regs, .hif, .mem] s v := OnlyIn.hif (only.mono (qs := [.regs, .hif, .mem]) (by decide)) (by decide)
    exact (shorter.step patched (by decide)).step (State.bump_onlyIn _ _ _) (by decide)

/-- The failed write is counted and reported. -/
def State.dmaErr (s : State) : State := (s.bump HIF_DMA_ERR_COUNT).raiseI 0x0204

theorem State.dmaErr_spec (s : State) : s.dmaErr.rd HIF_DMA_ERR_COUNT = bump32 (s.rd HIF_DMA_ERR_COUNT) ∧
    bitAt (s.dmaErr.fstat 2) 3 = true ∧ (∃ l, s.dmaErr.hif = { s.hif with evDue := l }) ∧
    (∀ d : RegDef, d.aside → d.at 0 ≠ HIF_DMA_ERR_COUNT.at 0 → s.dmaErr.rd d = s.rd d) ∧
    OnlyIn [.regs, .hif, .log, .guard] s s.dmaErr := by
  obtain ⟨hif, regs⟩ := (s.bump HIF_DMA_ERR_COUNT).raiseI_aside 0x0204 {}
  refine ⟨(regs (by decide)).trans (s.rd_bump_same _ _), State.raiseI_sets _ 0x0204 _, hif, fun d ha hd => ?_, ?_⟩
  · exact (regs ha).trans (s.rd_bump_other _ _ _ _ _ hd)
  · exact ((OnlyIn.refl _ s).step (s.bump_onlyIn _ _) (by decide)).step (State.raiseI_onlyIn _ 0x0204 {}) (by decide)

/-- A failed copy that is not one of a waiting LOG_READ or STATS_READ is only reported. -/
theorem State.copyFailed_reported {s : State} {id : Nat}
    (h : ∀ j, s.job? id = some j → j.phase ≠ .waiting ∨ (j.desc.opcode ≠ 0x40 ∧ j.desc.opcode ≠ 0x41)) :
    s.copyFailed id = s.raiseI 0x0204 := by
  unfold State.copyFailed
  split
  · rfl
  · next j hj =>
    refine if_neg fun ⟨hop, hw⟩ => ?_
    rcases h j hj with hn | ⟨h0, h1⟩
    · exact hn hw
    · exact hop.elim h0 h1

theorem State.writeFailed_eq {s : State} (h : s.canDma = true) (target : DmaTarget) : s.writeFailed target =
    match target with
    | .completion ring back => s.dmaErr.takeBackCpl ring back
    | .event back => s.dmaErr.takeBackEvent back
    | .statusBlock => s.dmaErr
    | .copy job => (s.bump HIF_DMA_ERR_COUNT).copyFailed job := by
  unfold State.writeFailed
  rw [if_neg (by simp [h])]
  cases target <;> rfl

/-- Settles O32: every failed write is first counted and reported (`State.dmaErr_spec`), and what a lost entry then takes back leaves
the report and its count alone. -/
theorem dmaWriteFailure : Obligations.DmaWriteFailure := by
  refine ⟨fun s target h => congrArg done (if_pos (by simp [h])), fun s h => ?_⟩
  obtain ⟨count, status, ⟨l, hif⟩, others, only⟩ := s.dmaErr_spec
  refine ⟨⟨_, congrArg done (State.writeFailed_eq h _), count, status, only.settle⟩, fun id hid => ?_, fun n back hb => ?_,
    fun back hb => ?_⟩
  · exact ⟨_, congrArg done ((State.writeFailed_eq h _).trans (State.copyFailed_reported hid)), count, status, only.settle⟩
  · have cq (k : Nat) : s.dmaErr.cq k = s.cq k := by rw [State.cq, hif, State.cq]
    obtain ⟨pi, len, rings, lost, kept, back'⟩ := State.takeBackCpl_spec (s := s.dmaErr) (n := n) (back := back) (by rwa [cq])
    rw [cq] at pi len
    have lostCount := lost.trans (congrArg bump32 (others _ (by decide) (by decide)))
    have answer : s.writeFailed (.completion n back) = s.dmaErr.takeBackCpl n back := State.writeFailed_eq h _
    generalize s.dmaErr.takeBackCpl n back = v at pi len rings lostCount kept back' answer
    refine ⟨_, congrArg done answer, kept.trans count, ?_, pi, len, fun k hk => (rings k hk).trans (cq k), lostCount, ?_⟩
    · exact (congrArg (bitAt · 3) (back'.fstat_eq (by decide) 2)).trans status
    · exact ((only.mono (by decide)).step back' (by decide)).settle
  · have recent : s.dmaErr.hif.evRecent = s.hif.evRecent := by rw [hif]
    have evPi : s.dmaErr.hif.evPi = s.hif.evPi := by rw [hif]
    obtain ⟨pi, len, newest, lost, kept, back'⟩ := State.takeBackEvent_spec (s := s.dmaErr) (back := back) (by rwa [recent])
    rw [recent] at len
    rw [evPi] at pi
    have lostCount := lost.trans (congrArg bump32 (others _ (by decide) (by decide)))
    have answer : s.writeFailed (.event back) = s.dmaErr.takeBackEvent back := State.writeFailed_eq h _
    generalize s.dmaErr.takeBackEvent back = v at pi len newest lostCount kept back' answer
    refine ⟨_, congrArg done answer, kept.trans count, ?_, pi, len, newest, lostCount, ?_⟩
    · exact (congrArg (bitAt · 3) (back'.fstat_eq (by decide) 2)).trans status
    · exact ((only.mono (by decide)).step back' (by decide)).settle

end Sys2Proof.Machine
end

section
namespace Sys2Proof.Machine

/-! A job number that is in use already (R103, R122). -/

/-- A module in RUN and ACTIVE whose ring 0 has one descriptor to fetch. The next job number, 0, is that of a job that is admitted and
at work on the first syntactic engine. -/
def numberInUseState : State :=
  { State.reset with
    regs := [(HIF_SQ_CFG.at 0, 0x10)]
    sys := { Sys.reset with bootStage := 7, cfg := .active }
    power := { Power.reset with mode := .run }
    bus := { Bus.reset with linkGen := 1, bme := true }
    engines := lmod State.reset.engines 0 (fun e => { e with job := some 0 })
    hif := { Hif.reset with
      fetching := true, sqs := [(0, { Sq.reset with pi := 1 })],
      jobs := [{ Job.blank 0 .host 0 0 (descOf []) 0 0 with phase := .admitted }] } }

theorem numberInUseState_ready : numberInUseState.canDma = true ∧ numberInUseState.hif.fetching = true ∧
    numberInUseState.hif.polling = none ∧ numberInUseState.nextRing = some 0 := by decide +kernel

/-- The descriptor that arrives names no opcode, so that job 0 ends: the admitted job leaves its engine. -/
theorem numberInUseState_leaves :
    (numberInUseState.fetch [.ok []]).engines ≠ numberInUseState.engines := by decide +kernel

/-- Refutes O26: in `numberInUseState` the descriptor takes a job number that a job at work has, and fails its validation; the job that
ends is the one at work, whose engine changes, which no fetch was to do. -/
theorem not_ringReads : ¬ Obligations.RingReads := by
  rintro ⟨-, -, -, fetch⟩
  obtain ⟨dma, fetching, polling, ring⟩ := numberInUseState_ready
  obtain ⟨t, ht, -, -, -, only⟩ := (fetch numberInUseState 0 dma fetching polling ring).1 []
  have answer : exec (.descriptorFetch [.ok []]) numberInUseState = .next (numberInUseState.fetch [.ok []]).settle := rfl
  cases answer.symm.trans ht
  exact numberInUseState_leaves (only.engines_eq (by decide))

end Sys2Proof.Machine
end

section
namespace Sys2Proof.Machine

/-! A job whose completion ring is none of the 64 (R121, R341). -/

/-- LOG_READ of no entries to host address 4096. -/
def logReadDesc : Desc := descOf ([0x40] ++ List.replicate 16 0 ++ [0x10])

/-- The LOG_READ that waits in `fallbackRingState`. Its completion ring is number 28384, whose configuration register would stand at the
offset of BPM_COMB_FALLBACK_COUNT_0. -/
def fallbackRingJob : Job := Job.blank 0 .host 0 28384 logReadDesc 0 0

/-- A module in RUN and ACTIVE with a free cell in comb 1 only. BPM_COMB_FALLBACK_COUNT_0 is 15, which as a ring size is 32768; the ring
holds one entry. -/
def fallbackRingState : State :=
  { State.reset with
    regs := [(BPM_COMB_FALLBACK_COUNT.at 0, 15)]
    sys := { Sys.reset with bootStage := 7, cfg := .active }
    power := { Power.reset with mode := .run }
    bus := { Bus.reset with linkGen := 1, bme := true }
    bpm := { Bpm.reset with built := true, counts := [0, 1, 0, 0, 0, 0, 0, 0] }
    hif := { Hif.reset with cqs := [(28384, { Cq.reset with pi := 1 })], jobs := [fallbackRingJob] } }

theorem fallbackRingState_ready : fallbackRingState.postable fallbackRingJob = true ∧
    fallbackRingState.readyJob 0 0x40 = some fallbackRingJob ∧ fallbackRingState.classOk fallbackRingJob.desc = true := by
  decide +kernel

theorem fallbackRingState_takeable : fallbackRingState.takeable 0 0x40 fallbackRingJob :=
  have ⟨_, ready, class_⟩ := fallbackRingState_ready
  ⟨ready, fun h => absurd h (by decide), class_, fun h => absurd h (by decide)⟩

/-- The cell for staging comes from comb 1; the fallback is counted, and with 16 in place of 15 the ring is full. -/
theorem fallbackRingState_full : ((fallbackRingState.readLog 0 []).cq 28384).pi = 1 ∧
    bitAt ((fallbackRingState.readLog 0 []).fstat 14) 1 = false := by decide +kernel

/-- Refutes O49: the LOG_READ of `fallbackRingState` can be completed when it is taken up, but the staging of its copy counts a fallback in the
counter that its ring's configuration is read from; the ring has no room then, and the job is not completed. -/
theorem not_hostJobsComplete : ¬ Obligations.HostJobsComplete := by
  intro h
  obtain ⟨postable, -, -⟩ := fallbackRingState_ready
  obtain ⟨-, logRead, -⟩ := h fallbackRingState 0 fallbackRingJob postable
  obtain ⟨t, ht, done⟩ := logRead fallbackRingState_takeable []
  have answer : exec (.logRead ⟨0, []⟩) fallbackRingState = .next (fallbackRingState.readLog 0 []).settle := rfl
  cases answer.symm.trans ht
  obtain ⟨full, unbroken⟩ := fallbackRingState_full
  have open_ {e : End} : ¬ Ended fallbackRingState (fallbackRingState.readLog 0 []).settle fallbackRingJob e :=
    fun ⟨_, pi, _⟩ => absurd (full.symm.trans pi) (by decide)
  rcases done with ⟨ended, -⟩ | ⟨_, ended⟩ | ⟨broken, -⟩
  · exact open_ ended
  · exact open_ ended
  · exact absurd (unbroken.symm.trans broken) (by decide)

end Sys2Proof.Machine
end

section
namespace Sys2Proof.Machine

/-! The on-chip SRAM: what a write among rivals leaves (R304 to R311). -/

/-- Bytes written in succession are read back. -/
theorem readBytes_of_getElem (d : Byte) (m : Table Byte) (vs : List Byte) (a : Nat)
    (h : ∀ (i : Nat) (hi : i < vs.length), tget d m (a + i) = vs[i]) : readBytes d m a vs.length = vs := by
  induction vs generalizing a with
  | nil => rfl
  | cons v vs ih =>
    have head : tget d m a = v := h 0 (Nat.succ_pos _)
    rw [List.length_cons, readBytes, head, ih (a + 1)]
    · intro i hi
      rw [show a + 1 + i = a + (i + 1) by omega]
      exact h (i + 1) (by simpa using hi)

theorem readBytes_tputs_same (d : Byte) (m : Table Byte) (a : Nat) (vs : List Byte) :
    readBytes d (tputs d m a vs) a vs.length = vs :=
  readBytes_of_getElem d _ vs a fun i hi => tget_tputs_inside d vs m a i hi

theorem State.sramPut_reads (s : State) (a v : Nat) : readBytes 0 (s.sramPut a (leBytes 4 v)).mem.sram a 4 = leBytes 4 v :=
  readBytes_tputs_same 0 s.mem.sram a (leBytes 4 v)

theorem State.sramPut_keeps (s : State) (a v : Nat) {k : Nat} (h : k < a ∨ a + 4 ≤ k) :
    tget 0 (s.sramPut a (leBytes 4 v)).mem.sram k = tget 0 s.mem.sram k :=
  tget_tputs_outside 0 (leBytes 4 v) s.mem.sram a k (by rw [length_leBytes]; exact h)

theorem State.sramPut_onlyIn (s : State) (a : Nat) (bs : List Byte) : OnlyIn [.mem] s (s.sramPut a bs) :=
  (OnlyIn.refl _ s).mem (by decide)

/-- Without a rival the bridge's write lands in its first cycle. -/
theorem State.sramAccess_alone (s : State) (a : Nat) (v : Word) :
    (s.sramAccess a (some v) []).1 = s.sramPut a (leBytes 4 v.toNat) := rfl

/-- A rival that writes in the same cycle is served first, and the bridge receives BUSY once. -/
theorem State.sramAccess_rivalWrites (s : State) (a q : Nat) (v : Word) (x : DWord) (h : q < 7) :
    (s.sramAccess a (some v) [⟨0, q, some x⟩]).1 =
      ((s.sramPut (a / 8 * 8) (leBytes 8 x.toNat)).bump MEM_BUSY_COUNT).sramPut a (leBytes 4 v.toNat) := by
  interval_cases q <;> rfl

/-- A rival that reads in the same cycle receives BUSY once, and the bridge's write lands at once. -/
theorem State.sramAccess_rivalReads (s : State) (a q : Nat) (v : Word) (h : q < 7) :
    (s.sramAccess a (some v) [⟨0, q, none⟩]).1 = (s.sramPut a (leBytes 4 v.toNat)).bump MEM_BUSY_COUNT := by
  interval_cases q <;> rfl

/-- A rival's access of the same cycle delays one of the two, and the bridge's word stands last. -/
theorem State.sramAccess_rival_spec (s : State) (a : Nat) (v : Word) (w : Option DWord) {q : Nat} (h : q < 7) :
    readBytes 0 (s.sramAccess a (some v) [⟨0, q, w⟩]).1.mem.sram a 4 = leBytes 4 v.toNat ∧
      (s.sramAccess a (some v) [⟨0, q, w⟩]).1.rd MEM_BUSY_COUNT = bump32 (s.rd MEM_BUSY_COUNT) ∧
      OnlyIn [.regs, .mem] s (s.sramAccess a (some v) [⟨0, q, w⟩]).1 ∧
      (w = none → ∀ k, (k < a ∨ a + 4 ≤ k) →
        tget 0 (s.sramAccess a (some v) [⟨0, q, w⟩]).1.mem.sram k = tget 0 s.mem.sram k) := by
  have put : ∀ (r : State) (b : Nat) (bs : List Byte), OnlyIn [.regs, .mem] r (r.sramPut b bs) :=
    fun r b bs => OnlyIn.mono (r.sramPut_onlyIn b bs) (by decide)
  have bumped : ∀ r : State, OnlyIn [.regs, .mem] r (r.bump MEM_BUSY_COUNT) :=
    fun r => OnlyIn.mono (r.bump_onlyIn MEM_BUSY_COUNT 0) (by decide)
  cases w with
  | none =>
    rw [s.sramAccess_rivalReads a q v h]
    exact ⟨s.sramPut_reads a _, (s.sramPut a _).rd_bump_same MEM_BUSY_COUNT 0, (put s a _).trans (bumped _),
      fun _ k hk => s.sramPut_keeps a _ hk⟩
  | some x =>
    rw [s.sramAccess_rivalWrites a q v x h]
    exact ⟨State.sramPut_reads _ a _, (s.sramPut (a / 8 * 8) _).rd_bump_same MEM_BUSY_COUNT 0,
      ((put s _ _).trans (bumped _)).trans (put _ a _), nofun⟩

theorem exec_sramWindowWrite_active {s : State} {p : Path} {off : Nat} (v : Word) (x : SramAccess)
    (sram : isSramOffset off = true) (aligned : off % 4 = 0) (reach : s.reaches p off = true) (active : s.isActive = true) :
    exec (.sramWindowWrite p off v x) s = .next (s.bump SYS_LATE_WRITES).settle :=
  congrArg done (by rw [if_pos sram, State.windowWrite, if_neg (by simp [reach, aligned]), if_pos active])

theorem exec_sramWindowWrite_config {s : State} {p : Path} {off : Nat} (v : Word) (x : SramAccess)
    (sram : isSramOffset off = true) (aligned : off % 4 = 0) (reach : s.reaches p off = true) (config : s.isActive = false) :
    exec (.sramWindowWrite p off v x) s =
      .next (((s.sramAccess (off - 0x400000) (some v) x.rivals).1).sramCheck (off - 0x400000) x.found).settle :=
  congrArg done (by rw [if_pos sram, State.windowWrite, if_neg (by simp [reach, aligned]), if_neg (by simp [config])])

theorem State.sramCorrected_spec (s : State) (a : Nat) :
    ((s.sramCheck a .corrected).rd MEM_CE_COUNT = bump32 (s.rd MEM_CE_COUNT)) ∧
      bitAt ((s.sramCheck a .corrected).fstat 12) 0 = true ∧ OnlyIn [.regs, .hif, .log, .guard] s (s.sramCheck a .corrected) :=
  ⟨(((s.bump MEM_CE_COUNT).raiseI_aside 0x0C01 { addr := a }).2 (by decide)).trans (s.rd_bump_same MEM_CE_COUNT 0),
    (s.bump MEM_CE_COUNT).raiseI_sets 0x0C01 { addr := a },
    (OnlyIn.mono (s.bump_onlyIn MEM_CE_COUNT 0) (by decide)).trans
      (OnlyIn.mono ((s.bump MEM_CE_COUNT).raiseI_onlyIn 0x0C01 _) (by decide))⟩

/-- What a word written to the SRAM window does (R93, R306, R310). -/
theorem sramWindowWrite_spec (p : Path) (off : Nat) (v : Word) (s : State) (sram : isSramOffset off = true)
    (aligned : off % 4 = 0) (reach : s.reaches p off = true) (config : s.isActive = false) :
    Gives (.sramWindowWrite p off v .quiet) s (fun t =>
      readBytes 0 t.mem.sram (off - 0x400000) 4 = leBytes 4 v.toNat ∧
      (∀ a, (a < off - 0x400000 ∨ off - 0x400000 + 4 ≤ a) → tget 0 t.mem.sram a = tget 0 s.mem.sram a) ∧
      OnlyIn [.mem] s t) ∧
    Gives (.sramWindowWrite p off v ⟨[], .corrected⟩) s (fun t =>
      readBytes 0 t.mem.sram (off - 0x400000) 4 = leBytes 4 v.toNat ∧ bitAt (t.fstat 12) 0 = true ∧
      t.rd MEM_CE_COUNT = bump32 (s.rd MEM_CE_COUNT) ∧ OnlyIn [.regs, .mem, .hif, .log, .guard] s t) ∧
    ∀ q w, q < 7 → Gives (.sramWindowWrite p off v ⟨[⟨0, q, w⟩], .clean⟩) s (fun t =>
      readBytes 0 t.mem.sram (off - 0x400000) 4 = leBytes 4 v.toNat ∧
      t.rd MEM_BUSY_COUNT = bump32 (s.rd MEM_BUSY_COUNT) ∧ OnlyIn [.regs, .mem] s t ∧
      (w = none → ∀ a, (a < off - 0x400000 ∨ off - 0x400000 + 4 ≤ a) →
        tget 0 t.mem.sram a = tget 0 s.mem.sram a)) := by
  have step := fun x => exec_sramWindowWrite_config v x sram aligned reach config
  generalize off - 0x400000 = a at step ⊢
  refine ⟨⟨_, step _, ?_, fun k => s.sramPut_keeps a _, (s.sramPut_onlyIn a _).settle⟩,
    ⟨_, step _, ?_⟩, fun q w hq => ?_⟩
  · exact s.sramPut_reads a _
  · obtain ⟨counted, raised, only⟩ := (s.sramPut a (leBytes 4 v.toNat)).sramCorrected_spec a
    refine ⟨?_, raised, counted, ?_⟩
    · change readBytes 0 (State.sramCheck _ a .corrected).mem.sram a 4 = _
      rw [State.sramAccess_alone, only.mem_eq (by decide)]
      exact s.sramPut_reads a _
    · exact ((OnlyIn.mono (s.sramPut_onlyIn a _) (by decide)).trans (OnlyIn.mono only (by decide))).settle
  · obtain ⟨reads, counted, only, keeps⟩ := s.sramAccess_rival_spec a v w hq
    exact ⟨_, step _, reads, counted, only.settle, keeps⟩

/-! The scrubber (R310 to R312). -/

/-- The scrubber runs: MEM_SCRUB lets it, and the module is awake and booted. -/
def State.scrubs (s : State) : Prop :=
  s.flag MEM_SCRUB 0 = true ∧ s.asleep = false ∧ s.sys.bootStage = 7 ∧ s.power.mode ≠ .off

theorem State.scrub_eq (s : State) (a : Nat) (found : ScrubFind) (h : s.scrubs) : s.scrub a found = s.sramCheck a found :=
  if_pos (by simpa [State.scrubs, and_assoc] using h)

theorem State.scrub_idle (s : State) (a : Nat) (found : ScrubFind) (h : ¬ s.scrubs) : s.scrub a found = s :=
  if_neg (by simpa [State.scrubs, and_assoc] using h)

theorem exec_sramScrub {a : Nat} (s : State) (found : ScrubFind) (ha : a < sramBytes) :
    exec (.sramScrub a found) s = .next (s.scrub a found).settle := onUnit_lt s _ ha

theorem thas_tset_same {α : Type} (t : Table α) (i : Nat) (v : α) : thas (tset t i v) i = true := by
  induction t with
  | nil => simp [tset, thas_cons]
  | cons p t ih =>
    obtain ⟨k, x⟩ := p
    rw [tset]
    split
    · simp [thas_cons]
    · split
      · simp [thas_cons]
      · simp [thas_cons, ih]

/-- A default shows only where a table has no entry. -/
theorem tget_default {α : Type} (d e : α) (t : Table α) (j : Nat) (h : thas t j = true) : tget d t j = tget e t j := by
  induction t with
  | nil => exact absurd h (by simp [thas])
  | cons p t ih =>
    obtain ⟨k, x⟩ := p
    rw [tget, tget]
    split
    · rfl
    · next hne =>
      rw [thas_cons, show (k == j) = false from beq_false_of_ne (Ne.symm hne), Bool.false_or] at h
      exact ih h

/-- A lost map entry of a cell of the pool leaves it allocated with tag 0xFF, and the other cells as they were (R311). -/
theorem State.loseCell_spec (s : State) (h : Nat) (hh : h < 2 ^ 24) (fits : handleIndex h < lget 0 s.bpm.counts (handleComb h)) :
    thas (s.loseCell h).bpm.cells h = true ∧ tget 0 (s.loseCell h).bpm.cells h = 0xFF ∧
      (∀ k, k ≠ h → tget 0xFF (s.loseCell h).bpm.cells k = tget 0xFF s.bpm.cells k) ∧ OnlyIn [.bpm] s (s.loseCell h) := by
  have comb : handleComb h < 8 := by unfold handleComb; omega
  unfold State.loseCell
  dsimp only
  split
  · exact ⟨thas_tset_same _ h _, tget_tset_same 0 _ h _, fun k hk => tget_tset_other 0xFF _ _ hk,
      fun p => by cases p <;> first | exact .inr rfl | exact .inl (by decide)⟩
  · next kept =>
    have already : thas s.bpm.cells h = true ∧ tget 0xFF s.bpm.cells h = 0xFF := by
      simpa [fits, comb, not_or] using kept
    exact ⟨already.1, (tget_default 0 0xFF _ h already.1).trans already.2, fun _ _ => rfl, OnlyIn.refl _ s⟩

/-- What the scrubber does at one word. -/
theorem sramScrub_spec (a : Nat) (s : State) (ha : a < sramBytes) :
    (let ue := (s.wr MEM_UE_ADDR 0 0 a).bump MEM_UE_COUNT
     (∀ found, ¬ s.scrubs → exec (.sramScrub a found) s = .next s.settle) ∧
     (s.scrubs → exec (.sramScrub a .clean) s = .next s.settle ∧
       Gives (.sramScrub a .corrected) s (fun t => t.rd MEM_CE_COUNT = bump32 (s.rd MEM_CE_COUNT) ∧
         bitAt (t.fstat 12) 0 = true ∧ OnlyIn [.regs, .hif, .log, .guard] s t) ∧
       exec (.sramScrub a (.uncorrectable .other)) s = .next (ue.raise 0x0C02 { addr := a }).settle ∧
       (∀ n, n < 32 → exec (.sramScrub a (.uncorrectable (.rowBuffer n))) s =
         .next (ue.raise 0x0803 { addr := a } { chans := [n] }).settle) ∧
       (∀ h, h < 2 ^ 24 → handleIndex h < lget 0 s.bpm.counts (handleComb h) → ∃ u : State,
         exec (.sramScrub a (.uncorrectable (.cellMap [h]))) s = .next (u.raise 0x0C02 { addr := a }).settle ∧
         thas u.bpm.cells h = true ∧ tget 0 u.bpm.cells h = 0xFF ∧
         (∀ k, k ≠ h → tget 0xFF u.bpm.cells k = tget 0xFF s.bpm.cells k) ∧ OnlyIn [.regs, .bpm] s u))) := by
  intro ue
  have idle : ∀ found, ¬ s.scrubs → exec (.sramScrub a found) s = .next s.settle := fun found h => by
    rw [exec_sramScrub s found ha, s.scrub_idle a found h]
  refine ⟨idle, fun runs => ?_⟩
  have step : ∀ found, exec (.sramScrub a found) s = .next (s.sramCheck a found).settle := fun found => by
    rw [exec_sramScrub s found ha, s.scrub_eq a found runs]
  obtain ⟨counted, raised, only⟩ := s.sramCorrected_spec a
  refine ⟨step _, ⟨_, step _, counted, raised, only.settle⟩, step _, fun n hn => (step _).trans ?_, fun h hh fits => ?_⟩
  · exact congrArg done (if_pos hn)
  · have reached : OnlyIn [.regs] s ue := (s.wr_onlyIn MEM_UE_ADDR 0 0 a).trans (State.bump_onlyIn _ MEM_UE_COUNT 0)
    obtain ⟨has, tagged, others, lost⟩ := ue.loseCell_spec h hh fits
    exact ⟨ue.loseCell h, step _, has, tagged, others, (OnlyIn.mono reached (by decide)).trans (OnlyIn.mono lost (by decide))⟩

/-! The DRAM controller (R321 to R323). -/

theorem State.maintain_idle (s : State) (ok : Bool)
    (h : ¬ (s.dramRuns = true ∧ s.maintDue = true ∧ s.ticks = true ∧ s.tick.window = .guard)) : s.maintain ok = s :=
  if_neg (by simpa [and_assoc] using h)

/-- The maintenance step of one channel (R322). -/
def State.maintained (s : State) : State :=
  ({ s with mem := if s.mem.maintChan = 0 then { s.mem with maintChan := 1 }
                   else { s.mem with maintChan := 0, maintTicks := 0 } } : State).bump DRC_MAINT_COUNT

theorem State.maintain_due (s : State) (ok : Bool)
    (h : s.dramRuns = true ∧ s.maintDue = true ∧ s.ticks = true ∧ s.tick.window = .guard) :
    s.maintain ok = if ok then s.maintained else s.maintained.raise 0x0D04 :=
  if_pos (by simpa [and_assoc] using h)

theorem State.maintained_spec (s : State) :
    s.maintained.mem.maintChan = (if s.mem.maintChan = 0 then 1 else 0) ∧
      (s.mem.maintChan ≠ 0 → s.maintained.mem.maintTicks = 0) ∧
      s.maintained.rd DRC_MAINT_COUNT = bump32 (s.rd DRC_MAINT_COUNT) ∧ OnlyIn [.regs, .mem] s s.maintained := by
  refine ⟨?_, fun h => ?_, State.rd_bump_same _ DRC_MAINT_COUNT 0,
    ((OnlyIn.refl _ s).mem (by decide)).trans (OnlyIn.mono (State.bump_onlyIn _ DRC_MAINT_COUNT 0) (by decide))⟩
  · change Mem.maintChan (if _ then _ else _) = _
    split <;> rfl
  · exact congrArg Mem.maintTicks (if_neg h)

theorem exec_mr4Change_idle (s : State) (code : Nat) (above : Bool) (h : s.dramRuns = false ∨ code = s.mem.mr4) :
    exec (.mr4Change code above) s = .next s.settle := by
  have same : s.mr4Changes code above = s := if_neg (by rcases h with h | h <;> simp [h])
  change onUnit code 8 s (s.mr4Changes code above) = _
  rw [same]
  by_cases hc : code < 8
  · exact onUnit_lt s s hc
  · exact onUnit_ge s s hc

theorem exec_mr4Change_new (s : State) (code : Nat) (above : Bool) (runs : s.dramRuns = true) (hc : code < 8)
    (new : code ≠ s.mem.mr4) :
    (let r : State := { s with mem := { s.mem with mr4 := code, maintTicks := 65536 } }
     exec (.mr4Change code above) s = .next (if above then r.raiseCond 0x0D05 else r.gone 0x0D05 0xFF).settle) :=
  have changes : (s.dramRuns && decide (code ≠ s.mem.mr4)) = true := by simp [runs, new]
  (onUnit_lt s (s.mr4Changes code above) hc).trans (congrArg done (if_pos changes))

/-- 65,536 ticks are as many as any period. -/
theorem State.maintDue_of_ticks (s : State) (h : s.mem.maintTicks = 65536) : s.maintDue = true := by
  have period : s.fld DRC_MAINT 15 0 < 2 ^ 16 := Nat.mod_lt _ (by decide)
  unfold State.maintDue atLeast1
  rw [h]
  exact decide_eq_true (by omega)

/-- A new MR4 code makes maintenance due (R322). -/
theorem mr4Change_spec (s : State) (code : Nat) (above : Bool) (runs : s.dramRuns = true) (hc : code < 8)
    (new : code ≠ s.mem.mr4) :
    Gives (.mr4Change code above) s (fun t =>
      t.mem.mr4 = code ∧ t.maintDue = true ∧ t.guard.live.contains (0x0D05, 0xFF) = above ∧
      (above = true → bitAt (t.fstat 13) 4 = true) ∧ OnlyIn [.regs, .hif, .mem, .log, .guard] s t) := by
  have step := exec_mr4Change_new s code above runs hc new
  have coded : OnlyIn [.regs, .hif, .mem, .log, .guard] s { s with mem := { s.mem with mr4 := code, maintTicks := 65536 } } :=
    (OnlyIn.refl _ s).mem (by decide)
  generalize hr : ({ s with mem := { s.mem with mr4 := code, maintTicks := 65536 } } : State) = r at step coded
  have rmem : r.mem = { s.mem with mr4 := code, maintTicks := 65536 } := by rw [← hr]
  cases above with
  | true =>
    have only := r.raiseCond_onlyIn 0x0D05 {}
    have mem : (r.raiseCond 0x0D05).mem = { s.mem with mr4 := code, maintTicks := 65536 } :=
      (only.mem_eq (by decide)).trans rmem
    exact ⟨_, step, congrArg Mem.mr4 mem, State.maintDue_of_ticks _ (congrArg Mem.maintTicks mem),
      (r.raiseI 0x0D05).present_live 0x0D05 0xFF, fun _ => r.raiseCond_sets 0x0D05 {},
      (coded.trans (OnlyIn.mono only (by decide))).settle⟩
  | false =>
    exact ⟨_, step, congrArg Mem.mr4 rmem, State.maintDue_of_ticks _ (congrArg Mem.maintTicks rmem),
      r.gone_not_live 0x0D05 0xFF, nofun, (coded.trans (OnlyIn.mono (r.gone_onlyIn 0x0D05 0xFF) (by decide))).settle⟩

/-- What the DRAM controller's own work leaves (R322, R323). -/
theorem dramUpkeep_spec (s : State) :
    (let due := s.dramRuns = true ∧ s.maintDue = true ∧ s.ticks = true ∧ s.tick.window = .guard
     (¬ due → ∀ ok, exec (.dramMaintenanceStep ok) s = .next s.settle) ∧
     (due → Gives (.dramMaintenanceStep true) s (fun t =>
       t.mem.maintChan = (if s.mem.maintChan = 0 then 1 else 0) ∧
       (s.mem.maintChan ≠ 0 → t.mem.maintTicks = 0) ∧ t.rd DRC_MAINT_COUNT = bump32 (s.rd DRC_MAINT_COUNT) ∧
       OnlyIn [.regs, .mem] s t)) ∧
     (due → ∃ u : State, exec (.dramMaintenanceStep true) s = .next u.settle ∧
       exec (.dramMaintenanceStep false) s = .next (u.raise 0x0D04).settle)) ∧
    (s.dramRuns = false → exec .dramRefresh s = .next s.settle) ∧
    (s.dramRuns = true → Gives .dramRefresh s (fun t =>
      t.mem = { s.mem with refreshes := s.mem.refreshes + 1 } ∧ OnlyIn [.mem] s t)) := by
  have step : ∀ h ok, exec (.dramMaintenanceStep ok) s = .next (if ok then s.maintained else s.maintained.raise 0x0D04).settle :=
    fun h ok => congrArg done (s.maintain_due ok h)
  obtain ⟨toggled, restarted, counted, only⟩ := s.maintained_spec
  refine ⟨⟨fun h ok => congrArg done (s.maintain_idle ok h),
      fun h => ⟨_, step h true, toggled, restarted, counted, only.settle⟩, fun h => ⟨_, step h true, step h false⟩⟩,
    fun h => congrArg done (if_neg (by simp [h])),
    fun h => ⟨_, congrArg done (if_pos h), rfl, ((OnlyIn.refl _ s).mem (by decide)).settle⟩⟩

/-- Settles O52: each command of the memories by its own lemma. -/
theorem memoryUpkeep : Obligations.MemoryUpkeep := by
  unfold Obligations.MemoryUpkeep
  refine ⟨fun p off v s sram aligned reach => ?_, fun a s ha => sramScrub_spec a s ha, fun s => ?_⟩
  · have config := sramWindowWrite_spec p off v s sram aligned reach
    exact ⟨fun x active => exec_sramWindowWrite_active v x sram aligned reach active,
      fun h => (config h).1, fun h => (config h).2.1, fun q w h hq => (config h).2.2 q w hq⟩
  · obtain ⟨maintenance, noRefresh, refresh⟩ := dramUpkeep_spec s
    exact ⟨maintenance, exec_mr4Change_idle s, fun code above runs hc new => mr4Change_spec s code above runs hc new,
      noRefresh, refresh⟩

end Sys2Proof.Machine
end

section
namespace Sys2Proof.Machine

/-! A job that ends posts its completion: the entry, the producer index and the job that is gone (R119 to R121). -/

theorem State.countDown_onlyIn (acc : State × List Nat) (slot : Nat) :
    OnlyIn [.regs, .mem, .sch, .log, .hif, .guard] acc.1 (State.countDown acc slot).1 := by
  obtain ⟨s, ready⟩ := acc
  have set : ∀ t, OnlyIn [.regs, .mem, .sch, .log, .hif, .guard] s (s.setThread slot t) :=
    fun t => OnlyIn.mono (s.setThread_onlyIn slot t) (by decide)
  unfold State.countDown
  dsimp only
  split
  · exact .refl _ s
  · split
    · split
      · exact ((OnlyIn.refl _ s).step (s.bump_onlyIn SCH_PENDING_SAT_COUNT 0) (by decide)).step
          (State.raiseI_onlyIn _ 0x0F05 {}) (by decide)
      · exact set _
    · split
      · exact (set _).step (State.markReady_onlyIn _ slot) (by decide)
      · exact set _

theorem State.decBound_onlyIn (s : State) (b : Bound) :
    OnlyIn [.regs, .mem, .sch, .log, .hif, .guard] s (s.decBound b) :=
  ((OnlyIn.refl _ s).foldl_fst fun acc slot => State.countDown_onlyIn acc slot).step (State.seatThreads_onlyIn _ _) (by decide)

theorem State.noteRecord_onlyIn (s : State) (c : Cpl) (pi : Nat) : OnlyIn [.chans] s (s.noteRecord c pi) := by
  unfold State.noteRecord
  dsimp only
  split
  · split
    · exact .refl _ s
    · split
      · exact .refl _ s
      · exact (OnlyIn.refl _ s).chans (by decide)
  · exact .refl _ s

theorem State.setCq_onlyIn (s : State) (n : Nat) (q : Cq) : OnlyIn [.hif] s (s.setCq n q) := (OnlyIn.refl _ s).hif (by decide)

/-- A completion that is written is the newest of its ring, whose producer index moves on by one. -/
def State.Posted (s t : State) (n : Nat) (c : Cpl) : Prop :=
  (t.cq n).recent.head?.map (·.entry) = some (c.bytes 0 s.tick32) ∧ (t.cq n).pi = ((s.cq n).pi + 1) % 65536

theorem State.putEntry_onlyIn (s : State) (r : RingAt) (pi : Nat) (entry : List Byte) :
    OnlyIn [.mem] s (s.putEntry r pi entry).1 := s.hostWrite_onlyIn _ _

theorem State.writeCpl_onlyIn (s : State) (n : Nat) (c : Cpl) :
    OnlyIn [.regs, .bus, .hif, .chans, .mem, .sch, .log, .guard] s (s.writeCpl n c) := by
  have put := (OnlyIn.refl [.regs, .bus, .hif, .chans, .mem, .sch, .log, .guard] s).step
    (State.putEntry_onlyIn s (s.cqAt n) (s.cq n).pi (c.bytes 0 s.tick32)) (by decide)
  have noted := ((put.step (State.bump64_onlyIn _ HIF_CPL_POST_COUNT 0 1) (by decide)).step
    (State.decBound_onlyIn _ (.completion n)) (by decide)).step (State.noteRecord_onlyIn _ c (s.cq n).pi) (by decide)
  have written := fun q => noted.step (State.setCq_onlyIn _ n q) (by decide)
  exact .ite ((written _).step (State.signal_onlyIn _ n) (by decide)) (written _)

theorem State.writeCpl_posted (s : State) (n : Nat) (c : Cpl) : s.Posted (s.writeCpl n c) n c := by
  unfold State.writeCpl
  dsimp only
  generalize hq : ({ s.cq n with pi := _, recent := _, sinceNs := _, unsignalled := _ } : Cq) = q
  generalize State.noteRecord _ _ _ = r
  have kept : ∀ p : Prop, [Decidable p] → ((if p then (r.setCq n q).signal n else r.setCq n q).cq n) = q := fun p _ => by
    split
    · exact (congrArg (fun h : Hif => tget Cq.reset h.cqs n) ((State.signal_onlyIn _ n).hif_eq (by decide))).trans
        (r.cq_setCq_same n q)
    · exact r.cq_setCq_same n q
  unfold State.Posted
  rw [kept, ← hq]
  exact ⟨rfl, rfl⟩

theorem State.postCpl_room (s : State) (n : Nat) (c : Cpl) (dma : s.canDma = true) (room : s.cqRoom n ≠ 0) :
    s.postCpl n c = (s.writeCpl n c, .posted) := by
  have safe : s.guard.safe = false := by
    unfold State.canDma at dma
    simp at dma
    exact dma.2
  simp [State.postCpl, safe, dma, room]

theorem State.job?_dropJob (s : State) (id : Nat) : (s.dropJob id).job? id = none := by
  rw [State.job?, s.dropJob_hif, ← List.filter_append, List.find?_eq_none]
  intro j hj
  simpa using (List.mem_filter.mp hj).2

/-- A job with room in its ring leaves its completion there, and is gone. -/
theorem State.postJob_spec (s : State) (j : Job) (c : Cpl) (flow : j.flow = none) (reserved : j.reserved = false)
    (dma : s.canDma = true) (room : s.cqRoom j.cq ≠ 0) :
    s.Posted (s.postJob j c) j.cq c ∧ (s.postJob j c).job? j.id = none ∧
      OnlyIn [.regs, .bus, .hif, .chans, .mem, .bpm, .sch, .log, .guard] s (s.postJob j c) := by
  have posts : s.postJob j c = (s.writeCpl j.cq c).dropJob j.id := by
    rw [State.postJob, flow, reserved, s.postCpl_room j.cq c dma room]
    rfl
  obtain ⟨newest, index⟩ := s.writeCpl_posted j.cq c
  have ring : ((s.writeCpl j.cq c).dropJob j.id).cq j.cq = (s.writeCpl j.cq c).cq j.cq :=
    by rw [State.cq, State.dropJob_hif, ← State.cq]
  rw [posts]
  refine ⟨⟨?_, ?_⟩, State.job?_dropJob _ j.id, ?_⟩
  · rw [ring]; exact newest
  · rw [ring]; exact index
  · exact (OnlyIn.mono (s.writeCpl_onlyIn j.cq c) (by decide)).step (State.dropJob_onlyIn _ j.id) (by decide)

theorem State.freeJobCells_onlyIn (s : State) (id status : Nat) : OnlyIn [.bpm, .mem, .hif] s (s.freeJobCells id status) :=
  (OnlyIn.ite (.refl _ s) (OnlyIn.mono (s.returnCells_onlyIn _) (by decide))).step (State.modJob_onlyIn _ id _) (by decide)

/-- Freeing a job's cells leaves every ring as it was, and whether ring traffic is stopped. -/
theorem State.freeJobCells_rings (s : State) (id status : Nat) :
    (s.freeJobCells id status).hif.cqs = s.hif.cqs ∧ (s.freeJobCells id status).hif.linkStopped = s.hif.linkStopped := by
  have hif : (if status = 0x40 ∨ status = 0x41 then s else s.returnCells (((s.job? id).map (·.cells)).getD [])).hif = s.hif := by
    split
    · rfl
    · exact (s.returnCells_onlyIn _).hif_eq (by decide)
  have cqs := congrArg Hif.cqs hif
  have stopped := congrArg Hif.linkStopped hif
  exact ⟨cqs, stopped⟩

/-- A waiting job that is refused has its completion in its ring, which had room, and is gone (R119). -/
theorem State.refuse_spec (s : State) (j : Job) (id reason : Nat) (found : s.job? id = some j)
    (waiting : j.phase = .waiting) (posts : s.postable j = true) :
    Ended s (s.refuse id reason) j { status := 0x23, reason := reason } ∧
      OnlyIn [.regs, .bus, .hif, .chans, .mem, .bpm, .sch, .log, .guard] s (s.refuse id reason) := by
  obtain ⟨⟨⟨dma, flow⟩, reserved⟩, room⟩ : ((s.canDma = true ∧ j.flow = none) ∧ j.reserved = false) ∧ s.cqRoom j.cq ≠ 0 := by
    simpa [State.postable] using posts
  have refused : s.refuse id reason = ((s.freeJobCells id 0x23).bump HIF_INVALID_COUNT).postJob
      { j with estimated := s.estimatedNow j 0x23, cells := [] }
      (({ j with estimated := s.estimatedNow j 0x23 }).cpl { status := 0x23, reason := reason }) := by
    simp only [State.refuse, State.endJob, found, waiting]
    rfl
  have freed := s.freeJobCells_onlyIn id 0x23
  obtain ⟨cqs, stopped⟩ := s.freeJobCells_rings id 0x23
  have ring : ∀ n, (s.freeJobCells id 0x23).cq n = s.cq n := fun n => congrArg (tget Cq.reset · n) cqs
  generalize s.freeJobCells id 0x23 = r at refused freed ring stopped
  have mayPost : (r.bump HIF_INVALID_COUNT).canDma = s.canDma := by
    change r.canDma = s.canDma
    unfold State.canDma State.canSend State.asleep State.isActive
    rw [freed.bus_eq (by decide), freed.power_eq (by decide), freed.sys_eq (by decide), freed.guard_eq (by decide), stopped]
  have size : (r.bump HIF_INVALID_COUNT).cqSize j.cq = s.cqSize j.cq := by
    have apart : HIF_CQ_CFG.at j.cq ≠ HIF_INVALID_COUNT.at 0 := by
      simp only [RegDef.at, HIF_CQ_CFG, HIF_INVALID_COUNT]
      omega
    unfold State.cqSize State.fld
    rw [State.rd_bump_other _ _ _ _ _ _ apart, State.rd_congr (freed.regs_eq (by decide))]
  have hasRoom : (r.bump HIF_INVALID_COUNT).cqRoom j.cq = s.cqRoom j.cq := by
    unfold State.cqRoom
    rw [size]
    change s.cqSize j.cq - ringCount (r.cq j.cq).pi (r.cq j.cq).ci - (r.cq j.cq).reserved = _
    rw [ring]
  obtain ⟨⟨newest, index⟩, gone, only⟩ := (r.bump HIF_INVALID_COUNT).postJob_spec
    { j with estimated := s.estimatedNow j 0x23, cells := [] }
    (({ j with estimated := s.estimatedNow j 0x23 }).cpl { status := 0x23, reason := reason }) flow reserved
    (mayPost.trans dma) (by rw [hasRoom]; exact room)
  have tick : (r.bump HIF_INVALID_COUNT).tick32 = s.tick32 :=
    congrArg (fun t : Tick => t.number.toNat % 2 ^ 32) (freed.tick_eq (by decide))
  rw [tick] at newest
  rw [refused]
  refine ⟨⟨newest, ?_, gone⟩, ?_⟩
  · exact index.trans (congrArg (fun q : Cq => (q.pi + 1) % 65536) (ring j.cq))
  · exact ((OnlyIn.mono freed (by decide)).step (r.bump_onlyIn HIF_INVALID_COUNT 0) (by decide)).trans only

/-! The firmware takes a job up (R118, R147, R148). -/

/-- A job that may be taken up is the one under its number, and waits. -/
theorem State.readyJob_some {s : State} {id op : Nat} {j : Job} (h : s.readyJob id op = some j) :
    s.job? id = some j ∧ j.phase = .waiting := by
  unfold State.readyJob at h
  split at h
  · exact absurd h nofun
  · next k hk =>
    split at h
    · next ready =>
      obtain rfl : k = j := Option.some.inj h
      simp only [Bool.and_eq_true, decide_eq_true_eq] at ready
      obtain ⟨⟨⟨_, waiting⟩, _⟩, _⟩ := ready
      exact ⟨by rw [State.job?, List.find?_append, hk]; rfl, waiting⟩
    · exact absurd h nofun

theorem State.takeJob_none {s : State} {id op : Nat} (f : Job → State → State) (h : s.readyJob id op = none) :
    s.takeJob id op f = s := by
  rw [State.takeJob, h]

/-- The checks of take-up, in their order; a job that fails none is the action's own. -/
theorem State.takeJob_some {s : State} {id op : Nat} {j : Job} (f : Job → State → State) (h : s.readyJob id op = some j) :
    s.takeJob id op f =
      if needsChannel op && !s.chanExists j.desc.channel then
        (if s.hif.creating.contains j.desc.channel then s else s.refuse id 0x41)
      else if !s.classOk j.desc then s.refuse id 0x43
      else if op == 0x10 && !s.kindOk j.desc then s.refuse id 0x46
      else f { j with cls := s.classFor j.desc, cells := [] }
        ((s.returnCells j.cells).modJob id (fun k => { k with cls := s.classFor j.desc, cells := [] })) := by
  rw [State.takeJob, h]

/-- What every command of the firmware that takes up a job has in common (R118, R147, R148, R219). -/
theorem takeJob_spec (s : State) (id op : Nat) (c : Instr) (f : Job → State → State)
    (takes : exec c s = .next (s.takeJob id op f).settle) :
    (s.readyJob id op = none → exec c s = .next s.settle) ∧
    (∀ j, s.readyJob id op = some j → s.postable j = true →
      (let refused (reason : Nat) (t : State) : Prop := Ended s t j { status := 0x23, reason := reason } ∧
         OnlyIn [.regs, .bus, .hif, .chans, .mem, .bpm, .sch, .log, .guard] s t
       let known := needsChannel op = false ∨ s.chanExists j.desc.channel = true
       (¬ known → s.hif.creating.contains j.desc.channel = true → exec c s = .next s.settle) ∧
       (¬ known → s.hif.creating.contains j.desc.channel = false → Gives c s (refused 0x41)) ∧
       (known → s.classOk j.desc = false → Gives c s (refused 0x43)) ∧
       (known → s.classOk j.desc = true → op = 0x10 → s.kindOk j.desc = false → Gives c s (refused 0x46)))) := by
  refine ⟨fun none => by rw [takes, State.takeJob_none f none], fun j ready posts => ?_⟩
  obtain ⟨found, waiting⟩ := State.readyJob_some ready
  rw [State.takeJob_some f ready] at takes
  intro refused known
  have refuses : ∀ reason, exec c s = .next (s.refuse id reason).settle → Gives c s (refused reason) := fun reason step => by
    obtain ⟨ended, only⟩ := s.refuse_spec j id reason found waiting posts
    exact ⟨_, step, ended, only.settle⟩
  have unknown : ¬ known → (needsChannel op && !s.chanExists j.desc.channel) = true := fun h => by
    simpa [known, not_or] using h
  have passes : known → ¬ (needsChannel op && !s.chanExists j.desc.channel) = true := fun h => by
    rcases h with h | h <;> simp [h]
  refine ⟨fun h creating => ?_, fun h creating => refuses _ ?_, fun h cls => refuses _ ?_, fun h cls decode kind => refuses _ ?_⟩
  · rw [takes, if_pos (unknown h), if_pos creating]
  · rw [takes, if_pos (unknown h), if_neg (Bool.not_eq_true _ ▸ creating)]
  · rw [takes, if_neg (passes h), if_pos (by simp [cls])]
  · rw [takes, if_neg (passes h), if_neg (by simp [cls]), if_pos (by simp [decode, kind])]

/-- Settles O43: each of the commands takes its job up, and take-up checks the job before the command's own action. -/
theorem firmwareTakesUpJobs : Obligations.FirmwareTakesUpJobs := by
  unfold Obligations.FirmwareTakesUpJobs
  intro s id op c image picture block data au bad ok listed
  suffices takes : ∃ f, exec c s = .next (s.takeJob id op f).settle by
    obtain ⟨f, hf⟩ := takes
    exact takeJob_spec s id op c f hf
  simp only [List.mem_cons, Prod.mk.injEq, List.not_mem_nil, or_false] at listed
  rcases listed with ⟨rfl, rfl⟩ | ⟨rfl, rfl⟩ | ⟨rfl, rfl⟩ | ⟨rfl, rfl⟩ | ⟨rfl, rfl⟩ | ⟨rfl, rfl⟩ | ⟨rfl, rfl⟩ | ⟨rfl, rfl⟩ |
    ⟨rfl, rfl⟩ | ⟨rfl, rfl⟩ | ⟨rfl, rfl⟩ | ⟨rfl, rfl⟩ | ⟨rfl, rfl⟩ | ⟨rfl, rfl⟩ | ⟨rfl, rfl⟩ | ⟨rfl, rfl⟩ | ⟨rfl, rfl⟩ |
    ⟨rfl, rfl⟩ | ⟨rfl, rfl⟩ | ⟨rfl, rfl⟩ | ⟨rfl, rfl⟩ | ⟨rfl, rfl⟩ | ⟨rfl, rfl⟩ | ⟨rfl, rfl⟩ | ⟨rfl, rfl⟩ <;> exact ⟨_, rfl⟩

end Sys2Proof.Machine
end

section
namespace Sys2Proof.Machine

/-! What the operations on ports and partners leave alone (R172 to R182, R436). -/

variable {ps : List Part} {r s t : State}

theorem OnlyIn.partners_eq (h : OnlyIn ps s t) (hp : Part.partners ∉ ps) : t.partners = s.partners :=
  (h .partners).resolve_left hp
theorem OnlyIn.csi_eq (h : OnlyIn ps s t) (hp : Part.csi ∉ ps) : t.csi = s.csi := (h .csi).resolve_left hp
theorem OnlyIn.usb_eq (h : OnlyIn ps s t) (hp : Part.usb ∉ ps) : t.usb = s.usb := (h .usb).resolve_left hp

theorem State.modCsi_onlyIn (s : State) (p : Nat) (f : CsiPort → CsiPort) : OnlyIn [.csi] s (s.modCsi p f) := by
  intro p; cases p <;> first | exact .inr rfl | exact .inl (by decide)

theorem State.modUsb_onlyIn (s : State) (n : Nat) (f : UsbPort → UsbPort) : OnlyIn [.usb] s (s.modUsb n f) := by
  intro p; cases p <;> first | exact .inr rfl | exact .inl (by decide)

theorem State.setPartner_onlyIn (s : State) (p : Nat) (x : Partner) : OnlyIn [.partners] s (s.setPartner p x) := by
  intro p; cases p <;> first | exact .inr rfl | exact .inl (by decide)

theorem OnlyIn.gens (h : OnlyIn ps r s) {x : Table Nat} (hp : Part.gens ∈ ps) : OnlyIn ps r { s with gens := x } :=
  h.trans fun p => by cases p <;> first | exact .inr rfl | exact .inl hp

/-! A port that is changed in place. -/

theorem csiPort_of {p : Nat} {c : CsiPort} (h : s.csi[p]? = some c) : s.csiPort p = c := by simp [State.csiPort, lget, h]
theorem usbPort_of {n : Nat} {u : UsbPort} (h : s.usb[n]? = some u) : s.usbPort n = u := by simp [State.usbPort, lget, h]

@[simp] theorem State.settle_csiPort (s : State) (p : Nat) : s.settle.csiPort p = s.csiPort p := rfl
@[simp] theorem State.settle_usbPort (s : State) (n : Nat) : s.settle.usbPort n = s.usbPort n := rfl
@[simp] theorem State.settle_partner (s : State) (p : Nat) : s.settle.partner p = s.partner p := rfl
@[simp] theorem State.settle_causeLive (s : State) (code : Nat) : s.settle.causeLive code = s.causeLive code := rfl
@[simp] theorem State.settle_fstat (s : State) (b : Nat) : s.settle.fstat b = s.fstat b := rfl
@[simp] theorem State.settle_rd (s : State) (d : RegDef) (i j : Nat) : s.settle.rd d i j = s.rd d i j := rfl

theorem getElem?_modCsi {p : Nat} {c : CsiPort} (f : CsiPort → CsiPort) (h : s.csi[p]? = some c) :
    (s.modCsi p f).csi[p]? = some (f c) := by simp [State.modCsi, getElem?_lmod, h]
theorem getElem?_modUsb {n : Nat} {u : UsbPort} (f : UsbPort → UsbPort) (h : s.usb[n]? = some u) :
    (s.modUsb n f).usb[n]? = some (f u) := by simp [State.modUsb, getElem?_lmod, h]

theorem csiPort_modCsi {p : Nat} {c : CsiPort} (f : CsiPort → CsiPort) (h : s.csi[p]? = some c) :
    (s.modCsi p f).csiPort p = f c := csiPort_of (getElem?_modCsi f h)
theorem usbPort_modUsb {n : Nat} {u : UsbPort} (f : UsbPort → UsbPort) (h : s.usb[n]? = some u) :
    (s.modUsb n f).usbPort n = f u := usbPort_of (getElem?_modUsb f h)

theorem State.csiPort_congr (h : t.csi = s.csi) (p : Nat) : t.csiPort p = s.csiPort p := by
  rw [State.csiPort, h, State.csiPort]
theorem State.usbPort_congr (h : t.usb = s.usb) (n : Nat) : t.usbPort n = s.usbPort n := by
  rw [State.usbPort, h, State.usbPort]
theorem State.partner_congr (h : t.partners = s.partners) (p : Nat) : t.partner p = s.partner p := by
  rw [State.partner, h, State.partner]

/-! Arrivals. -/

/-- All that an arrival changes. -/
abbrev arriveParts : List Part := [.regs, .hif, .partners, .gens, .log]
/-- All that a departure changes. -/
abbrev departParts : List Part := [.regs, .hif, .chans, .partners, .log]
/-- All that the detection of a partner changes. -/
abbrev foundParts : List Part := [.regs, .hif, .chans, .partners, .gens, .log]

theorem State.arrive_onlyIn (s : State) (x : Partner) : OnlyIn arriveParts s (s.arrive x) := by
  unfold State.arrive
  split
  · exact ((s.event_onlyIn _ _ _).mono (by decide)).step (State.bump_onlyIn _ _ _) (by decide)
  · next p _ =>
    refine OnlyIn.step ?_ (State.event_onlyIn _ _ _ _) (by decide)
    exact ((OnlyIn.refl _ s).gens (by decide)).step (State.setPartner_onlyIn _ _ _) (by decide)

theorem State.depart_onlyIn (s : State) (p : Nat) : OnlyIn departParts s (s.depart p) := by
  unfold State.depart
  refine .ite (OnlyIn.chans ?_ (by decide)) (.refl _ _)
  exact ((s.event_onlyIn _ _ _).mono (by decide)).step (State.setPartner_onlyIn _ _ _) (by decide)

theorem State.departAll_onlyIn (s : State) (ports : List Nat) : OnlyIn departParts s (s.departAll ports) :=
  .foldl _ (fun s q => by split; exacts [s.depart_onlyIn _, .refl _ _]) _ _

theorem State.found_onlyIn (s : State) (x : Partner) : OnlyIn foundParts s (s.found x) := by
  unfold State.found
  split
  · exact (s.arrive_onlyIn x).mono (by decide)
  · exact .ite (.refl _ _) (((s.depart_onlyIn _).mono (by decide)).step (State.arrive_onlyIn _ _) (by decide))

/-- A partner that arrives while an ID is free takes the lowest one. -/
theorem State.partner_arrive {x : Partner} {id : Nat}
    (free : (List.range 24).find? (fun q => (s.partner q).type == 0) = some id) :
    (s.arrive x).partner id =
      { x with gen := (tget 0 s.gens id + 1) % 256, arriveTick := s.tick32, leaving := false } := by
  unfold State.arrive
  rw [free]
  dsimp only
  rw [State.partner_congr ((State.event_onlyIn _ _ _ _).partners_eq (by decide))]
  exact State.partner_setPartner_same _ _ _

/-- Nothing is tracked at the port yet: what is found there arrives. -/
theorem State.found_new {x : Partner} (h : s.atPort x.port = none) : s.found x = s.arrive x := by
  rw [State.found, h]

/-! Departures. -/

theorem State.partner_depart_self (s : State) (p : Nat) (h : s.isPresent p = true) :
    (s.depart p).partner p = { s.partner p with leaving := true } := by
  rw [State.depart, if_pos h]
  exact State.partner_setPartner_same _ _ _

theorem State.partner_depart_other (s : State) {p q : Nat} (h : q ≠ p) : (s.depart p).partner q = s.partner q := by
  unfold State.depart
  split
  · refine (State.partner_setPartner_other _ _ h).trans (State.partner_congr ?_ q)
    exact (State.event_onlyIn _ _ _ _).partners_eq (by decide)
  · rfl

/-- A partner that is leaving stays so, whoever departs. -/
theorem State.leaving_depart {q : Nat} (p : Nat) (h : (s.partner q).leaving = true) :
    ((s.depart p).partner q).leaving = true := by
  by_cases hq : q = p
  · subst hq
    rw [State.depart, if_neg (by simp [State.isPresent, h])]
    exact h
  · rwa [State.partner_depart_other s hq]

theorem State.leaving_departAll {q : Nat} (ports : List Nat) (h : (s.partner q).leaving = true) :
    ((s.departAll ports).partner q).leaving = true := by
  induction ports generalizing s with
  | nil => exact h
  | cons port ports ih =>
    refine ih (s := match s.atPort port with | some p => s.depart p | none => s) ?_
    split
    · exact s.leaving_depart _ h
    · exact h

/-- The partner at the first port named leaves. -/
theorem State.departAll_leaves {port id : Nat} (ports : List Nat) (at_ : s.atPort port = some id)
    (here : s.isPresent id = true) : ((s.departAll (port :: ports)).partner id).leaving = true := by
  have first : s.departAll (port :: ports) = (s.depart id).departAll ports := by simp [State.departAll, at_]
  rw [first]
  exact State.leaving_departAll ports (by rw [s.partner_depart_self id here])

theorem State.atPort_congr (h : t.partners = s.partners) (port : Nat) : t.atPort port = s.atPort port := by
  simp only [State.atPort, h]

end Sys2Proof.Machine
end

section
namespace Sys2Proof.Machine

/-! What the operations behind a port leave alone of the ports: the CSI and USB registers and the port records. SAFE, which
clears the frames of the camera ports, is the one thing that touches a record. -/

/-- From `r` to `s` the registers of the CSI and USB blocks and the USB ports stand as they were; so do the camera ports, but
for SAFE. -/
structure PortsKept (r s : State) : Prop where
  regs : ∀ (e : Word) (k : Nat), 0x30000 ≤ k → k < 0x40000 → tget e s.regs k = tget e r.regs k
  usb : s.usb = r.usb
  csi : s.guard.safe = false → s.csi = r.csi
  safe : s.guard.safe = false → r.guard.safe = false

namespace PortsKept

variable {r s t : State}

theorem refl (s : State) : PortsKept s s := ⟨fun _ _ _ _ => rfl, rfl, fun _ => rfl, id⟩

theorem rd (h : PortsKept r s) {d : RegDef} {i j : Nat} (lo : 0x30000 ≤ d.at i j) (hi : d.at i j < 0x40000) :
    s.rd d i j = r.rd d i j := congrArg BitVec.toNat (h.regs _ _ lo hi)

/-- A change of none of them. -/
theorem upd (h : PortsKept r s) (hr : t.regs = s.regs) (hu : t.usb = s.usb) (hc : t.csi = s.csi)
    (hg : t.guard.safe = s.guard.safe) : PortsKept r t where
  regs e k lo hi := by rw [hr]; exact h.regs e k lo hi
  usb := hu.trans h.usb
  csi k := hc.trans (h.csi (hg ▸ k))
  safe k := h.safe (hg ▸ k)

theorem of_onlyIn {ps : List Part} (h : PortsKept r s) (k : OnlyIn ps s t) (hr : Part.regs ∉ ps) (hu : Part.usb ∉ ps)
    (hc : Part.csi ∉ ps) (hg : Part.guard ∉ ps) : PortsKept r t :=
  h.upd (k.regs_eq hr) (k.usb_eq hu) (k.csi_eq hc) (by rw [k.guard_eq hg])

theorem ite {c : Prop} [Decidable c] (h : PortsKept r s) (k : PortsKept r t) : PortsKept r (if c then s else t) := by
  split <;> assumption

theorem foldl {α : Type} {f : State → α → State} {l : List α} (h : PortsKept r s)
    (hf : ∀ s, ∀ a ∈ l, PortsKept r s → PortsKept r (f s a)) : PortsKept r (l.foldl f s) := by
  induction l generalizing s with
  | nil => exact h
  | cons a l ih => exact ih (hf s a (by simp) h) fun s b hb => hf s b (by simp [hb])

/-- A fold that carries something beside the state. -/
theorem foldl_fst {α β : Type} {f : State × β → α → State × β} {b : β} {l : List α} (h : PortsKept r s)
    (hf : ∀ acc a, PortsKept r acc.1 → PortsKept r (f acc a).1) : PortsKept r (l.foldl f (s, b)).1 := by
  induction l generalizing s b with
  | nil => exact h
  | cons a l ih => exact ih (s := (f (s, b) a).1) (b := (f (s, b) a).2) (hf (s, b) a h)

/-! Counters of other blocks. -/

theorem bump {d : RegDef} {i : Nat} (h : PortsKept r s) (hd : d.at i < 0x30000 ∨ 0x40000 ≤ d.at i) :
    PortsKept r (s.bump d i) where
  regs e k lo hi := (s.wr_other d i 0 _ e k (by omega)).trans (h.regs e k lo hi)
  usb := h.usb
  csi := h.csi
  safe := h.safe

theorem bump64 {d : RegDef} {i n : Nat} (h : PortsKept r s) (hd : d.at i + 4 < 0x30000 ∨ 0x40000 ≤ d.at i) :
    PortsKept r (s.bump64 d i n) where
  regs e k lo hi := (s.setCnt64_other d i _ e k (by omega) (by omega)).trans (h.regs e k lo hi)
  usb := h.usb
  csi := h.csi
  safe := h.safe

/-! The trouble log, the events and the faults of Class I. -/

theorem addLog {e : LogEntry} (h : PortsKept r s) : PortsKept r (s.addLog e) := by
  unfold State.addLog
  exact ite (ite (h.upd rfl rfl rfl rfl) (bump (h.upd rfl rfl rfl rfl) (by decide))) h

theorem event {c n : Nat} {l : List Nat} (h : PortsKept r s) : PortsKept r (s.event c n l) :=
  (h.addLog.ite h).upd rfl rfl rfl rfl

theorem logFault {c : Nat} {a b : FClass} {i : FaultInfo} (h : PortsKept r s) : PortsKept r (s.logFault c a b i) := by
  have counted : PortsKept r (if b = .i then s.bump GRD_REACT_COUNT 0 else s) := (h.bump (by decide)).ite h
  unfold State.logFault
  dsimp only
  split
  · exact counted.upd rfl rfl rfl rfl
  · exact counted.addLog.ite counted.addLog.event

theorem setStatus {c : Nat} (h : PortsKept r s) : PortsKept r (s.setStatus c) := h.upd rfl rfl rfl rfl
theorem present {c src : Nat} (h : PortsKept r s) : PortsKept r (s.present c src) := h.upd rfl rfl rfl rfl
theorem raiseI {c : Nat} {i : FaultInfo} (h : PortsKept r s) : PortsKept r (s.raiseI c i) := h.setStatus.logFault
theorem raiseCond {c : Nat} {i : FaultInfo} (h : PortsKept r s) : PortsKept r (s.raiseCond c i) := h.raiseI.present

/-! Partners. -/

theorem setPartner {p : Nat} {x : Partner} (h : PortsKept r s) : PortsKept r (s.setPartner p x) := h.upd rfl rfl rfl rfl

theorem arrive {x : Partner} (h : PortsKept r s) : PortsKept r (s.arrive x) := by
  unfold State.arrive
  split
  · exact h.event.bump (by decide)
  · exact event (setPartner (h.upd rfl rfl rfl rfl))

theorem depart {p : Nat} (h : PortsKept r s) : PortsKept r (s.depart p) := by
  unfold State.depart
  have told := h.event (c := 0x02) (n := p) (l := partnerData (s.partner p) 0 0xFF)
  exact ite (told.upd rfl rfl rfl rfl) h

theorem departAll {ports : List Nat} (h : PortsKept r s) : PortsKept r (s.departAll ports) :=
  h.foldl fun _ _ _ h => by split; exacts [h.depart, h]

theorem found {x : Partner} (h : PortsKept r s) : PortsKept r (s.found x) := by
  unfold State.found
  split
  · exact h.arrive
  · exact ite h h.depart.arrive

end PortsKept

end Sys2Proof.Machine
end

section
namespace Sys2Proof.Machine

/-! The arrival of a camera, stage by stage (R177, R178). -/

variable {s t u : State} {p k : Nat} {c : CsiPort}

/-- A command on a unit that exists gives what holds of the state it makes. -/
theorem Gives.onUnit {i : Instr} {n count : Nat} {P : State → Prop} (h : exec i s = onUnit n count s u) (hn : n < count)
    (k : P u.settle) : Gives i s P := Gives.intro (h.trans (onUnit_lt s u hn)) k

/-- A command that leaves the state of an existing unit as it is. -/
theorem exec_onUnit_same {i : Instr} {n count : Nat} (h : exec i s = onUnit n count s u) (hn : n < count) (hu : u = s) :
    exec i s = .next s.settle := by rw [h, hu]; exact onUnit_lt s s hn

theorem State.setStage_onlyIn (s : State) (p : Nat) (g : ProbeStage) : OnlyIn [.csi] s (s.setStage p g) :=
  s.modCsi_onlyIn p _

theorem csiPort_setStage (g : ProbeStage) (h : s.csi[p]? = some c) :
    (s.setStage p g).csiPort p = { c with stage := g, since := s.clock.ps } := csiPort_modCsi _ h

theorem State.csiPartner_congr (h : t.csi = s.csi) (p vc : Nat) : t.csiPartner p vc = s.csiPartner p vc := by
  rw [State.csiPartner, State.csiPort_congr h, State.csiPartner]

theorem State.stageTime_onlyIn (s : State) (p ms : Nat) : OnlyIn [.clock] s (s.stageTime p ms) := s.advanceTo_onlyIn _

theorem State.le_stageTime (ms : Nat) (h : s.csi[p]? = some c) : c.since + ms * 10 ^ 9 ≤ (s.stageTime p ms).clock.ps := by
  rw [State.stageTime, csiPort_of h]
  exact s.le_advanceTo _

/-! The init list. -/

/-- The stage at which the init list goes on at entry `k`. -/
def State.initStage (s : State) (p k : Nat) : ProbeStage :=
  if 32 ≤ k ∨ s.rd CSI_INIT p k = 0 then .present
  else if s.flag CSI_INIT 7 p k then .initWait k
  else .init k

theorem State.initStage_end (h : 32 ≤ k ∨ s.rd CSI_INIT p k = 0) : s.initStage p k = .present := if_pos h

theorem State.initStage_entry (hk : k < 32) (h : s.rd CSI_INIT p k ≠ 0) :
    s.initStage p k = if s.flag CSI_INIT 7 p k then .initWait k else .init k := if_neg (by omega)

theorem State.initStage_congr (h : t.rd CSI_INIT p k = s.rd CSI_INIT p k) : t.initStage p k = s.initStage p k := by
  rw [State.initStage, State.flag, h, State.initStage, State.flag]

theorem State.initFrom_onlyIn (s : State) (p k : Nat) :
    OnlyIn [.regs, .hif, .chans, .partners, .gens, .csi, .log] s (s.initFrom p k) := by
  unfold State.initFrom State.csiArrived
  refine .ite ?_ (.ite ((s.setStage_onlyIn _ _).mono (by decide)) ((s.setStage_onlyIn _ _).mono (by decide)))
  exact ((s.setStage_onlyIn _ _).mono (by decide)).step (State.found_onlyIn _ _) (by decide)

/-- What the init list leaves of its port: the stage and its date alone change. -/
theorem csiPort_initFrom (k : Nat) (h : s.csi[p]? = some c) :
    (s.initFrom p k).csiPort p = { c with stage := s.initStage p k, since := s.clock.ps } := by
  unfold State.initFrom State.initStage
  split
  · exact (State.csiPort_congr ((State.found_onlyIn _ _).csi_eq (by decide)) p).trans (csiPort_setStage _ h)
  · split
    · exact csiPort_setStage _ h
    · exact csiPort_setStage _ h

/-- An entry of the init list changes the port alone. -/
theorem State.initFrom_entry_onlyIn (hk : k < 32) (h : s.rd CSI_INIT p k ≠ 0) : OnlyIn [.csi] s (s.initFrom p k) := by
  unfold State.initFrom
  rw [if_neg (by omega)]
  exact .ite (s.setStage_onlyIn _ _) (s.setStage_onlyIn _ _)

/-- The init list starts: at its first entry, or, where it is empty, at its end. -/
def InitStarts (s : State) (p : Nat) (t : State) : Prop :=
  if s.rd CSI_INIT p 0 = 0 then (t.csiPort p).stage = .present
  else (t.csiPort p).stage = (if s.flag CSI_INIT 7 p 0 then .initWait 0 else .init 0)

theorem initStarts_initFrom (h : u.csi[p]? = some c) (same : u.rd CSI_INIT p 0 = s.rd CSI_INIT p 0) :
    InitStarts s p (u.initFrom p 0).settle := by
  have stage : ((u.initFrom p 0).settle.csiPort p).stage = s.initStage p 0 :=
    (congrArg CsiPort.stage (csiPort_initFrom 0 h)).trans (State.initStage_congr same)
  unfold InitStarts
  split
  · next hz => exact stage.trans (State.initStage_end (.inr hz))
  · next hz => exact stage.trans (State.initStage_entry (by decide) hz)

/-! The identity list. -/

theorem State.idEntries_congr (h : ∀ k, t.rd CSI_ID p k = s.rd CSI_ID p k) : t.idEntries p = s.idEntries p := by
  simp only [State.idEntries, State.flag, h]

theorem State.identityFrom_entry {i : Nat} (h : (s.idEntries p).find? (fun j => decide (k ≤ j)) = some i) :
    s.identityFrom p k = s.setStage p (.identity i 0) := by rw [State.identityFrom, h]

/-- The probe has ended, with an identity or without one. -/
def CsiPort.identified (v : Bool) (c : CsiPort) : CsiPort := { c with identValid := v }

theorem State.identityFrom_end (h : (s.idEntries p).find? (fun j => decide (k ≤ j)) = none) :
    s.identityFrom p k = (s.modCsi p (CsiPort.identified !(s.idEntries p).isEmpty)).initFrom p 0 := by
  rw [State.identityFrom, h]
  rfl

/-- The identity list goes on at its next entry. -/
theorem identityFrom_next {i : Nat} (port : u.csi[p]? = some c)
    (h : (u.idEntries p).find? (fun j => decide (k ≤ j)) = some i) :
    ((u.identityFrom p k).csiPort p).stage = .identity i 0 ∧ OnlyIn [.csi] u (u.identityFrom p k) := by
  rw [State.identityFrom_entry h]
  exact ⟨congrArg CsiPort.stage (csiPort_setStage _ port), u.setStage_onlyIn _ _⟩

/-- After its last entry the init list starts. -/
theorem identityFrom_last (port : u.csi[p]? = some c)
    (h : (u.idEntries p).find? (fun j => decide (k ≤ j)) = none) (init : u.rd CSI_INIT p 0 = s.rd CSI_INIT p 0) :
    ((u.identityFrom p k).csiPort p).identValid = (!(u.idEntries p).isEmpty) ∧
    InitStarts s p (u.identityFrom p k).settle := by
  have ended := getElem?_modCsi (CsiPort.identified !(u.idEntries p).isEmpty) port
  rw [State.identityFrom_end h]
  exact ⟨congrArg CsiPort.identValid (csiPort_initFrom 0 ended), initStarts_initFrom ended init⟩

theorem State.identityFrom_onlyIn (s : State) (p k : Nat) :
    OnlyIn [.regs, .hif, .chans, .partners, .gens, .csi, .log] s (s.identityFrom p k) := by
  unfold State.identityFrom
  split
  · exact (s.setStage_onlyIn _ _).mono (by decide)
  · exact ((s.modCsi_onlyIn _ _).mono (by decide)).trans (State.initFrom_onlyIn _ _ _)

/-- The bytes read so far stay while the identity list goes on. -/
theorem probe_identityFrom (k : Nat) (h : s.csi[p]? = some c) : ((s.identityFrom p k).csiPort p).probe = c.probe := by
  cases hf : (s.idEntries p).find? (fun j => decide (k ≤ j)) with
  | some i => rw [State.identityFrom_entry hf, csiPort_setStage _ h]
  | none =>
    rw [State.identityFrom_end hf, csiPort_initFrom 0 (getElem?_modCsi _ h)]
    rfl

/-! Detection. -/

/-- The detect pad is active. -/
def CsiPort.padHigh (c : CsiPort) : CsiPort := { c with rawDet := true }

/-- The arrival starts: what its port then holds. -/
def CsiPort.arriving (ps rst : Nat) (c : CsiPort) : CsiPort :=
  { c with det := true, camEn := true, rstPs := rst, stage := .delay, since := ps, probe := [], identValid := false }

theorem State.camAssert_noted (hc : s.csi[p]? = some c) (h : s.csiOn p = false ∨ c.det = true) :
    s.camAssert p = s.modCsi p CsiPort.padHigh := by
  have det : ((s.modCsi p CsiPort.padHigh).csiPort p).det = c.det := by rw [csiPort_modCsi _ hc, CsiPort.padHigh]
  exact if_pos (h.imp id det.trans)

theorem State.camAssert_starts (hc : s.csi[p]? = some c) (on : s.csiOn p = true) (det : c.det = false) :
    s.camAssert p = (s.modCsi p CsiPort.padHigh).modCsi p
      (CsiPort.arriving s.clock.ps (s.clock.ps + s.fld CSI_DET_CFG 15 8 p / 2 * 10 ^ 9)) := by
  have pad : ((s.modCsi p CsiPort.padHigh).csiPort p).det = c.det := by rw [csiPort_modCsi _ hc, CsiPort.padHigh]
  refine if_neg ?_
  rintro (off | already)
  · exact absurd (on.symm.trans off) (by decide)
  · exact absurd (already.symm.trans (pad.trans det)) (by decide)

end Sys2Proof.Machine
end

section
namespace Sys2Proof.Machine

/-! The probe of a camera (R177, R562). -/

variable {s t u : State} {p k n : Nat} {c : CsiPort}

/-! A command that does not fit the stage changes nothing. -/

theorem State.probeDelay_idle (hc : s.csi[p]? = some c) (h : c.stage ≠ .delay) : s.probeDelay p = s := by
  rw [← csiPort_of hc] at h
  unfold State.probeDelay
  split
  · next k => exact absurd k h
  · rfl

theorem State.identityRead_idle (hc : s.csi[p]? = some c) (h : ∀ k n, c.stage ≠ .identity k n) (r : IdentRead) :
    s.identityRead p r = s := by
  rw [← csiPort_of hc] at h
  unfold State.identityRead
  split
  · next k => exact absurd k (h _ _)
  · rfl

theorem State.identityRetry_idle (hc : s.csi[p]? = some c) (h : ∀ k n, c.stage ≠ .retryWait k n) :
    s.identityRetry p = s := by
  rw [← csiPort_of hc] at h
  unfold State.identityRetry
  split
  · next k => exact absurd k (h _ _)
  · rfl

/-! A command that fits. -/

theorem State.probeDelay_delay (hc : s.csi[p]? = some c) (h : c.stage = .delay) :
    s.probeDelay p = (s.stageTime p (s.fld CSI_DET_CFG 15 8 p)).identityFrom p 0 := by
  rw [State.probeDelay, csiPort_of hc, h]

/-- The bytes of an identity entry are kept. -/
def CsiPort.reads (n : Nat) (b : List Byte) (c : CsiPort) : CsiPort := { c with probe := c.probe ++ padTo n b }

theorem State.identityRead_some (hc : s.csi[p]? = some c) (h : c.stage = .identity k n) (b : List Byte) :
    s.identityRead p (some b) =
      (s.modCsi p (CsiPort.reads (if s.flag CSI_ID 16 p k then 2 else 1) b)).identityFrom p (k + 1) := by
  rw [State.identityRead, csiPort_of hc, h]
  rfl

theorem State.identityRead_again (hc : s.csi[p]? = some c) (h : c.stage = .identity k n) (few : n < 2) :
    s.identityRead p none = s.setStage p (.retryWait k (n + 1)) := by
  rw [State.identityRead, csiPort_of hc, h]
  exact if_pos few

/-- The third failure of an entry has been counted and reported. -/
def State.probeFails (s : State) (p : Nat) : State := (s.bump CSI_PROBE_FAIL_COUNT p).raiseI 0x0402 { source := p }

theorem State.identityRead_fails (hc : s.csi[p]? = some c) (h : c.stage = .identity k n) (all : 2 ≤ n) :
    s.identityRead p none = ((s.probeFails p).modCsi p (CsiPort.identified false)).initFrom p 0 := by
  rw [State.identityRead, csiPort_of hc, h]
  exact if_neg (by omega)

theorem State.identityRetry_waits (hc : s.csi[p]? = some c) (h : c.stage = .retryWait k n) :
    s.identityRetry p = (s.stageTime p 10).setStage p (.identity k n) := by
  rw [State.identityRetry, csiPort_of hc, h]

theorem State.probeFails_onlyIn (s : State) (p : Nat) : OnlyIn [.regs, .hif, .log, .guard] s (s.probeFails p) :=
  ((s.bump_onlyIn _ _).mono (by decide)).step (State.raiseI_onlyIn _ _ _) (by decide)

/-- After the probe has failed the CSI registers stand, but for the count of it. -/
theorem State.probeFails_kept (s : State) (p : Nat) : PortsKept (s.bump CSI_PROBE_FAIL_COUNT p) (s.probeFails p) :=
  (PortsKept.refl _).raiseI

theorem State.rd_probeFails_init (s : State) (hp : p < 4) : (s.probeFails p).rd CSI_INIT p 0 = s.rd CSI_INIT p 0 := by
  refine ((s.probeFails_kept p).rd ?_ ?_).trans (State.rd_bump_other _ _ _ _ _ _ ?_)
  all_goals simp only [RegDef.at, CSI_INIT, CSI_PROBE_FAIL_COUNT]; omega

/-- The registers of the ports stand while the init list goes on. -/
theorem PortsKept.initFrom_rd {r : State} (h : PortsKept r u) {f : CsiPort → CsiPort} {d : RegDef} {i j : Nat}
    (lo : 0x30000 ≤ d.at i j) (hi : d.at i j < 0x40000) : ((u.modCsi p f).initFrom p k).rd d i j = r.rd d i j := by
  have stands (x : Partner) : (((u.modCsi p f).setStage p .present).found x).rd d i j = r.rd d i j :=
    ((PortsKept.refl ((u.modCsi p f).setStage p .present)).found.rd lo hi).trans (h.rd lo hi)
  unfold State.initFrom State.csiArrived
  split
  · exact stands _
  · split
    · exact h.rd lo hi
    · exact h.rd lo hi

/-! The clauses. -/

/-- A pad that becomes active where no arrival can start, or one has, is noted. -/
theorem camDetectAssert_noted (hp : p < 4) (hc : s.csi[p]? = some c) (h : s.csiOn p = false ∨ c.det = true) :
    Gives (.camDetectAssert p) s (fun t => t.csiPort p = { c with rawDet := true } ∧ OnlyIn [.csi] s t) := by
  refine Gives.onUnit (u := s.camAssert p) rfl hp ?_
  rw [State.camAssert_noted hc h]
  exact ⟨csiPort_modCsi _ hc, (s.modCsi_onlyIn _ _).settle⟩

theorem camDetectAssert_starts (hp : p < 4) (hc : s.csi[p]? = some c) (on : s.csiOn p = true) (det : c.det = false) :
    Gives (.camDetectAssert p) s (fun t =>
      (t.csiPort p).det = true ∧ (t.csiPort p).camEn = true ∧ (t.csiPort p).stage = .delay ∧
      (t.csiPort p).since = s.clock.ps ∧
      (t.csiPort p).rstPs = s.clock.ps + s.fld CSI_DET_CFG 15 8 p / 2 * 10 ^ 9 ∧ OnlyIn [.csi] s t) := by
  have port := csiPort_modCsi (CsiPort.arriving s.clock.ps (s.clock.ps + s.fld CSI_DET_CFG 15 8 p / 2 * 10 ^ 9))
    (getElem?_modCsi CsiPort.padHigh hc)
  rw [← State.camAssert_starts hc on det] at port
  have only : OnlyIn [.csi] s (s.camAssert p) :=
    State.camAssert_starts hc on det ▸ (s.modCsi_onlyIn _ _).trans (State.modCsi_onlyIn _ _ _)
  have field {α : Type} (f : CsiPort → α) : f ((s.camAssert p).settle.csiPort p) = _ := congrArg f port
  exact Gives.onUnit (u := s.camAssert p) rfl hp
    ⟨field (·.det), field (·.camEn), field (·.stage), field (·.since), field (·.rstPs), only.settle⟩

/-- The first entry of a list at or after 0 is its head. -/
theorem find?_from_zero (l : List Nat) : l.find? (fun i => decide (0 ≤ i)) = l.head? := by cases l <;> simp

theorem probeDelayExpiry_reads (hp : p < 4) (hc : s.csi[p]? = some c) (h : c.stage = .delay) :
    Gives (.probeDelayExpiry p) s (fun t =>
      c.since + s.fld CSI_DET_CFG 15 8 p * 10 ^ 9 ≤ t.clock.ps ∧
      (∀ i, (s.idEntries p).head? = some i → (t.csiPort p).stage = .identity i 0 ∧ OnlyIn [.clock, .csi] s t) ∧
      (s.idEntries p = [] → (t.csiPort p).identValid = false ∧ InitStarts s p t)) := by
  refine Gives.onUnit (u := s.probeDelay p) rfl hp ?_
  rw [State.probeDelay_delay hc h]
  have only := s.stageTime_onlyIn p (s.fld CSI_DET_CFG 15 8 p)
  have due := State.le_stageTime (s.fld CSI_DET_CFG 15 8 p) hc
  generalize s.stageTime p (s.fld CSI_DET_CFG 15 8 p) = u at only due ⊢
  have port : u.csi[p]? = some c := by rw [only.csi_eq (by decide)]; exact hc
  have regs : ∀ d i j, u.rd d i j = s.rd d i j := fun _ _ _ => by simp only [State.rd, only.regs_eq (by decide)]
  have entries : u.idEntries p = s.idEntries p := State.idEntries_congr fun k => regs _ _ _
  have clock : (u.identityFrom p 0).clock = u.clock := (u.identityFrom_onlyIn p 0).clock_eq (by decide)
  refine ⟨?_, fun i hi => ?_, fun empty => ?_⟩
  · rw [State.settle_clock, clock]
    exact due
  · obtain ⟨stage, kept⟩ := identityFrom_next (k := 0) port (by rw [entries, find?_from_zero, hi])
    exact ⟨stage, ((only.mono (by decide)).step kept (by decide)).settle⟩
  · obtain ⟨valid, starts⟩ := identityFrom_last (k := 0) port (by rw [entries, empty]; rfl) (regs _ _ _)
    exact ⟨valid.trans (by rw [entries, empty]; rfl), starts⟩

theorem identityReadDone_bytes (hp : p < 4) (hc : s.csi[p]? = some c) (h : c.stage = .identity k n) (b : List Byte) :
    Gives (.identityReadDone p (some b)) s (fun t =>
      (t.csiPort p).probe = c.probe ++ padTo (if s.flag CSI_ID 16 p k then 2 else 1) b ∧
      (∀ i, (s.idEntries p).find? (fun j => decide (k < j)) = some i →
        (t.csiPort p).stage = .identity i 0 ∧ OnlyIn [.csi] s t) ∧
      ((s.idEntries p).find? (fun j => decide (k < j)) = none → InitStarts s p t)) := by
  refine Gives.onUnit (u := s.identityRead p (some b)) rfl hp ?_
  rw [State.identityRead_some hc h]
  have port := getElem?_modCsi (CsiPort.reads (if s.flag CSI_ID 16 p k then 2 else 1) b) hc
  have only := s.modCsi_onlyIn p (CsiPort.reads (if s.flag CSI_ID 16 p k then 2 else 1) b)
  refine ⟨probe_identityFrom _ port, fun i hi => ?_, fun last => ?_⟩
  · obtain ⟨stage, kept⟩ := identityFrom_next (k := k + 1) port hi
    exact ⟨stage, (only.trans kept).settle⟩
  · exact (identityFrom_last (k := k + 1) port last rfl).2

theorem identityReadDone_again (hp : p < 4) (hc : s.csi[p]? = some c) (h : c.stage = .identity k n) (few : n < 2) :
    Gives (.identityReadDone p none) s (fun t =>
      (t.csiPort p).stage = .retryWait k (n + 1) ∧ (t.csiPort p).since = s.clock.ps ∧ OnlyIn [.csi] s t) := by
  refine Gives.onUnit (u := s.identityRead p none) rfl hp ?_
  rw [State.identityRead_again hc h few, State.settle_csiPort, csiPort_setStage _ hc]
  exact ⟨rfl, rfl, (s.setStage_onlyIn _ _).settle⟩

theorem identityReadDone_fails (hp : p < 4) (hc : s.csi[p]? = some c) (h : c.stage = .identity k n) (all : 2 ≤ n) :
    Gives (.identityReadDone p none) s (fun t =>
      (t.csiPort p).identValid = false ∧ t.rd CSI_PROBE_FAIL_COUNT p = bump32 (s.rd CSI_PROBE_FAIL_COUNT p) ∧
      bitAt (t.fstat 4) 1 = true ∧ InitStarts s p t) := by
  refine Gives.onUnit (u := s.identityRead p none) rfl hp ?_
  rw [State.identityRead_fails hc h all]
  have port : (s.probeFails p).csi[p]? = some c := by
    rw [(s.probeFails_onlyIn p).csi_eq (by decide)]; exact hc
  have ended := getElem?_modCsi (CsiPort.identified false) port
  have status : (((s.probeFails p).modCsi p (CsiPort.identified false)).initFrom p 0).fstat 4 = (s.probeFails p).fstat 4 :=
    (State.initFrom_onlyIn _ p 0).fstat_eq (by decide) 4
  refine ⟨congrArg CsiPort.identValid (csiPort_initFrom 0 ended), ?_, ?_,
    initStarts_initFrom ended (s.rd_probeFails_init hp)⟩
  · refine (State.settle_rd _ _ _ _).trans (((s.probeFails_kept p).initFrom_rd ?_ ?_).trans (s.rd_bump_same _ _))
    all_goals simp only [RegDef.at, CSI_PROBE_FAIL_COUNT]; omega
  · rw [State.settle_fstat, status]
    exact (s.bump CSI_PROBE_FAIL_COUNT p).raiseI_sets 0x0402 { source := p }

theorem identityRetryTimer_reads (hp : p < 4) (hc : s.csi[p]? = some c) (h : c.stage = .retryWait k n) :
    Gives (.identityRetryTimer p) s (fun t =>
      (t.csiPort p).stage = .identity k n ∧ c.since + 10 ^ 10 ≤ t.clock.ps ∧ OnlyIn [.clock, .csi] s t) := by
  refine Gives.onUnit (u := s.identityRetry p) rfl hp ?_
  rw [State.identityRetry_waits hc h]
  have only := s.stageTime_onlyIn p 10
  have due := State.le_stageTime 10 hc
  generalize s.stageTime p 10 = u at only due ⊢
  have port : u.csi[p]? = some c := by rw [only.csi_eq (by decide)]; exact hc
  have clock : (u.setStage p (.identity k n)).settle.clock = u.clock := rfl
  rw [State.settle_csiPort, csiPort_setStage _ port, clock]
  exact ⟨rfl, due, ((only.mono (by decide)).step (u.setStage_onlyIn _ _) (by decide)).settle⟩

/-- Settles O37, stage by stage: each command either finds another stage and changes nothing, or moves the arrival on. -/
theorem cameraProbeIdentifies : Obligations.CameraProbeIdentifies := by
  unfold Obligations.CameraProbeIdentifies
  intro s p c hp hc
  refine ⟨camDetectAssert_noted hp hc, camDetectAssert_starts hp hc, fun h => ?_, probeDelayExpiry_reads hp hc,
    fun h r => ?_, fun k n h => ⟨identityReadDone_bytes hp hc h, identityReadDone_again hp hc h,
      identityReadDone_fails hp hc h⟩, fun h => ?_, fun k n h => identityRetryTimer_reads hp hc h⟩
  · exact exec_onUnit_same (u := s.probeDelay p) rfl hp (State.probeDelay_idle hc h)
  · exact exec_onUnit_same (u := s.identityRead p r) rfl hp (State.identityRead_idle hc h r)
  · exact exec_onUnit_same (u := s.identityRetry p) rfl hp (State.identityRetry_idle hc h)

end Sys2Proof.Machine
end

section
namespace Sys2Proof.Machine

/-! The init list of a camera, its arrival and its departure (R172, R173, R178, R179, R181). -/

variable {s t u : State} {p k : Nat} {c : CsiPort}

theorem State.initWritten_idle (hc : s.csi[p]? = some c) (h : ∀ k, c.stage ≠ .init k) : s.initWritten p = s := by
  rw [← csiPort_of hc] at h
  unfold State.initWritten
  split
  · next k => exact absurd k (h _)
  · rfl

theorem State.initDelay_idle (hc : s.csi[p]? = some c) (h : ∀ k, c.stage ≠ .initWait k) : s.initDelay p = s := by
  rw [← csiPort_of hc] at h
  unfold State.initDelay
  split
  · next k => exact absurd k (h _)
  · rfl

theorem State.initWritten_init (hc : s.csi[p]? = some c) (h : c.stage = .init k) :
    s.initWritten p = s.initFrom p (k + 1) := by rw [State.initWritten, csiPort_of hc, h]

theorem State.initDelay_wait (hc : s.csi[p]? = some c) (h : c.stage = .initWait k) :
    s.initDelay p = (s.stageTime p (s.fld CSI_INIT 23 8 p k)).initFrom p (k + 1) := by
  rw [State.initDelay, csiPort_of hc, h]

/-! The arrival. -/

/-- The partner that the probe has identified, at virtual channel 0. -/
def CsiPort.camera (c : CsiPort) (p : Nat) : Partner :=
  { Partner.free with type := 1, port := 4 * p, flags := b2n c.identValid,
                      ident := if c.identValid then crc32 (c.probe ++ [0]) else 0 }

/-- The partner of virtual channel 0, with the identity that the probe gave. -/
def CameraAt (c : CsiPort) (p : Nat) (x : Partner) : Prop :=
  x.type = 1 ∧ x.port = 4 * p ∧ x.flags = b2n c.identValid ∧
    x.ident = if c.identValid then crc32 (c.probe ++ [0]) else 0

/-- The partner of virtual channel 0 arrives with the lowest free ID. -/
theorem csiArrived_partner {id : Nat} (hc : s.csi[p]? = some c) (new : s.atPort (4 * p) = none)
    (free : (List.range 24).find? (fun q => (s.partner q).type == 0) = some id) :
    CameraAt c p ((s.csiArrived p).partner id) := by
  have camera : s.csiPartner p 0 = c.camera p := by
    rw [State.csiPartner, csiPort_of hc]
    rfl
  rw [State.csiArrived, camera, State.found_new (s := s.setStage p .present) (x := c.camera p) new,
    State.partner_arrive (s := s.setStage p .present) free]
  exact ⟨rfl, rfl, rfl, rfl⟩

theorem csiPort_csiArrived (hc : s.csi[p]? = some c) :
    (s.csiArrived p).csiPort p = { c with stage := .present, since := s.clock.ps } :=
  (State.csiPort_congr ((State.found_onlyIn _ _).csi_eq (by decide)) p).trans (csiPort_setStage _ hc)

theorem State.csiArrived_guard (s : State) (p : Nat) : (s.csiArrived p).guard = s.guard :=
  ((s.setStage p .present).found_onlyIn _).guard_eq (by decide)

/-- How the init list goes on after entry `k`. -/
def InitGoesOn (s : State) (p : Nat) (c : CsiPort) (k : Nat) (t : State) : Prop :=
  (k < 31 → s.rd CSI_INIT p (k + 1) ≠ 0 →
    (t.csiPort p).stage = (if s.flag CSI_INIT 7 p (k + 1) then .initWait (k + 1) else .init (k + 1)) ∧
    OnlyIn [.clock, .csi] s t) ∧
  ((31 ≤ k ∨ s.rd CSI_INIT p (k + 1) = 0) → (t.csiPort p).stage = .present ∧
    ∀ id, s.atPort (4 * p) = none → (List.range 24).find? (fun q => (s.partner q).type == 0) = some id →
      CameraAt c p (t.partner id))

theorem initGoesOn_initFrom (hc : s.csi[p]? = some c) (only : OnlyIn [.clock] s u) :
    InitGoesOn s p c k (u.initFrom p (k + 1)).settle := by
  have port : u.csi[p]? = some c := by rw [only.csi_eq (by decide)]; exact hc
  have regs : ∀ i j, u.rd CSI_INIT i j = s.rd CSI_INIT i j := fun _ _ => by simp only [State.rd, only.regs_eq (by decide)]
  have partners : u.partners = s.partners := only.partners_eq (by decide)
  have stage : ((u.initFrom p (k + 1)).settle.csiPort p).stage = s.initStage p (k + 1) := by
    rw [State.settle_csiPort, csiPort_initFrom _ port]
    exact State.initStage_congr (regs _ _)
  refine ⟨fun hk entry => ⟨stage.trans (State.initStage_entry (by omega) entry), ?_⟩,
    fun ends => ⟨stage.trans (State.initStage_end (by omega)), fun id new free => ?_⟩⟩
  · exact ((only.mono (by decide)).step (State.initFrom_entry_onlyIn (by omega) (by rwa [regs])) (by decide)).settle
  · have last : u.initFrom p (k + 1) = u.csiArrived p := if_pos (by rw [regs]; omega)
    rw [State.settle_partner, last]
    refine csiArrived_partner port ((State.atPort_congr partners _).trans new) ?_
    simpa only [State.partner, partners] using free

theorem initWriteDone_goesOn (hp : p < 4) (hc : s.csi[p]? = some c) (h : c.stage = .init k) :
    Gives (.initWriteDone p) s (fun t => InitGoesOn s p c k t ∧ t.clock = s.clock) := by
  refine Gives.onUnit (u := s.initWritten p) rfl hp ?_
  rw [State.initWritten_init hc h]
  exact ⟨initGoesOn_initFrom hc (.refl _ s), (s.initFrom_onlyIn p (k + 1)).settle.clock_eq (by decide)⟩

theorem initDelayExpiry_goesOn (hp : p < 4) (hc : s.csi[p]? = some c) (h : c.stage = .initWait k) :
    Gives (.initDelayExpiry p) s (fun t => InitGoesOn s p c k t ∧
      c.since + s.fld CSI_INIT 23 8 p k * 10 ^ 9 ≤ t.clock.ps) := by
  refine Gives.onUnit (u := s.initDelay p) rfl hp ?_
  rw [State.initDelay_wait hc h]
  have only := s.stageTime_onlyIn p (s.fld CSI_INIT 23 8 p k)
  have due := State.le_stageTime (s.fld CSI_INIT 23 8 p k) hc
  have clock := (State.initFrom_onlyIn (s.stageTime p (s.fld CSI_INIT 23 8 p k)) p (k + 1)).settle.clock_eq (by decide)
  refine ⟨initGoesOn_initFrom hc only, ?_⟩
  rw [clock]
  exact due

/-! The departure. -/

/-- What stays of a port whose camera is gone. -/
def CsiPort.departed (c : CsiPort) : CsiPort := { CsiPort.reset with i2cLow := c.i2cLow, lastDt := c.lastDt }

/-- The detect pad is inactive. -/
def CsiPort.padLow (c : CsiPort) : CsiPort := { c with rawDet := false }

theorem State.camDeassert_noted (hc : s.csi[p]? = some c) (h : s.portsOn = false ∨ c.det = false) :
    s.camDeassert p = s.modCsi p CsiPort.padLow := by
  unfold State.camDeassert
  dsimp only
  rw [csiPort_of hc]
  split
  · rfl
  · next on => exact if_pos (h.resolve_left on)

theorem State.camDeassert_glitch (hc : s.csi[p]? = some c) (on : s.portsOn = true) (det : c.det = true)
    (busy : c.stage.busy = true) : s.camDeassert p = (s.modCsi p CsiPort.departed).bump CSI_DET_GLITCH_COUNT p := by
  unfold State.camDeassert
  dsimp only
  rw [csiPort_of hc, if_neg (by simp [on]), if_neg (by simp [det]), if_pos busy]
  rfl

theorem State.camDeassert_leaves (hc : s.csi[p]? = some c) (on : s.portsOn = true) (det : c.det = true)
    (idle : c.stage.busy = false) : s.camDeassert p =
      (s.modCsi p CsiPort.departed).departAll [4 * p, 4 * p + 1, 4 * p + 2, 4 * p + 3] := by
  unfold State.camDeassert
  dsimp only
  rw [csiPort_of hc, if_neg (by simp [on]), if_neg (by simp [det]), if_neg (by simp [idle])]
  rfl

theorem camDetectDeassert_noted (hp : p < 4) (hc : s.csi[p]? = some c) (h : s.portsOn = false ∨ c.det = false) :
    Gives (.camDetectDeassert p) s (fun t => t.csiPort p = { c with rawDet := false } ∧ OnlyIn [.csi] s t) := by
  refine Gives.onUnit (u := s.camDeassert p) rfl hp ?_
  rw [State.camDeassert_noted hc h]
  exact ⟨csiPort_modCsi _ hc, (s.modCsi_onlyIn _ _).settle⟩

theorem camDetectDeassert_glitch (hp : p < 4) (hc : s.csi[p]? = some c) (on : s.portsOn = true) (det : c.det = true)
    (busy : c.stage.busy = true) : Gives (.camDetectDeassert p) s (fun t => t.csiPort p = c.departed ∧
      t.rd CSI_DET_GLITCH_COUNT p = bump32 (s.rd CSI_DET_GLITCH_COUNT p) ∧ OnlyIn [.regs, .csi] s t) := by
  refine Gives.onUnit (u := s.camDeassert p) rfl hp ?_
  rw [State.camDeassert_glitch hc on det busy]
  exact ⟨csiPort_modCsi CsiPort.departed hc, (s.modCsi p CsiPort.departed).rd_bump_same _ _,
    (((s.modCsi_onlyIn _ _).mono (by decide)).step (State.bump_onlyIn _ _ _) (by decide)).settle⟩

theorem camDetectDeassert_leaves (hp : p < 4) (hc : s.csi[p]? = some c) (on : s.portsOn = true) (det : c.det = true)
    (idle : c.stage.busy = false) : Gives (.camDetectDeassert p) s (fun t => t.csiPort p = c.departed ∧
      (∀ id, s.atPort (4 * p) = some id → s.isPresent id = true → (t.partner id).leaving = true) ∧
      OnlyIn [.regs, .hif, .chans, .partners, .csi, .log] s t) := by
  refine Gives.onUnit (u := s.camDeassert p) rfl hp ?_
  rw [State.camDeassert_leaves hc on det idle]
  have only := (s.modCsi p CsiPort.departed).departAll_onlyIn [4 * p, 4 * p + 1, 4 * p + 2, 4 * p + 3]
  refine ⟨?_, fun id at_ here => State.departAll_leaves (s := s.modCsi p CsiPort.departed) _ at_ here,
    (((s.modCsi_onlyIn _ _).mono (by decide)).step only (by decide)).settle⟩
  rw [State.settle_csiPort, State.csiPort_congr (only.csi_eq (by decide))]
  exact csiPort_modCsi _ hc

/-! The camera-control bus. -/

/-- The bus of the port is held low, or released. -/
def CsiPort.bus (low : Bool) (c : CsiPort) : CsiPort := { c with i2cLow := low }

/-- The bus of the port is held low, and reported so. -/
def State.busHeld (s : State) (p : Nat) : State :=
  (s.modCsi p (CsiPort.bus true)).raiseCond 0x0405 { source := p }

theorem State.busHeld_onlyIn (s : State) (p : Nat) : OnlyIn [.regs, .hif, .csi, .log, .guard] s (s.busHeld p) :=
  ((s.modCsi_onlyIn _ _).mono (by decide)).step (State.raiseCond_onlyIn _ _ _) (by decide)

theorem getElem?_busHeld (hc : s.csi[p]? = some c) : (s.busHeld p).csi[p]? = some (c.bus true) := by
  rw [State.busHeld, (State.raiseCond_onlyIn _ _ _).csi_eq (by decide)]
  exact getElem?_modCsi _ hc

theorem State.i2cLow_idle (hc : s.csi[p]? = some c) (h : s.csiOn p = false ∨ c.i2cLow = true) : s.i2cLow p = s := by
  rw [← csiPort_of hc] at h
  exact if_pos h

theorem State.i2cLow_held (hc : s.csi[p]? = some c) (on : s.csiOn p = true) (free : c.i2cLow = false) :
    s.i2cLow p = if c.stage.busy then ((s.busHeld p).modCsi p (CsiPort.identified false)).csiArrived p
      else s.busHeld p := by
  have starts : ¬ (s.csiOn p = false ∨ (s.csiPort p).i2cLow = true) := by rw [csiPort_of hc]; simp [on, free]
  have stage : ((s.busHeld p).csiPort p).stage = c.stage := by rw [csiPort_of (getElem?_busHeld hc), CsiPort.bus]
  rw [← stage]
  exact if_neg starts

/-- The condition of a bus held low is live and reported; what follows keeps the Guard. -/
theorem i2cBusHeld_reported (h : u.guard = (s.busHeld p).guard) :
    u.causeLive 0x0405 = true ∧ bitAt (u.fstat 4) 4 = true := by
  rw [State.causeLive, State.fstat, h]
  exact ⟨State.causeLive_present _ _ _, State.raiseCond_sets _ 0x0405 _⟩

theorem i2cBusHeldLow_reports (hp : p < 4) (hc : s.csi[p]? = some c) (on : s.csiOn p = true) (free : c.i2cLow = false) :
    Gives (.i2cBusHeldLow p) s (fun t =>
      (t.csiPort p).i2cLow = true ∧ t.causeLive 0x0405 = true ∧ bitAt (t.fstat 4) 4 = true ∧
      (c.stage.busy = true → (t.csiPort p).stage = .present ∧ (t.csiPort p).identValid = false) ∧
      (c.stage.busy = false → (t.csiPort p).stage = c.stage ∧ OnlyIn [.regs, .hif, .csi, .log, .guard] s t)) := by
  refine Gives.onUnit (u := s.i2cLow p) rfl hp ?_
  have held := getElem?_busHeld hc
  rw [State.i2cLow_held hc on free]
  by_cases busy : c.stage.busy = true
  · rw [if_pos busy]
    have port := csiPort_csiArrived (getElem?_modCsi (CsiPort.identified false) held)
    have guard := ((s.busHeld p).modCsi p (CsiPort.identified false)).csiArrived_guard p
    obtain ⟨live, status⟩ := i2cBusHeld_reported guard
    rw [State.settle_csiPort, port]
    exact ⟨rfl, live, status, fun _ => ⟨rfl, rfl⟩, fun idle => by simp [busy] at idle⟩
  · rw [if_neg busy]
    obtain ⟨live, status⟩ := i2cBusHeld_reported (s := s) (p := p) rfl
    rw [State.settle_csiPort, csiPort_of held]
    exact ⟨rfl, live, status, fun h => absurd h busy, fun _ => ⟨rfl, (s.busHeld_onlyIn p).settle⟩⟩

theorem i2cBusReleased_ends (hp : p < 4) (hc : s.csi[p]? = some c) :
    Gives (.i2cBusReleased p) s (fun t => (t.csiPort p).i2cLow = false ∧ (t.csiPort p).stage = c.stage ∧
      t.guard.live.contains (0x0405, p) = false ∧ OnlyIn [.csi, .guard] s t) := by
  refine Gives.onUnit (u := (s.modCsi p (CsiPort.bus false)).gone 0x0405 p) rfl hp ?_
  have port : ((s.modCsi p (CsiPort.bus false)).gone 0x0405 p).csiPort p = c.bus false := csiPort_modCsi _ hc
  rw [State.settle_csiPort, port]
  exact ⟨rfl, rfl, State.gone_not_live _ _ _,
    (((s.modCsi_onlyIn _ _).mono (by decide)).step (State.gone_onlyIn _ _ _) (by decide)).settle⟩

/-- Settles O38, stage by stage; the one partner whose leaving is claimed departs first of the port's four. -/
theorem cameraArrivesAndDeparts : Obligations.CameraArrivesAndDeparts := by
  unfold Obligations.CameraArrivesAndDeparts
  intro s p c hp hc
  refine ⟨⟨fun k h => initWriteDone_goesOn hp hc h, fun h => ?_, fun k h => initDelayExpiry_goesOn hp hc h, fun h => ?_⟩,
    camDetectDeassert_noted hp hc, fun on det => ⟨camDetectDeassert_glitch hp hc on det,
      camDetectDeassert_leaves hp hc on det⟩, fun h => ?_, i2cBusHeldLow_reports hp hc, i2cBusReleased_ends hp hc⟩
  · exact exec_onUnit_same (u := s.initWritten p) rfl hp (State.initWritten_idle hc h)
  · exact exec_onUnit_same (u := s.initDelay p) rfl hp (State.initDelay_idle hc h)
  · exact exec_onUnit_same (u := s.i2cLow p) rfl hp (State.i2cLow_idle hc h)

end Sys2Proof.Machine
end

section
namespace Sys2Proof.Machine

/-! Panels: what their operations leave alone, and the display that an operation changes (R291, R296 to R300). -/

variable {ps : List Part} {s t u : State} {d : Nat} {x : Display}

theorem OnlyIn.displays_eq (h : OnlyIn ps s t) (hp : Part.displays ∉ ps) : t.displays = s.displays :=
  (h .displays).resolve_left hp

theorem disp_of (h : s.displays[d]? = some x) : s.disp d = x := by simp [State.disp, lget, h]

theorem getElem?_modDisp (f : Display → Display) (h : s.displays[d]? = some x) :
    (s.modDisp d f).displays[d]? = some (f x) := by simp [State.modDisp, getElem?_lmod, h]

theorem disp_modDisp (f : Display → Display) (h : s.displays[d]? = some x) : (s.modDisp d f).disp d = f x :=
  disp_of (getElem?_modDisp f h)

theorem State.disp_congr (h : t.displays = s.displays) (d : Nat) : t.disp d = s.disp d := by
  rw [State.disp, h, State.disp]

@[simp] theorem State.settle_disp (s : State) (d : Nat) : s.settle.disp d = s.disp d := rfl

/-- A register in which neither events nor faults are counted stands while partners leave. -/
theorem State.rd_departAll_aside (s : State) (ports : List Nat) {d : RegDef} {k : Nat} (h : d.aside k) :
    (s.departAll ports).rd d k = s.rd d k := by
  have one (s : State) (p : Nat) : (s.depart p).rd d k = s.rd d k := by
    unfold State.depart
    split
    · exact s.rd_event_aside _ _ _ h
    · rfl
  induction ports generalizing s with
  | nil => rfl
  | cons port ports ih =>
    refine (ih (match s.atPort port with | some p => s.depart p | none => s)).trans ?_
    split
    · exact one s _
    · rfl

/-! Detection. -/

theorem panelPartner_type (d : Nat) (edid : Option (List Byte)) (w h : Nat) :
    (panelPartner d edid w h).type = if d = 2 then 6 else 5 := by
  unfold panelPartner
  split
  · cases edid <;> rfl
  · rfl

theorem panelPartner_port (d : Nat) (edid : Option (List Byte)) (w h : Nat) :
    (panelPartner d edid w h).port = displayPort d := by
  unfold panelPartner
  split
  · cases edid <;> rfl
  · rfl

/-- A display whose panel is there, with what its EDID says. -/
def Display.detected (ident : Option Nat) (x : Display) : Display := { x with present := true, raw := true, ident := ident }

/-- The wait for HPD ends. -/
def Display.hpdSeen (x : Display) : Display := if x.step = .waitHpd then { x with step := .waitLink } else x

theorem Display.hpdSeen_step (x : Display) : x.hpdSeen.step = if x.step = .waitHpd then .waitLink else x.step := by
  unfold Display.hpdSeen
  split <;> rfl

theorem Display.hpdSeen_present (x : Display) : x.hpdSeen.present = x.present := by
  unfold Display.hpdSeen
  split <;> rfl

theorem Display.hpdSeen_raw (x : Display) : x.hpdSeen.raw = x.raw := by
  unfold Display.hpdSeen
  split <;> rfl

/-- The display has noted the panel that is detected. -/
def State.panelNoted (s : State) (d : Nat) (y : Partner) : State :=
  (s.modDisp d (Display.detected (if y.flags = 0 then none else some y.ident))).modDisp d Display.hpdSeen

theorem State.panelNoted_onlyIn (s : State) (d : Nat) (y : Partner) : OnlyIn [.displays] s (s.panelNoted d y) :=
  (s.modDisp_onlyIn _ _).trans (State.modDisp_onlyIn _ _ _)

theorem disp_panelNoted (hx : s.displays[d]? = some x) (y : Partner) :
    ((s.panelNoted d y).disp d).present = true ∧
    ((s.panelNoted d y).disp d).step = if x.step = .waitHpd then .waitLink else x.step := by
  rw [State.panelNoted, disp_modDisp _ (getElem?_modDisp _ hx), Display.hpdSeen_present, Display.hpdSeen_step]
  exact ⟨rfl, rfl⟩

theorem State.panelArrives_new (hx : s.displays[d]? = some x) (on : s.portsOn = true) (absent : x.present = false)
    (new : s.atPort (displayPort d) = none) (edid : Option (List Byte)) (w h : Nat) :
    s.panelArrives d edid w h =
      (s.panelNoted d (panelPartner d edid w h)).arrive (panelPartner d edid w h) := by
  have there : (s.panelNoted d (panelPartner d edid w h)).atPort (displayPort d) = none := new
  unfold State.panelArrives
  dsimp only
  rw [if_neg (by simp [on]), disp_of hx, absent]
  split
  · rfl
  · next h => exact absurd (there.symm.trans h) (by simp)

/-- What a later EDID says of the partner is taken over. -/
def Partner.retold (y : Partner) (x : Partner) : Partner :=
  { x with flags := y.flags, width := y.width, height := y.height, ident := y.ident }

theorem State.panelArrives_again {id : Nat} (on : s.portsOn = true) (here : s.atPort (displayPort d) = some id)
    (edid : Option (List Byte)) (w h : Nat) :
    s.panelArrives d edid w h =
      let y := panelPartner d edid w h
      let u := s.panelNoted d y
      if (s.partner id).ident = y.ident ∧ (s.partner id).flags = y.flags then u
      else (u.setPartner id (y.retold (s.partner id))).partnerChanged id 1 0xFF := by
  have there : (s.panelNoted d (panelPartner d edid w h)).atPort (displayPort d) = some id := here
  unfold State.panelArrives
  dsimp only
  rw [if_neg (by simp [on])]
  split
  · next h => exact absurd (there.symm.trans h) (by simp)
  · next p h =>
    cases there.symm.trans h
    rfl

theorem State.partnerChanged_onlyIn (s : State) (p change chan : Nat) :
    OnlyIn [.regs, .log, .hif] s (s.partnerChanged p change chan) := s.event_onlyIn _ _ _

theorem panelDetectAssert_new {id : Nat} (hd : d < 3) (hx : s.displays[d]? = some x) (on : s.portsOn = true)
    (edid : Option (List Byte)) (w h : Nat) (new : s.atPort (displayPort d) = none) (absent : x.present = false)
    (free : (List.range 24).find? (fun q => (s.partner q).type == 0) = some id) :
    Gives (.panelDetectAssert d edid w h) s (fun t =>
      (t.disp d).present = true ∧ (t.disp d).step = (if x.step = .waitHpd then .waitLink else x.step) ∧
      (t.partner id).type = (if d = 2 then 6 else 5) ∧ (t.partner id).port = displayPort d ∧
      (t.partner id).ident = (panelPartner d edid w h).ident ∧
      OnlyIn [.regs, .hif, .partners, .gens, .displays, .log] s t) := by
  refine Gives.onUnit (u := s.panelArrives d edid w h) rfl hd ?_
  rw [State.panelArrives_new hx on absent new]
  generalize hy : panelPartner d edid w h = y
  have type := panelPartner_type d edid w h
  have port := panelPartner_port d edid w h
  rw [hy] at type port
  have arrives := (s.panelNoted d y).arrive_onlyIn y
  obtain ⟨present, step⟩ := disp_panelNoted hx y
  rw [State.settle_disp, State.disp_congr (arrives.displays_eq (by decide)), State.settle_partner,
    State.partner_arrive (s := s.panelNoted d y) free]
  exact ⟨present, step, type, port, rfl,
    (((s.panelNoted_onlyIn d y).mono (by decide)).step arrives (by decide)).settle⟩

theorem panelDetectAssert_again {id : Nat} (hd : d < 3) (hx : s.displays[d]? = some x) (on : s.portsOn = true)
    (edid : Option (List Byte)) (w h : Nat) (here : s.atPort (displayPort d) = some id) :
    Gives (.panelDetectAssert d edid w h) s (fun t =>
      (t.disp d).present = true ∧ (t.partner id).ident = (panelPartner d edid w h).ident ∧
      (t.partner id).flags = (panelPartner d edid w h).flags ∧
      OnlyIn [.regs, .hif, .partners, .displays, .log] s t) := by
  refine Gives.onUnit (u := s.panelArrives d edid w h) rfl hd ?_
  rw [State.panelArrives_again on here]
  dsimp only
  generalize panelPartner d edid w h = y
  have noted := s.panelNoted_onlyIn d y
  obtain ⟨present, -⟩ := disp_panelNoted hx y
  split
  · next same => exact ⟨present, same.1, same.2, (noted.mono (by decide)).settle⟩
  · have told := ((s.panelNoted d y).setPartner id (y.retold (s.partner id))).partnerChanged_onlyIn id 1 0xFF
    rw [State.settle_disp, State.disp_congr (told.displays_eq (by decide)), State.settle_partner,
      State.partner_congr (told.partners_eq (by decide)), State.partner_setPartner_same]
    exact ⟨present, rfl, rfl,
      (((noted.mono (by decide)).step (State.setPartner_onlyIn _ _ _) (by decide)).step told (by decide)).settle⟩

/-! Departure. -/

/-- A display whose panel has gone. -/
def Display.absent (x : Display) : Display := { x with present := false, raw := false }

/-- The partner of a display leaves. -/
def State.panelGone (s : State) (d : Nat) : State := (s.modDisp d Display.absent).departAll [displayPort d]

theorem State.panelGone_onlyIn (s : State) (d : Nat) :
    OnlyIn [.regs, .hif, .chans, .partners, .displays, .log] s (s.panelGone d) :=
  ((s.modDisp_onlyIn _ _).mono (by decide)).step (State.departAll_onlyIn _ _) (by decide)

theorem getElem?_panelGone (hx : s.displays[d]? = some x) : (s.panelGone d).displays[d]? = some x.absent := by
  rw [State.panelGone, (State.departAll_onlyIn _ _).displays_eq (by decide)]
  exact getElem?_modDisp _ hx

theorem State.flag_panelGone (s : State) (hd : d < 3) : (s.panelGone d).flag DSP_CFG 7 d = s.flag DSP_CFG 7 d := by
  have kept : (s.panelGone d).rd DSP_CFG d = (s.modDisp d Display.absent).rd DSP_CFG d :=
    State.rd_departAll_aside _ _ (by simp only [RegDef.aside, RegDef.at, DSP_CFG, KPR_LOG_LOST, GRD_REACT_COUNT]; omega)
  rw [State.flag, kept]
  rfl

theorem State.panelLeaves_eq (hx : s.displays[d]? = some x) (on : s.portsOn = true) (here : x.present = true) :
    s.panelLeaves d = if (s.panelGone d).panelHere d then s.panelGone d else (s.panelGone d).panelDown d :=
  if_neg (by rw [disp_of hx]; simp [on, here])

/-- Of a panel that has gone only DET_IGNORE speaks as if it were there. -/
theorem panelHere_panelGone (hd : d < 3) (hx : s.displays[d]? = some x) :
    (s.panelGone d).panelHere d = (decide (d < 2) && s.flag DSP_CFG 7 d) := by
  rw [State.panelHere, disp_of (getElem?_panelGone hx), s.flag_panelGone hd, Display.absent, Bool.false_or]

end Sys2Proof.Machine
end

section
namespace Sys2Proof.Machine

/-! Panels: departure, training, the hold, and raw pads (R291, R296, R299, R300, R357). -/

variable {s t u : State} {d : Nat} {x : Display}

theorem disp_panelDown (hx : s.displays[d]? = some x) (on : x.step ≠ .off) (up : x.step.falling = false) :
    ((s.panelDown d).disp d).step = .waitLinkOff ∧ ((s.panelDown d).disp d).present = x.present := by
  rw [State.panelDown, disp_modDisp _ hx, if_neg (by simp [on, up])]
  exact ⟨rfl, rfl⟩

theorem disp_panelDown_present (hx : s.displays[d]? = some x) : ((s.panelDown d).disp d).present = x.present := by
  rw [State.panelDown, disp_modDisp _ hx]
  split <;> rfl

theorem panelDepart_leaves (hd : d < 3) (hx : s.displays[d]? = some x) (on : s.portsOn = true) (here : x.present = true) :
    Gives (.panelDepart d) s (fun t =>
      (t.disp d).present = false ∧
      (∀ id, s.atPort (displayPort d) = some id → s.isPresent id = true → (t.partner id).leaving = true) ∧
      ((d = 2 ∨ s.flag DSP_CFG 7 d = false) → x.step ≠ .off → x.step.falling = false → (t.disp d).step = .waitLinkOff) ∧
      (d < 2 → s.flag DSP_CFG 7 d = true → (t.disp d).step = x.step) ∧
      OnlyIn [.regs, .hif, .chans, .partners, .displays, .log] s t) := by
  refine Gives.onUnit (u := s.panelLeaves d) rfl hd ?_
  rw [State.panelLeaves_eq hx on here, panelHere_panelGone hd hx]
  have gone := getElem?_panelGone hx
  have only := s.panelGone_onlyIn d
  have leaves (id : Nat) (at_ : s.atPort (displayPort d) = some id) (is : s.isPresent id = true) :
      ((s.panelGone d).partner id).leaving = true :=
    State.departAll_leaves (s := s.modDisp d Display.absent) [] at_ is
  by_cases kept : (decide (d < 2) && s.flag DSP_CFG 7 d) = true
  · rw [if_pos kept, State.settle_disp, disp_of gone]
    obtain ⟨lvds, ignore⟩ : d < 2 ∧ s.flag DSP_CFG 7 d = true := by simpa using kept
    exact ⟨rfl, leaves, fun h => h.elim (by omega) (by simp [ignore]), fun _ _ => rfl, only.settle⟩
  · rw [if_neg kept]
    have down := (s.panelGone d).panelDown_onlyIn d
    refine ⟨disp_panelDown_present gone, fun id at_ is => ?_, fun _ notOff up => (disp_panelDown gone notOff up).1,
      fun lvds ignore => absurd (by simp [lvds, ignore]) kept, (only.step down (by decide)).settle⟩
    rw [State.settle_partner, State.partner_congr (down.partners_eq (by decide))]
    exact leaves id at_ is

/-! Raw pads. -/

/-- The raw pad of a display toggles. -/
def Display.padFlips (x : Display) : Display := { x with raw := !x.raw }

theorem detectPadChange_panel (hd : d < 2) (hx : s.displays[d]? = some x) (on : s.portsOn = true) :
    Gives (.detectPadChange (.panel d)) s (fun t =>
      t.disp d = { x with raw := !x.raw } ∧ OnlyIn [.regs, .displays, .mem, .sch] s t) := by
  have change : s.padChange (.panel d) = (s.modDisp d Display.padFlips).hwFlag 5 := if_neg (by simp [on])
  refine Gives.onUnit (u := s.padChange (.panel d)) rfl hd ?_
  rw [change]
  have flag := (s.modDisp d Display.padFlips).hwFlag_onlyIn 5
  rw [State.settle_disp, State.disp_congr (flag.displays_eq (by decide)), disp_modDisp _ hx]
  exact ⟨rfl, (((s.modDisp_onlyIn _ _).mono (by decide)).step flag (by decide)).settle⟩

/-- HPD toggles; where it rises the wait of a power-up ends. -/
def State.hpdFlips (s : State) : State :=
  if ((s.modDisp 2 Display.padFlips).disp 2).raw then (s.modDisp 2 Display.padFlips).modDisp 2 Display.hpdSeen
  else s.modDisp 2 Display.padFlips

theorem State.hpdFlips_onlyIn (s : State) : OnlyIn [.displays] s s.hpdFlips :=
  .ite ((s.modDisp_onlyIn _ _).trans (State.modDisp_onlyIn _ _ _)) (s.modDisp_onlyIn _ _)

theorem disp_hpdFlips (hx : s.displays[2]? = some x) :
    (s.hpdFlips.disp 2).raw = (!x.raw) ∧
    (s.hpdFlips.disp 2).step = if x.raw = false ∧ x.step = .waitHpd then .waitLink else x.step := by
  have flips := getElem?_modDisp Display.padFlips hx
  unfold State.hpdFlips
  rw [disp_of flips]
  cases raw : x.raw with
  | false =>
    rw [if_pos (by simp [Display.padFlips, raw]), disp_modDisp _ flips, Display.hpdSeen_raw, Display.hpdSeen_step]
    simp [Display.padFlips, raw]
  | true =>
    rw [if_neg (by simp [Display.padFlips, raw]), disp_of flips]
    simp [Display.padFlips, raw]

theorem detectPadChange_hpd (hx : s.displays[2]? = some x) (on : s.portsOn = true) :
    Gives (.detectPadChange .hpd) s (fun t =>
      (t.disp 2).raw = (!x.raw) ∧
      (t.disp 2).step = (if x.raw = false ∧ x.step = .waitHpd then .waitLink else x.step) ∧
      OnlyIn [.regs, .displays, .mem, .sch] s t) := by
  have change : s.padChange .hpd = s.hpdFlips.hwFlag 5 := if_neg (by simp [on])
  refine Gives.intro (t := (s.padChange .hpd).settle) rfl ?_
  rw [change]
  have flag := s.hpdFlips.hwFlag_onlyIn 5
  obtain ⟨raw, step⟩ := disp_hpdFlips hx
  rw [State.settle_disp, State.disp_congr (flag.displays_eq (by decide))]
  exact ⟨raw, step, ((s.hpdFlips_onlyIn.mono (by decide)).step flag (by decide)).settle⟩

/-- The raw pad of a camera toggles. -/
def CsiPort.padFlips (c : CsiPort) : CsiPort := { c with rawDet := !c.rawDet }

theorem detectPadChange_cam {p : Nat} {c : CsiPort} (hp : p < 4) (hc : s.csi[p]? = some c) (on : s.portsOn = true) :
    Gives (.detectPadChange (.cam p)) s (fun t =>
      t.csiPort p = { c with rawDet := !c.rawDet } ∧ OnlyIn [.regs, .csi, .mem, .sch] s t) := by
  have change : s.padChange (.cam p) = (s.modCsi p CsiPort.padFlips).hwFlag 5 := if_neg (by simp [on])
  refine Gives.onUnit (u := s.padChange (.cam p)) rfl hp ?_
  rw [change]
  have flag := (s.modCsi p CsiPort.padFlips).hwFlag_onlyIn 5
  rw [State.settle_csiPort, State.csiPort_congr (flag.csi_eq (by decide)), csiPort_modCsi _ hc]
  exact ⟨rfl, (((s.modCsi_onlyIn _ _).mono (by decide)).step flag (by decide)).settle⟩

/-! Retraining and training (R296, R300). -/

/-- The display retrains its link. -/
def Display.retrains (x : Display) : Display := { x with retrain := true }

theorem State.irq_linked (hx : s.displays[2]? = some x) (on : x.step.linked = true) :
    s.irq true = (s.modDisp 2 Display.retrains).bump DSP_RETRAIN_COUNT 2 :=
  if_pos (by rw [disp_of hx, on]; rfl)

theorem State.irq_unlinked (hx : s.displays[2]? = some x) (off : x.step.linked = false) : s.irq true = s :=
  if_neg (by rw [disp_of hx, off]; decide)

theorem irqHpd_retrains (hx : s.displays[2]? = some x) (on : x.step.linked = true) :
    Gives (.irqHpd true) s (fun t =>
      t.disp 2 = { x with retrain := true } ∧ t.rd DSP_RETRAIN_COUNT 2 = bump32 (s.rd DSP_RETRAIN_COUNT 2) ∧
      OnlyIn [.regs, .displays] s t) := by
  refine Gives.intro (t := (s.irq true).settle) rfl ?_
  rw [State.irq_linked hx on, State.settle_rd, State.rd_bump_same]
  exact ⟨disp_modDisp Display.retrains hx, rfl,
    (((s.modDisp_onlyIn _ _).mono (by decide)).step (State.bump_onlyIn _ _ _) (by decide)).settle⟩

/-- The link of the display has trained. -/
def Display.trained (l r : Nat) (x : Display) : Display := { x with trLanes := l, trRate := r, retrain := false, dark := false }

/-- The link of the display has not trained: it stays dark. -/
def Display.untrained (x : Display) : Display := { x with dark := true, retrain := false, scans := false, step := .training }

theorem State.trainingEnd_idle (hx : s.displays[2]? = some x) (h : x.step ≠ .training) (once : x.retrain = false)
    (trained : List (Nat × Nat)) : s.trainingEnd trained = s :=
  if_pos (by rw [disp_of hx]; exact ⟨h, once⟩)

theorem trainingRuns (hx : s.displays[2]? = some x) (h : x.step = .training ∨ x.retrain = true) :
    ¬ ((s.disp 2).step ≠ .training ∧ (s.disp 2).retrain = false) := by
  rw [disp_of hx]
  rintro ⟨off, once⟩
  exact h.elim off (by simp [once])

theorem State.trainingEnd_none (hx : s.displays[2]? = some x) (h : x.step = .training ∨ x.retrain = true)
    {trained : List (Nat × Nat)} (fails : s.trainedAs 2 trained = none) :
    s.trainingEnd trained = (s.modDisp 2 Display.untrained).raiseI 0x0B02 { source := 2 } := by
  unfold State.trainingEnd
  dsimp only
  rw [if_neg (trainingRuns hx h), fails]
  rfl

theorem State.trainingEnd_first (hx : s.displays[2]? = some x) (h : x.step = .training) (once : x.retrain = false)
    {trained : List (Nat × Nat)} {l r : Nat} (trains : s.trainedAs 2 trained = some (l, r)) :
    s.trainingEnd trained = (s.modDisp 2 (Display.trained l r)).linkOn 2 := by
  unfold State.trainingEnd
  dsimp only
  rw [if_neg (trainingRuns hx (.inl h)), trains, disp_of hx, once]
  rfl

theorem State.trainingEnd_again (hx : s.displays[2]? = some x) (again : x.retrain = true)
    {trained : List (Nat × Nat)} {l r : Nat} (trains : s.trainedAs 2 trained = some (l, r)) :
    s.trainingEnd trained = (s.modDisp 2 (Display.trained l r)).raiseI 0x0B03 { source := 2 } := by
  unfold State.trainingEnd
  dsimp only
  rw [if_neg (trainingRuns hx (.inr again)), trains, disp_of hx, again]
  rfl

/-- The first frame of the display is waited for. -/
def Display.linkRuns (ps : Nat) (x : Display) : Display := { x with step := .waitVideo, since := ps }

theorem linkTrainingEnd_first (hx : s.displays[2]? = some x) (h : x.step = .training) (once : x.retrain = false)
    {trained : List (Nat × Nat)} {l r : Nat} (trains : s.trainedAs 2 trained = some (l, r)) :
    Gives (.linkTrainingEnd trained) s (fun t =>
      (t.disp 2).step = .waitVideo ∧ (t.disp 2).trLanes = l ∧ (t.disp 2).trRate = r ∧ (t.disp 2).dark = false ∧
      OnlyIn [.displays] s t) := by
  refine Gives.intro (t := (s.trainingEnd trained).settle) rfl ?_
  have runs : (s.modDisp 2 (Display.trained l r)).linkOn 2 =
      (s.modDisp 2 (Display.trained l r)).modDisp 2 (Display.linkRuns s.clock.ps) := rfl
  rw [State.trainingEnd_first hx h once trains, runs, State.settle_disp, disp_modDisp _ (getElem?_modDisp _ hx)]
  exact ⟨rfl, rfl, rfl, rfl, ((s.modDisp_onlyIn _ _).trans (State.modDisp_onlyIn _ _ _)).settle⟩

theorem linkTrainingEnd_none (hx : s.displays[2]? = some x) (h : x.step = .training ∨ x.retrain = true)
    {trained : List (Nat × Nat)} (fails : s.trainedAs 2 trained = none) :
    Gives (.linkTrainingEnd trained) s (fun t =>
      (t.disp 2).step = .training ∧ (t.disp 2).dark = true ∧ (t.disp 2).scans = false ∧ bitAt (t.fstat 11) 1 = true ∧
      OnlyIn [.regs, .hif, .displays, .log, .guard] s t) := by
  refine Gives.intro (t := (s.trainingEnd trained).settle) rfl ?_
  have raised := (s.modDisp 2 Display.untrained).raiseI_onlyIn 0x0B02 { source := 2 }
  rw [State.trainingEnd_none hx h fails, State.settle_disp, State.disp_congr (raised.displays_eq (by decide)),
    disp_modDisp _ hx]
  exact ⟨rfl, rfl, rfl, State.raiseI_sets _ 0x0B02 _,
    (((s.modDisp_onlyIn _ _).mono (by decide)).step raised (by decide)).settle⟩

theorem linkTrainingEnd_again (hx : s.displays[2]? = some x) (again : x.retrain = true)
    {trained : List (Nat × Nat)} {l r : Nat} (trains : s.trainedAs 2 trained = some (l, r)) :
    Gives (.linkTrainingEnd trained) s (fun t =>
      (t.disp 2).step = x.step ∧ (t.disp 2).retrain = false ∧ bitAt (t.fstat 11) 2 = true ∧
      OnlyIn [.regs, .hif, .displays, .log, .guard] s t) := by
  refine Gives.intro (t := (s.trainingEnd trained).settle) rfl ?_
  have raised := (s.modDisp 2 (Display.trained l r)).raiseI_onlyIn 0x0B03 { source := 2 }
  rw [State.trainingEnd_again hx again trains, State.settle_disp, State.disp_congr (raised.displays_eq (by decide)),
    disp_modDisp _ hx]
  exact ⟨rfl, rfl, State.raiseI_sets _ 0x0B03 _,
    (((s.modDisp_onlyIn _ _).mono (by decide)).step raised (by decide)).settle⟩

/-! The hold (R291). -/

theorem OnlyIn.cmp {ps : List Part} {r : State} (h : OnlyIn ps r s) {y : Cmp} (hp : Part.cmp ∈ ps) :
    OnlyIn ps r { s with cmp := y } :=
  h.trans fun p => by cases p <;> first | exact .inr rfl | exact .inl hp

theorem State.hold_idle (h : s.cmp.holdFrom = none ∨ s.guard.safe = true) : s.hold = s := by
  unfold State.hold
  split
  · rfl
  · next t ht => exact if_pos (h.resolve_left (by simp [ht]))

/-- The state in which the missing flip is reported. -/
def State.holdDue (s : State) (since : Nat) : State := (s.advanceTo (1000 * (since + 2 * 10 ^ 9))).raiseI 0x0A04

theorem State.holdDue_onlyIn (s : State) (since : Nat) : OnlyIn [.regs, .clock, .hif, .log, .guard] s (s.holdDue since) :=
  ((s.advanceTo_onlyIn _).mono (by decide)).step (State.raiseI_onlyIn _ _ _) (by decide)

theorem State.le_holdDue (s : State) (since : Nat) : 1000 * (since + 2 * 10 ^ 9) ≤ (s.holdDue since).clock.ps := by
  rw [State.holdDue, (State.raiseI_onlyIn _ _ _).clock_eq (by decide)]
  exact s.le_advanceTo _

/-- Every display that scans out is held. -/
def State.holdsNow (s : State) : State :=
  { s with cmp := { s.cmp with holdFrom := none, holding := (List.range 3).filter (fun d => (s.disp d).scans) } }

theorem State.hold_due {since : Nat} (h : s.cmp.holdFrom = some since) (on : s.guard.safe = false) :
    s.hold = (s.holdDue since).holdsNow := by
  unfold State.hold
  rw [h]
  exact if_neg (by simp [on])

theorem holdTimeout_holds {since : Nat} (h : s.cmp.holdFrom = some since) (on : s.guard.safe = false) :
    Gives .holdTimeout s (fun t =>
      t.cmp.holdFrom = none ∧ t.cmp.holding = (List.range 3).filter (fun k => (s.disp k).scans) ∧
      1000 * (since + 2 * 10 ^ 9) ≤ t.clock.ps ∧ bitAt (t.fstat 10) 3 = true ∧
      OnlyIn [.regs, .clock, .hif, .cmp, .log, .guard] s t) := by
  refine Gives.intro (t := s.hold.settle) rfl ?_
  have only := s.holdDue_onlyIn since
  have scans : (List.range 3).filter (fun k => ((s.holdDue since).disp k).scans) =
      (List.range 3).filter (fun k => (s.disp k).scans) := by
    simp only [State.disp_congr (only.displays_eq (by decide))]
  rw [State.hold_due h on, State.settle_cmp, State.settle_clock, State.settle_fstat]
  exact ⟨rfl, scans, s.le_holdDue since, State.raiseI_sets _ 0x0A04 _,
    ((only.mono (by decide)).cmp (by decide)).settle⟩

/-- Where the stream ports do not work, nothing is detected. -/
theorem panels_off (hd : d < 3) (off : s.portsOn = false) :
    (∀ edid w h, exec (.panelDetectAssert d edid w h) s = .next s.settle) ∧
    exec (.panelDepart d) s = .next s.settle ∧ ∀ pad : DetectPad, exec (.detectPadChange pad) s = .next s.settle := by
  refine ⟨fun edid w h => ?_, ?_, fun pad => ?_⟩
  · exact exec_onUnit_same (u := s.panelArrives d edid w h) rfl hd (if_pos off)
  · exact exec_onUnit_same (u := s.panelLeaves d) rfl hd (if_pos (.inl off))
  · have same : s.padChange pad = s := if_pos off
    have unit (n count : Nat) : onUnit n count s (s.padChange pad) = .next s.settle := by
      rw [same, onUnit, ite_self]
      rfl
    cases pad with
    | cam p => exact unit p 4
    | panel d => exact unit d 2
    | hpd => exact congrArg done same

/-- Settles O41, by what each command makes of its display; a retraining keeps its step, and a training goes on to video. -/
theorem panelsComeAndGo : Obligations.PanelsComeAndGo := by
  unfold Obligations.PanelsComeAndGo
  intro s d x hd hx
  refine ⟨panels_off hd, fun edid w h on => ⟨fun id new absent free => ?_, fun id here => ?_⟩, fun absent => ?_,
    panelDepart_leaves hd hx, fun lvds on => detectPadChange_panel lvds hx on, ?_, ?_, ?_, rfl, ?_, ?_, ?_,
    fun p c hp hc on => detectPadChange_cam hp hc on, fun idle => congrArg done (State.hold_idle idle),
    fun since h on => holdTimeout_holds h on⟩
  · exact panelDetectAssert_new hd hx on edid w h new absent free
  · exact panelDetectAssert_again hd hx on edid w h here
  · exact exec_onUnit_same (u := s.panelLeaves d) rfl hd (if_pos (.inr (by rw [disp_of hx]; exact absent)))
  · rintro rfl on
    exact detectPadChange_hpd hx on
  · rintro rfl on
    exact irqHpd_retrains hx on
  · rintro rfl off
    exact congrArg done (State.irq_unlinked hx off)
  · rintro trained rfl once
    exact ⟨fun h => congrArg done (State.trainingEnd_idle hx h once trained),
      fun l r h trains => linkTrainingEnd_first hx h once trains⟩
  · rintro trained rfl h fails
    exact linkTrainingEnd_none hx h fails
  · rintro trained l r rfl again trains
    exact linkTrainingEnd_again hx again trains

end Sys2Proof.Machine
end

section
namespace Sys2Proof.Machine

/-! A received frame: what its reception has changed when its packet is judged (R188, R210). -/

variable {ps : List Part} {s t u : State} {m f : Nat} {x : EthFrame}

theorem OnlyIn.eth_eq (h : OnlyIn ps s t) (hp : Part.eth ∉ ps) : t.eth = s.eth := (h .eth).resolve_left hp

theorem OnlyIn.flows_eq (h : OnlyIn ps s t) (hp : Part.flows ∉ ps) : t.flows = s.flows := (h .flows).resolve_left hp

theorem State.setFlow_onlyIn (s : State) (f : Nat) (x : Flow) : OnlyIn [.flows] s (s.setFlow f x) :=
  (OnlyIn.refl _ s).flows (by decide)

theorem State.modEth_onlyIn (s : State) (m : Nat) (f : EthPort → EthPort) : OnlyIn [.eth] s (s.modEth m f) := by
  intro p; cases p <;> first | exact .inr rfl | exact .inl (by decide)

theorem State.flow_congr (h : t.flows = s.flows) (f : Nat) : t.flow f = s.flow f := by rw [State.flow, h, State.flow]

@[simp] theorem State.settle_flow (s : State) (f : Nat) : s.settle.flow f = s.flow f := rfl

/-- The frame is stamped at its start-of-frame delimiter. -/
def State.stamped (s : State) (m : Nat) (x : EthFrame) : State :=
  s.modEth m (fun e => { e with rxStamp := s.stamp m (1000 * x.sfd) })

/-- A whole frame has been counted. -/
def State.received (s : State) (m : Nat) (x : EthFrame) : State := (s.stamped m x).bump64 ETH_RX_FRAME_COUNT m

theorem State.stamped_onlyIn (s : State) (m : Nat) (x : EthFrame) : OnlyIn [.eth] s (s.stamped m x) := s.modEth_onlyIn _ _

theorem State.received_onlyIn (s : State) (m : Nat) (x : EthFrame) : OnlyIn [.regs, .eth] s (s.received m x) :=
  ((s.stamped_onlyIn m x).mono (by decide)).step (State.bump64_onlyIn _ _ _ _) (by decide)

/-- Its reception changes no register but the count of frames. -/
theorem State.rd_received {d : RegDef} {i j : Nat} (lo : d.at i j ≠ ETH_RX_FRAME_COUNT.at m)
    (hi : d.at i j ≠ ETH_RX_FRAME_COUNT.at m + 4) : (s.received m x).rd d i j = s.rd d i j :=
  congrArg BitVec.toNat ((s.stamped m x).setCnt64_other _ _ _ _ _ lo hi)

/-- A register of the filters is no count of received frames. -/
theorem State.rd_received_filter (hm : m < 2) {d : RegDef} {i j : Nat} (h : 0x48000 ≤ d.off) :
    (s.received m x).rd d i j = s.rd d i j := by
  have off : 0x48000 ≤ d.at i j := h.trans ((Nat.le_add_right _ _).trans (Nat.le_add_right _ _))
  have count : ETH_RX_FRAME_COUNT.at m + 4 < 0x48000 := by simp only [RegDef.at, ETH_RX_FRAME_COUNT]; omega
  exact State.rd_received (by omega) (by omega)

/-- Nor is a setting of a port. -/
theorem State.rd_received_port {d : RegDef} (h : d.off < 0x40040 ∧ d.stride = 0x100 ∧ d.stride2 = 0) :
    (s.received m x).rd d m = s.rd d m := by
  obtain ⟨off, stride, stride2⟩ := h
  apply State.rd_received <;> simp only [RegDef.at, ETH_RX_FRAME_COUNT, stride, stride2] <;> omega

theorem State.macTakes_received (hm : m < 2) (dst : Nat) : (s.received m x).macTakes m dst = s.macTakes m dst := by
  have hi := State.rd_received_port (s := s) (m := m) (x := x) (d := ETH_MAC_HI) (by decide)
  have lo := State.rd_received_port (s := s) (m := m) (x := x) (d := ETH_MAC_LO) (by decide)
  have ctl := fun f => State.rd_received_filter (s := s) (x := x) hm (d := TRF_FLOW_CTL) (i := f) (j := 0) (by decide)
  have dip := fun f => State.rd_received_filter (s := s) (x := x) hm (d := TRF_FLOW_DIP) (i := f) (j := 0) (by decide)
  have ptp := State.rd_received_filter (s := s) (x := x) hm (d := TRF_PTP_CTL) (i := m) (j := 0) (by decide)
  simp only [State.macTakes, State.stationMac, State.flowEnabled, State.flag, State.fld, hi, lo, ctl, dip, ptp]

theorem State.flowMatches_received (hm : m < 2) (p : Packet) : (s.received m x).flowMatches m p = s.flowMatches m p := by
  have ip := State.rd_received_port (s := s) (m := m) (x := x) (d := ETH_IP) (by decide)
  have ctl := fun f => State.rd_received_filter (s := s) (x := x) hm (d := TRF_FLOW_CTL) (i := f) (j := 0) (by decide)
  have dip := fun f => State.rd_received_filter (s := s) (x := x) hm (d := TRF_FLOW_DIP) (i := f) (j := 0) (by decide)
  have udp := fun f => State.rd_received_filter (s := s) (x := x) hm (d := TRF_FLOW_UDP) (i := f) (j := 0) (by decide)
  have sip := fun f => State.rd_received_filter (s := s) (x := x) hm (d := TRF_FLOW_SIP) (i := f) (j := 0) (by decide)
  funext f
  simp only [State.flowMatches, State.flowOn, State.flowEnabled, State.flag, State.fld, ip, ctl, dip, udp, sip]

/-! The checks in order (R188). -/

theorem State.ethReceive_off (h : s.macOn m = false ∨ (s.ethPort m).link = false) : s.ethReceive m x = s := if_pos h

section
variable (works : s.macOn m = true) (up : (s.ethPort m).link = true)
include works up

theorem State.ethReceive_on : ¬ (s.macOn m = false ∨ (s.ethPort m).link = false) := by simp [works, up]

theorem State.ethReceive_overrun (h : x.overrun = true) :
    s.ethReceive m x = ((s.stamped m x).bump ETH_RX_OVERRUN_COUNT m).raiseI 0x0602 { source := m } := by
  unfold State.ethReceive
  rw [if_neg (State.ethReceive_on works up)]
  exact if_pos h

theorem State.ethReceive_damaged (h : x.overrun = false) (bad : x.fcsError = true ∨ 1518 < x.bytes.length) :
    s.ethReceive m x = (s.stamped m x).bump ETH_RX_FCS_ERR_COUNT m := by
  unfold State.ethReceive
  rw [if_neg (State.ethReceive_on works up)]
  exact (if_neg (by simp [h])).trans (if_pos (bad.imp id (by omega)))

/-- A whole frame is counted; then its destination address and its type are judged. -/
theorem State.ethReceive_whole (h : x.overrun = false) (fcs : x.fcsError = false) (len : x.bytes.length ≤ 1518) :
    s.ethReceive m x =
      if (s.received m x).macTakes m (beAt x.bytes 0 6) = false then (s.received m x).bump TRF_MAC_DROP_COUNT
      else if (packetOf x.bytes).ethertype = 0x0800 then (s.received m x).ipPacket m x (packetOf x.bytes)
      else (s.received m x).toHost m x := by
  have good : ¬ (x.fcsError = true ∨ 1522 < x.bytes.length + 4) := by
    rintro (bad | long)
    · simp [fcs] at bad
    · omega
  unfold State.ethReceive
  rw [if_neg (State.ethReceive_on works up)]
  exact (if_neg (by simp [h])).trans (if_neg good)

end

/-! Policing and the RTP checks (R191 to R193). -/

/-- What the packet of a flow has changed when it meets the bucket: frames and packets are counted, frames stamped. -/
def State.matched (s : State) (m : Nat) (x : EthFrame) (f : Nat) : State := (s.received m x).bump TRF_RX_PKT_COUNT f

theorem State.matched_onlyIn (s : State) (m : Nat) (x : EthFrame) (f : Nat) :
    OnlyIn [.regs, .eth] s (s.matched m x f) := (s.received_onlyIn m x).step (State.bump_onlyIn _ _ _) (by decide)

theorem State.rd_matched (hm : m < 2) {d : RegDef} {i j : Nat} (h : 0x48000 ≤ d.off)
    (other : d.at i j ≠ TRF_RX_PKT_COUNT.at f) : (s.matched m x f).rd d i j = s.rd d i j :=
  (State.rd_bump_other _ _ _ _ _ _ other).trans (State.rd_received_filter hm h)

/-- A setting of a filter is no count of packets. -/
theorem State.rd_matched_filter (hm : m < 2) (hf : f < 32) {d : RegDef} (h : 0x48000 ≤ d.off ∧ d.off < 0x48020 ∧
    d.stride = 0x20 ∧ d.stride2 = 0) : (s.matched m x f).rd d f = s.rd d f := by
  obtain ⟨lo, hi, stride, stride2⟩ := h
  exact State.rd_matched hm lo (by simp only [RegDef.at, TRF_RX_PKT_COUNT, stride, stride2]; omega)

theorem State.rd_matched_count (hm : m < 2) :
    (s.matched m x f).rd TRF_RX_PKT_COUNT f = bump32 (s.rd TRF_RX_PKT_COUNT f) := by
  rw [State.matched, State.rd_bump_same, State.rd_received_filter hm (by decide)]

theorem State.tokensNow_matched (hm : m < 2) (hf : f < 32) : (s.matched m x f).tokensNow f = s.tokensNow f := by
  have rate := State.rd_matched_filter (s := s) (x := x) hm hf (d := TRF_FLOW_RATE) (by decide)
  have bucket := State.rd_matched_filter (s := s) (x := x) hm hf (d := TRF_FLOW_BUCKET) (by decide)
  have flow : (s.matched m x f).flow f = s.flow f := rfl
  have now : (s.matched m x f).ktime = s.ktime := rfl
  simp only [State.tokensNow, State.fld, rate, bucket, flow, now]

theorem State.rtpOk_matched (hm : m < 2) (hf : f < 32) (r : Rtp) (len : Nat) (donl : Bool) :
    (s.matched m x f).rtpOk f r len donl = s.rtpOk f r len donl := by
  have ctl := State.rd_matched_filter (s := s) (x := x) hm hf (d := TRF_FLOW_CTL) (by decide)
  have ssrc := State.rd_matched_filter (s := s) (x := x) hm hf (d := TRF_FLOW_SSRC) (by decide)
  simp only [State.rtpOk, State.fld, State.flag, ctl, ssrc]

/-- The bucket of a flow after a packet, with its date. -/
def State.bucket (s : State) (f tokens : Nat) : State := s.setFlow f { s.flow f with tokens := tokens, tokenNs := s.ktime }

theorem State.bucket_onlyIn (s : State) (f tokens : Nat) : OnlyIn [.flows] s (s.bucket f tokens) := s.setFlow_onlyIn _ _

theorem State.police_drops {cost : Nat} (rate : s.fld TRF_FLOW_RATE 21 0 f ≠ 0) (dear : s.tokensNow f < cost * 10 ^ 9) :
    s.police f cost = ((s.bucket f (s.tokensNow f)).bump TRF_POL_DROP_COUNT f, false) := by
  unfold State.police
  rw [if_neg rate]
  exact if_neg (by omega)

theorem State.police_passes {cost : Nat} (rate : s.fld TRF_FLOW_RATE 21 0 f ≠ 0) (paid : cost * 10 ^ 9 ≤ s.tokensNow f) :
    s.police f cost = (s.bucket f (s.tokensNow f - cost * 10 ^ 9), true) := by
  unfold State.police
  rw [if_neg rate]
  exact if_pos paid

/-- The RTP checks do not see the bucket. -/
theorem State.rtpOk_bucket (s : State) (f tokens : Nat) : (s.bucket f tokens).rtpOk = s.rtpOk := rfl

theorem State.flowPacket_drops {p : Packet} {u : State} (h : (s.bump TRF_RX_PKT_COUNT f).police f p.totalLen = (u, false)) :
    s.flowPacket f p x = u := by
  unfold State.flowPacket
  dsimp only
  rw [h]

theorem State.flowPacket_noRtp {p : Packet} {u : State} (h : (s.bump TRF_RX_PKT_COUNT f).police f p.totalLen = (u, true))
    (bad : u.rtpOk f (rtpOf (p.udp.drop 8)) (p.udp.drop 8).length x.donl = false) :
    s.flowPacket f p x = u.bump TRF_RTP_ERR_COUNT := by
  unfold State.flowPacket
  dsimp only
  rw [h]
  exact if_neg (by rw [bad]; decide)

/-- A UDP packet that is no PTP message goes to the flow of the first filter that matches it. -/
theorem State.ipPacket_flow {p : Packet} (head : p.headerOk = true) (frag : p.fragment = false) (udp : p.isUdp = true)
    (ok : p.udpOk = true) (noPtp : s.flag TRF_PTP_CTL 0 m = false ∨ (p.dstPort ≠ 319 ∧ p.dstPort ≠ 320))
    (first : (List.range 32).find? (s.flowMatches m p) = some f) : s.ipPacket m x p = s.flowPacket f p x := by
  have other : ¬ (s.flag TRF_PTP_CTL 0 m = true ∧ (p.dstPort = 319 ∨ p.dstPort = 320)) := by
    rintro ⟨on, port⟩
    rcases noPtp with off | ⟨h319, h320⟩
    · simp [on] at off
    · exact port.elim h319 h320
  unfold State.ipPacket
  rw [if_neg (by simp [head]), if_neg (by simp [frag]), if_neg (by simp [udp]), if_neg other, if_neg (by simp [ok]), first]

end Sys2Proof.Machine
end

section
namespace Sys2Proof.Machine

/-! Received frames, clause by clause (R187 to R191, R210), and flows that fall silent (R172). -/

variable {s t u : State} {m f : Nat} {x : EthFrame}

/-- A command on a port whose state is known. -/
theorem ethFrameReceive_eq (hm : m < 2) (h : s.ethReceive m x = u) : exec (.ethFrameReceive m x) s = .next u.settle := by
  rw [← h]
  exact onUnit_lt s _ hm

section
variable (hm : m < 2) (works : s.macOn m = true) (up : (s.ethPort m).link = true)
include hm works up

theorem ethFrameReceive_overrun (h : x.overrun = true) : Gives (.ethFrameReceive m x) s (fun t =>
    t.rd ETH_RX_OVERRUN_COUNT m = bump32 (s.rd ETH_RX_OVERRUN_COUNT m) ∧ bitAt (t.fstat 6) 1 = true ∧
    t.eth = (s.stamped m x).eth ∧ OnlyIn [.regs, .hif, .eth, .log, .guard] s t) := by
  refine Gives.intro (ethFrameReceive_eq hm (State.ethReceive_overrun works up h)) ?_
  have raised := ((s.stamped m x).bump ETH_RX_OVERRUN_COUNT m).raiseI_onlyIn 0x0602 { source := m }
  have aside : ETH_RX_OVERRUN_COUNT.aside m := by
    simp only [RegDef.aside, RegDef.at, ETH_RX_OVERRUN_COUNT, KPR_LOG_LOST, GRD_REACT_COUNT]
    omega
  refine ⟨?_, State.raiseI_sets _ 0x0602 _, raised.eth_eq (by decide), ?_⟩
  · rw [State.settle_rd, (State.raiseI_aside _ _ _).2 aside, State.rd_bump_same]
    rfl
  · exact ((((s.stamped_onlyIn m x).mono (by decide)).step (State.bump_onlyIn _ _ _) (by decide)).step raised
      (by decide)).settle

section
variable (whole : x.overrun = false) (fcs : x.fcsError = false) (len : x.bytes.length ≤ 1518)
include whole fcs len

theorem ethFrameReceive_elsewhere (h : s.macTakes m (beAt x.bytes 0 6) = false) :
    exec (.ethFrameReceive m x) s = .next ((s.received m x).bump TRF_MAC_DROP_COUNT).settle := by
  refine ethFrameReceive_eq hm ((State.ethReceive_whole works up whole fcs len).trans (if_pos ?_))
  rw [State.macTakes_received hm, h]

section
variable (taken : s.macTakes m (beAt x.bytes 0 6) = true)
include taken

theorem ethReceive_taken : s.ethReceive m x =
    if (packetOf x.bytes).ethertype = 0x0800 then (s.received m x).ipPacket m x (packetOf x.bytes)
    else (s.received m x).toHost m x :=
  (State.ethReceive_whole works up whole fcs len).trans (if_neg (by simp [State.macTakes_received hm, taken]))

theorem ethFrameReceive_noIp (h : (packetOf x.bytes).ethertype ≠ 0x0800) :
    exec (.ethFrameReceive m x) s = .next ((s.received m x).toHost m x).settle :=
  ethFrameReceive_eq hm ((ethReceive_taken hm works up whole fcs len taken).trans (if_neg h))

section
variable (ip : (packetOf x.bytes).ethertype = 0x0800)
include ip

theorem ethReceive_ip : s.ethReceive m x = (s.received m x).ipPacket m x (packetOf x.bytes) :=
  (ethReceive_taken hm works up whole fcs len taken).trans (if_pos ip)

theorem ethFrameReceive_badHeader (h : (packetOf x.bytes).headerOk = false) :
    exec (.ethFrameReceive m x) s = .next ((s.received m x).bump TRF_IP_ERR_COUNT).settle :=
  ethFrameReceive_eq hm ((ethReceive_ip hm works up whole fcs len taken ip).trans (if_pos h))

variable (head : (packetOf x.bytes).headerOk = true)
include head

theorem ethFrameReceive_fragment (h : (packetOf x.bytes).fragment = true) :
    exec (.ethFrameReceive m x) s = .next ((s.received m x).bump TRF_FRAG_DROP_COUNT).settle := by
  refine ethFrameReceive_eq hm ((ethReceive_ip hm works up whole fcs len taken ip).trans ?_)
  unfold State.ipPacket
  rw [if_neg (by simp [head]), if_pos h]

variable (frag : (packetOf x.bytes).fragment = false)
include frag

theorem ethFrameReceive_noUdp (h : (packetOf x.bytes).isUdp = false) :
    exec (.ethFrameReceive m x) s = .next ((s.received m x).toHost m x).settle := by
  refine ethFrameReceive_eq hm ((ethReceive_ip hm works up whole fcs len taken ip).trans ?_)
  unfold State.ipPacket
  rw [if_neg (by simp [head]), if_neg (by simp [frag]), if_pos h]

section
variable (udp : (packetOf x.bytes).isUdp = true) (ok : (packetOf x.bytes).udpOk = true)
  (noPtp : s.flag TRF_PTP_CTL 0 m = false ∨ ((packetOf x.bytes).dstPort ≠ 319 ∧ (packetOf x.bytes).dstPort ≠ 320))
  (first : (List.range 32).find? (s.flowMatches m (packetOf x.bytes)) = some f)
include udp ok noPtp first

/-- The packet goes to the first filter that matches it. -/
theorem ethReceive_flow : s.ethReceive m x = (s.received m x).flowPacket f (packetOf x.bytes) x := by
  refine (ethReceive_ip hm works up whole fcs len taken ip).trans (State.ipPacket_flow head frag udp ok ?_ ?_)
  · rwa [State.flag, State.rd_received_filter hm (by decide)]
  · rwa [State.flowMatches_received hm]

variable (rate : s.fld TRF_FLOW_RATE 21 0 f ≠ 0)
include rate

theorem ethFrameReceive_policed (dear : s.tokensNow f < (packetOf x.bytes).totalLen * 10 ^ 9) :
    Gives (.ethFrameReceive m x) s (fun t =>
      (t.flow f).tokens = s.tokensNow f ∧ (t.flow f).tokenNs = s.ktime ∧ (t.flow f).expected = (s.flow f).expected ∧
      t.rd TRF_POL_DROP_COUNT f = bump32 (s.rd TRF_POL_DROP_COUNT f) ∧
      t.rd TRF_RX_PKT_COUNT f = bump32 (s.rd TRF_RX_PKT_COUNT f) ∧ t.eth = (s.stamped m x).eth ∧
      OnlyIn [.regs, .flows, .eth] s t) := by
  have hf : f < 32 := List.mem_range.mp (List.mem_of_find?_eq_some first)
  have now := State.tokensNow_matched (s := s) (x := x) hm hf
  have rates : (s.matched m x f).fld TRF_FLOW_RATE 21 0 f ≠ 0 := by
    rwa [State.fld, State.rd_matched_filter hm hf (by decide)]
  have drops := State.police_drops (s := s.matched m x f) rates (by rwa [now])
  rw [now] at drops
  refine Gives.intro (ethFrameReceive_eq hm ((ethReceive_flow hm works up whole fcs len taken ip head frag udp ok noPtp
    first).trans (State.flowPacket_drops drops))) ?_
  have flow : (((s.matched m x f).bucket f (s.tokensNow f)).bump TRF_POL_DROP_COUNT f).settle.flow f =
      { s.flow f with tokens := s.tokensNow f, tokenNs := s.ktime } := State.flow_setFlow_same _ _ _
  rw [flow, State.settle_rd, State.settle_rd, State.rd_bump_same, State.rd_bump_other _ _ _ _ _ _ (by
    simp only [RegDef.at, TRF_RX_PKT_COUNT, TRF_POL_DROP_COUNT]; omega)]
  refine ⟨rfl, rfl, rfl, congrArg bump32 (State.rd_matched hm (by decide) ?_), State.rd_matched_count hm, rfl, ?_⟩
  · simp only [RegDef.at, TRF_RX_PKT_COUNT, TRF_POL_DROP_COUNT]
    omega
  · exact ((((s.matched_onlyIn m x f).mono (by decide)).step (State.bucket_onlyIn _ _ _) (by decide)).step
      (State.bump_onlyIn _ _ _) (by decide)).settle

theorem ethFrameReceive_noRtp (paid : (packetOf x.bytes).totalLen * 10 ^ 9 ≤ s.tokensNow f)
    (bad : s.rtpOk f (rtpOf ((packetOf x.bytes).udp.drop 8)) ((packetOf x.bytes).udp.drop 8).length x.donl = false) :
    Gives (.ethFrameReceive m x) s (fun t =>
      (t.flow f).tokens + (packetOf x.bytes).totalLen * 10 ^ 9 = s.tokensNow f ∧ (t.flow f).tokenNs = s.ktime ∧
      t.rd TRF_RTP_ERR_COUNT = bump32 (s.rd TRF_RTP_ERR_COUNT) ∧
      t.rd TRF_RX_PKT_COUNT f = bump32 (s.rd TRF_RX_PKT_COUNT f) ∧ t.eth = (s.stamped m x).eth ∧
      OnlyIn [.regs, .flows, .eth] s t) := by
  have hf : f < 32 := List.mem_range.mp (List.mem_of_find?_eq_some first)
  have now := State.tokensNow_matched (s := s) (x := x) hm hf
  have rates : (s.matched m x f).fld TRF_FLOW_RATE 21 0 f ≠ 0 := by
    rwa [State.fld, State.rd_matched_filter hm hf (by decide)]
  have passes := State.police_passes (s := s.matched m x f) rates (by rwa [now])
  rw [now] at passes
  have noRtp : ((s.matched m x f).bucket f (s.tokensNow f - (packetOf x.bytes).totalLen * 10 ^ 9)).rtpOk f
      (rtpOf ((packetOf x.bytes).udp.drop 8)) ((packetOf x.bytes).udp.drop 8).length x.donl = false := by
    rw [State.rtpOk_bucket, State.rtpOk_matched hm hf, bad]
  refine Gives.intro (ethFrameReceive_eq hm ((ethReceive_flow hm works up whole fcs len taken ip head frag udp ok noPtp
    first).trans (State.flowPacket_noRtp passes noRtp))) ?_
  generalize (packetOf x.bytes).totalLen * 10 ^ 9 = cost at paid ⊢
  have flow : (((s.matched m x f).bucket f (s.tokensNow f - cost)).bump TRF_RTP_ERR_COUNT).settle.flow f =
      { s.flow f with tokens := s.tokensNow f - cost, tokenNs := s.ktime } := State.flow_setFlow_same _ _ _
  rw [flow, State.settle_rd, State.settle_rd, State.rd_bump_same, State.rd_bump_other _ _ _ _ _ _ (by
    simp only [RegDef.at, TRF_RX_PKT_COUNT, TRF_RTP_ERR_COUNT]; omega)]
  refine ⟨Nat.sub_add_cancel paid, rfl, congrArg bump32 (State.rd_matched hm (by decide) ?_), State.rd_matched_count hm,
    rfl, ?_⟩
  · simp only [RegDef.at, TRF_RX_PKT_COUNT, TRF_RTP_ERR_COUNT]
    omega
  · exact ((((s.matched_onlyIn m x f).mono (by decide)).step (State.bucket_onlyIn _ _ _) (by decide)).step
      (State.bump_onlyIn _ _ _) (by decide)).settle

end
end
end
end
end

/-! Silence (R172). -/

/-- The limit of a flow has passed since its last packet. -/
def State.silent (s : State) (f : Nat) : Prop :=
  s.ticks = true ∧ s.tick.number.toNat ≥ (s.flow f).lastTick + atLeast1 (s.fld ETH_SILENCE 15 0 f)

theorem State.flowSilent_idle (h : (s.flow f).expected = none ∨ ¬ s.silent f) : s.flowSilent f = s := by
  refine if_pos ?_
  rcases h with idle | soon
  · exact .inl (by simp [idle])
  · refine .inr (Classical.byContradiction fun late => soon ?_)
    rw [not_or, Bool.not_eq_false, not_lt] at late
    exact late

/-- The open unit of a flow is gone, and it waits for no packet. -/
def State.flowReset (s : State) (f : Nat) : State :=
  (s.dropOpen f).setFlow f { (s.dropOpen f).flow f with expected := none }

theorem State.dropOpen_onlyIn (s : State) (f : Nat) : OnlyIn [.flows, .bpm, .mem] s (s.dropOpen f) := by
  unfold State.dropOpen
  split
  · exact .refl _ _
  · exact ((s.setFlow_onlyIn _ _).mono (by decide)).step (State.returnCells_onlyIn _ _) (by decide)

theorem State.flow_dropOpen (s : State) (f : Nat) :
    (s.dropOpen f).flow f = { s.flow f with unit := none } ∧ ∀ k, k ≠ f → (s.dropOpen f).flow k = s.flow k := by
  unfold State.dropOpen
  split
  · next closed => exact ⟨by rw [← closed], fun _ _ => rfl⟩
  · next u _ =>
    have flows := ((s.setFlow f { s.flow f with unit := none }).returnCells_onlyIn u.cells).flows_eq (by decide)
    exact ⟨(State.flow_congr flows f).trans (State.flow_setFlow_same _ _ _),
      fun k hk => (State.flow_congr flows k).trans (State.flow_setFlow_other _ _ hk)⟩

theorem State.flowReset_onlyIn (s : State) (f : Nat) : OnlyIn [.flows, .bpm, .mem] s (s.flowReset f) :=
  (s.dropOpen_onlyIn f).step (State.setFlow_onlyIn _ _ _) (by decide)

theorem State.flow_flowReset (s : State) (f : Nat) :
    (s.flowReset f).flow f = { s.flow f with unit := none, expected := none } ∧
    ∀ k, k ≠ f → (s.flowReset f).flow k = s.flow k := by
  obtain ⟨same, other⟩ := s.flow_dropOpen f
  refine ⟨?_, fun k hk => (State.flow_setFlow_other _ _ hk).trans (other k hk)⟩
  rw [State.flowReset, same]
  exact State.flow_setFlow_same _ _ _

/-- The partner of the flow leaves, where it has one. -/
theorem State.flowSilent_due (runs : (s.flow f).expected.isSome = true) (due : s.silent f) :
    s.flowSilent f = (s.flowReset f).departAll [0x40 + f] := by
  obtain ⟨ticks, late⟩ := due
  unfold State.flowSilent
  dsimp only
  rw [if_neg, ← State.flowReset]
  · unfold State.departAll
    cases here : (s.flowReset f).atPort (0x40 + f) <;> simp [here]
  · rintro (idle | off | soon)
    · rw [Option.isNone_iff_eq_none] at idle
      simp [idle] at runs
    · simp [off] at ticks
    · omega

theorem flowSilenceTimeout_due (hf : f < 32) (runs : (s.flow f).expected.isSome = true) (due : s.silent f) :
    Gives (.flowSilenceTimeout f) s (fun t =>
      (t.flow f).expected = none ∧ (t.flow f).unit = none ∧ (t.flow f).tokens = (s.flow f).tokens ∧
      (∀ k, k ≠ f → t.flow k = s.flow k) ∧ OnlyIn [.regs, .hif, .chans, .partners, .flows, .mem, .bpm, .log] s t) := by
  refine Gives.onUnit (u := s.flowSilent f) rfl hf ?_
  rw [State.flowSilent_due runs due]
  have leaves := (s.flowReset f).departAll_onlyIn [0x40 + f]
  obtain ⟨same, other⟩ := s.flow_flowReset f
  have flow (k : Nat) : ((s.flowReset f).departAll [0x40 + f]).settle.flow k = (s.flowReset f).flow k :=
    State.flow_congr (leaves.flows_eq (by decide)) k
  rw [flow, same]
  exact ⟨rfl, rfl, rfl, fun k hk => (flow k).trans (other k hk),
    (((s.flowReset_onlyIn f).mono (by decide)).step leaves (by decide)).settle⟩

/-- Settles O35, check by check in the order of R188; what a frame has changed before a check leaves the check as it was. -/
theorem receivedFramesAreJudged : Obligations.ReceivedFramesAreJudged := by
  unfold Obligations.ReceivedFramesAreJudged
  refine ⟨fun s m x hm off => ethFrameReceive_eq hm (State.ethReceive_off off), fun s m x hm works up => ⟨?_, ?_, ?_⟩,
    fun s f hf => ⟨fun runs due => flowSilenceTimeout_due hf runs due, fun h => ?_⟩⟩
  · exact ethFrameReceive_overrun hm works up
  · exact fun h bad => ethFrameReceive_eq hm (State.ethReceive_damaged works up h bad)
  · intro whole fcs len
    refine ⟨ethFrameReceive_elsewhere hm works up whole fcs len, ethFrameReceive_noIp hm works up whole fcs len,
      fun taken ip => ⟨ethFrameReceive_badHeader hm works up whole fcs len taken ip,
        ethFrameReceive_fragment hm works up whole fcs len taken ip,
        ethFrameReceive_noUdp hm works up whole fcs len taken ip, fun f head frag udp ok noPtp first rate =>
          ⟨ethFrameReceive_policed hm works up whole fcs len taken ip head frag udp ok noPtp first rate,
            ethFrameReceive_noRtp hm works up whole fcs len taken ip head frag udp ok noPtp first rate⟩⟩⟩
  · exact exec_onUnit_same (u := s.flowSilent f) rfl hf (State.flowSilent_idle h)

end Sys2Proof.Machine
end

section
namespace Sys2Proof.Machine

/-! A create whose completion ring is none of the 64 (R121, R151). -/

/-- CHAN_CREATE of channel 0, HOST_DECODE, Critical, H.264 in ROW_LOCKSTEP, 512 × 512, two references, with a parsing reservation that no
floor holds. -/
def heavyCreateDesc : Desc :=
  descOf ([1] ++ List.replicate 15 0 ++ [2, 1, 0, 0, 2, 1, 0, 0, 0, 0, 0, 2, 0, 2, 2, 0, 255, 255, 255, 255])

/-- Its completion ring is number 3784, whose configuration register would stand at the offset of TCK_REFUSE_COUNT. -/
def refusedRingJob : Job := Job.blank 0 .host 0 3784 heavyCreateDesc 0 0

/-- A module in RUN and ACTIVE where `refusedRingJob` waits. TCK_REFUSE_COUNT is 15, which as a ring size is 32768; the ring holds
one entry. -/
def refusedRingState : State :=
  { State.reset with
    regs := [(TCK_REFUSE_COUNT.at 0, 15)]
    sys := { Sys.reset with bootStage := 7, cfg := .active }
    power := { Power.reset with mode := .run }
    bus := { Bus.reset with linkGen := 1, bme := true }
    hif := { Hif.reset with cqs := [(3784, { Cq.reset with pi := 1 })], jobs := [refusedRingJob] } }

theorem refusedRingState_ready : refusedRingState.postable refusedRingJob = true ∧
    refusedRingState.readyJob 0 0x01 = some refusedRingJob ∧ refusedRingState.classOk refusedRingJob.desc = true := by
  decide +kernel

theorem refusedRingState_takeable : refusedRingState.takeable 0 0x01 refusedRingJob :=
  have ⟨_, ready, class_⟩ := refusedRingState_ready
  ⟨ready, fun h => absurd h (by decide), class_, fun h => absurd h (by decide)⟩

/-- The checks of the create before that of the floor hold. -/
theorem refusedRingState_overFloor :
    refusedRingState.createOk (channelOf heavyCreateDesc.bytes 0x10 0) = true ∧
      refusedRingState.overFloor (channelOf heavyCreateDesc.bytes 0x10 0) = some 1 := by decide +kernel

/-- The refusal is counted, and with 16 in place of 15 the ring is full: the completion waits. -/
theorem refusedRingState_full : ((refusedRingState.chanCreate 0).cq 3784).pi = 1 := by decide +kernel

/-- Refutes O44: `postable` asks for room in the job's ring and leaves the ring's number open. The refused create of
`refusedRingState` counts in the register that the size of its ring is read from; the ring has no room then, and the job is not
completed (R119, R151). -/
theorem not_channelCreateOrRefuse : ¬ Obligations.ChannelCreateOrRefuse := by
  intro h
  obtain ⟨postable, -, -⟩ := refusedRingState_ready
  obtain ⟨ok, floor⟩ := refusedRingState_overFloor
  obtain ⟨create, -⟩ := h refusedRingState 0 refusedRingJob postable
  obtain ⟨-, free⟩ := create refusedRingState_takeable
  obtain ⟨-, refused, -⟩ := free (by decide) (by decide)
  obtain ⟨t, ht, -, -, pi, -⟩ := refused 1 ok floor
  have answer : exec (.chanCreate 0) refusedRingState = .next (refusedRingState.chanCreate 0).settle := rfl
  cases answer.symm.trans ht
  exact absurd (refusedRingState_full.symm.trans pi) (by decide)

end Sys2Proof.Machine
end

section
namespace Sys2Proof.Machine

/-! An encode whose completion ring has a number that no ring has (R258). -/

/-- A frame that is being coded, stopped by the guard window before its first row. Its completion ring is number 0x46D0, whose
configuration register would stand at the offset of ENC_CHAN_FRAME_COUNT_0. -/
def stoppedFrameJob : Job :=
  { Job.blank 0 .host 0 0x46D0 { descOf [] with opcode := 0x11 } 2 0 with
    phase := .admitted, ready := true, cut := true, settings := some (encoderOf [] 0 0) }

/-- A module in RUN and ACTIVE, in the work window, with `stoppedFrameJob` on the engines. Channel 0 has coded fifteen frames, which
as a ring size is 32768; the ring holds one entry. -/
def stoppedFrameState : State :=
  { State.reset with
    regs := [(ENC_CHAN_FRAME_COUNT.at 0, 15)]
    sys := { Sys.reset with bootStage := 7, cfg := .active }
    power := { Power.reset with mode := .run }
    bus := { Bus.reset with linkGen := 1, bme := true }
    tick := { Tick.reset with stopped := false, window := .work }
    hif := { Hif.reset with nextJob := 1, jobs := [stoppedFrameJob], cqs := [(0x46D0, { Cq.reset with pi := 1 })] } }

theorem stoppedFrameState_encoding :
    stoppedFrameState.encoding 0 = some (stoppedFrameJob, encoderOf [] 0 0) ∧
      stoppedFrameState.postable stoppedFrameJob = true := by decide +kernel

theorem stoppedFrameState_noExport (n : Nat) : (stoppedFrameState.chan n).exporting = none := rfl

/-- The frame is counted, and with 16 in place of 15 the ring is full: the ended job waits for room. -/
theorem stoppedFrameState_waits : ((stoppedFrameState.endEncode 0 ⟨0, 1⟩).job? 0).isSome = true := by decide +kernel

/-- Refutes O47: `postable` asks for room in the job's ring and leaves the ring's number open. In `stoppedFrameState` the ring's
size is read where the frame is counted, and the encode does not leave (R258). -/
theorem not_encodeJobsRunAndEnd : ¬ Obligations.EncodeJobsRunAndEnd := by
  intro h
  obtain ⟨encoding, postable⟩ := stoppedFrameState_encoding
  obtain ⟨-, ends⟩ := h.2.2 stoppedFrameState 0 _ _ encoding
  obtain ⟨t, ht, ⟨-, -, left⟩, -⟩ := (ends ⟨0, 1⟩).2 (.inl rfl) stoppedFrameState_noExport rfl postable
  have answer : exec (.encodeEnd 0 ⟨0, 1⟩) stoppedFrameState = .next (stoppedFrameState.endEncode 0 ⟨0, 1⟩).settle := rfl
  cases answer.symm.trans ht
  exact absurd stoppedFrameState_waits
    (by rw [show (stoppedFrameState.endEncode 0 ⟨0, 1⟩).job? 0 = none from left]; decide)

end Sys2Proof.Machine
end

section
namespace Sys2Proof.Machine

/-! A job ends with room for its completion, whatever the command has changed before (R119 to R121, R133). -/

variable {s t u : State} {id n : Nat} {j k : Job}

/-- From `s` to `u` nothing has changed on which the posting of a completion depends. -/
structure PostsAs (s u : State) : Prop where
  dma : u.canDma = s.canDma
  cq : ∀ n, u.cq n = s.cq n
  size : ∀ n, u.cqSize n = s.cqSize n
  tick : u.tick32 = s.tick32
  distrusted : u.distrusted = s.distrusted

namespace PostsAs

theorem refl (s : State) : PostsAs s s := ⟨rfl, fun _ => rfl, fun _ => rfl, rfl, rfl⟩

theorem trans (h : PostsAs s t) (k : PostsAs t u) : PostsAs s u where
  dma := k.dma.trans h.dma
  cq n := (k.cq n).trans (h.cq n)
  size n := (k.size n).trans (h.size n)
  tick := k.tick.trans h.tick
  distrusted := k.distrusted.trans h.distrusted

/-- Changes of jobs, channels, cells and memory that leave the completion rings as they were. -/
theorem of_onlyIn (h : OnlyIn [.hif, .chans, .mem, .bpm] s u) (cqs : u.hif.cqs = s.hif.cqs)
    (stopped : u.hif.linkStopped = s.hif.linkStopped) : PostsAs s u where
  dma := by
    unfold State.canDma State.canSend State.asleep State.isActive
    rw [h.bus_eq (by decide), h.power_eq (by decide), h.sys_eq (by decide), h.guard_eq (by decide), stopped]
  cq n := by rw [State.cq, cqs, State.cq]
  size n := by
    unfold State.cqSize State.fld
    rw [State.rd_congr (h.regs_eq (by decide))]
  tick := by rw [State.tick32, h.tick_eq (by decide), State.tick32]
  distrusted := by rw [State.distrusted, h.pwr_eq (by decide), State.distrusted]

/-- A count other than the settings of the completion rings. -/
theorem bump (s : State) {d : RegDef} {i : Nat} (apart : ∀ n, HIF_CQ_CFG.at n ≠ d.at i) : PostsAs s (s.bump d i) where
  dma := rfl
  cq _ := rfl
  size n := by
    unfold State.cqSize State.fld
    rw [State.rd_bump_other _ _ _ _ _ _ (apart n)]
  tick := rfl
  distrusted := rfl

theorem room (h : PostsAs s u) (n : Nat) : u.cqRoom n = s.cqRoom n := by
  rw [State.cqRoom, h.size, h.cq, State.cqRoom]

theorem estimatedNow (h : PostsAs s u) (j : Job) (status : Nat) : u.estimatedNow j status = s.estimatedNow j status := by
  rw [State.estimatedNow, h.distrusted, State.estimatedNow]

end PostsAs

/-! Channels stand when a completion is written that is no ENCODE's. -/

theorem State.writeCpl_chans (s : State) (n : Nat) (c : Cpl) (noEncode : c.opcode ≠ 0x11) :
    (s.writeCpl n c).chans = s.chans := by
  have noted (u : State) (pi : Nat) : u.noteRecord c pi = u := if_neg fun h => noEncode h.1
  unfold State.writeCpl
  dsimp only
  rw [noted]
  have counted (v : State) : (v.decBound (.completion n)).chans = v.chans :=
    (v.decBound_onlyIn _).chans_eq (by decide)
  split
  · exact ((State.signal_onlyIn _ n).chans_eq (by decide)).trans (counted _)
  · exact counted _

/-- What a job that can post its completion does: it is written and the job is gone. -/
theorem State.postJob_posts (c : Cpl) (flow : j.flow = none) (reserved : j.reserved = false) (dma : s.canDma = true)
    (room : s.cqRoom j.cq ≠ 0) : s.postJob j c = (s.writeCpl j.cq c).dropJob j.id := by
  rw [State.postJob, flow, reserved, s.postCpl_room j.cq c dma room]
  rfl

theorem State.postable_iff (s : State) (j : Job) : s.postable j = true ↔
    s.canDma = true ∧ j.flow = none ∧ j.reserved = false ∧ s.cqRoom j.cq ≠ 0 := by
  simp [State.postable, and_assoc]

/-- Statuses that count a completion nowhere or as an invalid descriptor: DONE, REFUSED_PAUSED, REFUSED_INVALID. -/
def plainStatus (status : Nat) : Prop := status = 0 ∨ status = 0x22 ∨ status = 0x23

theorem State.countCpl_plain (s : State) {status : Nat} (h : plainStatus status) :
    PostsAs s (s.countCpl status) ∧ OnlyIn [.regs] s (s.countCpl status) := by
  have apart (n : Nat) : HIF_CQ_CFG.at n ≠ HIF_INVALID_COUNT.at 0 := by
    simp only [RegDef.at, HIF_CQ_CFG, HIF_INVALID_COUNT]
    omega
  rcases h with rfl | rfl | rfl
  · exact ⟨.refl s, .refl _ s⟩
  · exact ⟨.refl s, .refl _ s⟩
  · exact ⟨PostsAs.bump s apart, s.bump_onlyIn _ _⟩

theorem State.postsAs_freeJobCells (s : State) (id status : Nat) : PostsAs s (s.freeJobCells id status) := by
  obtain ⟨cqs, stopped⟩ := s.freeJobCells_rings id status
  exact .of_onlyIn ((s.freeJobCells_onlyIn id status).mono (by decide)) cqs stopped

/-- All that the end of a job changes. -/
abbrev endParts : List Part := [.regs, .bus, .hif, .chans, .mem, .bpm, .sch, .log, .guard]

/-- The record of a job under which the firmware executes it: its class, and no cells yet. -/
def Job.taken (j : Job) (cls : Nat) (cells : List Nat) : Job := { j with cls := cls, cells := cells }

/-- A job that the firmware executes ends plainly: its one completion is in its ring, and it has left. -/
theorem endJob_spec {cls : Nat} {cells : List Nat} {e : End} (same : PostsAs s u)
    (found : u.job? id = some (j.taken cls cells)) (held : j.phase = .waiting ∨ j.phase = .executing)
    (posts : s.postable j = true) (plain : plainStatus e.status) :
    Ended s (u.endJob id e) j e ∧ OnlyIn endParts u (u.endJob id e) ∧
      (j.desc.opcode ≠ 0x11 → (u.endJob id e).chans = u.chans) := by
  obtain ⟨dma, flow, reserved, room⟩ := (s.postable_iff j).mp posts
  have freed := u.freeJobCells_onlyIn id e.status
  have after := same.trans (u.postsAs_freeJobCells id e.status)
  generalize hr : u.freeJobCells id e.status = r at freed after
  obtain ⟨counted, regs⟩ := r.countCpl_plain plain
  have there := after.trans counted
  generalize hv : r.countCpl e.status = v at counted regs there
  have ends : u.endJob id e = (v.writeCpl j.cq (({ j with estimated := s.estimatedNow j e.status }).cpl e)).dropJob j.id := by
    have estimated : u.estimatedNow (j.taken cls cells) e.status = s.estimatedNow j e.status := same.estimatedNow j e.status
    have posted : u.endJob id e = (v.postJob { j.taken cls [] with estimated := s.estimatedNow j e.status }
        (({ j with estimated := s.estimatedNow j e.status }).cpl e)) := by
      rw [← hv, ← hr, ← estimated]
      have phase : (j.taken cls cells).phase = .waiting ∨ (j.taken cls cells).phase = .executing := held
      unfold State.endJob
      rw [found]
      rcases phase with h | h <;> simp only [h] <;> rfl
    exact posted.trans (State.postJob_posts _ flow reserved (there.dma.trans dma) (by rw [there.room]; exact room))
  generalize hc : ({ j with estimated := s.estimatedNow j e.status }).cpl e = c at ends
  obtain ⟨newest, index⟩ := v.writeCpl_posted j.cq c
  have ring : ((v.writeCpl j.cq c).dropJob j.id).cq j.cq = (v.writeCpl j.cq c).cq j.cq := by
    rw [State.cq, State.dropJob_hif, ← State.cq]
  rw [there.tick] at newest
  rw [there.cq] at index
  rw [ends]
  refine ⟨⟨?_, ?_, State.job?_dropJob _ _⟩, ?_, fun other => ?_⟩
  · rw [ring, newest, hc]
  · rw [ring, index]
  · exact ((((OnlyIn.mono freed (by decide)).step regs (by decide)).step (v.writeCpl_onlyIn j.cq c) (by decide)).step
      (State.dropJob_onlyIn _ _) (by decide))
  · have kept := v.writeCpl_chans j.cq c (by rw [← hc]; exact other)
    rw [(State.dropJob_onlyIn _ _).chans_eq (by decide), kept, regs.chans_eq (by decide), freed.chans_eq (by decide)]

/-! The firmware takes a job up. -/

theorem readyJob_opcode {op : Nat} (h : s.readyJob id op = some j) : j.desc.opcode = op := by
  unfold State.readyJob at h
  split at h
  · exact absurd h nofun
  · next k _ =>
    split at h
    · next ready =>
      obtain rfl : k = j := Option.some.inj h
      simp only [Bool.and_eq_true, beq_iff_eq] at ready
      exact ready.1.1.1.2
    · exact absurd h nofun

/-- A job in the table that is changed in place stays under its number. -/
theorem job?_modJob {f : Job → Job} (same : ∀ j, (f j).id = j.id) (h : s.job? id = some j) :
    (s.modJob id f).job? id = some (f j) := by
  have num : j.id = id := by simpa using List.find?_some h
  have find (l : List Job) : (l.map (fun j => if j.id = id then f j else j)).find? (fun j => j.id == id) =
      (l.find? (fun j => j.id == id)).map f := by
    induction l with
    | nil => rfl
    | cons a l ih =>
      by_cases ha : a.id = id
      · simp [ha, same]
      · simp only [List.map_cons, if_neg ha]
        rw [List.find?_cons_of_neg (by simpa using ha), List.find?_cons_of_neg (by simpa using ha), ih]
  rw [State.job?] at h ⊢
  simp only [State.modJob, ← List.map_append]
  rw [find, h]
  rfl

/-- The state in which the firmware executes a job that it has taken up. -/
def State.takenUp (s : State) (id : Nat) (j : Job) : State :=
  (s.returnCells j.cells).modJob id (fun k => { k with cls := s.classFor j.desc, cells := [] })

theorem State.takenUp_onlyIn (s : State) (id : Nat) (j : Job) : OnlyIn [.hif, .bpm, .mem] s (s.takenUp id j) :=
  ((s.returnCells_onlyIn _).mono (by decide)).step (State.modJob_onlyIn _ _ _) (by decide)

theorem State.postsAs_takenUp (s : State) (id : Nat) (j : Job) : PostsAs s (s.takenUp id j) := by
  have hif : (s.returnCells j.cells).hif = s.hif := (s.returnCells_onlyIn _).hif_eq (by decide)
  have cqs := congrArg Hif.cqs hif
  have stopped := congrArg Hif.linkStopped hif
  exact .of_onlyIn ((s.takenUp_onlyIn id j).mono (by decide)) cqs stopped

theorem job?_takenUp (h : s.job? id = some j) : (s.takenUp id j).job? id = some (j.taken (s.classFor j.desc) []) := by
  have kept : (s.returnCells j.cells).job? id = some j := by
    rw [State.job?, (s.returnCells_onlyIn _).hif_eq (by decide), ← State.job?, h]
  exact job?_modJob (fun _ => rfl) kept

/-- A job that meets the checks of take-up is the action's own. -/
theorem takeJob_takeable {op : Nat} (f : Job → State → State) (h : s.takeable id op j) :
    s.takeJob id op f = f (j.taken (s.classFor j.desc) []) (s.takenUp id j) := by
  obtain ⟨ready, chan, cls, kind⟩ := h
  have there : ¬ (needsChannel op && !s.chanExists j.desc.channel) = true := by
    cases needs : needsChannel op with
    | false => simp
    | true => simp [chan needs]
  have suits : ¬ (op == 0x10 && !s.kindOk j.desc) = true := by
    by_cases decode : op = 0x10
    · simp [kind decode]
    · simp [decode]
  rw [State.takeJob_some f ready, if_neg there, if_neg (by simp [cls]), if_neg suits]
  rfl

/-- A job that the firmware has taken up ends plainly, after a change of its channel or without one. -/
theorem takenUp_ends {op : Nat} {v : State} {e : End} (takes : s.takeable id op j) (posts : s.postable j = true)
    (change : OnlyIn [.chans] (s.takenUp id j) v) (plain : plainStatus e.status) :
    Ended s (v.endJob id e) j e ∧ OnlyIn endParts s (v.endJob id e) ∧ (op ≠ 0x11 → (v.endJob id e).chans = v.chans) := by
  obtain ⟨ready, -⟩ := takes
  obtain ⟨found, waiting⟩ := State.readyJob_some ready
  have hif : v.hif = (s.takenUp id j).hif := change.hif_eq (by decide)
  have same : PostsAs (s.takenUp id j) v :=
    .of_onlyIn (change.mono (by decide)) (by rw [hif]) (by rw [hif])
  have there : v.job? id = some (j.taken (s.classFor j.desc) []) := by
    rw [State.job?, hif, ← State.job?, job?_takenUp found]
  obtain ⟨ended, only, chans⟩ := endJob_spec ((s.postsAs_takenUp id j).trans same) there (.inl waiting) posts plain
  refine ⟨ended, ?_, fun other => chans (by rwa [readyJob_opcode ready])⟩
  exact (((s.takenUp_onlyIn id j).mono (by decide)).step change (by decide)).step only (by decide)

end Sys2Proof.Machine
end

section
namespace Sys2Proof.Machine

/-! The channel jobs that act on one channel (R154 to R169). -/

variable {s t u v : State} {id n : Nat} {j : Job}

theorem State.setChan_onlyIn (s : State) (n : Nat) (c : Channel) : OnlyIn [.chans] s (s.setChan n c) :=
  (OnlyIn.refl _ s).chans (by decide)

theorem State.chan_congr (h : t.chans = s.chans) (n : Nat) : t.chan n = s.chan n := by rw [State.chan, h, State.chan]

theorem State.chan_takenUp (s : State) (id : Nat) (j : Job) (n : Nat) : (s.takenUp id j).chan n = s.chan n :=
  State.chan_congr ((s.takenUp_onlyIn id j).chans_eq (by decide)) n

@[simp] theorem State.settle_chan (s : State) (n : Nat) : s.settle.chan n = s.chan n := rfl

/-- Pads are no part of how a job has ended. -/
theorem Ended.settle {e : End} (h : Ended s t j e) : Ended s t.settle j e := h

/-- What a command that ends its job gives, for a command that leaves channel `n` as `v` has it. -/
theorem Gives.ends {op : Nat} {i : Instr} {e : End} (takes : s.takeable id op j) (posts : s.postable j = true)
    (other : op ≠ 0x11) (step : exec i s = .next (v.endJob id e).settle) (change : OnlyIn [.chans] (s.takenUp id j) v)
    (plain : plainStatus e.status) (n : Nat) :
    Gives i s (fun t => t.chan n = v.chan n ∧ Ended s t j e ∧ OnlyIn endParts s t) := by
  obtain ⟨ended, only, chans⟩ := takenUp_ends takes posts change plain
  exact Gives.intro step ⟨State.chan_congr (chans other) n, ended, only.settle⟩

/-! Pause and resume (R155, R156, R159, R160). -/

theorem State.tickFor_takenUp (s : State) (id : Nat) (j : Job) (x : Nat) : (s.takenUp id j).tickFor x = s.tickFor x := by
  have tick : (s.takenUp id j).tick = s.tick := (s.takenUp_onlyIn id j).tick_eq (by decide)
  rw [State.tickFor, State.tickDiff, State.tick32, tick, State.tickFor, State.tickDiff, State.tick32]

theorem chanPause_pauses (posts : s.postable j = true) (takes : s.takeable id 0x03 j)
    (runs : (s.chan j.desc.channel).state ≠ 3 ∧ (s.chan j.desc.channel).pause = none) :
    Gives (.chanPause id) s (fun t =>
      t.chan j.desc.channel = { s.chan j.desc.channel with
        pause := some { job := id, start := (s.tickFor (j.u32 0x10)).1, duration := j.u32 0x14 } } ∧
      Ended s t j { status := 0, detail := b2n ((s.tickFor (j.u32 0x10)).2 && j.u32 0x10 != 0),
                    result := (s.tickFor (j.u32 0x10)).1 % 2 ^ 32 } ∧ OnlyIn endParts s t) := by
  generalize hc : { s.chan j.desc.channel with
    pause := some { job := id, start := (s.tickFor (j.u32 0x10)).1, duration := j.u32 0x14 } } = c
  have pauses : s.chanPause id = ((s.takenUp id j).setChan j.desc.channel c).endJob id
      { status := 0, detail := b2n ((s.tickFor (j.u32 0x10)).2 && j.u32 0x10 != 0),
        result := (s.tickFor (j.u32 0x10)).1 % 2 ^ 32 } := by
    rw [State.chanPause, takeJob_takeable _ takes]
    have chan : (s.takenUp id j).chan (j.taken (s.classFor j.desc) []).desc.channel = s.chan j.desc.channel :=
      s.chan_takenUp id j _
    have first : (s.takenUp id j).tickFor ((j.taken (s.classFor j.desc) []).u32 0x10) = s.tickFor (j.u32 0x10) :=
      s.tickFor_takenUp id j _
    dsimp only
    rw [State.modChan, chan, first, if_neg (by simp [runs]), ← hc]
    rfl
  have gives := Gives.ends (i := .chanPause id) takes posts (by decide) (congrArg done pauses)
    (State.setChan_onlyIn _ _ c) (.inl rfl) j.desc.channel
  rwa [State.chan_setChan_same] at gives

/-- What a command that changes no channel gives when it ends its job. -/
theorem Gives.endsAlone {op : Nat} {i : Instr} {e : End} (takes : s.takeable id op j) (posts : s.postable j = true)
    (other : op ≠ 0x11) (step : exec i s = .next ((s.takenUp id j).endJob id e).settle) (plain : plainStatus e.status)
    (n : Nat) : Gives i s (fun t => t.chan n = s.chan n ∧ Ended s t j e ∧ OnlyIn endParts s t) := by
  have gives := Gives.ends takes posts other step (.refl _ _) plain n
  rwa [s.chan_takenUp] at gives

theorem chanPause_refused (posts : s.postable j = true) (takes : s.takeable id 0x03 j)
    (held : (s.chan j.desc.channel).state = 3 ∨ (s.chan j.desc.channel).pause.isSome = true) :
    Gives (.chanPause id) s (fun t => t.chan j.desc.channel = s.chan j.desc.channel ∧
      Ended s t j { status := 0x23, reason := 0x52 } ∧ OnlyIn endParts s t) := by
  have refuses : s.chanPause id = (s.takenUp id j).endJob id { status := 0x23, reason := 0x52 } := by
    rw [State.chanPause, takeJob_takeable _ takes]
    have chan : (s.takenUp id j).chan (j.taken (s.classFor j.desc) []).desc.channel = s.chan j.desc.channel :=
      s.chan_takenUp id j _
    dsimp only
    rw [chan, if_pos held]
    rfl
  exact Gives.endsAlone (i := .chanPause id) takes posts (by decide) (congrArg done refuses) (.inr (.inr rfl)) _

/-- What RESUME ends: nothing, a pause, or a pause that is to begin. -/
def Channel.resumes (c : Channel) : Nat := if c.state = 3 then 1 else if c.pause.isSome then 2 else 0

theorem chanResume_resumes (posts : s.postable j = true) (takes : s.takeable id 0x04 j) :
    Gives (.chanResume id) s (fun t =>
      t.chan j.desc.channel = (if (s.chan j.desc.channel).resumes = 0 then s.chan j.desc.channel
        else { s.chan j.desc.channel with resume := some id }) ∧
      Ended s t j { status := 0, detail := (s.chan j.desc.channel).resumes } ∧ OnlyIn endParts s t) := by
  have chan : (s.takenUp id j).chan (j.taken (s.classFor j.desc) []).desc.channel = s.chan j.desc.channel :=
    s.chan_takenUp id j _
  by_cases none : (s.chan j.desc.channel).resumes = 0
  · have resumes : s.chanResume id = (s.takenUp id j).endJob id
        { status := 0, detail := (s.chan j.desc.channel).resumes } := by
      rw [State.chanResume, takeJob_takeable _ takes]
      dsimp only
      rw [chan, ← Channel.resumes, if_pos none]
      rfl
    rw [if_pos none]
    exact Gives.endsAlone (i := .chanResume id) takes posts (by decide) (congrArg done resumes) (.inl rfl) _
  · have resumes : s.chanResume id = ((s.takenUp id j).setChan j.desc.channel
        { s.chan j.desc.channel with resume := some id }).endJob id
        { status := 0, detail := (s.chan j.desc.channel).resumes } := by
      rw [State.chanResume, takeJob_takeable _ takes]
      dsimp only
      rw [chan, ← Channel.resumes, if_neg none]
      rfl
    rw [if_neg none]
    have gives := Gives.ends (i := .chanResume id) takes posts (by decide) (congrArg done resumes)
      (State.setChan_onlyIn _ _ _) (.inl rfl) j.desc.channel
    rwa [State.chan_setChan_same] at gives

/-! Bind and destroy (R154, R162). -/

theorem State.bindOk_congr (h : t.partners = s.partners) : t.bindOk = s.bindOk := by
  funext kind mode ref gen
  simp only [State.bindOk, State.isPresent, State.partner, h]

theorem chanBind_eq (takes : s.takeable id 0x07 j) :
    s.chanBind id = if s.bindOk (s.chan j.desc.channel).kind (j.u8 0x10) (j.u8 0x11) (j.u8 0x12) then
      ((s.takenUp id j).setChan j.desc.channel { s.chan j.desc.channel with
        binds := (s.chan j.desc.channel).binds ++ [(id, j.u8 0x10, j.u8 0x11, j.u8 0x12)] }).endJob id { status := 0 }
      else (s.takenUp id j).endJob id { status := 0x23, reason := 0x51 } := by
  have chan : (s.takenUp id j).chan (j.taken (s.classFor j.desc) []).desc.channel = s.chan j.desc.channel :=
    s.chan_takenUp id j _
  have bindOk : (s.takenUp id j).bindOk = s.bindOk :=
    State.bindOk_congr ((s.takenUp_onlyIn id j).partners_eq (by decide))
  rw [State.chanBind, takeJob_takeable _ takes]
  dsimp only
  rw [State.modChan, chan, bindOk]
  rfl

theorem chanBind_binds (posts : s.postable j = true) (takes : s.takeable id 0x07 j)
    (ok : s.bindOk (s.chan j.desc.channel).kind (j.u8 0x10) (j.u8 0x11) (j.u8 0x12) = true) :
    Gives (.chanBind id) s (fun t =>
      t.chan j.desc.channel = { s.chan j.desc.channel with
        binds := (s.chan j.desc.channel).binds ++ [(id, j.u8 0x10, j.u8 0x11, j.u8 0x12)] } ∧
      Ended s t j { status := 0 } ∧ OnlyIn endParts s t) := by
  have gives := Gives.ends (i := .chanBind id) takes posts (by decide)
    (congrArg done ((chanBind_eq takes).trans (if_pos ok))) (State.setChan_onlyIn _ _ _) (.inl rfl) j.desc.channel
  rwa [State.chan_setChan_same] at gives

theorem chanBind_refused (posts : s.postable j = true) (takes : s.takeable id 0x07 j)
    (bad : s.bindOk (s.chan j.desc.channel).kind (j.u8 0x10) (j.u8 0x11) (j.u8 0x12) = false) :
    Gives (.chanBind id) s (fun t => t.chan j.desc.channel = s.chan j.desc.channel ∧
      Ended s t j { status := 0x23, reason := 0x51 } ∧ OnlyIn endParts s t) :=
  Gives.endsAlone (i := .chanBind id) takes posts (by decide)
    (congrArg done ((chanBind_eq takes).trans (if_neg (by rw [bad]; decide)))) (.inr (.inr rfl)) _

/-- The record of a job that the firmware executes over time. -/
def Job.executed (j : Job) : Job := { j with phase := .executing }

/-- The job that the firmware has taken up goes on until an edge or a boundary. -/
def State.underway (s : State) (id : Nat) (j : Job) : State := (s.takenUp id j).modJob id Job.executed

theorem State.underway_onlyIn (s : State) (id : Nat) (j : Job) : OnlyIn [.hif, .bpm, .mem] s (s.underway id j) :=
  (s.takenUp_onlyIn id j).step (State.modJob_onlyIn _ _ _) (by decide)

theorem phase_underway (h : s.job? id = some j) : ((s.underway id j).job? id).map (·.phase) = some .executing := by
  rw [State.underway, job?_modJob (f := Job.executed) (fun _ => rfl) (job?_takenUp h)]
  rfl

theorem chanDestroy_closes (takes : s.takeable id 0x02 j) :
    Gives (.chanDestroy id) s (fun t =>
      t.chan j.desc.channel = { s.chan j.desc.channel with closing := (s.chan j.desc.channel).closing ++ [id] } ∧
      (t.job? id).map (·.phase) = some .executing ∧ OnlyIn [.hif, .chans, .bpm, .mem] s t) := by
  have only := s.underway_onlyIn id j
  have chan : (s.underway id j).chan j.desc.channel = s.chan j.desc.channel :=
    State.chan_congr (only.chans_eq (by decide)) _
  have closes : s.chanDestroy id = (s.underway id j).setChan j.desc.channel
      { s.chan j.desc.channel with closing := (s.chan j.desc.channel).closing ++ [id] } := by
    rw [State.chanDestroy, takeJob_takeable _ takes, ← chan]
    rfl
  obtain ⟨ready, -⟩ := takes
  refine Gives.intro (congrArg done closes) ⟨?_, phase_underway (State.readyJob_some ready).1, ?_⟩
  · rw [State.settle_chan, State.chan_setChan_same]
  · exact ((only.mono (by decide)).step (State.setChan_onlyIn _ _ _) (by decide)).settle

/-! Export (R166 to R169). -/

/-- What a channel that waits for its boundary holds of its CHAN_EXPORT. -/
def State.exportOrder (s : State) (id : Nat) (j : Job) : Nat × Nat × Bool :=
  (id, s.tick.number.toNat + atLeast1 (j.u16 0x1C), bitAt (j.u8 0x1E) 0)

/-- The channel waits for its boundary. -/
def State.exportOrdered (s : State) (id : Nat) (j : Job) : State :=
  (s.underway id j).setChan j.desc.channel
    { s.chan j.desc.channel with exporting := some (s.exportOrder id j) }

theorem State.exportOrdered_onlyIn (s : State) (id : Nat) (j : Job) :
    OnlyIn [.hif, .chans, .bpm, .mem] s (s.exportOrdered id j) :=
  ((s.underway_onlyIn id j).mono (by decide)).step (State.setChan_onlyIn _ _ _) (by decide)

/-- A refresh that is asked of a flow leaves the channels as they are. -/
theorem State.refreshFlow_onlyIn (s : State) (f lost : Nat) : OnlyIn [.regs, .hif, .flows, .log] s (s.refreshFlow f lost) := by
  unfold State.refreshFlow
  exact .ite (((s.event_onlyIn _ _ _).mono (by decide)).flows (by decide)) (.refl _ _)

theorem State.refresh_flow {f : Nat} (h : s.chanFlow n = some f) (lost : Nat) : s.refresh n lost = s.refreshFlow f lost := by
  rw [State.refresh, h]

/-- Where the channel takes its frames from a flow, a refresh is asked for. -/
def State.exportAsked (s : State) (n : Nat) : State :=
  if (s.chan n).kind = kindCoded ∧ (s.chanFlow n).isSome = true then s.refresh n s.tick32 else s

theorem State.exportAsked_onlyIn (s : State) (n : Nat) : OnlyIn [.regs, .hif, .flows, .log] s (s.exportAsked n) := by
  unfold State.exportAsked
  split
  · next asked =>
    obtain ⟨f, hf⟩ := Option.isSome_iff_exists.mp asked.2
    rw [State.refresh_flow hf]
    exact s.refreshFlow_onlyIn f _
  · exact .refl _ s

theorem State.job?_event (s : State) (code source : Nat) (data : List Nat) (id : Nat) :
    (s.event code source data).job? id = s.job? id := by
  obtain ⟨due, hif⟩ := State.event_hif s code source data
  rw [State.job?, hif, State.job?]

theorem State.job?_refreshFlow (s : State) (f lost id : Nat) : (s.refreshFlow f lost).job? id = s.job? id := by
  have asked (x : Table Flow) (p : Prop) [Decidable p] :
      (if p then { s.event 0x40 f (leNats 4 lost) with flows := x } else s).job? id = s.job? id := by
    split
    · exact s.job?_event _ _ _ id
    · rfl
  exact asked _ _

/-- The request leaves every job as it was. -/
theorem State.job?_exportAsked (s : State) (n id : Nat) : (s.exportAsked n).job? id = s.job? id := by
  unfold State.exportAsked
  split
  · next asked =>
    obtain ⟨f, hf⟩ := Option.isSome_iff_exists.mp asked.2
    rw [State.refresh_flow hf]
    exact s.job?_refreshFlow f _ id
  · rfl

section
variable (posts : s.postable j = true) (takes : s.takeable id 0x05 j)
include takes

theorem chanExport_eq : s.chanExport id =
    if (s.chan j.desc.channel).state = 3 then (s.takenUp id j).endJob id { status := 0x22 }
    else if (s.chan j.desc.channel).exporting.isSome then (s.takenUp id j).endJob id { status := 0x23, reason := 0x55 }
    else (s.exportOrdered id j).exportAsked j.desc.channel := by
  have chan : (s.takenUp id j).chan (j.taken (s.classFor j.desc) []).desc.channel = s.chan j.desc.channel :=
    s.chan_takenUp id j _
  have tick : (s.takenUp id j).tick = s.tick := (s.takenUp_onlyIn id j).tick_eq (by decide)
  have ordered : ((s.underway id j).modChan j.desc.channel
      (fun c => { c with exporting := some (s.exportOrder id j) })) = s.exportOrdered id j := by
    rw [State.modChan, State.chan_congr ((s.underway_onlyIn id j).chans_eq (by decide))]
    rfl
  have kind : ((s.exportOrdered id j).chan j.desc.channel).kind = (s.chan j.desc.channel).kind := by
    rw [State.exportOrdered, State.chan_setChan_same]
  rw [State.chanExport, takeJob_takeable _ takes, State.exportAsked, kind, ← ordered]
  dsimp only
  rw [chan, tick]
  rfl

include posts in
theorem chanExport_paused (paused : (s.chan j.desc.channel).state = 3) : Gives (.chanExport id) s (fun t =>
    t.chan j.desc.channel = s.chan j.desc.channel ∧ Ended s t j { status := 0x22 } ∧ OnlyIn endParts s t) :=
  Gives.endsAlone (i := .chanExport id) takes posts (by decide)
    (congrArg done ((chanExport_eq takes).trans (if_pos paused))) (.inr (.inl rfl)) _

include posts in
theorem chanExport_second (runs : (s.chan j.desc.channel).state ≠ 3)
    (busy : (s.chan j.desc.channel).exporting.isSome = true) : Gives (.chanExport id) s (fun t =>
      t.chan j.desc.channel = s.chan j.desc.channel ∧ Ended s t j { status := 0x23, reason := 0x55 } ∧
      OnlyIn endParts s t) :=
  Gives.endsAlone (i := .chanExport id) takes posts (by decide)
    (congrArg done ((chanExport_eq takes).trans ((if_neg runs).trans (if_pos busy)))) (.inr (.inr rfl)) _

theorem chanExport_waits (runs : (s.chan j.desc.channel).state ≠ 3)
    (idle : (s.chan j.desc.channel).exporting = none) : Gives (.chanExport id) s (fun t =>
      (t.chan j.desc.channel).exporting = some (s.exportOrder id j) ∧
      (t.chan j.desc.channel).pause = (s.chan j.desc.channel).pause ∧
      (t.job? id).map (·.phase) = some .executing ∧ OnlyIn [.regs, .hif, .chans, .flows, .mem, .bpm, .log] s t) := by
  have waits : s.chanExport id = (s.exportOrdered id j).exportAsked j.desc.channel :=
    (chanExport_eq takes).trans ((if_neg runs).trans (if_neg (by simp [idle])))
  have ordered := s.exportOrdered_onlyIn id j
  have asked := (s.exportOrdered id j).exportAsked_onlyIn j.desc.channel
  refine Gives.intro (congrArg done waits) ?_
  rw [State.settle_chan, State.chan_congr (asked.chans_eq (by decide)), State.exportOrdered, State.chan_setChan_same]
  refine ⟨rfl, rfl, ?_, ((ordered.mono (by decide)).step asked (by decide)).settle⟩
  have job : (((s.exportOrdered id j).exportAsked j.desc.channel).settle.job? id) = (s.underway id j).job? id :=
    (s.exportOrdered id j).job?_exportAsked j.desc.channel id
  obtain ⟨ready, -⟩ := takes
  rw [← State.exportOrdered, job]
  exact phase_underway (State.readyJob_some ready).1

end

/-! The boundary at which CHAN_EXPORT acts, and its limit. -/

/-- What ends the CHAN_EXPORT of a channel: it is gone, and with PAUSE_AFTER the channel pauses from the next edge. -/
def Channel.exported (c : Channel) (id start : Nat) (pause : Bool) : Channel :=
  { c with exporting := none, pause := if pause then some { job := id, start := start, duration := 0 } else c.pause }

/-- The state in which a CHAN_EXPORT ends: its image is written. -/
def State.imageWritten (s : State) (n id : Nat) (j : Job) (pause : Bool) : State :=
  (s.hostWrite (j.u64 0x10) (s.exportImage n)).setChan n ((s.chan n).exported id (s.tick.number.toNat + 1) pause)

theorem State.imageWritten_onlyIn (s : State) (n id : Nat) (j : Job) (pause : Bool) :
    OnlyIn [.mem, .chans] s (s.imageWritten n id j pause) :=
  ((s.hostWrite_onlyIn _ _).mono (by decide)).step (State.setChan_onlyIn _ _ _) (by decide)

/-- A job under way ends plainly, after changes of memory and channels that leave it as it was. -/
theorem underway_ends {e : End} (found : s.job? id = some j) (executing : j.phase = .executing)
    (posts : s.postable j = true) (change : OnlyIn [.mem, .chans] s v) (plain : plainStatus e.status)
    (other : j.desc.opcode ≠ 0x11) (n : Nat) :
    (v.endJob id e).chan n = v.chan n ∧ Ended s (v.endJob id e) j e ∧ OnlyIn endParts s (v.endJob id e) := by
  have hif : v.hif = s.hif := change.hif_eq (by decide)
  have same : PostsAs s v := .of_onlyIn (change.mono (by decide)) (by rw [hif]) (by rw [hif])
  have there : v.job? id = some (j.taken j.cls j.cells) := by
    rw [State.job?, hif, ← State.job?, found]
    rfl
  obtain ⟨ended, only, chans⟩ := endJob_spec same there (.inr executing) posts plain
  exact ⟨State.chan_congr (chans other) n, ended, (change.mono (by decide)).step only (by decide)⟩

section
variable {lim : Nat} {pause : Bool} (order : (s.chan n).exporting = some (id, lim, pause))
include order

theorem exportNow_eq (found : s.job? id = some j) (dma : s.canDma = true) :
    s.exportNow n = (s.imageWritten n id j pause).endJob id { status := 0, result := (s.exportImage n).length } := by
  have written : (s.hostWrite (j.u64 0x10) (s.exportImage n)).modChan n
      (fun c => c.exported id (s.tick.number.toNat + 1) pause) = s.imageWritten n id j pause := rfl
  rw [State.exportNow, order]
  dsimp only
  rw [found, ← written]
  dsimp only
  rw [if_pos dma]
  rfl

theorem exportTimeout_eq (late : lim ≤ s.tick.number.toNat) :
    s.exportTimeout n = (s.setChan n { s.chan n with exporting := none }).endJob id
      { status := 0x23, reason := 0x53 } := by
  rw [State.exportTimeout, order]
  exact if_pos late

section
variable (hn : n < 32) (found : s.job? id = some j) (executing : j.phase = .executing) (export_ : j.desc.opcode = 0x05)
  (posts : s.postable j = true)
include hn found executing export_ posts

theorem exportPoint_exports (runs : s.fwRuns = true) (state : (s.chan n).state = 1) (opens : (s.chan n).closing = [])
    (boundary : s.atBoundary n = true) : Gives (.exportPoint n) s (fun t =>
      (t.chan n).exporting = none ∧
      (t.chan n).pause = (if pause = true then some { job := id, start := s.tick.number.toNat + 1, duration := 0 }
        else (s.chan n).pause) ∧
      Ended s t j { status := 0, result := (s.exportImage n).length } ∧ OnlyIn endParts s t) := by
  obtain ⟨dma, -⟩ := (s.postable_iff j).mp posts
  have due : s.exportPoint n = s.exportNow n := by
    rw [State.exportPoint, if_pos runs, State.exportDue, if_pos]
    simp [State.chanExists, hn, state, opens, boundary]
  have exports := due.trans (exportNow_eq order found dma)
  obtain ⟨chan, ended, only⟩ := underway_ends found executing posts (s.imageWritten_onlyIn n id j pause)
    (e := { status := 0, result := (s.exportImage n).length }) (.inl rfl) (by rw [export_]; decide) n
  refine Gives.onUnit (u := s.exportPoint n) rfl hn ?_
  rw [exports, State.settle_chan, chan, State.imageWritten, State.chan_setChan_same]
  exact ⟨rfl, rfl, ended, only.settle⟩

theorem exportTimeout_ends (late : lim ≤ s.tick.number.toNat) : Gives (.exportTimeout n) s (fun t =>
    t.chan n = { s.chan n with exporting := none } ∧ Ended s t j { status := 0x23, reason := 0x53 } ∧
    OnlyIn endParts s t) := by
  obtain ⟨chan, ended, only⟩ := underway_ends found executing posts
    ((s.setChan_onlyIn n { s.chan n with exporting := none }).mono (by decide))
    (e := { status := 0x23, reason := 0x53 }) (.inr (.inr rfl)) (by rw [export_]; decide) n
  refine Gives.onUnit (u := s.exportTimeout n) rfl hn ?_
  rw [exportTimeout_eq order late, State.settle_chan, chan, State.chan_setChan_same]
  exact ⟨rfl, ended, only.settle⟩

end

theorem exportTimeout_waits (hn : n < 32) (soon : s.tick.number.toNat < lim) :
    exec (.exportTimeout n) s = .next s.settle := by
  refine exec_onUnit_same (u := s.exportTimeout n) rfl hn ?_
  rw [State.exportTimeout, order]
  exact if_neg (by omega)

end

theorem exportPoint_waits (hn : n < 32)
    (away : s.fwRuns = false ∨ (s.chan n).state ≠ 1 ∨ (s.chan n).closing ≠ [] ∨ s.atBoundary n = false) :
    exec (.exportPoint n) s = .next s.settle := by
  refine exec_onUnit_same (u := s.exportPoint n) rfl hn ?_
  unfold State.exportPoint
  split
  · next runs =>
    refine if_neg fun due => ?_
    simp only [Bool.and_eq_true, decide_eq_true_eq] at due
    obtain ⟨⟨⟨_, state⟩, opens⟩, boundary⟩ := due
    rcases away with off | paused | closing | between
    · simp [runs] at off
    · exact paused state
    · exact closing opens
    · simp [boundary] at between
  · rfl

theorem export_idle (hn : n < 32) (idle : (s.chan n).exporting = none) :
    exec (.exportPoint n) s = .next s.settle ∧ exec (.exportTimeout n) s = .next s.settle := by
  have now : s.exportNow n = s := by rw [State.exportNow, idle]
  refine ⟨exec_onUnit_same (u := s.exportPoint n) rfl hn ?_, exec_onUnit_same (u := s.exportTimeout n) rfl hn ?_⟩
  · rw [State.exportPoint, State.exportDue, now, ite_self, ite_self]
  · rw [State.exportTimeout, idle]

/-- Settles O45: each job is taken up, changes its one channel, and ends or waits; no completion of these changes a channel. -/
theorem channelJobsTakeEffect : Obligations.ChannelJobsTakeEffect := by
  unfold Obligations.ChannelJobsTakeEffect
  refine ⟨fun s id j posts => ⟨fun takes => ⟨chanPause_pauses posts takes, chanPause_refused posts takes⟩,
    chanResume_resumes posts, fun takes => ⟨chanBind_binds posts takes, chanBind_refused posts takes⟩,
    chanDestroy_closes, fun takes => ⟨chanExport_paused posts takes, chanExport_second posts takes,
      chanExport_waits takes⟩, fun lim pause order hn found executing export_ => ⟨?_, ?_, ?_, ?_⟩⟩,
    fun s n hn idle => export_idle hn idle⟩
  · exact exportPoint_exports order hn found executing export_ posts
  · exact exportPoint_waits hn
  · exact exportTimeout_ends order hn found executing export_ posts
  · exact exportTimeout_waits order hn

end Sys2Proof.Machine
end

section
namespace Sys2Proof.Machine

/-! What a frame that reaches the channels leaves alone of the ports, with all that may follow it: completions, exports,
lost cells, and the Class M restart of a wrong check word. -/

theorem RegDef.le_at (d : RegDef) (i j : Nat) : d.off ≤ d.at i j := (Nat.le_add_right _ _).trans (Nat.le_add_right _ _)

namespace PortsKept

variable {r s t : State}

/-- A counter of a block behind the ports. -/
theorem bumpBehind {d : RegDef} {i : Nat} (h : PortsKept r s) (hd : 0x40000 ≤ d.off) : PortsKept r (s.bump d i) :=
  h.bump (.inr (hd.trans (d.le_at i 0)))

/-! Memories, vectors and the dispatcher. -/

theorem hostWrite {a : Nat} {bs : List Byte} (h : PortsKept r s) : PortsKept r (s.hostWrite a bs) := h.upd rfl rfl rfl rfl
theorem putEntry {x : RingAt} {pi : Nat} {e : List Byte} (h : PortsKept r s) : PortsKept r (s.putEntry x pi e).1 :=
  h.hostWrite
theorem signal {v : Nat} (h : PortsKept r s) : PortsKept r (s.signal v) :=
  h.of_onlyIn (s.signal_onlyIn v) (by decide) (by decide) (by decide) (by decide)
theorem setThread {n : Nat} {x : Thread} (h : PortsKept r s) : PortsKept r (s.setThread n x) := h.upd rfl rfl rfl rfl
theorem setCore {n : Nat} {x : Core} (h : PortsKept r s) : PortsKept r (s.setCore n x) := h.upd rfl rfl rfl rfl

theorem trace {a b c d : Nat} {e : Option Nat} {f : Thread} (h : PortsKept r s) : PortsKept r (s.trace a b c d e f) := by
  have lost : PortsKept r (s.bump SCH_TRACE_LOST_COUNT) := h.bump (by decide)
  have dram (a : Nat) (bs : List Byte) : PortsKept r (s.dramWrite a bs) := h.upd rfl rfl rfl rfl
  unfold State.trace
  exact ite (upd (ite (ite (dram _ _) lost) (ite h.hostWrite lost)) rfl rfl rfl rfl) h

theorem markReady {n : Nat} (h : PortsKept r s) : PortsKept r (s.markReady n) := h.setThread.trace
theorem runOn {n c : Nat} (h : PortsKept r s) : PortsKept r (s.runOn n c) := h.setThread.setCore.bump64 (by decide)

theorem dispatchOn {c : Nat} (h : PortsKept r s) : PortsKept r (s.dispatchOn c) := by
  unfold State.dispatchOn
  refine ite ?_ h
  split
  · exact h
  · exact h.runOn.trace

theorem dispatch (h : PortsKept r s) : PortsKept r s.dispatch := h.foldl fun _ _ _ h => h.dispatchOn

theorem preempt {m n : Nat} (h : PortsKept r s) : PortsKept r (State.preempt m s n) := by
  induction m generalizing s n with
  | zero => exact h
  | succ m ih =>
    unfold State.preempt
    refine ite ?_ h
    split
    · exact h
    · exact ite (ih (h.setThread.setCore.runOn.bump (by decide)).trace.dispatch) h

theorem seatThreads {l : List Nat} (h : PortsKept r s) : PortsKept r (s.seatThreads l) :=
  (h.ite h.dispatch).foldl fun _ _ _ h => h.preempt

theorem countDown {acc : State × List Nat} {n : Nat} (h : PortsKept r acc.1) : PortsKept r (State.countDown acc n).1 := by
  obtain ⟨s, ready⟩ := acc
  unfold State.countDown
  dsimp only
  split
  · exact h
  · split
    · split
      · exact raiseI (bump h (by decide))
      · exact setThread h
    · split
      · exact (setThread h).markReady
      · exact setThread h

theorem decBound {b : Bound} (h : PortsKept r s) : PortsKept r (s.decBound b) :=
  (h.foldl_fst fun _ _ h => h.countDown).seatThreads

theorem raiseFlags {f : Word} {acc : State × List Nat} {n : Nat} (h : PortsKept r acc.1) :
    PortsKept r (State.raiseFlags f acc n).1 := by
  obtain ⟨s, ready⟩ := acc
  unfold State.raiseFlags
  dsimp only
  split
  · exact h
  · split
    · exact (setThread h).markReady
    · exact setThread h

theorem hwFlag {b : Nat} (h : PortsKept r s) : PortsKept r (s.hwFlag b) :=
  (h.foldl_fst fun _ _ h => h.raiseFlags).seatThreads

/-! Completions. -/

theorem returnCell {c : Nat} (h : PortsKept r s) : PortsKept r (s.returnCell c) :=
  h.of_onlyIn (s.returnCell_onlyIn c) (by decide) (by decide) (by decide) (by decide)
theorem returnCells {l : List Nat} (h : PortsKept r s) : PortsKept r (s.returnCells l) :=
  h.of_onlyIn (s.returnCells_onlyIn l) (by decide) (by decide) (by decide) (by decide)
theorem dropJob {n : Nat} (h : PortsKept r s) : PortsKept r (s.dropJob n) :=
  h.of_onlyIn (s.dropJob_onlyIn n) (by decide) (by decide) (by decide) (by decide)
theorem leaveEngines {n : Nat} (h : PortsKept r s) : PortsKept r (s.leaveEngines n) := h.upd rfl rfl rfl rfl
theorem modJob {n : Nat} {f : Job → Job} (h : PortsKept r s) : PortsKept r (s.modJob n f) := h.upd rfl rfl rfl rfl
theorem freeJobCells {n st : Nat} (h : PortsKept r s) : PortsKept r (s.freeJobCells n st) := (h.ite h.returnCells).modJob
theorem setCq {n : Nat} {q : Cq} (h : PortsKept r s) : PortsKept r (s.setCq n q) := h.upd rfl rfl rfl rfl
theorem setChan {n : Nat} {c : Channel} (h : PortsKept r s) : PortsKept r (s.setChan n c) := h.upd rfl rfl rfl rfl
theorem modChan {n : Nat} {f : Channel → Channel} (h : PortsKept r s) : PortsKept r (s.modChan n f) := h.setChan
theorem noteRecord {c : Cpl} {pi : Nat} (h : PortsKept r s) : PortsKept r (s.noteRecord c pi) :=
  h.of_onlyIn (s.noteRecord_onlyIn c pi) (by decide) (by decide) (by decide) (by decide)

theorem writeCpl {n : Nat} {c : Cpl} (h : PortsKept r s) : PortsKept r (s.writeCpl n c) := by
  have entry : PortsKept r (s.putEntry (s.cqAt n) (s.cq n).pi (c.bytes 0 s.tick32)).1 := h.putEntry
  have counted := entry.bump64 (d := HIF_CPL_POST_COUNT) (i := 0) (n := 1) (by decide)
  have written := (counted.decBound (b := .completion n)).noteRecord (c := c) (pi := (s.cq n).pi)
  exact ite written.setCq.signal written.setCq

theorem postCpl {n : Nat} {c : Cpl} {rsv : Bool} (h : PortsKept r s) : PortsKept r (s.postCpl n c rsv).1 := by
  generalize hp : s.postCpl n c rsv = p
  unfold State.postCpl at hp
  split at hp
  · exact hp ▸ h
  · split at hp
    · exact hp ▸ h.bump (by decide)
    · extract_lets q kept at hp
      have hkept : PortsKept r kept := h.setCq.ite h
      split at hp
      · exact hp ▸ hkept
      · exact hp ▸ hkept.writeCpl

theorem postJob {j : Job} {c : Cpl} (h : PortsKept r s) : PortsKept r (s.postJob j c) := by
  have posted := h.postCpl (n := j.cq) (c := c) (rsv := j.reserved)
  unfold State.postJob
  refine ite h.modJob ?_
  split
  · next e => rw [e] at posted; exact posted.dropJob
  · next e => rw [e] at posted; exact posted.dropJob
  · next e =>
    rw [e] at posted
    split
    · exact (posted.bump (by decide)).dropJob
    · exact posted.modJob
    · exact posted.modJob

theorem countCpl {st : Nat} (h : PortsKept r s) : PortsKept r (s.countCpl st) := by
  unfold State.countCpl
  split
  · exact h.bump (by decide)
  · exact h.bump (by decide)
  · exact h.bump (by decide)
  · exact h.bump (by decide)
  · exact h

theorem endJob {n : Nat} {e : End} (h : PortsKept r s) : PortsKept r (s.endJob n e) := by
  unfold State.endJob
  split
  · exact h
  · dsimp only
    split
    · exact h.freeJobCells
    · exact h.freeJobCells.countCpl.postJob
    · exact h.freeJobCells.countCpl.postJob
    · exact h.freeJobCells.leaveEngines.countCpl.decBound.postJob

/-! Cells. -/

theorem takeCell {c tag : Nat} (h : PortsKept r s) : PortsKept r (s.takeCell c tag).1 :=
  (h.upd rfl rfl rfl rfl : PortsKept r { s with fresh := s.fresh + 1, bpm := _ }).bumpBehind (by decide)

theorem allocFails {c : Nat} (h : PortsKept r s) : PortsKept r (s.allocFails c) :=
  (h.bumpBehind (d := BPM_COMB_FAIL_COUNT) (i := c) (by decide)).upd rfl rfl rfl rfl

theorem allocCell {size tag : Nat} {fallback : Bool} (h : PortsKept r s) : PortsKept r (s.allocCell size tag fallback).1 := by
  unfold State.allocCell
  dsimp only
  split
  · exact h.allocFails
  · split
    · exact h.allocFails
    · split
      · exact ite h.takeCell (h.takeCell.bumpBehind (by decide))
      · exact h.allocFails.upd rfl rfl rfl rfl

theorem allocMany {tag : Nat} {fallback : Bool} {sizes got : List Nat} (h : PortsKept r s) :
    PortsKept r (State.allocMany s tag fallback sizes got).1 := by
  induction sizes generalizing s got with
  | nil => exact h
  | cons z sizes ih =>
    have one := h.allocCell (size := z) (tag := tag) (fallback := fallback)
    unfold State.allocMany
    split
    · next e => rw [e] at one; exact ih one
    · next e =>
      rw [e] at one
      exact one.foldl fun _ _ _ h => h.returnCell

/-! Frames and channels. -/

theorem partnerChanged {p change n : Nat} (h : PortsKept r s) : PortsKept r (s.partnerChanged p change n) := h.event

theorem goLive {n p : Nat} (h : PortsKept r s) : PortsKept r (s.goLive n p) := ite h h.modChan.partnerChanged

theorem exportNow {n : Nat} (h : PortsKept r s) : PortsKept r (s.exportNow n) := by
  unfold State.exportNow
  split
  · exact h
  · split
    · exact h.modChan
    · exact (h.hostWrite.ite h).modChan.endJob

theorem exportDue {n : Nat} (h : PortsKept r s) : PortsKept r (s.exportDue n) := ite h.exportNow h

theorem tidySlots {n : Nat} (h : PortsKept r s) : PortsKept r (s.tidySlots n) := by
  unfold State.tidySlots
  refine ite h ?_
  split
  · exact h.setChan
  · exact h.setChan

theorem takeFlow {cq : Nat} (h : PortsKept r s) : PortsKept r (s.takeFlow cq).1 := by
  unfold State.takeFlow
  split
  · exact h
  · exact h.upd rfl rfl rfl rfl

theorem addLive {j : Job} (h : PortsKept r s) : PortsKept r (s.addLive j) :=
  h.takeFlow.upd (s := (s.takeFlow j.cq).1) rfl rfl rfl rfl

theorem offerUnit {n : Nat} {au : Au} {cells : List Nat} (h : PortsKept r s) : PortsKept r (s.offerUnit n au cells) := by
  have counted (f : Channel → Channel) : PortsKept r ((s.tidySlots n).modChan n f) := h.tidySlots.modChan
  unfold State.offerUnit
  dsimp only
  split
  · exact (counted _).addLive.modChan
  · exact (counted _).addLive.modChan
  · split
    · exact ite (counted _).endJob.addLive.modChan (counted _).addLive.endJob
    · exact (counted _).addLive.modChan

theorem addEncode {n cq tick : Nat} {x : HeldFrame} (h : PortsKept r s) : PortsKept r (s.addEncode n cq tick x) := h.addLive

theorem offerEncode {n tick : Nat} {x : HeldFrame} (h : PortsKept r s) : PortsKept r (s.offerEncode n tick x) := by
  unfold State.offerEncode
  dsimp only
  split
  · exact h.returnCells
  · refine ite ?_ h.setChan.returnCells
    split
    · exact h
    · exact ite h.setChan.addEncode h.setChan

theorem frameCells {n : Nat} {a : Arrival} (h : PortsKept r s) : PortsKept r (s.frameCells n a).1 := by
  have chain := h.allocMany (tag := transientTag n) (fallback := false) (sizes := chainOf a.bytes) (got := [])
  unfold State.frameCells
  split
  · exact h
  · split
    · next e => rw [e] at chain; exact chain
    · next e => rw [e] at chain; exact chain.bump (by decide)

section
variable {n : Nat} (hn : n < 32)
include hn

theorem takeFrame {p : Nat} {a : Arrival} {cells : List Nat} (h : PortsKept r s) : PortsKept r (s.takeFrame p a n cells) := by
  have counted : PortsKept r ((s.goLive n p).bump SYS_CHAN_IN_COUNT n) :=
    h.goLive.bump (.inl (by simp only [RegDef.at, SYS_CHAN_IN_COUNT]; omega))
  unfold State.takeFrame
  dsimp only
  refine ite ?_ (ite counted.exportDue.returnCells.modChan counted.offerEncode)
  split
  · exact counted.returnCells
  · exact counted.modChan.offerUnit

theorem frameTo {p : Nat} {a : Arrival} (h : PortsKept r s) : PortsKept r (s.frameTo p a n) := by
  have paused : PortsKept r (s.bump SYS_CHAN_PDROP_COUNT n) :=
    h.bump (.inl (by simp only [RegDef.at, SYS_CHAN_PDROP_COUNT]; omega))
  have missed : PortsKept r (s.bump SYS_CHAN_MDROP_COUNT n) :=
    h.bump (.inl (by simp only [RegDef.at, SYS_CHAN_MDROP_COUNT]; omega))
  have unbound := missed.modChan (n := n) (f := Channel.unbound) |>.partnerChanged (p := p) (change := 4) (n := n)
  have ended := unbound.ite (c := (s.chan n).bound = some p) missed
  have cells := h.frameCells (n := n) (a := a)
  unfold State.frameTo
  refine ite h (ite paused (ite (ite ended ended.modChan.partnerChanged) (ite (h.bump (by decide)) ?_)))
  split
  · next e => rw [e] at cells; exact cells
  · next e => rw [e] at cells; exact takeFrame hn cells

end

/-- A frame of a partner leaves the ports as they were, whichever channels take it. -/
theorem frameFrom {p fmt : Nat} {a : Arrival} (h : PortsKept r s) : PortsKept r (s.frameFrom p fmt a) := by
  have noted (x : Partner) : PortsKept r (s.setPartner p x) := h.setPartner
  have told (x : Partner) (new : Prop) [Decidable new] :
      PortsKept r (if new then (s.setPartner p x).partnerChanged p 1 0xFF else s.setPartner p x) :=
    (noted x).partnerChanged.ite (noted x)
  have taken (x : Partner) (new : Prop) [Decidable new] := (told x new).foldl (l := List.range 32)
    (f := fun s n => s.frameTo p a n) fun _ _ hn h => h.frameTo (List.mem_range.mp hn)
  unfold State.frameFrom
  exact ite (taken _ _) (taken _ _).returnCells

end PortsKept
end Sys2Proof.Machine
end

section
namespace Sys2Proof.Machine

/-! A wrong check word found by a lost frame (BPM 0x0E02, Class M) leaves the ports as they were, but for SAFE. -/

namespace PortsKept

variable {r s t : State}

/-! A Class M restart (R371, R401). -/

theorem restartJob {c : Nat} {u : List Nat} {j : Job} (h : PortsKept r s) : PortsKept r (State.restartJob c u s j) := by
  unfold State.restartJob
  split
  · exact ite (h.bump (by decide)).dropJob h
  · exact ite h.dropJob h.endJob

theorem resetPath (h : PortsKept r s) : PortsKept r s.resetPath := h.upd rfl rfl rfl rfl
theorem dueTags {l : List Nat} (h : PortsKept r s) : PortsKept r (s.dueTags l) := h.upd rfl rfl rfl rfl

theorem startM {c : Nat} {u : List Nat} (h : PortsKept r s) : PortsKept r (s.startM c u) := by
  refine dueTags (foldl (resetPath (foldl ?_ fun _ _ _ h => h.restartJob)) fun _ _ _ h => h.returnCell)
  exact h.upd rfl rfl rfl rfl

/-! SAFE (R402). -/

theorem flushMsi (h : PortsKept r s) : PortsKept r s.flushMsi :=
  h.of_onlyIn s.flushMsi_onlyIn (by decide) (by decide) (by decide) (by decide)
theorem panelDown {d : Nat} (h : PortsKept r s) : PortsKept r (s.panelDown d) := h.upd rfl rfl rfl rfl

theorem lockPlls (h : PortsKept r s) : PortsKept r s.lockPlls :=
  h.of_onlyIn s.lockPlls_onlyIn (by decide) (by decide) (by decide) (by decide)

/-- In SAFE nothing is claimed of the camera ports. -/
theorem of_safe (h : PortsKept r s) (hr : t.regs = s.regs) (hu : t.usb = s.usb) (safe : t.guard.safe = true) :
    PortsKept r t where
  regs e k lo hi := by rw [hr]; exact h.regs e k lo hi
  usb := hu.trans h.usb
  csi k := absurd (safe.symm.trans k) (by decide)
  safe k := absurd (safe.symm.trans k) (by decide)

theorem enterSafe (h : PortsKept r s) : PortsKept r s.enterSafe := by
  have down : PortsKept r ((List.range 3).foldl (fun s d => s.panelDown d) (s.bump GRD_REACT_COUNT 4)) :=
    (h.bump (by decide)).foldl fun _ _ _ h => h.panelDown
  unfold State.enterSafe
  refine ite h (flushMsi (ite (lockPlls ?_) ?_))
  · exact of_safe down rfl rfl rfl
  · exact of_safe down rfl rfl rfl

theorem logMerged {c l : Nat} {a b : FClass} {i : FaultInfo} (h : PortsKept r s) : PortsKept r (s.logMerged c a b i l) :=
  (h.bump (by decide)).logFault

theorem toSafe {l x : Nat} (h : PortsKept r s) : PortsKept r (s.toSafe l x) :=
  (h.ite h.setStatus.present.logMerged).enterSafe

theorem setReaction {x : Reaction} (h : PortsKept r s) : PortsKept r (s.setReaction x) := h.upd rfl rfl rfl rfl

/-- A Class M fault discards nothing by targets of its own. -/
theorem reactM {c : Nat} {i : FaultInfo} {x : Targets} (h : PortsKept r s) : PortsKept r (s.react c .m i x) := by
  unfold State.react
  extract_lets eff old newM extra acting ids i first g a begun logged shown restarted
  have hbegun : PortsKept r begun := h.upd rfl rfl rfl rfl
  have hlogged : PortsKept r logged := by
    unfold logged
    split
    · exact hbegun.logFault.signal.hwFlag
    · exact h.setReaction.logMerged
  have hshown : PortsKept r shown := hlogged.ite hlogged.present
  exact hshown.toSafe.ite (hshown.startM.ite hshown)

theorem raiseM {c : Nat} {i : FaultInfo} {x : Targets} (cls : faultClass c = some .m) (h : PortsKept r s) :
    PortsKept r (s.raise c i x) := by
  have bit : PortsKept r (s.setStatus c) := h.setStatus
  have waits {u : State} {w : List (Nat × Nat × List Nat × Nat)} (k : PortsKept r u) :
      PortsKept r { u with guard := { u.guard with waiting := w } } := k.upd rfl rfl rfl rfl
  unfold State.raise
  rw [cls]
  exact bit.logFault.ite ((bit.logFault.present.ite bit.logFault).ite (bit.logFault.ite
    ((waits bit.logFault.present).ite bit.reactM)))

theorem raiseMismatch (h : PortsKept r s) : PortsKept r s.raiseMismatch := by
  unfold State.raiseMismatch
  split
  · exact h
  · exact raiseM (by decide) (h.upd rfl rfl rfl rfl)

end PortsKept
end Sys2Proof.Machine
end

section
namespace Sys2Proof.Machine

/-! USB devices: attachment, enumeration, departure, overcurrent and frames (R173, R180, R182, R185, R186, R564). -/

variable {s t v : State} {n : Nat} {u : UsbPort}

/-! What each step makes of its port. -/

/-- A device has attached and enumerates. -/
def UsbPort.attached (u : UsbPort) : UsbPort := { u with conn := true, enumerating := true }
/-- Enumeration has ended. -/
def UsbPort.settled (fast : Bool) (u : UsbPort) : UsbPort := { u with enumerating := false, superSpeed := fast }
/-- The modes of a camera are known. -/
def UsbPort.offers (modes : List UvcMode) (u : UsbPort) : UsbPort := { u with modes := modes }
/-- The device has gone. -/
def UsbPort.bare (u : UsbPort) : UsbPort :=
  { u with conn := false, superSpeed := false, enumerating := false, modes := [], stream := none }
/-- VBUS is off until the retry. -/
def UsbPort.overloaded (ps : Nat) (u : UsbPort) : UsbPort := { u with oc := true, since := ps }
/-- VBUS returns. -/
def UsbPort.restored (u : UsbPort) : UsbPort := { u with oc := false }
/-- The stream of a camera is known. -/
def UsbPort.streams (m : Option UvcMode) (u : UsbPort) : UsbPort := { u with stream := m }

/-- VBUS follows the port's overcurrent alone while the registers and the mode stand. -/
theorem State.vbusOn_modUsb {f : UsbPort → UsbPort} (hu : s.usb[n]? = some u) (same : (f u).oc = u.oc) :
    (s.modUsb n f).vbusOn n = s.vbusOn n := by
  unfold State.vbusOn
  rw [usbPort_modUsb f hu, usbPort_of hu, same]
  rfl

/-! Attachment (R185). -/

theorem usbConnect_idle (hn : n < 3) (hu : s.usb[n]? = some u) (h : s.vbusOn n = false ∨ u.conn = true) :
    exec (.usbConnect n) s = .next s.settle :=
  exec_onUnit_same (u := s.usbAttach n) rfl hn (if_pos (by rw [usbPort_of hu]; exact h))

theorem usbConnect_attaches (hn : n < 3) (hu : s.usb[n]? = some u) (on : s.vbusOn n = true) (free : u.conn = false) :
    Gives (.usbConnect n) s (fun t =>
      (t.usbPort n).conn = true ∧ (t.usbPort n).enumerating = true ∧ OnlyIn [.regs, .usb, .mem, .sch] s t) := by
  have attaches : s.usbAttach n = (s.modUsb n UsbPort.attached).hwFlag 7 :=
    if_neg (by rw [usbPort_of hu]; simp [on, free])
  refine Gives.onUnit (u := s.usbAttach n) rfl hn ?_
  rw [attaches]
  have flag := (s.modUsb n UsbPort.attached).hwFlag_onlyIn 7
  rw [State.settle_usbPort, State.usbPort_congr (flag.usb_eq (by decide)), usbPort_modUsb _ hu]
  exact ⟨rfl, rfl, (((s.modUsb_onlyIn _ _).mono (by decide)).step flag (by decide)).settle⟩

/-! Enumeration (R173, R185). -/

theorem usbEnumerationEnd_idle (hn : n < 3) (hu : s.usb[n]? = some u) (d : UsbDevice)
    (h : s.vbusOn n = false ∨ u.enumerating = false) : exec (.usbEnumerationEnd n d) s = .next s.settle :=
  exec_onUnit_same (u := s.usbEnumerated n d) rfl hn (if_pos (by rw [usbPort_of hu]; exact h))

/-- Enumeration has ended, and the dispatcher knows. -/
def State.usbSettled (s : State) (n : Nat) (d : UsbDevice) : State :=
  (s.modUsb n (UsbPort.settled d.superSpeed)).hwFlag 7

theorem State.usbSettled_onlyIn (s : State) (n : Nat) (d : UsbDevice) :
    OnlyIn [.regs, .usb, .mem, .sch] s (s.usbSettled n d) :=
  ((s.modUsb_onlyIn _ _).mono (by decide)).step (State.hwFlag_onlyIn _ _) (by decide)

theorem getElem?_usbSettled (hu : s.usb[n]? = some u) (d : UsbDevice) :
    (s.usbSettled n d).usb[n]? = some (u.settled d.superSpeed) := by
  rw [State.usbSettled, (State.hwFlag_onlyIn _ _).usb_eq (by decide)]
  exact getElem?_modUsb _ hu

/-- The registers of the port blocks stand. -/
theorem State.usbSettled_rd (s : State) (n : Nat) (d : UsbDevice) {e : RegDef} (lo : 0x30000 ≤ e.at 0) (hi : e.at 0 < 0x40000) :
    (s.usbSettled n d).rd e = s.rd e :=
  (PortsKept.refl (s.modUsb n (UsbPort.settled d.superSpeed))).hwFlag.rd lo hi

/-- The partner that a device is (Table 4.9). -/
def usbPartner (d : UsbDevice) (n : Nat) : Partner :=
  { Partner.free with type := if d.uvc then 2 else 3, port := 0x20 + n, flags := 1
                      format := if d.uvc then 0 else d.cls % 256, ident := usbIdent d }

/-- A device that has enumerated is counted. -/
def State.usbKnown (s : State) (n : Nat) (d : UsbDevice) : State :=
  ((s.usbSettled n d).modUsb n (UsbPort.offers (if d.uvc then d.modes else []))).bump USB_ENUM_COUNT

section
variable (on : s.vbusOn n = true) (hu : s.usb[n]? = some u) (busy : u.enumerating = true)
include on hu busy

theorem State.usbEnumerated_ok {d : UsbDevice} (ok : d.ok = true) :
    s.usbEnumerated n d = (s.usbKnown n d).found (usbPartner d n) := by
  unfold State.usbEnumerated
  rw [if_neg (by rw [usbPort_of hu]; simp [on, busy])]
  exact if_pos ok

theorem State.usbEnumerated_fails {d : UsbDevice} (bad : d.ok = false) :
    s.usbEnumerated n d = ((s.usbSettled n d).bump USB_ENUM_FAIL_COUNT).raiseI 0x0502 { source := n } := by
  unfold State.usbEnumerated
  rw [if_neg (by rw [usbPort_of hu]; simp [on, busy])]
  exact if_neg (by simp [bad])

theorem usbEnumerationEnd_arrives (hn : n < 3) {d : UsbDevice} (ok : d.ok = true) :
    Gives (.usbEnumerationEnd n d) s (fun t =>
      (t.usbPort n).enumerating = false ∧ (t.usbPort n).superSpeed = d.superSpeed ∧
      t.rd USB_ENUM_COUNT = bump32 (s.rd USB_ENUM_COUNT) ∧
      (∀ id, s.atPort (0x20 + n) = none → (List.range 24).find? (fun q => (s.partner q).type == 0) = some id →
        (t.partner id).type = (if d.uvc then 2 else 3) ∧ (t.partner id).port = 0x20 + n ∧
        (t.partner id).flags = 1 ∧ (t.partner id).ident = usbIdent d)) := by
  refine Gives.onUnit (u := s.usbEnumerated n d) rfl hn ?_
  rw [State.usbEnumerated_ok on hu busy ok]
  have known : (s.usbKnown n d).usb[n]? = some ((u.settled d.superSpeed).offers (if d.uvc then d.modes else [])) :=
    getElem?_modUsb (s := s.usbSettled n d) _ (getElem?_usbSettled hu d)
  have counted : (s.usbKnown n d).rd USB_ENUM_COUNT = bump32 (s.rd USB_ENUM_COUNT) :=
    (State.rd_bump_same _ _ _).trans (congrArg bump32 (s.usbSettled_rd n d (by decide) (by decide)))
  have partners : (s.usbKnown n d).partners = s.partners := (s.usbSettled_onlyIn n d).partners_eq (by decide)
  have kept := (PortsKept.refl (s.usbKnown n d)).found (x := usbPartner d n)
  rw [State.settle_usbPort, State.usbPort_congr kept.usb, usbPort_of known, State.settle_rd, kept.rd (by decide) (by decide)]
  refine ⟨rfl, rfl, counted, fun id new free => ?_⟩
  have there : (s.usbKnown n d).atPort (usbPartner d n).port = none := (State.atPort_congr partners _).trans new
  rw [State.settle_partner, State.found_new there,
    State.partner_arrive (s := s.usbKnown n d) (by simpa only [State.partner, partners] using free)]
  exact ⟨rfl, rfl, rfl, rfl⟩

theorem usbEnumerationEnd_fails (hn : n < 3) {d : UsbDevice} (bad : d.ok = false) :
    Gives (.usbEnumerationEnd n d) s (fun t =>
      (t.usbPort n).enumerating = false ∧ t.rd USB_ENUM_FAIL_COUNT = bump32 (s.rd USB_ENUM_FAIL_COUNT) ∧
      bitAt (t.fstat 5) 1 = true ∧ t.partners = s.partners ∧
      OnlyIn [.regs, .hif, .usb, .mem, .sch, .log, .guard] s t) := by
  refine Gives.onUnit (u := s.usbEnumerated n d) rfl hn ?_
  rw [State.usbEnumerated_fails on hu busy bad]
  have kept := (PortsKept.refl ((s.usbSettled n d).bump USB_ENUM_FAIL_COUNT)).raiseI (c := 0x0502) (i := { source := n })
  have only : OnlyIn [.regs, .hif, .usb, .mem, .sch, .log, .guard] s
      (((s.usbSettled n d).bump USB_ENUM_FAIL_COUNT).raiseI 0x0502 { source := n }) :=
    (((s.usbSettled_onlyIn n d).mono (by decide)).step (State.bump_onlyIn _ _ _) (by decide)).step
      (State.raiseI_onlyIn _ _ _) (by decide)
  have port : ((s.usbSettled n d).bump USB_ENUM_FAIL_COUNT).usb[n]? = some (u.settled d.superSpeed) :=
    getElem?_usbSettled hu d
  rw [State.settle_usbPort, State.usbPort_congr kept.usb, usbPort_of port, State.settle_rd, kept.rd (by decide) (by decide),
    State.rd_bump_same]
  exact ⟨rfl, congrArg bump32 (s.usbSettled_rd n d (by decide) (by decide)), State.raiseI_sets _ 0x0502 _,
    only.partners_eq (by decide), only.settle⟩

end

end Sys2Proof.Machine
end

section
namespace Sys2Proof.Machine

/-! USB devices: departure, overcurrent and its retry, and frames (R180, R182, R185, R186, R564). -/

variable {s t v : State} {n : Nat} {u : UsbPort}

/-! Departure (R182). -/

theorem State.usbGone_eq (s : State) (n : Nat) : s.usbGone n = (s.modUsb n UsbPort.bare).departAll [0x20 + n] := rfl

theorem State.usbGone_onlyIn (s : State) (n : Nat) :
    OnlyIn [.regs, .hif, .chans, .partners, .usb, .log] s (s.usbGone n) :=
  ((s.modUsb_onlyIn _ _).mono (by decide)).step (State.departAll_onlyIn _ _) (by decide)

theorem State.usbGone_kept (s : State) (n : Nat) : PortsKept (s.modUsb n UsbPort.bare) (s.usbGone n) :=
  (PortsKept.refl (s.modUsb n UsbPort.bare)).departAll

theorem getElem?_usbGone (hu : s.usb[n]? = some u) : (s.usbGone n).usb[n]? = some u.bare := by
  rw [(s.usbGone_kept n).usb]
  exact getElem?_modUsb _ hu

/-- The partner of the port leaves, whatever follows that keeps the partners. -/
theorem usbGone_leaves (h : v.partners = (s.usbGone n).partners) {id : Nat} (at_ : s.atPort (0x20 + n) = some id)
    (here : s.isPresent id = true) : (v.partner id).leaving = true := by
  rw [State.partner_congr h]
  exact State.departAll_leaves (s := s.modUsb n UsbPort.bare) [] at_ here

theorem usbDisconnect_idle (hn : n < 3) (hu : s.usb[n]? = some u) (h : s.portsOn = false ∨ u.conn = false) :
    exec (.usbDisconnect n) s = .next s.settle :=
  exec_onUnit_same (u := s.usbDetach n) rfl hn (if_pos (by rw [usbPort_of hu]; exact h))

theorem usbDisconnect_leaves (hn : n < 3) (hu : s.usb[n]? = some u) (on : s.portsOn = true) (conn : u.conn = true) :
    Gives (.usbDisconnect n) s (fun t =>
      (t.usbPort n).conn = false ∧ (t.usbPort n).oc = u.oc ∧
      (∀ id, s.atPort (0x20 + n) = some id → s.isPresent id = true → (t.partner id).leaving = true) ∧
      OnlyIn [.regs, .hif, .chans, .partners, .usb, .mem, .sch, .log] s t) := by
  have leaves : s.usbDetach n = (s.usbGone n).hwFlag 7 := if_neg (by rw [usbPort_of hu]; simp [on, conn])
  refine Gives.onUnit (u := s.usbDetach n) rfl hn ?_
  rw [leaves]
  have flag := (s.usbGone n).hwFlag_onlyIn 7
  rw [State.settle_usbPort, State.usbPort_congr (flag.usb_eq (by decide)), usbPort_of (getElem?_usbGone hu)]
  refine ⟨rfl, rfl, fun id at_ here => ?_, (((s.usbGone_onlyIn n).mono (by decide)).step flag (by decide)).settle⟩
  rw [State.settle_partner]
  exact usbGone_leaves (flag.partners_eq (by decide)) at_ here

/-! Overcurrent, and VBUS below its threshold (R186, R564). -/

/-- The overcurrent is counted and reported, and VBUS is off. -/
def State.usbOff (s : State) (n : Nat) : State :=
  (((s.usbGone n).modUsb n (UsbPort.overloaded s.clock.ps)).bump USB_OC_COUNT).raiseCond 0x0501 { source := n }

theorem State.usbOver_idle (h : s.vbusOn n = false) : s.usbOver n = s := if_pos h

theorem State.usbOver_on (on : s.vbusOn n = true) : s.usbOver n = (s.usbOff n).hwFlag 7 := by
  have clock : (s.usbGone n).clock = s.clock := (s.usbGone_onlyIn n).clock_eq (by decide)
  unfold State.usbOver
  rw [if_neg (by simp [on]), State.usbOff, ← clock]
  rfl

theorem State.usbOff_onlyIn (s : State) (n : Nat) :
    OnlyIn [.regs, .hif, .chans, .partners, .usb, .log, .guard] s (s.usbOff n) :=
  ((((s.usbGone_onlyIn n).mono (by decide)).step (State.modUsb_onlyIn _ _ _) (by decide)).step
    (State.bump_onlyIn _ _ _) (by decide)).step (State.raiseCond_onlyIn _ _ _) (by decide)

/-- The port of a device that overloads it. -/
theorem usbPort_usbOff (hu : s.usb[n]? = some u) (kept : v.usb = (s.usbOff n).usb) :
    v.usbPort n = u.bare.overloaded s.clock.ps := by
  rw [State.usbPort_congr (kept.trans ((State.raiseCond_onlyIn _ _ _).usb_eq (by decide)))]
  exact usbPort_modUsb _ (getElem?_usbGone hu)

theorem State.rd_usbOff (s : State) (n : Nat) : (s.usbOff n).rd USB_OC_COUNT = bump32 (s.rd USB_OC_COUNT) := by
  have raised := PortsKept.refl (((s.usbGone n).modUsb n (UsbPort.overloaded s.clock.ps)).bump USB_OC_COUNT)
  refine ((raised.raiseCond (c := 0x0501) (i := { source := n })).rd (by decide) (by decide)).trans ?_
  exact (State.rd_bump_same _ _ _).trans (congrArg bump32 ((s.usbGone_kept n).rd (by decide) (by decide)))

/-- What an overload does to its port, to the partner there and to the Guard. -/
theorem usbOver_gives {i : Instr} (hn : n < 3) (step : exec i s = onUnit n 3 s (s.usbOver n)) (hu : s.usb[n]? = some u)
    (on : s.vbusOn n = true) : Gives i s (fun t =>
      (t.usbPort n).conn = false ∧ (t.usbPort n).oc = true ∧ t.vbusOn n = false ∧
      (t.usbPort n).since = s.clock.ps ∧ t.rd USB_OC_COUNT = bump32 (s.rd USB_OC_COUNT) ∧ t.causeLive 0x0501 = true ∧
      (∀ id, s.atPort (0x20 + n) = some id → s.isPresent id = true → (t.partner id).leaving = true) ∧
      OnlyIn [.regs, .hif, .chans, .partners, .usb, .mem, .sch, .log, .guard] s t) := by
  refine Gives.onUnit step hn ?_
  rw [State.usbOver_on on]
  have flag := (s.usbOff n).hwFlag_onlyIn 7
  have kept := (PortsKept.refl (s.usbOff n)).hwFlag (b := 7)
  have port := usbPort_usbOff hu (flag.usb_eq (by decide))
  have off : ((s.usbOff n).hwFlag 7).settle.vbusOn n = false := by
    rw [State.vbusOn, State.settle_usbPort, port]
    exact Bool.and_false _
  have live : ((s.usbOff n).hwFlag 7).causeLive 0x0501 = true := by
    rw [State.causeLive, flag.guard_eq (by decide)]
    exact State.causeLive_present _ _ _
  have partners : ((s.usbOff n).hwFlag 7).partners = (s.usbGone n).partners :=
    (flag.partners_eq (by decide)).trans ((State.raiseCond_onlyIn _ _ _).partners_eq (by decide))
  have count := (kept.rd (d := USB_OC_COUNT) (i := 0) (j := 0) (by decide) (by decide)).trans (s.rd_usbOff n)
  rw [State.settle_usbPort, port, State.settle_rd, count, State.settle_causeLive, live]
  refine ⟨rfl, rfl, off, rfl, rfl, rfl, fun id at_ here => ?_,
    (((s.usbOff_onlyIn n).mono (by decide)).step flag (by decide)).settle⟩
  rw [State.settle_partner]
  exact usbGone_leaves partners at_ here

theorem usbOcRetry_idle (hn : n < 3) (hu : s.usb[n]? = some u) (h : s.portsOn = false ∨ u.oc = false) :
    exec (.usbOcRetry n) s = .next s.settle :=
  exec_onUnit_same (u := s.usbRetry n) rfl hn (if_pos (by rw [usbPort_of hu]; exact h))

/-- VBUS returns, and the condition ends. -/
theorem usbOcRetry_returns (hn : n < 3) (hu : s.usb[n]? = some u) (on : s.portsOn = true) (oc : u.oc = true) :
    Gives (.usbOcRetry n) s (fun t =>
      (t.usbPort n).oc = false ∧ u.since + atLeast1 (s.fld USB_CTL 15 8) * 10 ^ 12 ≤ t.clock.ps ∧
      t.guard.live.contains (0x0501, n) = false ∧ OnlyIn [.clock, .usb, .guard] s t) := by
  have returns : s.usbRetry n = ((s.advanceTo (u.since + atLeast1 (s.fld USB_CTL 15 8) * 10 ^ 12)).modUsb n
      UsbPort.restored).gone 0x0501 n := by
    unfold State.usbRetry
    rw [usbPort_of hu, if_neg (by simp [on, oc])]
    rfl
  refine Gives.onUnit (u := s.usbRetry n) rfl hn ?_
  rw [returns]
  have due := s.le_advanceTo (u.since + atLeast1 (s.fld USB_CTL 15 8) * 10 ^ 12)
  have later := s.advanceTo_onlyIn (u.since + atLeast1 (s.fld USB_CTL 15 8) * 10 ^ 12)
  generalize s.advanceTo (u.since + atLeast1 (s.fld USB_CTL 15 8) * 10 ^ 12) = w at due later ⊢
  have port : w.usb[n]? = some u := by rw [later.usb_eq (by decide)]; exact hu
  have gone : ((w.modUsb n UsbPort.restored).gone 0x0501 n).usbPort n = u.restored := by
    rw [State.usbPort_congr (State.gone_usb _ _ _), usbPort_modUsb _ port]
  rw [State.settle_usbPort, gone, State.settle_clock, State.settle_guard]
  exact ⟨rfl, due, State.gone_not_live _ _ _,
    (((later.mono (by decide)).step (State.modUsb_onlyIn _ _ _) (by decide)).step (State.gone_onlyIn _ _ _)
      (by decide)).settle⟩

/-! Frames (R180, R185). -/

/-- The camera streams frames of this mode. -/
def State.streamsNow (s : State) (n : Nat) (u : UsbPort) (f : UvcFrame) : Prop :=
  s.vbusOn n = true ∧ u.conn = true ∧ (s.uvcStream n).map (ofMode f) = some true

/-- The stream that runs at the port is noted. -/
def State.streamNoted (s : State) (n : Nat) : State := s.modUsb n (UsbPort.streams (s.uvcStream n))

section
variable (hu : s.usb[n]? = some u) {f : UvcFrame}
include hu

theorem usbPort_streamNoted : (s.streamNoted n).usbPort n = { u with stream := s.uvcStream n } := usbPort_modUsb _ hu

theorem streamsNow_iff : s.streamsNow n u f ↔ ¬ ((s.streamNoted n).vbusOn n = false ∨
    ((s.streamNoted n).usbPort n).conn = false ∨ ((s.uvcStream n).map (ofMode f)).getD false = false) := by
  rw [State.streamNoted, State.vbusOn_modUsb hu rfl, usbPort_modUsb _ hu, UsbPort.streams, State.streamsNow]
  cases (s.uvcStream n).map (ofMode f) <;> simp

theorem State.uvcFrame_other (h : ¬ s.streamsNow n u f) : s.uvcFrame n f = s.streamNoted n := by
  rw [streamsNow_iff hu, not_not] at h
  exact if_pos h

theorem State.uvcFrame_damaged (h : s.streamsNow n u f) (bad : f.errorBit = true) :
    s.uvcFrame n f = ((s.streamNoted n).hwFlag 7).bump USB_FRAME_DROP_COUNT := by
  rw [streamsNow_iff hu] at h
  exact (if_neg h).trans (if_pos bad)

end

/-- A frame without an error bit leaves the ports as they are, wherever it goes. -/
theorem State.uvcFrame_kept (s : State) (n : Nat) {f : UvcFrame} (good : f.errorBit = false) :
    PortsKept (s.streamNoted n) (s.uvcFrame n f) := by
  have flag := (PortsKept.refl (s.streamNoted n)).hwFlag (b := 7)
  have whole : ¬ f.errorBit = true := by simp [good]
  unfold State.uvcFrame
  extract_lets stream noted flagged
  refine PortsKept.ite (PortsKept.refl _) ?_
  rw [if_neg whole]
  split
  · exact flag
  · exact flag.frameFrom.raiseMismatch

/-! The clauses of a frame. -/

section
variable (hn : n < 3) (hu : s.usb[n]? = some u) {f : UvcFrame}
include hn hu

theorem uvcFrameComplete_other (h : ¬ s.streamsNow n u f) : Gives (.uvcFrameComplete n f) s (fun t =>
    t.usbPort n = { u with stream := s.uvcStream n } ∧ OnlyIn [.usb] s t) := by
  refine Gives.onUnit (u := s.uvcFrame n f) rfl hn ?_
  rw [State.uvcFrame_other hu h]
  exact ⟨usbPort_streamNoted hu, (s.modUsb_onlyIn _ _).settle⟩

theorem uvcFrameComplete_damaged (h : s.streamsNow n u f) (bad : f.errorBit = true) :
    Gives (.uvcFrameComplete n f) s (fun t => t.usbPort n = { u with stream := s.uvcStream n } ∧
      t.rd USB_FRAME_DROP_COUNT = bump32 (s.rd USB_FRAME_DROP_COUNT) ∧ OnlyIn [.regs, .usb, .mem, .sch] s t) := by
  refine Gives.onUnit (u := s.uvcFrame n f) rfl hn ?_
  rw [State.uvcFrame_damaged hu h bad]
  have flag := (s.streamNoted n).hwFlag_onlyIn 7
  have kept := (PortsKept.refl (s.streamNoted n)).hwFlag (b := 7)
  have port : (((s.streamNoted n).hwFlag 7).bump USB_FRAME_DROP_COUNT).usbPort n = { u with stream := s.uvcStream n } :=
    (State.usbPort_congr (flag.usb_eq (by decide)) n).trans (usbPort_streamNoted hu)
  rw [State.settle_usbPort, port, State.settle_rd, State.rd_bump_same, kept.rd (by decide) (by decide)]
  exact ⟨rfl, rfl, ((((s.modUsb_onlyIn _ _).mono (by decide)).step flag (by decide)).step
    (State.bump_onlyIn _ _ _) (by decide)).settle⟩

theorem uvcFrameComplete_whole (good : f.errorBit = false) : Gives (.uvcFrameComplete n f) s (fun t =>
    t.usbPort n = { u with stream := s.uvcStream n } ∧ t.rd USB_FRAME_DROP_COUNT = s.rd USB_FRAME_DROP_COUNT) := by
  have kept := s.uvcFrame_kept n good
  refine Gives.onUnit (u := s.uvcFrame n f) rfl hn ?_
  rw [State.settle_usbPort, State.usbPort_congr kept.usb, usbPort_streamNoted hu, State.settle_rd,
    kept.rd (by decide) (by decide)]
  exact ⟨rfl, rfl⟩

end

/-- Settles O40, step by step of a port's life; a whole frame is followed through the channels to what it leaves alone. -/
theorem usbDevicesComeAndGo : Obligations.UsbDevicesComeAndGo := by
  unfold Obligations.UsbDevicesComeAndGo
  intro s n u hn hu
  refine ⟨usbConnect_idle hn hu, usbConnect_attaches hn hu, fun d => ⟨usbEnumerationEnd_idle hn hu d, fun on busy =>
      ⟨usbEnumerationEnd_arrives on hu busy hn, usbEnumerationEnd_fails on hu busy hn⟩⟩, usbDisconnect_idle hn hu,
    usbDisconnect_leaves hn hu, fun off => ⟨?_, ?_⟩, fun on => ⟨usbOver_gives hn rfl hu on, usbOver_gives hn rfl hu on⟩,
    usbOcRetry_idle hn hu, usbOcRetry_returns hn hu, fun f => ⟨uvcFrameComplete_other hn hu,
      uvcFrameComplete_damaged hn hu, fun _ => uvcFrameComplete_whole hn hu⟩⟩
  · exact exec_onUnit_same (u := s.usbOver n) rfl hn (State.usbOver_idle off)
  · exact exec_onUnit_same (u := s.usbLow n) rfl hn (State.usbOver_idle off)

end Sys2Proof.Machine
end

section
namespace Sys2Proof.Machine

/-! Camera frames: starts, lines and ends (R179, R183, R184). -/

variable {s t : State} {p vc : Nat} {c : CsiPort}

/-! Counters of one port. -/

/-- A counter beside the one that counts, in the same row of registers. -/
theorem State.rd_bump_beside {d e : RegDef} (p : Nat) (row : e.stride = d.stride) (off : e.off ≠ d.off) :
    (s.bump d p).rd e p = s.rd e p :=
  State.rd_bump_other _ _ _ _ _ _ (by simp only [RegDef.at, row]; omega)

/-- A counter that goes up on a condition. -/
def State.bumpIf (s : State) (b : Bool) (d : RegDef) (p : Nat) : State := if b then s.bump d p else s

theorem State.bumpIf_onlyIn (s : State) (b : Bool) (d : RegDef) (p : Nat) : OnlyIn [.regs] s (s.bumpIf b d p) :=
  .ite (State.bump_onlyIn _ _ _) (.refl _ _)

theorem State.rd_bumpIf_same (b : Bool) (d : RegDef) (p : Nat) :
    (s.bumpIf b d p).rd d p = if b then bump32 (s.rd d p) else s.rd d p := by
  cases b
  · rfl
  · exact State.rd_bump_same _ _ _

theorem State.rd_bumpIf_beside {d e : RegDef} (b : Bool) (p : Nat) (row : e.stride = d.stride) (off : e.off ≠ d.off) :
    (s.bumpIf b d p).rd e p = s.rd e p := by
  cases b
  · rfl
  · exact State.rd_bump_beside p row off

theorem State.bumpBy_onlyIn (d : RegDef) (p k : Nat) (s : State) : OnlyIn [.regs] s (State.bumpBy d p k s) := by
  induction k generalizing s with
  | zero => exact .refl _ _
  | succ k ih => exact (State.bump_onlyIn _ _ _).trans (ih _)

theorem State.rd_bumpBy_beside {d e : RegDef} (p k : Nat) (row : e.stride = d.stride) (off : e.off ≠ d.off) (s : State) :
    (State.bumpBy d p k s).rd e p = s.rd e p := by
  induction k generalizing s with
  | zero => rfl
  | succ k ih => exact (ih _).trans (State.rd_bump_beside p row off)

/-! Lost frames, counted for the channels that would have taken them. -/

theorem State.countDrops_onlyIn (s : State) (port : Nat) : OnlyIn [.regs] s (s.countDrops port) := by
  unfold State.countDrops
  split
  · exact .refl _ _
  · exact .foldl _ (fun s n => .ite (State.bump_onlyIn _ _ _) (.refl _ _)) _ _

theorem PortsKept.countDrops {r : State} {port : Nat} (h : PortsKept r s) : PortsKept r (s.countDrops port) := by
  unfold State.countDrops
  split
  · exact h
  · refine h.foldl fun s n hn h => ite (h.bump (.inl ?_)) h
    have := List.mem_range.mp hn
    simp only [RegDef.at, SYS_CHAN_MDROP_COUNT]
    omega

/-! What a packet makes of its port. -/

/-- A frame opens. -/
def CsiPort.opens (vc : Nat) (f : CsiFrame) (c : CsiPort) : CsiPort :=
  { c with hsActive := true, frames := tset c.frames vc f }
/-- The frame ends. -/
def CsiPort.closes (vc : Nat) (c : CsiPort) : CsiPort := { c with frames := tdel c.frames vc }
/-- A long packet is seen. -/
def CsiPort.seesLong (dt : Nat) (c : CsiPort) : CsiPort := { c with hsActive := true, lastDt := dt % 256 }
/-- The frame takes a line. -/
def CsiPort.takesLine (vc dt pixels lines : Nat) (data : List Byte) (c : CsiPort) : CsiPort :=
  { c with frames := c.frames.map (fun x => if x.1 = vc then (x.1, x.2.line dt pixels lines data) else x) }
/-- A virtual channel finds the table of partners full. -/
def CsiPort.missed (vc : Nat) (c : CsiPort) : CsiPort := { c with untracked := c.untracked ++ [vc] }

/-- A frame without lines yet. -/
def CsiFrame.startedAt (tick : Nat) : CsiFrame :=
  { started := tick, dataType := 0, width := 0, lines := 0, height := 0, data := [], broken := false, noCell := false }

theorem State.vcOn_modCsi {f : CsiPort → CsiPort} (hc : s.csi[p]? = some c) (same : (f c).stage = c.stage) :
    (s.modCsi p f).vcOn p vc = s.vcOn p vc := by
  unfold State.vcOn
  rw [csiPort_modCsi f hc, csiPort_of hc, same]
  rfl

/-! Frame starts (R179). -/

theorem State.vcArrives_onlyIn (s : State) (p vc : Nat) :
    OnlyIn [.regs, .hif, .chans, .partners, .gens, .csi, .log] s (s.vcArrives p vc) := by
  have found := (s.found_onlyIn (s.csiPartner p vc)).mono (qs := [.regs, .hif, .chans, .partners, .gens, .csi, .log])
    (by decide)
  exact .ite (.refl _ _) (.ite found (found.step (State.modCsi_onlyIn _ _ _) (by decide)))

/-- The arrival of a partner leaves the counters of the port. -/
theorem State.rd_vcArrives (s : State) (p vc : Nat) {d : RegDef} {i : Nat} (lo : 0x30000 ≤ d.at i) (hi : d.at i < 0x40000) :
    (s.vcArrives p vc).rd d i = s.rd d i := by
  have found := ((PortsKept.refl s).found (x := s.csiPartner p vc)).rd lo hi
  unfold State.vcArrives
  dsimp only
  split
  · rfl
  · split <;> exact found

/-- At most the note that the table was full changes the port. -/
theorem State.vcArrives_port (hc : s.csi[p]? = some c) :
    ∃ l, (s.vcArrives p vc).csi[p]? = some { c with untracked := l } := by
  have found : (s.found (s.csiPartner p vc)).csi[p]? = some c := by
    rw [(s.found_onlyIn _).csi_eq (by decide)]
    exact hc
  unfold State.vcArrives
  dsimp only
  split
  · exact ⟨c.untracked, hc⟩
  · split
    · exact ⟨c.untracked, found⟩
    · exact ⟨_, getElem?_modCsi (CsiPort.missed vc) found⟩

/-- A frame that still ran has lost its end. -/
def State.lostEnd (s : State) (p vc : Nat) : State :=
  if thas (s.csiPort p).frames vc then (s.bump CSI_FRAME_ERR_COUNT p).countDrops (4 * p + vc) else s

theorem State.lostEnd_onlyIn (s : State) (p vc : Nat) : OnlyIn [.regs] s (s.lostEnd p vc) :=
  .ite ((State.bump_onlyIn _ _ _).trans (State.countDrops_onlyIn _ _)) (.refl _ _)

theorem csi_at_range {d : RegDef} (hp : p < 4) (row : d.stride = 0x100) (lo : 0x30000 ≤ d.off) (hi : d.off < 0x3F000) :
    0x30000 ≤ d.at p ∧ d.at p < 0x40000 := by
  simp only [RegDef.at, row]
  omega

theorem State.rd_lostEnd (hp : p < 4) (hc : s.csi[p]? = some c) (open_ : thas c.frames vc = true) :
    (s.lostEnd p vc).rd CSI_FRAME_ERR_COUNT p = bump32 (s.rd CSI_FRAME_ERR_COUNT p) := by
  obtain ⟨lo, hi⟩ := csi_at_range (d := CSI_FRAME_ERR_COUNT) hp (by decide) (by decide) (by decide)
  have kept := (PortsKept.refl (s.bump CSI_FRAME_ERR_COUNT p)).countDrops (port := 4 * p + vc)
  rw [State.lostEnd, csiPort_of hc, if_pos open_, kept.rd lo hi, State.rd_bump_same]

theorem State.frameStart_on (on : s.vcOn p vc = true) : s.frameStart p vc =
    ((s.lostEnd p vc).vcArrives p vc).modCsi p
      (CsiPort.opens vc (CsiFrame.startedAt ((s.lostEnd p vc).vcArrives p vc).tick.number.toNat)) := if_pos on

theorem State.frameStart_off (off : s.vcOn p vc = false) : s.frameStart p vc = s := if_neg (by simp [off])

/-- What a frame start does to its port. -/
theorem frameStart_gives {i : Instr} (hp : p < 4) (hc : s.csi[p]? = some c) (on : s.vcOn p vc = true)
    (step : exec i s = onUnit p 4 s (s.frameStart p vc)) : Gives i s (fun t =>
      (t.csiPort p).hsActive = true ∧
      (t.csiPort p).frames = tset c.frames vc (CsiFrame.startedAt s.tick.number.toNat) ∧
      (thas c.frames vc = true → t.rd CSI_FRAME_ERR_COUNT p = bump32 (s.rd CSI_FRAME_ERR_COUNT p)) ∧
      OnlyIn [.regs, .hif, .chans, .partners, .gens, .csi, .log] s t) := by
  have lost := s.lostEnd_onlyIn p vc
  have arrives := (lost.mono (by decide)).trans ((s.lostEnd p vc).vcArrives_onlyIn p vc)
  have port : (s.lostEnd p vc).csi[p]? = some c := by rw [lost.csi_eq (by decide)]; exact hc
  obtain ⟨l, there⟩ := State.vcArrives_port (vc := vc) port
  obtain ⟨lo, hi⟩ := csi_at_range (d := CSI_FRAME_ERR_COUNT) hp (by decide) (by decide) (by decide)
  refine Gives.onUnit step hp ?_
  rw [State.frameStart_on on, arrives.tick_eq (by decide), State.settle_csiPort, csiPort_modCsi _ there]
  refine ⟨rfl, rfl, fun open_ => ?_, (arrives.step (State.modCsi_onlyIn _ _ _) (by decide)).settle⟩
  exact ((s.lostEnd p vc).rd_vcArrives p vc lo hi).trans (State.rd_lostEnd hp hc open_)

/-! Long packets (R183). -/

/-- The port has seen a long packet. -/
def State.seesLong (s : State) (p dt : Nat) : State := s.modCsi p (CsiPort.seesLong dt)

section
variable {dt pixels lines : Nat} {data : List Byte}

theorem State.longPacket_off (off : s.csiOn p = false) : s.longPacket p vc dt pixels lines data = s := if_pos off

theorem State.longPacket_rejected (hc : s.csi[p]? = some c) (on : s.csiOn p = true)
    (other : s.vcOn p vc = false ∨ (dt ≠ 0x1E ∧ dt ≠ 0x24)) :
    s.longPacket p vc dt pixels lines data = (s.seesLong p dt).bump CSI_DT_REJECT_COUNT p := by
  have same : (s.seesLong p dt).vcOn p vc = s.vcOn p vc := State.vcOn_modCsi hc rfl
  rw [← same] at other
  exact (if_neg (by simp [on])).trans (if_pos other)

theorem State.longPacket_taken (hc : s.csi[p]? = some c) (on : s.csiOn p = true) (vcOn : s.vcOn p vc = true)
    (known : dt = 0x1E ∨ dt = 0x24) :
    s.longPacket p vc dt pixels lines data = (s.seesLong p dt).modCsi p (CsiPort.takesLine vc dt pixels lines data) := by
  have same : (s.seesLong p dt).vcOn p vc = s.vcOn p vc := State.vcOn_modCsi hc rfl
  have fits : ¬ ((s.seesLong p dt).vcOn p vc = false ∨ (dt ≠ 0x1E ∧ dt ≠ 0x24)) := by
    rw [same, vcOn]
    simp only [Bool.true_eq_false, false_or]
    omega
  exact (if_neg (by simp [on])).trans (if_neg fits)

/-- What a long packet does to its port. -/
theorem csiPacketReceive_long (hp : p < 4) (hvc : vc < 4) (hc : s.csi[p]? = some c) (on : s.csiOn p = true) :
    Gives (.csiPacketReceive p vc (.long dt pixels lines data)) s (fun t =>
      (t.csiPort p).lastDt = dt % 256 ∧ (t.csiPort p).hsActive = true ∧
      (s.vcOn p vc = true → (dt = 0x1E ∨ dt = 0x24) → (t.csiPort p).frames =
        c.frames.map (fun x => if x.1 = vc then (x.1, x.2.line dt pixels lines data) else x) ∧ OnlyIn [.csi] s t) ∧
      ((s.vcOn p vc = false ∨ (dt ≠ 0x1E ∧ dt ≠ 0x24)) → (t.csiPort p).frames = c.frames ∧
        t.rd CSI_DT_REJECT_COUNT p = bump32 (s.rd CSI_DT_REJECT_COUNT p) ∧ OnlyIn [.regs, .csi] s t)) := by
  have step : exec (.csiPacketReceive p vc (.long dt pixels lines data)) s =
      onUnit p 4 s (s.longPacket p vc dt pixels lines data) := congrArg (onUnit p 4 s) (if_pos hvc)
  have seen : (s.seesLong p dt).csi[p]? = some (c.seesLong dt) := getElem?_modCsi _ hc
  have only : OnlyIn [.csi] s (s.seesLong p dt) := s.modCsi_onlyIn _ _
  refine Gives.onUnit step hp ?_
  by_cases other : s.vcOn p vc = false ∨ (dt ≠ 0x1E ∧ dt ≠ 0x24)
  · have bumped : ((s.seesLong p dt).bump CSI_DT_REJECT_COUNT p).csiPort p = c.seesLong dt :=
      (State.csiPort_congr ((State.bump_onlyIn _ _ _).csi_eq (by decide)) p).trans (csiPort_of seen)
    rw [State.longPacket_rejected hc on other, State.settle_csiPort, bumped, State.settle_rd, State.rd_bump_same]
    refine ⟨rfl, rfl, fun vcOn known => ?_, fun _ => ⟨rfl, rfl,
      ((only.mono (by decide)).step (State.bump_onlyIn _ _ _) (by decide)).settle⟩⟩
    rcases other with off | unknown
    · simp [vcOn] at off
    · omega
  · have vcOn : s.vcOn p vc = true := by
      by_contra off
      exact other (.inl (by simpa using off))
    have known : dt = 0x1E ∨ dt = 0x24 := by omega
    rw [State.longPacket_taken hc on vcOn known, State.settle_csiPort, csiPort_modCsi _ seen]
    exact ⟨rfl, rfl, fun _ _ => ⟨rfl, (only.trans (State.modCsi_onlyIn _ _ _)).settle⟩, fun h => absurd h other⟩

end

/-! Frame ends (R184). -/

/-- The frame is closed, and the corrected headers are counted. -/
def State.frameClosed (s : State) (p vc : Nat) (how : CsiEnd) : State :=
  State.bumpBy CSI_ECC_CORR_COUNT p how.correctedHeaders (s.modCsi p (CsiPort.closes vc))

theorem State.frameClosed_onlyIn (s : State) (p vc : Nat) (how : CsiEnd) : OnlyIn [.regs, .csi] s (s.frameClosed p vc how) :=
  ((s.modCsi_onlyIn _ _).mono (by decide)).step (State.bumpBy_onlyIn _ _ _ _) (by decide)

theorem csiPort_frameClosed (how : CsiEnd) (hc : s.csi[p]? = some c) : (s.frameClosed p vc how).csiPort p = c.closes vc :=
  (State.csiPort_congr ((State.bumpBy_onlyIn _ _ _ _).csi_eq (by decide)) p).trans (csiPort_modCsi _ hc)

theorem State.rd_frameClosed {e : RegDef} (how : CsiEnd) (row : e.stride = 0x100) (off : e.off ≠ 0x300C8) :
    (s.frameClosed p vc how).rd e p = s.rd e p := State.rd_bumpBy_beside p _ row off _

/-- The counts of a damaged frame. -/
def State.csiCounted (s : State) (p : Nat) (how : CsiEnd) (broken : Bool) : State :=
  ((s.bumpIf how.headerError CSI_ECC_ERR_COUNT p).bumpIf how.crcError CSI_CRC_ERR_COUNT p).bumpIf broken CSI_FRAME_ERR_COUNT p

theorem State.csiErrors_eq (s : State) (p : Nat) (how : CsiEnd) (broken : Bool) : s.csiErrors p how broken =
    if how.overflow then (s.csiCounted p how broken).raiseI 0x0403 { source := p } else s.csiCounted p how broken := rfl

theorem State.csiCounted_onlyIn (s : State) (p : Nat) (how : CsiEnd) (broken : Bool) :
    OnlyIn [.regs] s (s.csiCounted p how broken) :=
  ((s.bumpIf_onlyIn _ _ _).trans (State.bumpIf_onlyIn _ _ _ _)).trans (State.bumpIf_onlyIn _ _ _ _)

theorem State.csiErrors_onlyIn (s : State) (p : Nat) (how : CsiEnd) (broken : Bool) :
    OnlyIn [.regs, .hif, .log, .guard] s (s.csiErrors p how broken) := by
  have counted := (s.csiCounted_onlyIn p how broken).mono (qs := [.regs, .hif, .log, .guard]) (by decide)
  rw [State.csiErrors_eq]
  exact .ite (counted.step (State.raiseI_onlyIn _ _ _) (by decide)) counted

/-- The fault of an overflow leaves the counters of the ports. -/
theorem State.csiErrors_kept (s : State) (p : Nat) (how : CsiEnd) (broken : Bool) :
    PortsKept (s.csiCounted p how broken) (s.csiErrors p how broken) := by
  rw [State.csiErrors_eq]
  exact (PortsKept.refl _).raiseI.ite (.refl _)

theorem State.csiErrors_overflow {how : CsiEnd} (broken : Bool) (full : how.overflow = true) :
    bitAt ((s.csiErrors p how broken).fstat 4) 2 = true := by
  rw [State.csiErrors_eq, if_pos full]
  exact State.raiseI_sets _ 0x0403 _

section
variable (s p) (how : CsiEnd) (broken : Bool)

theorem State.rd_csiCounted_ecc : (s.csiCounted p how broken).rd CSI_ECC_ERR_COUNT p =
    if how.headerError then bump32 (s.rd CSI_ECC_ERR_COUNT p) else s.rd CSI_ECC_ERR_COUNT p := by
  rw [State.csiCounted, State.rd_bumpIf_beside _ p (by decide) (by decide), State.rd_bumpIf_beside _ p (by decide) (by decide),
    State.rd_bumpIf_same]

theorem State.rd_csiCounted_crc : (s.csiCounted p how broken).rd CSI_CRC_ERR_COUNT p =
    if how.crcError then bump32 (s.rd CSI_CRC_ERR_COUNT p) else s.rd CSI_CRC_ERR_COUNT p := by
  rw [State.csiCounted, State.rd_bumpIf_beside _ p (by decide) (by decide), State.rd_bumpIf_same,
    State.rd_bumpIf_beside _ p (by decide) (by decide)]

theorem State.rd_csiCounted_frame : (s.csiCounted p how broken).rd CSI_FRAME_ERR_COUNT p =
    if broken then bump32 (s.rd CSI_FRAME_ERR_COUNT p) else s.rd CSI_FRAME_ERR_COUNT p := by
  rw [State.csiCounted, State.rd_bumpIf_same, State.rd_bumpIf_beside _ p (by decide) (by decide),
    State.rd_bumpIf_beside _ p (by decide) (by decide)]

theorem State.rd_csiCounted_whole : (s.csiCounted p how broken).rd CSI_FRAME_COUNT p = s.rd CSI_FRAME_COUNT p := by
  rw [State.csiCounted, State.rd_bumpIf_beside _ p (by decide) (by decide), State.rd_bumpIf_beside _ p (by decide) (by decide),
    State.rd_bumpIf_beside _ p (by decide) (by decide)]

end

/-- The frame in progress on a virtual channel. -/
def CsiPort.inProgress (c : CsiPort) (vc : Nat) : Option CsiFrame := (c.frames.find? (fun x => x.1 == vc)).map (·.2)

/-- A frame lacks its start or its end, or has lines that do not fit. -/
def CsiFrame.isBroken (f : CsiFrame) (how : CsiEnd) : Bool := f.broken || !how.paired || f.lines == 0 || f.lines != f.height

/-- A damaged frame is dropped whole and counted. -/
def State.frameDropped (s : State) (p vc : Nat) (how : CsiEnd) (broken : Bool) : State :=
  ((s.frameClosed p vc how).csiErrors p how broken).countDrops (4 * p + vc)

section
variable {how : CsiEnd} {f : CsiFrame}

theorem State.frameEnd_off (off : s.vcOn p vc = false) : s.frameEnd p vc how = s := if_pos off

section
variable (hc : s.csi[p]? = some c) (on : s.vcOn p vc = true)
include hc on

theorem State.frameEnd_none (none_ : c.inProgress vc = none) : s.frameEnd p vc how = s.frameDropped p vc how true := by
  unfold State.frameEnd
  rw [if_neg (by simp [on])]
  dsimp only
  rw [csiPort_of hc]
  rw [CsiPort.inProgress] at none_
  rw [none_]
  rfl

theorem State.frameEnd_damaged (some_ : c.inProgress vc = some f)
    (bad : (f.isBroken how || how.headerError || how.crcError || how.overflow) = true) :
    s.frameEnd p vc how = s.frameDropped p vc how (f.isBroken how) := by
  unfold State.frameEnd
  rw [if_neg (by simp [on])]
  dsimp only
  rw [csiPort_of hc]
  rw [CsiPort.inProgress] at some_
  rw [some_]
  exact if_pos bad

/-- A whole frame is counted, and the ports stand whatever it meets behind them. -/
theorem State.frameEnd_whole (some_ : c.inProgress vc = some f)
    (good : (f.isBroken how || how.headerError || how.crcError || how.overflow) = false) (cell : f.noCell = false) :
    PortsKept ((s.frameClosed p vc how).bump CSI_FRAME_COUNT p) (s.frameEnd p vc how) := by
  unfold State.frameEnd
  rw [if_neg (by simp [on])]
  dsimp only
  rw [csiPort_of hc]
  rw [CsiPort.inProgress] at some_
  rw [some_]
  dsimp only
  rw [CsiFrame.isBroken] at good
  rw [if_neg (by rw [good]; decide), if_neg (by rw [cell]; decide)]
  split
  · exact .refl _
  · exact (PortsKept.refl ((s.frameClosed p vc how).bump CSI_FRAME_COUNT p)).frameFrom.raiseMismatch

end

theorem exec_csiFrameComplete (hvc : vc < 4) (how : CsiEnd) :
    exec (.csiFrameComplete p vc how) s = onUnit p 4 s (s.frameEnd p vc how) := congrArg (onUnit p 4 s) (if_pos hvc)

/-- What a whole frame leaves. -/
theorem csiFrameComplete_whole (hp : p < 4) (hvc : vc < 4) (hc : s.csi[p]? = some c)
    (kept : PortsKept ((s.frameClosed p vc how).bump CSI_FRAME_COUNT p) (s.frameEnd p vc how)) :
    Gives (.csiFrameComplete p vc how) s (fun t =>
      t.rd CSI_FRAME_COUNT p = bump32 (s.rd CSI_FRAME_COUNT p) ∧ t.rd CSI_CRC_ERR_COUNT p = s.rd CSI_CRC_ERR_COUNT p ∧
      t.rd CSI_FRAME_ERR_COUNT p = s.rd CSI_FRAME_ERR_COUNT p ∧
      (t.guard.safe = false → (t.csiPort p).frames = tdel c.frames vc)) := by
  obtain ⟨lo, hi⟩ := csi_at_range (d := CSI_FRAME_COUNT) hp (by decide) (by decide) (by decide)
  obtain ⟨lo1, hi1⟩ := csi_at_range (d := CSI_CRC_ERR_COUNT) hp (by decide) (by decide) (by decide)
  obtain ⟨lo2, hi2⟩ := csi_at_range (d := CSI_FRAME_ERR_COUNT) hp (by decide) (by decide) (by decide)
  refine Gives.onUnit (exec_csiFrameComplete hvc how) hp ?_
  rw [State.settle_rd, State.settle_rd, State.settle_rd, State.settle_guard, State.settle_csiPort, kept.rd lo hi,
    kept.rd lo1 hi1, kept.rd lo2 hi2, State.rd_bump_same, State.rd_bump_beside p (by decide) (by decide),
    State.rd_bump_beside p (by decide) (by decide), State.rd_frameClosed how rfl (by decide),
    State.rd_frameClosed how rfl (by decide), State.rd_frameClosed how rfl (by decide)]
  refine ⟨rfl, rfl, rfl, fun safe => ?_⟩
  have counted := (State.bump_onlyIn (s.frameClosed p vc how) CSI_FRAME_COUNT p).csi_eq (by decide)
  rw [State.csiPort_congr ((kept.csi safe).trans counted), csiPort_frameClosed how hc, CsiPort.closes]

/-- What a damaged frame leaves. -/
theorem csiFrameComplete_damaged (hp : p < 4) (hvc : vc < 4) (hc : s.csi[p]? = some c) {broken : Bool}
    (dropped : s.frameEnd p vc how = s.frameDropped p vc how broken) :
    Gives (.csiFrameComplete p vc how) s (fun t =>
      t.rd CSI_FRAME_COUNT p = s.rd CSI_FRAME_COUNT p ∧ (t.csiPort p).frames = tdel c.frames vc ∧
      t.rd CSI_FRAME_ERR_COUNT p = (if broken then bump32 (s.rd CSI_FRAME_ERR_COUNT p) else s.rd CSI_FRAME_ERR_COUNT p) ∧
      t.rd CSI_ECC_ERR_COUNT p =
        (if how.headerError then bump32 (s.rd CSI_ECC_ERR_COUNT p) else s.rd CSI_ECC_ERR_COUNT p) ∧
      t.rd CSI_CRC_ERR_COUNT p = (if how.crcError then bump32 (s.rd CSI_CRC_ERR_COUNT p) else s.rd CSI_CRC_ERR_COUNT p) ∧
      (how.overflow = true → bitAt (t.fstat 4) 2 = true) ∧ OnlyIn [.regs, .hif, .csi, .log, .guard] s t) := by
  have errors := (s.frameClosed p vc how).csiErrors_onlyIn p how broken
  have drops := ((s.frameClosed p vc how).csiErrors p how broken).countDrops_onlyIn (4 * p + vc)
  have kept := ((s.frameClosed p vc how).csiErrors_kept p how broken).countDrops (port := 4 * p + vc)
  have counter {d : RegDef} (row : d.stride = 0x100) (low : 0x30000 ≤ d.off) (high : d.off < 0x3F000) :
      (s.frameDropped p vc how broken).rd d p = ((s.frameClosed p vc how).csiCounted p how broken).rd d p :=
    kept.rd (csi_at_range hp row low high).1 (csi_at_range hp row low high).2
  have port : (s.frameDropped p vc how broken).csiPort p = c.closes vc :=
    (State.csiPort_congr ((drops.csi_eq (by decide)).trans (errors.csi_eq (by decide))) p).trans (csiPort_frameClosed how hc)
  refine Gives.onUnit (exec_csiFrameComplete hvc how) hp ?_
  rw [dropped, State.settle_csiPort, port]
  simp only [State.settle_rd]
  rw [counter rfl (by decide) (by decide), counter rfl (by decide) (by decide), counter rfl (by decide) (by decide),
    counter rfl (by decide) (by decide), State.rd_csiCounted_whole, State.rd_csiCounted_frame, State.rd_csiCounted_ecc,
    State.rd_csiCounted_crc]
  repeat rw [State.rd_frameClosed how rfl (by decide)]
  refine ⟨rfl, rfl, rfl, rfl, rfl, fun full => ?_,
    ((((s.frameClosed_onlyIn p vc how).mono (by decide)).step errors (by decide)).step drops (by decide)).settle⟩
  rw [State.settle_fstat, State.frameDropped, State.fstat, drops.guard_eq (by decide)]
  exact State.csiErrors_overflow broken full

end

/-- Settles O39, packet by packet: a frame's start, its lines, and its end, whole or damaged. -/
theorem cameraFramesAreTaken : Obligations.CameraFramesAreTaken := by
  unfold Obligations.CameraFramesAreTaken
  intro s p vc c hp hvc hc
  have packet (k : CsiPacket) : exec (.csiPacketReceive p vc k) s = onUnit p 4 s (s.csiPacket p vc k) :=
    congrArg (onUnit p 4 s) (if_pos hvc)
  refine ⟨fun on => ⟨fun one => ?_, frameStart_gives hp hc on (packet .frameStart)⟩, fun off => ⟨?_, ?_, fun how => ?_⟩, ?_,
    fun dt pixels lines data => ⟨fun off => ?_, csiPacketReceive_long hp hvc hc⟩, fun how on => ?_⟩
  · exact frameStart_gives hp hc on (congrArg (onUnit p 4 s) (if_pos ⟨one, by omega⟩))
  · exact exec_onUnit_same (u := if 1 ≤ vc ∧ vc ≤ 3 then s.frameStart p vc else s) rfl hp
      (by rw [State.frameStart_off off, ite_self])
  · exact exec_onUnit_same (packet .frameStart) hp (State.frameStart_off off)
  · exact exec_onUnit_same (exec_csiFrameComplete hvc how) hp (State.frameEnd_off off)
  · exact exec_onUnit_same (packet .shortOther) hp rfl
  · exact exec_onUnit_same (packet (.long dt pixels lines data)) hp (State.longPacket_off off)
  · rw [← CsiPort.inProgress]
    cases found : c.inProgress vc with
    | none =>
      exact ⟨fun sound => by simp at sound, fun _ =>
        csiFrameComplete_damaged hp hvc hc (State.frameEnd_none hc on found)⟩
    | some f =>
      exact ⟨fun sound cell => csiFrameComplete_whole hp hvc hc (State.frameEnd_whole hc on found sound cell),
        fun bad => csiFrameComplete_damaged hp hvc hc (State.frameEnd_damaged hc on found bad)⟩

end Sys2Proof.Machine
end

section
namespace Sys2Proof.Machine

/-! Ethernet ports, and the frame that a free port starts (R203, R209). -/

variable {ps : List Part} {r s t : State} {m q : Nat} {x : EthPort} {f : TxFrame} {rest : List TxFrame}

theorem OnlyIn.queues_eq (h : OnlyIn ps s t) (hp : Part.queues ∉ ps) : t.queues = s.queues :=
  (h .queues).resolve_left hp

theorem State.setQueue_onlyIn (s : State) (q : Nat) (x : Queue) : OnlyIn [.queues] s (s.setQueue q x) := by
  intro p; cases p <;> first | exact .inr rfl | exact .inl (by decide)

theorem State.queue_congr (h : t.queues = s.queues) (q : Nat) : t.queue q = s.queue q := by
  rw [State.queue, h, State.queue]

theorem State.ethPort_congr (h : t.eth = s.eth) (m : Nat) : t.ethPort m = s.ethPort m := by
  rw [State.ethPort, h, State.ethPort]

@[simp] theorem State.settle_ethPort (s : State) (m : Nat) : s.settle.ethPort m = s.ethPort m := rfl
@[simp] theorem State.settle_queue (s : State) (q : Nat) : s.settle.queue q = s.queue q := rfl

theorem ethPort_of (h : s.eth[m]? = some x) : s.ethPort m = x := by simp [State.ethPort, lget, h]

theorem getElem?_modEth (g : EthPort → EthPort) (h : s.eth[m]? = some x) : (s.modEth m g).eth[m]? = some (g x) := by
  simp [State.modEth, getElem?_lmod, h]

theorem ethPort_modEth (g : EthPort → EthPort) (h : s.eth[m]? = some x) : (s.modEth m g).ethPort m = g x :=
  ethPort_of (getElem?_modEth g h)

/-! The start of a frame (R203, R210). -/

/-- What the start of a frame leaves of a port: its link, and all that the clock has of offsets and pulses. -/
structure EthPort.SendsFrom (x y : EthPort) : Prop where
  link : y.link = x.link
  ptpState : y.ptpState = x.ptpState
  offset : y.offset = x.offset
  pps : y.pps = x.pps

theorem EthPort.SendsFrom.trans {x y z : EthPort} (h : x.SendsFrom y) (k : y.SendsFrom z) : x.SendsFrom z :=
  ⟨k.link.trans h.link, k.ptpState.trans h.ptpState, k.offset.trans h.offset, k.pps.trans h.pps⟩

theorem State.sendFrame_onlyIn (s : State) (m q : Nat) (f : TxFrame) : OnlyIn [.eth] s (s.sendFrame m q f) :=
  s.modEth_onlyIn m _

theorem getElem?_sendFrame (h : s.eth[m]? = some x) : ∃ y, (s.sendFrame m q f).eth[m]? = some y ∧ x.SendsFrom y ∧
    y.sending = some (q, f) ∧ y.sendEnd = s.clock.ps + f.charge * s.bytePs m :=
  ⟨_, getElem?_modEth _ h, ⟨rfl, rfl, rfl, rfl⟩, rfl, rfl⟩

/-- The head frame of a queue is taken, and its charge from the credit; a late packet of an encode is counted (R202, R205). -/
def State.takeHead (s : State) (q : Nat) (f : TxFrame) (rest : List TxFrame) : State :=
  let u := s.touchQueue q
  let x := u.queue q
  let credit := x.credit - (f.charge * 10 ^ 9 : Nat)
  let v := u.setQueue q { x with frames := rest, credit := if rest.isEmpty ∧ 0 < credit then 0 else credit }
  if f.isEncode && decide (u.tick.periodNs * 1000 < u.clock.ps - f.queuedPs) then v.bump TRF_Q_LATE_COUNT q else v

theorem State.takeHead_onlyIn (s : State) (q : Nat) (f : TxFrame) (rest : List TxFrame) :
    OnlyIn [.regs, .queues] s (s.takeHead q f rest) := by
  have taken (x y : Queue) : OnlyIn [.regs, .queues] s ((s.setQueue q x).setQueue q y) :=
    ((OnlyIn.refl _ s).step (s.setQueue_onlyIn q x) (by decide)).step (State.setQueue_onlyIn _ q y) (by decide)
  exact .ite ((taken _ _).step (State.bump_onlyIn _ _ _) (by decide)) (taken _ _)

theorem State.queue_takeHead (s : State) (q : Nat) (f : TxFrame) (rest : List TxFrame) :
    ((s.takeHead q f rest).queue q).frames = rest := by
  have held (v : State) (c : Prop) [Decidable c] : (if c then v.bump TRF_Q_LATE_COUNT q else v).queue q = v.queue q := by
    split <;> rfl
  exact (congrArg Queue.frames (held _ _)).trans (congrArg Queue.frames (State.queue_setQueue_same _ _ _))

/-- A port's setting is no count of late packets. -/
theorem State.bytePs_takeHead (s : State) (m q : Nat) (f : TxFrame) (rest : List TxFrame) :
    (s.takeHead q f rest).bytePs m = s.bytePs m := by
  have cfg : (s.takeHead q f rest).rd ETH_CFG m = s.rd ETH_CFG m := by
    unfold State.takeHead
    dsimp only
    split
    · exact State.rd_bump_other _ _ _ _ _ _ (by simp only [RegDef.at, ETH_CFG, TRF_Q_LATE_COUNT]; omega)
    · rfl
  simp only [State.bytePs, State.fld, cfg]

/-! What a port does when it may start a frame (R203). -/

/-- A port without a link, or that sends already, starts nothing; nor does any in SAFE. -/
theorem State.startPort_busy (h : (s.ethPort m).link = false ∨ (s.ethPort m).sending.isSome = true ∨ s.guard.safe = true) :
    s.startPort m = s := if_pos h

section
variable (free : ¬ ((s.ethPort m).link = false ∨ (s.ethPort m).sending.isSome = true ∨ s.guard.safe = true))
include free

/-- A frame of the PTP clock goes first. -/
theorem State.startPort_ptp (waits : (s.ethPort m).ptpQueue = f :: rest) :
    s.startPort m = (s.modEth m (fun e => { e with ptpQueue := rest })).sendFrame m 16 f := by
  unfold State.startPort
  rw [if_neg free]
  dsimp only
  rw [waits]

section
variable (quiet : (s.ethPort m).ptpQueue = [])
include quiet

theorem State.startPort_none (h : (List.range 16).find? (fun q => s.qPort q == m && s.eligible q) = none) :
    s.startPort m = s := by
  unfold State.startPort
  rw [if_neg free]
  dsimp only
  rw [quiet, h]

theorem State.startPort_queue (h : (List.range 16).find? (fun q => s.qPort q == m && s.eligible q) = some q)
    (head : (s.queue q).frames = f :: rest) : s.startPort m = (s.takeHead q f rest).sendFrame m q f := by
  have touched : ((s.touchQueue q).queue q).frames = f :: rest := by rw [State.touchQueue, State.queue_setQueue_same, head]
  unfold State.startPort
  rw [if_neg free]
  dsimp only
  rw [quiet, h]
  dsimp only
  rw [touched]
  rfl

end
end

/-- A queue without frames may start none. -/
theorem State.not_eligible (h : (s.queue q).frames = []) : s.eligible q = false := by simp [State.eligible, h]

/-- A port starts nothing where nothing waits. -/
theorem State.startPort_empty (clock : (s.ethPort m).ptpQueue = []) (queues : ∀ q, q < 16 → (s.queue q).frames = []) :
    s.startPort m = s := by
  by_cases busy : (s.ethPort m).link = false ∨ (s.ethPort m).sending.isSome = true ∨ s.guard.safe = true
  · exact State.startPort_busy busy
  · refine State.startPort_none busy clock (List.find?_eq_none.mpr fun q hq => ?_)
    simp [State.not_eligible (queues q (List.mem_range.mp hq))]

/-- Either a port starts nothing, or it takes one frame out and sends it, from a state in which the port's link and clock are
as they were. -/
theorem State.startPort_cases (s : State) (m : Nat) : s.startPort m = s ∨ ∃ u q f, s.startPort m = u.sendFrame m q f ∧
    OnlyIn [.regs, .queues, .eth] s u ∧ ∀ x, s.eth[m]? = some x → ∃ y, u.eth[m]? = some y ∧ x.SendsFrom y := by
  by_cases busy : (s.ethPort m).link = false ∨ (s.ethPort m).sending.isSome = true ∨ s.guard.safe = true
  · exact .inl (State.startPort_busy busy)
  · cases waits : (s.ethPort m).ptpQueue with
    | cons f rest =>
      exact .inr ⟨_, 16, f, State.startPort_ptp busy waits, (s.modEth_onlyIn m _).mono (by decide),
        fun x h => ⟨_, getElem?_modEth _ h, rfl, rfl, rfl, rfl⟩⟩
    | nil =>
      cases first : (List.range 16).find? (fun q => s.qPort q == m && s.eligible q) with
      | none => exact .inl (State.startPort_none busy waits first)
      | some q =>
        cases head : (s.queue q).frames with
        | nil => simp [State.not_eligible head] at first
        | cons f rest =>
          have only := s.takeHead_onlyIn q f rest
          exact .inr ⟨_, q, f, State.startPort_queue busy waits first head, only.mono (by decide),
            fun x h => ⟨x, by rw [only.eth_eq (by decide), h], rfl, rfl, rfl, rfl⟩⟩

/-- All that a port changes when it may start a frame: a queue, the count of late packets, and the port. -/
theorem State.startPort_onlyIn (s : State) (m : Nat) : OnlyIn [.regs, .queues, .eth] s (s.startPort m) := by
  rcases s.startPort_cases m with same | ⟨u, q, f, sends, only, _⟩
  · rw [same]
    exact .refl _ s
  · rw [sends]
    exact only.step (u.sendFrame_onlyIn m q f) (by decide)

/-- What it leaves of the port. -/
theorem State.getElem?_startPort (h : s.eth[m]? = some x) : ∃ y, (s.startPort m).eth[m]? = some y ∧ x.SendsFrom y := by
  rcases s.startPort_cases m with same | ⟨u, q, f, sends, _, port⟩
  · exact ⟨x, by rw [same, h], rfl, rfl, rfl, rfl⟩
  · obtain ⟨y, hy, before⟩ := port x h
    obtain ⟨z, hz, after, _, _⟩ := getElem?_sendFrame (q := q) (f := f) hy
    exact ⟨z, by rw [sends, hz], before.trans after⟩

/-- With a frame of the clock waiting, only the port changes. -/
theorem State.startPort_clock_onlyIn (h : (s.ethPort m).ptpQueue ≠ []) : OnlyIn [.eth] s (s.startPort m) := by
  by_cases busy : (s.ethPort m).link = false ∨ (s.ethPort m).sending.isSome = true ∨ s.guard.safe = true
  · rw [State.startPort_busy busy]
    exact .refl _ s
  · obtain ⟨f, rest, waits⟩ := List.exists_cons_of_ne_nil h
    rw [State.startPort_ptp busy waits]
    exact (s.modEth_onlyIn m _).trans (State.sendFrame_onlyIn _ m 16 f)

end Sys2Proof.Machine
end

section
namespace Sys2Proof.Machine

/-! The PTP clock of a port: what a Sync message, its absence and a pulse make of the port (R211, R212, R563). -/

variable {s t : State} {m : Nat} {x : EthPort} {b : List Byte}

/-! The tick loses its source (R54). -/

theorem State.enterHoldover_onlyIn (s : State) (reason : Nat) :
    OnlyIn [.regs, .tick, .hif, .log, .guard] s (s.enterHoldover reason) := by
  have told (c n : Nat) (l : List Nat) (p : Prop) [Decidable p] :
      OnlyIn [.regs, .tick, .hif, .log, .guard] s (if p then s else s.event c n l) :=
    .ite (.refl _ s) ((s.event_onlyIn c n l).mono (by decide))
  unfold State.enterHoldover
  exact .ite ((((told _ _ _ _).tick (by decide)).step (State.bump_onlyIn _ _ _) (by decide)).step
    (State.raiseCond_onlyIn _ _ _) (by decide)) (.refl _ s)

/-- A locked or acquiring timer enters holdover. -/
theorem State.enterHoldover_srcState (follows : s.tick.srcState = 1 ∨ s.tick.srcState = 2) (reason : Nat) :
    (s.enterHoldover reason).tick.srcState = 3 := by
  unfold State.enterHoldover
  rw [if_pos follows]
  exact congrArg Tick.srcState ((State.raiseCond_onlyIn _ _ _).tick_eq (by decide))

/-- No fault status bit is cleared. -/
theorem Steady.enterHoldover {r : State} {reason : Nat} (h : Steady r s) : Steady r (s.enterHoldover reason) := by
  unfold State.enterHoldover
  have told (c n : Nat) (l : List Nat) (p : Prop) [Decidable p] : Steady r (if p then s else s.event c n l) :=
    h.ite (h.of_onlyIn (s.event_onlyIn c n l) (by decide) (by decide))
  exact Steady.ite (Steady.raiseCond (Steady.bump (Steady.upd (told _ _ _ _) rfl rfl))) h

/-! A port leaves the synchronised state (R54, R212). -/

/-- The port without its synchronisation. -/
def EthPort.unsynced (state : Nat) (x : EthPort) : EthPort :=
  { x with ptpState := state, good := 0, bad := 0, pps := false }

/-- TRF 0x0704 is raised for the port that leaves. -/
def State.syncLost (s : State) (m state : Nat) : State :=
  (s.modEth m (EthPort.unsynced state)).raiseCond 0x0704 { source := m }

theorem State.syncLost_onlyIn (s : State) (m state : Nat) :
    OnlyIn [.regs, .hif, .eth, .log, .guard] s (s.syncLost m state) :=
  ((s.modEth_onlyIn m _).mono (by decide)).step (State.raiseCond_onlyIn _ _ _) (by decide)

theorem State.ptpLeave_eq (s : State) (m state : Nat) : s.ptpLeave m state =
    if s.tick.src = 3 ∧ s.tick.ptpPort = m then
      { (s.syncLost m state).enterHoldover 1 with
        tick := { ((s.syncLost m state).enterHoldover 1).tick with run := 0, edges := [] } }
    else s.syncLost m state := by
  have tick := (s.syncLost_onlyIn m state).tick_eq (by decide)
  rw [← tick]
  rfl

theorem State.ptpLeave_onlyIn (s : State) (m state : Nat) :
    OnlyIn [.regs, .tick, .hif, .eth, .log, .guard] s (s.ptpLeave m state) := by
  have lost := (s.syncLost_onlyIn m state).mono (qs := [.regs, .tick, .hif, .eth, .log, .guard]) (by decide)
  rw [State.ptpLeave_eq]
  exact .ite ((lost.step (State.enterHoldover_onlyIn _ 1) (by decide)).tick (by decide)) lost

theorem State.getElem?_ptpLeave (state : Nat) (h : s.eth[m]? = some x) :
    (s.ptpLeave m state).eth[m]? = some (x.unsynced state) := by
  have raised : (s.syncLost m state).eth = (s.modEth m (EthPort.unsynced state)).eth :=
    (State.raiseCond_onlyIn _ _ _).eth_eq (by decide)
  have held : (s.ptpLeave m state).eth = (s.syncLost m state).eth := by
    rw [State.ptpLeave_eq]
    split
    · exact (State.enterHoldover_onlyIn _ 1).eth_eq (by decide)
    · rfl
  rw [held, raised]
  exact getElem?_modEth _ h

/-- The loss is shown in the status of the TRF block. -/
theorem State.ptpLeave_status (s : State) (m state : Nat) : bitAt ((s.ptpLeave m state).fstat 7) 3 = true := by
  have raised : bitAt ((s.syncLost m state).fstat 7) 3 = true := State.raiseCond_sets _ 0x0704 _
  rw [State.ptpLeave_eq]
  split
  · exact (Steady.refl (s.syncLost m state)).enterHoldover.status 7 3 raised
  · exact raised

/-- Where the port is the tick source, the tick is in holdover at once. -/
theorem State.ptpLeave_holdover (state : Nat) (src : s.tick.src = 3) (port : s.tick.ptpPort = m)
    (follows : s.tick.srcState = 1 ∨ s.tick.srcState = 2) : (s.ptpLeave m state).tick.srcState = 3 := by
  have tick := (s.syncLost_onlyIn m state).tick_eq (by decide)
  rw [State.ptpLeave_eq, if_pos ⟨src, port⟩]
  exact State.enterHoldover_srcState (tick.symm ▸ follows) 1

/-! An offset from the master (R212). -/

/-- An offset that is near the master's time. -/
abbrev State.nearMaster (s : State) (m : Nat) (offset : Int) : Bool :=
  decide (offset.natAbs ≤ s.fld TRF_PTP_CTL 31 16 m)

/-- The port with an offset counted, its clock steered to `time`, and a delay request to send. -/
def EthPort.measured (offset : Int) (good bad : Nat) (req : TxFrame) (time now : Nat) (x : EthPort) : EthPort :=
  { x with offset := offset, good := min 8 good, bad := min 4 bad, ptpQueue := x.ptpQueue ++ [req],
           ptp := { x.ptp with reqSeq := (x.ptp.reqSeq + 1) % 65536, baseNs := time, basePs := now } }

/-- Offsets within the threshold in a row, this one included. -/
def State.goodRun (s : State) (m : Nat) (offset : Int) : Nat := if s.nearMaster m offset then (s.ethPort m).good + 1 else 0

/-- Offsets beyond the threshold in a row, this one included. -/
def State.badRun (s : State) (m : Nat) (offset : Int) : Nat := if s.nearMaster m offset then 0 else (s.ethPort m).bad + 1

/-- The offset has been counted, and not yet judged. -/
def State.measured (s : State) (m : Nat) (offset : Int) : State :=
  { s with fresh := s.fresh + 2 }.modEth m (EthPort.measured offset (s.goodRun m offset) (s.badRun m offset)
    (s.delayRequest m) (Config.free (s.fresh + 1)) s.clock.ps)

/-- The port synchronises, and the cause of TRF 0x0704 ends. -/
def State.synchronised (s : State) (m : Nat) : State := (s.modEth m (fun x => { x with ptpState := 3 })).gone 0x0704 m

/-- The state of the port follows the runs of offsets; then a free port sends the delay request. -/
theorem State.ptpOffset_eq (s : State) (m : Nat) (offset : Int) : s.ptpOffset m offset =
    (if (s.ethPort m).ptpState = 3 then
      (if 4 ≤ s.badRun m offset then (s.measured m offset).ptpLeave m 2 else s.measured m offset)
    else if 8 ≤ s.goodRun m offset then (s.measured m offset).synchronised m
    else (s.measured m offset).modEth m (fun x => { x with ptpState := 2 })).startPort m := rfl

theorem State.measured_onlyIn (s : State) (m : Nat) (offset : Int) : OnlyIn [.eth, .fresh] s (s.measured m offset) := by
  intro p; cases p <;> first | exact .inr rfl | exact .inl (by decide)

theorem State.synchronised_onlyIn (s : State) (m : Nat) : OnlyIn [.eth, .guard] s (s.synchronised m) :=
  ((s.modEth_onlyIn m _).mono (by decide)).step (State.gone_onlyIn _ _ _) (by decide)

/-- The port has the offset and a frame of its clock to send. -/
def EthPort.Counted (y : EthPort) (state : Nat) (offset : Int) : Prop :=
  y.ptpState = state ∧ y.offset = offset ∧ y.ptpQueue ≠ []

theorem State.getElem?_measured (h : s.eth[m]? = some x) (offset : Int) :
    ∃ y, (s.measured m offset).eth[m]? = some y ∧ y.Counted x.ptpState offset :=
  ⟨_, getElem?_modEth _ h, rfl, rfl, by simp [EthPort.measured]⟩

/-- What the judged port leaves once its delay request may go: only the port changes with it. -/
theorem State.startPort_counted {y : EthPort} {state : Nat} {offset : Int} (h : s.eth[m]? = some y)
    (counted : y.Counted state offset) : ((s.startPort m).ethPort m).ptpState = state ∧
    ((s.startPort m).ethPort m).offset = offset ∧ ((s.startPort m).ethPort m).pps = y.pps ∧
    OnlyIn [.eth] s (s.startPort m) := by
  obtain ⟨state, offset, waits⟩ := counted
  obtain ⟨z, found, kept⟩ := State.getElem?_startPort h
  rw [ethPort_of found]
  exact ⟨kept.ptpState.trans state, kept.offset.trans offset, kept.pps,
    State.startPort_clock_onlyIn (by rwa [ethPort_of h])⟩

section
variable (h : s.eth[m]? = some x) {offset : Int}
include h

/-- The eighth offset in a row within the threshold synchronises the port. -/
theorem State.ptpOffset_locks (near : s.nearMaster m offset = true) (good : 7 ≤ x.good) (out : x.ptpState ≠ 3) :
    ((s.ptpOffset m offset).ethPort m).ptpState = 3 ∧ ((s.ptpOffset m offset).ethPort m).offset = offset ∧
    (s.ptpOffset m offset).guard.live.contains (0x0704, m) = false ∧
    OnlyIn [.eth, .guard, .fresh] s (s.ptpOffset m offset) := by
  have run : 8 ≤ s.goodRun m offset := by rw [State.goodRun, if_pos near, ethPort_of h]; omega
  rw [State.ptpOffset_eq, ethPort_of h, if_neg out, if_pos run]
  obtain ⟨y, found, _, counted⟩ := State.getElem?_measured h offset
  have port : ((s.measured m offset).synchronised m).eth[m]? = some { y with ptpState := 3 } := getElem?_modEth _ found
  obtain ⟨state, offset, _, only⟩ := State.startPort_counted port ⟨rfl, counted⟩
  refine ⟨state, offset, ?_, ?_⟩
  · rw [only.guard_eq (by decide)]
    exact State.gone_not_live _ _ _
  · exact (((s.measured_onlyIn m _).mono (by decide)).step (State.synchronised_onlyIn _ m) (by decide)).step only (by decide)

theorem State.ptpOffset_acquires (few : s.nearMaster m offset = false ∨ x.good < 7) (out : x.ptpState ≠ 3) :
    ((s.ptpOffset m offset).ethPort m).ptpState = 2 ∧ ((s.ptpOffset m offset).ethPort m).offset = offset ∧
    OnlyIn [.eth, .fresh] s (s.ptpOffset m offset) := by
  have run : ¬ 8 ≤ s.goodRun m offset := by
    unfold State.goodRun
    rw [ethPort_of h]
    rcases few with far | few
    · simp [far]
    · split <;> omega
  rw [State.ptpOffset_eq, ethPort_of h, if_neg out, if_neg run]
  obtain ⟨y, found, _, counted⟩ := State.getElem?_measured h offset
  obtain ⟨state, offset, _, only⟩ := State.startPort_counted (getElem?_modEth (fun x => { x with ptpState := 2 }) found)
    ⟨rfl, counted⟩
  exact ⟨state, offset, ((s.measured_onlyIn m _).step (State.modEth_onlyIn _ m _) (by decide)).step only (by decide)⟩

theorem State.ptpOffset_holds (few : s.nearMaster m offset = true ∨ x.bad < 3) (locked : x.ptpState = 3) :
    ((s.ptpOffset m offset).ethPort m).ptpState = 3 ∧ ((s.ptpOffset m offset).ethPort m).offset = offset ∧
    OnlyIn [.eth, .fresh] s (s.ptpOffset m offset) := by
  have run : ¬ 4 ≤ s.badRun m offset := by
    unfold State.badRun
    rw [ethPort_of h]
    rcases few with near | few
    · simp [near]
    · split <;> omega
  rw [State.ptpOffset_eq, ethPort_of h, if_pos locked, if_neg run]
  obtain ⟨y, found, counted⟩ := State.getElem?_measured h offset
  obtain ⟨state, offset, _, only⟩ := State.startPort_counted found counted
  exact ⟨state.trans locked, offset, (s.measured_onlyIn m _).step only (by decide)⟩

/-- The fourth in a row beyond it ends the synchronisation. -/
theorem State.ptpOffset_leaves (far : s.nearMaster m offset = false) (bad : 3 ≤ x.bad) (locked : x.ptpState = 3) :
    ((s.ptpOffset m offset).ethPort m).ptpState = 2 ∧ ((s.ptpOffset m offset).ethPort m).pps = false ∧
    bitAt ((s.ptpOffset m offset).fstat 7) 3 = true ∧
    (s.tick.src = 3 → s.tick.ptpPort = m → (s.tick.srcState = 1 ∨ s.tick.srcState = 2) →
      (s.ptpOffset m offset).tick.srcState = 3) ∧
    OnlyIn [.regs, .tick, .hif, .eth, .log, .guard, .fresh] s (s.ptpOffset m offset) := by
  have run : 4 ≤ s.badRun m offset := by rw [State.badRun, if_neg (by simp [far]), ethPort_of h]; omega
  rw [State.ptpOffset_eq, ethPort_of h, if_pos locked, if_pos run]
  obtain ⟨y, found, _, counted⟩ := State.getElem?_measured h offset
  have counting := s.measured_onlyIn m offset
  obtain ⟨state, _, pps, only⟩ := State.startPort_counted (State.getElem?_ptpLeave 2 found) ⟨rfl, counted⟩
  refine ⟨state, pps, ?_, fun src port follows => ?_, ?_⟩
  · rw [only.fstat_eq (by decide)]
    exact State.ptpLeave_status _ m 2
  · rw [only.tick_eq (by decide)]
    rw [← counting.tick_eq (by decide)] at src port follows
    exact State.ptpLeave_holdover 2 src port follows
  · exact ((counting.mono (by decide)).step (State.ptpLeave_onlyIn _ m 2) (by decide)).step only (by decide)

end

/-! A Sync message (R212). -/

theorem State.modPtp_onlyIn (s : State) (m : Nat) (f : PtpClock → PtpClock) : OnlyIn [.eth] s (s.modPtp m f) :=
  s.modEth_onlyIn m _

theorem getElem?_modPtp (f : PtpClock → PtpClock) (h : s.eth[m]? = some x) :
    (s.modPtp m f).eth[m]? = some { x with ptp := f x.ptp } := getElem?_modEth _ h

/-- A message for no clock changes nothing. -/
theorem State.ptpMessage_off (h : s.ptpOn m = false ∨ s.ptpHeaderOk m b = false) (t2 : Nat) : s.ptpMessage m b t2 = s :=
  if_pos h

/-- A Sync of the selected master is dated. -/
def State.syncDated (s : State) (m : Nat) (b : List Byte) : State :=
  s.modPtp m (fun c => { c with syncPs := s.clock.ps, intervalPs := ptpInterval b })

theorem State.getElem?_syncDated (h : s.eth[m]? = some x) (b : List Byte) : (s.syncDated m b).eth[m]? =
    some { x with ptp := { x.ptp with syncPs := s.clock.ps, intervalPs := ptpInterval b } } := getElem?_modPtp _ h

/-- A one-step Sync has given its send time and its receive stamp. -/
def State.syncTimed (s : State) (m : Nat) (b : List Byte) (t2 : Nat) : State :=
  (s.syncDated m b).modPtp m (fun c => { c with sync := none, last := some (ptpStamp b + ptpCorrection b, t2) })

theorem State.syncTimed_onlyIn (s : State) (m : Nat) (b : List Byte) (t2 : Nat) : OnlyIn [.eth] s (s.syncTimed m b t2) :=
  (s.modPtp_onlyIn m _).trans (State.modPtp_onlyIn _ m _)

/-- The measured delay of the path stands. -/
theorem State.getElem?_syncTimed (h : s.eth[m]? = some x) (b : List Byte) (t2 : Nat) :
    ∃ c, (s.syncTimed m b t2).eth[m]? = some { x with ptp := c } ∧ c.delay = x.ptp.delay := by
  have found := getElem?_modPtp (fun c => { c with sync := none, last := some (ptpStamp b + ptpCorrection b, t2) })
    (State.getElem?_syncDated h b)
  exact ⟨_, found, rfl⟩

section
variable (on : s.ptpOn m = true) (header : s.ptpHeaderOk m b = true) (type : ptpType b = 0)
  (master : s.fromMaster m b = true)
include on header type master

theorem State.ptpMessage_sync (t2 : Nat) : s.ptpMessage m b t2 = s.ptpSync m b t2 := by
  have taken : ¬ (s.ptpOn m = false ∨ s.ptpHeaderOk m b = false) := by simp [on, header]
  unfold State.ptpMessage
  rw [if_neg taken, type]
  exact if_pos master

theorem State.ptpMessage_twoStep (two : ptpTwoStep b = true) (t2 : Nat) : s.ptpMessage m b t2 =
    (s.syncDated m b).modPtp m (fun c => { c with sync := some (ptpSeq b, t2, ptpCorrection b) }) :=
  (State.ptpMessage_sync on header type master t2).trans (if_pos two)

theorem State.ptpMessage_oneStep (h : s.eth[m]? = some x) (one : ptpTwoStep b = false) (t2 : Nat) :
    s.ptpMessage m b t2 =
      (s.syncTimed m b t2).ptpOffset m ((t2 : Int) - (ptpStamp b + ptpCorrection b) - x.ptp.delay) := by
  have delay : ((s.syncTimed m b t2).ethPort m).ptp.delay = x.ptp.delay := by
    obtain ⟨c, found, delay⟩ := State.getElem?_syncTimed h b t2
    rw [ethPort_of found, delay]
  rw [State.ptpMessage_sync on header type master, ← delay]
  exact if_neg (by simp [one])

end

/-- A message is stamped at its start-of-frame delimiter. -/
theorem exec_ptpSyncMessage (b : List Byte) (sfd : Nat) : exec (.ptpSyncMessage m ⟨b, sfd⟩) s =
    onUnit m 2 s (s.ptpMessage m b (s.stamp m (1000 * sfd))) := rfl

/-! No Sync in time (R212). -/

theorem State.ptpTimeout_synced (h : s.eth[m]? = some x) (locked : x.ptpState = 3) :
    s.ptpTimeout m = (s.advanceTo (x.ptp.syncPs + 4 * x.ptp.intervalPs)).ptpLeave m 1 := by
  unfold State.ptpTimeout
  rw [ethPort_of h, locked]
  rfl

theorem State.ptpTimeout_acquiring (h : s.eth[m]? = some x) (acquiring : x.ptpState = 2) :
    s.ptpTimeout m = s.modEth m (fun x => { x with ptpState := 1, good := 0, bad := 0 }) := by
  unfold State.ptpTimeout
  rw [ethPort_of h, acquiring]
  rfl

theorem State.ptpTimeout_other (h : s.eth[m]? = some x) (other : x.ptpState ≠ 2 ∧ x.ptpState ≠ 3) : s.ptpTimeout m = s := by
  unfold State.ptpTimeout
  rw [ethPort_of h]
  split
  · next locked => exact absurd locked other.2
  · next acquiring => exact absurd acquiring other.1
  · rfl

/-! PPS pulses (R563). -/

/-- The pulse is high. -/
def EthPort.pulsing (x : EthPort) : EthPort := { x with pps := true }

theorem State.toSecond_onlyIn (s : State) (m : Nat) : OnlyIn [.clock] s (s.toSecond m) := s.advanceTo_onlyIn _

/-- Keeper time reaches the whole second of the port's time. -/
theorem State.le_toSecond (h : s.eth[m]? = some x) (second : Nat)
    (next : ceilDiv (s.ptpTime m s.clock.ps) (10 ^ 9) * 10 ^ 9 = second) :
    second ≤ x.ptp.baseNs + ((s.toSecond m).clock.ps - x.ptp.basePs) / 1000 := by
  have reached : x.ptp.basePs + 1000 * (second - x.ptp.baseNs) ≤ (s.toSecond m).clock.ps := by
    rw [← next, ← ethPort_of h]
    exact s.le_advanceTo _
  omega

/-! The commands. -/

section
variable (hm : m < 2) (h : s.eth[m]? = some x)
include hm h

theorem ptpSyncMessage_twoStep (sfd : Nat) (on : s.ptpOn m = true) (header : s.ptpHeaderOk m b = true)
    (type : ptpType b = 0) (master : s.fromMaster m b = true) (two : ptpTwoStep b = true) :
    Gives (.ptpSyncMessage m ⟨b, sfd⟩) s (fun t =>
      (t.ethPort m).ptpState = x.ptpState ∧ (t.ethPort m).offset = x.offset ∧ OnlyIn [.eth] s t) := by
  refine Gives.onUnit (exec_ptpSyncMessage b sfd) hm ?_
  rw [State.ptpMessage_twoStep on header type master two, State.settle_ethPort,
    ethPort_of (getElem?_modPtp _ (State.getElem?_syncDated h b))]
  exact ⟨rfl, rfl, ((s.modPtp_onlyIn m _).trans (State.modPtp_onlyIn _ m _)).settle⟩

/-- A one-step Sync gives what its offset gives, from the state in which it has been timed. -/
theorem ptpSyncMessage_oneStep (sfd : Nat) (on : s.ptpOn m = true) (header : s.ptpHeaderOk m b = true)
    (type : ptpType b = 0) (master : s.fromMaster m b = true) (one : ptpTwoStep b = false) :
    ∃ u c, OnlyIn [.eth] s u ∧ u.eth[m]? = some { x with ptp := c } ∧ exec (.ptpSyncMessage m ⟨b, sfd⟩) s =
      .next (u.ptpOffset m ((s.stamp m (1000 * sfd) : Int) - (ptpStamp b + ptpCorrection b) - x.ptp.delay)).settle := by
  obtain ⟨c, found, _⟩ := State.getElem?_syncTimed h b (s.stamp m (1000 * sfd))
  refine ⟨_, c, s.syncTimed_onlyIn m b _, found, ?_⟩
  rw [exec_ptpSyncMessage, State.ptpMessage_oneStep on header type master h one]
  exact onUnit_lt _ _ hm

theorem ptpSyncTimeout_synced (locked : x.ptpState = 3) : Gives (.ptpSyncTimeout m) s (fun t =>
    (t.ethPort m).ptpState = 1 ∧ (t.ethPort m).good = 0 ∧ bitAt (t.fstat 7) 3 = true ∧
    x.ptp.syncPs + 4 * x.ptp.intervalPs ≤ t.clock.ps ∧
    (s.tick.src = 3 → s.tick.ptpPort = m → (s.tick.srcState = 1 ∨ s.tick.srcState = 2) → t.tick.srcState = 3) ∧
    OnlyIn [.regs, .clock, .tick, .hif, .eth, .log, .guard] s t) := by
  have waited := s.advanceTo_onlyIn (x.ptp.syncPs + 4 * x.ptp.intervalPs)
  have late := s.le_advanceTo (x.ptp.syncPs + 4 * x.ptp.intervalPs)
  refine Gives.onUnit (u := s.ptpTimeout m) rfl hm ?_
  rw [State.ptpTimeout_synced h locked]
  rw [← waited.eth_eq (by decide)] at h
  rw [← waited.tick_eq (by decide)]
  generalize s.advanceTo (x.ptp.syncPs + 4 * x.ptp.intervalPs) = u at h waited late ⊢
  have leaves := u.ptpLeave_onlyIn m 1
  rw [State.settle_ethPort, ethPort_of (State.getElem?_ptpLeave 1 h), State.settle_fstat, State.settle_clock,
    leaves.clock_eq (by decide)]
  exact ⟨rfl, rfl, u.ptpLeave_status m 1, late, State.ptpLeave_holdover 1,
    ((waited.mono (by decide)).step leaves (by decide)).settle⟩

theorem ptpSyncTimeout_acquiring (acquiring : x.ptpState = 2) : Gives (.ptpSyncTimeout m) s (fun t =>
    (t.ethPort m).ptpState = 1 ∧ (t.ethPort m).good = 0 ∧ OnlyIn [.eth] s t) := by
  refine Gives.onUnit (u := s.ptpTimeout m) rfl hm ?_
  rw [State.ptpTimeout_acquiring h acquiring, State.settle_ethPort, ethPort_modEth _ h]
  exact ⟨rfl, rfl, (s.modEth_onlyIn m _).settle⟩

theorem ppsPulseStart_synced (locked : x.ptpState = 3) : Gives (.ppsPulseStart m) s (fun t =>
    (t.ethPort m).pps = true ∧ (t.ethPort m).ptp = x.ptp ∧
    ceilDiv (s.ptpTime m s.clock.ps) (10 ^ 9) * 10 ^ 9 ≤ t.ptpTime m t.clock.ps ∧ OnlyIn [.clock, .eth] s t) := by
  have waited := s.toSecond_onlyIn m
  have found : (s.toSecond m).eth[m]? = some x := by rwa [waited.eth_eq (by decide)]
  have port : ((s.toSecond m).modEth m EthPort.pulsing).settle.ethPort m = x.pulsing := by
    rw [State.settle_ethPort, ethPort_modEth _ found]
  have starts : s.ppsStart m = (s.toSecond m).modEth m EthPort.pulsing := if_pos (by rw [ethPort_of h, locked])
  have time (ps : Nat) : ((s.toSecond m).modEth m EthPort.pulsing).settle.ptpTime m ps =
      x.ptp.baseNs + (ps - x.ptp.basePs) / 1000 := by
    unfold State.ptpTime
    rw [port, EthPort.pulsing]
  refine Gives.onUnit (u := s.ppsStart m) rfl hm ?_
  rw [starts, port, time, State.settle_clock, State.modEth_clock]
  exact ⟨rfl, rfl, State.le_toSecond h _ rfl, ((waited.mono (by decide)).step (State.modEth_onlyIn _ m _) (by decide)).settle⟩

theorem ppsPulseEnd_gives : Gives (.ppsPulseEnd m) s (fun t =>
    (t.ethPort m).pps = false ∧ (t.ethPort m).ptpState = x.ptpState ∧ OnlyIn [.eth] s t) := by
  refine Gives.onUnit (u := s.modEth m (fun x => { x with pps := false })) rfl hm ?_
  rw [State.settle_ethPort, ethPort_modEth _ h]
  exact ⟨rfl, rfl, (s.modEth_onlyIn m _).settle⟩

end

/-- Settles O34, message by message: what its offset makes of the port's state, then the time-outs and the pulses. -/
theorem ptpPortSyncAndLoss : Obligations.PtpPortSyncAndLoss := by
  unfold Obligations.PtpPortSyncAndLoss
  intro s m x hm h
  refine ⟨fun b sfd => ⟨fun off => ?_, fun on header type master =>
      ⟨ptpSyncMessage_twoStep hm h sfd on header type master, fun one => ?_⟩⟩,
    ptpSyncTimeout_synced hm h, ptpSyncTimeout_acquiring hm h, fun other => ?_, ppsPulseStart_synced hm h, fun out => ?_,
    ppsPulseEnd_gives hm h⟩
  · exact exec_onUnit_same (exec_ptpSyncMessage b sfd) hm (State.ptpMessage_off off _)
  · obtain ⟨u, c, timed, found, runs⟩ := ptpSyncMessage_oneStep hm h sfd on header type master one
    dsimp only
    generalize (s.stamp m (1000 * sfd) : Int) - (ptpStamp b + ptpCorrection b) - x.ptp.delay = offset at runs ⊢
    have threshold : u.nearMaster m offset = s.nearMaster m offset := by
      rw [State.nearMaster, State.fld, State.rd_congr (timed.regs_eq (by decide)), State.nearMaster, State.fld]
    refine ⟨fun near good out => Gives.intro runs ?_, fun few out => Gives.intro runs ?_,
      fun few locked => Gives.intro runs ?_, fun far bad locked => Gives.intro runs ?_⟩
    · obtain ⟨state, offset, live, only⟩ := State.ptpOffset_locks found (threshold.trans near) good out
      exact ⟨state, offset, live, ((timed.mono (by decide)).trans only).settle⟩
    · obtain ⟨state, offset, only⟩ := State.ptpOffset_acquires found (few.imp threshold.trans id) out
      exact ⟨state, offset, ((timed.mono (by decide)).trans only).settle⟩
    · obtain ⟨state, offset, only⟩ := State.ptpOffset_holds found (few.imp threshold.trans id) locked
      exact ⟨state, offset, ((timed.mono (by decide)).trans only).settle⟩
    · obtain ⟨state, pps, status, holdover, only⟩ := State.ptpOffset_leaves found (threshold.trans far) bad locked
      rw [timed.tick_eq (by decide)] at holdover
      exact ⟨state, pps, status, holdover, ((timed.mono (by decide)).trans only).settle⟩
  · exact exec_onUnit_same (u := s.ptpTimeout m) rfl hm (State.ptpTimeout_other h other)
  · exact exec_onUnit_same (u := s.ppsStart m) rfl hm (if_neg (by rwa [ethPort_of h]))

end Sys2Proof.Machine
end

section
namespace Sys2Proof.Machine

/-! What the end of a job leaves alone, whatever job it is: the registers but for its counters, the causes that are present, and
the fault status bits that are set (R119 to R121, R344, R354, R410). -/

theorem OnlyIn.log {ps : List Part} {r s : State} (h : OnlyIn ps r s) {x : Log} (hp : Part.log ∈ ps) :
    OnlyIn ps r { s with log := x } :=
  h.trans fun p => by cases p <;> first | exact .inr rfl | exact .inl hp

theorem State.leaveEngines_onlyIn (s : State) (n : Nat) : OnlyIn [.engines] s (s.leaveEngines n) := by
  intro p; cases p <;> first | exact .inr rfl | exact .inl (by decide)

/-- Where the end of a job counts, with all that follows it: its completion, the threads that it wakes, a fault of Class I, and
the free of a cell that is rejected. -/
def endCounters : List Nat :=
  [HIF_CPL_POST_COUNT.at, HIF_CPL_POST_COUNT.at + 4, HIF_INVALID_COUNT.at, HIF_CPL_LOST_COUNT.at, TCK_REFUSE_COUNT.at,
   TCK_DROP_COUNT.at, DEC_CONCEAL_COUNT.at, DEC_LIVE_CPL_LOST_COUNT.at, BPM_LAST_ERR.at, BPM_DOUBLE_FREE_COUNT.at,
   BPM_FREE_REJECT_COUNT.at, BPM_RECLAIM_RACE_COUNT.at, SCH_DISPATCH_COUNT.at, SCH_DISPATCH_COUNT.at + 4,
   SCH_PREEMPT_COUNT.at, SCH_PENDING_SAT_COUNT.at, SCH_TRACE_LOST_COUNT.at, GRD_REACT_COUNT.at, KPR_LOG_LOST.at]

/-- From `r` to `s` a job may have ended, and nothing else. -/
structure JobEnds (r s : State) : Prop where
  parts : OnlyIn (.engines :: endParts) r s
  regs : ∀ (e : Word) (k : Nat), k ∉ endCounters → tget e s.regs k = tget e r.regs k
  live : s.guard.live = r.guard.live
  status : ∀ b k, bitAt (r.fstat b) k = true → bitAt (s.fstat b) k = true

namespace JobEnds

variable {r s t : State}

theorem refl (s : State) : JobEnds s s := ⟨.refl _ s, fun _ _ _ => rfl, rfl, fun _ _ => id⟩

theorem trans (h : JobEnds r s) (k : JobEnds s t) : JobEnds r t where
  parts := h.parts.trans k.parts
  regs e i out := (k.regs e i out).trans (h.regs e i out)
  live := k.live.trans h.live
  status b i set := k.status b i (h.status b i set)

theorem rd (h : JobEnds r s) {d : RegDef} {i j : Nat} (out : d.at i j ∉ endCounters) : s.rd d i j = r.rd d i j :=
  congrArg BitVec.toNat (h.regs _ _ out)

/-- A change beside the registers and the Guard. -/
theorem keep {ps : List Part} (h : JobEnds r s) (k : OnlyIn ps s t)
    (hp : ∀ p ∈ ps, p ∈ [Part.bus, .engines, .hif, .chans, .mem, .bpm, .sch, .log]) : JobEnds r t := by
  have regs : Part.regs ∉ ps := fun c => absurd (hp _ c) (by decide)
  have guard : Part.guard ∉ ps := fun c => absurd (hp _ c) (by decide)
  have within : ∀ p ∈ [Part.bus, .engines, .hif, .chans, .mem, .bpm, .sch, .log], p ∈ Part.engines :: endParts := by decide
  exact h.trans ⟨k.mono fun p c => within p (hp p c), fun e i _ => by rw [k.regs_eq regs], by rw [k.guard_eq guard],
    fun b i set => by rwa [k.fstat_eq guard]⟩

theorem log {x : Log} (h : JobEnds r s) : JobEnds r { s with log := x } :=
  h.keep (ps := [.log]) ((OnlyIn.refl _ s).log (by decide)) (by decide)
theorem hif {x : Hif} (h : JobEnds r s) : JobEnds r { s with hif := x } :=
  h.keep (ps := [.hif]) ((OnlyIn.refl _ s).hif (by decide)) (by decide)
theorem sch {x : Sch} (h : JobEnds r s) : JobEnds r { s with sch := x } :=
  h.keep (ps := [.sch]) ((OnlyIn.refl _ s).sch (by decide)) (by decide)

theorem ite {c : Prop} [Decidable c] (h : JobEnds r s) (k : JobEnds r t) : JobEnds r (if c then s else t) := by
  split <;> assumption

theorem foldl {α : Type} {f : State → α → State} {l : List α} (h : JobEnds r s)
    (hf : ∀ s a, JobEnds r s → JobEnds r (f s a)) : JobEnds r (l.foldl f s) :=
  List.foldlRecOn l f h fun s hs a _ => hf s a hs

/-- A fold that carries something beside the state. -/
theorem foldl_fst {α β : Type} {f : State × β → α → State × β} {b : β} {l : List α} (h : JobEnds r s)
    (hf : ∀ acc a, JobEnds r acc.1 → JobEnds r (f acc a).1) : JobEnds r (l.foldl f (s, b)).1 :=
  List.foldlRecOn (motive := fun acc => JobEnds r acc.1) l f h fun acc hs a _ => hf acc a hs

/-! Counters. -/

theorem wr {d : RegDef} {v : Nat} (h : JobEnds r s) (hd : d.at ∈ endCounters) : JobEnds r (s.wr d 0 0 v) :=
  h.trans ⟨(s.wr_onlyIn d 0 0 v).mono (by decide), fun e k out => s.wr_other d 0 0 v e k fun c => out (c ▸ hd), rfl,
    fun _ _ => id⟩

theorem bump {d : RegDef} (h : JobEnds r s) (hd : d.at ∈ endCounters) : JobEnds r (s.bump d) := h.wr hd

theorem bump64 {d : RegDef} (h : JobEnds r s) (lo : d.at ∈ endCounters) (hi : d.at + 4 ∈ endCounters) :
    JobEnds r (s.bump64 d) :=
  h.trans ⟨(s.bump64_onlyIn d 0 1).mono (by decide),
    fun e k out => s.setCnt64_other d 0 _ e k (fun c => out (c ▸ lo)) (fun c => out (c ▸ hi)), rfl, fun _ _ => id⟩

/-! Faults of Class I. -/

theorem addLog {e : LogEntry} (h : JobEnds r s) : JobEnds r (s.addLog e) := by
  unfold State.addLog
  exact ite (ite h.log (h.log.bump (by decide))) h

theorem event {c n : Nat} {l : List Nat} (h : JobEnds r s) : JobEnds r (s.event c n l) :=
  hif (h.addLog.ite h)

theorem logFault {c : Nat} {a b : FClass} {i : FaultInfo} (h : JobEnds r s) : JobEnds r (s.logFault c a b i) := by
  have counted : JobEnds r (if b = .i then s.bump GRD_REACT_COUNT 0 else s) := (h.bump (by decide)).ite h
  unfold State.logFault
  dsimp only
  split
  · exact counted.log
  · exact counted.addLog.ite counted.addLog.event

theorem setStatus {c : Nat} (h : JobEnds r s) : JobEnds r (s.setStatus c) :=
  h.trans ⟨(s.setStatus_onlyIn c).mono (by decide), fun _ _ _ => rfl, rfl, (Steady.refl s).setStatus.status⟩

theorem raiseI {c : Nat} {i : FaultInfo} (h : JobEnds r s) : JobEnds r (s.raiseI c i) := h.setStatus.logFault

/-! The dispatcher (R354, R356, R358, R359). -/

theorem setThread {n : Nat} {x : Thread} (h : JobEnds r s) : JobEnds r (s.setThread n x) :=
  h.keep (s.setThread_onlyIn n x) (by decide)
theorem setCore {n : Nat} {x : Core} (h : JobEnds r s) : JobEnds r (s.setCore n x) := h.keep (s.setCore_onlyIn n x) (by decide)

theorem trace {a b c d : Nat} {e : Option Nat} {f : Thread} (h : JobEnds r s) : JobEnds r (s.trace a b c d e f) := by
  have lost : JobEnds r (s.bump SCH_TRACE_LOST_COUNT) := h.bump (by decide)
  have dram (a : Nat) (bs : List Byte) : JobEnds r (s.dramWrite a bs) := h.keep (s.dramWrite_onlyIn a bs) (by decide)
  have host (a : Nat) (bs : List Byte) : JobEnds r (s.hostWrite a bs) := h.keep (s.hostWrite_onlyIn a bs) (by decide)
  unfold State.trace
  exact ite (sch (ite (ite (dram _ _) lost) (ite (host _ _) lost))) h

theorem markReady {n : Nat} (h : JobEnds r s) : JobEnds r (s.markReady n) := h.setThread.trace
theorem runOn {n c : Nat} (h : JobEnds r s) : JobEnds r (s.runOn n c) := h.setThread.setCore.bump64 (by decide) (by decide)

theorem dispatchOn {c : Nat} (h : JobEnds r s) : JobEnds r (s.dispatchOn c) := by
  unfold State.dispatchOn
  refine ite ?_ h
  split
  · exact h
  · exact h.runOn.trace

theorem dispatch (h : JobEnds r s) : JobEnds r s.dispatch := h.foldl fun _ _ h => h.dispatchOn

theorem preempt {m n : Nat} (h : JobEnds r s) : JobEnds r (State.preempt m s n) := by
  induction m generalizing s n with
  | zero => exact h
  | succ m ih =>
    unfold State.preempt
    refine ite ?_ h
    split
    · exact h
    · exact ite (ih (h.setThread.setCore.runOn.bump (by decide)).trace.dispatch) h

theorem seatThreads {l : List Nat} (h : JobEnds r s) : JobEnds r (s.seatThreads l) :=
  (h.ite h.dispatch).foldl fun _ _ h => h.preempt

theorem countDown {acc : State × List Nat} {n : Nat} (h : JobEnds r acc.1) : JobEnds r (State.countDown acc n).1 := by
  obtain ⟨s, ready⟩ := acc
  unfold State.countDown
  dsimp only
  split
  · exact h
  · split
    · split
      · exact raiseI (bump h (by decide))
      · exact setThread h
    · split
      · exact (setThread h).markReady
      · exact setThread h

theorem decBound {b : Bound} (h : JobEnds r s) : JobEnds r (s.decBound b) :=
  (h.foldl_fst fun _ _ h => h.countDown).seatThreads

/-! The completion (R104, R121, R133). -/

theorem modJob {n : Nat} {f : Job → Job} (h : JobEnds r s) : JobEnds r (s.modJob n f) :=
  h.keep (s.modJob_onlyIn n f) (by decide)
theorem dropJob {n : Nat} (h : JobEnds r s) : JobEnds r (s.dropJob n) := h.keep (s.dropJob_onlyIn n) (by decide)
theorem setCq {n : Nat} {q : Cq} (h : JobEnds r s) : JobEnds r (s.setCq n q) := h.keep (s.setCq_onlyIn n q) (by decide)
theorem leaveEngines {n : Nat} (h : JobEnds r s) : JobEnds r (s.leaveEngines n) := h.keep (s.leaveEngines_onlyIn n) (by decide)
theorem signal {n : Nat} (h : JobEnds r s) : JobEnds r (s.signal n) := h.keep (s.signal_onlyIn n) (by decide)

theorem writeCpl {n : Nat} {c : Cpl} (h : JobEnds r s) : JobEnds r (s.writeCpl n c) := by
  have entry := h.keep (s.putEntry_onlyIn (s.cqAt n) (s.cq n).pi (c.bytes 0 s.tick32)) (by decide)
  have counted := (entry.bump64 (d := HIF_CPL_POST_COUNT) (by decide) (by decide)).decBound (b := .completion n)
  have written := counted.keep (State.noteRecord_onlyIn _ c (s.cq n).pi) (by decide)
  exact ite written.setCq.signal written.setCq

theorem postCpl {n : Nat} {c : Cpl} {rsv : Bool} (h : JobEnds r s) : JobEnds r (s.postCpl n c rsv).1 := by
  generalize hp : s.postCpl n c rsv = p
  unfold State.postCpl at hp
  split at hp
  · exact hp ▸ h
  · split at hp
    · exact hp ▸ h.bump (by decide)
    · extract_lets q kept at hp
      have hkept : JobEnds r kept := h.setCq.ite h
      split at hp
      · exact hp ▸ hkept
      · exact hp ▸ hkept.writeCpl

theorem postJob {j : Job} {c : Cpl} (h : JobEnds r s) : JobEnds r (s.postJob j c) := by
  have posted := h.postCpl (n := j.cq) (c := c) (rsv := j.reserved)
  unfold State.postJob
  refine ite h.modJob ?_
  split
  · next e => rw [e] at posted; exact posted.dropJob
  · next e => rw [e] at posted; exact posted.dropJob
  · next e =>
    rw [e] at posted
    split
    · exact (posted.bump (by decide)).dropJob
    · exact posted.modJob
    · exact posted.modJob

theorem countCpl {st : Nat} (h : JobEnds r s) : JobEnds r (s.countCpl st) := by
  unfold State.countCpl
  split
  · exact h.bump (by decide)
  · exact h.bump (by decide)
  · exact h.bump (by decide)
  · exact h.bump (by decide)
  · exact h

theorem endJob {n : Nat} {e : End} (h : JobEnds r s) : JobEnds r (s.endJob n e) := by
  have freed := h.keep (s.freeJobCells_onlyIn n e.status) (by decide)
  unfold State.endJob
  split
  · exact h
  · dsimp only
    split
    · exact freed
    · exact freed.countCpl.postJob
    · exact freed.countCpl.postJob
    · exact freed.leaveEngines.countCpl.decBound.postJob

/-! Cells (R344, R348). -/

theorem rejectFree {c tag code : Nat} {d : RegDef} (h : JobEnds r s) (hd : d.at ∈ endCounters) :
    JobEnds r (s.rejectFree c tag code d) := ((h.bump hd).wr (by decide)).raiseI

theorem freeCell {c tag : Nat} (h : JobEnds r s) : JobEnds r (s.freeCell c tag) := by
  unfold State.freeCell
  exact ite (h.bump (by decide)) (ite (h.rejectFree (by decide)) (ite (h.rejectFree (by decide))
    (ite (h.keep (s.returnCell_onlyIn c) (by decide)) (h.rejectFree (by decide)))))

end JobEnds

end Sys2Proof.Machine
end

section
namespace Sys2Proof.Machine

/-! Frames that leave the egress queues, sent or flushed (R207, R209). -/

variable {r s t : State} {m q : Nat} {x : EthPort} {f : TxFrame} {rest : List TxFrame} {e : End}

/-- No register of the Ethernet and traffic blocks is a counter of the ends of jobs. -/
theorem not_mem_endCounters {k : Nat} (lo : 0x40000 ≤ k) (hi : k < 0x50000) : k ∉ endCounters := by
  have apart : ∀ c ∈ endCounters, c < 0x40000 ∨ 0x50000 ≤ c := by decide
  intro c
  have := apart k c
  omega

/-- From `r` to `s` queues may have changed, and jobs have ended. -/
def FramesEnd (r s : State) : Prop := JobEnds { r with queues := s.queues } s

/-- The end of a job sees no queue. -/
theorem JobEnds.withQueues (h : JobEnds r s) (l : Table Queue) :
    JobEnds { r with queues := l } { s with queues := l } where
  parts p := (h.parts p).imp id fun same => by
    cases p
    case queues => rfl
    all_goals exact same
  regs := h.regs
  live := h.live
  status := h.status

namespace FramesEnd

theorem setQueue (s : State) (q : Nat) (x : Queue) : FramesEnd s (s.setQueue q x) := JobEnds.refl _

theorem of_jobEnds (h : JobEnds r s) : FramesEnd r s := by
  unfold FramesEnd
  rw [h.parts.queues_eq (by decide)]
  exact h

theorem refl (s : State) : FramesEnd s s := of_jobEnds (.refl s)

theorem trans (h : FramesEnd r s) (k : FramesEnd s t) : FramesEnd r t := (h.withQueues t.queues).trans k

theorem onlyIn (h : FramesEnd r s) : OnlyIn (.queues :: .engines :: endParts) r s := by
  have queues : OnlyIn (.queues :: .engines :: endParts) r { r with queues := s.queues } := by
    intro p; cases p <;> first | exact .inr rfl | exact .inl (by decide)
  exact queues.step h.parts (by decide)

/-- Settings and counts of the Ethernet and traffic blocks stand. -/
theorem rd (h : FramesEnd r s) {d : RegDef} {i j : Nat} (lo : 0x40000 ≤ d.at i j) (hi : d.at i j < 0x50000) :
    s.rd d i j = r.rd d i j := JobEnds.rd h (not_mem_endCounters lo hi)

/-- So do those of one queue. -/
theorem rd_queue (h : FramesEnd r s) (hq : q < 16) {d : RegDef} (row : d.stride = 0x10) (lo : 0x40000 ≤ d.off)
    (hi : d.off < 0x4FF00) : s.rd d q = r.rd d q := by
  apply h.rd <;> simp only [RegDef.at, row] <;> omega

end FramesEnd

/-- Frames have left their queues, and nothing else of what waits there has changed, nor the credit. -/
structure FramesLeft (r s : State) : Prop where
  ends : FramesEnd r s
  frames : ∀ q, (s.queue q).frames = (r.queue q).frames
  credit : ∀ q, (s.queue q).credit = (r.queue q).credit

theorem FramesLeft.refl (s : State) : FramesLeft s s := ⟨.refl s, fun _ => rfl, fun _ => rfl⟩

theorem FramesLeft.trans (h : FramesLeft r s) (k : FramesLeft s t) : FramesLeft r t :=
  ⟨h.ends.trans k.ends, fun q => (k.frames q).trans (h.frames q), fun q => (k.credit q).trans (h.credit q)⟩

/-- A NET_TX frame gives back its bytes and its cell, and ends its job; any other frame leaves nothing behind. -/
theorem State.txDone_left (s : State) (q : Nat) (f : TxFrame) (e : End) : FramesLeft s (s.txDone q f e) := by
  unfold State.txDone
  split
  · next job _ =>
    have freed : FramesLeft s (s.setQueue q { s.queue q with netBytes := (s.queue q).netBytes - f.len }) := by
      refine ⟨.setQueue s q _, fun r => ?_, fun r => ?_⟩ <;> by_cases hr : r = q <;> simp [hr]
    refine freed.trans ?_
    dsimp only
    generalize s.setQueue q _ = u
    have ended {v : State} (h : JobEnds u v) : FramesLeft u (v.endJob job e) := by
      have queue (r : Nat) := State.queue_congr ((h.endJob (n := job) (e := e)).parts.queues_eq (by decide)) r
      exact ⟨.of_jobEnds h.endJob, fun r => by rw [queue], fun r => by rw [queue]⟩
    split
    · exact ended (JobEnds.refl u).freeCell
    · exact ended (.refl u)
  · exact .refl s
  · exact .refl s

/-! A port's queues are flushed (R209). -/

/-- Nothing waits in the queue, and its credit is 0. -/
def State.flushed (s : State) (q : Nat) : Prop := (s.queue q).frames = [] ∧ (s.queue q).credit = 0

theorem State.flushQueue_ends (s : State) (q : Nat) : FramesEnd s (s.flushQueue q) ∧ (s.flushQueue q).flushed q ∧
    ∀ r, s.flushed r → (s.flushQueue q).flushed r := by
  have left (l : List TxFrame) (u : State) :
      FramesLeft u (l.foldl (fun s f => s.txDone q f { status := 0x40, fault := 0x0601 }) u) :=
    List.foldlRecOn l _ (.refl u) fun v hv f _ => hv.trans (v.txDone_left q f _)
  unfold State.flushQueue
  dsimp only
  have emptied := FramesEnd.setQueue s q { s.queue q with frames := [], credit := 0, creditNs := s.ktime }
  have own : (s.setQueue q { s.queue q with frames := [], credit := 0, creditNs := s.ktime }).flushed q := by
    simp [State.flushed]
  have other (r : Nat) (h : s.flushed r) :
      (s.setQueue q { s.queue q with frames := [], credit := 0, creditNs := s.ktime }).flushed r := by
    by_cases hr : r = q
    · exact hr ▸ own
    · simpa [State.flushed, hr] using h
  generalize s.setQueue q { s.queue q with frames := [], credit := 0, creditNs := s.ktime } = u at emptied own other ⊢
  obtain ⟨ends, frames, credit⟩ := left (s.queue q).frames u
  exact ⟨emptied.trans ends, ⟨(frames q).trans own.1, (credit q).trans own.2⟩, fun r h =>
    ⟨(frames r).trans (other r h).1, (credit r).trans (other r h).2⟩⟩

theorem State.flushQueues_ends (l : List Nat) (s : State) :
    FramesEnd s (l.foldl (fun s q => s.flushQueue q) s) ∧
    ∀ r, r ∈ l ∨ s.flushed r → (l.foldl (fun s q => s.flushQueue q) s).flushed r := by
  induction l generalizing s with
  | nil => exact ⟨.refl s, fun r h => h.resolve_left (by simp)⟩
  | cons q l ih =>
    obtain ⟨ends, own, other⟩ := s.flushQueue_ends q
    obtain ⟨later, flushed⟩ := ih (s.flushQueue q)
    refine ⟨ends.trans later, fun r h => flushed r ?_⟩
    rcases h with h | h
    · rcases List.mem_cons.mp h with rfl | h
      · exact .inr own
      · exact .inl h
    · exact .inr (other r h)

/-! The credit of a queue (R202). -/

theorem State.qRate_pos (s : State) (q : Nat) : 1 ≤ s.qRate q := Nat.le_max_left _ _

theorem State.stepPs_le (s : State) : s.stepPs ≤ 30517578 := by
  unfold State.stepPs
  split <;> omega

/-- Keeper time passes an instant to come by less than one step. -/
theorem State.advanceTo_lt (s : State) {t : Nat} (h : s.clock.ps ≤ t) : (s.advanceTo t).clock.ps < t + s.stepPs := by
  change s.stepAt t < _
  unfold State.stepAt
  have step := s.stepPs_pos
  split
  · omega
  · have whole := Nat.div_mul_le_self (t - s.clock.ps + s.stepPs - 1) s.stepPs
    unfold ceilDiv
    omega

/-- The credit of a queue with frames, as R202 states it. -/
theorem State.creditNow_waiting (h : (s.queue q).frames ≠ []) : s.creditNow q =
    max (s.queue q).credit (min ((s.qBurst q * 10 ^ 9 : Nat) : Int)
      ((s.queue q).credit + s.qRate q * 125 * (s.ktime - (s.queue q).creditNs))) :=
  if_neg (by simpa [List.isEmpty_iff] using h)

theorem le_mul_ceilDiv (a : Nat) {b : Nat} (hb : 0 < b) : a ≤ b * ceilDiv a b := by
  have whole := Nat.div_add_mod (a + b - 1) b
  have rest := Nat.mod_lt (a + b - 1) hb
  unfold ceilDiv
  omega

theorem ceilDiv_le (a : Nat) {b : Nat} (hb : 0 < b) : ceilDiv a b ≤ a :=
  (Nat.div_le_iff_le_mul_add_pred hb).mpr (by have := Nat.le_mul_of_pos_left a hb; omega)

/-- The time after which the credit of a queue regains 0, in ns. -/
def State.creditWait (s : State) (q : Nat) : Nat := ceilDiv (-s.creditNow q).toNat (s.qRate q * 125)

/-- Keeper time in ns does not wrap while a queue waits for a credit of this size. -/
theorem State.ktime_advanceNs {ns : Nat} (short : ns ≤ 10 ^ 15) (early : s.clock.ps < 2 ^ 73) :
    s.ktime + ns ≤ (s.advanceNs ns).ktime := by
  have late := s.le_advanceTo (s.clock.ps + 1000 * ns)
  have soon := s.advanceTo_lt (t := s.clock.ps + 1000 * ns) (by omega)
  have step := s.stepPs_le
  unfold State.ktime State.advanceNs
  omega

/-- A credit that grows at a rate from a date on, up to a bound, has regained 0 once the time has passed in which the rate
makes up for what it lacks now. -/
theorem credit_regained {credit bound : Int} {rate now later date wait : Nat} (positive : 0 ≤ bound) (dated : date ≤ now)
    (time : now + wait ≤ later)
    (enough : (-max credit (min bound (credit + rate * (now - date)))).toNat ≤ rate * wait) :
    0 ≤ max credit (min bound (credit + rate * (later - date))) := by
  have gain : (0 : Int) ≤ rate * (now - date) := mul_nonneg (by omega) (by omega)
  have more : (rate : Int) * (now - date) + (rate * wait : Nat) ≤ rate * (later - date) := by
    rw [Nat.cast_mul, ← mul_add]
    exact mul_le_mul_of_nonneg_left (by omega) (by omega)
  omega

/-- After that time the credit is no less than 0. -/
theorem State.creditNow_regained (waits : (s.queue q).frames ≠ []) (dated : (s.queue q).creditNs ≤ s.ktime)
    (low : -(10 : Int) ^ 15 ≤ (s.queue q).credit) (early : s.clock.ps < 2 ^ 73) :
    0 ≤ (s.advanceNs (s.creditWait q)).creditNow q := by
  have now := State.creditNow_waiting waits
  have later := State.creditNow_waiting (s := s.advanceNs (s.creditWait q)) waits
  have rate : 0 < s.qRate q * 125 := Nat.mul_pos (s.qRate_pos q) (by decide)
  have enough : (-s.creditNow q).toNat ≤ s.qRate q * 125 * s.creditWait q := le_mul_ceilDiv _ rate
  have wait : s.creditWait q ≤ (-s.creditNow q).toNat := ceilDiv_le _ rate
  have time := State.ktime_advanceNs (s := s) (ns := s.creditWait q) (by omega) early
  rw [now] at enough
  rw [later]
  exact_mod_cast credit_regained (Int.natCast_nonneg _) dated time (by exact_mod_cast enough)

end Sys2Proof.Machine
end

section
namespace Sys2Proof.Machine

/-! Egress queues and links, command by command (R202, R203, R207, R209, R563). -/

variable {r s t : State} {m q : Nat} {x : EthPort} {f : TxFrame} {rest : List TxFrame}

/-! A queue whose credit is back (R202). -/

theorem State.creditBack_empty (h : (s.queue q).frames = []) : s.creditBack q = s := if_pos (by simp [h])

theorem State.creditBack_waiting (h : (s.queue q).frames ≠ []) :
    s.creditBack q = (s.advanceNs (s.creditWait q)).startPort (s.qPort q) := if_neg (by simpa [List.isEmpty_iff] using h)

/-- A queue whose credit is back is the first of its port that may start its head frame, where no earlier one has any. -/
theorem State.first_eligible (hq : q < 16) (port : s.qPort q = m) (on : s.qOn q = true) (waits : (s.queue q).frames ≠ [])
    (credit : 0 ≤ s.creditNow q) (earlier : ∀ r, r < q → s.qPort r = m → (s.queue r).frames = []) :
    (List.range 16).find? (fun r => s.qPort r == m && s.eligible r) = some q := by
  refine List.find?_range_eq_some.mpr ⟨?_, List.mem_range.mpr hq, fun r hr => ?_⟩
  · simp [port, State.eligible, on, waits, credit]
  · by_cases same : s.qPort r = m
    · simp [State.not_eligible (earlier r hr same)]
    · simp [same]

theorem queueCreditAvailable_starts (h : s.eth[m]? = some x) (hq : q < 16) (port : s.qPort q = m) (on : s.qOn q = true)
    (head : (s.queue q).frames = f :: rest) (earlier : ∀ r, r < q → s.qPort r = m → (s.queue r).frames = [])
    (link : x.link = true) (free : x.sending = none) (quiet : x.ptpQueue = []) (safe : s.guard.safe = false)
    (dated : (s.queue q).creditNs ≤ s.ktime) (low : -(10 : Int) ^ 15 ≤ (s.queue q).credit) (early : s.clock.ps < 2 ^ 73) :
    Gives (.queueCreditAvailable q) s (fun t =>
      (t.ethPort m).sending = some (q, f) ∧ (t.queue q).frames = rest ∧ s.clock.ps ≤ t.clock.ps ∧
      (t.ethPort m).sendEnd = t.clock.ps + f.charge * s.bytePs m ∧ OnlyIn [.regs, .clock, .queues, .eth] s t) := by
  have waits : (s.queue q).frames ≠ [] := by simp [head]
  have credit := State.creditNow_regained waits dated low early
  have waited : OnlyIn [.clock] s (s.advanceNs (s.creditWait q)) := s.advanceTo_onlyIn _
  have forward : s.clock.ps ≤ (s.advanceNs (s.creditWait q)).clock.ps := s.advanceTo_le _
  have bytes : (s.advanceNs (s.creditWait q)).bytePs m = s.bytePs m := rfl
  refine Gives.onUnit (u := s.creditBack q) rfl hq ?_
  rw [State.creditBack_waiting waits, port]
  have found : (s.advanceNs (s.creditWait q)).eth[m]? = some x := h
  have first := State.first_eligible (s := s.advanceNs (s.creditWait q)) hq port on waits credit earlier
  have headNow : ((s.advanceNs (s.creditWait q)).queue q).frames = f :: rest := head
  have safeNow : (s.advanceNs (s.creditWait q)).guard.safe = false := safe
  generalize s.advanceNs (s.creditWait q) = u at waited forward bytes found first headNow safeNow ⊢
  have taken := u.takeHead_onlyIn q f rest
  obtain ⟨y, sends, _, sending, sendEnd⟩ := getElem?_sendFrame (s := u.takeHead q f rest) (m := m) (q := q) (f := f)
    (by rwa [taken.eth_eq (by decide)])
  have only := (u.takeHead q f rest).sendFrame_onlyIn m q f
  rw [State.startPort_queue (by simp [ethPort_of found, link, free, safeNow]) (by rw [ethPort_of found, quiet]) first headNow,
    State.settle_ethPort, ethPort_of sends, State.settle_queue, State.queue_congr (only.queues_eq (by decide)),
    State.queue_takeHead, State.settle_clock, only.clock_eq (by decide), taken.clock_eq (by decide), sending, sendEnd,
    State.bytePs_takeHead, bytes, taken.clock_eq (by decide)]
  exact ⟨rfl, rfl, forward, rfl,
    (((waited.mono (by decide)).step taken (by decide)).step only (by decide)).settle⟩

/-! The end of a frame (R203, R207). -/

theorem State.sent_none (h : s.eth[m]? = some x) (free : x.sending = none) : s.sent m = s := by
  unfold State.sent
  rw [ethPort_of h]
  dsimp only
  rw [free]

/-- The port has sent its frame. -/
def EthPort.idle (x : EthPort) : EthPort := { x with sending := none }

/-- The frame has left at its time, and is counted for its queue. -/
def State.frameCounted (s : State) (m q ps : Nat) : State :=
  ((s.advanceTo ps).modEth m EthPort.idle).bump TRF_Q_TX_COUNT q

theorem State.frameCounted_onlyIn (s : State) (m q ps : Nat) : OnlyIn [.regs, .clock, .eth] s (s.frameCounted m q ps) :=
  (((s.advanceTo_onlyIn ps).mono (by decide)).step (State.modEth_onlyIn _ m _) (by decide)).step (State.bump_onlyIn _ _ _)
    (by decide)

theorem State.sent_some (h : s.eth[m]? = some x) (sending : x.sending = some (q, f)) (hq : q < 16) :
    ∃ e, s.sent m = ((s.frameCounted m q x.sendEnd).txDone q f e).startPort m := by
  unfold State.sent
  rw [ethPort_of h]
  dsimp only
  rw [sending]
  dsimp only
  rw [if_pos hq]
  exact ⟨_, rfl⟩

theorem frameTransmitEnd_counts (hm : m < 2) (h : s.eth[m]? = some x) (sending : x.sending = some (q, f)) (hq : q < 16)
    (empty : ∀ r, r < 16 → (s.queue r).frames = []) (quiet : x.ptpQueue = []) :
    Gives (.frameTransmitEnd m) s (fun t =>
      t.ethPort m = { x with sending := none } ∧ x.sendEnd ≤ t.clock.ps ∧
      t.rd TRF_Q_TX_COUNT q = bump32 (s.rd TRF_Q_TX_COUNT q) ∧
      OnlyIn [.regs, .bus, .engines, .clock, .hif, .chans, .queues, .eth, .mem, .bpm, .sch, .log, .guard] s t) := by
  obtain ⟨e, sent⟩ := State.sent_some h sending hq
  have late : x.sendEnd ≤ (s.frameCounted m q x.sendEnd).clock.ps := s.le_advanceTo _
  have count : (s.frameCounted m q x.sendEnd).rd TRF_Q_TX_COUNT q = bump32 (s.rd TRF_Q_TX_COUNT q) := State.rd_bump_same _ _ _
  have port : (s.frameCounted m q x.sendEnd).ethPort m = x.idle :=
    ethPort_modEth (s := s.advanceTo x.sendEnd) EthPort.idle h
  have frames : ∀ r, r < 16 → ((s.frameCounted m q x.sendEnd).queue r).frames = [] := empty
  have counted := s.frameCounted_onlyIn m q x.sendEnd
  generalize s.frameCounted m q x.sendEnd = u at sent late count port frames counted
  obtain ⟨ends, left, _⟩ := u.txDone_left q f e
  have done := ends.onlyIn
  have idle : (u.txDone q f e).ethPort m = x.idle := by rw [State.ethPort_congr (done.eth_eq (by decide)), port]
  rw [State.startPort_empty (by rw [idle, EthPort.idle, quiet]) (fun r hr => by rw [left, frames r hr])] at sent
  refine Gives.onUnit (u := s.sent m) rfl hm ?_
  rw [sent]
  refine ⟨idle, ?_, ?_, ((counted.mono (by decide)).step done (by decide)).settle⟩
  · rwa [State.settle_clock, done.clock_eq (by decide)]
  · rw [State.settle_rd, ends.rd_queue hq rfl (by decide) (by decide), count]

/-! Links (R209, R563). -/

/-- The port without its link: what it sends is cut, and what its clock would send is gone. -/
def EthPort.unlinked (x : EthPort) : EthPort := { x with link := false, sending := none, ptpQueue := [] }

/-- The link is down, with its cause, and the queues are not yet flushed. -/
def State.linkLost (s : State) (m lost : Nat) : State :=
  (s.raiseCond 0x0601 { source := m, discarded := lost }).modEth m EthPort.unlinked

theorem State.linkLost_onlyIn (s : State) (m lost : Nat) :
    OnlyIn [.regs, .hif, .eth, .log, .guard] s (s.linkLost m lost) :=
  ((s.raiseCond_onlyIn _ _).mono (by decide)).step (State.modEth_onlyIn _ m _) (by decide)

theorem State.ethPort_linkLost (h : s.eth[m]? = some x) (lost : Nat) : (s.linkLost m lost).ethPort m = x.unlinked := by
  have found : (s.raiseCond 0x0601 { source := m, discarded := lost }).eth[m]? = some x := by
    rwa [(s.raiseCond_onlyIn _ _).eth_eq (by decide)]
  exact ethPort_modEth _ found

/-- The setting of a queue is no counter of faults. -/
theorem State.qPort_linkLost (s : State) (m lost : Nat) {q : Nat} (hq : q < 16) : (s.linkLost m lost).qPort q = s.qPort q := by
  have aside : TRF_Q_CFG.aside q := by
    simp only [RegDef.aside, RegDef.at, TRF_Q_CFG, KPR_LOG_LOST, GRD_REACT_COUNT]
    omega
  have setting : (s.linkLost m lost).rd TRF_Q_CFG q = s.rd TRF_Q_CFG q :=
    (s.raiseCond_aside 0x0601 { source := m, discarded := lost }).2 aside
  rw [State.qPort, State.fld, setting, State.qPort, State.fld]

/-- The frame that is cut ends as those of the queues do, which are flushed one after another. -/
theorem State.ethDown_linked (h : s.eth[m]? = some x) (up : x.link = true) : ∃ lost u, FramesEnd (s.linkLost m lost) u ∧
    s.ethDown m = ((List.range 16).filter (fun q => u.qPort q == m)).foldl (fun s q => s.flushQueue q) u := by
  unfold State.ethDown
  rw [ethPort_of h]
  dsimp only
  rw [if_neg (by simp [up])]
  cases x.sending with
  | none => exact ⟨_, _, .refl _, rfl⟩
  | some sent => exact ⟨_, _, (State.txDone_left _ sent.1 sent.2 _).ends, rfl⟩

theorem ethLinkDown_flushes (hm : m < 2) (h : s.eth[m]? = some x) (up : x.link = true) : Gives (.ethLinkDown m) s (fun t =>
    t.ethPort m = { x with link := false, sending := none, ptpQueue := [] } ∧ t.causeLive 0x0601 = true ∧
    bitAt (t.fstat 6) 0 = true ∧ (∀ q, q < 16 → s.qPort q = m → (t.queue q).frames = [] ∧ (t.queue q).credit = 0) ∧
    OnlyIn [.regs, .bus, .engines, .hif, .chans, .queues, .eth, .mem, .bpm, .sch, .log, .guard] s t) := by
  obtain ⟨lost, u, cut, down⟩ := State.ethDown_linked h up
  obtain ⟨flushes, flushed⟩ := State.flushQueues_ends ((List.range 16).filter (fun q => u.qPort q == m)) u
  rw [← down] at flushes flushed
  have ends := cut.trans flushes
  have cause : (s.linkLost m lost).causeLive 0x0601 = true := State.causeLive_present _ _ _
  have status : bitAt ((s.linkLost m lost).fstat 6) 0 = true := s.raiseCond_sets 0x0601 _
  refine Gives.onUnit (u := s.ethDown m) rfl hm ⟨?_, ?_, ends.status 6 0 status, fun q hq port => flushed q (.inl ?_),
    (((s.linkLost_onlyIn m lost).mono (by decide)).step ends.onlyIn (by decide)).settle⟩
  · rw [State.settle_ethPort, State.ethPort_congr (ends.onlyIn.eth_eq (by decide)), State.ethPort_linkLost h,
      EthPort.unlinked]
  · rwa [State.settle_causeLive, State.causeLive_congr ends.live]
  · have setting : u.qPort q = s.qPort q := by
      rw [State.qPort, State.fld, cut.rd_queue hq rfl (by decide) (by decide), ← s.qPort_linkLost m lost hq,
        State.qPort, State.fld]
    simp [hq, setting, port]

/-- The link is up, and the cause of its loss is gone. -/
def State.linked (s : State) (m : Nat) : State := (s.modEth m (fun x => { x with link := true })).gone 0x0601 m

theorem State.linked_onlyIn (s : State) (m : Nat) : OnlyIn [.eth, .guard] s (s.linked m) :=
  ((s.modEth_onlyIn m _).mono (by decide)).step (State.gone_onlyIn _ _ _) (by decide)

theorem ethLinkUp_links (hm : m < 2) (h : s.eth[m]? = some x) (works : s.macOn m = true) : Gives (.ethLinkUp m) s (fun t =>
    (t.ethPort m).link = true ∧ t.guard.live.contains (0x0601, m) = false ∧
    (x.sending.isSome = true → t.ethPort m = { x with link := true } ∧ OnlyIn [.eth, .guard] s t) ∧
    OnlyIn [.regs, .queues, .eth, .guard] s t) := by
  have port : (s.linked m).eth[m]? = some { x with link := true } := getElem?_modEth _ h
  have gone : (s.linked m).guard.live.contains (0x0601, m) = false := State.gone_not_live _ _ _
  have only := s.linked_onlyIn m
  refine Gives.onUnit (u := s.ethUp m) rfl hm ?_
  rw [show s.ethUp m = (s.linked m).startPort m from if_pos works]
  generalize s.linked m = u at port gone only ⊢
  obtain ⟨y, found, kept⟩ := State.getElem?_startPort port
  have starts := u.startPort_onlyIn m
  refine ⟨?_, ?_, fun busy => ?_, ((only.mono (by decide)).step starts (by decide)).settle⟩
  · rw [State.settle_ethPort, ethPort_of found]
    exact kept.link
  · rwa [State.settle_guard, starts.guard_eq (by decide)]
  · rw [State.startPort_busy (.inr (.inl (by rwa [ethPort_of port]))), State.settle_ethPort, ethPort_of port]
    exact ⟨rfl, only.settle⟩

/-- Settles O36, command by command: the credit that is back, the end of a frame, the link that goes down and comes up. -/
theorem egressQueuesSendByCredit : Obligations.EgressQueuesSendByCredit := by
  unfold Obligations.EgressQueuesSendByCredit
  intro s m x hm h
  refine ⟨fun q hq empty => ?_, fun q f rest => queueCreditAvailable_starts h, fun free => ?_,
    fun q f sending hq empty quiet => frameTransmitEnd_counts hm h sending hq empty quiet, fun down => ?_,
    ethLinkDown_flushes hm h, fun off => ?_, ethLinkUp_links hm h⟩
  · exact exec_onUnit_same (u := s.creditBack q) rfl hq (State.creditBack_empty empty)
  · exact exec_onUnit_same (u := s.sent m) rfl hm (State.sent_none h free)
  · exact exec_onUnit_same (u := s.ethDown m) rfl hm (if_pos (by rw [ethPort_of h, down]))
  · exact exec_onUnit_same (u := s.ethUp m) rfl hm (if_neg (by simp [off]))

end Sys2Proof.Machine
end

section
namespace Sys2Proof.Machine

/-! The panel power sequence: each timer ends one step of its display and begins the next (R297, R298). -/

variable {s : State} {d : Nat} {x : Display}

/-- The display goes on to a step; the time that it counts from stands. -/
def Display.goesTo (p : PanelStep) (x : Display) : Display := { x with step := p }

/-- The display begins a step at a time. -/
def Display.begins (p : PanelStep) (ps : Nat) (x : Display) : Display := { x with step := p, since := ps }

/-- The link of the display stops. -/
def Display.linkStops (ps : Nat) (x : Display) : Display :=
  { x with step := .waitVddOff, scans := false, since := ps, dark := false }

/-- The display is off. -/
def Display.rests (x : Display) : Display := { x with step := .off, again := false, front := none, back := none }

/-- The first step of a power-up: an eDP panel whose HPD is low is waited for. -/
def Display.firstStep (d : Nat) (x : Display) : PanelStep := if d = 2 ∧ x.raw = false then .waitHpd else .waitLink

/-- VDD_EN of the display rises. -/
def Display.powersUp (p : PanelStep) (ps : Nat) (x : Display) : Display :=
  { x with step := p, since := ps, dark := false, retrain := false, again := false, y := 0 }

theorem Display.firstStep_vdd (d : Nat) (x : Display) : (x.firstStep d).vdd = true := by
  unfold Display.firstStep
  split <;> rfl

/-- The delay-locked loop of an LVDS link has its clock, or has lost it. -/
def State.setDll (s : State) (d b : Nat) : State := { s with clk := { s.clk with lvdsDll := putBits s.clk.lvdsDll d d b } }

theorem State.setDll_onlyIn (s : State) (d b : Nat) : OnlyIn [.clk] s (s.setDll d b) := (OnlyIn.refl _ s).clk (by decide)

@[simp] theorem State.setDll_clock (s : State) (d b : Nat) : (s.setDll d b).clock = s.clock := rfl
@[simp] theorem State.setDll_disp (s : State) (d b k : Nat) : (s.setDll d b).disp k = s.disp k := rfl

theorem State.bitAt_setDll (s : State) (d b : Nat) : bitAt (s.setDll d b).clk.lvdsDll d = bitAt b 0 := by
  rw [State.setDll, bitAt_putBits _ _ _ _ _ (Nat.le_refl d), if_pos ⟨Nat.le_refl d, Nat.le_refl d⟩, Nat.sub_self]

theorem State.tuneVpll_onlyIn (s : State) (d : Nat) : OnlyIn [.clk] s (s.tuneVpll d) := s.startTune_onlyIn _ _ _ _

/-! A power-up begins (R297). -/

theorem State.panelUp_off (hx : s.displays[d]? = some x) (off : x.step = .off) :
    s.panelUp d = if s.enabled d = false ∨ s.panelHere d = false then s
      else (s.modDisp d (Display.powersUp (x.firstStep d) s.clock.ps)).tuneVpll d := by
  unfold State.panelUp
  rw [disp_of hx, off]
  rfl

theorem State.panelUp_rises (hx : s.displays[d]? = some x) (off : x.step = .off) (on : s.enabled d = true)
    (here : s.panelHere d = true) :
    s.panelUp d = (s.modDisp d (Display.powersUp (x.firstStep d) s.clock.ps)).tuneVpll d := by
  rw [State.panelUp_off hx off, if_neg (by simp [on, here])]

theorem State.panelUp_onlyIn (s : State) (d : Nat) : OnlyIn [.displays, .clk] s (s.panelUp d) := by
  have one (f : Display → Display) : OnlyIn [.displays, .clk] s (s.modDisp d f) := (s.modDisp_onlyIn d f).mono (by decide)
  unfold State.panelUp
  refine .ite (.refl _ s) ?_
  cases (s.disp d).step with
  | off => exact (one _).step (State.tuneVpll_onlyIn _ d) (by decide)
  | waitLinkOff => exact one _
  | waitVddOff => exact one _
  | waitOff => exact one _
  | _ => exact .refl _ s

theorem getElem?_panelUp_rises (hx : s.displays[d]? = some x) (off : x.step = .off) (on : s.enabled d = true)
    (here : s.panelHere d = true) :
    (s.panelUp d).displays[d]? = some (Display.powersUp (x.firstStep d) s.clock.ps x) := by
  rw [State.panelUp_rises hx off on here, (State.tuneVpll_onlyIn _ d).displays_eq (by decide)]
  exact getElem?_modDisp _ hx

/-- A power-up of a display that is off leaves none waiting. -/
theorem disp_panelUp_again (hx : s.displays[d]? = some x) (off : x.step = .off) (once : x.again = false) :
    ((s.panelUp d).disp d).again = false := by
  rw [State.panelUp_off hx off]
  split
  · rwa [disp_of hx]
  · rw [State.disp_congr ((State.tuneVpll_onlyIn _ d).displays_eq (by decide)), disp_modDisp _ hx]
    rfl

/-! The present step ends when it has lasted its time. -/

/-- After `ms` milliseconds of its present step the display changes, by what the time then is. -/
def State.panelStep (s : State) (d ms : Nat) (f : Nat → Display → Display) : State :=
  (s.panelTime d ms).modDisp d (f (s.panelTime d ms).clock.ps)

variable {ms : Nat} {f : Nat → Display → Display}

theorem State.panelStep_clock (s : State) (d ms : Nat) (f : Nat → Display → Display) :
    (s.panelStep d ms f).clock = (s.panelTime d ms).clock := State.modDisp_clock _ _ _

theorem getElem?_panelTime (hx : s.displays[d]? = some x) : (s.panelTime d ms).displays[d]? = some x := by
  rwa [State.panelTime, (s.advanceTo_onlyIn _).displays_eq (by decide)]

theorem getElem?_panelStep (hx : s.displays[d]? = some x) :
    (s.panelStep d ms f).displays[d]? = some (f (s.panelStep d ms f).clock.ps x) := by
  rw [State.panelStep_clock]
  exact getElem?_modDisp _ (getElem?_panelTime hx)

theorem disp_panelStep (hx : s.displays[d]? = some x) :
    (s.panelStep d ms f).disp d = f (s.panelStep d ms f).clock.ps x := disp_of (getElem?_panelStep hx)

theorem State.le_panelStep (hx : s.displays[d]? = some x) : x.since + ms * 10 ^ 9 ≤ (s.panelStep d ms f).clock.ps := by
  rw [State.panelStep_clock, State.panelTime, disp_of hx]
  exact s.le_advanceTo _

theorem State.panelStep_onlyIn (s : State) (d ms : Nat) (f : Nat → Display → Display) :
    OnlyIn [.clock, .displays] s (s.panelStep d ms f) :=
  ((s.advanceTo_onlyIn _).mono (by decide)).step (State.modDisp_onlyIn _ _ _) (by decide)

/-! What each timer makes of its display. -/

theorem State.hpdTimeout_eq (hx : s.displays[2]? = some x) : s.hpdTimeout =
    if x.step = .waitHpd then s.panelStep 2 (s.fld DSP_SEQ2 23 16 2) (fun _ => Display.goesTo .waitLink) else s := by
  unfold State.hpdTimeout
  rw [disp_of hx]
  cases x.step <;> rfl

theorem State.vddLink_eq (hx : s.displays[d]? = some x) : s.vddLink d =
    if x.step = .waitLink then
      (if d = 2 then s.panelStep d (s.fld DSP_SEQ 7 0 d) (Display.begins .training)
       else (s.panelTime d (s.fld DSP_SEQ 7 0 d)).linkOn d)
    else s := by
  unfold State.vddLink
  rw [disp_of hx]
  cases x.step <;> rfl

/-- The link of an LVDS display runs. -/
theorem State.linkOn_lvds (hd : d < 2) : s.linkOn d = (s.modDisp d (Display.begins .waitVideo s.clock.ps)).setDll d 1 :=
  if_pos hd

theorem State.frameBl_eq (hx : s.displays[d]? = some x) : s.frameBl d =
    if x.step = .waitBacklight then s.panelStep d (s.fld DSP_SEQ 15 8 d) (fun _ => Display.goesTo .on) else s := by
  unfold State.frameBl
  rw [disp_of hx]
  cases x.step <;> rfl

theorem State.blLink_eq (hx : s.displays[d]? = some x) : s.blLink d =
    if x.step = .waitLinkOff then (s.panelStep d (s.fld DSP_SEQ 23 16 d) Display.linkStops).setDll d 0 else s := by
  unfold State.blLink
  rw [disp_of hx]
  cases x.step <;> rfl

theorem State.linkVdd_eq (hx : s.displays[d]? = some x) : s.linkVdd d =
    if x.step = .waitVddOff then s.panelStep d (s.fld DSP_SEQ 31 24 d) (Display.begins .waitOff) else s := by
  unfold State.linkVdd
  rw [disp_of hx]
  cases x.step <;> rfl

/-- The display is off once T_OFF has passed. -/
def State.offReached (s : State) (d : Nat) : State := s.panelStep d (s.fld DSP_SEQ2 15 0 d) (fun _ => Display.rests)

theorem State.offWait_eq (hx : s.displays[d]? = some x) : s.offWait d =
    if x.step = .waitOff then (if x.again then (s.offReached d).panelUp d else s.offReached d) else s := by
  unfold State.offWait
  rw [disp_of hx]
  cases x.step with
  | waitOff => rw [if_pos rfl]; rfl
  | _ => rfl

/-! The commands. -/

/-- A timer that only changes the step of its display. -/
theorem panelTimer_gives {i : Instr} {t : State} (hx : s.displays[d]? = some x) (step : exec i s = .next t.settle)
    (ht : t = s.panelStep d ms f) : Gives i s (fun t =>
      t.disp d = f t.clock.ps x ∧ x.since + ms * 10 ^ 9 ≤ t.clock.ps ∧ OnlyIn [.clock, .displays] s t) := by
  subst ht
  refine Gives.intro step ?_
  rw [State.settle_disp, State.settle_clock]
  exact ⟨disp_panelStep hx, State.le_panelStep hx, (s.panelStep_onlyIn d ms f).settle⟩

theorem vddLinkTimer_links (hd : d < 3) (hx : s.displays[d]? = some x) (h : x.step = .waitLink) :
    Gives (.vddLinkTimer d) s (fun t =>
      (t.disp d).step = (if d = 2 then .training else .waitVideo) ∧ (t.disp d).since = t.clock.ps ∧
      x.since + s.fld DSP_SEQ 7 0 d * 10 ^ 9 ≤ t.clock.ps ∧ (d < 2 → bitAt t.clk.lvdsDll d = true) ∧
      OnlyIn [.clock, .displays, .clk] s t) := by
  have vdd := State.vddLink_eq hx
  rw [if_pos h] at vdd
  refine Gives.onUnit (u := s.vddLink d) rfl hd ?_
  rw [vdd]
  by_cases edp : d = 2
  · rw [if_pos edp, if_pos edp, State.settle_disp, State.settle_clock, disp_panelStep hx]
    exact ⟨rfl, rfl, State.le_panelStep hx, by omega, ((s.panelStep_onlyIn _ _ _).mono (by decide)).settle⟩
  · have link : (s.panelTime d (s.fld DSP_SEQ 7 0 d)).linkOn d =
        (s.panelStep d (s.fld DSP_SEQ 7 0 d) (Display.begins .waitVideo)).setDll d 1 := State.linkOn_lvds (by omega)
    rw [if_neg edp, if_neg edp, link, State.settle_disp, State.settle_clock, State.setDll_clock, State.setDll_disp,
      disp_panelStep hx]
    exact ⟨rfl, rfl, State.le_panelStep hx, fun _ => State.bitAt_setDll _ d 1,
      (((s.panelStep_onlyIn _ _ _).mono (by decide)).step (State.setDll_onlyIn _ _ _) (by decide)).settle⟩

theorem blLinkTimer_unlinks (hd : d < 3) (hx : s.displays[d]? = some x) (h : x.step = .waitLinkOff) :
    Gives (.blLinkTimer d) s (fun t =>
      (t.disp d).step = .waitVddOff ∧ (t.disp d).since = t.clock.ps ∧ (t.disp d).again = x.again ∧
      (t.disp d).scans = false ∧ x.since + s.fld DSP_SEQ 23 16 d * 10 ^ 9 ≤ t.clock.ps ∧ bitAt t.clk.lvdsDll d = false ∧
      OnlyIn [.clock, .displays, .clk] s t) := by
  refine Gives.onUnit (u := s.blLink d) rfl hd ?_
  rw [State.blLink_eq hx, if_pos h, State.settle_disp, State.settle_clock, State.setDll_clock, State.setDll_disp,
    disp_panelStep hx]
  exact ⟨rfl, rfl, rfl, rfl, State.le_panelStep hx, State.bitAt_setDll _ d 0,
    (((s.panelStep_onlyIn _ _ _).mono (by decide)).step (State.setDll_onlyIn _ _ _) (by decide)).settle⟩

theorem State.offReached_onlyIn (s : State) (d : Nat) : OnlyIn [.clock, .displays] s (s.offReached d) :=
  s.panelStep_onlyIn _ _ _

theorem getElem?_offReached (hx : s.displays[d]? = some x) : (s.offReached d).displays[d]? = some x.rests := by
  rw [State.offReached]
  exact getElem?_panelStep hx

theorem State.flag_offReached (s : State) (d k : Nat) : (s.offReached d).flag DSP_CFG k d = s.flag DSP_CFG k d :=
  congrArg (bitAt · k) (State.rd_congr ((s.offReached_onlyIn d).regs_eq (by decide)) _ _)

theorem panelHere_offReached (hx : s.displays[d]? = some x) : (s.offReached d).panelHere d = s.panelHere d := by
  rw [State.panelHere, State.panelHere, disp_of (getElem?_offReached hx), disp_of hx, State.flag_offReached, Display.rests]

theorem offWaitTimer_ends (hd : d < 3) (hx : s.displays[d]? = some x) (h : x.step = .waitOff) :
    Gives (.offWaitTimer d) s (fun t =>
      x.since + s.fld DSP_SEQ2 15 0 d * 10 ^ 9 ≤ t.clock.ps ∧
      (x.again = false → (t.disp d).step = .off ∧ OnlyIn [.clock, .displays] s t) ∧
      (x.again = true → s.enabled d = true → s.panelHere d = true →
        (t.disp d).step = (if d = 2 ∧ x.raw = false then .waitHpd else .waitLink) ∧ (t.disp d).since = t.clock.ps) ∧
      (t.disp d).again = false ∧ OnlyIn [.clock, .displays, .clk] s t) := by
  have off := getElem?_offReached hx
  have only := s.offReached_onlyIn d
  have time : x.since + s.fld DSP_SEQ2 15 0 d * 10 ^ 9 ≤ (s.offReached d).clock.ps := by
    rw [State.offReached]
    exact State.le_panelStep hx
  refine Gives.onUnit (u := s.offWait d) rfl hd ?_
  rw [State.offWait_eq hx, if_pos h]
  cases waits : x.again with
  | false =>
    rw [if_neg (by decide), State.settle_disp, disp_of off]
    exact ⟨time, fun _ => ⟨rfl, only.settle⟩, fun again => absurd again (by decide), rfl, (only.mono (by decide)).settle⟩
  | true =>
    have up := (s.offReached d).panelUp_onlyIn d
    rw [if_pos rfl, State.settle_disp, State.settle_clock, up.clock_eq (by decide)]
    refine ⟨time, fun again => absurd again (by decide), fun _ on here => ?_, disp_panelUp_again off rfl rfl,
      ((only.mono (by decide)).step up (by decide)).settle⟩
    have on' : (s.offReached d).enabled d = true := (s.flag_offReached d 0).trans on
    rw [disp_of (getElem?_panelUp_rises off rfl on' ((panelHere_offReached hx).trans here))]
    exact ⟨rfl, rfl⟩

/-- Settles O42, timer by timer: one that runs on its step lasts the step's time, and the others leave every branch at once. -/
theorem panelPowerSequence : Obligations.PanelPowerSequence := by
  unfold Obligations.PanelPowerSequence
  intro s d x hd hx
  refine ⟨?_, vddLinkTimer_links hd hx, fun h => ?_, blLinkTimer_unlinks hd hx, fun h => ?_, offWaitTimer_ends hd hx, ?_,
    fun h => ?_, fun h => ?_, fun h => ?_, fun h => ?_, fun h => ?_⟩
  · rintro rfl h
    exact panelTimer_gives hx (t := s.hpdTimeout) rfl ((State.hpdTimeout_eq hx).trans (if_pos h))
  · exact panelTimer_gives (i := .frameBlTimer d) hx (onUnit_lt s (s.frameBl d) hd) ((State.frameBl_eq hx).trans (if_pos h))
  · have ends := (State.linkVdd_eq hx).trans (if_pos h)
    refine (panelTimer_gives (i := .linkVddTimer d) hx (onUnit_lt s (s.linkVdd d) hd) ends).imp ?_
    rintro t ⟨at_, time, only⟩
    rw [at_]
    exact ⟨rfl, rfl, rfl, time, only⟩
  · rintro rfl h
    exact congrArg done ((State.hpdTimeout_eq hx).trans (if_neg h))
  · exact exec_onUnit_same (u := s.vddLink d) rfl hd ((State.vddLink_eq hx).trans (if_neg h))
  · exact exec_onUnit_same (u := s.frameBl d) rfl hd ((State.frameBl_eq hx).trans (if_neg h))
  · exact exec_onUnit_same (u := s.blLink d) rfl hd ((State.blLink_eq hx).trans (if_neg h))
  · exact exec_onUnit_same (u := s.linkVdd d) rfl hd ((State.linkVdd_eq hx).trans (if_neg h))
  · exact exec_onUnit_same (u := s.offWait d) rfl hd ((State.offWait_eq hx).trans (if_neg h))

end Sys2Proof.Machine
end

section
namespace Sys2Proof.Machine

/-! A display is enabled and disabled (R294, R297). -/

variable {s t : State} {d : Nat} {x : Display}

theorem writtenAt_DSP_CFG : ∀ d < 3, DSP_CFG.WrittenAt (DSP_CFG.at d) d := by decide

theorem map_lmod {α β : Type} (g : α → β) {f : α → α} (h : ∀ a, g (f a) = g a) (l : List α) (i : Nat) :
    (lmod l i f).map g = l.map g := by
  induction l generalizing i with
  | nil => rfl
  | cons a l ih => cases i <;> simp [lmod, h, ih]

/-- CFG_ERR names one of four checks. -/
theorem State.displayErr_le (s : State) (d others : Nat) : s.displayErr d others ≤ 4 := by
  unfold State.displayErr
  dsimp only
  repeat' split
  all_goals decide

/-! DSP_CFG as a write in CONFIG leaves it. -/

/-- DSP_CFG has taken the value. -/
def State.cfgTaken (s : State) (d v : Nat) : State := s.wr DSP_CFG d 0 (writeFields false v (s.rd DSP_CFG d) DSP_CFG.fields)

theorem State.enabled_cfgTaken (s : State) (d v : Nat) : (s.cfgTaken d v).enabled d = bitAt v 0 :=
  congrArg (· == 1) (s.fld_wr_writeFields DSP_CFG d 0 v (f := ⟨0, 0, .cfg, 0⟩) (by decide) rfl (by decide) (by decide)
    (by decide))

/-- The display as the write of EN finds it: background and backlight follow their registers in CONFIG. -/
def State.cfgStored (s : State) (d v : Nat) : State := (s.cfgTaken d v).displayStart d

theorem State.cfgStored_onlyIn (s : State) (d v : Nat) : OnlyIn [.regs, .displays] s (s.cfgStored d v) :=
  ((s.wr_onlyIn _ _ _ _).mono (by decide)).step (State.displayStart_onlyIn _ d) (by decide)

theorem State.steps_cfgStored (s : State) (d v : Nat) :
    (s.cfgStored d v).displays.map (·.step) = s.displays.map (·.step) := by
  refine map_lmod _ (fun _ => ?_) s.displays d
  rfl

theorem State.enabled_cfgStored (s : State) (d v : Nat) : (s.cfgStored d v).enabled d = bitAt v 0 := s.enabled_cfgTaken d v

theorem State.displayErr_cfgStored (s : State) (d v : Nat) :
    (s.cfgStored d v).displayErr d ((s.cfgStored d v).reserved - (s.cfgStored d v).reservation d) =
      (s.cfgTaken d v).displayErr d ((s.cfgTaken d v).reserved - (s.cfgTaken d v).reservation d) := rfl

theorem State.writeWord_cfg {p : Path} (hd : d < 3) (hr : s.reaches p (DSP_CFG.at d) = true) (ha : s.isActive = false)
    (v : Word) : s.writeWord p (DSP_CFG.at d) v = (s.cfgStored d v.toNat).enableWrite d (s.enabled d) :=
  State.writeWord_taken (writtenAt_DSP_CFG d hd) hr ha rfl

theorem displayEnable_eq {p : Path} (hd : d < 3) (hr : s.reaches p (DSP_CFG.at d) = true) (ha : s.isActive = false) (v : Word) :
    exec (.displayEnable p d v) s = .next ((s.cfgStored d v.toNat).enableWrite d (s.enabled d)).settle :=
  (onUnit_lt s _ hd).trans (congrArg done (State.writeWord_cfg hd hr ha v))

/-! What the write of EN makes of the display. -/

theorem State.enableWrite_off (off : s.enabled d = false) : s.enableWrite d true = s.disableDisplay d 0 := by
  unfold State.enableWrite
  rw [off]
  rfl

/-- A check fails: EN stays 0, and CFG_ERR names the check. -/
theorem State.enableWrite_fails {err : Nat} (on : s.enabled d = true)
    (fails : s.displayErr d (s.reserved - s.reservation d) = err) (bad : err ≠ 0) : s.enableWrite d false = (s.wrFld DSP_CFG 0 0 0 d).wrFld DSP_STATUS 11 8 err d := by
  unfold State.enableWrite
  rw [on, fails]
  exact if_neg bad

/-- The display shows its background from its first buffer. -/
def Display.starts (bg backlight : Nat) (x : Display) : Display := { x with bg := bg, backlight := backlight, frontBuf := 1 }

/-- The display is enabled, with its pixel clock tuned. -/
def State.displayOn (s : State) (d : Nat) : State :=
  ((s.wrFld DSP_STATUS 11 8 0 d).modDisp d (Display.starts (s.fld DSP_BG 23 0 d) (s.fld DSP_BL 23 16 d))).tuneVpll d

theorem State.enableWrite_passes (on : s.enabled d = true) (passes : s.displayErr d (s.reserved - s.reservation d) = 0) :
    s.enableWrite d false = (s.displayOn d).panelUp d := by
  unfold State.enableWrite
  rw [on, passes]
  rfl

/-! What is read of DSP_CFG and DSP_STATUS then. -/

theorem DSP_CFG_ne_DSP_STATUS (d : Nat) : DSP_CFG.at d ≠ DSP_STATUS.at d := by
  simp only [RegDef.at, DSP_CFG, DSP_STATUS]
  omega

/-- Writing CFG_ERR leaves DSP_CFG. -/
theorem State.flag_wrErr (s : State) (d err k : Nat) : (s.wrFld DSP_STATUS 11 8 err d).flag DSP_CFG k d = s.flag DSP_CFG k d :=
  congrArg (bitAt · k) (s.rd_wrFld_other _ _ _ _ _ _ _ _ _ (DSP_CFG_ne_DSP_STATUS d))

/-- The check that CFG_ERR names. -/
theorem State.fld_wrErr (s : State) (d : Nat) {err : Nat} (h : err ≤ 4) :
    (s.wrFld DSP_STATUS 11 8 err d).fld DSP_STATUS 11 8 d = err :=
  (s.fld_wrFld_same DSP_STATUS err d 0 (by decide) (by decide)).trans (Nat.mod_eq_of_lt (by omega))

/-- The registers of a display that is disabled, or not enabled, with CFG_ERR. -/
theorem State.notEnabled (s : State) (d : Nat) {err : Nat} (h : err ≤ 4) :
    ((s.wrFld DSP_CFG 0 0 0 d).wrFld DSP_STATUS 11 8 err d).enabled d = false ∧
      ((s.wrFld DSP_CFG 0 0 0 d).wrFld DSP_STATUS 11 8 err d).fld DSP_STATUS 11 8 d = err :=
  ⟨(State.flag_wrErr _ d err 0).trans (s.flag_wrFld_clear _ _ _ (by decide)), State.fld_wrErr _ d h⟩

theorem State.fld_congr (h : t.regs = s.regs) (r : RegDef) (hi lo i : Nat) : t.fld r hi lo i = s.fld r hi lo i :=
  congrArg (bits · hi lo) (State.rd_congr h r i)

theorem State.flag_congr (h : t.regs = s.regs) (r : RegDef) (k i : Nat) : t.flag r k i = s.flag r k i :=
  congrArg (bitAt · k) (State.rd_congr h r i)

/-! EN written 0. -/

/-- A power-down leaves its display off, or on its way there. -/
theorem getElem?_panelDown {y : Display} (h : (s.panelDown d).displays[d]? = some y) :
    y.step.isOff = true ∨ y.step.falling = true := by
  simp only [State.panelDown, State.modDisp, getElem?_lmod, if_true, Option.map_eq_some_iff] at h
  obtain ⟨x, -, rfl⟩ := h
  split
  · next down => exact down.imp (fun off => by rw [show x.step = .off from off]; rfl) id
  · exact .inr rfl

theorem State.synthOff_onlyIn (s : State) (i : Nat) : OnlyIn [.clk] s (s.synthOff i) := s.setSynth_onlyIn i _

theorem State.disableDisplay_spec (s : State) (d : Nat) :
    (s.disableDisplay d 0).enabled d = false ∧ (s.disableDisplay d 0).fld DSP_STATUS 11 8 d = 0 ∧
      (∀ y, (s.disableDisplay d 0).displays[d]? = some y → y.step.isOff = true ∨ y.step.falling = true) ∧
      OnlyIn [.regs, .displays, .clk] s (s.disableDisplay d 0) := by
  obtain ⟨off, err⟩ := s.notEnabled d (err := 0) (by decide)
  have written := (s.wrFld_onlyIn DSP_CFG 0 0 0 d 0).trans (State.wrFld_onlyIn _ DSP_STATUS 11 8 0 d 0)
  unfold State.disableDisplay
  dsimp only
  generalize (s.wrFld DSP_CFG 0 0 0 d).wrFld DSP_STATUS 11 8 0 d = u at off err written ⊢
  have clock := (u.panelDown d).synthOff_onlyIn (2 + d)
  have down : OnlyIn [.displays, .clk] u ((u.panelDown d).synthOff (2 + d)) :=
    ((u.panelDown_onlyIn d).mono (by decide)).step clock (by decide)
  have regs := down.regs_eq (by decide)
  refine ⟨(State.flag_congr regs _ _ _).trans off, (State.fld_congr regs _ _ _ _).trans err, fun y hy => ?_,
    (written.mono (by decide)).step down (by decide)⟩
  rw [clock.displays_eq (by decide)] at hy
  exact getElem?_panelDown hy

theorem displayEnable_off {p : Path} {v : Word} (hd : d < 3) (hr : s.reaches p (DSP_CFG.at d) = true) (ha : s.isActive = false)
    (on : s.enabled d = true) (off : bitAt v.toNat 0 = false) : Gives (.displayEnable p d v) s (fun t =>
      t.enabled d = false ∧ t.fld DSP_STATUS 11 8 d = 0 ∧ OnlyIn [.regs, .displays, .clk] s t ∧
      ∀ y, t.displays[d]? = some y → y.step.isOff = true ∨ y.step.falling = true) := by
  have answer := displayEnable_eq hd hr ha v
  rw [on, State.enableWrite_off ((s.enabled_cfgStored d _).trans off)] at answer
  obtain ⟨disabled, err, down, only⟩ := (s.cfgStored d v.toNat).disableDisplay_spec d
  exact Gives.intro answer ⟨disabled, err, (((s.cfgStored_onlyIn d _).mono (by decide)).trans only).settle, down⟩

/-! EN written 1. -/

section
variable {p : Path} {v : Word}

theorem displayEnable_fails {err : Nat} (hd : d < 3) (hr : s.reaches p (DSP_CFG.at d) = true) (ha : s.isActive = false)
    (was : s.enabled d = false) (on : bitAt v.toNat 0 = true)
    (fails : (s.cfgTaken d v.toNat).displayErr d ((s.cfgTaken d v.toNat).reserved - (s.cfgTaken d v.toNat).reservation d) = err)
    (bad : err ≠ 0) : Gives (.displayEnable p d v) s (fun t =>
      t.enabled d = false ∧ t.fld DSP_STATUS 11 8 d = err ∧ OnlyIn [.regs, .displays] s t ∧
      t.displays.map (·.step) = s.displays.map (·.step)) := by
  have answer := displayEnable_eq hd hr ha v
  rw [was, State.enableWrite_fails ((s.enabled_cfgStored d _).trans on) ((s.displayErr_cfgStored d _).trans fails) bad] at answer
  obtain ⟨off, cfgErr⟩ := (s.cfgStored d v.toNat).notEnabled d (fails ▸ State.displayErr_le _ _ _)
  refine Gives.intro answer ⟨off, cfgErr, ?_, s.steps_cfgStored d _⟩
  exact (((s.cfgStored_onlyIn d _).step (State.wrFld_onlyIn _ _ _ _ _ _ _) (by decide)).step (State.wrFld_onlyIn _ _ _ _ _ _ _)
    (by decide)).settle

theorem State.displayOn_spec (s : State) (d : Nat) :
    (s.displayOn d).enabled d = s.enabled d ∧ (s.displayOn d).fld DSP_STATUS 11 8 d = 0 ∧
      (s.displayOn d).flag DSP_CFG 7 d = s.flag DSP_CFG 7 d ∧ OnlyIn [.regs, .displays, .clk] s (s.displayOn d) := by
  have err := s.fld_wrErr d (Nat.zero_le 4)
  have cfg := s.flag_wrErr d 0
  have written := s.wrFld_onlyIn DSP_STATUS 11 8 0 d 0
  unfold State.displayOn
  generalize s.wrFld DSP_STATUS 11 8 0 d = u at err cfg written ⊢
  generalize Display.starts (s.fld DSP_BG 23 0 d) (s.fld DSP_BL 23 16 d) = f
  have on : OnlyIn [.displays, .clk] u ((u.modDisp d f).tuneVpll d) :=
    ((u.modDisp_onlyIn d f).mono (by decide)).step (State.tuneVpll_onlyIn _ d) (by decide)
  have regs := on.regs_eq (by decide)
  exact ⟨(State.flag_congr regs _ _ _).trans (cfg 0), (State.fld_congr regs _ _ _ _).trans err,
    (State.flag_congr regs _ _ _).trans (cfg 7), (written.mono (by decide)).step on (by decide)⟩

/-- The display that is enabled shows its first buffer next. -/
theorem getElem?_displayOn (hx : s.displays[d]? = some x) :
    (s.displayOn d).displays[d]? = some (x.starts (s.fld DSP_BG 23 0 d) (s.fld DSP_BL 23 16 d)) := by
  rw [State.displayOn, (State.tuneVpll_onlyIn _ d).displays_eq (by decide)]
  exact getElem?_modDisp _ hx

/-- A panel that is there rises from off. -/
theorem displayOn_rises (hx : s.displays[d]? = some x) (off : x.step = .off) (on : s.enabled d = true)
    (here : x.present = true ∨ (d < 2 ∧ s.flag DSP_CFG 7 d = true)) :
    ∃ y, ((s.displayOn d).panelUp d).displays[d]? = some y ∧ y.frontBuf = 1 ∧ y.step.vdd = true := by
  obtain ⟨enabled, -, ignore, -⟩ := s.displayOn_spec d
  have shown := getElem?_displayOn hx
  have there : (s.displayOn d).panelHere d = true := by
    rw [State.panelHere, disp_of shown, ignore]
    simpa [Display.starts] using here
  exact ⟨_, getElem?_panelUp_rises shown off (enabled.trans on) there, rfl, Display.firstStep_vdd _ _⟩

theorem displayEnable_passes (hd : d < 3) (hr : s.reaches p (DSP_CFG.at d) = true) (ha : s.isActive = false)
    (was : s.enabled d = false) (on : bitAt v.toNat 0 = true)
    (passes : (s.cfgTaken d v.toNat).displayErr d ((s.cfgTaken d v.toNat).reserved - (s.cfgTaken d v.toNat).reservation d) = 0) :
    Gives (.displayEnable p d v) s (fun t =>
      t.enabled d = true ∧ t.fld DSP_STATUS 11 8 d = 0 ∧ OnlyIn [.regs, .displays, .clk] s t ∧
      (∀ x, s.displays[d]? = some x → (x.present = true ∨ (d < 2 ∧ (s.cfgTaken d v.toNat).flag DSP_CFG 7 d = true)) →
        x.step = .off → ∃ y, t.displays[d]? = some y ∧ y.frontBuf = 1 ∧ y.step.vdd = true)) := by
  have on' := (s.enabled_cfgStored d v.toNat).trans on
  have answer := displayEnable_eq hd hr ha v
  rw [was, State.enableWrite_passes on' ((s.displayErr_cfgStored d _).trans passes)] at answer
  obtain ⟨enabled, err, -, only⟩ := (s.cfgStored d v.toNat).displayOn_spec d
  have up := ((s.cfgStored d v.toNat).displayOn d).panelUp_onlyIn d
  have regs := up.regs_eq (by decide)
  refine Gives.intro answer ⟨(State.flag_congr regs _ _ _).trans (enabled.trans on'), (State.fld_congr regs _ _ _ _).trans err,
    ((((s.cfgStored_onlyIn d _).mono (by decide)).trans only).step up (by decide)).settle, fun x hx here off => ?_⟩
  exact displayOn_rises (getElem?_modDisp _ hx) off on' here

end

/-- Settles O21: a write of EN in CONFIG is `enableWrite`, whose branches are a check that fails, the checks that pass, and EN 0. -/
theorem displayEnableChecks : Obligations.DisplayEnableChecks := by
  unfold Obligations.DisplayEnableChecks
  intro p d v s hd hr
  exact ⟨fun active => (onUnit_lt s _ hd).trans (congrArg done (State.writeWord_late (writtenAt_DSP_CFG d hd) hr active v)),
    fun ha on off => displayEnable_off hd hr ha on off,
    fun ha was on => ⟨fun bad => displayEnable_fails hd hr ha was on rfl bad, displayEnable_passes hd hr ha was on⟩⟩

end Sys2Proof.Machine
end

section
namespace Sys2Proof.Machine

/-! A layer setting whose completion ring is none of the 64 (R121, R276). -/

/-- LAYER_SET of layer 0 of display 0: a solid colour on one pixel. -/
def onePixelDesc : Desc :=
  descOf ([0x20] ++ List.replicate 17 0 ++ [3] ++ List.replicate 13 0 ++ [1, 0, 1, 0, 0, 0, 4])

/-- Its completion ring is number 3784, as that of `refusedRingJob`. -/
def onePixelJob : Job := Job.blank 0 .host 0 3784 onePixelDesc 0 0

/-- A module in RUN and ACTIVE where `onePixelJob` waits. Display 0 is one pixel large and reserves no layer. TCK_REFUSE_COUNT is 15,
which as a ring size is 32768; the ring holds one entry. -/
def noLayerState : State :=
  { refusedRingState with
    regs := [(TCK_REFUSE_COUNT.at 0, 15), (DSP_CFG.at 0, 0), (DSP_H1.at 0, 1), (DSP_V1.at 0, 1)]
    hif := { refusedRingState.hif with jobs := [onePixelJob] } }

theorem noLayerState_ready : noLayerState.postable onePixelJob = true ∧
    noLayerState.readyJob 0 0x20 = some onePixelJob ∧ noLayerState.classOk onePixelJob.desc = true := by
  decide +kernel

theorem noLayerState_takeable : noLayerState.takeable 0 0x20 onePixelJob :=
  have ⟨_, ready, class_⟩ := noLayerState_ready
  ⟨ready, fun h => absurd h (by decide), class_, fun h => absurd h (by decide)⟩

/-- The layer passes the checks of R275, and is one pixel more than the display reserves. -/
theorem noLayerState_tooMany : noLayerState.layerOk 0 (layerOf onePixelDesc.bytes) = true ∧
    noLayerState.overLayers { tick := (noLayerState.tickFor 0).1, job := 0, change := .layer 0 0 (layerOf onePixelDesc.bytes) } 0 =
      true := by decide +kernel

/-- The refusal is counted, and with 16 in place of 15 the ring is full: the completion waits. -/
theorem noLayerState_full : ((noLayerState.layerSet 0).cq 3784).pi = 1 := by decide +kernel

/-- Refutes O48: `postable` asks for room in the job's ring and leaves the ring's number open. The refused LAYER_SET of `noLayerState`
counts in the register that the size of its ring is read from; the ring has no room then, and the job is not completed (R119, R276). -/
theorem not_compositionOfFrames : ¬ Obligations.CompositionOfFrames := by
  intro h
  obtain ⟨postable, -, -⟩ := noLayerState_ready
  obtain ⟨ok, tooMany⟩ := noLayerState_tooMany
  obtain ⟨set, -⟩ := h.1 noLayerState 0 onePixelJob postable
  obtain ⟨-, -, refused, -⟩ := set noLayerState_takeable (by decide)
  obtain ⟨t, ht, -, ⟨-, pi, -⟩, -⟩ := refused ⟨by decide, by decide, ok⟩ ⟨by decide, tooMany⟩
  have answer : exec (.layerSet 0) noLayerState = .next (noLayerState.layerSet 0).settle := rfl
  cases answer.symm.trans ht
  exact absurd (noLayerState_full.symm.trans pi) (by decide)

end Sys2Proof.Machine
end

section
namespace Sys2Proof.Machine

/-! The DRAM's training while a fault is raised: the trace of the threads that are flagged goes to memory, and nothing trains. -/

/-- A fold of steps that each leave the training state leaves it. -/
theorem foldl_trained {α : Type} (f : State → α → State) (h : ∀ s a, (f s a).mem.trained = s.mem.trained) (l : List α)
    (s : State) : (l.foldl f s).mem.trained = s.mem.trained :=
  List.foldlRecOn (motive := fun t => t.mem.trained = s.mem.trained) l f rfl fun t ht a _ => (h t a).trans ht

theorem OnlyIn.trained_eq {ps : List Part} {s t : State} (h : OnlyIn ps s t) (hp : Part.mem ∉ ps) :
    t.mem.trained = s.mem.trained := congrArg Mem.trained (h.mem_eq hp)

theorem State.trace_trained (s : State) (kind core slot rule : Nat) (prev : Option Nat) (before : Thread) :
    (s.trace kind core slot rule prev before).mem.trained = s.mem.trained := by
  unfold State.trace
  dsimp only
  split
  · split
    · split <;> rfl
    · split <;> rfl
  · rfl

theorem State.markReady_trained (s : State) (slot : Nat) : (s.markReady slot).mem.trained = s.mem.trained :=
  State.trace_trained ..

theorem State.dispatchOn_trained (s : State) (c : Nat) : (s.dispatchOn c).mem.trained = s.mem.trained := by
  unfold State.dispatchOn
  split
  · split
    · rfl
    · exact State.trace_trained ..
  · rfl

theorem State.dispatch_trained (s : State) : s.dispatch.mem.trained = s.mem.trained :=
  foldl_trained _ State.dispatchOn_trained _ s

theorem State.preempt_trained (n : Nat) (s : State) (slot : Nat) :
    (State.preempt n s slot).mem.trained = s.mem.trained := by
  induction n generalizing s slot with
  | zero => rfl
  | succ n ih =>
    unfold State.preempt
    dsimp only
    split
    · split
      · rfl
      · split
        · rw [ih, State.dispatch_trained, State.trace_trained]; rfl
        · rfl
    · rfl

theorem State.seatThreads_trained (s : State) (l : List Nat) : (s.seatThreads l).mem.trained = s.mem.trained := by
  refine (foldl_trained _ (State.preempt_trained 4) _ _).trans ?_
  split
  · rfl
  · exact s.dispatch_trained

theorem State.raiseFlags_trained (flags : Word) (acc : State × List Nat) (slot : Nat) :
    (State.raiseFlags flags acc slot).1.mem.trained = acc.1.mem.trained := by
  obtain ⟨s, ready⟩ := acc
  unfold State.raiseFlags
  dsimp only
  split
  · rfl
  · split
    · exact State.markReady_trained ..
    · rfl

theorem State.hwFlag_trained (s : State) (b : Nat) : (s.hwFlag b).mem.trained = s.mem.trained :=
  (State.seatThreads_trained _ _).trans
    (List.foldlRecOn (motive := fun acc : State × List Nat => acc.1.mem.trained = s.mem.trained) _ _ rfl
      fun acc h n _ => (State.raiseFlags_trained _ acc n).trans h)

/-- SAFE switches banks on and locks PLLs; the DRAM is as trained as before. -/
theorem State.enterSafe_trained (s : State) : s.enterSafe.mem.trained = s.mem.trained := by
  generalize hu : s.enterSafe = u
  unfold State.enterSafe at hu
  split at hu
  · rw [← hu]
  · extract_lets s1 s2 p bus tick mem guard pwr fio s3 at hu
    have dark : s2.mem.trained = s.mem.trained :=
      (OnlyIn.foldl _ State.panelDown_onlyIn _ s1).trained_eq (by decide)
    rw [← hu, (State.flushMsi_onlyIn _).trained_eq (by decide), ← dark]
    split
    · exact (State.lockPlls_onlyIn _).trained_eq (by decide)
    · rfl

/-- A Class S fault trains no DRAM and untrains none. -/
theorem State.react_s_trained (s : State) (code : Nat) (i : FaultInfo) :
    (s.react code .s i {}).mem.trained = s.mem.trained := by
  generalize hv : s.react code .s i {} = v
  unfold State.react at hv
  extract_lets eff old newM extra acting ids i first g a begun logged shown restarted at hv
  have hextra : extra = 0 := rfl
  have hacting : acting = .s := FClass.max_s old
  have hlogged : logged.mem.trained = s.mem.trained := by
    unfold logged
    split
    · rw [State.hwFlag_trained, (State.signal_onlyIn _ _).trained_eq (by decide),
        (State.logFault_onlyIn _ _ _ _ _).trained_eq (by decide)]
      rfl
    · exact (State.logFault_onlyIn _ _ _ _ _).trained_eq (by decide)
  rw [if_pos hacting, State.toSafe, if_pos hextra] at hv
  rw [← hv, State.enterSafe_trained, ← hlogged]
  rfl

theorem State.raise_s_trained {s : State} {code : Nat} (hc : faultClass code = some .s) (hs : s.guard.safe = false)
    (i : FaultInfo) : (s.raise code i).mem.trained = s.mem.trained := by
  refine Eq.trans ?_ ((s.setStatus code).react_s_trained code (if i.channel = 0xFF then { i with channel := 0xFF } else i))
  rw [State.raise, hc]
  simp [hs, effClass, State.idleFault, State.setStatus]

end Sys2Proof.Machine
end

section
namespace Sys2Proof.Machine

/-! An entry completes (R313, R427, R440). -/

/-- A port whose camera is without supply: what detection found, and the probe, outlast it. -/
def CsiPort.asleep (c : CsiPort) : CsiPort :=
  { CsiPort.reset with rawDet := c.rawDet, probe := c.probe, identValid := c.identValid }

/-- The module in the mode that it has entered, before a latched event acts. -/
def State.asleepIn (s : State) (m : Mode) : State :=
  { s with
    power := { s.power with mode := m, trans := .none, from_ := s.power.mode.code, completeNs := s.ktime }
    mem := { s.mem with bankOn := s.banksIn m, sram := s.mem.sram.filter (fun p => bitAt (s.banksIn m) (sramBank p.1)) }
    csi := s.csi.map CsiPort.asleep
    clk := { s.clk with synths := s.clk.synths.map (fun x => { x with state := 0 }), standby := false, dramDll := 0,
                        lvdsDll := 0 } }

theorem State.completeEntry_quiet {s : State} {m : Mode} (hq : s.power.trans = .quiesced m) (hl : s.power.latched = []) :
    s.completeEntry = s.asleepIn m := by
  rw [State.completeEntry, hq]
  dsimp only
  split
  · rfl
  · next h => exact nomatch hl.symm.trans h

theorem State.completeEntry_latched {s : State} {m : Mode} {w : Wake} {rest : List Wake}
    (hq : s.power.trans = .quiesced m) (hl : s.power.latched = w :: rest) :
    s.completeEntry = (s.asleepIn m).startExit w.source := by
  rw [State.completeEntry, hq]
  dsimp only
  split
  · next h => exact nomatch hl.symm.trans h
  · next h => cases hl.symm.trans h; rfl

theorem State.asleepIn_onlyIn (s : State) (m : Mode) : OnlyIn [.power, .csi, .clk, .mem] s (s.asleepIn m) := by
  intro p; cases p <;> first | exact .inr rfl | exact .inl (by decide)

theorem State.asleepIn_synths (s : State) (m : Mode) : ∀ x ∈ (s.asleepIn m).clk.synths, x.state = 0 :=
  List.forall_mem_map.mpr fun _ _ => rfl

theorem State.asleepIn_csi (s : State) (m : Mode) : ∀ c ∈ (s.asleepIn m).csi, c.camEn = false :=
  List.forall_mem_map.mpr fun _ _ => rfl

theorem State.entryComplete_quiet {s : State} {m : Mode} (hq : s.power.trans = .quiesced m) (hl : s.power.latched = []) :
    Gives .entryComplete s (fun t =>
      t.power.mode = m ∧ t.power.trans = .none ∧ t.power.completeNs = s.ktime ∧ t.clk.dramDll = 0 ∧
      t.clk.standby = false ∧ (∀ x ∈ t.clk.synths, x.state = 0) ∧ (∀ c ∈ t.csi, c.camEn = false) ∧
      t.mem = { s.mem with
        bankOn := s.banksIn m, sram := s.mem.sram.filter (fun p => bitAt (s.banksIn m) (sramBank p.1)) } ∧
      OnlyIn [.power, .csi, .clk, .mem] s t) :=
  ⟨_, congrArg done (State.completeEntry_quiet hq hl), rfl, rfl, rfl, rfl, rfl, s.asleepIn_synths m, s.asleepIn_csi m, rfl,
    (s.asleepIn_onlyIn m).settle⟩

theorem State.entryComplete_retain {s : State} {w : Wake} {rest : List Wake} (hl : s.power.latched = w :: rest)
    (hq : s.power.trans = .quiesced .retain) : Gives .entryComplete s (fun t =>
      t.power.mode = .retain ∧ t.power.trans = .exiting .retain ∧ t.power.latched = s.power.latched ∧
      t.mem.bankOn = s.fld MEM_RET_MASK 15 0 ∧ OnlyIn [.power, .csi, .clk, .mem] s t) := by
  have leaves := State.completeEntry_latched hq hl
  rw [State.startExit_retain rfl rfl] at leaves
  exact ⟨_, congrArg done leaves, rfl, rfl, rfl, rfl, ((s.asleepIn_onlyIn .retain).power (by decide)).settle⟩

/-- The exit from DEEP STANDBY is a start from boot stage 0 with RESET_CAUSE 5, and the DRAM has lost what it held. -/
theorem State.startExit_deepStandby_starts {s : State} (hm : s.power.mode = .deepStandby) (ht : s.power.trans = .none)
    (src : Nat) : (s.startExit src).power.mode = .deepStandby ∧ (s.startExit src).sys.resetCause = 5 ∧
      (s.startExit src).sys.bootStage = 0 ∧ (s.startExit src).mem.dram = [] := by
  rw [State.startExit, hm]
  dsimp only
  rw [if_pos ht]
  exact ⟨rfl, rfl, rfl, rfl⟩

theorem State.entryComplete_deepStandby {s : State} {w : Wake} {rest : List Wake} (hl : s.power.latched = w :: rest)
    (hq : s.power.trans = .quiesced .deepStandby) : Gives .entryComplete s (fun t =>
      t.power.mode = .deepStandby ∧ t.power.trans = .exiting .deepStandby ∧ t.power.latched = s.power.latched ∧
      t.sys.resetCause = 5 ∧ t.sys.bootStage = 0 ∧ t.mem.dram = []) := by
  obtain ⟨-, trans, -, latched⟩ := State.startExit_deepStandby (s := s.asleepIn .deepStandby) rfl rfl w.source
  obtain ⟨mode, cause, stage, dram⟩ := State.startExit_deepStandby_starts (s := s.asleepIn .deepStandby) rfl rfl w.source
  exact ⟨_, congrArg done (State.completeEntry_latched hq hl), mode, trans, latched, cause, stage, dram⟩

end Sys2Proof.Machine
end

section
namespace Sys2Proof.Machine

/-! RUN is reached from RETAIN (R431 to R436, R441). -/

theorem State.reachRun_other {s : State} (h : s.power.trans ≠ .exiting .retain) (present : List Nat) (train : Bool)
    (bad : Option Nat) : s.reachRun present train bad = s := if_neg h

theorem State.reachRun_trainingFails {s : State} (h : s.power.trans = .exiting .retain) (present : List Nat)
    (bad : Option Nat) : s.reachRun present false bad = ({ s with mem := { s.mem with trained := 0 } } : State).raise 0x0D07 :=
  (if_pos h).trans (if_pos rfl)

theorem State.reachRun_trains {s : State} (h : s.power.trans = .exiting .retain) (present : List Nat) :
    s.reachRun present true none =
      (((s.wakeFromRetain present).startWaiting.flushMsi.completeAllHeld).restartPulses).edge [] :=
  (if_pos h).trans (if_neg (by decide))

/-- DRC 0x0D07 is Class S: a training that fails at the exit leads to SAFE. -/
theorem State.runReached_trainingFails {s : State} (h : s.power.trans = .exiting .retain) (hs : s.guard.safe = false)
    (present : List Nat) (bad : Option Nat) : Gives (.runReached present false bad) s (fun t =>
      t.power.mode = .safe ∧ t.guard.safe = true ∧ t.mem.trained = 0 ∧ bitAt (t.fstat 0x0D) 6 = true) := by
  let u : State := { s with mem := { s.mem with trained := 0 } }
  have class_ : faultClass 0x0D07 = some .s := by decide
  have trained : (u.raise 0x0D07).mem.trained = 0 := State.raise_s_trained (s := u) class_ hs {}
  have bit : bitAt ((u.raise 0x0D07).fstat 0x0D) 6 = true := u.raise_sets (code := 0x0D07) (by decide) {} {}
  obtain ⟨v, raised, -, outside⟩ := State.raise_s (s := u) class_ hs {}
  obtain ⟨safe, -, mode⟩ := State.enterSafe_safe outside
  rw [← raised] at safe mode
  exact ⟨_, congrArg done (State.reachRun_trainingFails h present _), mode, safe, trained, bit⟩

/-- All that the exit changes after modes, ticks and SRAM banks are set: ports and partners, flows, displays and clocks. -/
abbrev exitParts : List Part := [.regs, .hif, .chans, .partners, .log, .clk, .fresh, .usb, .flows, .displays]

theorem State.recheckPartners_onlyIn (s : State) (present : List Nat) : OnlyIn departParts s (s.recheckPartners present) :=
  .foldl _ (fun s p => .ite (.refl _ s) (s.depart_onlyIn p)) _ s

/-- RUN with its replay due, with all SRAM banks on and the tick number that the next edge counts up. -/
def State.backInRun (s : State) : State :=
  { s with
    power := { s.power with mode := .run, trans := .none, armed := false, replay := some .retain, from_ := 2, cause := 3,
                            wakeOut := false }
    tick := { s.tick with stopped := false, number := BitVec.ofNat 48 (s.exitTick - 1), nextPs := s.clock.ps }
    mem := { s.restoreBanks.mem with selfRefresh := false } }

/-- The tick source in force starts anew; what a holdover owed stays owed. -/
def State.sourceBack (s : State) : State :=
  let u := s.startSource s.tick.src
  { u with tick := { u.tick with owedRestore := s.tick.owedRestore, holdTicks := s.tick.holdTicks } }

/-- USB devices enumerate again, and no flow counts the time asleep. -/
def State.portsBack (s : State) (n : Nat) : State :=
  { s with
    usb := s.usb.map (fun u => { u with enumerating := u.conn, modes := [] })
    flows := s.flows.map (fun f => (f.1, { f.2 with lastTick := n })) }

theorem State.wakeFromRetain_eq (s : State) (present : List Nat) : s.wakeFromRetain present =
    (if s.flag PWR_CFG 1 then s.power.displays else []).foldl (fun s d => s.panelUp d)
      (((s.backInRun.sourceBack.recheckPartners present).lockPlls).portsBack s.exitTick) := rfl

theorem State.sourceBack_onlyIn (s : State) : OnlyIn [.tick, .guard] s s.sourceBack :=
  (s.startSource_onlyIn s.tick.src).tick (by decide)

theorem State.sourceBack_number (s : State) : s.sourceBack.tick.number = s.tick.number := rfl

theorem State.portsBack_onlyIn (s : State) (n : Nat) : OnlyIn [.usb, .flows] s (s.portsBack n) := by
  intro p; cases p <;> first | exact .inr rfl | exact .inl (by decide)

/-- Once the tick source is back, modes, tick and SRAM banks are set. -/
theorem State.wakeFromRetain_onlyIn (s : State) (present : List Nat) :
    OnlyIn exitParts s.backInRun.sourceBack (s.wakeFromRetain present) := by
  rw [State.wakeFromRetain_eq]
  generalize s.backInRun.sourceBack = u
  have partners : OnlyIn exitParts u (u.recheckPartners present) := (u.recheckPartners_onlyIn present).mono (by decide)
  exact ((partners.step (State.lockPlls_onlyIn _) (by decide)).step (State.portsBack_onlyIn _ _) (by decide)).step
    (OnlyIn.foldl _ State.panelUp_onlyIn _ _) (by decide)

theorem State.wakeFromRetain_spec (s : State) (present : List Nat) :
    (s.wakeFromRetain present).power.mode = .run ∧ (s.wakeFromRetain present).power.replay = some .retain ∧
    (s.wakeFromRetain present).mem.bankOn = 0xFFFF ∧
    (s.wakeFromRetain present).tick.number = BitVec.ofNat 48 (s.exitTick - 1) := by
  have only := s.wakeFromRetain_onlyIn present
  have source := s.backInRun.sourceBack_onlyIn
  rw [only.power_eq (by decide), only.mem_eq (by decide), only.tick_eq (by decide), source.power_eq (by decide),
    source.mem_eq (by decide), State.sourceBack_number]
  exact ⟨rfl, rfl, rfl, rfl⟩

/-- Settles O19: an entry ends asleep (`State.asleepIn`), from where a latched event starts the exit; the exit from RETAIN ends in
SAFE by DRC 0x0D07, or in RUN as `State.wakeFromRetain_spec` has it. -/
theorem lowPowerEntryAndExit : Obligations.LowPowerEntryAndExit := by
  refine ⟨fun s m => State.entryComplete_quiet, fun s w rest hl => ⟨State.entryComplete_retain hl, ?_⟩,
    fun s present train bad => ⟨fun h => ?_, fun h => ⟨fun hs => ?_, ?_, s.wakeFromRetain_spec present⟩⟩⟩
  · exact State.entryComplete_deepStandby hl
  · exact congrArg done (State.reachRun_other h present train _)
  · exact State.runReached_trainingFails h hs present bad
  · exact congrArg done (State.reachRun_trains h present)

end Sys2Proof.Machine
end

section
namespace Sys2Proof.Machine

/-! The comb build (R331, R333, R334). -/

variable {s : State}

/-- In CONFIG a write of 1 to BUILD goes to the comb manager. -/
theorem State.writeWord_build {p : Path} (h : s.reaches p BPM_CTL.off = true) (config : s.isActive = false) :
    s.writeWord p BPM_CTL.off 1 = s.startBuild := by
  have found : findReg BPM_CTL.off = some (BPM_CTL, 0, 0, 0) := by decide
  have place : BPM_CTL.off % 4 = 0 ∧ isSramOffset BPM_CTL.off = false ∧ isMsixOffset BPM_CTL.off = false ∧
      BPM_CTL.off ≠ SYS_CTL.off := by decide
  obtain ⟨aligned, sram, msix, other⟩ := place
  have kind : ¬ (BPM_CTL.kind = .counter ∨ BPM_CTL.kind = .counter64) := by decide
  have one : bitAt 1 0 = true := by decide
  have word : s.writeWord p BPM_CTL.off 1 = s.writeReg p BPM_CTL 0 0 (BitVec.toNat (1 : Word)) none := by
    simp [State.writeWord, h, aligned, sram, msix, found, kind]
  rw [word, State.writeReg]
  simp [State.countLate, config, other, one]

theorem exec_combBuild {p : Path} (h : s.reaches p BPM_CTL.off = true) (config : s.isActive = false) :
    exec (.combBuild p) s = .next s.startBuild.settle := congrArg done (State.writeWord_build h config)

theorem exec_buildComplete (s : State) : exec .buildComplete s = .next s.endBuild.settle := rfl

/-- While a build runs a write of BUILD is ignored. -/
theorem State.startBuild_busy (h : s.bpm.building.isSome = true) : s.startBuild = s := by
  obtain ⟨b, hb⟩ := Option.isSome_iff_exists.mp h
  rw [State.startBuild, hb]

/-- With no build under way the combs are emptied, and one begins where no check fails. -/
theorem State.startBuild_spec (h : s.bpm.building = none) :
    s.startBuild.bpm.buildErr = s.buildErr ∧ s.startBuild.bpm.built = false ∧ s.startBuild.bpm.cells = [] ∧
    s.startBuild.bpm.counts = List.replicate 8 0 ∧
    s.startBuild.bpm.building =
      (if s.buildErr = 0 then some (s.combCounts, s.rd64 BPM_BASE_LO BPM_BASE_HI) else none) ∧
    OnlyIn [.bpm] s s.startBuild := by
  rw [State.startBuild, h]
  exact ⟨rfl, rfl, rfl, rfl, rfl, fun p => by cases p <;> first | exact .inr rfl | exact .inl (by decide)⟩

theorem State.endBuild_idle (h : s.bpm.building = none) : s.endBuild = s := by
  rw [State.endBuild, h]

/-- The combs as a build of these COUNTs from `base` leaves them, before the free stores are filled. -/
def State.withCombs (s : State) (counts : List Nat) (base : Nat) : State :=
  { s with bpm := { s.bpm with building := none, counts := counts, base := base, built := true, cells := [],
                               low := counts, prevLow := counts } }

theorem State.endBuild_eq {counts : List Nat} {base : Nat} (h : s.bpm.building = some (counts, base)) :
    s.endBuild = (s.withCombs counts base).fillStores := by
  rw [State.endBuild, h]
  rfl

theorem State.withCombs_onlyIn (s : State) (counts : List Nat) (base : Nat) :
    OnlyIn [.bpm] s (s.withCombs counts base) := by
  intro p; cases p <;> first | exact .inr rfl | exact .inl (by decide)

/-- With no cell allocated every cell of a comb is free. -/
theorem State.combFreeMap_withCombs (s : State) (counts : List Nat) (base c : Nat) :
    (s.withCombs counts base).combFreeMap c = lget 0 counts c := Nat.sub_zero _

/-- Settles O20: BUILD in CONFIG is `startBuild`, and a build ends with the stores filled from a cell map without an entry. -/
theorem combBuildChecksAndFills : Obligations.CombBuildChecksAndFills := by
  refine ⟨fun p s reach config => ⟨fun busy => ?_, fun idle => ?_⟩, fun s => ⟨fun idle => ?_, fun counts base runs => ?_⟩⟩
  · rw [exec_combBuild reach config, State.startBuild_busy busy]
  · obtain ⟨err, built, cells, zero, building, only⟩ := State.startBuild_spec idle
    exact ⟨_, exec_combBuild reach config, err, built, cells, zero, building, only.settle⟩
  · rw [exec_buildComplete, State.endBuild_idle idle]
  · have filled := ((s.withCombs_onlyIn counts base).mono (qs := [.bpm, .mem]) (by decide)).trans
      (State.fillStores_onlyIn _)
    refine ⟨_, exec_buildComplete s, ?_⟩
    rw [State.endBuild_eq runs]
    exact ⟨rfl, rfl, rfl, rfl, rfl, fun c _ => s.combFreeMap_withCombs counts base c, rfl, filled.settle⟩

end Sys2Proof.Machine
end

section
namespace Sys2Proof.Machine

/-! A Class M fault leaves no wrong check word unraised: what its reaction does never touches the comb manager's `mismatch`. -/

theorem State.countCpl_onlyIn (s : State) (status : Nat) : OnlyIn [.regs] s (s.countCpl status) := by
  unfold State.countCpl
  split
  · exact s.bump_onlyIn _ _
  · exact s.bump_onlyIn _ _
  · exact s.bump_onlyIn _ _
  · exact s.bump_onlyIn _ _
  · exact .refl _ s

theorem State.postCpl_onlyIn (s : State) (n : Nat) (c : Cpl) (rsv : Bool) :
    OnlyIn [.regs, .bus, .hif, .chans, .mem, .sch, .log, .guard] s (s.postCpl n c rsv).1 := by
  generalize hp : s.postCpl n c rsv = p
  unfold State.postCpl at hp
  split at hp
  · exact hp ▸ .refl _ s
  · split at hp
    · exact hp ▸ (s.bump_onlyIn _ _).mono (by decide)
    · extract_lets q kept at hp
      have hkept : OnlyIn [.regs, .bus, .hif, .chans, .mem, .sch, .log, .guard] s kept :=
        .ite ((OnlyIn.refl _ s).step (s.setCq_onlyIn n _) (by decide)) (.refl _ s)
      split at hp
      · exact hp ▸ hkept
      · exact hp ▸ hkept.trans (kept.writeCpl_onlyIn n c)

/-- From `r` to `s` the record of a wrong check word that waits to be raised stands as it was. -/
def MismatchKept (r s : State) : Prop := s.bpm.mismatch = r.bpm.mismatch

namespace MismatchKept

variable {r s t : State}

theorem refl (s : State) : MismatchKept s s := rfl

/-- A change beside the comb manager. -/
theorem keep {ps : List Part} (h : MismatchKept r s) (k : OnlyIn ps s t) (hp : Part.bpm ∉ ps) : MismatchKept r t :=
  (congrArg Bpm.mismatch (k.bpm_eq hp)).trans h

theorem ite {c : Prop} [Decidable c] (h : MismatchKept r s) (k : MismatchKept r t) :
    MismatchKept r (if c then s else t) := by split <;> assumption

theorem foldl {α : Type} {f : State → α → State} {l : List α} (h : MismatchKept r s)
    (hf : ∀ s a, MismatchKept r s → MismatchKept r (f s a)) : MismatchKept r (l.foldl f s) :=
  List.foldlRecOn l f h fun s hs a _ => hf s a hs

/-! The end of a job. -/

theorem linkCell {c : Nat} (h : MismatchKept r s) : MismatchKept r (s.linkCell c) :=
  h.keep (s.linkCell_onlyIn c) (by decide)

theorem returnCell {c : Nat} (h : MismatchKept r s) : MismatchKept r (s.returnCell c) := by
  unfold State.returnCell
  split
  · exact h
  · exact h.linkCell (c := c)

theorem returnCells {l : List Nat} (h : MismatchKept r s) : MismatchKept r (s.returnCells l) := h.foldl fun _ _ h => h.returnCell

theorem dropJob {n : Nat} (h : MismatchKept r s) : MismatchKept r (s.dropJob n) := by
  have freed := h.returnCells (l := ((s.job? n).map (·.cells)).getD [])
  exact freed

theorem modJob {n : Nat} {f : Job → Job} (h : MismatchKept r s) : MismatchKept r (s.modJob n f) := h

theorem freeJobCells {n st : Nat} (h : MismatchKept r s) : MismatchKept r (s.freeJobCells n st) := (h.ite h.returnCells).modJob

theorem postJob {j : Job} {c : Cpl} (h : MismatchKept r s) : MismatchKept r (s.postJob j c) := by
  have posted := h.keep (s.postCpl_onlyIn j.cq c j.reserved) (by decide)
  unfold State.postJob
  refine ite h.modJob ?_
  split
  · next e => rw [e] at posted; exact posted.dropJob
  · next e => rw [e] at posted; exact posted.dropJob
  · next e =>
    rw [e] at posted
    split
    · exact (posted.keep (State.bump_onlyIn _ _ _) (by decide)).dropJob
    · exact posted.modJob
    · exact posted.modJob

theorem endJob {n : Nat} {e : End} (h : MismatchKept r s) : MismatchKept r (s.endJob n e) := by
  have freed := h.freeJobCells (n := n) (st := e.status)
  unfold State.endJob
  split
  · exact h
  · dsimp only
    split
    · exact freed
    · exact (freed.keep (State.countCpl_onlyIn _ _) (by decide)).postJob
    · exact (freed.keep (State.countCpl_onlyIn _ _) (by decide)).postJob
    · exact (((freed.keep (State.leaveEngines_onlyIn _ n) (by decide)).keep (State.countCpl_onlyIn _ _) (by decide)).keep
        (State.decBound_onlyIn _ _) (by decide)).postJob

/-! A Class M restart (R371, R401). -/

theorem restartJob {c : Nat} {u : List Nat} {j : Job} (h : MismatchKept r s) : MismatchKept r (State.restartJob c u s j) := by
  unfold State.restartJob
  split
  · exact ite (h.keep (s.bump_onlyIn _ _) (by decide)).dropJob h
  · exact ite h.dropJob h.endJob

theorem resetPath (h : MismatchKept r s) : MismatchKept r s.resetPath := h
theorem dueTags {l : List Nat} (h : MismatchKept r s) : MismatchKept r (s.dueTags l) := h

theorem startM {c : Nat} {u : List Nat} (h : MismatchKept r s) : MismatchKept r (s.startM c u) := by
  refine dueTags (foldl (resetPath (foldl ?_ fun _ _ h => h.restartJob)) fun _ _ h => h.returnCell)
  exact h

/-! SAFE (R402). -/

theorem enterSafe (h : MismatchKept r s) : MismatchKept r s.enterSafe := by
  have down : MismatchKept r ((List.range 3).foldl (fun s d => s.panelDown d) (s.bump GRD_REACT_COUNT 4)) :=
    (h.keep (s.bump_onlyIn _ _) (by decide)).keep (.foldl _ State.panelDown_onlyIn _ _) (by decide)
  unfold State.enterSafe
  refine ite h (keep (ite (keep ?_ (State.lockPlls_onlyIn _) (by decide)) ?_) (State.flushMsi_onlyIn _) (by decide))
  · exact down
  · exact down

theorem setReaction {x : Reaction} (h : MismatchKept r s) : MismatchKept r (s.setReaction x) := h
theorem setStatus {c : Nat} (h : MismatchKept r s) : MismatchKept r (s.setStatus c) := h
theorem present {c n : Nat} (h : MismatchKept r s) : MismatchKept r (s.present c n) := h

theorem waiting {l : List (Nat × Nat × List Nat × Nat)} (h : MismatchKept r s) :
    MismatchKept r { s with guard := { s.guard with waiting := l } } := h

theorem logFault {c : Nat} {a b : FClass} {i : FaultInfo} (h : MismatchKept r s) : MismatchKept r (s.logFault c a b i) :=
  h.keep (s.logFault_onlyIn c a b i) (by decide)

theorem logMerged {c l : Nat} {a b : FClass} {i : FaultInfo} (h : MismatchKept r s) : MismatchKept r (s.logMerged c a b i l) :=
  (h.keep (s.bump_onlyIn _ _) (by decide)).logFault

theorem toSafe {l x : Nat} (h : MismatchKept r s) : MismatchKept r (s.toSafe l x) :=
  (h.ite h.setStatus.present.logMerged).enterSafe

/-! Class M faults act on no target of their own beside the restart. -/

theorem react_m {c : Nat} {i : FaultInfo} {x : Targets} (h : MismatchKept r s) : MismatchKept r (s.react c .m i x) := by
  unfold State.react
  extract_lets eff old newM extra acting ids i first g a begun logged shown restarted
  have hbegun : MismatchKept r begun := h
  have hlogged : MismatchKept r logged := by
    unfold logged
    split
    · exact (hbegun.logFault.keep (State.signal_onlyIn _ 65) (by decide)).keep (State.hwFlag_onlyIn _ 4) (by decide)
    · exact h.setReaction.logMerged
  have hshown : MismatchKept r shown := hlogged.ite hlogged.present
  have hrestarted : MismatchKept r restarted := hshown.startM.ite hshown
  exact hshown.toSafe.ite hrestarted

theorem raise_m {c : Nat} {i : FaultInfo} {x : Targets} (h : MismatchKept r s) (hc : faultClass c = some .m) :
    MismatchKept r (s.raise c i x) := by
  have bit := h.setStatus (c := c)
  rw [State.raise, hc]
  exact bit.logFault.ite ((bit.logFault.present.ite bit.logFault).ite (bit.logFault.ite
    (bit.logFault.present.waiting.ite bit.react_m)))

end MismatchKept

/-- A wrong check word that is found is BPM 0x0E02, raised once. -/
theorem State.raiseMismatch_spec {s : State} (h : s.bpm.mismatch.isSome = true) :
    bitAt (s.raiseMismatch.fstat 14) 1 = true ∧ s.raiseMismatch.bpm.mismatch = none := by
  obtain ⟨c, hc⟩ := Option.isSome_iff_exists.mp h
  have raised : s.raiseMismatch = ({ s with bpm := { s.bpm with mismatch := none } }).raise 0x0E02 { source := c } := by
    rw [State.raiseMismatch, hc]
  rw [raised]
  exact ⟨State.raise_sets _ (by decide) _ _, MismatchKept.raise_m (.refl _) (by decide)⟩

end Sys2Proof.Machine
end

section
namespace Sys2Proof.Machine

/-! The cell that an allocation takes (R336, R339 to R341). -/

theorem combFor_lt (size : Nat) : combFor size < 8 := by
  rw [combFor]
  cases found : (List.range 8).find? (fun c => decide (size ≤ cellSize c)) with
  | none => decide
  | some c => exact List.mem_range.mp (List.mem_of_find?_eq_some found)

/-- The `k`-th number that a rising list leaves out is not in it, and lies no further than the list is long. -/
theorem nthFree_spec {l : List Nat} {base k : Nat} (rising : l.Pairwise (· < ·)) (above : ∀ a ∈ l, base ≤ a) :
    base ≤ nthFree l base k ∧ nthFree l base k ∉ l ∧ nthFree l base k ≤ base + k + l.length := by
  induction l generalizing base k with
  | nil => simp [nthFree]
  | cons a l ih =>
    obtain ⟨first, rest⟩ := List.pairwise_cons.mp rising
    have least : base ≤ a := above a (by simp)
    rw [nthFree]
    split
    · next gap =>
      refine ⟨by omega, fun listed => ?_, by omega⟩
      rcases List.mem_cons.mp listed with same | later
      · omega
      · have := first _ later
        omega
    · obtain ⟨lo, out, hi⟩ := ih (base := a + 1) (k := k - (a - base)) rest first
      refine ⟨by omega, fun listed => ?_, by rw [List.length_cons]; omega⟩
      rcases List.mem_cons.mp listed with same | later
      · omega
      · exact out later

theorem pairwise_of_risingFrom {α : Type} {t : Table α} {lo : Nat} (h : risingFrom lo t = true) :
    (∀ p ∈ t, lo ≤ p.1) ∧ t.Pairwise (fun p q => p.1 < q.1) := by
  induction t generalizing lo with
  | nil => simp
  | cons x t ih =>
    obtain ⟨k, v⟩ := x
    simp only [risingFrom, Bool.and_eq_true, decide_eq_true_eq] at h
    obtain ⟨above, rising⟩ := ih h.2
    refine ⟨fun p hp => ?_, List.pairwise_cons.mpr ⟨above, rising⟩⟩
    rcases List.mem_cons.mp hp with rfl | later
    · exact h.1
    · have := above p later
      omega

/-- Indices of the allocated cells of a comb. -/
def State.usedIndices (s : State) (c : Nat) : List Nat :=
  (s.bpm.cells.filter (fun p => handleComb p.1 == c)).map (fun p => handleIndex p.1)

theorem State.length_usedIndices (s : State) (c : Nat) : (s.usedIndices c).length = s.combUsed c := List.length_map ..

variable {s : State} {c : Nat}

theorem State.usedIndices_rising (h : risingFrom 0 s.bpm.cells = true) : (s.usedIndices c).Pairwise (· < ·) := by
  have rising := (pairwise_of_risingFrom h).2.filter (fun p => handleComb p.1 == c)
  refine List.pairwise_map.mpr (rising.imp_of_mem fun {p q} hp hq below => ?_)
  have own : handleComb p.1 = c := by simpa using (List.mem_filter.mp hp).2
  have same : handleComb q.1 = c := by simpa using (List.mem_filter.mp hq).2
  unfold handleComb at own same
  unfold handleIndex
  omega

/-- A cell whose index no allocated cell of its comb has is free. -/
theorem State.not_thas_of_not_mem_usedIndices {k : Nat} (small : k < 2 ^ 21) (out : k ∉ s.usedIndices c) :
    thas s.bpm.cells (c * 2 ^ 21 + k) = false := by
  refine List.any_eq_false.mpr fun p hp same => out ?_
  have handle : p.1 = c * 2 ^ 21 + k := by simpa using same
  refine List.mem_map.mpr ⟨p, List.mem_filter.mpr ⟨hp, ?_⟩, ?_⟩
  · rw [handle, handleComb, beq_iff_eq]
    omega
  · rw [handle, handleIndex]
    omega

theorem Bpm.lget_counts_le {b : Bpm} (h : Bpm.wf b = true) (c : Nat) : lget 0 b.counts c ≤ 262144 := by
  have few : ∀ n ∈ b.counts, n ≤ 262144 := by
    unfold Bpm.wf at h
    simp only [Bool.and_eq_true, List.all_eq_true, decide_eq_true_eq] at h
    exact h.1.2
  rw [lget]
  cases at' : b.counts[c]? with
  | none => exact Nat.zero_le _
  | some n => exact few n (List.mem_of_getElem? at')

theorem Bpm.cells_rising {b : Bpm} (h : Bpm.wf b = true) : risingFrom 0 b.cells = true := by
  unfold Bpm.wf at h
  simp only [Bool.and_eq_true] at h
  exact h.1.1

theorem State.combFree_eq_of_pos (h : 0 < s.combFree c) : s.combFree c = lget 0 s.bpm.counts c - s.combUsed c := by
  unfold State.combFree at h ⊢
  split at h
  · exact absurd h (Nat.lt_irrefl 0)
  · rw [if_neg (by assumption), State.combFreeMap]

theorem State.pickCell_of_cons {h : Nat} {l : List Nat} (freed : lget [] s.bpm.lists c = h :: l) : s.pickCell c = h := by
  rw [State.pickCell, freed]

/-- Where no cell has been freed since the build, one of those that the map leaves free is picked. -/
theorem State.pickCell_of_nil (built : lget [] s.bpm.lists c = []) (free : 0 < s.combFree c) :
    ∃ r < s.combFree c, s.pickCell c = c * 2 ^ 21 + nthFree (s.usedIndices c) 0 r := by
  refine ⟨if s.combFree c = 1 then 0 else Config.free s.fresh % s.combFree c, ?_, ?_⟩
  · split
    · exact free
    · exact Nat.mod_lt _ free
  · rw [State.pickCell, built]
    rfl

/-- An allocation gets the cell freed last, and where none has been freed a cell of the comb that is free (R336, R339). -/
theorem State.pickCell_spec (wf : Bpm.wf s.bpm = true) (free : 0 < s.combFree c) :
    match lget [] s.bpm.lists c with
    | [] => ∃ k, k < lget 0 s.bpm.counts c ∧ s.pickCell c = c * 2 ^ 21 + k ∧ thas s.bpm.cells (s.pickCell c) = false
    | h :: _ => s.pickCell c = h := by
  split
  · next built =>
    obtain ⟨r, early, picked⟩ := State.pickCell_of_nil built free
    obtain ⟨-, out, near⟩ := nthFree_spec (k := r) (State.usedIndices_rising (c := c) (Bpm.cells_rising wf))
      fun _ _ => Nat.zero_le _
    rw [State.length_usedIndices] at near
    have count := State.combFree_eq_of_pos free
    have few := Bpm.lget_counts_le wf c
    have inside : nthFree (s.usedIndices c) 0 r < lget 0 s.bpm.counts c := by omega
    rw [picked]
    exact ⟨_, inside, rfl, State.not_thas_of_not_mem_usedIndices (by omega) out⟩
  · next freed => exact State.pickCell_of_cons freed

/-! An allocation without fallback (R341, R342). -/

variable {size tag : Nat}

theorem filter_comb_alone : ∀ c < 8, (List.range 8).filter (fun k => decide (c ≤ k) && (k == c || false)) = [c] := by decide

theorem State.allocCell_taken (fits : size ≤ 2 ^ 22) (free : 0 < s.combFree (combFor size))
    (ok : s.linkOk (s.pickCell (combFor size)) = true) :
    s.allocCell size tag false = ((s.takeCell (combFor size) tag).1, some (s.pickCell (combFor size))) := by
  refine (if_neg (Nat.not_lt.mpr fits)).trans ?_
  rw [filter_comb_alone _ (combFor_lt size), List.find?_cons_of_pos (by simpa using free)]
  exact (if_pos ok).trans (Prod.ext (if_pos rfl) rfl)

/-- The comb gives no more cells, and its wrong check word waits to be raised. -/
def State.combBroken (s : State) (c : Nat) : State :=
  { s with bpm := { s.bpm with broken := ladd s.bpm.broken c, mismatch := some c } }

theorem State.allocCell_mismatch (fits : size ≤ 2 ^ 22) (free : 0 < s.combFree (combFor size))
    (bad : s.linkOk (s.pickCell (combFor size)) = false) :
    s.allocCell size tag false = ((s.allocFails (combFor size)).combBroken (combFor size), none) := by
  refine (if_neg (Nat.not_lt.mpr fits)).trans ?_
  rw [filter_comb_alone _ (combFor_lt size), List.find?_cons_of_pos (by simpa using free)]
  exact if_neg (ne_true_of_eq_false bad)

theorem State.allocCell_empty (fits : size ≤ 2 ^ 22) (empty : s.combFree (combFor size) = 0) :
    s.allocCell size tag false = (s.allocFails (combFor size), none) := by
  refine (if_neg (Nat.not_lt.mpr fits)).trans ?_
  rw [filter_comb_alone _ (combFor_lt size), List.find?_cons_of_neg (by simp [empty])]
  rfl

theorem State.takeCell_spec (s : State) (c tag : Nat) :
    (s.takeCell c tag).1.bpm.cells = tset s.bpm.cells (s.pickCell c) tag ∧
    (s.takeCell c tag).1.rd BPM_COMB_ALLOC_COUNT c = bump32 (s.rd BPM_COMB_ALLOC_COUNT c) ∧
    OnlyIn [.regs, .bpm, .fresh] s (s.takeCell c tag).1 := by
  refine ⟨rfl, State.rd_bump_same _ BPM_COMB_ALLOC_COUNT c, ?_⟩
  intro p; cases p <;> first | exact .inr rfl | exact .inl (by decide)

theorem State.allocFails_onlyIn (s : State) (c : Nat) : OnlyIn [.regs, .bpm] s (s.allocFails c) := by
  intro p; cases p <;> first | exact .inr rfl | exact .inl (by decide)

/-! CELL_ALLOCATE (R342 to R345). -/

theorem State.request_idle (stopped : s.memoriesRun = false) (who : Requester) (size : Nat) : s.request who size = s :=
  if_pos stopped

theorem State.requestFree_idle (stopped : s.memoriesRun = false) (h tag : Nat) : s.requestFree h tag = s := by
  rw [State.requestFree, stopped]
  rfl

/-- While the memories do not run, no access of a cycle acts. -/
theorem State.combCycle_idle (stopped : s.memoriesRun = false) (l : List CombAccess) : s.combCycle l = s := by
  have frees : l.foldl State.freeAccess s = s :=
    List.foldlRecOn (motive := fun u => u = s) l State.freeAccess rfl fun u same x _ => by
      subst same
      cases x with
      | free h tag => exact (ite_eq_right_iff.mpr fun _ => State.requestFree_idle stopped h tag)
      | allocate who size => rfl
  rw [State.combCycle, frees]
  exact List.foldlRecOn (motive := fun u => u = s) _ _ rfl fun u same a _ => by
    subst same
    exact State.request_idle stopped a.1 a.2

theorem exec_cellAllocate {who : Requester} (real : realRequester who = true) (size : Nat) (s : State) :
    exec (.cellAllocate who ⟨size, []⟩) s = .next (s.request who size).settle := by
  show execCellAllocate who ⟨size, []⟩ s = _
  simp [execCellAllocate, real, State.combCycle, State.freeAccess, allocsOf, sortBy, insertBy, done]

/-- A free of the same cycle comes first (R345). -/
theorem exec_cellAllocate_free {who : Requester} (real : realRequester who = true) (size : Nat) (s : State) {h tag : Nat}
    (byte : tag < 256) : exec (.cellAllocate who ⟨size, [.free h tag]⟩) s =
      .next ((s.requestFree h tag).request who size).settle := by
  show execCellAllocate who ⟨size, [.free h tag]⟩ s = _
  simp [execCellAllocate, real, byte, State.combCycle, State.freeAccess, allocsOf, sortBy, insertBy, done]

theorem exec_cellAllocate_ingress {n : Nat} (chan : n < 32) (size : Nat) (s : State) :
    exec (.cellAllocate (.ingress n) ⟨size, []⟩) s = .next (s.request (.ingress n) size).settle :=
  exec_cellAllocate (who := .ingress n) (decide_eq_true chan) size s

variable {n : Nat}

/-- A request for a captured frame gets the cell of the comb, with the channel's transient tag. -/
theorem State.request_ingress_taken (runs : s.memoriesRun = true) (fits : size ≤ 2 ^ 22) (free : 0 < s.combFree (combFor size))
    (ok : s.linkOk (s.pickCell (combFor size)) = true) :
    s.request (.ingress n) size = (s.takeCell (combFor size) (transientTag n)).1 := by
  simp [State.request, runs, State.allocCell_taken fits free ok]

theorem State.request_ingress_mismatch (runs : s.memoriesRun = true) (fits : size ≤ 2 ^ 22)
    (free : 0 < s.combFree (combFor size)) (bad : s.linkOk (s.pickCell (combFor size)) = false) :
    bitAt ((s.request (.ingress n) size).fstat 14) 1 = true ∧ (s.request (.ingress n) size).bpm.mismatch = none := by
  have waits : ((s.allocFails (combFor size)).combBroken (combFor size)).bpm.mismatch.isSome = true := rfl
  have raises : s.request (.ingress n) size = ((s.allocFails (combFor size)).combBroken (combFor size)).raiseMismatch := by
    simp [State.request, runs, State.allocCell_mismatch fits free bad, State.poolFails, waits]
  rw [raises]
  exact State.raiseMismatch_spec waits

theorem State.request_ingress_empty (runs : s.memoriesRun = true) (fits : size ≤ 2 ^ 22)
    (empty : s.combFree (combFor size) = 0) (unbound : (s.chan n).bound = none) (quiet : s.bpm.mismatch = none) :
    s.request (.ingress n) size = (s.allocFails (combFor size)).bump BPM_ING_DROP_COUNT := by
  have still : ((s.allocFails (combFor size)).chan n).bound = none := unbound
  have silent : (s.allocFails (combFor size)).bpm.mismatch.isSome = false := by
    show s.bpm.mismatch.isSome = false
    rw [quiet]
    rfl
  simp [State.request, runs, State.allocCell_empty fits empty, State.poolFails, silent, State.ingressFails, still]

/-- The two counters of a failed request of a comb lie apart. -/
theorem comb_fail_ne_drop : ∀ c < 8, BPM_COMB_FAIL_COUNT.at c ≠ BPM_ING_DROP_COUNT.at ∧
    BPM_ING_DROP_COUNT.at ≠ BPM_COMB_FAIL_COUNT.at c := by decide

/-- A failed request counts in its comb and as a dropped frame, and takes no cell. -/
theorem State.ingressDrop_spec (s : State) (hc : c < 8) :
    (let t := (s.allocFails c).bump BPM_ING_DROP_COUNT
     t.bpm.cells = s.bpm.cells ∧ t.rd BPM_COMB_FAIL_COUNT c = bump32 (s.rd BPM_COMB_FAIL_COUNT c) ∧
     t.rd BPM_ING_DROP_COUNT = bump32 (s.rd BPM_ING_DROP_COUNT) ∧ OnlyIn [.regs, .bpm] s t) := by
  obtain ⟨apart, apart'⟩ := comb_fail_ne_drop c hc
  refine ⟨rfl, ?_, ?_, (s.allocFails_onlyIn c).step (State.bump_onlyIn _ _ _) (by decide)⟩
  · exact (State.rd_bump_other _ _ _ _ _ _ apart).trans (s.rd_bump_same BPM_COMB_FAIL_COUNT c)
  · exact (State.rd_bump_same _ _ _).trans (congrArg bump32 (s.rd_bump_other _ _ _ _ _ apart'))

/-- What one request for a cell of a captured frame does (R339, R341, R342). -/
theorem cellAllocate_ingress_spec (runs : s.memoriesRun = true) (chan : n < 32) (fits : size ≤ 2 ^ 22)
    (wf : Bpm.wf s.bpm = true) :
    (let c := combFor size
     (0 < s.combFree c → s.linkOk (s.pickCell c) = true → Gives (.cellAllocate (.ingress n) ⟨size, []⟩) s (fun t =>
       t.bpm.cells = tset s.bpm.cells (s.pickCell c) (transientTag n) ∧ OnlyIn [.regs, .bpm, .fresh] s t ∧
       (match lget [] s.bpm.lists c with
        | [] => ∃ k, k < lget 0 s.bpm.counts c ∧ s.pickCell c = c * 2 ^ 21 + k ∧ thas s.bpm.cells (s.pickCell c) = false
        | h :: _ => s.pickCell c = h) ∧
       t.rd BPM_COMB_ALLOC_COUNT c = bump32 (s.rd BPM_COMB_ALLOC_COUNT c))) ∧
     (0 < s.combFree c → s.linkOk (s.pickCell c) = false → Gives (.cellAllocate (.ingress n) ⟨size, []⟩) s (fun t =>
       bitAt (t.fstat 14) 1 = true ∧ t.bpm.mismatch = none)) ∧
     (s.combFree c = 0 → (s.chan n).bound = none → s.bpm.mismatch = none →
       Gives (.cellAllocate (.ingress n) ⟨size, []⟩) s (fun t => t.bpm.cells = s.bpm.cells ∧
         t.rd BPM_COMB_FAIL_COUNT c = bump32 (s.rd BPM_COMB_FAIL_COUNT c) ∧
         t.rd BPM_ING_DROP_COUNT = bump32 (s.rd BPM_ING_DROP_COUNT) ∧ OnlyIn [.regs, .bpm] s t))) := by
  have step := exec_cellAllocate_ingress chan size s
  refine ⟨fun free ok => ⟨_, step, ?_⟩, fun free bad => ⟨_, step, ?_⟩, fun empty unbound quiet => ⟨_, step, ?_⟩⟩
  · rw [State.request_ingress_taken runs fits free ok]
    obtain ⟨cells, counted, only⟩ := s.takeCell_spec (combFor size) (transientTag n)
    exact ⟨cells, only.settle, State.pickCell_spec wf free, counted⟩
  · exact State.request_ingress_mismatch runs fits free bad
  · rw [State.request_ingress_empty runs fits empty unbound quiet]
    obtain ⟨cells, failed, dropped, only⟩ := s.ingressDrop_spec (combFor_lt size)
    exact ⟨cells, failed, dropped, only.settle⟩

end Sys2Proof.Machine
end

section
namespace Sys2Proof.Machine

/-! CELL_FREE (R338, R339, R344, R348). -/

variable {s : State} {h tag : Nat}

theorem exec_cellFree (s : State) (h : Nat) (byte : tag < 256) :
    exec (.cellFree h tag) s = .next (s.requestFree h tag).settle := onUnit_lt s _ byte

theorem State.requestFree_runs (runs : s.memoriesRun = true) (h tag : Nat) : s.requestFree h tag = s.freeCell h tag := if_pos runs

/-- The handle names a cell of the pool. -/
def State.inPool (s : State) (h : Nat) : Prop := h < 2 ^ 24 - 1 ∧ handleIndex h < lget 0 s.bpm.counts (handleComb h)

theorem State.freeCell_reclaimed (race : s.bpm.recent.contains tag = true) : s.freeCell h tag = s.bump BPM_RECLAIM_RACE_COUNT :=
  if_pos race

/-- The checks of a free whose tag no reclaim of the tick has taken. -/
theorem State.freeCell_checks (late : s.bpm.recent.contains tag = false) :
    (¬ s.inPool h → s.freeCell h tag = s.rejectFree h tag 0x0E05 BPM_FREE_REJECT_COUNT) ∧
    (s.inPool h → thas s.bpm.cells h = false → s.freeCell h tag = s.rejectFree h tag 0x0E03 BPM_DOUBLE_FREE_COUNT) ∧
    (s.inPool h → thas s.bpm.cells h = true → (tget 0xFF s.bpm.cells h ≠ tag ∨ tag = 0xFF) →
      s.freeCell h tag = s.rejectFree h tag 0x0E04 BPM_FREE_REJECT_COUNT) ∧
    (s.inPool h → thas s.bpm.cells h = true → tget 0xFF s.bpm.cells h = tag → tag ≠ 0xFF →
      s.freeCell h tag = s.returnCell h) := by
  have outside : (h ≥ 2 ^ 24 - 1 ∨ handleIndex h ≥ lget 0 s.bpm.counts (handleComb h)) ↔ ¬ s.inPool h := by
    unfold State.inPool
    omega
  unfold State.freeCell
  rw [if_neg (ne_true_of_eq_false late)]
  refine ⟨fun out => if_pos (outside.mpr out), fun real unlisted => ?_, fun real listed other => ?_,
    fun real listed own known => ?_⟩ <;> rw [if_neg fun out => outside.mp out real]
  · exact if_pos unlisted
  · rw [if_neg (by simp [listed]), if_neg fun both => other.elim (· both.1) both.2]
  · rw [if_neg (by simp [listed]), if_pos ⟨own, known⟩]

theorem State.inPool.comb_lt (real : s.inPool h) : handleComb h < 8 := by
  have := real.1
  unfold handleComb
  omega

/-- A rejected free changes no cell, is counted, and is reported with its handle and tag (R344). -/
theorem State.rejectFree_spec (s : State) (h : Nat) {code : Nat} {d : RegDef} (byte : tag < 256) (counter : d.aside)
    (apart : d.at ≠ BPM_LAST_ERR.at) :
    (let t := s.rejectFree h tag code d
     t.bpm = s.bpm ∧ bitAt (t.fstat (code / 256)) (code % 256 - 1) = true ∧
     t.rd BPM_LAST_ERR = h % 2 ^ 24 + tag * 2 ^ 24 ∧ OnlyIn [.regs, .hif, .log, .guard] s t ∧
     t.rd d = bump32 (s.rd d)) := by
  generalize hu : (s.bump d).wr BPM_LAST_ERR 0 0 (h % 2 ^ 24 + tag % 256 * 2 ^ 24) = u
  have rejected : s.rejectFree h tag code d =
      u.raiseI code { addr := h % 2 ^ 24 + tag % 256 * 2 ^ 24, channel := tagChannel tag } := by rw [← hu]; rfl
  have noted : u.rd BPM_LAST_ERR = h % 2 ^ 24 + tag * 2 ^ 24 := by
    rw [← hu, State.rd_wr_same, Nat.mod_eq_of_lt byte, Nat.mod_eq_of_lt (by omega)]
  have counted : u.rd d = bump32 (s.rd d) := by
    rw [← hu, State.rd_wr_other _ _ _ _ _ _ _ _ apart, State.rd_bump_same]
  have only : OnlyIn [.regs, .hif, .log, .guard] s (s.rejectFree h tag code d) := by
    rw [rejected, ← hu]
    exact (((OnlyIn.refl _ s).step (s.bump_onlyIn d 0) (by decide)).step (State.wr_onlyIn _ _ _ _ _) (by decide)).step
      (State.raiseI_onlyIn _ _ _) (by decide)
  refine ⟨only.bpm_eq (by decide), ?_, ?_, only, ?_⟩ <;> rw [rejected]
  · exact u.raiseI_sets _ _
  · exact ((u.raiseI_aside code _).2 (by decide)).trans noted
  · exact ((u.raiseI_aside code _).2 counter).trans counted

/-- An accepted free: the cell is free, at the head of the list of its comb for combs 4 to 7, with its link words behind the head
before (R338, R339). -/
theorem State.returnCell_spec (owned : tget 0xFF s.bpm.cells h ≠ 0xFF) :
    (let c := handleComb h
     let t := s.returnCell h
     t.bpm.cells = tdel s.bpm.cells h ∧ OnlyIn [.bpm, .mem] s t ∧ (c < 4 → t.mem = s.mem) ∧
     (4 ≤ c → (∀ l, s.bpm.lists[c]? = some l → t.bpm.lists[c]? = some (h :: l)) ∧
       ∃ next, t.mem = (s.dramWrite (s.cellAddr h) (leBytes 4 next ++ leBytes 4 (linkCheck h))).mem ∧
         ∀ x l, lget [] s.bpm.lists c = x :: l → next = x)) := by
  intro c t
  have bpm : (s.linkCell h).bpm = s.bpm := (s.linkCell_onlyIn h).bpm_eq (by decide)
  have returned : t = { s.linkCell h with bpm := { s.bpm with
      cells := tdel s.bpm.cells h
      lists := if c < 4 then s.bpm.lists else lmod s.bpm.lists c (h :: ·)
      cache := lmod s.bpm.cache c (fun x => min 32 (x + 1)) } } := by
    simp only [t, State.returnCell, if_neg owned, bpm]
    rfl
  have mem : t.mem = (s.linkCell h).mem := by rw [returned]
  have only := s.returnCell_onlyIn h
  refine ⟨by rw [returned], only, fun low => ?_, fun high => ⟨fun l hl => ?_, ?_⟩⟩
  · rw [mem, State.linkCell]
    exact congrArg State.mem (if_pos low)
  · rw [returned]
    simp [Nat.not_lt.mpr high, getElem?_lmod, hl]
  · rw [mem, State.linkCell]
    dsimp only
    rw [if_neg (Nat.not_lt.mpr high)]
    refine ⟨_, rfl, fun x l head => ?_⟩
    rw [head]

/-- What one free does (R344, R348). -/
theorem cellFree_spec (runs : s.memoriesRun = true) (h : Nat) (byte : tag < 256) :
    (let c := handleComb h
     let real := h < 2 ^ 24 - 1 ∧ handleIndex h < lget 0 s.bpm.counts c
     let refused (code : Nat) (t : State) : Prop := t.bpm = s.bpm ∧ bitAt (t.fstat 14) (code % 256 - 1) = true ∧
       t.rd BPM_LAST_ERR = h % 2 ^ 24 + tag * 2 ^ 24 ∧ OnlyIn [.regs, .hif, .log, .guard] s t
     (s.bpm.recent.contains tag = true → Gives (.cellFree h tag) s (fun t =>
       t.rd BPM_RECLAIM_RACE_COUNT = bump32 (s.rd BPM_RECLAIM_RACE_COUNT) ∧ OnlyIn [.regs] s t)) ∧
     (s.bpm.recent.contains tag = false →
       (¬ real → Gives (.cellFree h tag) s (fun t => refused 0x0E05 t ∧
         t.rd BPM_FREE_REJECT_COUNT = bump32 (s.rd BPM_FREE_REJECT_COUNT))) ∧
       (real → thas s.bpm.cells h = false → Gives (.cellFree h tag) s (fun t => refused 0x0E03 t ∧
         t.rd BPM_DOUBLE_FREE_COUNT = bump32 (s.rd BPM_DOUBLE_FREE_COUNT))) ∧
       (real → thas s.bpm.cells h = true → (tget 0xFF s.bpm.cells h ≠ tag ∨ tag = 0xFF) →
         Gives (.cellFree h tag) s (fun t => refused 0x0E04 t ∧
           t.rd BPM_FREE_REJECT_COUNT = bump32 (s.rd BPM_FREE_REJECT_COUNT))) ∧
       (real → tget 0xFF s.bpm.cells h = tag → tag ≠ 0xFF → Gives (.cellFree h tag) s (fun t =>
         t.bpm.cells = tdel s.bpm.cells h ∧ OnlyIn [.bpm, .mem] s t ∧ (c < 4 → t.mem = s.mem) ∧
         (4 ≤ c → (∀ l, s.bpm.lists[c]? = some l → t.bpm.lists[c]? = some (h :: l)) ∧
           ∃ next, t.mem = (s.dramWrite (s.cellAddr h) (leBytes 4 next ++ leBytes 4 (linkCheck h))).mem ∧
             ∀ x l, lget [] s.bpm.lists c = x :: l → next = x))))) := by
  intro c real refused
  have step : exec (.cellFree h tag) s = .next (s.freeCell h tag).settle := by
    rw [exec_cellFree s h byte, State.requestFree_runs runs]
  have rejects {code : Nat} {d : RegDef} (block : code / 256 = 14) (counter : d.aside) (apart : d.at ≠ BPM_LAST_ERR.at)
      (answer : s.freeCell h tag = s.rejectFree h tag code d) :
      Gives (.cellFree h tag) s (fun t => refused code t ∧ t.rd d = bump32 (s.rd d)) := by
    obtain ⟨bpm, bit, noted, only, counted⟩ := s.rejectFree_spec h (code := code) byte counter apart
    rw [block] at bit
    rw [answer] at step
    exact ⟨_, step, ⟨bpm, bit, noted, only.settle⟩, counted⟩
  refine ⟨fun race => ?_, fun late => ?_⟩
  · rw [State.freeCell_reclaimed race] at step
    exact ⟨_, step, s.rd_bump_same _ _, (s.bump_onlyIn _ _).settle⟩
  · obtain ⟨badHandle, double, wrongTag, accepted⟩ := State.freeCell_checks (h := h) late
    refine ⟨fun out => rejects rfl (by decide) (by decide) (badHandle out),
      fun pool unlisted => rejects rfl (by decide) (by decide) (double pool unlisted),
      fun pool listed other => rejects rfl (by decide) (by decide) (wrongTag pool listed other),
      fun pool own known => ?_⟩
    have listed : thas s.bpm.cells h = true := by
      cases has : thas s.bpm.cells h
      · exact absurd (own.symm.trans (tget_of_not_thas 0xFF _ h has)) known
      · rfl
    rw [accepted pool listed own known] at step
    obtain ⟨cells, only, low, high⟩ := State.returnCell_spec (own ▸ known : tget 0xFF s.bpm.cells h ≠ 0xFF)
    exact ⟨_, step, cells, only.settle, low, high⟩

/-! The caches of the free stores (R338). -/

variable {c k : Nat}

theorem exec_freeStoreRefill (s : State) (hc : c < 4) : exec (.freeStoreRefill c) s = .next (s.refill c).settle :=
  onUnit_lt s _ hc

theorem exec_freeStoreSpill (s : State) (hc : c < 4) : exec (.freeStoreSpill c) s = .next (s.spill c).settle :=
  onUnit_lt s _ hc

theorem State.refill_idle (h : ¬ (s.memoriesRun = true ∧ lget 0 s.bpm.cache c ≤ 8)) : s.refill c = s :=
  if_neg (by simpa using h)

theorem State.spill_idle (h : ¬ (s.memoriesRun = true ∧ 28 ≤ lget 0 s.bpm.cache c)) : s.spill c = s :=
  if_neg (by simpa using h)

/-- The caches change. -/
def State.withCache (s : State) (l : List Nat) : State := { s with bpm := { s.bpm with cache := l } }

theorem State.withCache_onlyIn (s : State) (l : List Nat) : OnlyIn [.bpm] s (s.withCache l) := by
  intro p; cases p <;> first | exact .inr rfl | exact .inl (by decide)

theorem State.refill_eq (runs : s.memoriesRun = true) (low : lget 0 s.bpm.cache c ≤ 8) :
    s.refill c = s.withCache (lmod s.bpm.cache c (· + min 16 (s.ringCells c))) := if_pos (by simp [runs, low])

theorem State.spill_eq (runs : s.memoriesRun = true) (high : 28 ≤ lget 0 s.bpm.cache c) :
    s.spill c = s.withCache (lmod s.bpm.cache c (· - 16)) := if_pos (by simp [runs, high])

/-- What the caches take from their rings and spill. -/
theorem freeStore_spec (runs : s.memoriesRun = true) (hc : c < 4) (held : s.bpm.cache[c]? = some k) :
    (k ≤ 8 → Gives (.freeStoreRefill c) s (fun t =>
      t.bpm.cache[c]? = some (k + min 16 (s.ringCells c)) ∧ t.bpm.cells = s.bpm.cells ∧ OnlyIn [.bpm] s t)) ∧
    (8 < k → exec (.freeStoreRefill c) s = .next s.settle) ∧
    (28 ≤ k → Gives (.freeStoreSpill c) s (fun t =>
      t.bpm.cache[c]? = some (k - 16) ∧ t.bpm.cells = s.bpm.cells ∧ OnlyIn [.bpm] s t)) ∧
    (k < 28 → exec (.freeStoreSpill c) s = .next s.settle) := by
  have entry : lget 0 s.bpm.cache c = k := by rw [lget, held]; rfl
  have changed (f : Nat → Nat) : (lmod s.bpm.cache c f)[c]? = some (f k) := by rw [getElem?_lmod, if_pos rfl, held]; rfl
  refine ⟨fun low => ⟨_, exec_freeStoreRefill s hc, ?_⟩, fun high => ?_, fun high => ⟨_, exec_freeStoreSpill s hc, ?_⟩,
    fun low => ?_⟩
  · rw [State.refill_eq runs (entry ▸ low)]
    exact ⟨changed _, rfl, (s.withCache_onlyIn _).settle⟩
  · rw [exec_freeStoreRefill s hc, State.refill_idle (by omega)]
  · rw [State.spill_eq runs (entry ▸ high)]
    exact ⟨changed _, rfl, (s.withCache_onlyIn _).settle⟩
  · rw [exec_freeStoreSpill s hc, State.spill_idle (by omega)]

/-- While the memories do not run, nothing is allocated, freed or moved. -/
theorem memories_idle (stopped : s.memoriesRun = false) (who : Requester) (size : Nat) (meets : List CombAccess) (h tag c : Nat) :
    exec (.cellAllocate who ⟨size, meets⟩) s = .next s.settle ∧ exec (.cellFree h tag) s = .next s.settle ∧
    exec (.freeStoreRefill c) s = .next s.settle ∧ exec (.freeStoreSpill c) s = .next s.settle := by
  have off {p : Prop} : ¬ (s.memoriesRun = true ∧ p) := by simp [stopped]
  have unit {n count : Nat} : onUnit n count s s = .next s.settle := congrArg done (ite_self s)
  refine ⟨congrArg done ?_, ?_, ?_, ?_⟩
  · rw [State.combCycle_idle stopped, ite_self]
  · exact (congrArg (onUnit tag 256 s) (State.requestFree_idle stopped h tag)).trans unit
  · exact (congrArg (onUnit c 4 s) (State.refill_idle off)).trans unit
  · exact (congrArg (onUnit c 4 s) (State.spill_idle off)).trans unit

/-- Settles O51: a request is `allocCell` after the frees of its cycle, a free `freeCell` with its checks in order, and a wrong
check word ends in BPM 0x0E02, whose reaction leaves none waiting (`MismatchKept`). -/
theorem cellsAllocateAndFree : Obligations.CellsAllocateAndFree := by
  intro s
  refine ⟨fun stopped => memories_idle stopped, fun who size h tag real byte => ?_, fun runs => ⟨?_, ?_, ?_⟩⟩
  · rw [exec_cellAllocate_free real size s byte, exec_cellAllocate real size]
  · exact fun n size chan fits wf => cellAllocate_ingress_spec runs chan fits wf
  · exact fun h tag byte => cellFree_spec runs h byte
  · exact fun c k hc held => freeStore_spec runs hc held

end Sys2Proof.Machine
end

section
namespace Sys2Proof.Machine

/-! What seating a thread leaves of it (R358 to R360). -/

variable {s : State} {n slot c : Nat} {x y : Thread}

@[simp] theorem State.thread_settle (s : State) (n : Nat) : s.settle.thread n = s.thread n := rfl

@[simp] theorem State.thread_trace (s : State) (kind core k rule : Nat) (prev : Option Nat) (before : Thread) (n : Nat) :
    (s.trace kind core k rule prev before).thread n = s.thread n := by
  have written (a : Nat) (bs : List Byte) : (s.dramWrite a bs).sch = s.sch :=
    (s.dramWrite_onlyIn a bs .sch).resolve_left (by decide)
  unfold State.trace
  split
  · dsimp only [State.thread]
    split
    · split
      · rw [written]
      · rfl
    · split <;> rfl
  · rfl

theorem State.thread_markReady_same (s : State) (n : Nat) :
    (s.markReady n).thread n = { s.thread n with state := 2, readyNs := s.ktime } :=
  (State.thread_trace ..).trans (s.thread_setThread_same n _)

theorem State.thread_runOn_same (s : State) (n c : Nat) :
    ((s.runOn n c).thread n).state = 3 ∧ ((s.runOn n c).thread n).prio = (s.thread n).prio := by
  have ran : (s.runOn n c).thread n = _ := s.thread_setThread_same n _
  rw [ran]
  exact ⟨rfl, by dsimp only; split <;> rfl⟩

theorem State.thread_runOn_other (s : State) (c : Nat) (h : n ≠ slot) : (s.runOn slot c).thread n = s.thread n :=
  s.thread_setThread_other _ h

/-- R358 chooses one of the candidates. -/
theorem chooseThread_mem {l : List (Nat × Thread)} {rule : Nat} (h : chooseThread c l = some (slot, rule)) :
    ∃ x, (slot, x) ∈ l := by
  unfold chooseThread at h
  dsimp only at h
  split at h
  · exact absurd h (by simp)
  · next p rest oldest =>
    obtain rfl : p.1 = slot := congrArg Prod.fst (Option.some.inj h)
    have among : p ∈ _ := List.mem_of_mem_filter (oldest ▸ List.mem_cons_self : p ∈ List.filter _ _)
    refine ⟨p.2, ?_⟩
    split at among
    · exact List.mem_of_mem_filter among
    · exact List.mem_of_mem_filter (List.mem_of_mem_filter among)

/-- A candidate's slot holds a READY thread. -/
theorem State.ready_of_candidate (h : (slot, x) ∈ s.candidates c) : (s.thread slot).state = 2 := by
  obtain ⟨-, ready⟩ := List.mem_filter.mp h
  simp only [Bool.and_eq_true, beq_iff_eq, decide_eq_true_eq] at ready
  obtain ⟨⟨two, -⟩, rfl⟩ := ready
  exact two

/-- A core that takes no thread changes nothing; one that does takes a READY one. -/
theorem State.dispatchOn_cases (s : State) (c : Nat) : s.dispatchOn c = s ∨
    ∃ slot rule, (s.thread slot).state = 2 ∧
      s.dispatchOn c = (s.runOn slot c).trace 1 c slot rule (s.core c).prev (s.thread slot) := by
  unfold State.dispatchOn
  split
  · split
    · exact .inl rfl
    · next slot rule chosen =>
      obtain ⟨x, candidate⟩ := chooseThread_mem chosen
      exact .inr ⟨slot, rule, State.ready_of_candidate candidate, rfl⟩
  · exact .inl rfl

/-- A dispatch changes READY threads only. -/
theorem State.thread_dispatch (h : (s.thread n).state ≠ 2) : s.dispatch.thread n = s.thread n := by
  refine List.foldlRecOn (motive := fun t : State => t.thread n = s.thread n) _ _ rfl fun t same c _ => ?_
  obtain idle | ⟨slot, rule, ready, takes⟩ := t.dispatchOn_cases c
  · rw [idle, same]
  · rw [takes, State.thread_trace, State.thread_runOn_other _ _ (by rintro rfl; exact h (same ▸ ready)), same]

/-- The thread that R359 displaces, as its slot holds it. -/
theorem State.thread_victim {v : Nat} (h : s.victim x = some (c, v, y)) : y = s.thread v := by
  have picked : ∀ z, s.victim x = some z → z.2.2 = s.thread z.2.1 := by
    refine List.foldlRecOn (motive := fun m : Option (Nat × Nat × Thread) =>
      ∀ z, m = some z → z.2.2 = s.thread z.2.1) _ _ (by simp) ?_
    intro m held a listed
    have own : a.2.2 = s.thread a.2.1 := by
      obtain ⟨core, -, running⟩ := List.mem_filterMap.mp listed
      split at running
      · split at running
        · cases running; rfl
        · cases running
      · cases running
    cases m with
    | none => rintro z ⟨⟩; exact own
    | some b =>
      dsimp only
      split
      · rintro z ⟨⟩; exact own
      · exact held
  exact picked _ h

/-- The slot holds a READY or RUNNING thread of the priority. -/
def State.Seated (s : State) (n prio : Nat) : Prop :=
  ((s.thread n).state = 2 ∨ (s.thread n).state = 3) ∧ (s.thread n).prio = prio

namespace State.Seated

variable {p : Nat}

theorem trace {kind core k rule : Nat} {prev : Option Nat} {before : Thread} (h : s.Seated n p) :
    (s.trace kind core k rule prev before).Seated n p := by
  rw [State.Seated, State.thread_trace]; exact h

theorem settle (h : s.Seated n p) : s.settle.Seated n p := h

theorem setCore {x : Core} (h : s.Seated n p) : (s.setCore c x).Seated n p := h

theorem bump {d : RegDef} (h : s.Seated n p) : (s.bump d).Seated n p := h

theorem runOn (h : s.Seated n p) (slot c : Nat) : (s.runOn slot c).Seated n p := by
  by_cases same : n = slot
  · subst same
    obtain ⟨running, prio⟩ := s.thread_runOn_same n c
    exact ⟨.inr running, prio.trans h.2⟩
  · rw [State.Seated, State.thread_runOn_other _ _ same]; exact h

theorem dispatch (h : s.Seated n p) : s.dispatch.Seated n p := by
  refine List.foldlRecOn (motive := fun t : State => t.Seated n p) _ _ h fun t held c _ => ?_
  obtain idle | ⟨slot, rule, -, takes⟩ := t.dispatchOn_cases c
  · rw [idle]; exact held
  · rw [takes]; exact (held.runOn slot c).trace

/-- A displaced thread is READY again with its priority. -/
theorem displaced (h : s.Seated n p) (v ns : Nat) :
    (s.setThread v { s.thread v with state := 2, usedNs := ns }).Seated n p := by
  by_cases same : n = v
  · subst same
    rw [State.Seated, State.thread_setThread_same]
    exact ⟨.inl rfl, h.2⟩
  · rw [State.Seated, State.thread_setThread_other _ _ same]; exact h

theorem preempt (h : s.Seated n p) (m slot : Nat) : (State.preempt m s slot).Seated n p := by
  induction m generalizing s slot with
  | zero => exact h
  | succ m ih =>
    unfold State.preempt
    dsimp only
    split
    · split
      · exact h
      · next c v y displaces =>
        obtain rfl := State.thread_victim displaces
        split
        · exact ih (((h.displaced v _).setCore.runOn slot c).bump.trace).dispatch v
        · exact h
    · exact h

theorem seatThreads (h : s.Seated n p) (l : List Nat) : (s.seatThreads l).Seated n p := by
  refine List.foldlRecOn (motive := fun t : State => t.Seated n p) _ _ ?_ fun t held k _ => held.preempt 4 k
  split
  · exact h
  · exact h.dispatch

end State.Seated

/-- A thread that becomes READY stays so or runs, with its priority. -/
theorem State.makeReady_seated (s : State) (n : Nat) : (s.makeReady n).Seated n (s.thread n).prio := by
  refine State.Seated.seatThreads ?_ [n]
  rw [State.Seated, State.thread_markReady_same]
  exact ⟨.inl rfl, rfl⟩

end Sys2Proof.Machine
end

section
namespace Sys2Proof.Machine

/-! The core-side operations (R353 to R359, R362, R363). -/

variable {s u : State} {n count slot c : Nat} {x : Thread} {flags : Word} {what : Bound}

/-- A command whose operation leaves the state as it is, whether or not its unit exists. -/
theorem exec_onUnit_idle {i : Instr} (h : exec i s = onUnit n count s u) (hu : u = s) : exec i s = .next s.settle := by
  rw [h, hu]; exact congrArg done (ite_self s)

theorem gives_thread {i : Instr} {ps : List Part} (h : exec i s = onUnit n count s u) (hn : n < count)
    (thread : u.thread slot = x) (only : OnlyIn ps s u) : Gives i s (fun t => t.thread slot = x ∧ OnlyIn ps s t) :=
  .onUnit h hn ⟨(State.thread_settle u slot).trans thread, only.settle⟩

theorem gives_seated {i : Instr} {ps : List Part} {p : Nat} (h : exec i s = onUnit n count s u) (hn : n < count)
    (seated : u.Seated slot p) (only : OnlyIn ps s u) : Gives i s (fun t => t.Seated slot p ∧ OnlyIn ps s t) :=
  .onUnit h hn ⟨seated.settle, only.settle⟩

/-- The thread that a command puts in a slot becomes READY at once. -/
theorem gives_ready {i : Instr} (h : exec i s = onUnit n count s ((s.setThread slot x).makeReady slot)) (hn : n < count) :
    Gives i s (fun t => t.Seated slot x.prio ∧ OnlyIn dispatcherParts s t) := by
  have seated := (s.setThread slot x).makeReady_seated slot
  rw [State.thread_setThread_same] at seated
  exact gives_seated h hn seated (((s.setThread_onlyIn slot x).mono (by decide)).trans (State.makeReady_onlyIn _ slot))

/-- The state that a change of one slot leaves. -/
theorem gives_setThread {i : Instr} (h : exec i s = onUnit n count s (s.setThread slot x)) (hn : n < count) :
    Gives i s (fun t => t.thread slot = x ∧ (∀ k, k ≠ slot → t.thread k = s.thread k) ∧ OnlyIn [.sch] s t) :=
  .onUnit h hn ⟨s.thread_setThread_same slot x, fun _ other => s.thread_setThread_other x other,
    (s.setThread_onlyIn slot x).settle⟩

/-! SPAWN and RETIRE. -/

theorem State.spawn_idle (h : s.coresRun = false ∨ (s.thread slot).state ≠ 0) : s.spawn slot x = s :=
  if_neg (by rcases h with h | h <;> simp [h])

theorem State.spawn_empty (runs : s.coresRun = true) (empty : (s.thread slot).state = 0) :
    s.spawn slot x = if x.due then (s.setThread slot x).makeReady slot else s.setThread slot x :=
  if_pos (by simp [runs, empty])

theorem State.freeCore_onlyIn (s : State) (c : Nat) : OnlyIn [.sch] s (s.freeCore c) := s.setCore_onlyIn c _

theorem State.emptySlot_spec (s : State) (slot : Nat) :
    (s.emptySlot slot).thread slot = .empty ∧ OnlyIn [.sch] s (s.emptySlot slot) := by
  unfold State.emptySlot
  split
  · exact ⟨State.thread_setThread_same .., (s.freeCore_onlyIn _).trans (State.setThread_onlyIn _ _ _)⟩
  · exact ⟨State.thread_setThread_same .., s.setThread_onlyIn _ _⟩

/-- A retired slot stays empty: a dispatch takes READY threads only. -/
theorem retire_spec (runs : s.coresRun = true) (hn : slot < 256) :
    Gives (.retire slot) s (fun t => t.thread slot = .empty ∧ OnlyIn [.regs, .mem, .sch] s t) := by
  obtain ⟨empty, only⟩ := s.emptySlot_spec slot
  have step : exec (.retire slot) s = onUnit slot 256 s (s.emptySlot slot).dispatch :=
    congrArg (onUnit slot 256 s) (if_pos runs)
  have kept : (s.emptySlot slot).dispatch.thread slot = .empty :=
    (State.thread_dispatch (by rw [empty]; decide)).trans empty
  exact gives_thread step hn kept ((only.mono (by decide)).trans (State.dispatch_onlyIn _))

/-! YIELD and the run limit. -/

theorem State.yield_idle (h : s.coresRun = false ∨ (s.core c).thread = none) : s.yield_ c = s := by
  unfold State.yield_
  split
  · rfl
  · next running => exact if_neg (by simpa [running] using h)

/-- The running thread waits again, and its core is free. -/
def State.yielded (s : State) (c slot : Nat) : State :=
  ((s.setThread slot { s.thread slot with state := 1, usedNs := 0 }).freeCore c).trace 3 c slot 0 none (s.thread slot)

theorem State.yield_eq (runs : s.coresRun = true) (running : (s.core c).thread = some slot) :
    s.yield_ c = if (s.thread slot).due then (s.yielded c slot).makeReady slot else (s.yielded c slot).dispatch := by
  unfold State.yield_
  rw [running]
  exact if_pos runs

theorem State.yielded_spec (s : State) (c slot : Nat) :
    (s.yielded c slot).thread slot = { s.thread slot with state := 1, usedNs := 0 } ∧
    OnlyIn dispatcherParts s (s.yielded c slot) :=
  ⟨(State.thread_trace ..).trans (s.thread_setThread_same slot _),
    (((s.setThread_onlyIn slot _).trans (State.freeCore_onlyIn _ c)).mono (by decide)).trans (State.trace_onlyIn _ _ _ _ _ _ _)⟩

theorem yield_spec (runs : s.coresRun = true) (hc : c < 4) (running : (s.core c).thread = some slot) :
    ((s.thread slot).due = false → Gives (.yield c) s (fun t =>
      t.thread slot = { s.thread slot with state := 1, usedNs := 0 } ∧ OnlyIn [.regs, .mem, .sch] s t)) ∧
    ((s.thread slot).due = true → Gives (.yield c) s (fun t =>
      ((t.thread slot).state = 2 ∨ (t.thread slot).state = 3) ∧ OnlyIn [.regs, .mem, .sch] s t)) := by
  have step : exec (.yield c) s = onUnit c 4 s _ := congrArg (onUnit c 4 s) (State.yield_eq runs running)
  obtain ⟨waits, only⟩ := s.yielded_spec c slot
  constructor <;> intro due <;> rw [due] at step
  · have kept : (s.yielded c slot).dispatch.thread slot = { s.thread slot with state := 1, usedNs := 0 } :=
      (State.thread_dispatch (by simp [waits])).trans waits
    exact gives_thread step hc kept (only.trans (State.dispatch_onlyIn _))
  · have seated := (s.yielded c slot).makeReady_seated slot
    obtain ⟨t, answer, ready, within⟩ := gives_seated step hc seated (only.trans (State.makeReady_onlyIn _ slot))
    exact ⟨t, answer, ready.1, within⟩

theorem State.runLimit_idle (steps : List Nat) (h : (s.core c).thread = none) : s.runLimit c steps = s := by
  rw [State.runLimit, h]

/-- A run limit is reached once the thread has run for what the limit leaves of its run time (R362). -/
theorem State.runLimit_eq (steps : List Nat) (runs : s.coresRun = true) (running : (s.core c).thread = some slot) :
    s.runLimit c steps =
      (let x := s.thread slot
       let u := s.advanceTo (1000 * (x.sinceNs + (1000 * s.runLimitUs x - x.usedNs)))
       u.raise 0x0F01 { source := c, addr := u.servedTag c steps } { unit := some (.core, c), jobs := steps }) := by
  rw [State.runLimit, running]
  exact if_pos runs

/-! SIGNAL. -/

theorem State.signalThread_idle (h : (s.thread slot).state = 0 ∨ (s.thread slot).flagsMode = false) :
    s.signalThread slot flags = s := by
  have skipped : State.raiseFlags flags (s, []) slot = (s, []) := if_pos h
  exact congrArg (fun r : State × List Nat => r.1.seatThreads r.2) skipped

/-- A SIGNAL of a thread in FLAGS mode sets its flags; a WAITING one becomes READY where its rule then holds (R357). -/
theorem State.signalThread_eq (fm : (s.thread slot).flagsMode = true) (used : (s.thread slot).state ≠ 0) :
    (let y := { s.thread slot with flags := (s.thread slot).flags ||| flags }
     s.signalThread slot flags =
       if y.state = 1 ∧ y.due = true then (s.setThread slot y).makeReady slot else s.setThread slot y) := by
  intro y
  have raised : State.raiseFlags flags (s, []) slot =
      if y.state = 1 ∧ y.due = true then ((s.setThread slot y).markReady slot, [slot]) else (s.setThread slot y, []) :=
    if_neg (by simp [fm, used])
  have seated : s.signalThread slot flags =
      (State.raiseFlags flags (s, []) slot).1.seatThreads (State.raiseFlags flags (s, []) slot).2 := rfl
  rw [seated, raised]
  split <;> rfl

/-! DEC. -/

theorem State.decThread_idle (h : (s.thread slot).state = 0 ∨ (s.thread slot).flagsMode = true) : s.decThread slot = s := by
  have skipped : State.countDown (s, []) slot = (s, []) := if_pos h
  exact congrArg (fun r : State × List Nat => r.1.seatThreads r.2) skipped

/-- A decrement of a thread in COUNTER mode (R354, R355). -/
theorem State.decThread_eq (cm : (s.thread slot).flagsMode = false) (used : (s.thread slot).state ≠ 0) :
    (let x := s.thread slot
     let y := { x with counter := x.counter - 1 }
     s.decThread slot =
       if x.counter = 0 then
         if x.pending = 255 then (s.bump SCH_PENDING_SAT_COUNT).raiseI 0x0F05
         else s.setThread slot { x with pending := x.pending + 1 }
       else if x.counter = 1 ∧ x.state = 1 then (s.setThread slot y).makeReady slot else s.setThread slot y) := by
  intro x y
  have counted : State.countDown (s, []) slot =
      if x.counter = 0 then
        if x.pending = 255 then ((s.bump SCH_PENDING_SAT_COUNT).raiseI 0x0F05, [])
        else (s.setThread slot { x with pending := x.pending + 1 }, [])
      else if x.counter = 1 ∧ x.state = 1 then ((s.setThread slot y).markReady slot, [slot]) else (s.setThread slot y, []) :=
    if_neg (by simp [cm, used])
  have seated : s.decThread slot = (State.countDown (s, []) slot).1.seatThreads (State.countDown (s, []) slot).2 := rfl
  rw [seated, counted]
  split
  · split <;> rfl
  · split <;> rfl

/-- PENDING at 255 takes no more: the surplus is counted and reported (R355). -/
theorem State.saturated_spec (s : State) (slot : Nat) :
    (let t := (s.bump SCH_PENDING_SAT_COUNT).raiseI 0x0F05
     t.thread slot = s.thread slot ∧ t.rd SCH_PENDING_SAT_COUNT = bump32 (s.rd SCH_PENDING_SAT_COUNT) ∧
     bitAt (t.fstat 15) 4 = true ∧ OnlyIn [.regs, .hif, .log, .guard] s t) := by
  intro t
  have only : OnlyIn [.regs, .hif, .log, .guard] s t :=
    ((OnlyIn.refl _ s).step (s.bump_onlyIn SCH_PENDING_SAT_COUNT 0) (by decide)).step (State.raiseI_onlyIn _ _ _) (by decide)
  have sch : t.sch = s.sch := (only .sch).resolve_left (by decide)
  exact ⟨congrArg (fun z : Sch => tget Thread.empty z.threads slot) sch,
    ((State.raiseI_aside _ _ _).2 (by decide)).trans (s.rd_bump_same _ _), State.raiseI_sets _ _ _, only⟩

/-! BIND. -/

theorem State.bindOp_idle (h : s.coresRun = false ∨ (s.thread slot).state = 0 ∨ (s.thread slot).bounds.contains what = true) :
    s.bindOp slot what = s := if_neg (by rcases h with h | h | h <;> simp [h, -List.contains_eq_mem])

theorem State.bindOp_eq (runs : s.coresRun = true) (used : (s.thread slot).state ≠ 0)
    (unbound : (s.thread slot).bounds.contains what = false) :
    s.bindOp slot what = s.setThread slot { s.thread slot with bounds := (s.thread slot).bounds ++ [what] } :=
  if_pos (by simp [runs, used, unbound, -List.contains_eq_mem])

/-! The operations together. -/

/-- A SPAWN into an empty slot: the thread waits, or is READY at once where its rule holds. -/
theorem spawn_spec (runs : s.coresRun = true) (hn : slot < 256) (empty : (s.thread slot).state = 0)
    (prio : Nat) (fm all : Bool) (aff tag rl reload : Nat) (mask : Word) :
    (let y := newThread prio fm all aff tag rl reload mask s.ktime
     (y.due = false → Gives (.spawn slot prio fm all aff tag rl reload mask) s (fun t =>
       t.thread slot = y ∧ y.state = 1 ∧ (∀ k, k ≠ slot → t.thread k = s.thread k) ∧ OnlyIn [.sch] s t)) ∧
     (y.due = true → Gives (.spawn slot prio fm all aff tag rl reload mask) s (fun t =>
       ((t.thread slot).state = 2 ∨ (t.thread slot).state = 3) ∧ (t.thread slot).prio = prio % 32 ∧
       OnlyIn [.regs, .mem, .sch] s t))) := by
  intro y
  have step : exec (.spawn slot prio fm all aff tag rl reload mask) s =
      onUnit slot 256 s (if y.due then (s.setThread slot y).makeReady slot else s.setThread slot y) :=
    congrArg (onUnit slot 256 s) (State.spawn_empty runs empty)
  constructor <;> intro due <;> rw [due] at step
  · obtain ⟨t, answer, filled, others, only⟩ := gives_setThread step hn
    exact ⟨t, answer, filled, rfl, others, only⟩
  · obtain ⟨t, answer, ⟨ready, sameprio⟩, only⟩ := gives_ready step hn
    exact ⟨t, answer, ready, sameprio, only⟩

theorem signal_spec (runs : s.coresRun = true) (hn : slot < 256) (flags : Word) (fm : (s.thread slot).flagsMode = true)
    (used : (s.thread slot).state ≠ 0) :
    (let x := s.thread slot
     let y := { x with flags := x.flags ||| flags }
     ((x.state ≠ 1 ∨ y.due = false) → Gives (.signal slot flags) s (fun t =>
       t.thread slot = y ∧ (∀ k, k ≠ slot → t.thread k = s.thread k) ∧ OnlyIn [.sch] s t)) ∧
     (x.state = 1 → y.due = true → Gives (.signal slot flags) s (fun t =>
       ((t.thread slot).state = 2 ∨ (t.thread slot).state = 3) ∧ OnlyIn [.regs, .mem, .sch] s t))) := by
  intro x y
  have step : exec (.signal slot flags) s = onUnit slot 256 s
      (if y.state = 1 ∧ y.due = true then (s.setThread slot y).makeReady slot else s.setThread slot y) :=
    congrArg (onUnit slot 256 s) ((if_pos runs).trans (State.signalThread_eq fm used))
  refine ⟨fun stays => ?_, fun waiting due => ?_⟩
  · have no : ¬ (y.state = 1 ∧ y.due = true) := fun both => stays.elim (· both.1) (by simp [both.2])
    rw [if_neg no] at step
    exact gives_setThread step hn
  · rw [if_pos ⟨waiting, due⟩] at step
    obtain ⟨t, answer, ready, only⟩ := gives_ready step hn
    exact ⟨t, answer, ready.1, only⟩

theorem dec_spec (runs : s.coresRun = true) (hn : slot < 256) (cm : (s.thread slot).flagsMode = false)
    (used : (s.thread slot).state ≠ 0) :
    (let x := s.thread slot
     ((2 ≤ x.counter ∨ (x.counter = 1 ∧ x.state ≠ 1)) → Gives (.dec slot) s (fun t =>
       t.thread slot = { x with counter := x.counter - 1 } ∧ OnlyIn [.sch] s t)) ∧
     (x.counter = 1 → x.state = 1 → Gives (.dec slot) s (fun t =>
       ((t.thread slot).state = 2 ∨ (t.thread slot).state = 3) ∧ OnlyIn [.regs, .mem, .sch] s t)) ∧
     (x.counter = 0 → x.pending ≠ 255 → Gives (.dec slot) s (fun t =>
       t.thread slot = { x with pending := x.pending + 1 } ∧ OnlyIn [.sch] s t)) ∧
     (x.counter = 0 → x.pending = 255 → Gives (.dec slot) s (fun t =>
       t.thread slot = x ∧ t.rd SCH_PENDING_SAT_COUNT = bump32 (s.rd SCH_PENDING_SAT_COUNT) ∧
       bitAt (t.fstat 15) 4 = true ∧ OnlyIn [.regs, .hif, .log, .guard] s t))) := by
  intro x
  have step : exec (.dec slot) s = onUnit slot 256 s _ :=
    congrArg (onUnit slot 256 s) ((if_pos runs).trans (State.decThread_eq cm used))
  refine ⟨fun more => ?_, fun last waiting => ?_, fun zero room => ?_, fun zero full => ?_⟩
  · have counts : ¬ x.counter = 0 := by omega
    have stays : ¬ (x.counter = 1 ∧ x.state = 1) := by omega
    rw [if_neg counts, if_neg stays] at step
    exact gives_thread step hn (s.thread_setThread_same slot _) (s.setThread_onlyIn slot _)
  · have counts : ¬ x.counter = 0 := by omega
    rw [if_neg counts, if_pos ⟨last, waiting⟩] at step
    obtain ⟨t, answer, ready, only⟩ := gives_ready step hn
    exact ⟨t, answer, ready.1, only⟩
  · rw [if_pos zero, if_neg room] at step
    exact gives_thread step hn (s.thread_setThread_same slot _) (s.setThread_onlyIn slot _)
  · rw [if_pos zero, if_pos full] at step
    obtain ⟨same, counted, raised, only⟩ := s.saturated_spec slot
    exact .onUnit step hn ⟨(State.thread_settle ..).trans same, counted, raised, only.settle⟩

/-- While the cores do not execute, and where there is nothing that the operation applies to, nothing changes. -/
theorem dispatcher_idle (s : State) (slot c : Nat) (flags : Word) (what : Bound) (prio : Nat) (fm all : Bool)
    (aff tag rl reload : Nat) (mask : Word) :
    (let x := s.thread slot
     let idle (i : Instr) : Prop := exec i s = .next s.settle
     ((s.coresRun = false ∨ x.state ≠ 0) → idle (.spawn slot prio fm all aff tag rl reload mask)) ∧
     (s.coresRun = false → idle (.retire slot)) ∧
     ((s.coresRun = false ∨ (s.core c).thread = none) → idle (.yield c)) ∧
     ((s.coresRun = false ∨ x.state = 0 ∨ x.flagsMode = false) → idle (.signal slot flags)) ∧
     ((s.coresRun = false ∨ x.state = 0 ∨ x.flagsMode = true) → idle (.dec slot)) ∧
     ((s.coresRun = false ∨ x.state = 0 ∨ x.bounds.contains what = true) → idle (.bind slot what)) ∧
     (∀ steps, (s.core c).thread = none → idle (.threadRunLimit ⟨c, steps⟩))) := by
  have skipped {u : State} (h : s.coresRun = false ∨ u = s) : (if s.coresRun then u else s) = s := by
    rcases h with stopped | same
    · exact if_neg (by simp [stopped])
    · rw [same, ite_self]
  exact ⟨fun h => exec_onUnit_idle rfl (State.spawn_idle h), fun stopped => exec_onUnit_idle rfl (skipped (.inl stopped)),
    fun h => exec_onUnit_idle rfl (State.yield_idle h),
    fun h => exec_onUnit_idle rfl (skipped (h.imp_right State.signalThread_idle)),
    fun h => exec_onUnit_idle rfl (skipped (h.imp_right State.decThread_idle)),
    fun h => exec_onUnit_idle rfl (State.bindOp_idle h), fun steps h => exec_onUnit_idle rfl (State.runLimit_idle steps h)⟩

/-- Settles O50: each operation is a change of its slot, after which a thread that becomes READY is seated (`State.Seated`) and
a freed core dispatches, which changes READY threads only (`State.thread_dispatch`). -/
theorem dispatcherOperations : Obligations.DispatcherOperations := by
  rintro s slot _ hn rfl
  refine ⟨fun c flags what prio fm all aff tag rl reload mask =>
      dispatcher_idle s slot c flags what prio fm all aff tag rl reload mask,
    fun runs => ⟨fun prio fm all aff tag rl reload mask empty => spawn_spec runs hn empty prio fm all aff tag rl reload mask,
      retire_spec runs hn, fun c hc running => ?_, fun flags fm used => signal_spec runs hn flags fm used,
      fun cm used => dec_spec runs hn cm used, fun what used unbound => ?_⟩⟩
  · obtain ⟨waits, readyAgain⟩ := yield_spec runs hc running
    exact ⟨waits, readyAgain, fun steps => (onUnit_lt s _ hc).trans (by rw [State.runLimit_eq steps runs running])⟩
  · exact gives_setThread (congrArg (onUnit slot 256 s) (State.bindOp_eq runs used unbound)) hn

end Sys2Proof.Machine
end

section
namespace Sys2Proof.Machine

/-! What a fault's reaction leaves of the Guard: completions, discards and restarts set status bits and note causes, and touch
nothing else there. -/

/-- The Guard but for its status bits and the causes that are present. -/
def Guard.bare (g : Guard) : Guard := { g with status := [], live := [] }

/-- From `r` to `s` the Guard has set status bits and noted causes at most. -/
def ReactionKept (r s : State) : Prop := s.guard.bare = r.guard.bare

namespace ReactionKept

variable {r s t : State}

theorem refl (s : State) : ReactionKept s s := rfl

theorem trans (h : ReactionKept r s) (k : ReactionKept s t) : ReactionKept r t := Eq.trans k h

/-- A change beside the Guard. -/
theorem keep {ps : List Part} (h : ReactionKept r s) (k : OnlyIn ps s t) (hp : Part.guard ∉ ps) : ReactionKept r t :=
  (congrArg Guard.bare (k.guard_eq hp)).trans h

theorem ite {c : Prop} [Decidable c] (h : ReactionKept r s) (k : ReactionKept r t) :
    ReactionKept r (if c then s else t) := by split <;> assumption

theorem foldl {α : Type} {f : State → α → State} {l : List α} (h : ReactionKept r s)
    (hf : ∀ s a, ReactionKept r s → ReactionKept r (f s a)) : ReactionKept r (l.foldl f s) :=
  List.foldlRecOn l f h fun s hs a _ => hf s a hs

/-! Faults of Class I. -/

theorem setStatus {c : Nat} (h : ReactionKept r s) : ReactionKept r (s.setStatus c) := h
theorem present {c n : Nat} (h : ReactionKept r s) : ReactionKept r (s.present c n) := h
theorem logFault {c : Nat} {a b : FClass} {i : FaultInfo} (h : ReactionKept r s) : ReactionKept r (s.logFault c a b i) :=
  h.keep (s.logFault_onlyIn c a b i) (by decide)
theorem raiseI {c : Nat} {i : FaultInfo} (h : ReactionKept r s) : ReactionKept r (s.raiseI c i) := h.setStatus.logFault (c := c)
theorem raiseCond {c : Nat} {i : FaultInfo} (h : ReactionKept r s) : ReactionKept r (s.raiseCond c i) :=
  h.raiseI (c := c) (i := i)
theorem logMerged {c l : Nat} {a b : FClass} {i : FaultInfo} (h : ReactionKept r s) :
    ReactionKept r (s.logMerged c a b i l) := (h.keep (s.bump_onlyIn GRD_MERGE_COUNT 0) (by decide)).logFault

/-! The end of a job (R104, R354). -/

theorem countDown {acc : State × List Nat} {n : Nat} (h : ReactionKept r acc.1) :
    ReactionKept r (State.countDown acc n).1 := by
  obtain ⟨s, ready⟩ := acc
  have set (x : Thread) : ReactionKept r (s.setThread n x) := h
  unfold State.countDown
  dsimp only
  split
  · exact h
  · split
    · split
      · exact raiseI (h.keep (s.bump_onlyIn _ _) (by decide))
      · exact set _
    · split
      · exact (set _).keep (State.markReady_onlyIn _ _) (by decide)
      · exact set _

theorem decBound {b : Bound} (h : ReactionKept r s) : ReactionKept r (s.decBound b) :=
  have down (l : List Nat) : ReactionKept r (l.foldl State.countDown (s, [])).1 :=
    List.foldlRecOn (motive := fun acc : State × List Nat => ReactionKept r acc.1) l _ h fun _ hs _ _ => countDown hs
  (down _).keep (State.seatThreads_onlyIn _ _) (by decide)

theorem dropJob {n : Nat} (h : ReactionKept r s) : ReactionKept r (s.dropJob n) := h.keep (s.dropJob_onlyIn n) (by decide)
theorem setCq {n : Nat} {q : Cq} (h : ReactionKept r s) : ReactionKept r (s.setCq n q) := h
theorem setChan {n : Nat} {c : Channel} (h : ReactionKept r s) : ReactionKept r (s.setChan n c) := h
theorem modChan {n : Nat} {f : Channel → Channel} (h : ReactionKept r s) : ReactionKept r (s.modChan n f) := h
theorem modJob {n : Nat} {f : Job → Job} (h : ReactionKept r s) : ReactionKept r (s.modJob n f) := h

theorem writeCpl {n : Nat} {c : Cpl} (h : ReactionKept r s) : ReactionKept r (s.writeCpl n c) := by
  have entry := h.keep (s.putEntry_onlyIn (s.cqAt n) (s.cq n).pi (c.bytes 0 s.tick32)) (by decide)
  have counted := entry.keep (State.bump64_onlyIn _ HIF_CPL_POST_COUNT 0 1) (by decide)
  have written := (counted.decBound (b := .completion n)).keep (State.noteRecord_onlyIn _ c (s.cq n).pi) (by decide)
  exact ite (written.setCq.keep (State.signal_onlyIn _ n) (by decide)) written.setCq

theorem postCpl {n : Nat} {c : Cpl} {rsv : Bool} (h : ReactionKept r s) : ReactionKept r (s.postCpl n c rsv).1 := by
  generalize hp : s.postCpl n c rsv = p
  unfold State.postCpl at hp
  split at hp
  · exact hp ▸ h
  · split at hp
    · exact hp ▸ h.keep (s.bump_onlyIn _ _) (by decide)
    · extract_lets q kept at hp
      have hkept : ReactionKept r kept := h.setCq.ite h
      split at hp
      · exact hp ▸ hkept
      · exact hp ▸ hkept.writeCpl

theorem postJob {j : Job} {c : Cpl} (h : ReactionKept r s) : ReactionKept r (s.postJob j c) := by
  have posted := h.postCpl (n := j.cq) (c := c) (rsv := j.reserved)
  unfold State.postJob
  refine ite h.modJob ?_
  split
  · next e => rw [e] at posted; exact posted.dropJob
  · next e => rw [e] at posted; exact posted.dropJob
  · next e =>
    rw [e] at posted
    split
    · exact (posted.keep (State.bump_onlyIn _ _ _) (by decide)).dropJob
    · exact posted.modJob
    · exact posted.modJob

theorem endJob {n : Nat} {e : End} (h : ReactionKept r s) : ReactionKept r (s.endJob n e) := by
  have freed := h.keep (s.freeJobCells_onlyIn n e.status) (by decide)
  unfold State.endJob
  split
  · exact h
  · dsimp only
    split
    · exact freed
    · exact (freed.keep (State.countCpl_onlyIn _ _) (by decide)).postJob
    · exact (freed.keep (State.countCpl_onlyIn _ _) (by decide)).postJob
    · exact ((freed.keep (State.leaveEngines_onlyIn _ n) (by decide)).keep (State.countCpl_onlyIn _ _)
        (by decide)).decBound.postJob

/-! The engines take up work (R27), with the exports that fall due before it. -/

theorem exportNow {n : Nat} (h : ReactionKept r s) : ReactionKept r (s.exportNow n) := by
  unfold State.exportNow
  split
  · exact h
  · split
    · exact h.modChan
    · exact ((h.keep (s.hostWrite_onlyIn _ _) (by decide)).ite h).modChan.endJob

theorem exportBefore {j : Job} (h : ReactionKept r s) : ReactionKept r (s.exportBefore j) := (h.exportNow.ite h).ite h

theorem takeSegment {e n : Nat} (h : ReactionKept r s) : ReactionKept r (s.takeSegment e n) := by
  unfold State.takeSegment
  split
  · exact h.exportBefore
  · exact h

theorem feedEngine {e : Nat} (h : ReactionKept r s) : ReactionKept r (s.feedEngine e) := by
  unfold State.feedEngine
  refine ite h ?_
  split
  · exact h
  · split
    · exact h
    · exact h.takeSegment

theorem feedEngines (h : ReactionKept r s) : ReactionKept r s.feedEngines :=
  have come : ReactionKept r s.progress.stall := h
  (come.foldl fun _ _ h => h.feedEngine).ite h

theorem maybeCompose (h : ReactionKept r s) : ReactionKept r s.maybeCompose :=
  h.keep s.maybeCompose_onlyIn (by decide)

/-! What a reaction discards (R398, R399). -/

theorem discardJob {f n : Nat} (h : ReactionKept r s) : ReactionKept r (s.discardJob f n) := by
  have dropped {u : State} (k : ReactionKept r u) : ReactionKept r (u.dropPackets n) := k.foldl fun _ _ h => h
  unfold State.discardJob
  split
  · exact h
  · split
    · exact h
    · have counted := h.keep (s.countSegments_onlyIn n) (by decide)
      have ended := dropped (counted.endJob (n := n) (e := { status := 0x40, fault := f }))
      exact ended.modChan.ite ended

theorem dropUnit {n : Nat} (h : ReactionKept r s) : ReactionKept r (s.dropUnit n) := by
  unfold State.dropUnit
  split
  · exact h
  · exact ite h h

theorem discardChan {f n : Nat} (h : ReactionKept r s) : ReactionKept r (s.discardChan f n) :=
  have gone := (h.foldl (l := s.chanWork n) fun _ _ h => h.discardJob (f := f)).modChan.dropUnit
  ite gone h

theorem moveWork {u : Nat} (h : ReactionKept r s) : ReactionKept r (s.moveWork u) := by
  refine h.foldl fun s n h => ?_
  unfold State.placeAgain
  split
  · exact h
  · exact h

theorem discardE {k : UnitKind} {u c : Nat} {ids : List Nat} (h : ReactionKept r s) :
    ReactionKept r (s.discardE k u c ids) := by
  have discarded : ReactionKept r (ids.foldl (fun s id => s.discardJob c id) s) := h.foldl fun _ _ h => h.discardJob
  have due {l : List Nat} : ReactionKept r ((ids.foldl (fun s id => s.discardJob c id) s).dueTags l) := discarded
  cases k with
  | syn => exact due.moveWork.feedEngines.maybeCompose
  | pix => exact due.feedEngines.maybeCompose
  | enc => exact due.feedEngines.maybeCompose
  | core => exact due.feedEngines.maybeCompose

/-- A job in a Class M restart (R371, R401). -/
theorem restartJob {c : Nat} {l : List Nat} {j : Job} (h : ReactionKept r s) : ReactionKept r (State.restartJob c l s j) := by
  unfold State.restartJob
  split
  · exact ite (h.keep (s.bump_onlyIn _ _) (by decide)).dropJob h
  · exact ite h.dropJob h.endJob

end ReactionKept

end Sys2Proof.Machine
end

section
namespace Sys2Proof.Machine

/-! A fault that is carried out (R394 to R402): it is logged under its reaction, and then its class acts. -/

variable {s u : State} {code : Nat} {cls : FClass} {x : Targets} {k : UnitKind} {n : Nat}

/-- The class under which the reaction in progress acts; Class I while there is none. -/
def Guard.actingNow (g : Guard) : FClass :=
  match g.reaction with
  | none => .i
  | some y => y.acting

/-- The first code of the reaction that a fault belongs to. -/
def Guard.firstOf (g : Guard) (code : Nat) : Nat :=
  match g.reaction with
  | none => code
  | some y => y.first

/-- The Guard with a reaction in progress, which the fault has begun where there was none. -/
def Guard.withReaction (g : Guard) (code : Nat) (y : Reaction) : Guard :=
  { g with
    reaction := some y
    firstCode := match g.reaction with
      | none => code
      | some _ => g.firstCode }

/-- The reaction in progress once one more fault has joined it. -/
def Reaction.joinedBy (y : Reaction) (acting : FClass) (code source : Nat) : Reaction :=
  { y with acting := acting, codes := y.codes ++ [(code, source)] }

/-- The fault starts a Class M restart. -/
def State.startsM (s : State) (cls : FClass) (x : Targets) : Bool :=
  decide (effClass cls x = .m) && decide (s.guard.actingNow ≠ .m)

/-- The Guard's own code that the fault brings with it, above M_LIMIT or at the last two cores; 0 for none. -/
def State.extraCode (s : State) (cls : FClass) (x : Targets) : Nat :=
  if s.startsM cls x && s.overLimit then 0x1105 else if s.lastCores x then 0x0F06 else 0

/-- The class under which the reaction acts from the fault on. -/
def State.carriedClass (s : State) (cls : FClass) (x : Targets) : FClass :=
  if s.extraCode cls x = 0 then s.guard.actingNow.max (effClass cls x) else .s

/-- From `s` to `u` the fault is logged under its reaction, and nothing is acted on yet. -/
structure State.Begins (s : State) (code : Nat) (cls : FClass) (x : Targets) (u : State) : Prop where
  parts : OnlyIn safeParts s u
  guard : ∃ y : Reaction, y.first = s.guard.firstOf code ∧ y.acting = s.carriedClass cls x ∧
    u.guard.bare = (s.guard.withReaction code y).bare
  merged : s.guard.reaction ≠ none → u.rd GRD_MERGE_COUNT = bump32 (s.rd GRD_MERGE_COUNT)

/-- The state in which the Guard has a reaction in progress. -/
def State.withReaction (s : State) (code : Nat) (y : Reaction) : State := { s with guard := s.guard.withReaction code y }

/-- The first fault of a reaction: it is logged, its vector is signalled, and the threads that wait for the hardware flag are woken. -/
theorem State.logBegun_spec (s : State) (code : Nat) (cls acting : FClass) (i : FaultInfo) (y : Reaction) :
    OnlyIn safeParts s ((((s.withReaction code y).logFault code cls acting i).signal 65).hwFlag 4) ∧
    ((((s.withReaction code y).logFault code cls acting i).signal 65).hwFlag 4).guard.bare =
      (s.guard.withReaction code y).bare := by
  have begins : OnlyIn safeParts s (s.withReaction code y) := (OnlyIn.refl _ s).guard (by decide)
  have kept : OnlyIn [.regs, .bus, .hif, .mem, .sch, .log] (s.withReaction code y)
      ((((s.withReaction code y).logFault code cls acting i).signal 65).hwFlag 4) :=
    (((OnlyIn.refl _ _).step (State.logFault_onlyIn _ _ _ _ _) (by decide)).step
      (State.signal_onlyIn _ 65) (by decide)).step (State.hwFlag_onlyIn _ 4) (by decide)
  exact ⟨begins.step kept (by decide), congrArg Guard.bare (kept.guard_eq (by decide))⟩

/-- A further fault of a reaction: it is counted as merged and logged (R405). -/
theorem State.logJoined_spec (s : State) (code : Nat) (cls acting : FClass) (i : FaultInfo) (y : Reaction) (link : Nat) :
    OnlyIn safeParts s ((s.withReaction code y).logMerged code cls acting i link) ∧
    ((s.withReaction code y).logMerged code cls acting i link).guard.bare = (s.guard.withReaction code y).bare ∧
    ((s.withReaction code y).logMerged code cls acting i link).rd GRD_MERGE_COUNT = bump32 (s.rd GRD_MERGE_COUNT) := by
  have begins : OnlyIn safeParts s (s.withReaction code y) := (OnlyIn.refl _ s).guard (by decide)
  have kept : JobEnds ((s.withReaction code y).bump GRD_MERGE_COUNT) ((s.withReaction code y).logMerged code cls acting i link) :=
    (JobEnds.refl _).logFault
  have only : OnlyIn [.regs, .hif, .log] (s.withReaction code y) ((s.withReaction code y).logMerged code cls acting i link) :=
    ((OnlyIn.refl _ _).step (State.bump_onlyIn _ _ _) (by decide)).step (State.logFault_onlyIn _ _ _ _ _) (by decide)
  exact ⟨begins.step only (by decide), congrArg Guard.bare (only.guard_eq (by decide)),
    (kept.rd (by decide)).trans ((s.withReaction code y).rd_bump_same GRD_MERGE_COUNT 0)⟩

/-- A fault is logged, and then SAFE follows, or its class acts after the restart that it may start. -/
theorem State.react_eq (s : State) (code : Nat) (cls : FClass) (i : FaultInfo) (x : Targets) :
    ∃ u, s.Begins code cls x u ∧ s.react code cls i x =
      if s.carriedClass cls x = .s then u.toSafe (s.guard.firstOf code) (s.extraCode cls x)
      else (if s.startsM cls x then u.startM code x.jobs else u).actOn code cls x (s.carriedClass cls x) := by
  generalize hv : s.react code cls i x = v
  unfold State.react at hv
  extract_lets eff old newM extra acting ids i first g a begun logged shown restarted at hv
  suffices h : s.Begins code cls x logged from by
    refine ⟨shown, ⟨?_, ?_, ?_⟩, hv.symm⟩
    · exact h.parts.trans (.ite (.refl _ _) ((State.present_onlyIn _ _ _).mono (by decide)))
    · obtain ⟨y, first, acting, kept⟩ := h.guard
      exact ⟨y, first, acting, Eq.trans (ReactionKept.ite (.refl logged) (ReactionKept.refl logged).present) kept⟩
    · intro merges
      refine Eq.trans ?_ (h.merged merges)
      unfold shown
      split
      · rfl
      · rfl
  have hacting : acting = s.carriedClass cls x := rfl
  cases hr : s.guard.reaction with
  | none =>
    have hbegun : begun = s.withReaction code ⟨code, acting, a.ktime, 0, [(code, i.source)]⟩ := by
      rw [State.withReaction, Guard.withReaction, hr]; rfl
    have hlogged : logged = ((begun.logFault code cls acting i).signal 65).hwFlag 4 := by unfold logged; rw [hr]
    obtain ⟨parts, kept⟩ := s.logBegun_spec code cls acting i ⟨code, acting, a.ktime, 0, [(code, i.source)]⟩
    rw [← hbegun, ← hlogged] at parts kept
    exact ⟨parts, ⟨_, by rw [Guard.firstOf, hr], hacting, kept⟩, fun c => absurd hr c⟩
  | some y =>
    have hjoined : s.setReaction (y.joinedBy acting code i.source) = s.withReaction code (y.joinedBy acting code i.source) := by
      rw [State.withReaction, Guard.withReaction, hr]; rfl
    have hlogged : logged = (s.setReaction (y.joinedBy acting code i.source)).logMerged code cls acting i y.first := by
      unfold logged; rw [hr]; rfl
    obtain ⟨parts, kept, merges⟩ := s.logJoined_spec code cls acting i (y.joinedBy acting code i.source) y.first
    rw [← hjoined, ← hlogged] at parts kept merges
    exact ⟨parts, ⟨_, by rw [Guard.firstOf, hr]; rfl, hacting, kept⟩, fun _ => merges⟩

/-! SAFE (R402, R408, R364). -/

/-- From `r` the module has come to `s` by stopping in SAFE, and every pair is held as it was. -/
structure StopsIn (r s : State) : Prop where
  safe : s.guard.safe = true
  mode : s.power.mode = .safe
  tick : s.tick.stopped = true
  levels : s.fio.safeLevels = true
  asserted : s.guard.asserted = r.guard.asserted

theorem State.enterSafe_stops (h : s.guard.safe = false) : StopsIn s s.enterSafe := by
  generalize hu : s.enterSafe = u
  unfold State.enterSafe at hu
  rw [if_neg (by simp [h])] at hu
  extract_lets s1 s2 p bus tick mem guard pwr fio s3 at hu
  have dark : s2.guard = s.guard := (OnlyIn.foldl _ State.panelDown_onlyIn _ s1).guard_eq (by decide)
  have k : OnlyIn [.mem, .clk, .fresh, .bus] s3 u :=
    hu ▸ (OnlyIn.ite (s3.lockBanksAndPlls_onlyIn.mono (by decide)) (.refl _ s3)).step (State.flushMsi_onlyIn _) (by decide)
  refine ⟨?_, ?_, ?_, ?_, ?_⟩
  · rw [k.guard_eq (by decide)]
  · rw [k.power_eq (by decide)]
  · rw [k.tick_eq (by decide)]
  · rw [(k .fio).resolve_left (by decide)]
  · rw [k.guard_eq (by decide)]
    exact (congrArg Guard.asserted dark :)

/-- SAFE with the Guard's own code sets the bit of that code. -/
theorem State.toSafe_sets (s : State) (link : Nat) {extra : Nat} (h : extra ≠ 0) :
    bitAt ((s.toSafe link extra).fstat (extra / 256)) (extra % 256 - 1) = true := by
  have after : Steady (s.setStatus extra) (s.toSafe link extra) := by
    rw [State.toSafe, if_neg h]
    exact (Steady.refl _).present.logMerged.enterSafe
  refine after.status _ _ ?_
  simp [State.bitAt_setStatus]

theorem State.toSafe_stops (h : s.guard.safe = false) (link extra : Nat) : StopsIn s (s.toSafe link extra) := by
  have own : ReactionKept s (if extra = 0 then s else ((s.setStatus extra).present extra 0xFF).logMerged extra .s .s {} link) :=
    .ite (.refl s) (ReactionKept.logMerged (s := (s.setStatus extra).present extra 0xFF) (.refl s))
  have stops := State.enterSafe_stops ((congrArg Guard.safe own :).trans h)
  exact { stops with asserted := stops.asserted.trans (congrArg Guard.asserted own :) }

/-- A fault whose reaction acts as Class S stops the module in SAFE, with the bit of the Guard's own code. -/
theorem State.react_stops (safe : s.guard.safe = false) (carried : s.carriedClass cls x = .s) (i : FaultInfo) :
    StopsIn s (s.react code cls i x) ∧ (s.extraCode cls x ≠ 0 →
      bitAt ((s.react code cls i x).fstat (s.extraCode cls x / 256)) (s.extraCode cls x % 256 - 1) = true) := by
  obtain ⟨u, begins, answer⟩ := s.react_eq code cls i x
  obtain ⟨y, -, -, kept⟩ := begins.guard
  rw [if_pos carried] at answer
  have stops := State.toSafe_stops (s := u) ((congrArg Guard.safe kept :).trans safe) (s.guard.firstOf code) (s.extraCode cls x)
  rw [answer]
  exact ⟨{ stops with asserted := stops.asserted.trans (congrArg Guard.asserted kept :) }, u.toSafe_sets _⟩

/-! Class C (R398). -/

/-- A Class C fault while no reaction is in progress begins its own, and acts on its channels. -/
theorem State.react_channels (idle : s.guard.reaction = none) (unitless : x.unit = none) (i : FaultInfo) : ∃ y : Reaction,
    y.first = code ∧ y.acting = .c ∧ (s.react code .c i x).guard.bare = (s.guard.withReaction code y).bare := by
  have starts : s.startsM .c x = false := rfl
  have extra : s.extraCode .c x = 0 := by simp [State.extraCode, starts, State.lastCores, unitless]
  have carried : s.carriedClass .c x = .c := by simp [State.carriedClass, extra, Guard.actingNow, idle]; rfl
  obtain ⟨u, begins, answer⟩ := s.react_eq code .c i x
  obtain ⟨y, first, acting, kept⟩ := begins.guard
  rw [Guard.firstOf, idle] at first
  rw [carried, starts, if_neg (by decide), if_neg (by decide)] at answer
  have discarded : ReactionKept u (x.chans.foldl (fun s n => s.discardChan code n) u) :=
    (ReactionKept.refl u).foldl fun _ _ h => h.discardChan
  refine ⟨y, first, acting.trans carried, ?_⟩
  rw [answer]
  exact Eq.trans discarded.feedEngines.maybeCompose kept

/-! Class E (R399, R400, R364). -/

theorem State.stopCore_onlyIn (s : State) (c code : Nat) : OnlyIn dispatcherParts s (s.stopCore c code) := by
  have traced {u : State} {y : Thread} {t : Nat} (h : OnlyIn dispatcherParts s u) : OnlyIn dispatcherParts s
      (State.trace (if code = 0x0F01 then u.trace 5 c t 0 none y else u) 6 c t 0 none y) :=
    (h.trans (.ite (u.trace_onlyIn _ _ _ _ _ _) (.refl _ u))).trans (State.trace_onlyIn _ _ _ _ _ _ _)
  have off (y : Core) : OnlyIn dispatcherParts s (s.setCore c y) := (s.setCore_onlyIn c y).mono (by decide)
  unfold State.stopCore
  dsimp only
  split
  · exact (off _).trans (State.trace_onlyIn _ _ _ _ _ _ _)
  · have waits {t : Nat} (y : Core) (z : Thread) := traced (t := t) (y := z)
      ((off y).step (State.setThread_onlyIn _ t z) (by decide))
    exact .ite ((waits _ _).trans (State.makeReady_onlyIn _ _)) ((waits _ _).trans (State.dispatch_onlyIn _))

/-- The unit is among those fenced, and nothing has come of it yet. -/
def State.withFenced (s : State) (k : UnitKind) (n code : Nat) : State :=
  { s with guard := { s.guard with fenced := s.guard.fenced ++ [(k, n, code)] } }

/-- A fence adds the unit to those fenced. -/
theorem State.fence_adds (healthy : s.isFenced k n = false) (code : Nat) : (s.fence k n code).guard.bare =
    ({ s.guard with fenced := s.guard.fenced ++ [(k, n, code)] } : Guard).bare := by
  suffices h : ReactionKept (s.withFenced k n code) (s.fence k n code) from h
  have shown (l : List SynEngine) : ReactionKept (s.withFenced k n code)
      { (s.withFenced k n code).present code (unitTag k n) with engines := l } := .refl _
  unfold State.fence
  rw [if_neg (by simp [healthy])]
  cases k with
  | syn => exact ReactionKept.ite (shown _).raiseCond (shown _)
  | pix => exact ReactionKept.ite (shown _).raiseCond (shown _)
  | enc => exact ReactionKept.ite (shown _).raiseCond (shown _)
  | core => exact (shown _).keep (State.stopCore_onlyIn _ n code) (by decide)

theorem State.lastCores_of_left (unit : x.unit = some (k, n)) (left : k = .core → 2 < s.healthyOf .core) :
    s.lastCores x = false := by
  unfold State.lastCores
  rw [unit]
  cases k with
  | core => simp [left rfl]
  | syn => rfl
  | pix => rfl
  | enc => rfl

/-- A Class E fault while no reaction is in progress begins its own and fences its unit, unless too few cores were left. -/
theorem State.react_unit (idle : s.guard.reaction = none) (unit : x.unit = some (k, n)) (healthy : s.isFenced k n = false)
    (left : s.lastCores x = false) (i : FaultInfo) : ∃ y : Reaction, y.first = code ∧ y.acting = .e ∧
    (s.react code .e i x).guard.bare =
      ({ s.guard.withReaction code y with fenced := s.guard.fenced ++ [(k, n, code)] } : Guard).bare := by
  have eff : effClass .e x = .e := by simp [effClass, unit]
  have starts : s.startsM .e x = false := by simp [State.startsM, eff]
  have extra : s.extraCode .e x = 0 := by simp [State.extraCode, starts, left]
  have carried : s.carriedClass .e x = .e := by simp [State.carriedClass, extra, Guard.actingNow, idle, eff]; rfl
  obtain ⟨u, begins, answer⟩ := s.react_eq code .e i x
  obtain ⟨y, first, acting, kept⟩ := begins.guard
  rw [Guard.firstOf, idle] at first
  rw [carried, starts, if_neg (by decide), if_neg (by decide)] at answer
  have fenced : u.guard.fenced = s.guard.fenced := (congrArg Guard.fenced kept :)
  have still : u.isFenced k n = false := by rw [State.isFenced, fenced]; exact healthy
  have acts : u.actOn code .e x .e = (u.fence k n code).discardE k n code (u.ownWork .e x) := by
    unfold State.actOn
    simp [unit]
  refine ⟨y, first, acting.trans carried, ?_⟩
  rw [answer, acts]
  refine Eq.trans (ReactionKept.discardE (.refl _)) ((State.fence_adds still code).trans ?_)
  have field := congrArg (fun g : Guard => { g with fenced := s.guard.fenced ++ [(k, n, code)] }) kept
  rw [fenced]
  exact field

/-- A Class E fault at the last two cores acts as Class S, with SCH 0x0F06. -/
theorem State.lastCores_carried (unit : x.unit = some (.core, n)) (left : s.lastCores x = true) :
    s.extraCode .e x = 0x0F06 ∧ s.carriedClass .e x = .s := by
  have eff : effClass .e x = .e := by simp [effClass, unit]
  have starts : s.startsM .e x = false := by simp [State.startsM, eff]
  have extra : s.extraCode .e x = 0x0F06 := by simp [State.extraCode, starts, left]
  exact ⟨extra, by simp [State.carriedClass, extra]⟩

/-! Class M (R371, R401, R408). -/

/-- The state in which a Class M restart discards the jobs: it runs, and their cells are left to the reclaim of their tags. -/
def State.restartBegun (s : State) : State :=
  { s with
    guard := { s.guard with restarting := true, resumeAtEdge := false, mStarts := s.guard.mStarts ++ [s.ktime] }
    hif := { s.hif with
      jobs := s.hif.jobs.map fun j => { j with cells := [] }
      live := s.hif.live.map fun j => { j with cells := [] } } }

/-- The restart, once the jobs have ended: it resets the data path, gives the copies' cells back and leaves tags
to be reclaimed. -/
def State.restartPath (s : State) : State :=
  ((s.cmp.copies.flatMap (·.cells)).foldl (fun s h => s.returnCell h) s.resetPath).dueTags classMTags

theorem State.restartPath_onlyIn (s : State) : OnlyIn [.hif, .chans, .engines, .sch, .flows, .queues, .tick, .cmp, .bpm, .mem]
    s s.restartPath := by
  have reset : OnlyIn [.hif, .chans, .engines, .sch, .flows, .queues, .tick, .cmp, .bpm, .mem] s s.resetPath := by
    intro p; cases p <;> first | exact .inr rfl | exact .inl (by decide)
  have due (u : State) (l : List Nat) : OnlyIn [.bpm] u (u.dueTags l) := by
    intro p; cases p <;> first | exact .inr rfl | exact .inl (by decide)
  exact (reset.step (.foldl _ (fun s h => s.returnCell_onlyIn h) _ _) (by decide)).step (due _ _) (by decide)

theorem State.restartPath_stopped (s : State) : s.restartPath.tick.stopped = s.tick.stopped := by
  have back := (OnlyIn.foldl (fun s h => s.returnCell h) (fun s h => s.returnCell_onlyIn h)
    (s.cmp.copies.flatMap (·.cells)) s.resetPath).tick_eq (by decide)
  exact (congrArg Tick.stopped back :)

theorem JobEnds.restartJob {r s : State} {l : List Nat} {j : Job} (h : JobEnds r s) :
    JobEnds r (State.restartJob code l s j) := by
  unfold State.restartJob
  split
  · exact ite (h.bump (by decide)).dropJob h
  · exact ite h.dropJob h.endJob

/-- A Class M restart is in progress from its start on; it neither stops the tick nor counts a merge. -/
theorem State.startM_spec (s : State) (code : Nat) (l : List Nat) :
    (s.startM code l).guard.bare = s.restartBegun.guard.bare ∧ (s.startM code l).tick.stopped = s.tick.stopped ∧
    (s.startM code l).rd GRD_MERGE_COUNT = s.rd GRD_MERGE_COUNT := by
  generalize hu : (s.restartBegun.hif.jobs ++ s.restartBegun.hif.live).foldl (State.restartJob code l) s.restartBegun = u
  have ends : JobEnds s.restartBegun u := hu ▸ (JobEnds.refl _).foldl fun _ _ h => h.restartJob
  have kept : ReactionKept s.restartBegun u := hu ▸ (ReactionKept.refl _).foldl fun _ _ h => h.restartJob
  have restarted : s.startM code l = u.restartPath := by rw [← hu]; rfl
  have path := u.restartPath_onlyIn
  rw [restarted]
  refine ⟨Eq.trans (congrArg Guard.bare (path.guard_eq (by decide))) kept, ?_, ?_⟩
  · exact u.restartPath_stopped.trans (congrArg Tick.stopped (ends.parts.tick_eq (by decide)))
  · exact (State.rd_congr (path.regs_eq (by decide)) _ _).trans (ends.rd (by decide))

/-- A fault that acts as Class M within M_LIMIT starts a restart, or takes a milder reaction in progress over. -/
theorem State.react_restarts (eff : effClass cls x = .m) (unitless : x.unit = none) (mild : s.guard.actingNow.num < 3)
    (within : s.overLimit = false) (i : FaultInfo) : ∃ (y : Reaction) (l : List Nat),
    y.first = s.guard.firstOf code ∧ y.acting = .m ∧
    (s.react code cls i x).guard.bare =
      ({ s.guard.withReaction code y with restarting := true, resumeAtEdge := false, mStarts := l } : Guard).bare ∧
    (s.react code cls i x).tick.stopped = s.tick.stopped ∧
    (s.guard.reaction ≠ none → (s.react code cls i x).rd GRD_MERGE_COUNT = bump32 (s.rd GRD_MERGE_COUNT)) := by
  have starts : s.startsM cls x = true := by
    simp only [State.startsM, eff, Bool.and_eq_true, decide_eq_true_eq, true_and]
    intro c; rw [c] at mild; exact absurd mild (by decide)
  have extra : s.extraCode cls x = 0 := by simp [State.extraCode, within, State.lastCores, unitless]
  have carried : s.carriedClass cls x = .m := by
    simp only [State.carriedClass, extra, eff, FClass.max]
    exact if_pos mild
  obtain ⟨u, begins, answer⟩ := s.react_eq code cls i x
  obtain ⟨y, first, acting, kept⟩ := begins.guard
  have acts (v : State) : v.actOn code cls x .m = v := by
    unfold State.actOn
    split
    · rfl
    · rw [unitless]
    · rfl
  rw [carried, starts, if_neg (by decide), if_pos rfl, acts] at answer
  obtain ⟨guard, stopped, merges⟩ := u.startM_spec code x.jobs
  rw [answer]
  refine ⟨y, u.guard.mStarts ++ [u.ktime], first, acting.trans carried, guard.trans ?_, ?_, fun c => ?_⟩
  · exact congrArg (fun g : Guard =>
      { g with restarting := true, resumeAtEdge := false, mStarts := u.guard.mStarts ++ [u.ktime] }) kept
  · exact stopped.trans (congrArg Tick.stopped (begins.parts.tick_eq (by decide)))
  · exact merges.trans (begins.merged c)

/-- A fault that acts as Class M above M_LIMIT acts as Class S, with GRD 0x1105. -/
theorem State.overLimit_carried (eff : effClass cls x = .m) (mild : s.guard.actingNow ≠ .m) (above : s.overLimit = true) :
    s.extraCode cls x = 0x1105 ∧ s.carriedClass cls x = .s := by
  have extra : s.extraCode cls x = 0x1105 := by simp [State.extraCode, State.startsM, eff, mild, above]
  exact ⟨extra, by simp [State.carriedClass, extra]⟩

/-- A Class S fault acts as Class S, whatever reaction is in progress. -/
theorem State.classS_carried (s : State) (x : Targets) : s.carriedClass .s x = .s := by
  unfold State.carriedClass
  split
  · exact FClass.max_s _
  · rfl

/-! What raising a fault comes to. -/

/-- A fault of Class C, E, M or S that finds its target, outside SAFE and outside the modes that defer it, is carried out. -/
theorem State.raise_reacts (hc : faultClass code = some cls) (above : cls ≠ .i) (safe : s.guard.safe = false)
    (finds : s.idleFault cls x = false) (awake : s.lowPower = false ∨ cls = .s) (i : FaultInfo) :
    ∃ j, s.raise code i x = (s.setStatus code).react code cls j x := by
  have taken : ¬ ((s.setStatus code).lowPower = true ∧ (effClass cls x = .c ∨ effClass cls x = .m)) := by
    rintro ⟨low, acts⟩
    rcases awake with awake | rfl
    · exact absurd (awake.symm.trans low) (by decide)
    · exact acts.elim (fun c => nomatch c) fun c => nomatch c
  have finds' : (s.setStatus code).idleFault cls x = false := finds
  have safe' : (s.setStatus code).guard.safe = false := safe
  unfold State.raise
  rw [hc]
  dsimp only
  generalize (if i.channel = 0xFF then { i with channel := x.chans.headD 0xFF } else i) = j
  rw [if_neg above, if_neg (by simp [safe']), if_neg (by simp [finds']), if_neg taken]
  exact ⟨j, rfl⟩

/-- A Class I fault, and any fault in SAFE, starts no reaction. -/
theorem State.raise_noted (hc : faultClass code = some cls) (h : cls = .i ∨ s.guard.safe = true) (i : FaultInfo)
    (x : Targets) :
    ReactionKept s (s.raise code i x) ∧ OnlyIn [.regs, .hif, .log, .guard] s (s.raise code i x) := by
  have logged (a b : FClass) (j : FaultInfo) : ReactionKept s ((s.setStatus code).logFault code a b j) ∧
      OnlyIn [.regs, .hif, .log, .guard] s ((s.setStatus code).logFault code a b j) :=
    ⟨(ReactionKept.refl s).setStatus.logFault (s := s.setStatus code),
      ((s.setStatus_onlyIn code).mono (by decide)).step (State.logFault_onlyIn _ _ _ _ _) (by decide)⟩
  unfold State.raise
  rw [hc]
  dsimp only
  generalize (if i.channel = 0xFF then { i with channel := x.chans.headD 0xFF } else i) = j
  split
  · exact logged _ _ _
  · next above =>
    have stopped : (s.setStatus code).guard.safe = true := h.resolve_left above
    rw [if_pos stopped]
    obtain ⟨kept, only⟩ := logged cls .i j
    split
    · exact ⟨kept.present, only.step (State.present_onlyIn _ _ _) (by decide)⟩
    · exact ⟨kept, only⟩

/-- A fault that acts as Class M waits for the exit from a low-power mode. -/
theorem State.raise_waits (hc : faultClass code = some .m) (safe : s.guard.safe = false) (low : s.lowPower = true)
    (i : FaultInfo) : ∃ w : Nat × List Nat × Nat, (s.raise code i x).guard.bare =
      ({ s.guard with waiting := s.guard.waiting ++ [(code, w)] } : Guard).bare := by
  have taken : (s.setStatus code).lowPower = true ∧ (effClass .m x = .c ∨ effClass .m x = .m) := ⟨low, .inr rfl⟩
  have safe' : (s.setStatus code).guard.safe = false := safe
  have logged (j : FaultInfo) :
      ReactionKept s (((s.setStatus code).logFault code .m (effClass .m x) j).present code j.source) :=
    ((ReactionKept.refl s).setStatus.logFault (s := s.setStatus code)).present
  unfold State.raise
  rw [hc]
  dsimp only
  generalize (if i.channel = 0xFF then { i with channel := x.chans.headD 0xFF } else i) = j
  rw [if_neg (by decide), if_neg (by simp [safe']), if_neg (by simp [State.idleFault]), if_pos taken]
  refine ⟨(j.source, x.chans, (s.setStatus code).log.wr), ?_⟩
  exact (congrArg (fun g : Guard => { g with waiting := g.waiting ++ [(code, j.source, x.chans, (s.setStatus code).log.wr)] })
    (logged j) :)

end Sys2Proof.Machine
end

section
namespace Sys2Proof.Machine

/-! What a report changes in its block before and after the fault is raised (R235, R311, R317, R495). -/

variable {r s t : State}

/-- From `r` to `s` a block has noted what its report says: the Guard, its registers and the mode stand, and the tick runs as
it did. -/
structure BlockNotes (r s : State) : Prop where
  parts : OnlyIn [.regs, .tick, .hif, .flows, .displays, .mem, .bpm, .log, .power, .clk] r s
  regs : ∀ (e : Word) (k : Nat), 0xB0000 ≤ k → k < 0xB8000 → tget e s.regs k = tget e r.regs k
  mode : s.power.mode = r.power.mode
  trans : s.power.trans = r.power.trans
  stopped : s.tick.stopped = r.tick.stopped

namespace BlockNotes

theorem refl (s : State) : BlockNotes s s := ⟨.refl _ s, fun _ _ _ _ => rfl, rfl, rfl, rfl⟩

theorem ite {c : Prop} [Decidable c] (h : BlockNotes r s) (k : BlockNotes r t) : BlockNotes r (if c then s else t) := by
  split <;> assumption

/-- A change beside the registers, the power and the tick. -/
theorem keep {ps : List Part} (h : BlockNotes r s) (k : OnlyIn ps s t)
    (hp : ∀ p ∈ ps, p ∈ [Part.hif, .flows, .displays, .mem, .bpm, .log, .clk]) : BlockNotes r t := by
  have regs : Part.regs ∉ ps := fun c => absurd (hp _ c) (by decide)
  have power : Part.power ∉ ps := fun c => absurd (hp _ c) (by decide)
  have tick : Part.tick ∉ ps := fun c => absurd (hp _ c) (by decide)
  have within : ∀ p ∈ [Part.hif, .flows, .displays, .mem, .bpm, .log, .clk],
    p ∈ [Part.regs, .tick, .hif, .flows, .displays, .mem, .bpm, .log, .power, .clk] := by decide
  refine ⟨h.parts.step k fun p c => within p (hp p c), fun e i lo hi => ?_, ?_, ?_, ?_⟩
  · rw [k.regs_eq regs]; exact h.regs e i lo hi
  · rw [k.power_eq power]; exact h.mode
  · rw [k.power_eq power]; exact h.trans
  · rw [k.tick_eq tick]; exact h.stopped

/-- A register of another block. -/
theorem wr {d : RegDef} {i v : Nat} (h : BlockNotes r s) (out : d.at i < 0xB0000 ∨ 0xB8000 ≤ d.at i) :
    BlockNotes r (s.wr d i 0 v) where
  parts := h.parts.step (s.wr_onlyIn d i 0 v) (by decide)
  regs e k lo hi := (s.wr_other d i 0 v e k (by omega)).trans (h.regs e k lo hi)
  mode := h.mode
  trans := h.trans
  stopped := h.stopped

theorem bump {d : RegDef} {i : Nat} (h : BlockNotes r s) (out : d.at i < 0xB0000 ∨ 0xB8000 ≤ d.at i) :
    BlockNotes r (s.bump d i) := h.wr out

theorem log {l : Log} (h : BlockNotes r s) : BlockNotes r { s with log := l } :=
  h.keep (ps := [.log]) ((OnlyIn.refl _ s).log (by decide)) (by decide)

theorem addLog {e : LogEntry} (h : BlockNotes r s) : BlockNotes r (s.addLog e) := by
  unfold State.addLog
  exact ite (ite h.log (h.log.bump (by decide))) h

theorem event {c n : Nat} {l : List Nat} (h : BlockNotes r s) : BlockNotes r (s.event c n l) :=
  keep (ps := [.hif]) (h.addLog.ite h) ((OnlyIn.refl _ _).hif (by decide)) (by decide)

theorem refreshFlow {f lost : Nat} (h : BlockNotes r s) : BlockNotes r (s.refreshFlow f lost) := by
  unfold State.refreshFlow
  exact ite (h.event.keep (ps := [.flows]) ((OnlyIn.refl _ _).flows (by decide)) (by decide)) h

theorem dramUe {a : Nat} (h : BlockNotes r s) : BlockNotes r (s.dramUe a) :=
  ((h.wr (by decide)).wr (by decide)).bump (by decide)

theorem panelRestart {d : Nat} (h : BlockNotes r s) : BlockNotes r (s.panelRestart d) :=
  h.ite ((h.keep (s.panelDown_onlyIn d) (by decide)).keep (State.modDisp_onlyIn _ d _) (by decide))

theorem dramParks (h : BlockNotes r s) : BlockNotes r s.dramParks :=
  h.keep (ps := [.mem]) ((OnlyIn.refl _ s).mem (by decide)) (by decide)

theorem loseSynth {i : Nat} (h : BlockNotes r s) : BlockNotes r (s.loseSynth i) :=
  (h.keep (s.setSynth_onlyIn i _) (by decide)).bump (.inr (Nat.le_trans (by decide) (CLK_UNLOCK_COUNT.le_at i 0)))

/-- A unit of access whose packets were lost is dropped with its cells (TRF 0x0702). -/
theorem unitLost {f : Nat} {u : OpenAu} (hf : f < 32) (h : BlockNotes r s) : BlockNotes r (s.unitLost f u) :=
  have freed := (h.keep (s.returnCells_onlyIn u.cells) (by decide)).keep (State.setFlow_onlyIn _ f _) (by decide)
  (freed.bump (d := TRF_POOL_DROP_COUNT) (i := f) (.inl (by simp only [RegDef.at, TRF_POOL_DROP_COUNT]; omega))).refreshFlow

theorem abandonCompose {d : Nat} (h : BlockNotes r s) : BlockNotes r (s.abandonCompose d) := by
  have gone (l : List Nat) : BlockNotes r { s with tick := { s.tick with composing := l } } :=
    { h with parts := h.parts.tick (by decide) }
  unfold State.abandonCompose State.composeNext
  refine ite ?_ h
  split
  · exact gone _
  · exact ite ((gone _).keep (State.modDisp_onlyIn _ _ _) (by decide)) (gone _)

theorem keeperUe {a : Nat} (h : BlockNotes r s) : BlockNotes r (s.keeperUe a) :=
  ite h.log { h with parts := h.parts.power (by decide) }

theorem breakComb {c : Nat} (h : BlockNotes r s) : BlockNotes r (s.breakComb c) :=
  h.keep (ps := [.bpm]) (fun p => by cases p <;> first | exact .inr rfl | exact .inl (by decide)) (by decide)

end BlockNotes

/-- A report changes counters, addresses and what stops working in its block. -/
theorem State.beforeFault_notes (s : State) (code u a : Nat) : BlockNotes s (s.beforeFault code u a) := by
  have h := BlockNotes.refl s
  unfold State.beforeFault
  refine .ite ?_ (.ite h.dramUe (.ite ?_ (.ite (h.bump (by decide)) (.ite (h.bump (by decide)) (.ite h.dramUe.abandonCompose
    (.ite ?_ (.ite (.ite h.panelRestart h) (.ite (h.bump (by decide)) (.ite (h.bump (by decide)) (.ite h.breakComb
    (.ite (h.bump (by decide)) (.ite (h.bump (by decide)) (.ite h.keeperUe (.ite (.ite h.loseSynth h)
    (.ite h.loseSynth.dramParks (.ite ?_ (.ite (.ite h.panelRestart h) h)))))))))))))))))
  case refine_1 =>
    split
    · split
      · exact h
      · exact h.unitLost (by omega)
    · exact h
  case refine_2 => exact (h.wr (by decide)).bump (by decide)
  case refine_3 =>
    split
    · exact h.bump (.inl (by simp only [RegDef.at, DSP_UNDERRUN_COUNT]; omega))
    · exact h
  case refine_4 =>
    exact (h.keep (ps := [.clk]) ((OnlyIn.refl _ s).clk (by decide)) (by decide)).dramParks

/-! What the report changes leaves of what the fault is judged by. -/

namespace BlockNotes

theorem guard (h : BlockNotes r s) : s.guard = r.guard := h.parts.guard_eq (by decide)

theorem rd (h : BlockNotes r s) {d : RegDef} {i : Nat} (lo : 0xB0000 ≤ d.at i) (hi : d.at i < 0xB8000) :
    s.rd d i = r.rd d i :=
  congrArg BitVec.toNat (h.regs _ _ lo hi)

theorem lowPower (h : BlockNotes r s) : s.lowPower = r.lowPower := by
  unfold State.lowPower
  rw [h.mode, h.trans]

theorem overLimit (h : BlockNotes r s) : s.overLimit = r.overLimit := by
  have now : s.ktime = r.ktime := by rw [State.ktime, h.parts.clock_eq (by decide), State.ktime]
  have limit (hi lo : Nat) : s.fld GRD_CTL hi lo = r.fld GRD_CTL hi lo := by
    rw [State.fld, h.rd (by decide) (by decide), State.fld]
  unfold State.overLimit
  rw [now, limit, limit, h.guard]

theorem isFenced (h : BlockNotes r s) (k : UnitKind) (n : Nat) : s.isFenced k n = r.isFenced k n := by
  rw [State.isFenced, h.guard, State.isFenced]

theorem lastCores (h : BlockNotes r s) (x : Targets) : s.lastCores x = r.lastCores x := by
  unfold State.lastCores State.healthyOf
  simp only [h.isFenced]

theorem extraCode (h : BlockNotes r s) (cls : FClass) (x : Targets) : s.extraCode cls x = r.extraCode cls x := by
  unfold State.extraCode State.startsM
  rw [h.guard, h.overLimit, h.lastCores]

theorem carriedClass (h : BlockNotes r s) (cls : FClass) (x : Targets) : s.carriedClass cls x = r.carriedClass cls x := by
  unfold State.carriedClass
  rw [h.extraCode, h.guard]

end BlockNotes

/-- What a report changes in its block after the fault is raised. -/
def State.afterFault (s : State) (code unit : Nat) : State :=
  if code = 0x0503 then (if code = 0x0604 then s.present code unit else s).usbReset
  else if code = 0x0604 then s.present code unit else s

theorem State.afterFault_other (s : State) {code : Nat} (unit : Nat) (usb : code ≠ 0x0503) (eth : code ≠ 0x0604) :
    s.afterFault code unit = s := by rw [State.afterFault, if_neg usb, if_neg eth]

theorem State.usbReset_onlyIn (s : State) : OnlyIn [.regs, .hif, .chans, .partners, .log, .usb] s s.usbReset := by
  refine ((s.departAll_onlyIn [0x20, 0x21, 0x22]).mono (by decide)).trans ?_
  unfold State.usbReset
  intro p; cases p <;> first | exact .inr rfl | exact .inl (by decide)

/-- It touches neither the Guard, but for a cause that is present, nor the modes, the tick and the field outputs. -/
theorem State.afterFault_spec (s : State) (code unit : Nat) :
    OnlyIn [.regs, .hif, .chans, .partners, .log, .usb, .guard] s (s.afterFault code unit) ∧
    ReactionKept s (s.afterFault code unit) ∧ (s.afterFault code unit).guard.status = s.guard.status := by
  have shown : OnlyIn [.guard] s (if code = 0x0604 then s.present code unit else s) ∧
      ReactionKept s (if code = 0x0604 then s.present code unit else s) ∧
      (if code = 0x0604 then s.present code unit else s).guard.status = s.guard.status := by
    split
    · exact ⟨s.present_onlyIn _ _, .refl s, rfl⟩
    · exact ⟨.refl _ s, .refl s, rfl⟩
  obtain ⟨only, kept, status⟩ := shown
  unfold State.afterFault
  split
  · have reset := State.usbReset_onlyIn (if code = 0x0604 then s.present code unit else s)
    exact ⟨(only.mono (by decide)).step reset (by decide), kept.keep reset (by decide),
      (congrArg Guard.status (reset.guard_eq (by decide))).trans status⟩
  · exact ⟨only.mono (by decide), kept, status⟩

end Sys2Proof.Machine
end

section
namespace Sys2Proof.Machine

/-! A good cause byte, by the class of its code (R396 to R402, R428). -/

variable {s t : State} {r : Report} {code : Nat} {cls : FClass} {k : UnitKind} {n : Nat}

/-- What a fault acts on, by the class of its code. -/
def State.causeTargets (s : State) (r : Report) (code : Nat) : Targets where
  unit := if faultClass code = some .e then reportUnit r code else none
  chans := if faultClass code = some .c then s.namedChans code r.unit r.channels else []
  jobs := s.unitJobs (if faultClass code = some .e then reportUnit r code else none) r.jobs

/-- A fault is raised on its targets once the block has noted the report, and the block acts after it. -/
theorem State.takeCause_eq (s : State) (r : Report) (code : Nat) : ∃ (u : State) (i : FaultInfo), BlockNotes s u ∧
    s.takeCause r code = (u.raise code i (s.causeTargets r code)).afterFault code r.unit :=
  ⟨_, _, s.beforeFault_notes code r.unit r.addr, rfl⟩

theorem State.causeTargets_unit (hc : faultClass code = some cls) (h : cls ≠ .e) : (s.causeTargets r code).unit = none :=
  if_neg (by rw [hc]; exact fun c => h (Option.some.inj c))

/-- The bit of the code is set, whatever its class. -/
theorem State.takeCause_sets (s : State) (r : Report) (h : isFault code = true) :
    bitAt ((s.takeCause r code).fstat (code / 256)) (code % 256 - 1) = true := by
  obtain ⟨u, i, -, answer⟩ := s.takeCause_eq r code
  obtain ⟨-, -, status⟩ := (u.raise code i (s.causeTargets r code)).afterFault_spec code r.unit
  rw [answer, State.fstat, status]
  exact u.raise_sets h i _

/-- Class I, and any class in SAFE: nothing is started. -/
theorem State.takeCause_noted (hc : faultClass code = some cls) (h : cls = .i ∨ s.guard.safe = true) :
    ReactionKept s (s.takeCause r code) ∧ (s.takeCause r code).power.mode = s.power.mode := by
  obtain ⟨u, i, notes, answer⟩ := s.takeCause_eq r code
  obtain ⟨after, rest, -⟩ := (u.raise code i (s.causeTargets r code)).afterFault_spec code r.unit
  obtain ⟨kept, only⟩ := State.raise_noted hc (by rwa [notes.guard]) i (s.causeTargets r code)
  rw [answer]
  refine ⟨Eq.trans rest (Eq.trans kept (congrArg Guard.bare notes.guard)), ?_⟩
  rw [after.power_eq (by decide), only.power_eq (by decide), notes.mode]

/-- A fault that is carried out: its reaction is that of a state whose block has noted the report and whose bit is set. -/
theorem State.takeCause_reacts (hc : faultClass code = some cls) (above : cls ≠ .i) (safe : s.guard.safe = false)
    (finds : s.idleFault cls (s.causeTargets r code) = false) (awake : s.lowPower = false ∨ cls = .s) :
    ∃ (u : State) (j : FaultInfo), BlockNotes s u ∧
      s.takeCause r code = ((u.setStatus code).react code cls j (s.causeTargets r code)).afterFault code r.unit := by
  obtain ⟨u, i, notes, answer⟩ := s.takeCause_eq r code
  have finds' : u.idleFault cls (s.causeTargets r code) = false := by
    rw [← finds]
    unfold State.idleFault
    simp only [notes.isFenced]
  obtain ⟨j, raised⟩ := State.raise_reacts hc above (by rwa [notes.guard]) finds' (awake.imp_left notes.lowPower.trans) i
  exact ⟨u, j, notes, by rw [answer, raised]⟩

/-- Class C: the fault begins a reaction on the channels that it names. -/
theorem State.takeCause_channels (hc : faultClass code = some .c) (idle : s.guard.reaction = none)
    (safe : s.guard.safe = false) (awake : s.lowPower = false) (named : s.namedChans code r.unit r.channels ≠ []) :
    ∃ y : Reaction, y.first = code ∧ y.acting = .c ∧
      (s.takeCause r code).guard.bare = (s.guard.withReaction code y).bare := by
  have finds : s.idleFault .c (s.causeTargets r code) = false := by
    simp [State.idleFault, State.causeTargets, hc, named]
  obtain ⟨u, j, notes, answer⟩ := State.takeCause_reacts hc (by decide) safe finds (.inl awake)
  obtain ⟨y, first, acting, kept⟩ := State.react_channels (s := u.setStatus code) (code := code)
    (x := s.causeTargets r code) ((congrArg Guard.reaction notes.guard).trans idle)
    (State.causeTargets_unit hc (by decide)) j
  refine ⟨y, first, acting, ?_⟩
  rw [answer, ← notes.guard]
  exact Eq.trans (State.afterFault_spec _ code r.unit).2.1 kept

/-- Class E: the fault begins a reaction that fences its unit, the last two cores apart. -/
theorem State.takeCause_unit (hc : faultClass code = some .e) (idle : s.guard.reaction = none)
    (safe : s.guard.safe = false) (awake : s.lowPower = false) (unit : reportUnit r code = some (k, n))
    (healthy : s.isFenced k n = false) (left : k = .core → 2 < s.healthyOf .core) :
    ∃ y : Reaction, y.first = code ∧ y.acting = .e ∧ (s.takeCause r code).guard.bare =
      ({ s.guard.withReaction code y with fenced := s.guard.fenced ++ [(k, n, code)] } : Guard).bare := by
  have target : (s.causeTargets r code).unit = some (k, n) := (if_pos hc).trans unit
  have finds : s.idleFault .e (s.causeTargets r code) = false := by simp [State.idleFault, target, healthy]
  have spared : s.lastCores (s.causeTargets r code) = false := s.lastCores_of_left target left
  obtain ⟨u, j, notes, answer⟩ := State.takeCause_reacts hc (by decide) safe finds (.inl awake)
  obtain ⟨y, first, acting, kept⟩ := State.react_unit (s := u.setStatus code) (code := code)
    (x := s.causeTargets r code) ((congrArg Guard.reaction notes.guard).trans idle) target
    ((notes.isFenced k n).trans healthy) ((notes.lastCores _).trans spared) j
  refine ⟨y, first, acting, ?_⟩
  rw [answer, ← notes.guard]
  exact Eq.trans (State.afterFault_spec _ code r.unit).2.1 kept

/-- A fault that acts as Class S stops the module in SAFE, with the bit of the Guard's own code that brings it about. -/
theorem State.takeCause_stops (hc : faultClass code = some cls) (above : cls ≠ .i) (safe : s.guard.safe = false)
    (finds : s.idleFault cls (s.causeTargets r code) = false) (awake : s.lowPower = false ∨ cls = .s)
    (carried : s.carriedClass cls (s.causeTargets r code) = .s) {extra : Nat}
    (own : s.extraCode cls (s.causeTargets r code) = extra) :
    StopsIn s (s.takeCause r code) ∧
      (extra ≠ 0 → bitAt ((s.takeCause r code).fstat (extra / 256)) (extra % 256 - 1) = true) := by
  obtain ⟨u, j, notes, answer⟩ := State.takeCause_reacts hc above safe finds awake
  obtain ⟨stops, sets⟩ := State.react_stops (s := u.setStatus code) (code := code) (x := s.causeTargets r code) (cls := cls)
    ((congrArg Guard.safe notes.guard).trans safe) ((notes.carriedClass _ _).trans carried) j
  have same : (u.setStatus code).extraCode cls (s.causeTargets r code) = extra := (notes.extraCode _ _).trans own
  rw [same] at sets
  generalize (u.setStatus code).react code cls j (s.causeTargets r code) = v at stops sets answer
  obtain ⟨after, rest, status⟩ := v.afterFault_spec code r.unit
  rw [answer]
  refine ⟨⟨?_, ?_, ?_, ?_, ?_⟩, fun c => ?_⟩
  · exact (congrArg Guard.safe rest :).trans stops.safe
  · rw [after.power_eq (by decide)]; exact stops.mode
  · rw [after.tick_eq (by decide)]; exact stops.tick
  · rw [(after .fio).resolve_left (by decide)]; exact stops.levels
  · exact ((congrArg Guard.asserted rest :).trans stops.asserted).trans (congrArg Guard.asserted notes.guard :)
  · rw [State.fstat, status]; exact sets c

/-- Class M within M_LIMIT: the fault starts a restart, or takes a milder reaction in progress over. -/
theorem State.takeCause_restarts (hc : faultClass code = some .m) (mild : s.guard.actingNow.num < 3)
    (safe : s.guard.safe = false) (awake : s.lowPower = false) (within : s.overLimit = false) :
    ∃ (y : Reaction) (l : List Nat), y.first = s.guard.firstOf code ∧ y.acting = .m ∧
    (s.takeCause r code).guard.bare =
      ({ s.guard.withReaction code y with restarting := true, resumeAtEdge := false, mStarts := l } : Guard).bare ∧
    (s.takeCause r code).tick.stopped = s.tick.stopped ∧
    (s.guard.reaction ≠ none → (s.takeCause r code).rd GRD_MERGE_COUNT = bump32 (s.rd GRD_MERGE_COUNT)) := by
  obtain ⟨u, j, notes, answer⟩ := State.takeCause_reacts hc (by decide) safe rfl (.inl awake)
  have acting : (u.setStatus code).guard.actingNow = s.guard.actingNow := (congrArg Guard.actingNow notes.guard :)
  have firstOf : (u.setStatus code).guard.firstOf code = s.guard.firstOf code := (congrArg (·.firstOf code) notes.guard :)
  have other : ∀ c, faultClass c ≠ some .m → code ≠ c := fun c h e => h (e ▸ hc)
  rw [State.afterFault_other _ r.unit (other _ (by decide)) (other _ (by decide))] at answer
  obtain ⟨y, l, first, carried, kept, stopped, merges⟩ := State.react_restarts (s := u.setStatus code) (code := code)
    (x := s.causeTargets r code) (cls := .m) rfl (State.causeTargets_unit hc (by decide))
    (by rw [acting]; exact mild) (notes.overLimit.trans within) j
  have counted : (u.setStatus code).rd GRD_MERGE_COUNT = s.rd GRD_MERGE_COUNT := notes.rd (by decide) (by decide)
  have reaction : (u.setStatus code).guard.reaction = s.guard.reaction := (congrArg Guard.reaction notes.guard :)
  rw [counted, reaction] at merges
  rw [answer]
  refine ⟨y, l, first.trans firstOf, carried, ?_,
    stopped.trans notes.stopped, merges⟩
  rw [← notes.guard]
  exact kept

/-- Class M in a low-power mode waits for the exit. -/
theorem State.takeCause_waits (hc : faultClass code = some .m) (safe : s.guard.safe = false) (low : s.lowPower = true) :
    ∃ w : Nat × List Nat × Nat, (s.takeCause r code).guard.bare =
      ({ s.guard with waiting := s.guard.waiting ++ [(code, w)] } : Guard).bare := by
  obtain ⟨u, i, notes, answer⟩ := s.takeCause_eq r code
  obtain ⟨w, waits⟩ := State.raise_waits (x := s.causeTargets r code) hc (by rwa [notes.guard]) (notes.lowPower.trans low) i
  rw [notes.guard] at waits
  exact ⟨w, by rw [answer]; exact Eq.trans (State.afterFault_spec _ code r.unit).2.1 waits⟩

/-! A pair that cannot be believed (R392): GRD 0x1102, on the unit that it reports for. -/

/-- What GRD 0x1102 acts on. -/
def State.wireTargets (s : State) (r : Report) : Targets :=
  { unit := reportUnit r 0x1102, jobs := s.unitJobs (reportUnit r 0x1102) r.jobs }

theorem State.wireFault_reacts (safe : s.guard.safe = false) (awake : s.lowPower = false)
    (finds : s.idleFault .e (s.wireTargets r) = false) (parity : Bool) :
    ∃ j, s.wireFault r parity = (s.setStatus 0x1102).react 0x1102 .e j (s.wireTargets r) :=
  State.raise_reacts (code := 0x1102) (by decide) (by decide) safe finds (.inl awake)
    { source := r.block, addr := r.unit + (if parity then 256 else 0) }

/-- The report of a fenceable unit, of which enough are left, fences it. -/
theorem State.wireFault_unit (idle : s.guard.reaction = none) (safe : s.guard.safe = false) (awake : s.lowPower = false)
    (unit : reportUnit r 0x1102 = some (k, n)) (other : k ≠ .core) (healthy : s.isFenced k n = false) (parity : Bool) :
    ∃ y : Reaction, (s.wireFault r parity).guard.bare =
      ({ s.guard.withReaction 0x1102 y with fenced := s.guard.fenced ++ [(k, n, 0x1102)] } : Guard).bare := by
  have target : (s.wireTargets r).unit = some (k, n) := unit
  have finds : s.idleFault .e (s.wireTargets r) = false := by simp [State.idleFault, target, healthy]
  obtain ⟨j, raised⟩ := State.wireFault_reacts safe awake finds parity
  obtain ⟨y, -, -, kept⟩ := State.react_unit (s := s.setStatus 0x1102) (code := 0x1102) idle target healthy
    (State.lastCores_of_left target fun c => absurd c other) j
  exact ⟨y, by rw [raised]; exact kept⟩

/-- The report of a source that is not fenceable restarts the data path. -/
theorem State.wireFault_restarts (idle : s.guard.reaction = none) (safe : s.guard.safe = false) (awake : s.lowPower = false)
    (within : s.overLimit = false) (unit : reportUnit r 0x1102 = none) (parity : Bool) :
    ∃ (y : Reaction) (l : List Nat), (s.wireFault r parity).guard.bare =
      ({ s.guard.withReaction 0x1102 y with restarting := true, resumeAtEdge := false, mStarts := l } : Guard).bare := by
  have target : (s.wireTargets r).unit = none := unit
  have finds : s.idleFault .e (s.wireTargets r) = false := by simp [State.idleFault, target]
  have eff : effClass .e (s.wireTargets r) = .m := by simp [effClass, target]
  have mild : s.guard.actingNow.num < 3 := by simp [Guard.actingNow, idle, FClass.num]
  obtain ⟨j, raised⟩ := State.wireFault_reacts safe awake finds parity
  obtain ⟨y, l, -, -, kept, -⟩ := State.react_restarts (s := s.setStatus 0x1102) (code := 0x1102) eff target mild within j
  exact ⟨y, l, by rw [raised]; exact kept⟩

end Sys2Proof.Machine
end

section
namespace Sys2Proof.Machine

/-! The Guard takes what the pairs of a cycle show (R391, R392, R394). -/

variable {s t : State} {r q : Report} {cause : Nat} {parity : Bool}

theorem exec_faultReport_one (r : Report) (s : State) : exec (.faultReport ⟨r, []⟩) s = .next (s.takeReport r).settle := rfl

/-- Two reports of one cycle are taken in the order of their codes, whichever comes first. -/
theorem exec_faultReport_two (h : reportCode r < reportCode q) (s : State) :
    exec (.faultReport ⟨q, [r]⟩) s = .next ((s.takeReport r).takeReport q).settle ∧
    exec (.faultReport ⟨r, [q]⟩) s = .next ((s.takeReport r).takeReport q).settle := by
  have cycle (a b : Report) (sorted : sortBy (fun a b : Report => decide (reportCode a ≤ reportCode b)) [a, b] =
      [r, q]) : exec (.faultReport ⟨a, [b]⟩) s = .next ((s.takeReport r).takeReport q).settle :=
    congrArg (fun l : List Report => done (l.foldl State.takeReport s)) sorted
  refine ⟨cycle q r ?_, cycle r q ?_⟩
  · simp [sortBy, insertBy, Nat.not_le.mpr h]
  · simp [sortBy, insertBy, Nat.le_of_lt h]

/-- A report that its source cannot make, or that the Guard cannot take, is none. -/
theorem State.takeReport_of_not (h : reportReal r = false ∨ s.guardRuns r.block = false) : s.takeReport r = s := by
  refine if_neg fun c => ?_
  simp only [Bool.and_eq_true] at c
  rcases h with h | h
  · exact absurd (h.symm.trans c.1.1) (by decide)
  · exact absurd (h.symm.trans c.1.2) (by decide)

section
variable (real : reportReal r = true) (runs : s.guardRuns r.block = true)
include real runs

theorem State.takeReport_sample (h : ∀ c, r.pair ≠ .asserted c true) : s.takeReport r = s.sample r := by
  unfold State.takeReport
  split
  · next c e => exact absurd e (h c)
  · simp [real, runs]

/-- A good cause byte is taken unless its code is not presented, or the pair is held already. -/
theorem State.takeReport_cause (pair : r.pair = .asserted cause true) : s.takeReport r =
    if s.notPresented (256 * r.block + cause) r.unit r.addr = true ∨ s.guard.asserted.contains (r.block, r.unit) = true then s
    else (s.holdPair r).takeCause r (256 * r.block + cause) := by
  have code : reportCode r = 256 * r.block + cause := by simp [reportCode, pair]
  have judged : s.takeReport r = if s.notPresented (256 * r.block + cause) r.unit r.addr = true then s else s.sample r := by
    unfold State.takeReport
    simp only [pair, real, runs, code, Bool.true_and]
    cases s.notPresented (256 * r.block + cause) r.unit r.addr
    · rfl
    · rfl
  have sampled : s.sample r = if s.guard.asserted.contains (r.block, r.unit) = true then s
      else (s.holdPair r).takeCause r (256 * r.block + cause) := by rw [State.sample, pair]; rfl
  rw [judged, sampled, ite_or]

end

/-- The codes that no pair presents now, in the words of the model. -/
theorem State.notPresented_iff (s : State) (code unit addr : Nat) : s.notPresented code unit addr = true ↔
    ownCodes.contains code = true ∨ (dramDataCodes.contains code = true ∧ s.mem.iecc = false) ∨
      (code = 0x0805 ∧ s.letsThrough unit addr = true) := by
  simp only [State.notPresented, Bool.or_eq_true, Bool.and_eq_true, Bool.not_eq_true', beq_iff_eq, or_assoc]

/-- The state in which a pair that cannot be believed is found: held, and then wrong. -/
theorem State.takeReport_wire (real : reportReal r = true) (runs : s.guardRuns r.block = true)
    (pair : r.pair = .equalTwice ∨ ∃ c, r.pair = .asserted c false) : ∃ parity, s.takeReport r =
      if s.guard.asserted.contains (r.block, r.unit) = true then s else (s.holdPair r).wireFault r parity := by
  rcases pair with pair | ⟨c, pair⟩
  · refine ⟨false, (State.takeReport_sample real runs (by simp [pair])).trans ?_⟩
    rw [State.sample, pair]
  · refine ⟨true, (State.takeReport_sample real runs (by simp [pair])).trans ?_⟩
    rw [State.sample, pair]
    rfl

/-- A report that is real has a code of the tables. -/
theorem isFault_of_reportReal (real : reportReal r = true) (pair : r.pair = .asserted cause true) :
    isFault (256 * r.block + cause) = true := by
  have code : reportCode r = 256 * r.block + cause := by simp [reportCode, pair]
  simp only [reportReal, Bool.and_eq_true, decide_eq_true_eq] at real
  obtain ⟨⟨⟨⟨-, block⟩, -⟩, fault⟩, -⟩ := real
  rwa [if_neg (by omega), code] at fault

/-! A good report, by the class of its code. -/

/-- From `s` to `t` the report has set the bit of its code, and its pair is held. -/
def Marks (r : Report) (cause : Nat) (s t : State) : Prop :=
  bitAt (t.fstat r.block) (cause - 1) = true ∧ t.guard.asserted = s.guard.asserted ++ [(r.block, r.unit)]

/-- A unit that is added to those fenced is fenced. -/
theorem State.isFenced_of_added {l : List (UnitKind × Nat × Nat)} {k : UnitKind} {n code : Nat}
    (h : t.guard.fenced = l ++ [(k, n, code)]) : t.isFenced k n = true := by simp [State.isFenced, h]

/-- The reaction in progress, by its first code and the class under which it acts. -/
def State.carried (t : State) : Option (Nat × FClass) := t.guard.reaction.map fun y => (y.first, y.acting)

section
variable {code : Nat} (hcode : code = 256 * r.block + cause) (small : cause < 256)
  (taken : s.takeReport r = (s.holdPair r).takeCause r code)

include taken in
theorem gives_taken {P : State → Prop} (h : P ((s.holdPair r).takeCause r code).settle) :
    Gives (.faultReport ⟨r, []⟩) s P :=
  ⟨_, exec_faultReport_one r s, taken ▸ h⟩

include hcode small in
theorem State.takeCause_marks (fault : isFault code = true)
    (asserted : ((s.holdPair r).takeCause r code).guard.asserted = (s.holdPair r).guard.asserted) :
    Marks r cause s ((s.holdPair r).takeCause r code).settle := by
  have sets := (s.holdPair r).takeCause_sets r fault
  rw [show code / 256 = r.block by omega, show code % 256 = cause by omega] at sets
  exact ⟨sets, asserted⟩

include hcode small taken

theorem faultReport_noted (fault : isFault code = true) (h : faultClass code = some .i ∨ s.guard.safe = true) :
    Gives (.faultReport ⟨r, []⟩) s (fun t => Marks r cause s t ∧ t.guard.reaction = s.guard.reaction ∧
      t.guard.fenced = s.guard.fenced ∧ t.guard.safe = s.guard.safe ∧ t.guard.restarting = s.guard.restarting ∧
      t.power.mode = s.power.mode) := by
  obtain ⟨cls, hc⟩ := Option.isSome_iff_exists.mp fault
  obtain ⟨kept, mode⟩ := State.takeCause_noted (s := s.holdPair r) (r := r) hc
    (h.imp_left fun c => Option.some.inj (hc.symm.trans c))
  exact gives_taken taken ⟨State.takeCause_marks hcode small fault (congrArg Guard.asserted kept :),
    (congrArg Guard.reaction kept :), (congrArg Guard.fenced kept :), (congrArg Guard.safe kept :),
    (congrArg Guard.restarting kept :), mode⟩

theorem faultReport_channels (hc : faultClass code = some .c) (idle : s.guard.reaction = none) (safe : s.guard.safe = false)
    (awake : s.lowPower = false) (named : s.namedChans code r.unit r.channels ≠ []) :
    Gives (.faultReport ⟨r, []⟩) s (fun t => Marks r cause s t ∧ t.carried = some (code, .c) ∧
      t.guard.firstCode = code ∧ t.guard.safe = false ∧ t.guard.fenced = s.guard.fenced) := by
  obtain ⟨y, first, acting, kept⟩ := State.takeCause_channels (s := s.holdPair r) hc idle safe awake named
  have reaction : ((s.holdPair r).takeCause r code).guard.reaction = some y := (congrArg Guard.reaction kept :)
  have begun : ((s.holdPair r).guard.withReaction code y).firstCode = code := by
    have none : (s.holdPair r).guard.reaction = none := idle
    rw [Guard.withReaction, none]
  refine gives_taken taken ⟨State.takeCause_marks hcode small (by rw [isFault, hc]; rfl) (congrArg Guard.asserted kept :),
    ?_, (congrArg Guard.firstCode kept :).trans begun, (congrArg Guard.safe kept :).trans safe,
    (congrArg Guard.fenced kept :)⟩
  exact (congrArg (Option.map _) reaction).trans (by rw [Option.map_some, first, acting])

theorem faultReport_unit {k : UnitKind} {n : Nat} (hc : faultClass code = some .e) (idle : s.guard.reaction = none)
    (safe : s.guard.safe = false) (awake : s.lowPower = false) (unit : reportUnit r code = some (k, n))
    (healthy : s.isFenced k n = false) (left : k = .core → 2 < s.healthyOf .core) :
    Gives (.faultReport ⟨r, []⟩) s (fun t => Marks r cause s t ∧ t.isFenced k n = true ∧ t.carried = some (code, .e) ∧
      t.guard.safe = false) := by
  obtain ⟨y, first, acting, kept⟩ := State.takeCause_unit (s := s.holdPair r) hc idle safe awake unit healthy left
  have reaction : ((s.holdPair r).takeCause r code).guard.reaction = some y := (congrArg Guard.reaction kept :)
  refine gives_taken taken ⟨State.takeCause_marks hcode small (by rw [isFault, hc]; rfl) (congrArg Guard.asserted kept :),
    State.isFenced_of_added (congrArg Guard.fenced kept :), ?_, (congrArg Guard.safe kept :).trans safe⟩
  exact (congrArg (Option.map _) reaction).trans (by rw [Option.map_some, first, acting])

theorem faultReport_lastCores {n : Nat} (hc : faultClass code = some .e) (safe : s.guard.safe = false)
    (awake : s.lowPower = false) (unit : reportUnit r code = some (.core, n)) (healthy : s.isFenced .core n = false)
    (left : s.healthyOf .core ≤ 2) :
    Gives (.faultReport ⟨r, []⟩) s (fun t => Marks r cause s t ∧ t.guard.safe = true ∧ t.power.mode = .safe ∧
      bitAt (t.fstat 15) 5 = true) := by
  have target : ((s.holdPair r).causeTargets r code).unit = some (.core, n) := (if_pos hc).trans unit
  have healthy' : (s.holdPair r).isFenced .core n = false := healthy
  have left' : (s.holdPair r).healthyOf .core ≤ 2 := left
  have finds : (s.holdPair r).idleFault .e ((s.holdPair r).causeTargets r code) = false := by
    simp [State.idleFault, target, healthy']
  have last : (s.holdPair r).lastCores ((s.holdPair r).causeTargets r code) = true := by
    simp [State.lastCores, target, healthy', left']
  obtain ⟨own, carried⟩ := State.lastCores_carried target last
  obtain ⟨stops, sets⟩ := State.takeCause_stops (s := s.holdPair r) hc (by decide) safe finds (.inl awake) carried own
  exact gives_taken taken ⟨State.takeCause_marks hcode small (by rw [isFault, hc]; rfl) stops.asserted, stops.safe,
    stops.mode, sets (by decide)⟩

theorem faultReport_restarts (hc : faultClass code = some .m) (idle : s.guard.reaction = none)
    (safe : s.guard.safe = false) (awake : s.lowPower = false) (within : s.overLimit = false) :
    Gives (.faultReport ⟨r, []⟩) s (fun t => Marks r cause s t ∧ t.guard.restarting = true ∧ t.guard.safe = false ∧
      t.tick.stopped = s.tick.stopped ∧ t.carried = some (code, .m)) := by
  have idle' : (s.holdPair r).guard.reaction = none := idle
  have mild : (s.holdPair r).guard.actingNow.num < 3 := by simp [Guard.actingNow, idle', FClass.num]
  obtain ⟨y, l, first, acting, kept, stopped, -⟩ := State.takeCause_restarts (r := r) hc mild safe awake within
  rw [Guard.firstOf, idle'] at first
  have reaction : ((s.holdPair r).takeCause r code).guard.reaction = some y := (congrArg Guard.reaction kept :)
  refine gives_taken taken ⟨State.takeCause_marks hcode small (by rw [isFault, hc]; rfl) (congrArg Guard.asserted kept :),
    (congrArg Guard.restarting kept :), (congrArg Guard.safe kept :).trans safe, stopped, ?_⟩
  exact (congrArg (Option.map _) reaction).trans (by rw [Option.map_some, first, acting])

theorem faultReport_overLimit (hc : faultClass code = some .m) (idle : s.guard.reaction = none)
    (safe : s.guard.safe = false) (awake : s.lowPower = false) (above : s.overLimit = true) :
    Gives (.faultReport ⟨r, []⟩) s (fun t => Marks r cause s t ∧ t.guard.safe = true ∧ t.power.mode = .safe ∧
      bitAt (t.fstat 17) 4 = true) := by
  have idle' : (s.holdPair r).guard.reaction = none := idle
  have mild : (s.holdPair r).guard.actingNow ≠ .m := by simp [Guard.actingNow, idle']
  obtain ⟨own, carried⟩ := State.overLimit_carried (cls := .m) (x := (s.holdPair r).causeTargets r code) rfl mild above
  obtain ⟨stops, sets⟩ := State.takeCause_stops (s := s.holdPair r) hc (by decide) safe rfl (.inl awake) carried own
  exact gives_taken taken ⟨State.takeCause_marks hcode small (by rw [isFault, hc]; rfl) stops.asserted, stops.safe,
    stops.mode, sets (by decide)⟩

theorem faultReport_waits (hc : faultClass code = some .m) (safe : s.guard.safe = false) (low : s.lowPower = true) :
    Gives (.faultReport ⟨r, []⟩) s (fun t => Marks r cause s t ∧ t.guard.reaction = s.guard.reaction ∧
      t.guard.restarting = s.guard.restarting ∧
      t.guard.waiting.map (·.1) = s.guard.waiting.map (·.1) ++ [code]) := by
  obtain ⟨w, kept⟩ := State.takeCause_waits (s := s.holdPair r) (r := r) hc safe low
  refine gives_taken taken ⟨State.takeCause_marks hcode small (by rw [isFault, hc]; rfl) (congrArg Guard.asserted kept :),
    (congrArg Guard.reaction kept :), (congrArg Guard.restarting kept :), ?_⟩
  exact (congrArg (List.map (·.1)) (congrArg Guard.waiting kept :)).trans List.map_append

theorem faultReport_takesOver {y : Reaction} (hc : faultClass code = some .m) (reaction : s.guard.reaction = some y)
    (mild : y.acting = .c ∨ y.acting = .e) (safe : s.guard.safe = false) (awake : s.lowPower = false)
    (within : s.overLimit = false) :
    Gives (.faultReport ⟨r, []⟩) s (fun t => Marks r cause s t ∧ t.guard.restarting = true ∧
      t.carried = some (y.first, .m) ∧ t.rd GRD_MERGE_COUNT = bump32 (s.rd GRD_MERGE_COUNT)) := by
  have running : (s.holdPair r).guard.reaction = some y := reaction
  have below : (s.holdPair r).guard.actingNow.num < 3 := by
    rcases mild with mild | mild
    · simp [Guard.actingNow, running, mild, FClass.num]
    · simp [Guard.actingNow, running, mild, FClass.num]
  obtain ⟨z, l, first, acting, kept, -, merges⟩ := State.takeCause_restarts (r := r) hc below safe awake within
  rw [Guard.firstOf, running] at first
  have now : ((s.holdPair r).takeCause r code).guard.reaction = some z := (congrArg Guard.reaction kept :)
  refine gives_taken taken ⟨State.takeCause_marks hcode small (by rw [isFault, hc]; rfl) (congrArg Guard.asserted kept :),
    (congrArg Guard.restarting kept :), ?_, merges (by simp [running])⟩
  exact (congrArg (Option.map _) now).trans (by rw [Option.map_some, first, acting])

theorem faultReport_stops (hc : faultClass code = some .s) (safe : s.guard.safe = false) :
    Gives (.faultReport ⟨r, []⟩) s (fun t => Marks r cause s t ∧ t.guard.safe = true ∧ t.power.mode = .safe ∧
      t.tick.stopped = true ∧ t.fio.safeLevels = true) := by
  obtain ⟨stops, -⟩ := State.takeCause_stops (s := s.holdPair r) (r := r) hc (by decide) safe rfl (.inr rfl)
    (State.classS_carried _ _) rfl
  exact gives_taken taken ⟨State.takeCause_marks hcode small (by rw [isFault, hc]; rfl) stops.asserted, stops.safe,
    stops.mode, stops.tick, stops.levels⟩

end

/-! The other pairs (R391, R392). -/

theorem faultReport_glitch (real : reportReal r = true) (runs : s.guardRuns r.block = true) (pair : r.pair = .equalOnce) :
    Gives (.faultReport ⟨r, []⟩) s (fun t => t.rd GRD_GLITCH_COUNT = bump32 (s.rd GRD_GLITCH_COUNT) ∧
      OnlyIn [.regs] s t) := by
  have taken : s.takeReport r = s.bump GRD_GLITCH_COUNT := by
    rw [State.takeReport_sample real runs (by simp [pair]), State.sample, pair]
  refine ⟨_, exec_faultReport_one r s, ?_⟩
  rw [taken]
  exact ⟨s.rd_bump_same GRD_GLITCH_COUNT 0, (s.bump_onlyIn _ _).settle⟩

/-- The pair is idle: its source may report again. -/
def State.freePair (s : State) (r : Report) : State :=
  { s with guard := { s.guard with asserted := s.guard.asserted.filter (fun p => !(p == (r.block, r.unit))) } }

theorem faultReport_idle (real : reportReal r = true) (runs : s.guardRuns r.block = true) (pair : r.pair = .idle) :
    Gives (.faultReport ⟨r, []⟩) s (fun t => t.guard.asserted.contains (r.block, r.unit) = false ∧
      t.guard.status = s.guard.status ∧ (r.block ≠ 6 → t.guard.live = s.guard.live) ∧ OnlyIn [.guard] s t) := by
  have taken : s.takeReport r = if r.block = 6 then (s.freePair r).gone 0x0604 r.unit else s.freePair r := by
    rw [State.takeReport_sample real runs (by simp [pair]), State.sample, pair]
    rfl
  have only : OnlyIn [.guard] s (s.freePair r) := (OnlyIn.refl _ s).guard (by decide)
  have free : (s.freePair r).guard.asserted.contains (r.block, r.unit) = false := by simp [State.freePair]
  refine ⟨_, exec_faultReport_one r s, ?_⟩
  rw [taken]
  split
  · next eth => exact ⟨free, rfl, fun c => absurd eth c, (only.trans (State.gone_onlyIn _ _ _)).settle⟩
  · exact ⟨free, rfl, fun _ => rfl, only.settle⟩

theorem faultReport_unbelieved (real : reportReal r = true) (runs : s.guardRuns r.block = true)
    (pair : r.pair = .equalTwice ∨ ∃ c, r.pair = .asserted c false) :
    (s.guard.asserted.contains (r.block, r.unit) = true → exec (.faultReport ⟨r, []⟩) s = .next s.settle) ∧
    (s.guard.asserted.contains (r.block, r.unit) = false → s.guard.reaction = none → s.guard.safe = false →
      s.lowPower = false → s.overLimit = false →
      (∀ k u, reportUnit r 0x1102 = some (k, u) → k ≠ .core → s.isFenced k u = false →
        Gives (.faultReport ⟨r, []⟩) s (fun t => bitAt (t.fstat 17) 1 = true ∧ t.isFenced k u = true ∧
          t.guard.asserted = s.guard.asserted ++ [(r.block, r.unit)])) ∧
      (reportUnit r 0x1102 = none → Gives (.faultReport ⟨r, []⟩) s (fun t =>
        bitAt (t.fstat 17) 1 = true ∧ t.guard.restarting = true ∧
        t.guard.asserted = s.guard.asserted ++ [(r.block, r.unit)]))) := by
  obtain ⟨parity, taken⟩ := State.takeReport_wire real runs pair
  have sets : bitAt (((s.holdPair r).wireFault r parity).fstat 17) 1 = true :=
    (s.holdPair r).raise_sets (code := 0x1102) (by decide) _ _
  refine ⟨fun held => ?_, fun free idle safe awake within => ⟨fun k u unit other healthy => ?_, fun unit => ?_⟩⟩
  · rw [exec_faultReport_one, taken, if_pos held]
  · rw [if_neg (by rw [free]; decide)] at taken
    obtain ⟨y, kept⟩ := State.wireFault_unit (s := s.holdPair r) idle safe awake unit other healthy parity
    refine ⟨_, exec_faultReport_one r s, ?_⟩
    rw [taken]
    exact ⟨sets, State.isFenced_of_added (congrArg Guard.fenced kept :), (congrArg Guard.asserted kept :)⟩
  · rw [if_neg (by rw [free]; decide)] at taken
    obtain ⟨y, l, kept⟩ := State.wireFault_restarts (s := s.holdPair r) idle safe awake within unit parity
    refine ⟨_, exec_faultReport_one r s, ?_⟩
    rw [taken]
    exact ⟨sets, (congrArg Guard.restarting kept :), (congrArg Guard.asserted kept :)⟩

/-- Settles O53: a report raises its code between what its block notes before and after it (`State.takeCause_eq`), and each
class is one lemma about what its reaction leaves of the Guard; the reaction's own work touches status bits and causes only
(`ReactionKept`). -/
theorem faultReportsByClass : Obligations.FaultReportsByClass := by
  refine fun s r => ⟨fun h => ?_, fun q h => ?_, fun real runs =>
    ⟨fun cause pair small => ⟨fun h => ?_, fun presents free => ?_⟩, faultReport_glitch real runs,
      faultReport_idle real runs, fun pair => ?_⟩⟩
  · rw [exec_faultReport_one, State.takeReport_of_not h]
  · obtain ⟨late, early⟩ := exec_faultReport_two h s
    exact ⟨late.trans early.symm, early⟩
  · rw [exec_faultReport_one, State.takeReport_cause real runs pair, if_pos (h.imp_left (State.notPresented_iff ..).mpr)]
  · have taken : s.takeReport r = (s.holdPair r).takeCause r (256 * r.block + cause) := by
      rw [State.takeReport_cause real runs pair, if_neg]
      rintro (h | h)
      · exact presents ((State.notPresented_iff ..).mp h)
      · exact absurd (free.symm.trans h) (by decide)
    have fault := isFault_of_reportReal real pair
    refine ⟨fun h => faultReport_noted rfl small taken fault h,
      fun hc ⟨idle, safe, awake⟩ named => faultReport_channels rfl small taken hc idle safe awake named,
      fun k u hc ⟨idle, safe, awake⟩ unit healthy =>
        ⟨fun left => faultReport_unit rfl small taken hc idle safe awake unit healthy left, fun core left => ?_⟩,
      fun hc => ⟨fun ⟨idle, safe, awake⟩ within => faultReport_restarts rfl small taken hc idle safe awake within,
        fun ⟨idle, safe, awake⟩ above => faultReport_overLimit rfl small taken hc idle safe awake above,
        fun safe low => faultReport_waits rfl small taken hc safe low,
        fun y reaction mild safe awake within => faultReport_takesOver rfl small taken hc reaction mild safe awake within⟩,
      fun hc safe => faultReport_stops rfl small taken hc safe⟩
    subst core
    exact faultReport_lastCores rfl small taken hc safe awake unit healthy left
  · obtain ⟨held, free⟩ := faultReport_unbelieved real runs pair
    exact ⟨held, fun h ⟨idle, safe, awake⟩ within => free h idle safe awake within⟩

end Sys2Proof.Machine
end
section
namespace Sys2Proof.Machine

-- One small theorem for each operation of the model: checked one after the other, so that they do not all wait in threads
-- of their own.
set_option Elab.async false

variable {s t u : State}

/-- The commands that wait are the same in both states. -/
structure SameQueue (s t : State) : Prop where
  pending : t.pending = s.pending

/-- A command completes, and leaves the commands that wait as they are. -/
def Answers (s : State) (r : Res) : Prop := ∃ t, r = done t ∧ SameQueue s t

theorem SameQueue.refl (s : State) : SameQueue s s := ⟨rfl⟩

/-- An update that does not name the queue. -/
theorem SameQueue.upd (h : SameQueue s t) (k : u.pending = t.pending := by rfl) : SameQueue s u :=
  ⟨k.trans h.pending⟩

/-- A state put together from the queue of another and any other parts. -/
theorem SameQueue.set {regs bus sys engines clock tick hif chans partners gens csi usb flows queues eth cmp displays mem bpm
    sch log guard power clk pwr fio pads fresh} (h : SameQueue s t) :
    SameQueue s (.mk t.pending regs bus sys engines clock tick hif chans partners gens csi usb flows queues eth cmp displays
      mem bpm sch log guard power clk pwr fio pads fresh) := ⟨h.pending⟩

/-- An operation whose frame leaves out the queue. -/
theorem SameQueue.only {ps : List Part} (h : SameQueue s t) (k : OnlyIn ps t u) (hp : .pending ∉ ps) : SameQueue s u :=
  h.upd ((k .pending).resolve_left hp)

theorem SameQueue.ite {c : Prop} {_ : Decidable c} (h : SameQueue s t) (k : SameQueue s u) :
    SameQueue s (if c then t else u) := by
  split <;> assumption

theorem SameQueue.iteFst {α : Type} {c : Prop} {_ : Decidable c} {p q : State × α} (h : SameQueue s p.1)
    (k : SameQueue s q.1) : SameQueue s (if c then p else q).1 := by
  split <;> assumption

theorem SameQueue.foldl {α : Type} {f : State → α → State} {l : List α} (h : SameQueue s t)
    (k : ∀ {u : State} {x : α}, SameQueue s u → SameQueue s (f u x)) : SameQueue s (l.foldl f t) := by
  induction l generalizing t with
  | nil => exact h
  | cons x l ih => exact ih (k h)

/-- A fold that carries a second value along. -/
theorem SameQueue.foldlPair {α β : Type} {f : State × β → α → State × β} {l : List α} {p : State × β}
    (h : SameQueue s p.1) (k : ∀ {u : State × β} {x : α}, SameQueue s u.1 → SameQueue s (f u x).1) :
    SameQueue s (l.foldl f p).1 := by
  induction l generalizing p with
  | nil => exact h
  | cons x l ih => exact ih (k h)

theorem SameQueue.of_eq {α : Type} {p : State × α} {x : α} (h : SameQueue s p.1) (e : p = (u, x)) : SameQueue s u := by
  rw [e] at h; exact h

theorem Answers.ite {c : Prop} {_ : Decidable c} {a b : Res} (h : Answers s a) (k : Answers s b) :
    Answers s (if c then a else b) := by
  split <;> assumption

theorem SameQueue.onUnit {n count : Nat} (h : SameQueue s t) (k : SameQueue s u) : Answers s (onUnit n count t u) :=
  ⟨_, rfl, .ite k h⟩

theorem SameQueue.wr (h : SameQueue s t) {d : RegDef} {i j v : Nat} : SameQueue s (t.wr d i j v) := h.upd

theorem SameQueue.bump (h : SameQueue s t) {d : RegDef} {i : Nat} : SameQueue s (t.bump d i) := h.upd

theorem SameQueue.bumpBy (h : SameQueue s t) {d : RegDef} {i x : Nat} : SameQueue s (State.bumpBy d i x t) :=
  h.only (State.bumpBy_onlyIn _ _ _ _) (by decide)

theorem SameQueue.bump64 (h : SameQueue s t) {d : RegDef} {i k : Nat} : SameQueue s (t.bump64 d i k) := h.upd

theorem SameQueue.advanceTo (h : SameQueue s t) {t' : Nat} : SameQueue s (t.advanceTo t') :=
  h.only (State.advanceTo_onlyIn _ _) (by decide)

theorem SameQueue.advanceNs (h : SameQueue s t) {ns : Nat} : SameQueue s (t.advanceNs ns) := by
  unfold State.advanceNs
  exact h.advanceTo

theorem SameQueue.freshen (h : SameQueue s t) : SameQueue s t.freshen := h.upd

theorem SameQueue.logEvent (h : SameQueue s t) {e : Event} : SameQueue s (t.logEvent e) :=
  h.only (State.logEvent_onlyIn _ _) (by decide)

theorem SameQueue.event (h : SameQueue s t) {code source : Nat} {data : List Nat} :
    SameQueue s (t.event code source data) :=
  h.only (State.event_onlyIn _ _ _ _) (by decide)

theorem SameQueue.logFault (h : SameQueue s t) {code : Nat} {cls acted : FClass} {i : FaultInfo} :
    SameQueue s (t.logFault code cls acted i) :=
  h.only (State.logFault_onlyIn _ _ _ _ _) (by decide)

theorem SameQueue.raiseI (h : SameQueue s t) {code : Nat} {i : FaultInfo} : SameQueue s (t.raiseI code i) :=
  h.only (State.raiseI_onlyIn _ _ _) (by decide)

theorem SameQueue.present (h : SameQueue s t) {code src : Nat} : SameQueue s (t.present code src) := h.upd

theorem SameQueue.gone (h : SameQueue s t) {code src : Nat} : SameQueue s (t.gone code src) := h.upd

theorem SameQueue.raiseCond (h : SameQueue s t) {code : Nat} {i : FaultInfo} : SameQueue s (t.raiseCond code i) :=
  h.only (State.raiseCond_onlyIn _ _ _) (by decide)

theorem SameQueue.signal (h : SameQueue s t) {v : Nat} : SameQueue s (t.signal v) :=
  h.only (State.signal_onlyIn _ _) (by decide)

theorem SameQueue.flushMsi (h : SameQueue s t) : SameQueue s t.flushMsi :=
  h.only (State.flushMsi_onlyIn _) (by decide)

theorem SameQueue.hostWrite (h : SameQueue s t) {a : Nat} {bs : List Byte} : SameQueue s (t.hostWrite a bs) := h.upd

theorem SameQueue.returnCell (h : SameQueue s t) {h' : Nat} : SameQueue s (t.returnCell h') :=
  h.only (State.returnCell_onlyIn _ _) (by decide)

theorem SameQueue.returnCells (h : SameQueue s t) {hs : List Nat} : SameQueue s (t.returnCells hs) :=
  h.only (State.returnCells_onlyIn _ _) (by decide)

theorem SameQueue.setSq (h : SameQueue s t) {n : Nat} {q : Sq} : SameQueue s (t.setSq n q) := h.upd

theorem SameQueue.setCq (h : SameQueue s t) {n : Nat} {q : Cq} : SameQueue s (t.setCq n q) := h.upd

theorem SameQueue.putEntries {r : RingAt} (h : SameQueue s t) {pi : Nat} {es : List (List Byte)}
    {posts : List RingPost} :
    SameQueue s (State.putEntries r t pi es posts).1 := by
  induction es generalizing t pi posts with
  | nil => exact h
  | cons e es ih => exact ih h.upd

theorem SameQueue.loseSlot (h : SameQueue s t) {r : RingAt} {pi back : Nat} {posts : List RingPost}
    {mark : List Byte → List Byte} : SameQueue s (t.loseSlot r pi back posts mark).1 := by
  unfold State.loseSlot
  exact (SameQueue.foldl h fun k => k.upd).putEntries

theorem SameQueue.setThread (h : SameQueue s t) {n : Nat} {t' : Thread} : SameQueue s (t.setThread n t') := h.upd

theorem SameQueue.trace (h : SameQueue s t) {kind core slot rule : Nat} {prev : Option Nat}
    {before : Thread} : SameQueue s (t.trace kind core slot rule prev before) :=
  h.only (State.trace_onlyIn _ _ _ _ _ _ _) (by decide)

theorem SameQueue.dispatch (h : SameQueue s t) : SameQueue s t.dispatch :=
  h.only (State.dispatch_onlyIn _) (by decide)

theorem SameQueue.markReady (h : SameQueue s t) {slot : Nat} : SameQueue s (t.markReady slot) :=
  h.only (State.markReady_onlyIn _ _) (by decide)

theorem SameQueue.seatThreads (h : SameQueue s t) {slots : List Nat} : SameQueue s (t.seatThreads slots) :=
  h.only (State.seatThreads_onlyIn _ _) (by decide)

theorem SameQueue.makeReady (h : SameQueue s t) {slot : Nat} : SameQueue s (t.makeReady slot) :=
  h.only (State.makeReady_onlyIn _ _) (by decide)

theorem SameQueue.countDown {p : State × List Nat} (h : SameQueue s p.1) {slot : Nat} :
    SameQueue s (State.countDown p slot).1 := by
  unfold State.countDown
  exact .iteFst h (.iteFst (.iteFst h.upd.raiseI h.upd) (.iteFst h.upd.markReady h.upd))

theorem SameQueue.decThreads (h : SameQueue s t) {slots : List Nat} : SameQueue s (t.decThreads slots) := by
  unfold State.decThreads
  exact (SameQueue.foldlPair h fun k => k.countDown).seatThreads

theorem SameQueue.decThread (h : SameQueue s t) {slot : Nat} : SameQueue s (t.decThread slot) := by
  unfold State.decThread
  exact h.decThreads

theorem SameQueue.decBound (h : SameQueue s t) {b : Bound} : SameQueue s (t.decBound b) :=
  h.only (State.decBound_onlyIn _ _) (by decide)

theorem SameQueue.signalThreads (h : SameQueue s t) {slots : List Nat} {flags : Word} :
    SameQueue s (t.signalThreads slots flags) :=
  h.only (State.signalThreads_onlyIn _ _ _) (by decide)

theorem SameQueue.signalThread (h : SameQueue s t) {slot : Nat} {flags : Word} :
    SameQueue s (t.signalThread slot flags) := by
  unfold State.signalThread
  exact h.signalThreads

theorem SameQueue.hwFlag (h : SameQueue s t) {b : Nat} : SameQueue s (t.hwFlag b) :=
  h.only (State.hwFlag_onlyIn _ _) (by decide)

theorem SameQueue.emptySlot (h : SameQueue s t) {slot : Nat} : SameQueue s (t.emptySlot slot) := by
  unfold State.emptySlot
  dsimp only
  refine SameQueue.setThread ?_
  split
  · exact h.upd
  · exact h

theorem SameQueue.emptyTag (h : SameQueue s t) {tag : Nat} : SameQueue s (t.emptyTag tag) := by
  unfold State.emptyTag
  exact (SameQueue.foldl h fun k => k.emptySlot.trace).dispatch

theorem SameQueue.setSynth (h : SameQueue s t) {i : Nat} {x : Synth} : SameQueue s (t.setSynth i x) := h.upd

theorem SameQueue.lockSynth (h : SameQueue s t) {i named band us : Nat} :
    SameQueue s (t.lockSynth i named band us) :=
  h.only (State.lockSynth_onlyIn _ _ _ _ _) (by decide)

theorem SameQueue.lockPlls (h : SameQueue s t) : SameQueue s t.lockPlls :=
  h.only (State.lockPlls_onlyIn _) (by decide)

theorem SameQueue.writeCpl (h : SameQueue s t) {n : Nat} {c : Cpl} : SameQueue s (t.writeCpl n c) :=
  h.only (State.writeCpl_onlyIn _ _ _) (by decide)

theorem SameQueue.postCpl (h : SameQueue s t) {n : Nat} {c : Cpl} {rsv : Bool} :
    SameQueue s (t.postCpl n c rsv).1 := by
  unfold State.postCpl
  refine .iteFst h (.iteFst h.upd ?_)
  extract_lets ring freed
  have frees : SameQueue s freed := .ite h.upd h
  exact .iteFst frees frees.writeCpl

theorem SameQueue.modJob (h : SameQueue s t) {id : Nat} {f : Job → Job} : SameQueue s (t.modJob id f) := h.upd

theorem SameQueue.dropJob (h : SameQueue s t) {id : Nat} : SameQueue s (t.dropJob id) :=
  h.only (State.dropJob_onlyIn _ _) (by decide)

theorem SameQueue.countCpl (h : SameQueue s t) {status : Nat} : SameQueue s (t.countCpl status) :=
  h.only (State.countCpl_onlyIn _ _) (by decide)

theorem SameQueue.postJob (h : SameQueue s t) {j : Job} {c : Cpl} : SameQueue s (t.postJob j c) := by
  unfold State.postJob
  refine .ite h.upd ?_
  split
  · next e =>
      exact (h.postCpl.of_eq e).dropJob
  · next e =>
      exact (h.postCpl.of_eq e).dropJob
  · next e =>
      split
      · exact (h.postCpl.of_eq e).bump.dropJob
      · exact (h.postCpl.of_eq e).modJob
      · exact (h.postCpl.of_eq e).modJob

theorem SameQueue.leaveEngines (h : SameQueue s t) {id : Nat} : SameQueue s (t.leaveEngines id) := h.upd

theorem SameQueue.countSegments (h : SameQueue s t) {id : Nat} : SameQueue s (t.countSegments id) :=
  h.only (State.countSegments_onlyIn _ _) (by decide)

theorem SameQueue.freeJobCells (h : SameQueue s t) {id status : Nat} : SameQueue s (t.freeJobCells id status) :=
  h.only (State.freeJobCells_onlyIn _ _ _) (by decide)

theorem SameQueue.endJob (h : SameQueue s t) {id : Nat} {e : End} : SameQueue s (t.endJob id e) := by
  unfold State.endJob
  split
  · exact h
  · dsimp only
    split
    · exact h.freeJobCells
    · exact h.freeJobCells.countCpl.postJob
    · exact h.freeJobCells.countCpl.postJob
    · exact h.freeJobCells.leaveEngines.countCpl.decBound.postJob

theorem SameQueue.refuse (h : SameQueue s t) {id reason : Nat} : SameQueue s (t.refuse id reason) := by
  unfold State.refuse
  exact h.endJob

theorem SameQueue.finish (h : SameQueue s t) {id detail result : Nat} :
    SameQueue s (t.finish id detail result) := by
  unfold State.finish
  exact h.endJob

theorem SameQueue.drainDone (h : SameQueue s t) : SameQueue s t.drainDone := by
  unfold State.drainDone
  refine .foldl h fun k => ?_
  split
  · exact .ite k k.postJob
  · exact k

theorem SameQueue.allocCell (h : SameQueue s t) {size tag : Nat} {fallback : Bool} :
    SameQueue s (t.allocCell size tag fallback).1 := by
  unfold State.allocCell
  dsimp only
  refine .iteFst h.upd ?_
  split
  · exact h.upd
  · exact .iteFst (.ite h.upd h.upd) h.upd

theorem SameQueue.allocMany (h : SameQueue s t) {tag : Nat} {fallback : Bool} {sizes got : List Nat} :
    SameQueue s (t.allocMany tag fallback sizes got).1 := by
  induction sizes generalizing t got with
  | nil => exact h
  | cons z sizes ih =>
    unfold State.allocMany
    split
    · next e => exact ih (h.allocCell.of_eq e)
    · next e => exact .foldl (h.allocCell.of_eq e) fun k => k.returnCell

theorem SameQueue.rejectFree (h : SameQueue s t) {h' tag code : Nat} {d : RegDef} :
    SameQueue s (t.rejectFree h' tag code d) := by
  unfold State.rejectFree
  exact h.upd.raiseI

theorem SameQueue.freeCell (h : SameQueue s t) {h' tag : Nat} : SameQueue s (t.freeCell h' tag) := by
  unfold State.freeCell
  exact .ite h.upd (.ite h.rejectFree (.ite h.rejectFree (.ite h.returnCell h.rejectFree)))

theorem SameQueue.forgetCells (h : SameQueue s t) {tag : Nat} : SameQueue s (t.forgetCells tag) := h.upd

theorem SameQueue.reclaimTag (h : SameQueue s t) {tag : Nat} : SameQueue s (t.reclaimTag tag) := by
  unfold State.reclaimTag
  exact (SameQueue.foldl h fun k => k.returnCell.bump).set.forgetCells.emptyTag

theorem SameQueue.dueTags (h : SameQueue s t) {tags : List Nat} : SameQueue s (t.dueTags tags) := h.upd

theorem SameQueue.reclaimDue (h : SameQueue s t) : SameQueue s t.reclaimDue := by
  unfold State.reclaimDue
  exact .foldl h.upd fun k => k.reclaimTag

theorem SameQueue.startBuild (h : SameQueue s t) : SameQueue s t.startBuild := by
  unfold State.startBuild
  split
  · exact h
  · exact h.upd

theorem SameQueue.endBuild (h : SameQueue s t) : SameQueue s t.endBuild := by
  unfold State.endBuild
  split
  · exact h
  · exact h.upd

theorem SameQueue.dropPackets (h : SameQueue s t) {job : Nat} : SameQueue s (t.dropPackets job) := by
  unfold State.dropPackets
  exact .foldl h fun k => k.upd

theorem SameQueue.setChan (h : SameQueue s t) {n : Nat} {c : Channel} : SameQueue s (t.setChan n c) := h.upd

theorem SameQueue.modChan (h : SameQueue s t) {n : Nat} {f : Channel → Channel} : SameQueue s (t.modChan n f) :=
  h.upd

theorem SameQueue.takeFlow (h : SameQueue s t) {cq : Nat} : SameQueue s (t.takeFlow cq).1 := by
  unfold State.takeFlow
  split
  · exact h
  · exact h.upd

theorem SameQueue.discardJob (h : SameQueue s t) {fault id : Nat} : SameQueue s (t.discardJob fault id) := by
  unfold State.discardJob
  split
  · exact h
  · split
    · exact h
    · exact .ite h.countSegments.endJob.dropPackets.modChan h.countSegments.endJob.dropPackets

theorem SameQueue.dropUnit (h : SameQueue s t) {n : Nat} : SameQueue s (t.dropUnit n) := by
  unfold State.dropUnit
  split
  · exact h
  · exact .ite h.upd h

theorem SameQueue.discardChan (h : SameQueue s t) {fault n : Nat} : SameQueue s (t.discardChan fault n) := by
  unfold State.discardChan
  exact .ite (SameQueue.foldl h fun k => k.discardJob).modChan.dropUnit.dueTags h

theorem SameQueue.partnerChanged (h : SameQueue s t) {p change chan : Nat} :
    SameQueue s (t.partnerChanged p change chan) :=
  h.only (State.partnerChanged_onlyIn _ _ _ _) (by decide)

theorem SameQueue.arrive (h : SameQueue s t) {x : Partner} : SameQueue s (t.arrive x) :=
  h.only (State.arrive_onlyIn _ _) (by decide)

theorem SameQueue.depart (h : SameQueue s t) {p : Nat} : SameQueue s (t.depart p) :=
  h.only (State.depart_onlyIn _ _) (by decide)

theorem SameQueue.departAll (h : SameQueue s t) {ports : List Nat} : SameQueue s (t.departAll ports) :=
  h.only (State.departAll_onlyIn _ _) (by decide)

theorem SameQueue.freePartners (h : SameQueue s t) : SameQueue s t.freePartners := h.upd

theorem SameQueue.refreshFlow (h : SameQueue s t) {f lost : Nat} : SameQueue s (t.refreshFlow f lost) :=
  h.only (State.refreshFlow_onlyIn _ _ _) (by decide)

theorem SameQueue.refresh (h : SameQueue s t) {n lost : Nat} : SameQueue s (t.refresh n lost) := by
  unfold State.refresh
  dsimp only
  split
  · exact h.refreshFlow
  · exact .ite h.event.setChan h

theorem SameQueue.tidySlots (h : SameQueue s t) {n : Nat} : SameQueue s (t.tidySlots n) := by
  unfold State.tidySlots
  dsimp only
  refine .ite h ?_
  split
  · exact h.upd
  · exact h.upd

theorem SameQueue.addLive (h : SameQueue s t) {j : Job} : SameQueue s (t.addLive j) := by
  unfold State.addLive
  exact h.takeFlow.set

theorem SameQueue.offerUnit (h : SameQueue s t) {n : Nat} {au : Au} {cells : List Nat} :
    SameQueue s (t.offerUnit n au cells) := by
  unfold State.offerUnit
  dsimp only
  split
  · exact h.tidySlots.modChan.addLive.modChan
  · exact h.tidySlots.modChan.addLive.modChan
  · split
    · exact .ite h.tidySlots.modChan.endJob.addLive.modChan h.tidySlots.modChan.addLive.endJob
    · exact h.tidySlots.modChan.addLive.modChan

theorem SameQueue.exportNow (h : SameQueue s t) {n : Nat} : SameQueue s (t.exportNow n) := by
  unfold State.exportNow
  split
  · exact h
  · split
    · exact h.upd
    · exact (SameQueue.ite h.upd h).modChan.finish

theorem SameQueue.exportDue (h : SameQueue s t) {n : Nat} : SameQueue s (t.exportDue n) := by
  unfold State.exportDue
  exact .ite h.exportNow h

theorem SameQueue.exportBefore (h : SameQueue s t) {j : Job} : SameQueue s (t.exportBefore j) := by
  unfold State.exportBefore
  exact .ite h.exportDue h

theorem SameQueue.goLive (h : SameQueue s t) {n p : Nat} : SameQueue s (t.goLive n p) := by
  unfold State.goLive
  exact .ite h h.upd.partnerChanged

theorem SameQueue.addEncode (h : SameQueue s t) {n cq fromTick : Nat} {x : HeldFrame} :
    SameQueue s (t.addEncode n cq fromTick x) := by
  unfold State.addEncode
  exact h.addLive

theorem SameQueue.offerEncode (h : SameQueue s t) {n fromTick : Nat} {x : HeldFrame} :
    SameQueue s (t.offerEncode n fromTick x) := by
  unfold State.offerEncode
  dsimp only
  split
  · exact h.returnCells
  · refine .ite ?_ h.upd.returnCells
    split
    · exact h
    · exact .ite h.upd.addEncode h.upd

theorem SameQueue.frameCells (h : SameQueue s t) {n : Nat} {a : Arrival} : SameQueue s (t.frameCells n a).1 := by
  unfold State.frameCells
  refine .iteFst h ?_
  split
  · next e =>
      exact (h.allocMany.of_eq e)
  · next e =>
      exact (h.allocMany.of_eq e).bump

theorem SameQueue.takeFrame (h : SameQueue s t) {p : Nat} {a : Arrival} {n : Nat} {cells : List Nat} :
    SameQueue s (t.takeFrame p a n cells) := by
  unfold State.takeFrame
  dsimp only
  refine .ite ?_ (.ite h.goLive.bump.exportDue.returnCells.modChan h.goLive.bump.offerEncode)
  split
  · exact h.goLive.bump.returnCells
  · exact h.goLive.bump.modChan.offerUnit

theorem SameQueue.frameTo (h : SameQueue s t) {p : Nat} {a : Arrival} {n : Nat} :
    SameQueue s (t.frameTo p a n) := by
  unfold State.frameTo
  dsimp only
  refine .ite h ?_
  refine .ite h.upd ?_
  refine .ite (.ite (.ite h.upd.partnerChanged h.upd) (SameQueue.ite h.upd.partnerChanged
      h.upd).modChan.partnerChanged) ?_
  refine .ite h.upd ?_
  split
  · next e =>
      exact (h.frameCells.of_eq e)
  · next e =>
      exact (h.frameCells.of_eq e).takeFrame

theorem SameQueue.frameFrom (h : SameQueue s t) {p fmt : Nat} {a : Arrival} :
    SameQueue s (t.frameFrom p fmt a) := by
  unfold State.frameFrom
  exact .ite (.foldl (.ite h.upd.partnerChanged h.upd) fun k => k.frameTo) (SameQueue.foldl (.ite
      h.upd.partnerChanged h.upd) fun k => k.frameTo).returnCells

theorem SameQueue.resumed (h : SameQueue s t) {n : Nat} : SameQueue s (t.resumed n) := by
  unfold State.resumed
  exact .ite h.upd.refresh (.ite h.upd h)

theorem SameQueue.pauseBegins (h : SameQueue s t) {n : Nat} : SameQueue s (t.pauseBegins n) := by
  unfold State.pauseBegins
  dsimp only
  refine SameQueue.tidySlots ?_
  refine SameQueue.modChan ?_
  split
  · exact (SameQueue.foldl h fun k => k.dropJob.bump).returnCells.bump
  · exact .foldl h fun k => k.dropJob.bump

theorem SameQueue.pauseEnds (h : SameQueue s t) {n : Nat} : SameQueue s (t.pauseEnds n) := by
  unfold State.pauseEnds
  exact .ite h.upd.resumed h.upd

theorem SameQueue.skipUnits (h : SameQueue s t) {n : Nat} : SameQueue s (t.skipUnits n) := by
  unfold State.skipUnits
  exact (SameQueue.foldl h fun k => k.dropJob.bump).tidySlots

theorem SameQueue.bindEdge (h : SameQueue s t) {n mode ref gen : Nat} :
    SameQueue s (t.bindEdge n mode ref gen) := by
  unfold State.bindEdge
  dsimp only
  split
  · exact h.upd.skipUnits
  · exact .ite h.upd.skipUnits h.upd.skipUnits.partnerChanged

theorem SameQueue.closeChan (h : SameQueue s t) {n : Nat} : SameQueue s (t.closeChan n) := by
  unfold State.closeChan
  exact .foldl (SameQueue.foldl h fun k => k.endJob).set.setChan.dueTags fun k => k.endJob

theorem SameQueue.restartChan (h : SameQueue s t) {n : Nat} : SameQueue s (t.restartChan n) := by
  unfold State.restartChan
  exact .ite h.upd h

theorem SameQueue.edgeAct (h : SameQueue s t) {a : DueAct} : SameQueue s (t.edgeAct a) := by
  unfold State.edgeAct
  refine .ite ?_ h
  split
  · exact h.closeChan
  · exact h.bindEdge
  · exact h.pauseBegins
  · exact h.pauseEnds

theorem SameQueue.promote (h : SameQueue s t) {t' n : Nat} : SameQueue s (State.promote t' t n) := by
  unfold State.promote
  dsimp only
  split
  · exact .ite h.returnCells.setChan h
  · exact h

theorem SameQueue.chanEdges (h : SameQueue s t) {t' : Nat} : SameQueue s (t.chanEdges t') := by
  unfold State.chanEdges
  exact .foldl (.foldl (.foldl h fun k => k.restartChan) fun k => k.edgeAct) fun k => k.promote

theorem SameQueue.takeSegment (h : SameQueue s t) {e id : Nat} : SameQueue s (t.takeSegment e id) := by
  unfold State.takeSegment
  dsimp only
  refine SameQueue.set ?_
  refine SameQueue.modJob ?_
  split
  · exact h.exportBefore
  · exact h

theorem SameQueue.feedEngine (h : SameQueue s t) {e : Nat} : SameQueue s (t.feedEngine e) := by
  unfold State.feedEngine
  dsimp only
  refine .ite h ?_
  split
  · exact h.upd
  · split
    · exact h
    · exact h.takeSegment

theorem SameQueue.feedEngines (h : SameQueue s t) : SameQueue s t.feedEngines := by
  unfold State.feedEngines
  exact .ite (.foldl h.upd fun k => k.feedEngine) h

theorem SameQueue.endSegment (h : SameQueue s t) {id : Nat} : SameQueue s (t.endSegment id) := by
  unfold State.endSegment
  split
  · exact h
  · exact h.upd.feedEngines

theorem SameQueue.placeAgain (h : SameQueue s t) {id : Nat} : SameQueue s (t.placeAgain id) := by
  unfold State.placeAgain
  split
  · exact h.upd
  · exact h

theorem SameQueue.moveWork (h : SameQueue s t) {u : Nat} : SameQueue s (t.moveWork u) := by
  unfold State.moveWork
  exact .foldl h fun k => k.placeAgain

theorem SameQueue.modDisp (h : SameQueue s t) {d : Nat} {f : Display → Display} : SameQueue s (t.modDisp d f) :=
  h.upd

theorem SameQueue.panelUp (h : SameQueue s t) {d : Nat} : SameQueue s (t.panelUp d) :=
  h.only (State.panelUp_onlyIn _ _) (by decide)

theorem SameQueue.panelDown (h : SameQueue s t) {d : Nat} : SameQueue s (t.panelDown d) := h.upd

theorem SameQueue.panelRestart (h : SameQueue s t) {d : Nat} : SameQueue s (t.panelRestart d) := by
  unfold State.panelRestart
  exact .ite h h.upd

theorem SameQueue.linkOff (h : SameQueue s t) {d : Nat} : SameQueue s (t.linkOff d) := h.upd

theorem SameQueue.linkOn (h : SameQueue s t) {d : Nat} : SameQueue s (t.linkOn d) := by
  unfold State.linkOn
  exact .ite h.upd h.upd

theorem SameQueue.recheckOne {p : State × Nat} (h : SameQueue s p.1) {d : Nat} :
    SameQueue s (State.recheckOne p d).1 := by
  unfold State.recheckOne
  exact .iteFst (.iteFst h h.upd) h

theorem SameQueue.recheckDisplays (h : SameQueue s t) : SameQueue s t.recheckDisplays := by
  unfold State.recheckDisplays
  exact .foldlPair h fun k => k.recheckOne

theorem SameQueue.enableWrite (h : SameQueue s t) {d : Nat} {was : Bool} : SameQueue s (t.enableWrite d was) := by
  unfold State.enableWrite
  exact .ite (.ite h.recheckDisplays (.ite h.upd.panelUp h.upd)) (.ite h.upd h)

theorem SameQueue.applyChange (h : SameQueue s t) {c : LayerChange} : SameQueue s (t.applyChange c) := by
  unfold State.applyChange
  split
  · exact h.upd
  · exact .ite h.upd.panelUp h.upd

theorem SameQueue.applyChanges (h : SameQueue s t) {t' : Nat} : SameQueue s (t.applyChanges t') := by
  unfold State.applyChanges
  exact .foldl h.upd fun k => k.applyChange

theorem SameQueue.composeStart (h : SameQueue s t) {d : Nat} : SameQueue s (t.composeStart d) := h.upd

theorem SameQueue.startCompositor (h : SameQueue s t) : SameQueue s t.startCompositor :=
  h.only (State.startCompositor_onlyIn _) (by decide)

theorem SameQueue.composeNext (h : SameQueue s t) {atWork : Bool} : SameQueue s (t.composeNext atWork) := by
  unfold State.composeNext
  split
  · exact h
  · exact .ite h.upd h

theorem SameQueue.maybeCompose (h : SameQueue s t) : SameQueue s t.maybeCompose :=
  h.only (State.maybeCompose_onlyIn _) (by decide)

theorem SameQueue.paint (h : SameQueue s t) {d b : Nat} {f : Frame} : SameQueue s (t.paint d b f) := by
  unfold State.paint
  exact (SameQueue.foldl h fun k => k.upd).freshen

theorem SameQueue.steer (h : SameQueue s t) {d : Nat} {e : Int} : SameQueue s (t.steer d e) := by
  unfold State.steer
  exact (SameQueue.ite h h.upd).modDisp.setSynth

theorem SameQueue.plainFront (h : SameQueue s t) {d : Nat} : SameQueue s (t.plainFront d) := by
  unfold State.plainFront
  exact .ite h h.paint.modDisp

theorem SameQueue.exchange (h : SameQueue s t) {d : Nat} : SameQueue s (t.exchange d) := h.upd

theorem SameQueue.firstFlip (h : SameQueue s t) {d : Nat} : SameQueue s (t.firstFlip d) := by
  unfold State.firstFlip
  exact (SameQueue.ite h.upd h.upd.plainFront).modDisp.bump

theorem SameQueue.flip (h : SameQueue s t) {d : Nat} {e : Int} : SameQueue s (t.flip d e) := by
  unfold State.flip
  exact .ite (.ite h h.firstFlip) (.ite h (.ite h.upd.raiseI (.ite h.upd.steer (.ite h.upd.steer.bump.exchange
      (.ite h.upd.steer.bump h.upd.steer.bump.plainFront)))))

theorem SameQueue.staleView (h : SameQueue s t) {t' key state : Nat} : SameQueue s (t.staleView t' key state) := by
  unfold State.staleView
  exact (SameQueue.ite h.upd h).event

theorem SameQueue.staleEdge (h : SameQueue s t) {t' : Nat} : SameQueue s (t.staleEdge t') := by
  unfold State.staleEdge
  exact (SameQueue.foldl (.foldl h fun k => k.staleView) fun k => k.staleView).set

theorem SameQueue.enterSafe (h : SameQueue s t) : SameQueue s t.enterSafe := by
  unfold State.enterSafe
  exact .ite h (SameQueue.ite (SameQueue.foldl h.upd fun k => k.upd).set.set.lockPlls (SameQueue.foldl h.upd fun k
      => k.upd).set).flushMsi

theorem SameQueue.stopCore (h : SameQueue s t) {c code : Nat} : SameQueue s (t.stopCore c code) :=
  h.only (State.stopCore_onlyIn _ _ _) (by decide)

theorem SameQueue.fence (h : SameQueue s t) {k : UnitKind} {u code : Nat} : SameQueue s (t.fence k u code) := by
  unfold State.fence
  refine .ite h ?_
  dsimp only
  cases k with
  | core => exact h.upd.stopCore
  | syn => exact .ite h.upd.raiseCond h.upd
  | pix => exact .ite h.upd.raiseCond h.upd
  | enc => exact .ite h.upd.raiseCond h.upd

theorem SameQueue.discardE (h : SameQueue s t) {k : UnitKind} {u code : Nat} {ids : List Nat} :
    SameQueue s (t.discardE k u code ids) := by
  unfold State.discardE
  dsimp only
  refine SameQueue.maybeCompose ?_
  refine SameQueue.feedEngines ?_
  split
  · exact (SameQueue.foldl h fun k => k.discardJob).dueTags.moveWork
  · exact (SameQueue.foldl h fun k => k.discardJob).dueTags
  · exact (SameQueue.foldl h fun k => k.discardJob).dueTags
  · exact (SameQueue.foldl h fun k => k.discardJob).dueTags

theorem SameQueue.restartJob (h : SameQueue s t) {code : Nat} {unreadable : List Nat} {j : Job} :
    SameQueue s (State.restartJob code unreadable t j) := by
  unfold State.restartJob
  split
  · exact .ite h.upd.dropJob h
  · exact .ite h.dropJob h.endJob

theorem SameQueue.resetPath (h : SameQueue s t) : SameQueue s t.resetPath := h.upd

theorem SameQueue.startM (h : SameQueue s t) {code : Nat} {unreadable : List Nat} :
    SameQueue s (t.startM code unreadable) := by
  unfold State.startM
  exact (SameQueue.foldl (SameQueue.foldl h.upd fun k => k.restartJob).resetPath fun k => k.returnCell).dueTags

theorem SameQueue.actOn (h : SameQueue s t) {code : Nat} {cls : FClass} {t' : Targets} {acting : FClass} :
    SameQueue s (t.actOn code cls t' acting) := by
  unfold State.actOn
  split
  · exact .ite h (SameQueue.foldl h fun k => k.discardChan).feedEngines.maybeCompose
  · split
    · exact h
    · exact h.fence.discardE
  · exact h

theorem SameQueue.setReaction (h : SameQueue s t) {r : Reaction} : SameQueue s (t.setReaction r) := h.upd

theorem SameQueue.logMerged (h : SameQueue s t) {code : Nat} {cls acting : FClass} {i : FaultInfo}
    {link : Nat} : SameQueue s (t.logMerged code cls acting i link) := by
  unfold State.logMerged
  exact h.upd.logFault

theorem SameQueue.toSafe (h : SameQueue s t) {link extra : Nat} : SameQueue s (t.toSafe link extra) := by
  unfold State.toSafe
  exact (SameQueue.ite h h.upd.logMerged).enterSafe

theorem SameQueue.react (h : SameQueue s t) {code : Nat} {cls : FClass} {i : FaultInfo} {x : Targets} :
    SameQueue s (t.react code cls i x) := by
  unfold State.react
  extract_lets eff old newM extra acting ids i first g marked reacting begun noted started
  have begins : SameQueue s begun := by
    unfold begun
    split
    · exact h.upd.logFault.signal.hwFlag
    · exact h.upd.logMerged
  have notes : SameQueue s noted := .ite begins begins.present
  have starts : SameQueue s started := .ite notes.startM notes
  exact .ite notes.toSafe starts.actOn

theorem SameQueue.raise (h : SameQueue s t) {code : Nat} {i : FaultInfo} {t' : Targets} :
    SameQueue s (t.raise code i t') := by
  unfold State.raise
  split
  · exact h
  · exact .ite h.upd.logFault (.ite (.ite h.upd.logFault.present h.upd.logFault) (.ite h.upd.logFault (.ite
        h.upd.logFault.present.set h.upd.react)))

theorem SameQueue.raiseMismatch (h : SameQueue s t) : SameQueue s t.raiseMismatch := by
  unfold State.raiseMismatch
  split
  · exact h
  · exact h.upd.raise

theorem SameQueue.poolFails (h : SameQueue s t) {f : State → State} (k : ∀ {u}, SameQueue s u → SameQueue s (f u)) :
    SameQueue s (t.poolFails f) := .ite h.raiseMismatch (k h)

theorem SameQueue.startWaiting (h : SameQueue s t) : SameQueue s t.startWaiting := by
  unfold State.startWaiting
  split
  · exact h
  · extract_lets eff top g taken mcode extra acting merged codes r begun
    have begins : SameQueue s begun :=
      (SameQueue.foldl h.upd fun k => k.upd.bump).setReaction.signal.hwFlag
    exact .ite begins.toSafe (.ite begins.startM (.foldl begins fun k => .foldl k fun k => k.discardChan))

theorem SameQueue.endReaction (h : SameQueue s t) : SameQueue s t.endReaction := by
  unfold State.endReaction
  split
  · exact h
  · exact h.upd

theorem SameQueue.reactionEdge (h : SameQueue s t) : SameQueue s t.reactionEdge := by
  unfold State.reactionEdge
  split
  · exact h
  · split
    · exact h.endReaction
    · exact h.endReaction
    · exact h
    · exact h.upd
    · exact h

theorem SameQueue.returnUnits (h : SameQueue s t) : SameQueue s t.returnUnits := by
  unfold State.returnUnits
  dsimp only
  refine SameQueue.set ?_
  refine .foldl h.upd fun k => ?_
  split
  · exact (SameQueue.ite k.upd k.upd).trace.dispatch
  · exact .ite k.upd k.upd

theorem SameQueue.clearBit (h : SameQueue s t) {b k : Nat} : SameQueue s (State.clearBit b t k) := by
  unfold State.clearBit
  exact .ite (.ite h.upd h.upd.event) h

theorem SameQueue.clearStatus (h : SameQueue s t) {b v : Nat} : SameQueue s (t.clearStatus b v) := by
  unfold State.clearStatus
  exact .foldl h fun k => k.clearBit

theorem SameQueue.modEth (h : SameQueue s t) {m : Nat} {f : EthPort → EthPort} : SameQueue s (t.modEth m f) := h.upd

theorem SameQueue.startPort (h : SameQueue s t) {m : Nat} : SameQueue s (t.startPort m) :=
  h.only (State.startPort_onlyIn _ _) (by decide)

theorem SameQueue.enqueue (h : SameQueue s t) {q : Nat} {f : TxFrame} : SameQueue s (t.enqueue q f) := by
  unfold State.enqueue
  exact h.upd.startPort

theorem SameQueue.txDone (h : SameQueue s t) {q : Nat} {f : TxFrame} {e : End} : SameQueue s (t.txDone q f e) := by
  unfold State.txDone
  split
  · dsimp only
    refine SameQueue.endJob ?_
    split
    · exact h.upd.freeCell
    · exact h.upd
  · exact h
  · exact h

theorem SameQueue.flushQueue (h : SameQueue s t) {q : Nat} : SameQueue s (t.flushQueue q) := by
  unfold State.flushQueue
  exact .foldl h.upd fun k => k.txDone

theorem SameQueue.sendPacket (h : SameQueue s t) {n job : Nat} {e : Encoder} {captured since : Nat}
    {marker : Bool} {payload : List Byte} : SameQueue s (t.sendPacket n job e captured since marker payload) := by
  unfold State.sendPacket
  exact h.upd.enqueue

theorem SameQueue.sendPackets (h : SameQueue s t) {j : Job} {e : Encoder} {last : Bool}
    {l : List (List Byte)} : SameQueue s (t.sendPackets j e last l) := by
  unfold State.sendPackets
  exact .foldl (.ite h h.upd) fun k => k.sendPacket

theorem SameQueue.sendParams (h : SameQueue s t) {j : Job} {e : Encoder} : SameQueue s (t.sendParams j e) := by
  unfold State.sendParams
  exact .ite (.foldl h fun k => .foldl k.upd fun k => k.sendPacket) h

theorem SameQueue.sendUnit (h : SameQueue s t) {j : Job} {e : Encoder} {limit offset bytes quality : Nat}
    {last : Bool} : SameQueue s (t.sendUnit j e limit offset bytes quality last) := by
  unfold State.sendUnit
  exact (SameQueue.ite h h.sendParams).set.sendPackets

theorem SameQueue.writeRecord (h : SameQueue s t) {n : Nat} {e : Encoder} {data : List Byte}
    {tag ktime detail : Nat} : SameQueue s (t.writeRecord n e data tag ktime detail) := by
  unfold State.writeRecord
  exact (SameQueue.ite (SameQueue.ite h.upd h).hostWrite (.ite h.upd h)).modChan

theorem SameQueue.freeBitstream (h : SameQueue s t) {q ci : Nat} : SameQueue s (t.freeBitstream q ci) := h.upd

theorem SameQueue.sendEnd (h : SameQueue s t) {n job tag : Nat} {e : Encoder} :
    SameQueue s (t.sendEnd n job tag e) := by
  unfold State.sendEnd
  split
  · exact h
  · exact .ite (SameQueue.ite h.sendPacket h).writeRecord (.ite h.sendPacket h)

theorem SameQueue.finishStop (h : SameQueue s t) {n : Nat} : SameQueue s (t.finishStop n) := by
  unfold State.finishStop
  split
  · exact h
  · split
    · exact h
    · exact .ite h (SameQueue.foldl h.sendEnd fun k => k.returnCell).modChan.endJob

theorem SameQueue.finishStops (h : SameQueue s t) : SameQueue s t.finishStops := by
  unfold State.finishStops
  exact .foldl h fun k => k.finishStop

theorem SameQueue.clockAt (h : SameQueue s t) {op : Nat} : SameQueue s (t.clockAt op) := by
  unfold State.clockAt
  exact (SameQueue.ite h h.upd).set

theorem SameQueue.requestOp (h : SameQueue s t) {op : Nat} : SameQueue s (t.requestOp op) := by
  unfold State.requestOp
  exact .ite h.clockAt (.ite h h.upd)

theorem SameQueue.enforceCeil (h : SameQueue s t) : SameQueue s t.enforceCeil := by
  unfold State.enforceCeil
  exact .ite h.requestOp h

theorem SameQueue.settle_ (h : SameQueue s t) : SameQueue s t.settle_ := by
  unfold State.settle_
  exact .ite h h.clockAt

theorem SameQueue.abandonRaise (h : SameQueue s t) : SameQueue s t.abandonRaise := by
  unfold State.abandonRaise
  exact .ite h h.clockAt.bump

theorem SameQueue.toOffset (h : SameQueue s t) {ns : Nat} : SameQueue s (t.toOffset ns) :=
  h.only (State.toOffset_onlyIn _ _) (by decide)

theorem SameQueue.admitJob (h : SameQueue s t) {j : Job} {e : Option Nat} {cost : List Nat} :
    SameQueue s (t.admitJob j e cost) := by
  unfold State.admitJob
  dsimp only
  split
  · exact (SameQueue.ite h.upd h.upd).set.modChan
  · exact (SameQueue.ite h.upd h.upd).set

theorem SameQueue.tryAdmit (h : SameQueue s t) {p : Purse} {j : Job} {e : Option Nat} {cost : List Nat} :
    SameQueue s (t.tryAdmit p j e cost).1 := by
  unfold State.tryAdmit
  split
  · exact h.admitJob
  · exact h.upd.dropJob
  · exact h.endJob

theorem SameQueue.considerCritical (h : SameQueue s t) {p : Purse} {j : Job} :
    SameQueue s (t.considerCritical p j).1 := by
  unfold State.considerCritical
  exact .iteFst h.tryAdmit (.iteFst h.upd h.tryAdmit)

theorem SameQueue.considerStandard (h : SameQueue s t) {p : Purse} {j : Job} :
    SameQueue s (t.considerStandard p j).1 := by
  unfold State.considerStandard
  dsimp only
  split
  · exact h.tryAdmit
  · exact .iteFst h.endJob h.upd

theorem SameQueue.considerBulk (h : SameQueue s t) {p : Purse} {j : Job} : SameQueue s (t.considerBulk p j).1 := by
  unfold State.considerBulk
  exact .iteFst h.tryAdmit h.endJob

theorem SameQueue.considerOne {p : State × Purse} (h : SameQueue s p.1) {id : Nat} :
    SameQueue s (State.considerOne p id).1 := by
  obtain ⟨t, p⟩ := p
  unfold State.considerOne
  dsimp only
  split
  · exact h
  · refine .iteFst h ?_
    split
    · exact SameQueue.considerCritical h
    · exact SameQueue.considerStandard h
    · exact SameQueue.considerBulk h

theorem SameQueue.refusePaused (h : SameQueue s t) : SameQueue s t.refusePaused := by
  unfold State.refusePaused
  exact .foldl h fun k => k.endJob

theorem SameQueue.supersedeDecode (h : SameQueue s t) {n : Nat} : SameQueue s (t.supersedeDecode n) := by
  unfold State.supersedeDecode
  dsimp only
  split
  · exact .ite h.tidySlots.endJob.modJob.tidySlots h.tidySlots
  · exact h.tidySlots

theorem SameQueue.supersedeEncode (h : SameQueue s t) {n : Nat} : SameQueue s (t.supersedeEncode n) := by
  unfold State.supersedeEncode
  exact .foldl h fun k => k.endJob

theorem SameQueue.choosePoint (h : SameQueue s t) {p : Purse} : SameQueue s (t.choosePoint p) := by
  unfold State.choosePoint
  exact (SameQueue.foldl h fun k => k.upd).set.requestOp

theorem SameQueue.decide_ (h : SameQueue s t) : SameQueue s t.decide_ := by
  unfold State.decide_
  exact (SameQueue.foldlPair (.foldl h.upd.refusePaused fun k => k.supersedeDecode.supersedeEncode) fun k =>
      k.considerOne).choosePoint.finishStops.hwFlag

theorem SameQueue.decision (h : SameQueue s t) : SameQueue s t.decision := by
  unfold State.decision
  exact .ite h (.ite h.toOffset.set.set.decide_ h.toOffset.set.set)

theorem SameQueue.considerAtPoll (h : SameQueue s t) {id : Nat} : SameQueue s (t.considerAtPoll id) := by
  unfold State.considerAtPoll
  split
  · exact h
  · exact .ite h (.ite h.upd.endJob (.ite h.upd.tryAdmit.set (.ite h.upd.endJob h.upd)))

theorem SameQueue.cutJob (h : SameQueue s t) {id : Nat} : SameQueue s (t.cutJob id) :=
  h.only (State.cutJob_onlyIn _ _) (by decide)

theorem SameQueue.cutCompose (h : SameQueue s t) {d : Nat} : SameQueue s (t.cutCompose d) :=
  h.only (State.cutCompose_onlyIn _ _) (by decide)

theorem SameQueue.openWork (h : SameQueue s t) : SameQueue s t.openWork := by
  unfold State.openWork
  exact .ite h (SameQueue.ite h.toOffset h.toOffset.raiseI.bump).set.feedEngines.maybeCompose

theorem SameQueue.guardStop (h : SameQueue s t) : SameQueue s t.guardStop := by
  unfold State.guardStop
  exact .foldl (SameQueue.foldl h fun k => k.cutJob).set fun k => k.cutCompose

theorem SameQueue.patrolStep (h : SameQueue s t) : SameQueue s t.patrolStep :=
  h.only (State.patrolStep_onlyIn _) (by decide)

theorem SameQueue.openGuard (h : SameQueue s t) : SameQueue s t.openGuard := by
  unfold State.openGuard
  exact .ite h (SameQueue.ite h.toOffset.set.patrolStep.guardStop h.toOffset.set.patrolStep).hwFlag

theorem SameQueue.restored (h : SameQueue s t) {e : Int} {new : Nat} : SameQueue s (t.restored e new) := by
  unfold State.restored
  exact h.event

theorem SameQueue.acquired (h : SameQueue s t) {e : Int} {new : Nat} : SameQueue s (t.acquired e new) := by
  unfold State.acquired
  exact (SameQueue.ite h.restored h).set

theorem SameQueue.lockOrSlew (h : SameQueue s t) {ns : Nat} {e : Int} : SameQueue s (t.lockOrSlew ns e) := h.upd

theorem SameQueue.leaveHoldover (h : SameQueue s t) {first : Int} {new ns : Nat} {e : Int} :
    SameQueue s (t.leaveHoldover first new ns e) := by
  unfold State.leaveHoldover
  exact h.restored.gone.set.lockOrSlew

theorem SameQueue.enterHoldover (h : SameQueue s t) {reason : Nat} : SameQueue s (t.enterHoldover reason) :=
  h.only (State.enterHoldover_onlyIn _ _) (by decide)

theorem SameQueue.sourceEdge (h : SameQueue s t) {ns : Nat} : SameQueue s (t.sourceEdge ns) := by
  unfold State.sourceEdge
  dsimp only
  split
  · exact .ite h.upd h.upd
  · split
    · exact .ite h.upd h.upd
    · exact .ite h.upd.acquired (.ite h.upd.acquired h.upd)
  · exact .ite (SameQueue.ite h.upd h.upd).leaveHoldover (.ite (SameQueue.ite h.upd h.upd).leaveHoldover (.ite
        h.upd h.upd))
  · exact h

theorem SameQueue.edgeMissed (h : SameQueue s t) : SameQueue s t.edgeMissed := by
  unfold State.edgeMissed
  dsimp only
  split
  · exact .ite h.upd.enterHoldover h.upd
  · exact .ite h.upd.enterHoldover h.upd
  · exact h.upd
  · exact h

theorem SameQueue.startSource (h : SameQueue s t) {src : Nat} : SameQueue s (t.startSource src) := h.upd

theorem SameQueue.takeTickSettings (h : SameQueue s t) : SameQueue s t.takeTickSettings := by
  unfold State.takeTickSettings
  exact (SameQueue.ite (SameQueue.ite h.upd h).set (.ite h.upd h)).set

theorem SameQueue.resetTo (h : SameQueue s t) {k : Nat} : SameQueue s (t.resetTo k) := by
  unfold State.resetTo
  dsimp only
  split
  · exact h.upd
  · exact h.upd
  · exact h.upd
  · exact h.upd
  · exact h.upd

theorem SameQueue.startExit (h : SameQueue s t) {src : Nat} : SameQueue s (t.startExit src) := by
  unfold State.startExit
  split
  · split
    · exact h.upd
    · exact h
  · exact .ite h.upd h
  · exact .ite h.resetTo.set h
  · exact h
  · exact h
  · exact h

theorem SameQueue.wakeEvent (h : SameQueue s t) {src ns tick : Nat} : SameQueue s (t.wakeEvent src ns tick) := by
  unfold State.wakeEvent
  exact .ite h (.ite h.upd.startExit h.upd.startExit)

theorem SameQueue.wakeNow (h : SameQueue s t) {src : Nat} : SameQueue s (t.wakeNow src) := by
  unfold State.wakeNow
  exact h.wakeEvent

theorem SameQueue.modeChangedAt (h : SameQueue s t) {ns tick old new step cause : Nat} :
    SameQueue s (t.modeChangedAt ns tick old new step cause) := by
  unfold State.modeChangedAt
  exact h.logEvent.set

theorem SameQueue.modeChanged (h : SameQueue s t) {old new step cause : Nat} :
    SameQueue s (t.modeChanged old new step cause) := by
  unfold State.modeChanged
  exact h.modeChangedAt

theorem SameQueue.requestMode (h : SameQueue s t) {v cause : Nat} : SameQueue s (t.requestMode v cause) := by
  unfold State.requestMode
  refine .ite h.upd ?_
  split
  · exact .ite h.upd h.upd
  · exact .ite h.upd.wakeNow (.ite (.ite h.upd h.upd) (.ite h.upd (.ite h.upd (.ite h.upd h.upd))))

theorem SameQueue.armLatch (h : SameQueue s t) : SameQueue s t.armLatch := by
  unfold State.armLatch
  exact .ite h.upd.wakeEvent h.upd

theorem SameQueue.darken (h : SameQueue s t) : SameQueue s t.darken := by
  unfold State.darken
  exact .foldl h fun k => .ite k.upd k.upd

theorem SameQueue.resumeChannels (h : SameQueue s t) : SameQueue s t.resumeChannels := by
  unfold State.resumeChannels
  exact .foldl h fun k => .ite k.resumed k

theorem SameQueue.modeEdge (h : SameQueue s t) : SameQueue s t.modeEdge := by
  unfold State.modeEdge
  split
  · split
    · exact .ite h.upd.resumeChannels h.upd
    · exact h.upd.requestOp.armLatch.modeChanged
    · exact h.upd.armLatch.modeChanged.darken
  · exact h.darken
  · exact h
  · exact h
  · exact h

theorem SameQueue.quiesce (h : SameQueue s t) : SameQueue s t.quiesce := by
  unfold State.quiesce
  split
  · exact .ite (.ite h.upd h.upd) h
  · exact h

theorem SameQueue.completeEntry (h : SameQueue s t) : SameQueue s t.completeEntry := by
  unfold State.completeEntry
  split
  · dsimp only
    split
    · exact h.upd
    · exact h.upd.startExit
  · exact h

theorem SameQueue.replayWakes (h : SameQueue s t) {left : Mode} : SameQueue s (t.replayWakes left) := by
  unfold State.replayWakes
  exact .foldl (.ite (.ite h.modeChangedAt h) (SameQueue.ite h.modeChangedAt h).modeChanged) fun k => k.logEvent.set

theorem SameQueue.replayEdge (h : SameQueue s t) : SameQueue s t.replayEdge := by
  unfold State.replayEdge
  split
  · exact h
  · exact .ite h h.replayWakes.set

theorem SameQueue.recheckPartners (h : SameQueue s t) {present : List Nat} :
    SameQueue s (t.recheckPartners present) :=
  h.only (State.recheckPartners_onlyIn _ _) (by decide)

theorem SameQueue.wakeFromRetain (h : SameQueue s t) {present : List Nat} :
    SameQueue s (t.wakeFromRetain present) := by
  unfold State.wakeFromRetain
  exact .foldl h.upd.recheckPartners.lockPlls.set fun k => k.panelUp

theorem SameQueue.goOff (h : SameQueue s t) : SameQueue s t.goOff := h.upd

theorem SameQueue.railsFall (h : SameQueue s t) : SameQueue s t.railsFall := h.upd

theorem SameQueue.surge (h : SameQueue s t) {ms : Nat} : SameQueue s (t.surge ms) := by
  unfold State.surge
  exact .ite h.advanceNs.set.goOff.set h.advanceNs.set.bump

theorem SameQueue.auxOff (h : SameQueue s t) {n : Nat} : SameQueue s (t.auxOff n) := by
  unfold State.auxOff
  exact .ite h.upd.raiseCond.set h

theorem SameQueue.auxAgain (h : SameQueue s t) {n : Nat} {holds : Bool} : SameQueue s (t.auxAgain n holds) := by
  unfold State.auxAgain
  exact .ite h.upd h

theorem SameQueue.modPhase (h : SameQueue s t) {p : Nat} {f : Phase → Phase} : SameQueue s (t.modPhase p f) := h.upd

theorem SameQueue.takeOver (h : SameQueue s t) {p : Nat} {wasActive : Bool} :
    SameQueue s (t.takeOver p wasActive) := by
  unfold State.takeOver
  exact .ite h.upd (.ite h h.upd)

theorem SameQueue.afterLoss (h : SameQueue s t) : SameQueue s t.afterLoss := by
  unfold State.afterLoss
  exact .ite h.clockAt.set.raiseCond.enforceCeil (.ite (.ite (.ite h.upd h) (SameQueue.ite h.upd h).raise) h)

theorem SameQueue.markEstimated (h : SameQueue s t) : SameQueue s t.markEstimated := by
  unfold State.markEstimated
  exact .ite h.upd h

theorem SameQueue.shed (h : SameQueue s t) {state p : Nat} : SameQueue s (t.shed state p) := by
  unfold State.shed
  exact .ite h h.markEstimated.modPhase.bump.raiseCond.takeOver.afterLoss

theorem SameQueue.checkPhase (h : SameQueue s t) {r : PhaseSense} : SameQueue s (t.checkPhase r) := by
  unfold State.checkPhase
  exact .ite h (.ite h.upd.shed h.upd)

theorem SameQueue.checkPhases (h : SameQueue s t) {rs : List PhaseSense} {inputOk : Bool} :
    SameQueue s (t.checkPhases rs inputOk) := by
  unfold State.checkPhases
  exact (SameQueue.foldl (SameQueue.ite h h.upd).markEstimated fun k => k.checkPhase).markEstimated

theorem SameQueue.park (h : SameQueue s t) {a b : Nat} : SameQueue s (t.park a b) := by
  unfold State.park
  exact .ite h.upd h

theorem SameQueue.thermFall (h : SameQueue s t) {hot : Bool} : SameQueue s (t.thermFall hot) := by
  unfold State.thermFall
  dsimp only
  refine .ite ?_ h.upd
  split
  · exact h.upd
  · exact .ite h.upd h

theorem SameQueue.thermRise (h : SameQueue s t) {cool : Bool} : SameQueue s (t.thermRise cool) := by
  unfold State.thermRise
  dsimp only
  refine .ite ?_ h.upd
  split
  · exact h.upd
  · exact .ite h.upd h

theorem SameQueue.readTherm (h : SameQueue s t) {tj treg : Int} : SameQueue s (t.readTherm tj treg) := by
  unfold State.readTherm
  extract_lets later old p read hottest hot cool moved warned cooled over' own judged
  have moves : SameQueue s moved := h.advanceTo.set.thermFall.thermRise
  have warns : SameQueue s warned := .ite moves.raiseCond moves
  have cools : SameQueue s cooled := .ite warns.gone warns
  have judges : SameQueue s judged := by
    refine .ite ?_ cools.set
    split
    · exact cools.set
    · exact .ite cools.raise cools
  exact .ite judges.railsFall judges

theorem SameQueue.meterInto (h : SameQueue s t) {d : RegDef} {rest nj : Nat} :
    SameQueue s (t.meterInto d rest nj).1 :=
  h.upd

theorem SameQueue.meter (h : SameQueue s t) {m : MeterSample} : SameQueue s (t.meter m) := by
  unfold State.meter
  exact .ite h (SameQueue.foldl (.foldl h fun k => k.upd) fun k =>
      k.upd).meterInto.meterInto.meterInto.meterInto.set.markEstimated

theorem SameQueue.mramWrite (h : SameQueue s t) {a : Nat} {b : List Byte} {ok : Bool} :
    SameQueue s (t.mramWrite a b ok) := by
  unfold State.mramWrite
  exact .ite h.upd h.upd

theorem SameQueue.patchMismatch (h : SameQueue s t) {u : Nat} : SameQueue s (t.patchMismatch u) := by
  unfold State.patchMismatch
  exact h.raise

theorem SameQueue.loadPatch (h : SameQueue s t) {k : Nat} {mismatch : List Nat} :
    SameQueue s (t.loadPatch k mismatch) := by
  unfold State.loadPatch
  exact .ite h (.ite (.foldl h.upd fun k => .ite k.patchMismatch k) h.upd.raiseI)

theorem SameQueue.modSlot (h : SameQueue s t) {k : Nat} {f : FwSlot → FwSlot} : SameQueue s (t.modSlot k f) := by
  unfold State.modSlot
  exact .ite h.upd h.upd

theorem SameQueue.markBad (h : SameQueue s t) {k : Nat} : SameQueue s (t.markBad k) := by
  unfold State.markBad
  exact h.modSlot.set

theorem SameQueue.revertSlot (h : SameQueue s t) {k : Nat} : SameQueue s (t.revertSlot k) := by
  unfold State.revertSlot
  exact h.markBad.set

theorem SameQueue.bootFrom (h : SameQueue s t) {k : Nat} : SameQueue s (t.bootFrom k) := h.upd

theorem SameQueue.trySlot (h : SameQueue s t) {k : Nat} : SameQueue s (t.trySlot k).1 := by
  unfold State.trySlot
  split
  · exact h
  · exact h
  · exact .iteFst h.revertSlot (.iteFst h.upd h.markBad.set)

theorem SameQueue.chooseSlot (h : SameQueue s t) : SameQueue s t.chooseSlot.1 := by
  unfold State.chooseSlot
  dsimp only
  split
  · next e =>
      exact (h.trySlot.of_eq e)
  · next e =>
      exact (h.trySlot.of_eq e).trySlot

theorem SameQueue.wipeChip (h : SameQueue s t) {t' : Nat} : SameQueue s (t.wipeChip t') := by
  unfold State.wipeChip
  exact .ite h.upd h.upd

theorem SameQueue.wipeDram (h : SameQueue s t) : SameQueue s t.wipeDram := h.upd

theorem SameQueue.wipeDone (h : SameQueue s t) {us : Nat} : SameQueue s (t.wipeDone us) := h.upd

theorem SameQueue.stage (h : SameQueue s t) {n : Nat} : SameQueue s (t.stage n) := h.upd

theorem SameQueue.enterRescue (h : SameQueue s t) {noSlot : Bool} : SameQueue s (t.enterRescue noSlot) := by
  unfold State.enterRescue
  exact .ite h.upd.logFault.present.bump h.upd

theorem SameQueue.stage1 (h : SameQueue s t) : SameQueue s t.stage1 := by
  unfold State.stage1
  dsimp only
  split
  · exact h.upd
  · exact h.upd.wipeChip.set

theorem SameQueue.stage4 (h : SameQueue s t) {env : BootEnv} : SameQueue s (t.stage4 env) := by
  unfold State.stage4
  exact .ite h.upd.raise (.ite (.ite h.upd h.upd.raise) h.upd)

theorem SameQueue.boot (h : SameQueue s t) {rescue : Bool} {env : BootEnv} : SameQueue s (t.boot rescue env) := by
  unfold State.boot
  refine .ite h.upd.raise ?_
  refine .ite h.stage1.raise ?_
  refine .ite h.stage1.stage.enterRescue ?_
  split
  · next e =>
      exact (h.stage1.stage.chooseSlot.of_eq e).enterRescue
  · next e =>
      exact (h.stage1.stage.chooseSlot.of_eq e).stage.loadPatch.stage4

theorem SameQueue.raiseSheds (h : SameQueue s t) : SameQueue s t.raiseSheds := by
  unfold State.raiseSheds
  dsimp only
  refine .ite ?_ ?_
  · refine SameQueue.raise ?_
    refine .foldl h fun k => ?_
    split
    · exact k.raiseCond
    · exact k.raiseCond
    · exact k.raiseCond
    · exact k
  · refine .ite ?_ ?_
    · refine SameQueue.raiseCond ?_
      refine SameQueue.set ?_
      refine .foldl h fun k => ?_
      split
      · exact k.raiseCond
      · exact k.raiseCond
      · exact k.raiseCond
      · exact k
    · refine .foldl h fun k => ?_
      split
      · exact k.raiseCond
      · exact k.raiseCond
      · exact k.raiseCond
      · exact k

theorem SameQueue.reachConfig (h : SameQueue s t) : SameQueue s t.reachConfig := by
  unfold State.reachConfig
  extract_lets staged deep told p q sys tick mem pwr put locked own raised sheds
  have locks : SameQueue s locked := (SameQueue.ite h.upd.modeChanged h.upd).set.lockPlls
  have shed : SameQueue s sheds := (SameQueue.ite locks.set.raiseI locks).raiseSheds
  exact .ite shed.raiseCond shed

theorem SameQueue.bootComplete (h : SameQueue s t) : SameQueue s t.bootComplete := by
  unfold State.bootComplete
  refine .ite h (.ite h.reachConfig ?_)
  dsimp only
  split
  · exact h.stage1
  · have loads {k : Nat} : SameQueue s ((((t.stage1.stage 2).bootFrom k).stage 3).loadPatch k []) :=
      h.stage1.stage.bootFrom.stage.loadPatch
    exact (SameQueue.ite loads.wipeDram.wipeDone loads).reachConfig

theorem SameQueue.powerSequence (h : SameQueue s t) {env : BootEnv} : SameQueue s (t.powerSequence env) := by
  unfold State.powerSequence
  exact .ite h.upd (SameQueue.foldl h fun k => k.upd).set

theorem SameQueue.coldStart (h : SameQueue s t) {env : BootEnv} : SameQueue s (t.coldStart env) := by
  unfold State.coldStart
  exact .ite h.powerSequence h.powerSequence.boot

theorem SameQueue.startRestart (h : SameQueue s t) {cause : Nat} {rescue immediate : Bool} :
    SameQueue s (t.startRestart cause rescue immediate) := by
  unfold State.startRestart
  exact .ite h (.ite h.upd (.foldl h.upd fun k => k.upd))

theorem SameQueue.transition (h : SameQueue s t) {t' : Nat} {env : BootEnv} :
    SameQueue s (t.transition t' env) := by
  unfold State.transition
  exact .ite h.wipeChip.wipeDram.wipeDone.resetTo.boot h.wipeChip.wipeDram.set.raise

theorem SameQueue.atReset (h : SameQueue s t) {env : BootEnv} : SameQueue s (t.atReset env) := by
  unfold State.atReset
  split
  · exact h
  · refine .ite ?_ h
    refine .ite ?_ h.resetTo.boot
    split
    · exact h.transition
    · exact h

theorem SameQueue.watchdog (h : SameQueue s t) {env : BootEnv} : SameQueue s (t.watchdog env) := by
  unfold State.watchdog
  exact .ite h h.revertSlot.resetTo.set.boot

theorem SameQueue.programSlot (h : SameQueue s t) {len : Nat} {ok : Bool} {k : Nat} :
    SameQueue s (State.programSlot len ok t k) := by
  unfold State.programSlot
  exact h.mramWrite.modSlot

theorem SameQueue.rescueGo (h : SameQueue s t) {len slots : Nat} {ok : Bool} :
    SameQueue s (t.rescueGo len slots ok) := by
  unfold State.rescueGo
  exact .ite h (.ite h.upd (.ite (SameQueue.foldl h fun k => k.programSlot).set (SameQueue.foldl h fun k =>
      k.programSlot).set))

theorem SameQueue.lcsCommand (h : SameQueue s t) {cmd key : Nat} {fuseOk : Bool} :
    SameQueue s (t.lcsCommand cmd key fuseOk) := by
  unfold State.lcsCommand
  exact .ite h (.ite h.upd (.ite h (.ite h.upd (.ite h.upd (.ite h.upd h.upd)))))

theorem SameQueue.enterJob (h : SameQueue s t) {n : Nat} {d : Desc} {poll : Nat} :
    SameQueue s (t.enterJob n d poll) := by
  unfold State.enterJob
  dsimp only
  split
  · exact h.upd.takeFlow.set.decBound.endJob
  · exact .ite h.upd.takeFlow.set.decBound.set h.upd.takeFlow.set.decBound

theorem SameQueue.fetchFailed (h : SameQueue s t) {n : Nat} {poisoned : Bool} :
    SameQueue s (t.fetchFailed n poisoned) := by
  unfold State.fetchFailed
  exact .ite (SameQueue.ite h.upd.raiseI h.upd).setSq (SameQueue.ite h.upd.raiseI h.upd).setSq.raiseI

theorem SameQueue.noteServed (h : SameQueue s t) {n : Nat} : SameQueue s (t.noteServed n) := h.upd

theorem SameQueue.endFetch (h : SameQueue s t) : SameQueue s t.endFetch := by
  unfold State.endFetch
  dsimp only
  split
  · exact h.upd
  · exact .ite h.upd h.upd.event

theorem SameQueue.fetchAll {poll : Nat} (h : SameQueue s t) {arrivals : List (Served (List Byte))} :
    SameQueue s (t.fetchAll poll arrivals) := by
  induction arrivals generalizing t with
  | nil => exact .ite h.endFetch h
  | cons a arrivals ih =>
    unfold State.fetchAll
    split
    · exact h.endFetch
    · dsimp only
      split
      · exact ih h.noteServed.enterJob
      · exact ih h.noteServed.fetchFailed
      · exact ih h.noteServed.fetchFailed

theorem SameQueue.badIndex (h : SameQueue s t) {source : Nat} : SameQueue s (t.badIndex source) := by
  unfold State.badIndex
  exact h.raiseI

theorem SameQueue.takeLine {b : List Byte} (h : SameQueue s t) {n : Nat} : SameQueue s (State.takeLine b t n) := by
  unfold State.takeLine
  extract_lets pi ci ev q submitted c completed
  have submits : SameQueue s submitted := .ite (.ite h.upd h.upd.badIndex) h
  have completes : SameQueue s completed := .ite (.ite submits.setCq.freeBitstream submits.badIndex) submits
  exact .ite (.ite completes.set completes.badIndex) completes

theorem SameQueue.takeDoorbell (h : SameQueue s t) {b : List Byte} : SameQueue s (t.takeDoorbell b) := by
  unfold State.takeDoorbell
  exact (SameQueue.foldl h fun k => k.takeLine).set.drainDone

theorem SameQueue.doorbellFailed (h : SameQueue s t) {poisoned : Bool} :
    SameQueue s (t.doorbellFailed poisoned) := by
  unfold State.doorbellFailed
  exact .ite h.upd.raiseI.raiseI h.upd.raiseI

theorem SameQueue.readDoorbell (h : SameQueue s t) {a : Served (List Byte)} : SameQueue s (t.readDoorbell a) := by
  unfold State.readDoorbell
  split
  · exact h.takeDoorbell
  · exact h.doorbellFailed
  · exact h.doorbellFailed

theorem SameQueue.passFlow (h : SameQueue s t) {f : Nat} : SameQueue s (t.passFlow f) := h.upd

theorem SameQueue.releaseFlow {f k : Nat} (h : SameQueue s t) : SameQueue s (State.releaseFlow f k t) := by
  induction k generalizing t with
  | zero => exact h
  | succ k ih =>
    unfold State.releaseFlow
    refine .ite h ?_
    split
    · exact ih h.passFlow
    · split
      · split
        · next e => exact ih (h.postCpl.of_eq e).dropJob.passFlow
        · next e => exact ih (h.postCpl.of_eq e).dropJob.passFlow
        · next e => exact .ite (ih (h.postCpl.of_eq e).upd.dropJob.passFlow) (h.postCpl.of_eq e)
      · exact h
      · exact h
      · exact h

theorem SameQueue.release (h : SameQueue s t) : SameQueue s t.release := by
  unfold State.release
  exact .foldl h fun k => k.releaseFlow

theorem SameQueue.loseEvents (h : SameQueue s t) {n : Nat} : SameQueue s (t.loseEvents n) := by
  unfold State.loseEvents
  exact .ite h h.bumpBy.set

theorem SameQueue.postEvents (h : SameQueue s t) : SameQueue s t.postEvents := by
  unfold State.postEvents
  exact .ite (SameQueue.foldl h fun k => k.upd).set.loseEvents (SameQueue.foldl h fun k =>
      k.upd).set.loseEvents.signal

theorem SameQueue.dropOld (h : SameQueue s t) : SameQueue s t.dropOld := by
  unfold State.dropOld
  refine .foldl h fun k => ?_
  split
  · exact k.upd.dropJob
  · exact k.dropJob
  · exact k.dropJob
  · exact k.dropJob

theorem SameQueue.statusBlock (h : SameQueue s t) {poll : Nat} : SameQueue s (t.statusBlock poll) := by
  unfold State.statusBlock
  exact .ite h (SameQueue.ite h.dropOld h).hostWrite.set

theorem SameQueue.signalRing (h : SameQueue s t) {n : Nat} : SameQueue s (t.signalRing n) :=
  h.only (State.signalRing_onlyIn _ _) (by decide)

theorem SameQueue.moderationEdge (h : SameQueue s t) : SameQueue s t.moderationEdge := by
  unfold State.moderationEdge
  exact .foldl h fun k => .ite k.signalRing k

theorem SameQueue.finishPoll (h : SameQueue s t) : SameQueue s t.finishPoll := by
  unfold State.finishPoll
  split
  · exact h
  · exact .ite h (.ite (SameQueue.foldl (.ite h.upd.hwFlag h.upd) fun k =>
        k.considerAtPoll).feedEngines.statusBlock (SameQueue.foldl (.ite h.upd.hwFlag h.upd) fun k =>
        k.considerAtPoll).feedEngines)

theorem SameQueue.fetch (h : SameQueue s t) {arrivals : List (Served (List Byte))} :
    SameQueue s (t.fetch arrivals) := by
  unfold State.fetch
  exact .ite h.fetchAll.finishPoll h

theorem SameQueue.poll (h : SameQueue s t) {db : Served (List Byte)}
    {arrivals : List (Served (List Byte))} : SameQueue s (t.poll db arrivals) := by
  unfold State.poll
  exact .ite h (.ite (SameQueue.ite h.toOffset.set.set.readDoorbell.fetchAll
      h.toOffset.set.set.readDoorbell).finishPoll h.toOffset.set)

theorem SameQueue.refuseHeader (h : SameQueue s t) {n err : Nat} {h' : Header} :
    SameQueue s (t.refuseHeader n err h').1 := by
  unfold State.refuseHeader
  exact .iteFst h.upd (SameQueue.ite h h.upd).setChan

theorem SameQueue.checkHeader (h : SameQueue s t) {n : Nat} {au : Au} : SameQueue s (t.checkHeader n au).1 := by
  unfold State.checkHeader
  dsimp only
  split
  · exact .iteFst h.refuseHeader (.iteFst h h.upd)
  · exact h

theorem SameQueue.outHost (h : SameQueue s t) {j : Job} {i : Image} : SameQueue s (t.outHost j i) := by
  unfold State.outHost
  exact .ite (.foldl h fun k => k.upd) h

theorem SameQueue.keepPicture (h : SameQueue s t) {j : Job} {au : Au} {r : DecReport} {i : Image}
    {concealed tainted : Bool} : SameQueue s (t.keepPicture j au r i concealed tainted) := by
  unfold State.keepPicture
  exact .ite (SameQueue.ite h.upd.bumpBy.bumpBy h.upd.bumpBy).bump (.ite h.upd.bumpBy.bumpBy h.upd.bumpBy)

theorem SameQueue.finishDecode (h : SameQueue s t) {j : Job} {au : Au} {r : DecReport} :
    SameQueue s (t.finishDecode j au r) := by
  unfold State.finishDecode
  exact (SameQueue.ite h.exportBefore.outHost.keepPicture.refresh h.exportBefore.outHost.keepPicture).endJob

theorem SameQueue.endDecode (h : SameQueue s t) {id : Nat} {r : DecReport} : SameQueue s (t.endDecode id r) := by
  unfold State.endDecode
  split
  · exact h
  · split
    · exact h
    · refine .ite ?_ h
      refine SameQueue.maybeCompose ?_
      refine SameQueue.feedEngines ?_
      refine SameQueue.tidySlots ?_
      split
      · next e =>
          exact (h.upd.checkHeader.of_eq e).endJob
      · next e =>
          exact (h.upd.checkHeader.of_eq e).finishDecode

theorem SameQueue.rowCoded (h : SameQueue s t) {id bytes qp : Nat} : SameQueue s (t.rowCoded id bytes qp) := by
  unfold State.rowCoded
  split
  · exact h
  · exact .ite h (.ite (.ite h.exportBefore.modJob.sendUnit h.exportBefore.modJob) h.exportBefore.modJob)

theorem SameQueue.sendFrameEnd (h : SameQueue s t) {j : Job} {e : Encoder} {coded tail quality : Nat} :
    SameQueue s (t.sendFrameEnd j e coded tail quality) := by
  unfold State.sendFrameEnd
  exact .ite h (.ite h.sendUnit (.ite h.sendUnit.sendUnit h.sendUnit))

theorem SameQueue.finishEncode (h : SameQueue s t) {j : Job} {e : Encoder} {r : EncReport} :
    SameQueue s (t.finishEncode j e r) := by
  unfold State.finishEncode
  dsimp only
  refine SameQueue.endJob ?_
  refine .ite ?_ ?_
  · refine SameQueue.bump ?_
    refine .ite ?_ ?_
    · refine SameQueue.bump ?_
      refine SameQueue.bump ?_
      refine SameQueue.bump64 ?_
      refine SameQueue.modChan ?_
      split
      · exact .ite h.upd.sendFrameEnd.writeRecord.freshen h.upd.sendFrameEnd
      · exact h.upd.sendFrameEnd
    · refine SameQueue.bump ?_
      refine SameQueue.bump64 ?_
      refine SameQueue.modChan ?_
      split
      · exact .ite h.upd.sendFrameEnd.writeRecord.freshen h.upd.sendFrameEnd
      · exact h.upd.sendFrameEnd
  · refine .ite ?_ ?_
    · refine SameQueue.bump ?_
      refine SameQueue.bump ?_
      refine SameQueue.bump64 ?_
      refine SameQueue.modChan ?_
      split
      · exact .ite h.upd.sendFrameEnd.writeRecord.freshen h.upd.sendFrameEnd
      · exact h.upd.sendFrameEnd
    · refine SameQueue.bump ?_
      refine SameQueue.bump64 ?_
      refine SameQueue.modChan ?_
      split
      · exact .ite h.upd.sendFrameEnd.writeRecord.freshen h.upd.sendFrameEnd
      · exact h.upd.sendFrameEnd

theorem SameQueue.endEncode (h : SameQueue s t) {id : Nat} {r : EncReport} : SameQueue s (t.endEncode id r) := by
  unfold State.endEncode
  split
  · exact h
  · exact .ite h.exportBefore.bump64.finishEncode.finishStop.feedEngines h

theorem SameQueue.endStopped (h : SameQueue s t) {id : Nat} : SameQueue s (t.endStopped id) := by
  unfold State.endStopped
  split
  · exact h
  · refine .ite ?_ h
    split
    · exact h.upd.endDecode
    · exact h.upd.endEncode

theorem SameQueue.endAllStopped (h : SameQueue s t) : SameQueue s t.endAllStopped := by
  unfold State.endAllStopped
  exact .foldl h fun k => k.cutJob.endStopped

theorem SameQueue.noteOn {was : State} (h : SameQueue s t) : SameQueue s (was.noteOn t) :=
  .foldl h fun k => .ite k.upd k

theorem SameQueue.sweepPairs (h : SameQueue s t) : SameQueue s t.sweepPairs := by
  unfold State.sweepPairs
  exact .foldl h fun k => .ite k.upd k

theorem SameQueue.fioChange (h : SameQueue s t) {f : State → State} (k : ∀ {u}, SameQueue s u → SameQueue s (f u)) :
    SameQueue s (t.fioChange f) := (k h).noteOn.sweepPairs

theorem SameQueue.applyFout (h : SameQueue s t) {t' : Nat} {p : Nat × FoutSet} :
    SameQueue s (State.applyFout t' t p) := by
  unfold State.applyFout
  exact .ite h (.foldl h.upd fun k => .ite k.upd k)

theorem SameQueue.fioEdge (h : SameQueue s t) {t' : Nat} : SameQueue s (t.fioEdge t') := by
  unfold State.fioEdge
  exact .ite h (h.fioChange (fun k => .foldl k.upd fun k => .foldl k fun k => k.applyFout))

theorem SameQueue.stopPulses (h : SameQueue s t) : SameQueue s t.stopPulses := by
  unfold State.stopPulses
  exact h.fioChange (fun k => k.upd)

theorem SameQueue.restartPulses (h : SameQueue s t) : SameQueue s t.restartPulses := by
  unfold State.restartPulses
  exact h.fioChange (fun k => k.upd)

theorem SameQueue.pulseStart (h : SameQueue s t) {n : Nat} : SameQueue s (t.pulseStart n) := by
  unfold State.pulseStart
  exact .ite (h.toOffset.fioChange (fun k => k.upd)) h

theorem SameQueue.pulseEnd (h : SameQueue s t) {n : Nat} : SameQueue s (t.pulseEnd n) := by
  unfold State.pulseEnd
  exact .ite (h.toOffset.fioChange (fun k => k.upd)) h

theorem SameQueue.openLoad (h : SameQueue s t) {n : Nat} {whileOn : Bool} : SameQueue s (t.openLoad n whileOn) := by
  unfold State.openLoad
  exact .ite h.upd.raiseCond h

theorem SameQueue.shortGround (h : SameQueue s t) {n : Nat} : SameQueue s (t.shortGround n) := by
  unfold State.shortGround
  exact .ite (.ite (h.fioChange (fun k => k.upd)).raiseCond (h.fioChange (fun k => k.upd))) h

theorem SameQueue.retryShort (h : SameQueue s t) {n : Nat} {still : Bool} : SameQueue s (t.retryShort n still) := by
  unfold State.retryShort
  exact .ite ((h.upd.fioChange (fun k => k.upd)).fioChange (fun k => .ite k.upd k.upd)) h

theorem SameQueue.conflict (h : SameQueue s t) {b a : Nat} : SameQueue s (State.conflict b t a) := by
  unfold State.conflict
  exact h.upd.raiseI.present.fioChange (fun k => k.upd)

theorem SameQueue.extDrive (h : SameQueue s t) {b : Nat} : SameQueue s (t.extDrive b) := by
  unfold State.extDrive
  exact .ite (.foldl h.upd.raiseCond fun k => k.conflict) h

theorem SameQueue.diagEnd (h : SameQueue s t) {n : Nat} {external : Bool} : SameQueue s (t.diagEnd n external) := by
  unfold State.diagEnd
  exact .ite (.ite (h.fioChange (fun k => k.upd)) h) (.ite h.upd h)

theorem SameQueue.vfieldGone (h : SameQueue s t) : SameQueue s t.vfieldGone := by
  unfold State.vfieldGone
  exact .ite h.upd.raiseCond h

theorem SameQueue.vfieldBack (h : SameQueue s t) {mv : Nat} : SameQueue s (t.vfieldBack mv) := by
  unfold State.vfieldBack
  exact .ite h.upd h

theorem SameQueue.finEdge (h : SameQueue s t) {n : Nat} {rising : Bool} {ns : Nat} :
    SameQueue s (t.finEdge n rising ns) := by
  unfold State.finEdge
  extract_lets at' woken stamp tick later fio put counted sampled
  have counts : SameQueue s counted := h.advanceTo.set.bump.hwFlag
  have samples : SameQueue s sampled := .ite counts.sourceEdge counts
  exact .ite h (.ite (.ite h.advanceTo.wakeEvent h.advanceTo) (.ite h (.ite samples.wakeEvent samples)))

theorem SameQueue.openTick (h : SameQueue s t) : SameQueue s t.openTick := by
  unfold State.openTick
  exact (SameQueue.ite h.guardStop h).set.endAllStopped.advanceTo.takeTickSettings.set.set

theorem SameQueue.flipAll (h : SameQueue s t) {errs : List Int} : SameQueue s (t.flipAll errs) := by
  unfold State.flipAll
  exact (SameQueue.foldl h fun k => k.flip).set

theorem SameQueue.switchOverlay (h : SameQueue s t) {x : Nat × Overlay} : SameQueue s (t.switchOverlay x) := by
  unfold State.switchOverlay
  exact h.returnCells.set

theorem SameQueue.switchOverlays (h : SameQueue s t) : SameQueue s t.switchOverlays := by
  unfold State.switchOverlays
  exact .foldl h.upd fun k => k.switchOverlay

theorem SameQueue.capturePanels (h : SameQueue s t) : SameQueue s t.capturePanels := by
  unfold State.capturePanels
  refine .foldl h fun k => ?_
  split
  · exact k
  · exact .ite (.ite k.upd (.ite k.offerEncode k)) k

theorem SameQueue.drainBuffers (h : SameQueue s t) : SameQueue s t.drainBuffers := h.upd

theorem SameQueue.ceilingEdge (h : SameQueue s t) : SameQueue s t.ceilingEdge := by
  unfold State.ceilingEdge
  exact (SameQueue.ite h.upd h.upd.event).set.enforceCeil

theorem SameQueue.repairCopy (h : SameQueue s t) : SameQueue s t.repairCopy := by
  unfold State.repairCopy
  exact .ite h.upd h

theorem SameQueue.modeStep (h : SameQueue s t) : SameQueue s t.modeStep := by
  unfold State.modeStep
  exact .ite h.modeEdge.stopPulses h.modeEdge

theorem SameQueue.resumeEdge (h : SameQueue s t) : SameQueue s t.resumeEdge := by
  unfold State.resumeEdge
  exact .ite h.upd.resumeChannels h

theorem SameQueue.modBpm (h : SameQueue s t) {f : Bpm → Bpm} : SameQueue s (t.modBpm f) := h.upd

theorem SameQueue.combLow (h : SameQueue s t) {c : Nat} : SameQueue s (t.combLow c) := by
  unfold State.combLow
  exact .ite h (.ite (SameQueue.ite h.event.modBpm h).event.modBpm (.ite h.event.modBpm h))

theorem SameQueue.combEdge (h : SameQueue s t) : SameQueue s t.combEdge := by
  unfold State.combEdge
  exact (SameQueue.foldl h fun k => k.combLow).set

theorem SameQueue.applyEdge (h : SameQueue s t) : SameQueue s t.applyEdge := by
  unfold State.applyEdge
  exact h.chanEdges.applyChanges.switchOverlays.modeStep.fioEdge.capturePanels.drainBuffers.ceilingEdge.repairCopy

theorem SameQueue.edge (h : SameQueue s t) {errs : List Int} : SameQueue s (t.edge errs) := by
  unfold State.edge
  have opens : SameQueue s ((t.openTick.flipAll errs).applyEdge) := h.openTick.flipAll.applyEdge
  have recovers := opens.release.reclaimDue.reactionEdge.returnUnits.resumeEdge
  exact .ite h
      recovers.staleEdge.combEdge.replayEdge.postEvents.statusBlock.moderationEdge.quiesce.freePartners.set.hwFlag

theorem SameQueue.ptpLeave (h : SameQueue s t) {m state : Nat} : SameQueue s (t.ptpLeave m state) :=
  h.only (State.ptpLeave_onlyIn _ _ _) (by decide)

theorem SameQueue.ptpOffset (h : SameQueue s t) {m : Nat} {offset : Int} : SameQueue s (t.ptpOffset m offset) := by
  unfold State.ptpOffset
  exact (SameQueue.ite (.ite h.upd.ptpLeave h.upd) (.ite h.upd h.upd)).startPort

theorem SameQueue.ptpMeasure (h : SameQueue s t) {m : Nat} {t1 : Int} {t2 : Nat} :
    SameQueue s (t.ptpMeasure m t1 t2) := by
  unfold State.ptpMeasure
  exact h.upd.ptpOffset

theorem SameQueue.ptpSync (h : SameQueue s t) {m : Nat} {b : List Byte} {t2 : Nat} :
    SameQueue s (t.ptpSync m b t2) := by
  unfold State.ptpSync
  exact .ite h.upd h.upd.ptpMeasure

theorem SameQueue.ptpFollowUp (h : SameQueue s t) {m : Nat} {b : List Byte} : SameQueue s (t.ptpFollowUp m b) := by
  unfold State.ptpFollowUp
  split
  · exact h
  · exact .ite h.ptpMeasure h

theorem SameQueue.ptpDelayResp (h : SameQueue s t) {m : Nat} {b : List Byte} :
    SameQueue s (t.ptpDelayResp m b) := by
  unfold State.ptpDelayResp
  dsimp only
  split
  · exact .ite h.upd h
  · exact h

theorem SameQueue.ptpAnnounce (h : SameQueue s t) {m : Nat} {b : List Byte} : SameQueue s (t.ptpAnnounce m b) := by
  unfold State.ptpAnnounce
  exact .ite h.upd h.upd

theorem SameQueue.ptpMessage (h : SameQueue s t) {m : Nat} {b : List Byte} {t2 : Nat} :
    SameQueue s (t.ptpMessage m b t2) := by
  unfold State.ptpMessage
  refine .ite h ?_
  split
  · exact .ite h.ptpAnnounce h
  · exact .ite h.ptpSync h
  · exact .ite h.ptpFollowUp h
  · exact .ite h.ptpDelayResp h
  · exact h

theorem SameQueue.ptpTimeout (h : SameQueue s t) {m : Nat} : SameQueue s (t.ptpTimeout m) := by
  unfold State.ptpTimeout
  dsimp only
  split
  · exact h.advanceTo.ptpLeave
  · exact h.upd
  · exact h

theorem SameQueue.writePtp (h : SameQueue s t) {m : Nat} : SameQueue s (t.writePtp m) := by
  unfold State.writePtp
  exact .ite h.upd (SameQueue.ite h.ptpLeave h).modEth

theorem SameQueue.toSecond (h : SameQueue s t) {m : Nat} : SameQueue s (t.toSecond m) :=
  h.only (State.toSecond_onlyIn _ _) (by decide)

theorem SameQueue.missEdge (h : SameQueue s t) : SameQueue s t.missEdge := by
  unfold State.missEdge
  exact .ite h (SameQueue.ite h h.advanceTo).edgeMissed

theorem SameQueue.ppsStart (h : SameQueue s t) {m : Nat} : SameQueue s (t.ppsStart m) := by
  unfold State.ppsStart
  exact .ite h.toSecond.modEth h

theorem SameQueue.toHost (h : SameQueue s t) {m : Nat} {x : EthFrame} : SameQueue s (t.toHost m x) := by
  unfold State.toHost
  exact .ite h.upd h.upd.writeCpl.bump.hwFlag

theorem SameQueue.setFlow (h : SameQueue s t) {f : Nat} {x : Flow} : SameQueue s (t.setFlow f x) := h.upd

theorem SameQueue.police (h : SameQueue s t) {f cost : Nat} : SameQueue s (t.police f cost).1 := by
  by_cases free : t.fld TRF_FLOW_RATE 21 0 f = 0
  · unfold State.police
    rw [if_pos free]
    exact h
  · by_cases paid : cost * 10 ^ 9 ≤ t.tokensNow f
    · rw [State.police_passes free paid]
      exact h.setFlow
    · rw [State.police_drops free (Nat.lt_of_not_le paid)]
      exact SameQueue.bump h.setFlow

theorem SameQueue.flowArrives (h : SameQueue s t) {f : Nat} {p : Packet} {r : Rtp} :
    SameQueue s (t.flowArrives f p r) := by
  unfold State.flowArrives
  exact h.upd.arrive

theorem SameQueue.unbindChanged (h : SameQueue s t) {p : Nat} : SameQueue s (t.unbindChanged p) := by
  unfold State.unbindChanged
  exact .foldl h fun k => .ite k.upd.partnerChanged k

theorem SameQueue.sourceChanged (h : SameQueue s t) {f : Nat} {p : Packet} {r : Rtp} :
    SameQueue s (t.sourceChanged f p r) := by
  unfold State.sourceChanged
  dsimp only
  refine .ite h ?_
  split
  · exact h.upd
  · exact h.upd.partnerChanged.unbindChanged

theorem SameQueue.dropOpen (h : SameQueue s t) {f : Nat} : SameQueue s (t.dropOpen f) :=
  h.only (State.dropOpen_onlyIn _ _) (by decide)

theorem SameQueue.unitLost (h : SameQueue s t) {f : Nat} {u : OpenAu} : SameQueue s (t.unitLost f u) := by
  unfold State.unitLost
  exact h.returnCells.setFlow.bump.refreshFlow

theorem SameQueue.growUnit {comb tag k : Nat} (h : SameQueue s t) {got : List Nat} :
    SameQueue s (State.growUnit comb tag k t got).1 := by
  induction k generalizing t got with
  | zero => exact h
  | succ k ih =>
    unfold State.growUnit
    split
    · next e => exact ih (h.allocCell.of_eq e)
    · next e => exact (h.allocCell.of_eq e).returnCells

theorem SameQueue.writePayload (h : SameQueue s t) {f n : Nat} : SameQueue s (t.writePayload f n) := by
  unfold State.writePayload
  split
  · exact h
  · refine .ite h ?_
    dsimp only
    split
    · next e => exact (h.growUnit.of_eq e).setFlow
    · next e => exact (h.growUnit.of_eq e).poolFails fun k => k.unitLost

theorem SameQueue.closeUnit (h : SameQueue s t) {f : Nat} {au : Option Au} : SameQueue s (t.closeUnit f au) := by
  unfold State.closeUnit
  split
  · exact h
  · refine .ite h.setFlow ?_
    dsimp only
    split
    · exact (SameQueue.ite h.setFlow.refreshFlow h.setFlow).frameFrom.raiseMismatch
    · exact (SameQueue.ite h.setFlow.refreshFlow h.setFlow).returnCells

theorem SameQueue.takePacket (h : SameQueue s t) {f : Nat} {r : Rtp} {gap : Bool} {ended au : Option Au} :
    SameQueue s (t.takePacket f r gap ended au) := by
  unfold State.takePacket
  dsimp only
  refine .ite ?_ ?_
  · refine SameQueue.closeUnit ?_
    refine SameQueue.writePayload ?_
    split
    · split
      · exact h
      · exact .iteFst (.ite h.upd h) h.upd.closeUnit
    · refine SameQueue.setFlow ?_
      split
      · exact h
      · exact .iteFst (.ite h.upd h) h.upd.closeUnit
  · refine SameQueue.writePayload ?_
    split
    · split
      · exact h
      · exact .iteFst (.ite h.upd h) h.upd.closeUnit
    · refine SameQueue.setFlow ?_
      split
      · exact h
      · exact .iteFst (.ite h.upd h) h.upd.closeUnit

theorem SameQueue.rtpPacket (h : SameQueue s t) {f : Nat} {p : Packet} {r : Rtp} {ended au : Option Au} :
    SameQueue s (t.rtpPacket f p r ended au) := by
  unfold State.rtpPacket
  extract_lets met flow dated ahead counted
  have dates : SameQueue s dated := (SameQueue.ite h.flowArrives h.sourceChanged).setFlow
  exact .ite dates.bump (SameQueue.ite dates dates.bumpBy).setFlow.takePacket

theorem SameQueue.flowPacket (h : SameQueue s t) {f : Nat} {p : Packet} {x : EthFrame} :
    SameQueue s (t.flowPacket f p x) := by
  unfold State.flowPacket
  dsimp only
  split
  · next e =>
      exact (h.upd.police.of_eq e)
  · next e =>
      exact .ite (h.upd.police.of_eq e).rtpPacket (h.upd.police.of_eq e).bump

theorem SameQueue.ipPacket (h : SameQueue s t) {m : Nat} {x : EthFrame} {p : Packet} :
    SameQueue s (t.ipPacket m x p) := by
  unfold State.ipPacket
  refine .ite h.upd ?_
  refine .ite h.upd ?_
  refine .ite h.toHost ?_
  refine .ite h.hwFlag.ptpMessage ?_
  refine .ite h.upd ?_
  split
  · exact h.flowPacket
  · exact h.toHost

theorem SameQueue.ethReceive (h : SameQueue s t) {m : Nat} {x : EthFrame} : SameQueue s (t.ethReceive m x) := by
  unfold State.ethReceive
  exact .ite h (.ite h.upd.raiseI (.ite h.upd (.ite h.upd (.ite h.upd.ipPacket h.upd.toHost))))

theorem SameQueue.flowSilent (h : SameQueue s t) {f : Nat} : SameQueue s (t.flowSilent f) := by
  unfold State.flowSilent
  dsimp only
  refine .ite h ?_
  split
  · exact h.dropOpen.setFlow
  · exact h.dropOpen.setFlow.depart

theorem SameQueue.ethDown (h : SameQueue s t) {m : Nat} : SameQueue s (t.ethDown m) := by
  unfold State.ethDown
  dsimp only
  refine .ite h ?_
  refine .foldl ?_ fun k => k.flushQueue
  split
  · exact h.raiseCond.modEth.txDone
  · exact h.raiseCond.modEth

theorem SameQueue.ethUp (h : SameQueue s t) {m : Nat} : SameQueue s (t.ethUp m) := by
  unfold State.ethUp
  exact .ite h.upd.startPort h

theorem SameQueue.creditBack (h : SameQueue s t) {q : Nat} : SameQueue s (t.creditBack q) := by
  unfold State.creditBack
  exact .ite h h.advanceNs.startPort

theorem SameQueue.sent (h : SameQueue s t) {m : Nat} : SameQueue s (t.sent m) := by
  unfold State.sent
  dsimp only
  split
  · exact h
  · exact (SameQueue.ite h.advanceTo.modEth.bump h.advanceTo.modEth).txDone.startPort

theorem SameQueue.modCsi (h : SameQueue s t) {p : Nat} {f : CsiPort → CsiPort} : SameQueue s (t.modCsi p f) := h.upd

theorem SameQueue.setStage (h : SameQueue s t) {p : Nat} {g : ProbeStage} : SameQueue s (t.setStage p g) := h.upd

theorem SameQueue.stageTime (h : SameQueue s t) {p ms : Nat} : SameQueue s (t.stageTime p ms) :=
  h.only (State.stageTime_onlyIn _ _ _) (by decide)

theorem SameQueue.found (h : SameQueue s t) {x : Partner} : SameQueue s (t.found x) :=
  h.only (State.found_onlyIn _ _) (by decide)

theorem SameQueue.csiArrived (h : SameQueue s t) {p : Nat} : SameQueue s (t.csiArrived p) := by
  unfold State.csiArrived
  exact h.upd.found

theorem SameQueue.initFrom (h : SameQueue s t) {p k : Nat} : SameQueue s (t.initFrom p k) :=
  h.only (State.initFrom_onlyIn _ _ _) (by decide)

theorem SameQueue.identityFrom (h : SameQueue s t) {p k : Nat} : SameQueue s (t.identityFrom p k) :=
  h.only (State.identityFrom_onlyIn _ _ _) (by decide)

theorem SameQueue.camAssert (h : SameQueue s t) {p : Nat} : SameQueue s (t.camAssert p) := by
  unfold State.camAssert
  exact .ite h.upd h.upd

theorem SameQueue.probeDelay (h : SameQueue s t) {p : Nat} : SameQueue s (t.probeDelay p) := by
  unfold State.probeDelay
  split
  · exact h.stageTime.identityFrom
  · exact h

theorem SameQueue.identityRead (h : SameQueue s t) {p : Nat} {read : IdentRead} :
    SameQueue s (t.identityRead p read) := by
  unfold State.identityRead
  split
  · split
    · exact h.upd.identityFrom
    · exact .ite h.upd h.upd.raiseI.modCsi.initFrom
  · exact h

theorem SameQueue.identityRetry (h : SameQueue s t) {p : Nat} : SameQueue s (t.identityRetry p) := by
  unfold State.identityRetry
  split
  · exact h.stageTime.setStage
  · exact h

theorem SameQueue.initWritten (h : SameQueue s t) {p : Nat} : SameQueue s (t.initWritten p) := by
  unfold State.initWritten
  split
  · exact h.initFrom
  · exact h

theorem SameQueue.initDelay (h : SameQueue s t) {p : Nat} : SameQueue s (t.initDelay p) := by
  unfold State.initDelay
  split
  · exact h.stageTime.initFrom
  · exact h

theorem SameQueue.i2cLow (h : SameQueue s t) {p : Nat} : SameQueue s (t.i2cLow p) := by
  unfold State.i2cLow
  exact .ite h (.ite h.upd.raiseCond.modCsi.csiArrived h.upd.raiseCond)

theorem SameQueue.camDeassert (h : SameQueue s t) {p : Nat} : SameQueue s (t.camDeassert p) := by
  unfold State.camDeassert
  exact .ite h.upd (.ite h.upd (.ite h.upd h.upd.departAll))

theorem SameQueue.countDrops (h : SameQueue s t) {port : Nat} : SameQueue s (t.countDrops port) :=
  h.only (State.countDrops_onlyIn _ _) (by decide)

theorem SameQueue.vcArrives (h : SameQueue s t) {p vc : Nat} : SameQueue s (t.vcArrives p vc) :=
  h.only (State.vcArrives_onlyIn _ _ _) (by decide)

theorem SameQueue.frameStart (h : SameQueue s t) {p vc : Nat} : SameQueue s (t.frameStart p vc) := by
  unfold State.frameStart
  exact .ite (SameQueue.ite h.upd.countDrops h).vcArrives.modCsi h

theorem SameQueue.longPacket (h : SameQueue s t) {p vc dt pixels lines : Nat} {data : List Byte} :
    SameQueue s (t.longPacket p vc dt pixels lines data) := by
  unfold State.longPacket
  exact .ite h (.ite h.upd h.upd)

theorem SameQueue.csiPacket (h : SameQueue s t) {p vc : Nat} {k : CsiPacket} :
    SameQueue s (t.csiPacket p vc k) := by
  unfold State.csiPacket
  split
  · exact h.frameStart
  · exact h
  · exact h.longPacket

theorem SameQueue.csiErrors (h : SameQueue s t) {p : Nat} {how : CsiEnd} {broken : Bool} :
    SameQueue s (t.csiErrors p how broken) :=
  h.only (State.csiErrors_onlyIn _ _ _ _) (by decide)

theorem SameQueue.frameEnd (h : SameQueue s t) {p vc : Nat} {how : CsiEnd} : SameQueue s (t.frameEnd p vc how) := by
  unfold State.frameEnd
  refine .ite h ?_
  dsimp only
  split
  · exact h.modCsi.bumpBy.csiErrors.countDrops
  · refine .ite h.modCsi.bumpBy.csiErrors.countDrops (.ite h.modCsi.bumpBy ?_)
    split
    · exact h.modCsi.bumpBy.bump
    · exact h.modCsi.bumpBy.bump.frameFrom.raiseMismatch

theorem SameQueue.modUsb (h : SameQueue s t) {n : Nat} {f : UsbPort → UsbPort} : SameQueue s (t.modUsb n f) := h.upd

theorem SameQueue.usbAttach (h : SameQueue s t) {n : Nat} : SameQueue s (t.usbAttach n) := by
  unfold State.usbAttach
  exact .ite h h.upd.hwFlag

theorem SameQueue.usbEnumerated (h : SameQueue s t) {n : Nat} {d : UsbDevice} :
    SameQueue s (t.usbEnumerated n d) := by
  unfold State.usbEnumerated
  exact .ite h (.ite h.upd.hwFlag.modUsb.bump.found h.upd.hwFlag.bump.raiseI)

theorem SameQueue.usbGone (h : SameQueue s t) {n : Nat} : SameQueue s (t.usbGone n) :=
  h.only (State.usbGone_onlyIn _ _) (by decide)

theorem SameQueue.usbDetach (h : SameQueue s t) {n : Nat} : SameQueue s (t.usbDetach n) := by
  unfold State.usbDetach
  exact .ite h h.usbGone.hwFlag

theorem SameQueue.usbOver (h : SameQueue s t) {n : Nat} : SameQueue s (t.usbOver n) := by
  unfold State.usbOver
  exact .ite h h.usbGone.modUsb.bump.raiseCond.hwFlag

theorem SameQueue.usbLow (h : SameQueue s t) {n : Nat} : SameQueue s (t.usbLow n) := by
  unfold State.usbLow
  exact h.usbOver

theorem SameQueue.usbRetry (h : SameQueue s t) {n : Nat} : SameQueue s (t.usbRetry n) := by
  unfold State.usbRetry
  exact .ite h h.advanceTo.modUsb.gone

theorem SameQueue.uvcFrame (h : SameQueue s t) {n : Nat} {f : UvcFrame} : SameQueue s (t.uvcFrame n f) := by
  unfold State.uvcFrame
  dsimp only
  refine .ite h.upd ?_
  refine .ite h.upd.hwFlag.bump ?_
  split
  · exact h.upd.hwFlag
  · exact h.upd.hwFlag.frameFrom.raiseMismatch

theorem SameQueue.takeJob (h : SameQueue s t) {id op : Nat} {f : Job → State → State}
    (k : ∀ {j u}, SameQueue s u → SameQueue s (f j u)) : SameQueue s (t.takeJob id op f) := by
  unfold State.takeJob
  split
  · exact h
  · exact .ite (.ite h h.refuse) (.ite h.refuse (.ite h.refuse (k h.returnCells.upd)))

theorem SameQueue.readFailed (h : SameQueue s t) {id : Nat} {poisoned : Bool} :
    SameQueue s (t.readFailed id poisoned) := by
  unfold State.readFailed
  exact .ite h.upd.raiseI.endJob h.upd.endJob

theorem SameQueue.withData (h : SameQueue s t) {id : Nat} {a : Served (List Byte)} {f : List Byte → State → State}
    (k : ∀ {b u}, SameQueue s u → SameQueue s (f b u)) : SameQueue s (t.withData id a f) := by
  unfold State.withData
  split
  · exact k h
  · exact h.readFailed
  · exact h.readFailed

theorem SameQueue.loseEntry (h : SameQueue s t) {k : Nat} : SameQueue s (t.loseEntry k) :=
  h.only (State.loseEntry_onlyIn _ _) (by decide)

theorem SameQueue.setLatch (h : SameQueue s t) {p : Path} {v : Nat} : SameQueue s (t.setLatch p v) :=
  h.only (State.setLatch_onlyIn _ _ _) (by decide)

theorem SameQueue.setRead (h : SameQueue s t) {p : Path} {v : Nat} : SameQueue s (t.setRead p v) :=
  h.only (State.setRead_onlyIn _ _ _) (by decide)

theorem SameQueue.readWord (h : SameQueue s t) {p : Path} {off : Nat} : SameQueue s (t.readWord p off).1 := by
  unfold State.readWord
  refine .iteFst ?_ h
  split
  · exact h
  · split
    · exact .ite h.upd h
    · exact h.setLatch

theorem SameQueue.read (h : SameQueue s t) {p : Path} {off size : Nat} : SameQueue s (t.read p off size).1 := by
  unfold State.read
  exact .iteFst h.readWord h

theorem SameQueue.countLate (h : SameQueue s t) {d : RegDef} {old v : Nat} : SameQueue s (t.countLate d old v) := by
  unfold State.countLate
  exact .ite h.upd h

theorem SameQueue.goFlows (h : SameQueue s t) : SameQueue s t.goFlows := h.only (State.goFlows_onlyIn _) (by decide)

theorem SameQueue.goDisplays (h : SameQueue s t) : SameQueue s t.goDisplays := h.upd

theorem SameQueue.goActive (h : SameQueue s t) : SameQueue s t.goActive := by
  unfold State.goActive
  exact .ite h.upd.goFlows.goDisplays h.upd.goFlows.goDisplays.startSource

theorem SameQueue.writeGo (h : SameQueue s t) : SameQueue s t.writeGo := by
  unfold State.writeGo
  exact .ite h.goActive h.upd

theorem SameQueue.noteRange (h : SameQueue s t) {off : Nat} {bad : Bool} : SameQueue s (t.noteRange off bad) := by
  unfold State.noteRange
  exact .ite h.upd (.ite (.ite h.upd h) (.ite h.upd h))

theorem SameQueue.writeRestart (h : SameQueue s t) {v : Nat} : SameQueue s (t.writeRestart v) := by
  unfold State.writeRestart
  exact .ite h.startRestart h.upd

theorem SameQueue.readsBack (h : SameQueue s t) {found : Option Bool} : SameQueue s (t.readsBack found).1 := by
  unfold State.readsBack
  split
  · exact h
  · exact h.upd

theorem SameQueue.writeLcs (h : SameQueue s t) {v : Nat} {found : Option Bool} :
    SameQueue s (t.writeLcs v found) := by
  unfold State.writeLcs
  exact h.readsBack.lcsCommand

theorem SameQueue.writeRescue (h : SameQueue s t) {v : Nat} {found : Option Bool} :
    SameQueue s (t.writeRescue v found) := by
  unfold State.writeRescue
  exact h.readsBack.rescueGo

theorem SameQueue.writeDisplay (h : SameQueue s t) {d old : Nat} {isCfg : Bool} :
    SameQueue s (t.writeDisplay d old isCfg) := by
  unfold State.writeDisplay
  exact .ite h.upd.enableWrite h.upd.recheckDisplays

theorem SameQueue.afterCfg (h : SameQueue s t) {d : RegDef} {i old : Nat} : SameQueue s (t.afterCfg d i old) := by
  unfold State.afterCfg
  exact .ite (.ite h.upd h) (.ite h.writeDisplay (.ite (SameQueue.ite h h.upd).recheckDisplays (.ite
      h.recheckDisplays (.ite h.writePtp h))))

theorem SameQueue.afterSvc (h : SameQueue s t) {p : Path} {d : RegDef} {v : Nat} {found : Option Bool} :
    SameQueue s (t.afterSvc p d v found) := by
  unfold State.afterSvc
  exact .ite h.upd.writeRestart (.ite (.ite h.upd.writeRescue h.upd) (.ite h.upd.writeLcs (.ite h.requestMode (.ite
      h.enforceCeil (.ite (.ite h.upd.wakeNow h.upd) (.ite h.upd (.ite h.upd h)))))))

theorem SameQueue.writeW1c (h : SameQueue s t) {d : RegDef} {i v : Nat} : SameQueue s (t.writeW1c d i v) := by
  unfold State.writeW1c
  exact .ite h.clearStatus (.ite h.upd h)

theorem SameQueue.setStaged (h : SameQueue s t) {p : Path} {x : Option (Nat × Nat)} :
    SameQueue s (t.setStaged p x) :=
  h.only (State.setStaged_onlyIn _ _ _) (by decide)

theorem SameQueue.write64 (h : SameQueue s t) {p : Path} {d : RegDef} {i w v : Nat} {increment : Bool} :
    SameQueue s (t.write64 p d i w v increment) := by
  unfold State.write64
  refine .ite (.ite h.setStaged.bump64 h.setStaged) ?_
  split
  · exact .ite h.upd.setStaged h.upd
  · exact h.upd

theorem SameQueue.writeCounter (h : SameQueue s t) {p : Path} {d : RegDef} {i w v : Nat}
    {increment : Bool} : SameQueue s (t.writeCounter p d i w v increment) := by
  unfold State.writeCounter
  exact .ite (.ite h.upd (.ite h.upd h.upd)) (.ite h.noteRange.write64 h.noteRange.wr)

theorem SameQueue.writeMsix (h : SameQueue s t) {off : Nat} {v : Word} : SameQueue s (t.writeMsix off v) := by
  unfold State.writeMsix
  exact h.upd.flushMsi

theorem SameQueue.writeSram (h : SameQueue s t) {off : Nat} {v : Word} : SameQueue s (t.writeSram off v) := by
  unfold State.writeSram
  exact .ite h.upd h.upd

theorem SameQueue.writeReg (h : SameQueue s t) {p : Path} {d : RegDef} {i j v : Nat} {found : Option Bool} :
    SameQueue s (t.writeReg p d i j v found) := by
  unfold State.writeReg
  extract_lets old taken counted cfg store stored noted cleared followed
  have counts : SameQueue s counted := h.countLate
  have stores {u : State} (k : SameQueue s u) : SameQueue s (store u) := k.wr
  have follows : SameQueue s followed :=
    have writes : SameQueue s stored := .ite (counts.fioChange stores) (stores counts)
    have clears : SameQueue s cleared := (SameQueue.ite writes.noteRange writes).writeW1c
    .ite clears.afterCfg clears
  exact .ite (.ite counts.writeGo counts) (.ite (.ite counts.startBuild counts)
    (.ite counts (.ite counts.noteRange (.ite counts.bump (.ite follows.afterSvc follows)))))

theorem SameQueue.writeWord (h : SameQueue s t) {p : Path} {off : Nat} {v : Word} {increment : Bool}
    {found : Option Bool} : SameQueue s (t.writeWord p off v increment found) := by
  unfold State.writeWord
  refine .ite h ?_
  refine .ite h.writeSram ?_
  refine .ite h.writeMsix ?_
  split
  · exact h
  · exact .ite h.writeCounter h.writeReg

theorem SameQueue.write (h : SameQueue s t) {p : Path} {off size : Nat} {v : Word} {increment : Bool} :
    SameQueue s (t.write p off size v increment) := by
  unfold State.write
  exact .ite h.writeWord h

theorem SameQueue.refuseCreate (h : SameQueue s t) {j : Job} {e : End} : SameQueue s (t.refuseCreate j e) := by
  unfold State.refuseCreate
  exact .foldl h.upd.endJob fun k => k.refuse

theorem SameQueue.makeChannel (h : SameQueue s t) {j : Job} {c : Channel} {hs : List Nat} :
    SameQueue s (t.makeChannel j c hs) := by
  unfold State.makeChannel
  exact h.upd.finish

theorem SameQueue.create (h : SameQueue s t) {j : Job} {c : Channel} : SameQueue s (t.create j c) := by
  unfold State.create
  dsimp only
  refine .ite h.upd.refuse ?_
  refine .ite h.refuseCreate ?_
  split
  · exact h.refuseCreate
  · split
    · next e =>
        exact (h.allocMany.of_eq e).poolFails (fun k => k.refuseCreate)
    · next e =>
        exact .ite (h.allocMany.of_eq e).returnCells.refuseCreate (h.allocMany.of_eq e).makeChannel

theorem SameQueue.chanCreate (h : SameQueue s t) {id : Nat} : SameQueue s (t.chanCreate id) := by
  unfold State.chanCreate
  exact h.takeJob (fun k => k.create)

theorem SameQueue.chanDestroy (h : SameQueue s t) {id : Nat} : SameQueue s (t.chanDestroy id) := by
  unfold State.chanDestroy
  exact h.takeJob (fun k => k.upd)

theorem SameQueue.chanPause (h : SameQueue s t) {id : Nat} : SameQueue s (t.chanPause id) := by
  unfold State.chanPause
  exact h.takeJob (fun k => .ite k.refuse k.upd.finish)

theorem SameQueue.chanResume (h : SameQueue s t) {id : Nat} : SameQueue s (t.chanResume id) := by
  unfold State.chanResume
  exact h.takeJob (fun k => (SameQueue.ite k k.upd).finish)

theorem SameQueue.chanBind (h : SameQueue s t) {id : Nat} : SameQueue s (t.chanBind id) := by
  unfold State.chanBind
  exact h.takeJob (fun k => .ite k.upd.finish k.refuse)

theorem SameQueue.chanExport (h : SameQueue s t) {id : Nat} : SameQueue s (t.chanExport id) := by
  unfold State.chanExport
  exact h.takeJob (fun k => .ite k.endJob (.ite k.refuse (.ite k.upd.refresh k.upd)))

theorem SameQueue.exportPoint (h : SameQueue s t) {n : Nat} : SameQueue s (t.exportPoint n) := by
  unfold State.exportPoint
  exact .ite h.exportDue h

theorem SameQueue.exportTimeout (h : SameQueue s t) {n : Nat} : SameQueue s (t.exportTimeout n) := by
  unfold State.exportTimeout
  split
  · exact h
  · exact .ite h.upd.refuse h

theorem SameQueue.chanImport (h : SameQueue s t) {id : Nat} {image : Served (List Byte)} :
    SameQueue s (t.chanImport id image) := by
  unfold State.chanImport
  refine h.takeJob fun k => ?_
  refine .ite k.create ?_
  split
  · exact .ite k.create k.refuseCreate
  · exact k.upd.readFailed
  · exact k.upd.readFailed

theorem SameQueue.padReset (h : SameQueue s t) : SameQueue s t.padReset := by
  unfold State.padReset
  exact .ite h h.resetTo.set

theorem SameQueue.resetHigh (h : SameQueue s t) {env : BootEnv} : SameQueue s (t.resetHigh env) := by
  unfold State.resetHigh
  exact .ite h.upd.boot h

theorem SameQueue.retrySequence (h : SameQueue s t) {env : BootEnv} : SameQueue s (t.retrySequence env) := by
  unfold State.retrySequence
  exact .ite h.advanceTo.coldStart h

theorem SameQueue.vinStops (h : SameQueue s t) : SameQueue s t.vinStops := by
  unfold State.vinStops
  exact .ite h h.upd

theorem SameQueue.brownout (h : SameQueue s t) : SameQueue s t.brownout := by
  unfold State.brownout
  exact .ite h.upd.raiseCond h

theorem SameQueue.brownoutOver (h : SameQueue s t) {mv : Nat} : SameQueue s (t.brownoutOver mv) := by
  unfold State.brownoutOver
  exact .ite (.ite h.upd h.upd) h

theorem SameQueue.clampEpisode (h : SameQueue s t) {ms : Nat} : SameQueue s (t.clampEpisode ms) := by
  unfold State.clampEpisode
  exact .ite h h.surge

theorem SameQueue.surgeOver (h : SameQueue s t) {env : BootEnv} : SameQueue s (t.surgeOver env) := by
  unfold State.surgeOver
  exact .ite h.resetTo.coldStart h

theorem SameQueue.supplyFault (h : SameQueue s t) {code src : Nat} {held : Bool} :
    SameQueue s (t.supplyFault code src held) := by
  unfold State.supplyFault
  exact .ite h.raise h.raise.railsFall

theorem SameQueue.vbus5 (h : SameQueue s t) {corruptCopies : Nat} {held : Bool} :
    SameQueue s (t.vbus5 corruptCopies held) := by
  unfold State.vbus5
  exact .ite h (.ite h.upd h.supplyFault)

theorem SameQueue.railOut (h : SameQueue s t) {rail : Nat} {held : Bool} : SameQueue s (t.railOut rail held) := by
  unfold State.railOut
  exact .ite h h.upd.supplyFault

theorem SameQueue.openPhases (h : SameQueue s t) {ps : List Nat} : SameQueue s (t.openPhases ps) := by
  unfold State.openPhases
  exact .ite (.foldl h fun k => k.shed) h

theorem SameQueue.senseCheck (h : SameQueue s t) {rs : List PhaseSense} {inputOk : Bool} :
    SameQueue s (t.senseCheck rs inputOk) := by
  unfold State.senseCheck
  exact .ite h.checkPhases h

theorem SameQueue.checkSpare (h : SameQueue s t) {passed openPhase : Bool} :
    SameQueue s (t.checkSpare passed openPhase) := by
  unfold State.checkSpare
  exact .ite h.shed h

theorem SameQueue.throttleOn (h : SameQueue s t) : SameQueue s t.throttleOn := by
  unfold State.throttleOn
  exact .ite h.upd h

theorem SameQueue.refFails (h : SameQueue s t) : SameQueue s t.refFails := by
  unfold State.refFails
  exact .ite (SameQueue.foldl h fun k => .ite k.upd k.upd).set.raise h

theorem SameQueue.cpllLost (h : SameQueue s t) {i : Nat} : SameQueue s (t.cpllLost i) := by
  unfold State.cpllLost
  exact .ite (.ite h.upd.raiseCond h.upd.raise) (.ite h.upd.raiseCond h.upd)

theorem SameQueue.cpllUnlocks (h : SameQueue s t) {i : Nat} {suppressedPulse : Bool} :
    SameQueue s (t.cpllUnlocks i suppressedPulse) := by
  unfold State.cpllUnlocks
  exact .ite (SameQueue.ite h.upd h).cpllLost h

theorem SameQueue.cpllRetunes (h : SameQueue s t) {i : Nat} : SameQueue s (t.cpllRetunes i) := by
  unfold State.cpllRetunes
  exact .ite h.upd h

theorem SameQueue.cpllReady (h : SameQueue s t) {i : Nat} : SameQueue s (t.cpllReady i) := by
  unfold State.cpllReady
  exact .ite h.upd h

theorem SameQueue.synthLocks (h : SameQueue s t) {i : Nat} {m : LockMethod} {band us : Nat} :
    SameQueue s (t.synthLocks i m band us) := by
  unfold State.synthLocks
  exact .ite (.ite h.lockSynth.gone h.lockSynth) h

theorem SameQueue.lockFails (h : SameQueue s t) {i : Nat} : SameQueue s (t.lockFails i) := by
  unfold State.lockFails
  exact .ite (.ite h.upd.cpllLost (.ite h.upd.raise h.upd.raise)) h

theorem SameQueue.oscFails (h : SameQueue s t) : SameQueue s t.oscFails := by
  unfold State.oscFails
  exact .ite h (.ite (.ite h.upd.advanceTo h.upd) (.ite (SameQueue.ite h.upd.advanceTo h.upd).raiseCond.wakeEvent
      (SameQueue.ite h.upd.advanceTo h.upd).raiseCond))

theorem SameQueue.scheduleChange (h : SameQueue s t) {j : Job} {c : LayerChange} :
    SameQueue s (t.scheduleChange j c) := by
  unfold State.scheduleChange
  exact h.upd.finish

theorem SameQueue.layerSet (h : SameQueue s t) {id : Nat} : SameQueue s (t.layerSet id) := by
  unfold State.layerSet
  exact h.takeJob (fun k => .ite k (.ite (.ite k.endJob k.scheduleChange) k.refuse))

theorem SameQueue.displayControl (h : SameQueue s t) {id : Nat} : SameQueue s (t.displayControl id) := by
  unfold State.displayControl
  exact h.takeJob (fun k => .ite k (.ite k.scheduleChange k.refuse))

theorem SameQueue.overlayLoad (h : SameQueue s t) {id : Nat} : SameQueue s (t.overlayLoad id) := by
  unfold State.overlayLoad
  refine h.takeJob fun k => ?_
  dsimp only
  refine .ite k ?_
  split
  · next e =>
      exact (k.allocMany.of_eq e).poolFails (fun k => k.endJob)
  · next e =>
      exact (k.allocMany.of_eq e).modJob.set

theorem SameQueue.overlayFailed (h : SameQueue s t) {c : Copy} {poisoned : Bool} :
    SameQueue s (t.overlayFailed c poisoned) := by
  unfold State.overlayFailed
  exact (SameQueue.ite h.returnCells.bump.raiseI h.returnCells.bump).raiseI.endJob

theorem SameQueue.copyEnd (h : SameQueue s t) {slot : Nat} {data : Served (List Byte)} :
    SameQueue s (t.copyEnd slot data) := by
  unfold State.copyEnd
  split
  · exact h
  · dsimp only
    split
    · exact h.upd.overlayFailed
    · exact h.upd.overlayFailed
    · exact h.upd.finish

theorem SameQueue.composeDeadline (h : SameQueue s t) : SameQueue s t.composeDeadline := by
  unfold State.composeDeadline
  exact .ite h.toOffset.startCompositor h

theorem SameQueue.composeEnd (h : SameQueue s t) {d : Nat} : SameQueue s (t.composeEnd d) := by
  unfold State.composeEnd
  refine .ite ?_ h
  extract_lets painted tick composed counted
  have paints : SameQueue s painted := by
    unfold painted
    split
    · exact h.paint
    · exact h
  have counts : SameQueue s counted := paints.set.bump64
  split
  · exact counts
  · exact counts.composeStart

theorem SameQueue.presentDecode (h : SameQueue s t) {id : Nat} {au : Au} : SameQueue s (t.presentDecode id au) := by
  unfold State.presentDecode
  exact h.takeJob (fun k => .ite k (.ite k.upd k.refuse))

theorem SameQueue.abandon (h : SameQueue s t) {id row col reason : Nat} {count : RegDef} :
    SameQueue s (t.abandon id row col reason count) := by
  unfold State.abandon
  split
  · exact h
  · exact .ite h.upd.endSegment h

theorem SameQueue.capJob (h : SameQueue s t) {id : Nat} {kind : CapKind} {row : Nat} :
    SameQueue s (t.capJob id kind row) := by
  unfold State.capJob
  split
  · exact h
  · exact .ite (.ite (.ite h.cutJob.modJob.modJob h.cutJob.modJob) (SameQueue.ite h.cutJob.modJob.modJob
        h.cutJob.modJob).leaveEngines.feedEngines) h

theorem SameQueue.capComposition (h : SameQueue s t) {d cycles : Nat} :
    SameQueue s (t.capComposition d cycles) := by
  unfold State.capComposition
  exact .ite h.cutCompose.composeNext h

theorem SameQueue.capReached (h : SameQueue s t) {id : Nat} {kind : CapKind} {row cycles : Nat} :
    SameQueue s (t.capReached id kind row cycles) := by
  unfold State.capReached
  split
  · exact h.capComposition
  · exact .ite h.capJob h
  · exact .ite h.capJob h
  · exact .ite h.capJob h

theorem SameQueue.switchContext (h : SameQueue s t) {e id bitPosition arithmetic : Nat} :
    SameQueue s (t.switchContext e id bitPosition arithmetic) := by
  unfold State.switchContext
  dsimp only
  split
  · exact .ite h.upd (.ite h.upd.takeSegment.bump h)
  · exact h
  · exact h
  · exact h

theorem SameQueue.spawn (h : SameQueue s t) {slot : Nat} {t' : Thread} : SameQueue s (t.spawn slot t') := by
  unfold State.spawn
  exact .ite (.ite h.upd.makeReady h.upd) h

theorem SameQueue.retire (h : SameQueue s t) {slot : Nat} : SameQueue s (t.retire slot) := by
  unfold State.retire
  exact .ite h.emptySlot.dispatch h

theorem SameQueue.yield_ (h : SameQueue s t) {c : Nat} : SameQueue s (t.yield_ c) := by
  unfold State.yield_
  split
  · exact h
  · exact .ite (.ite h.upd.trace.makeReady h.upd.trace.dispatch) h

theorem SameQueue.signalOp (h : SameQueue s t) {slot : Nat} {flags : Word} :
    SameQueue s (t.signalOp slot flags) := by
  unfold State.signalOp
  exact .ite h.signalThread h

theorem SameQueue.decOp (h : SameQueue s t) {slot : Nat} : SameQueue s (t.decOp slot) := by
  unfold State.decOp
  exact .ite h.decThread h

theorem SameQueue.bindOp (h : SameQueue s t) {slot : Nat} {what : Bound} : SameQueue s (t.bindOp slot what) := by
  unfold State.bindOp
  exact .ite h.upd h

theorem SameQueue.runLimit (h : SameQueue s t) {c : Nat} {steps : List Nat} : SameQueue s (t.runLimit c steps) := by
  unfold State.runLimit
  split
  · exact h
  · exact .ite h.advanceTo.raise h.advanceTo

theorem SameQueue.takeAction (h : SameQueue s t) {id action : Nat} {f : Job → State → State}
    (k : ∀ {j u}, SameQueue s u → SameQueue s (f j u)) : SameQueue s (t.takeAction id action f) :=
  h.takeJob fun l => .ite l (.ite l.endJob (.ite l.refuse (k l)))

theorem SameQueue.withEncode (h : SameQueue s t) {j : Job} {f : Encoder → State} (k : ∀ {e}, SameQueue s (f e)) :
    SameQueue s (t.withEncode j f) := by
  unfold State.withEncode
  split
  · exact h.refuse
  · exact .ite h.refuse k

theorem SameQueue.offerHeld (h : SameQueue s t) {n cq fromTick : Nat} {x : HeldFrame} :
    SameQueue s (t.offerHeld n cq fromTick x) := by
  unfold State.offerHeld
  split
  · exact h.upd
  · exact h.addEncode

theorem SameQueue.acceptFrame (h : SameQueue s t) {j : Job} {e : Encoder} {b : List Byte} :
    SameQueue s (t.acceptFrame j e b) := by
  unfold State.acceptFrame
  dsimp only
  split
  · exact h
  · exact .ite h.upd.offerHeld h.upd

theorem SameQueue.presentFrame (h : SameQueue s t) {id : Nat} {picture : Served (List Byte)} :
    SameQueue s (t.presentFrame id picture) := by
  unfold State.presentFrame
  exact h.takeAction (fun k => k.withEncode (.ite k.refuse (.ite k (k.withData (fun k => k.acceptFrame)))))

theorem SameQueue.startEncode (h : SameQueue s t) {j : Job} {b : List Byte} : SameQueue s (t.startEncode j b) := by
  unfold State.startEncode
  dsimp only
  split
  · exact h.endJob
  · split
    · next e => exact (h.allocMany.of_eq e).poolFails fun k => k.endJob
    · next e => exact (h.allocMany.of_eq e).freshen.modChan.finish

theorem SameQueue.encodeStart (h : SameQueue s t) {id : Nat} {block : Served (List Byte)} :
    SameQueue s (t.encodeStart id block) := by
  unfold State.encodeStart
  exact h.takeAction (fun k => .ite k.refuse (k.withData (fun k => k.startEncode)))

theorem SameQueue.releaseHeld (h : SameQueue s t) {n : Nat} {e : Encoder} : SameQueue s (t.releaseHeld n e) := by
  unfold State.releaseHeld
  exact .foldl h fun k => k.offerHeld

theorem SameQueue.encodeStop (h : SameQueue s t) {id : Nat} : SameQueue s (t.encodeStop id) := by
  unfold State.encodeStop
  exact h.takeAction (fun k => k.withEncode k.upd.releaseHeld.finishStop)

theorem SameQueue.updateEncode (h : SameQueue s t) {j : Job} {e : Encoder} {b : List Byte} :
    SameQueue s (t.updateEncode j e b) := by
  unfold State.updateEncode
  dsimp only
  refine .ite h.refuse ?_
  split
  · exact h.endJob
  · exact h.upd.finish

theorem SameQueue.encodeUpdate (h : SameQueue s t) {id : Nat} {block : Served (List Byte)} :
    SameQueue s (t.encodeUpdate id block) := by
  unfold State.encodeUpdate
  exact h.takeAction (fun k => k.withEncode (k.withData (fun k => k.updateEncode)))

theorem SameQueue.encodeForceIdr (h : SameQueue s t) {id : Nat} : SameQueue s (t.encodeForceIdr id) := by
  unfold State.encodeForceIdr
  exact h.takeAction (fun k => k.withEncode k.upd.finish)

theorem SameQueue.runChanJob (h : SameQueue s t) {j : Job} : SameQueue s (t.runChanJob j) := by
  unfold State.runChanJob
  split
  · exact h.chanCreate
  · exact h.chanDestroy
  · exact h.chanPause
  · exact h.chanResume
  · exact h.chanExport
  · exact h.chanBind
  · exact .ite h.encodeStop (.ite h.encodeForceIdr h)
  · exact h

theorem SameQueue.runChanJobs (h : SameQueue s t) : SameQueue s t.runChanJobs := by
  unfold State.runChanJobs
  exact .foldl h fun k => k.runChanJob

theorem SameQueue.sramCycle (h : SameQueue s t) {g : List PortAccess} : SameQueue s (t.sramCycle g) := by
  unfold State.sramCycle
  dsimp only
  refine SameQueue.bumpBy ?_
  split
  · exact h.upd
  · exact h

theorem SameQueue.sramRun {a n c : Nat} (h : SameQueue s t) {g : List PortAccess} {q : List Rival} {got : Nat} :
    SameQueue s (State.sramRun a n c t g q got).1 := by
  induction n generalizing t c g q got with
  | zero => exact h
  | succ n ih => exact ih h.sramCycle

theorem SameQueue.sramAccess (h : SameQueue s t) {a : Nat} {write : Option Word} {rivals : List Rival} :
    SameQueue s (t.sramAccess a write rivals).1 := by
  unfold State.sramAccess
  exact h.sramRun

theorem SameQueue.loseCell (h : SameQueue s t) {h' : Nat} : SameQueue s (t.loseCell h') := by
  unfold State.loseCell
  exact .ite h.upd h

theorem SameQueue.sramUe (h : SameQueue s t) {a : Nat} {what : SramUse} : SameQueue s (t.sramUe a what) := by
  unfold State.sramUe
  dsimp only
  split
  · exact .ite h.upd.raise h.upd.raise
  · exact (SameQueue.foldl h.upd fun k => k.loseCell).raise
  · exact h.upd.raise

theorem SameQueue.sramCheck (h : SameQueue s t) {a : Nat} {found : ScrubFind} :
    SameQueue s (t.sramCheck a found) := by
  unfold State.sramCheck
  split
  · exact h
  · exact h.upd.raiseI
  · exact h.sramUe

theorem SameQueue.windowWrite (h : SameQueue s t) {p : Path} {off : Nat} {v : Word} {x : SramAccess} :
    SameQueue s (t.windowWrite p off v x) := by
  unfold State.windowWrite
  exact .ite h (.ite h.upd h.sramAccess.sramCheck)

theorem SameQueue.badRead (h : SameQueue s t) {p : Path} : SameQueue s (t.badRead p) := by
  unfold State.badRead
  split
  · exact h.setRead.freshen.set
  · exact h.setRead

theorem SameQueue.windowRead (h : SameQueue s t) {p : Path} {off : Nat} {x : SramAccess} :
    SameQueue s (t.windowRead p off x) := by
  unfold State.windowRead
  refine .ite h.setRead ?_
  dsimp only
  split
  · exact h.sramAccess.sramUe.badRead
  · exact h.sramAccess.setRead
  · exact h.sramAccess.sramCheck.setRead

theorem SameQueue.ingressFails (h : SameQueue s t) {n : Nat} : SameQueue s (t.ingressFails n) := by
  unfold State.ingressFails
  split
  · exact h.upd
  · dsimp only
    refine .ite ?_ h.upd
    split
    · exact h.upd
    · exact .ite h h.upd

theorem SameQueue.cellForJob (h : SameQueue s t) {id : Option Nat} {size tag : Nat} {fallback : Bool}
    {reason : Option Nat} : SameQueue s (t.cellForJob id size tag fallback reason) := by
  unfold State.cellForJob
  split
  · next e =>
      exact (h.allocCell.of_eq e).modJob
  · next e =>
      exact (h.allocCell.of_eq e)
  · next e =>
      exact (h.allocCell.of_eq e).poolFails (fun k => k.endJob)
  · next e =>
      exact (h.allocCell.of_eq e).raiseMismatch

theorem SameQueue.request (h : SameQueue s t) {who : Requester} {size : Nat} :
    SameQueue s (t.request who size) := by
  unfold State.request
  refine .ite h ?_
  split
  · split
    · next e => exact h.allocCell.of_eq e
    · next e => exact (h.allocCell.of_eq e).poolFails fun k => k.ingressFails
  · split
    · next e _ => exact (h.allocCell.of_eq e).setFlow
    · next e _ => exact h.allocCell.of_eq e
    · next e _ => exact (h.allocCell.of_eq e).poolFails fun k => .ite k k.unitLost
    · next e _ => exact (h.allocCell.of_eq e).raiseMismatch
  · exact h.cellForJob
  · exact h.cellForJob
  · exact h.cellForJob
  · split
    · next e => exact h.allocCell.of_eq e
    · next e => exact (h.allocCell.of_eq e).poolFails fun k => k.capJob
  · exact h.cellForJob

theorem SameQueue.requestFree (h : SameQueue s t) {handle tag : Nat} : SameQueue s (t.requestFree handle tag) := by
  unfold State.requestFree
  exact .ite h.freeCell h

theorem SameQueue.freeAccess (h : SameQueue s t) {x : CombAccess} : SameQueue s (t.freeAccess x) := by
  unfold State.freeAccess
  split
  · exact .ite h.requestFree h
  · exact h

theorem SameQueue.combCycle (h : SameQueue s t) {l : List CombAccess} : SameQueue s (t.combCycle l) := by
  unfold State.combCycle
  exact .foldl (.foldl h fun k => k.freeAccess) fun k => k.request

theorem SameQueue.refill (h : SameQueue s t) {c : Nat} : SameQueue s (t.refill c) := by
  unfold State.refill
  exact .ite h.upd h

theorem SameQueue.spill (h : SameQueue s t) {c : Nat} : SameQueue s (t.spill c) := by
  unfold State.spill
  exact .ite h.upd h

theorem SameQueue.scrub (h : SameQueue s t) {a : Nat} {found : ScrubFind} : SameQueue s (t.scrub a found) := by
  unfold State.scrub
  exact .ite h.sramCheck h

theorem SameQueue.maintain (h : SameQueue s t) {inRange : Bool} : SameQueue s (t.maintain inRange) := by
  unfold State.maintain
  exact .ite (.ite h.upd h.upd.raise) h

theorem SameQueue.mr4Changes (h : SameQueue s t) {code : Nat} {aboveRated : Bool} :
    SameQueue s (t.mr4Changes code aboveRated) := by
  unfold State.mr4Changes
  exact .ite (.ite h.upd.raiseCond h.upd) h

theorem SameQueue.refreshDram (h : SameQueue s t) : SameQueue s t.refreshDram := by
  unfold State.refreshDram
  exact .ite h.upd h

theorem SameQueue.abandonCompose (h : SameQueue s t) {d : Nat} : SameQueue s (t.abandonCompose d) := by
  unfold State.abandonCompose
  exact .ite h.upd.composeNext h

theorem SameQueue.usbReset (h : SameQueue s t) : SameQueue s t.usbReset :=
  h.only (State.usbReset_onlyIn _) (by decide)

theorem SameQueue.keeperUe (h : SameQueue s t) {a : Nat} : SameQueue s (t.keeperUe a) := by
  unfold State.keeperUe
  exact .ite h.upd h.upd

theorem SameQueue.beforeFault (h : SameQueue s t) {code u a : Nat} : SameQueue s (t.beforeFault code u a) := by
  unfold State.beforeFault
  refine .ite ?_ (.ite h.upd (.ite h.upd (.ite h.upd (.ite h.upd (.ite h.upd.abandonCompose (.ite (.ite h.upd h)
      (.ite (.ite h.panelRestart h) (.ite h.upd (.ite h.upd (.ite h.upd (.ite h.upd (.ite h.upd (.ite h.keeperUe
      (.ite (.ite h.upd h) (.ite h.upd (.ite h.upd (.ite (.ite h.panelRestart h) h)))))))))))))))))
  split
  · exact .ite h h.unitLost
  · exact h

theorem SameQueue.takeCause (h : SameQueue s t) {r : Report} {code : Nat} : SameQueue s (t.takeCause r code) := by
  unfold State.takeCause
  exact .ite (SameQueue.ite h.beforeFault.raise.present h.beforeFault.raise).usbReset (.ite
      h.beforeFault.raise.present h.beforeFault.raise)

theorem SameQueue.wireFault (h : SameQueue s t) {r : Report} {parity : Bool} :
    SameQueue s (t.wireFault r parity) := by
  unfold State.wireFault
  exact h.raise

theorem SameQueue.sample (h : SameQueue s t) {r : Report} : SameQueue s (t.sample r) := by
  unfold State.sample
  dsimp only
  split
  · exact .ite h.upd h.upd
  · exact h.upd
  · exact .ite h h.upd.wireFault
  · exact .ite h (.ite h.upd.takeCause h.upd.wireFault)

theorem SameQueue.takeReport (h : SameQueue s t) {r : Report} : SameQueue s (t.takeReport r) := by
  unfold State.takeReport
  exact .ite h.sample h

theorem SameQueue.relock (h : SameQueue s t) : SameQueue s t.relock := h.only (State.relock_onlyIn _) (by decide)

theorem SameQueue.restartEnd (h : SameQueue s t) : SameQueue s t.restartEnd := by
  unfold State.restartEnd
  exact .ite h.upd.relock.set.endReaction h

theorem SameQueue.reactionLate (h : SameQueue s t) : SameQueue s t.reactionLate := by
  unfold State.reactionLate
  split
  · exact h
  · exact .ite h.advanceTo.raise h

theorem SameQueue.retest (h : SameQueue s t) {k : UnitKind} {u : Nat}
    {passed digestOk readBackOk : Bool} : SameQueue s (t.retest k u passed digestOk readBackOk) := by
  unfold State.retest
  exact .ite (.ite h.upd h.raiseCond) h

theorem SameQueue.fioSet (h : SameQueue s t) {id : Nat} : SameQueue s (t.fioSet id) := by
  unfold State.fioSet
  exact h.takeJob (fun k => .ite k.upd.finish k.refuse)

theorem SameQueue.withStaging (h : SameQueue s t) {id bytes : Nat} {f : State → State}
    (k : ∀ {u}, SameQueue s u → SameQueue s (f u)) : SameQueue s (t.withStaging id bytes f) := by
  unfold State.withStaging
  split
  · next e => exact (h.allocMany.of_eq e).poolFails fun l => l.endJob
  · next e => exact k (h.allocMany.of_eq e).returnCells

theorem SameQueue.copyOut (h : SameQueue s t) {a : Nat} {b : List Byte} : SameQueue s (t.copyOut a b) := by
  unfold State.copyOut
  exact .ite h.upd h

theorem SameQueue.readLog (h : SameQueue s t) {id : Nat} {bad : List Nat} : SameQueue s (t.readLog id bad) := by
  unfold State.readLog
  refine h.takeJob fun k => k.withStaging fun l => ?_
  generalize logSpan _ _ _ _ = span
  obtain ⟨first, n, skipped⟩ := span
  exact (SameQueue.foldl l fun l => l.loseEntry).copyOut.finish

theorem SameQueue.readStats (h : SameQueue s t) {id : Nat} : SameQueue s (t.readStats id) := by
  unfold State.readStats
  exact h.takeJob (fun k => k.withStaging (fun k => k.upd.copyOut.finish))

theorem SameQueue.takeStage (h : SameQueue s t) {id action : Nat} {f : Job → State → State}
    (k : ∀ {j u}, SameQueue s u → SameQueue s (f j u)) : SameQueue s (t.takeStage id action f) :=
  h.takeJob fun l => .ite l (k l)

theorem SameQueue.beginStaging (h : SameQueue s t) : SameQueue s t.beginStaging := by
  unfold State.beginStaging
  exact .ite h h.modSlot.set

theorem SameQueue.stageWrite (h : SameQueue s t) {id : Nat} {data : Served (List Byte)} {ok : Bool} :
    SameQueue s (t.stageWrite id data ok) := by
  unfold State.stageWrite
  exact h.takeStage (fun k => .ite k.refuse (k.beginStaging.withData (fun k => .ite k.mramWrite.finish
      k.mramWrite.refuse)))

theorem SameQueue.stageCommit (h : SameQueue s t) {id : Nat} : SameQueue s (t.stageCommit id) := by
  unfold State.stageCommit
  exact h.takeStage (fun k => .ite k.upd.refuse k.upd.modSlot.set.finish)

theorem SameQueue.stageConfirm (h : SameQueue s t) {id : Nat} : SameQueue s (t.stageConfirm id) := by
  unfold State.stageConfirm
  exact h.takeStage (fun k => .ite k.modSlot.set.finish k.finish)

theorem SameQueue.userWrite (h : SameQueue s t) {id : Nat} {data : Served (List Byte)} {ok : Bool} :
    SameQueue s (t.userWrite id data ok) := by
  unfold State.userWrite
  exact h.takeStage (fun k => .ite k.refuse (k.withData (fun k => .ite k.mramWrite.finish k.mramWrite.refuse)))

theorem SameQueue.userRead (h : SameQueue s t) {id : Nat} : SameQueue s (t.userRead id) := by
  unfold State.userRead
  exact h.takeStage (fun k => .ite k.refuse k.copyOut.finish)

theorem SameQueue.sendNet (h : SameQueue s t) {id : Nat} {data : Served (List Byte)} :
    SameQueue s (t.sendNet id data) := by
  unfold State.sendNet
  refine h.takeJob fun k => ?_
  dsimp only
  refine .ite k.endJob ?_
  refine .ite k.refuse ?_
  refine .ite k.endJob ?_
  refine k.withData fun k => ?_
  split
  · next e =>
      exact (k.allocCell.of_eq e).poolFails (fun k => k.endJob)
  · next e =>
      exact (k.allocCell.of_eq e).modJob.enqueue

theorem SameQueue.stopRings (h : SameQueue s t) : SameQueue s t.stopRings :=
  h.only (State.stopRings_onlyIn _) (by decide)

theorem SameQueue.resetFunction (h : SameQueue s t) : SameQueue s t.resetFunction := h.upd

theorem SameQueue.linkDown (h : SameQueue s t) : SameQueue s t.linkDown := by
  unfold State.linkDown
  exact .ite h (.ite h.upd.stopRings.bump.raiseCond h.upd)

theorem SameQueue.linkUp (h : SameQueue s t) {gen width : Nat} : SameQueue s (t.linkUp gen width) := by
  unfold State.linkUp
  exact .ite h h.upd

theorem SameQueue.masterOff (h : SameQueue s t) : SameQueue s t.masterOff := by
  unfold State.masterOff
  exact .ite h (.ite h.upd.stopRings.raiseCond h.upd)

theorem SameQueue.masterOn (h : SameQueue s t) : SameQueue s t.masterOn := by
  unfold State.masterOn
  exact .ite h h.upd.flushMsi

theorem SameQueue.deviceState (h : SameQueue s t) {d3hot : Bool} : SameQueue s (t.deviceState d3hot) := by
  unfold State.deviceState
  exact .ite h (.ite h.upd.stopRings h.upd.flushMsi)

theorem SameQueue.perstLow (h : SameQueue s t) : SameQueue s t.perstLow := by
  unfold State.perstLow
  exact h.upd.linkDown.resetFunction

theorem SameQueue.perstHigh (h : SameQueue s t) : SameQueue s t.perstHigh := by
  unfold State.perstHigh
  refine .ite h ?_
  dsimp only
  split
  · exact h.upd.wakeNow
  all_goals exact h.upd

theorem SameQueue.requestInRetain (h : SameQueue s t) {configuration : Bool} {offset : Nat}
    {value : Option Word} : SameQueue s (t.requestInRetain configuration offset value) := by
  unfold State.requestInRetain
  exact .ite h (.ite h.upd.wakeNow (.ite h.upd h.upd))

theorem SameQueue.configRequest (h : SameQueue s t) {off : Nat} {value : Option Word} :
    SameQueue s (t.configRequest off value) := by
  unfold State.configRequest
  split
  · exact h.setRead
  · exact .ite (.ite h.masterOn h.masterOff) h

theorem SameQueue.completeHeld (h : SameQueue s t) {r : Bool × Nat × Option Word} :
    SameQueue s (t.completeHeld r) := by
  unfold State.completeHeld
  refine .ite h.configRequest ?_
  split
  · exact h.writeWord
  · exact h.readWord.setRead

theorem SameQueue.completeAllHeld (h : SameQueue s t) : SameQueue s t.completeAllHeld := by
  unfold State.completeAllHeld
  exact .foldl h.upd fun k => k.completeHeld

theorem SameQueue.patchStatus (h : SameQueue s t) {off at' now : Nat} : SameQueue s (t.patchStatus off at' now) :=
  h.only (State.patchStatus_onlyIn _ _ _ _) (by decide)

theorem SameQueue.lowerRings (h : SameQueue s t) {n at' now : Nat} : SameQueue s (t.lowerRings n at' now) := h.upd

theorem SameQueue.takeBackCpl (h : SameQueue s t) {n back : Nat} : SameQueue s (t.takeBackCpl n back) := by
  unfold State.takeBackCpl
  exact .ite h h.loseSlot.setCq.lowerRings.patchStatus.bump

theorem SameQueue.takeBackEvent (h : SameQueue s t) {back : Nat} : SameQueue s (t.takeBackEvent back) := by
  unfold State.takeBackEvent
  exact .ite h h.loseSlot.set.patchStatus.bump

theorem SameQueue.copyFailed (h : SameQueue s t) {id : Nat} : SameQueue s (t.copyFailed id) := by
  unfold State.copyFailed
  split
  · exact h.raiseI
  · exact .ite (h.takeJob (fun k => k.withStaging (fun k => k.copyOut.freshen.raiseI.endJob))) h.raiseI

theorem SameQueue.writeFailed (h : SameQueue s t) {target : DmaTarget} : SameQueue s (t.writeFailed target) := by
  unfold State.writeFailed
  refine .ite h ?_
  split
  · exact h.upd.raiseI.takeBackCpl
  · exact h.upd.raiseI.takeBackEvent
  · exact h.upd.raiseI
  · exact h.upd.copyFailed

theorem SameQueue.panelArrives (h : SameQueue s t) {d : Nat} {edid : Option (List Byte)} {width height : Nat} :
    SameQueue s (t.panelArrives d edid width height) := by
  unfold State.panelArrives
  refine .ite h ?_
  dsimp only
  split
  · exact .ite h.upd h.upd.arrive
  · exact .ite h.upd h.upd.partnerChanged

theorem SameQueue.panelLeaves (h : SameQueue s t) {d : Nat} : SameQueue s (t.panelLeaves d) := by
  unfold State.panelLeaves
  exact .ite h (.ite h.upd.departAll h.upd.departAll.panelDown)

theorem SameQueue.irq (h : SameQueue s t) {linkLost : Bool} : SameQueue s (t.irq linkLost) := by
  unfold State.irq
  exact .ite h.upd h

theorem SameQueue.trainingEnd (h : SameQueue s t) {trained : List (Nat × Nat)} :
    SameQueue s (t.trainingEnd trained) := by
  unfold State.trainingEnd
  dsimp only
  refine .ite h ?_
  split
  · exact .ite h.upd.raiseI h.upd.linkOn
  · exact h.upd.raiseI

theorem SameQueue.panelTime (h : SameQueue s t) {d ms : Nat} : SameQueue s (t.panelTime d ms) := by
  unfold State.panelTime
  exact h.advanceTo

theorem SameQueue.hpdTimeout (h : SameQueue s t) : SameQueue s t.hpdTimeout := by
  unfold State.hpdTimeout
  split
  · exact h.panelTime.modDisp
  · exact h

theorem SameQueue.vddLink (h : SameQueue s t) {d : Nat} : SameQueue s (t.vddLink d) := by
  unfold State.vddLink
  split
  · exact .ite h.panelTime.modDisp h.panelTime.linkOn
  · exact h

theorem SameQueue.frameBl (h : SameQueue s t) {d : Nat} : SameQueue s (t.frameBl d) := by
  unfold State.frameBl
  split
  · exact h.panelTime.modDisp
  · exact h

theorem SameQueue.blLink (h : SameQueue s t) {d : Nat} : SameQueue s (t.blLink d) := by
  unfold State.blLink
  split
  · exact h.panelTime.linkOff
  · exact h

theorem SameQueue.linkVdd (h : SameQueue s t) {d : Nat} : SameQueue s (t.linkVdd d) := by
  unfold State.linkVdd
  split
  · exact h.panelTime.modDisp
  · exact h

theorem SameQueue.offWait (h : SameQueue s t) {d : Nat} : SameQueue s (t.offWait d) := by
  unfold State.offWait
  split
  · exact .ite h.panelTime.modDisp.panelUp h.panelTime.modDisp
  · exact h

theorem SameQueue.hold (h : SameQueue s t) : SameQueue s t.hold := by
  unfold State.hold
  split
  · exact h
  · exact .ite h h.advanceTo.raiseI.set

theorem SameQueue.padChange (h : SameQueue s t) {pad : DetectPad} : SameQueue s (t.padChange pad) := by
  unfold State.padChange
  refine .ite h ?_
  refine SameQueue.hwFlag ?_
  split
  · exact h.upd
  · exact h.upd
  · exact .ite h.upd h.upd

theorem SameQueue.spiWords (h : SameQueue s t) {a : Nat} {bytes : List Byte} :
    SameQueue s (t.spiWords a bytes) := by
  fun_induction State.spiWords t a bytes with
  | case1 t a b0 b1 b2 b3 bytes ih => exact ih h.writeWord
  | case2 t a bytes => exact h

theorem SameQueue.spiWriteFrame (h : SameQueue s t) {frame : List Byte} : SameQueue s (t.spiWriteFrame frame) := by
  unfold State.spiWriteFrame
  exact .ite h (.ite h.upd.spiWords h.upd.raiseI)

theorem SameQueue.spiReadWords {n : Nat} (h : SameQueue s t) {a : Nat} {out : List Byte} :
    SameQueue s (State.spiReadWords n t a out).1 := by
  induction n generalizing t a out with
  | zero => exact h
  | succ n ih => exact ih h.readWord

theorem SameQueue.spiReadFrame (h : SameQueue s t) {address clocks : Nat} :
    SameQueue s (t.spiReadFrame address clocks) := by
  unfold State.spiReadFrame
  exact .ite h h.spiReadWords.set

theorem SameQueue.spiStatusFrame (h : SameQueue s t) : SameQueue s t.spiStatusFrame := by
  unfold State.spiStatusFrame
  exact .ite h.upd h

theorem SameQueue.spiFrame (h : SameQueue s t) {frame : List Byte} : SameQueue s (t.spiFrame frame) := by
  unfold State.spiFrame
  split
  · exact h.spiWriteFrame
  · exact .ite h.spiReadFrame h
  · exact h.spiStatusFrame
  · exact h

theorem SameQueue.writeMeeting (h : SameQueue s t) {path : Path} {offset size : Nat} {value : Word}
    {increment : Bool} {meets : Option Word} : SameQueue s (t.writeMeeting path offset size value increment meets)
    := by
  unfold State.writeMeeting
  split
  · exact h.write
  · split
    · exact h.write.write
    · exact h.write.write

theorem SameQueue.finishRestart (h : SameQueue s t) {cause : Nat} {env : BootEnv} :
    SameQueue s (t.finishRestart cause env) := by
  unfold State.finishRestart
  exact .ite h.atReset h

theorem SameQueue.raiseNow (h : SameQueue s t) {b k : Nat} : SameQueue s (State.raiseNow b t k) := by
  unfold State.raiseNow
  exact .ite h.raise h

theorem SameQueue.readLogWindow (h : SameQueue s t) {path : Path} {offset : Nat} {uncorrectable : Bool} :
    SameQueue s (t.readLogWindow path offset uncorrectable) := by
  unfold State.readLogWindow
  exact .ite (SameQueue.ite h.loseEntry h).readWord.setRead h.setRead

theorem SameQueue.stbyLow (h : SameQueue s t) : SameQueue s t.stbyLow := by
  unfold State.stbyLow
  exact .ite h.upd.requestMode h.upd

theorem SameQueue.stbyHigh (h : SameQueue s t) : SameQueue s t.stbyHigh := by
  unfold State.stbyHigh
  exact .ite h h.upd.wakeNow

theorem SameQueue.wakeInput (h : SameQueue s t) {n : Nat} {rising : Bool} {ns : Nat} :
    SameQueue s (t.wakeInput n rising ns) := by
  unfold State.wakeInput
  exact .ite h (.ite h.advanceTo.wakeEvent h.advanceTo)

theorem SameQueue.alarmRings (h : SameQueue s t) : SameQueue s t.alarmRings := by
  unfold State.alarmRings
  exact .ite h h.advanceTo.set.wakeNow

theorem SameQueue.reachRun (h : SameQueue s t) {present : List Nat} {trainOk : Bool}
    {badBank : Option Nat} : SameQueue s (t.reachRun present trainOk badBank) := by
  unfold State.reachRun
  exact .ite (.ite h.upd.raise (SameQueue.ite h.wakeFromRetain.raise
      h.wakeFromRetain).startWaiting.flushMsi.completeAllHeld.restartPulses.edge) h

theorem SameQueue.tickEdge (h : SameQueue s t) {frameErrors : List Int} : SameQueue s (t.tickEdge frameErrors) := by
  unfold State.tickEdge
  exact .ite h.runChanJobs.edge h

theorem SameQueue.tickOutEnd (h : SameQueue s t) : SameQueue s t.tickOutEnd := by
  unfold State.tickOutEnd
  exact .ite h.toOffset.set h

theorem SameQueue.doorbell (h : SameQueue s t) {served : Served (List Byte)} : SameQueue s (t.doorbell served) := by
  unfold State.doorbell
  exact .ite h.readDoorbell h

theorem SameQueue.settleLate (h : SameQueue s t) : SameQueue s t.settleLate := by
  unfold State.settleLate
  exact .ite h h.openWork

theorem SameQueue.settleAbandon (h : SameQueue s t) : SameQueue s t.settleAbandon := by
  unfold State.settleAbandon
  exact .ite h h.advanceTo.abandonRaise

theorem SameQueue.moderate (h : SameQueue s t) {n : Nat} : SameQueue s (t.moderate n) := by
  unfold State.moderate
  exact .ite h.advanceTo.signalRing h

theorem detectPadChange_answers (h : SameQueue s s) {pad : DetectPad} : Answers s (execDetectPadChange pad s) := by
  cases pad with
  | cam p => exact h.onUnit h.padChange
  | panel d => exact h.onUnit h.padChange
  | hpd => exact ⟨_, rfl, h.padChange⟩

theorem exec_answers (i : Instr) (s : State) : Answers s (exec i s) := by
  have h := SameQueue.refl s
  cases i with
  | tickSourceEdge => exact ⟨_, rfl, .ite h.advanceTo.sourceEdge h⟩
  | predictedEdgeMissed => exact ⟨_, rfl, h.missEdge⟩
  | ptpSyncMessage => exact h.onUnit h.ptpMessage
  | ptpSyncTimeout => exact h.onUnit h.ptpTimeout
  | ppsPulseStart => exact h.onUnit h.ppsStart
  | ppsPulseEnd => exact h.onUnit h.upd
  | ethFrameReceive => exact h.onUnit h.ethReceive
  | flowSilenceTimeout => exact h.onUnit h.flowSilent
  | ethLinkDown => exact h.onUnit h.ethDown
  | ethLinkUp => exact h.onUnit h.ethUp
  | queueCreditAvailable => exact h.onUnit h.creditBack
  | frameTransmitEnd => exact h.onUnit h.sent
  | camDetectAssert => exact h.onUnit h.camAssert
  | probeDelayExpiry => exact h.onUnit h.probeDelay
  | identityReadDone => exact h.onUnit h.identityRead
  | identityRetryTimer => exact h.onUnit h.identityRetry
  | initWriteDone => exact h.onUnit h.initWritten
  | initDelayExpiry => exact h.onUnit h.initDelay
  | i2cBusHeldLow => exact h.onUnit h.i2cLow
  | i2cBusReleased => exact h.onUnit h.upd
  | camDetectDeassert => exact h.onUnit h.camDeassert
  | vcFrameStart => exact h.onUnit (.ite h.frameStart h)
  | csiPacketReceive => exact h.onUnit (.ite h.csiPacket h)
  | csiFrameComplete => exact h.onUnit (.ite h.frameEnd h)
  | usbConnect => exact h.onUnit h.usbAttach
  | usbEnumerationEnd => exact h.onUnit h.usbEnumerated
  | usbDisconnect => exact h.onUnit h.usbDetach
  | usbOvercurrent => exact h.onUnit h.usbOver
  | usbVbusLow => exact h.onUnit h.usbLow
  | usbOcRetry => exact h.onUnit h.usbRetry
  | uvcFrameComplete => exact h.onUnit h.uvcFrame
  | chanCreate => exact ⟨_, rfl, h.chanCreate⟩
  | chanDestroy => exact ⟨_, rfl, h.chanDestroy⟩
  | chanPause => exact ⟨_, rfl, h.chanPause⟩
  | chanResume => exact ⟨_, rfl, h.chanResume⟩
  | chanBind => exact ⟨_, rfl, h.chanBind⟩
  | chanExport => exact ⟨_, rfl, h.chanExport⟩
  | exportPoint => exact h.onUnit h.exportPoint
  | exportTimeout => exact h.onUnit h.exportTimeout
  | chanImport => exact ⟨_, rfl, h.chanImport⟩
  | powerOnReset => exact ⟨_, rfl, h.resetTo.coldStart⟩
  | padReset => exact ⟨_, rfl, h.padReset⟩
  | resetRelease => exact ⟨_, rfl, h.resetHigh⟩
  | bootComplete => exact ⟨_, rfl, h.bootComplete⟩
  | bootWatchdog => exact ⟨_, rfl, h.watchdog⟩
  | powerSequenceRetry => exact ⟨_, rfl, h.retrySequence⟩
  | vinBelowStop => exact ⟨_, rfl, h.vinStops⟩
  | keeperSupplyLoss => exact ⟨_, rfl, h.upd⟩
  | brownoutWarning => exact ⟨_, rfl, h.brownout⟩
  | brownoutEnd => exact ⟨_, rfl, h.brownoutOver⟩
  | surgeClamp => exact ⟨_, rfl, h.clampEpisode⟩
  | surgeRecovery => exact ⟨_, rfl, h.surgeOver⟩
  | vbus5OutOfWindow => exact ⟨_, rfl, h.vbus5⟩
  | railOutOfWindow => exact ⟨_, rfl, .ite h.railOut h⟩
  | auxOverload => exact h.onUnit h.auxOff
  | auxRetry => exact h.onUnit h.auxAgain
  | phaseOpenDetect => exact ⟨_, rfl, h.openPhases⟩
  | phaseSenseCheck => exact ⟨_, rfl, h.senseCheck⟩
  | spareCheck => exact ⟨_, rfl, h.checkSpare⟩
  | phasePark => exact ⟨_, rfl, .ite h.park h⟩
  | phaseUnpark => exact ⟨_, rfl, .ite h.upd h⟩
  | currentCapExceeded => exact ⟨_, rfl, h.throttleOn⟩
  | throttleEnd => exact ⟨_, rfl, h.upd⟩
  | thermalReading => exact ⟨_, rfl, .ite h.readTherm h⟩
  | meterInterval => exact ⟨_, rfl, .ite h.meter h⟩
  | referenceFailure => exact ⟨_, rfl, h.refFails⟩
  | cpllUnlock => exact h.onUnit h.cpllUnlocks
  | cpllRetune => exact h.onUnit h.cpllRetunes
  | cpllStandbyReady => exact h.onUnit h.cpllReady
  | synthLock => exact h.onUnit h.synthLocks
  | synthLockTimeout => exact h.onUnit h.lockFails
  | keeperOscillatorFailure => exact ⟨_, rfl, h.oscFails⟩
  | keeperOscillatorRestored => exact ⟨_, rfl, h.upd⟩
  | layerSet => exact ⟨_, rfl, h.layerSet⟩
  | displayControl => exact ⟨_, rfl, h.displayControl⟩
  | overlayLoad => exact ⟨_, rfl, h.overlayLoad⟩
  | overlayCopyEnd => exact h.onUnit h.copyEnd
  | compositionDeadline => exact ⟨_, rfl, h.composeDeadline⟩
  | compositionEnd => exact h.onUnit h.composeEnd
  | decode => exact ⟨_, rfl, h.presentDecode⟩
  | decodeEnd => exact ⟨_, rfl, h.endDecode⟩
  | bitLimitExceeded => exact ⟨_, rfl, h.abandon⟩
  | blockCycleLimit => exact ⟨_, rfl, h.abandon⟩
  | cycleCapReached => exact ⟨_, rfl, h.capReached⟩
  | bufferRoomAvailable => exact h.onUnit h.upd
  | syntaxEngineInterrupt => exact h.onUnit h.switchContext
  | spawn => exact h.onUnit h.spawn
  | retire => exact h.onUnit h.retire
  | yield => exact h.onUnit h.yield_
  | signal => exact h.onUnit h.signalOp
  | dec => exact h.onUnit h.decOp
  | bind => exact h.onUnit h.bindOp
  | threadRunLimit => exact h.onUnit h.runLimit
  | encodeFrame => exact ⟨_, rfl, h.presentFrame⟩
  | encodeStart => exact ⟨_, rfl, h.encodeStart⟩
  | encodeStop => exact ⟨_, rfl, h.encodeStop⟩
  | encodeUpdate => exact ⟨_, rfl, h.encodeUpdate⟩
  | forceIdr => exact ⟨_, rfl, h.encodeForceIdr⟩
  | encodeRowCoded => exact ⟨_, rfl, h.rowCoded⟩
  | encodeEnd => exact ⟨_, rfl, h.endEncode⟩
  | sramWindowWrite => exact ⟨_, rfl, .ite h.windowWrite h⟩
  | cellAllocate => exact ⟨_, rfl, .ite h.combCycle h⟩
  | cellFree => exact h.onUnit h.requestFree
  | freeStoreRefill => exact h.onUnit h.refill
  | freeStoreSpill => exact h.onUnit h.spill
  | sramScrub => exact h.onUnit h.scrub
  | dramMaintenanceStep => exact ⟨_, rfl, h.maintain⟩
  | mr4Change => exact h.onUnit h.mr4Changes
  | dramRefresh => exact ⟨_, rfl, h.refreshDram⟩
  | faultReport => exact ⟨_, rfl, .foldl h fun k => k.takeReport⟩
  | dataPathRestartEnd => exact ⟨_, rfl, h.restartEnd⟩
  | reactionTimeout => exact ⟨_, rfl, h.reactionLate⟩
  | unitRetest => exact h.onUnit h.retest
  | fieldInputEdge => exact h.onUnit h.finEdge
  | fieldPulseStart => exact h.onUnit h.pulseStart
  | fieldPulseEnd => exact h.onUnit h.pulseEnd
  | openLoadDetect => exact h.onUnit h.openLoad
  | shortToGround => exact h.onUnit h.shortGround
  | shortRetry => exact h.onUnit h.retryShort
  | externalDrive => exact h.onUnit h.extDrive
  | vfieldLoss => exact ⟨_, rfl, h.vfieldGone⟩
  | vfieldRestore => exact ⟨_, rfl, h.vfieldBack⟩
  | fieldDiagnosisEnd => exact h.onUnit h.diagEnd
  | fioSet => exact ⟨_, rfl, h.fioSet⟩
  | logRead => exact ⟨_, rfl, h.readLog⟩
  | statsRead => exact ⟨_, rfl, h.readStats⟩
  | fwStageWrite => exact ⟨_, rfl, h.stageWrite⟩
  | fwStageCommit => exact ⟨_, rfl, h.stageCommit⟩
  | fwStageConfirm => exact ⟨_, rfl, h.stageConfirm⟩
  | userWrite => exact ⟨_, rfl, h.userWrite⟩
  | userRead => exact ⟨_, rfl, h.userRead⟩
  | netTx => exact ⟨_, rfl, h.sendNet⟩
  | pcieLinkDown => exact ⟨_, rfl, h.linkDown⟩
  | pcieLinkUp => exact ⟨_, rfl, .ite h.linkUp h⟩
  | busMasterDisable => exact ⟨_, rfl, h.masterOff⟩
  | busMasterEnable => exact ⟨_, rfl, h.masterOn⟩
  | deviceStateChange => exact ⟨_, rfl, h.deviceState⟩
  | perstAssert => exact ⟨_, rfl, h.perstLow⟩
  | perstRelease => exact ⟨_, rfl, h.perstHigh⟩
  | pcieRequestInRetain => exact ⟨_, rfl, h.requestInRetain⟩
  | dmaWriteFailure => exact ⟨_, rfl, h.writeFailed⟩
  | panelDetectAssert => exact h.onUnit h.panelArrives
  | panelDepart => exact h.onUnit h.panelLeaves
  | irqHpd => exact ⟨_, rfl, h.irq⟩
  | linkTrainingEnd => exact ⟨_, rfl, h.trainingEnd⟩
  | hpdWaitTimeout => exact ⟨_, rfl, h.hpdTimeout⟩
  | vddLinkTimer => exact h.onUnit h.vddLink
  | frameBlTimer => exact h.onUnit h.frameBl
  | blLinkTimer => exact h.onUnit h.blLink
  | linkVddTimer => exact h.onUnit h.linkVdd
  | offWaitTimer => exact h.onUnit h.offWait
  | holdTimeout => exact ⟨_, rfl, h.hold⟩
  | detectPadChange => exact detectPadChange_answers h
  | registerWrite => exact ⟨_, rfl, h.writeMeeting⟩
  | counterLowWordRead => exact ⟨_, rfl, .ite h.windowRead h.read.setRead⟩
  | counterLowWordWrite => exact ⟨_, rfl, h.writeWord⟩
  | counterHighWordWrite => exact ⟨_, rfl, h.writeWord⟩
  | go => exact ⟨_, rfl, h.writeWord⟩
  | warmRestart => exact ⟨_, rfl, h.writeWord⟩
  | coldRestart => exact ⟨_, rfl, h.writeWord⟩
  | rescueBootRequest => exact ⟨_, rfl, h.writeWord⟩
  | resetPoint => exact ⟨_, rfl, h.atReset⟩
  | rescueProgram => exact ⟨_, rfl, h.writeWord.finishRestart⟩
  | advance => exact ⟨_, rfl, h.writeWord.finishRestart⟩
  | fwEpochSet => exact ⟨_, rfl, h.writeWord⟩
  | patchEpochSet => exact ⟨_, rfl, h.writeWord⟩
  | modeRequestDeepStandby => exact ⟨_, rfl, h.writeWord⟩
  | modeRequestRetain => exact ⟨_, rfl, h.writeWord⟩
  | modeRequestIdle => exact ⟨_, rfl, h.writeWord⟩
  | modeRequestRun => exact ⟨_, rfl, h.writeWord⟩
  | softwareWake => exact ⟨_, rfl, h.writeWord⟩
  | combBuild => exact ⟨_, rfl, h.writeWord⟩
  | buildComplete => exact ⟨_, rfl, h.endBuild⟩
  | displayEnable => exact h.onUnit h.writeWord
  | tickPeriodWrite => exact ⟨_, rfl, h.writeWord⟩
  | tckLimitWrite => exact ⟨_, rfl, h.writeWord⟩
  | clockOutputEnable => exact h.onUnit h.writeWord
  | msixTableWrite => exact h.onUnit h.writeWord
  | faultStatusClear => exact .ite ⟨_, rfl, .foldl h.writeWord fun k => k.raiseNow⟩ ⟨_, rfl, h⟩
  | logWindowRead => exact h.onUnit h.readLogWindow
  | spiWrite => exact ⟨_, rfl, h.spiFrame⟩
  | spiRead => exact ⟨_, rfl, h.spiReadFrame⟩
  | spiStatus => exact ⟨_, rfl, h.spiStatusFrame⟩
  | stbyRequest => exact ⟨_, rfl, h.stbyLow⟩
  | stbyRelease => exact ⟨_, rfl, h.stbyHigh⟩
  | wakeInputEdge => exact h.onUnit h.wakeInput
  | keeperAlarm => exact ⟨_, rfl, h.alarmRings⟩
  | entryComplete => exact ⟨_, rfl, h.completeEntry⟩
  | runReached => exact ⟨_, rfl, h.reachRun⟩
  | tickEdge => exact ⟨_, rfl, h.tickEdge⟩
  | tickOutPulseEnd => exact ⟨_, rfl, h.tickOutEnd⟩
  | doorbellRead => exact ⟨_, rfl, h.doorbell⟩
  | descriptorFetch => exact ⟨_, rfl, h.fetch⟩
  | subTickPoll => exact ⟨_, rfl, h.poll⟩
  | admissionDecision => exact ⟨_, rfl, h.decision⟩
  | settleFlag => exact ⟨_, rfl, h.settle_⟩
  | settleLate => exact ⟨_, rfl, h.settleLate⟩
  | settleAbandon => exact ⟨_, rfl, h.settleAbandon⟩
  | workWindowStart => exact ⟨_, rfl, h.openWork⟩
  | guardWindowStart => exact ⟨_, rfl, h.openGuard⟩
  | moderationTimeout => exact h.onUnit h.moderate

/-! Units that the module does not have. -/

theorem onUnit_absent {n count : Nat} (h : decide (n < count) = false) : onUnit n count s t = .next s.settle :=
  onUnit_ge s t (of_decide_eq_false h)

theorem done_unless {c : Prop} {_ : Decidable c} (h : ¬ c) : done (if c then t else s) = .next s.settle := by
  rw [if_neg h, done_eq]

/-- A unit of a unit: either may be missing. -/
theorem onUnit_unless {n count : Nat} {c : Prop} {_ : Decidable c} (h : ¬ (n < count ∧ c)) :
    onUnit n count s (if c then t else s) = .next s.settle := by
  by_cases here : n < count
  · rw [if_neg fun k => h ⟨here, k⟩]
    exact onUnit_lt s s here
  · exact onUnit_ge s _ here

theorem exec_absent (i : Instr) (s : State) (h : i.unitsOk = false) : exec i s = .next s.settle := by
  cases i with
  | csiFrameComplete | csiPacketReceive | vcFrameStart => exact onUnit_unless (by simpa [Instr.unitsOk, and_assoc] using h)
  | cellAllocate | sramWindowWrite => exact done_unless (Bool.eq_false_iff.mp h)
  | railOutOfWindow | pcieLinkUp => exact done_unless (by simpa [Instr.unitsOk, and_assoc] using h)
  | phasePark first second =>
    have few : ¬ (first < 5 ∧ second < 5) := by simpa [Instr.unitsOk] using h
    exact done_unless fun k => few ⟨k.1, k.2.1⟩
  | faultStatusClear => exact if_neg (Bool.eq_false_iff.mp h)
  | detectPadChange pad =>
    cases pad with
    | cam p => exact onUnit_absent h
    | panel d => exact onUnit_absent h
    | hpd => exact Bool.noConfusion h
  | displayEnable | clockOutputEnable | msixTableWrite | logWindowRead | moderationTimeout | ptpSyncMessage
  | ptpSyncTimeout | ethFrameReceive | flowSilenceTimeout | ethLinkDown | ethLinkUp | queueCreditAvailable
  | frameTransmitEnd | uvcFrameComplete | camDetectAssert | probeDelayExpiry | identityReadDone
  | identityRetryTimer | initWriteDone | initDelayExpiry | i2cBusHeldLow | camDetectDeassert | usbEnumerationEnd
  | usbDisconnect | usbOvercurrent | usbVbusLow | usbOcRetry | panelDetectAssert | panelDepart | vddLinkTimer
  | frameBlTimer | blLinkTimer | linkVddTimer | offWaitTimer | exportPoint | exportTimeout | bufferRoomAvailable
  | syntaxEngineInterrupt | overlayCopyEnd | compositionEnd | spawn | retire | yield | signal | dec | bind
  | threadRunLimit | cellFree | freeStoreRefill | freeStoreSpill | sramScrub | mr4Change | unitRetest | auxOverload
  | auxRetry | cpllUnlock | cpllRetune | cpllStandbyReady | synthLock | synthLockTimeout | wakeInputEdge
  | fieldInputEdge | fieldPulseStart | fieldPulseEnd | openLoadDetect | shortToGround | shortRetry | externalDrive
  | ppsPulseStart | ppsPulseEnd | usbConnect | i2cBusReleased | fieldDiagnosisEnd =>
    exact onUnit_absent h
  | _ => exact Bool.noConfusion h

/-! What every command and every step comes to. -/

/-- Settles O4: every command ends by settling the pads of a state with the same queue, and a unit that is missing leaves
that state as it was. -/
theorem everyCommandCompletes : Obligations.EveryCommandCompletes := fun i s => by
  obtain ⟨u, he, k⟩ := exec_answers i s
  exact ⟨.intro he k.pending, exec_absent i s⟩

/-- Settles O2: a command ends by settling the pads, and so does the passing of time. -/
theorem padsFollowState : Obligations.PadsFollowState := by
  intro s t h
  unfold step at h
  split at h
  · cases h
    exact State.settle_settled _
  · next c rest _ =>
    obtain ⟨u, he, _⟩ := exec_answers c { s with pending := rest }
    cases he.symm.trans h
    exact State.settle_settled u


end Sys2Proof.Machine
end
section
namespace Sys2Proof.Machine
variable {s t : State}

/-! The operating point (R443, R446, R490, R528). -/

/-- Confirming a point counts a change where it is another one, and sets the dividers of both core PLLs. -/
theorem State.clockAt_spec (s : State) (op : Nat) :
    (s.clockAt op).pwr = { s.pwr with op := op, target := op, settled := true, coreMv := opMv op } ∧
    (s.pwr.op ≠ op → (s.clockAt op).rd PWR_OP_CHANGE_COUNT = bump32 (s.rd PWR_OP_CHANGE_COUNT)) ∧
    (s.pwr.op = op → (s.clockAt op).regs = s.regs) ∧
    (∀ i x, i < 2 → s.clk.synths[i]? = some x → (s.clockAt op).clk.synths[i]? = some { x with p := twoQ op }) ∧
    OnlyIn [.regs, .clk, .pwr] s (s.clockAt op) := by
  have dividers : ∀ (l : List Synth) (i : Nat) (x : Synth), i < 2 → l[i]? = some x →
      (lmod (lmod l 0 fun x => { x with p := twoQ op }) 1 fun x => { x with p := twoQ op })[i]? =
        some { x with p := twoQ op } := by
    intro l i x hi hx
    obtain rfl | rfl : i = 0 ∨ i = 1 := by omega
    · simp [getElem?_lmod, hx]
    · simp [getElem?_lmod, hx]
  unfold State.clockAt
  split
  · next same =>
    refine ⟨rfl, fun h => absurd same h, fun _ => rfl, dividers s.clk.synths, fun p => ?_⟩
    cases p <;> first | exact .inr rfl | exact .inl (by decide)
  · next other =>
    refine ⟨rfl, fun _ => s.rd_bump_same _ _, fun h => absurd h other, dividers s.clk.synths, fun p => ?_⟩
    cases p <;> first | exact .inr rfl | exact .inl (by decide)

theorem settleFlag_confirms (h : s.pwr.settled = false) : exec .settleFlag s = .next (s.clockAt s.pwr.target).settle := by
  have raised : s.settle_ = s.clockAt s.pwr.target := by simp [State.settle_, h]
  exact congrArg done raised

theorem State.abandonRaise_of_ramping (h : s.pwr.settled = false) :
    s.abandonRaise = (s.clockAt s.pwr.op).bump PWR_SETTLE_ABANDON_COUNT := by simp [State.abandonRaise, h]

theorem State.settleAbandon_of_ramping (h : s.pwr.settled = false) :
    s.settleAbandon = (s.advanceTo (1000 * (s.pwr.rampNs + 1000000))).abandonRaise := by simp [State.settleAbandon, h]

/-- Settles O28: both ends of a raise are `clockAt`, of the point asked for or of the one confirmed. -/
theorem operatingPointConfirms : Obligations.OperatingPointConfirms := by
  refine fun s => ⟨fun settled => ?_, fun ramping => ⟨⟨_, settleFlag_confirms ramping, ?_⟩,
    ⟨_, congrArg done (State.settleAbandon_of_ramping ramping), ?_⟩⟩⟩
  · exact ⟨congrArg done (by simp [State.settle_, settled]), congrArg done (by simp [State.settleAbandon, settled])⟩
  · obtain ⟨pwr, counted, -, dividers, only⟩ := s.clockAt_spec s.pwr.target
    rw [State.settle_pwr, pwr]
    exact ⟨rfl, rfl, rfl, rfl, counted, dividers, only.settle⟩
  · have waited := s.advanceTo_onlyIn (1000 * (s.pwr.rampNs + 1000000))
    have late := s.le_advanceTo (1000 * (s.pwr.rampNs + 1000000))
    generalize s.advanceTo (1000 * (s.pwr.rampNs + 1000000)) = u at waited late ⊢
    have stands : u.pwr = s.pwr := waited.pwr_eq (by decide)
    obtain ⟨pwr, -, regs, -, only⟩ := u.clockAt_spec u.pwr.op
    have held := (regs rfl).trans (waited.regs_eq (by decide))
    beta_reduce
    rw [State.abandonRaise_of_ramping (by rw [stands, ramping]), State.settle_pwr, State.bump_pwr, pwr, stands]
    rw [stands] at only held
    refine ⟨rfl, rfl, rfl, ?_, ?_, ?_⟩
    · rw [State.settle_clock, State.bump_clock, only.clock_eq (by decide)]
      exact late
    · exact (State.rd_bump_same _ _ _).trans (congrArg bump32 (State.rd_congr held _ _))
    · exact (((waited.mono (by decide)).step only (by decide)).step (State.bump_onlyIn _ _ _) (by decide)).settle

end Sys2Proof.Machine
end

section
namespace Sys2Proof.Machine
variable {s t : State}

/-! Command registers: a write of an SVC register is stored, in CONFIG and in ACTIVE, and acts at once (Table 0.3, R577). -/

/-- A plain register of SVC fields alone, at an offset that no range, clear or field output belongs to. -/
def RegDef.command (d : RegDef) : Bool :=
  decide (d.kind = .plain) && d.has .svc && d.fields.all (fun f => decide (f.access ≠ .cfg)) && d.off >>> 15 != 4 &&
    d.off >>> 15 != 29 && d.off >>> 15 != 30 &&
    decide (d.off ∉ [SYS_CTL.off, BPM_CTL.off, GRD_FSTAT.off, HIF_STATUS.off, DEC_ROWBUF_CFG.off, TCK_PERIOD.off,
      TCK_SRC_TOL.off, TCK_ADM_CTL.off, TRF_PTP_PHASE.off, CLK_OUT.off])

/-- The register map names the command register at its offset. -/
abbrev RegDef.CommandAt (d : RegDef) : Prop :=
  findReg d.off = some (d, 0, 0, 0) ∧ d.off % 4 = 0 ∧ isSramOffset d.off = false ∧ isMsixOffset d.off = false ∧
    d.command = true

theorem commandAt : ∀ d ∈ [SYS_RESTART, SYS_RESCUE_CTL, LCS_CMD, PWR_MODE_REQ, KPR_WAKE_CMD], d.CommandAt := by decide

/-- The register with the value that a write brings. -/
def State.stored (s : State) (d : RegDef) (v : Word) : State :=
  s.wr d 0 0 (writeFields s.isActive v.toNat (s.rd d) d.fields)

theorem State.stored_onlyIn (s : State) (d : RegDef) (v : Word) : OnlyIn [.regs] s (s.stored d v) := s.wr_onlyIn _ _ _ _

theorem State.writeWord_command {d : RegDef} {p : Path} {v : Word} {inc : Bool} {found : Option Bool} (h : d.CommandAt)
    (hr : s.reaches p d.off = true) : s.writeWord p d.off v inc found = (s.stored d v).afterSvc p d v.toNat found := by
  obtain ⟨map, aligned, sram, msix, command⟩ := h
  simp only [RegDef.command, Bool.and_eq_true, decide_eq_true_eq, bne_iff_ne, List.mem_cons, not_or, List.all_eq_true] at command
  obtain ⟨⟨⟨⟨⟨⟨plain, svc⟩, nocfg⟩, tck⟩, clk⟩, fio⟩, go, build, fstat, link, rows, period, tol, adm, phase, out, -⟩ := command
  have cfg : d.has .cfg = false := by simpa [RegDef.has] using nocfg
  have differs : ∀ old v, d.cfgDiffers old v = false := fun old v => by
    simp only [RegDef.cfgDiffers, List.any_eq_false]
    intro f hf
    simp [nocfg f hf]
  have word : s.writeWord p d.off v inc found = s.writeReg p d 0 0 v.toNat found := by
    simp [State.writeWord, hr, aligned, sram, msix, map, plain]
  rw [word]
  simp [State.writeReg, State.countLate, State.outOfRange, State.rowsCut, State.noteRange, State.writeW1c, RegDef.allCfg,
    State.stored, plain, svc, cfg, differs, tck, clk, fio, go, build, fstat, link, rows, period, tol, adm, phase, out]

/-- A 32-bit write that meets no other is one write of the word. -/
theorem exec_registerWrite (s : State) (p : Path) (off : Nat) (v : Word) :
    exec (.registerWrite p off 4 v ⟨false, none⟩) s = done (s.writeWord p off v) := by
  have one : s.write p off 4 v false = s.writeWord p off v := by rw [State.write, if_pos rfl]
  exact congrArg done one

end Sys2Proof.Machine
end

section
namespace Sys2Proof.Machine
variable {s t : State}

/-! Restarts are requested (R451, R452, R465). -/

/-- SYS_RESTART as its write leaves it: stored, with its command bits cleared. -/
def State.restartStored (s : State) (v : Word) : State := (s.stored SYS_RESTART v).wrFld SYS_RESTART 18 16 0

theorem State.restartStored_onlyIn (s : State) (v : Word) : OnlyIn [.regs] s (s.restartStored v) :=
  (s.stored_onlyIn _ _).trans (State.wrFld_onlyIn _ _ _ _ _ _ _)

theorem State.writeWord_restart {p : Path} (hr : s.reaches p SYS_RESTART.off = true) (v : Word) :
    s.writeWord p SYS_RESTART.off v = (s.restartStored v).writeRestart v.toNat :=
  (State.writeWord_command (commandAt _ (by decide)) hr).trans (by simp [State.afterSvc, State.restartStored])

/-- Powering displays down reads nothing but the displays and the time. -/
theorem displays_foldl_panelDown (l : List Nat) (ht : t.displays = s.displays) (hc : t.clock = s.clock) :
    (l.foldl (fun u d => u.panelDown d) t).displays = (l.foldl (fun u d => u.panelDown d) s).displays := by
  induction l generalizing s t with
  | nil => exact ht
  | cons d l ih => exact ih (by simp only [State.panelDown, State.modDisp, ht, hc]) hc

/-- What a restart that is asked for changes. -/
theorem State.startRestart_spec (s : State) (cause : Nat) (rescue imm : Bool) :
    OnlyIn [.sys, .displays] s (s.startRestart cause rescue imm) ∧
      (if s.sys.restart.isSome = true then
        (s.startRestart cause rescue imm).sys = s.sys ∧ (s.startRestart cause rescue imm).displays = s.displays
      else (s.startRestart cause rescue imm).sys = { s.sys with restart := some (cause, rescue, imm) } ∧
        (s.startRestart cause rescue imm).displays =
          if imm then s.displays else ((List.range 3).foldl (fun u d => u.panelDown d) s).displays) := by
  by_cases due : s.sys.restart.isSome = true
  · have same : s.startRestart cause rescue imm = s := if_pos due
    rw [if_pos due, same]
    exact ⟨.refl _ _, rfl, rfl⟩
  · rw [if_neg due]
    let u : State := { s with sys := { s.sys with restart := some (cause, rescue, imm) } }
    have first : OnlyIn [.sys, .displays] s u := fun p => by
      cases p <;> first | exact .inr rfl | exact .inl (by decide)
    have answer : s.startRestart cause rescue imm = if imm then u else (List.range 3).foldl (fun u d => u.panelDown d) u :=
      if_neg due
    rw [answer]
    cases imm
    · have dark := OnlyIn.foldl (fun (u : State) d => u.panelDown d) State.panelDown_onlyIn (List.range 3) u
      exact ⟨first.step dark (by decide), (dark.sys_eq (by decide)).trans rfl, displays_foldl_panelDown _ rfl rfl⟩
    · exact ⟨first, rfl, rfl⟩

/-- A write with the key asks for the restart that its bits name. -/
theorem State.writeRestart_key (s : State) (cold rescue imm : Bool) :
    s.writeRestart (restartValue cold rescue imm).toNat = s.startRestart (if cold then 3 else 2) rescue imm := by
  have key : bits (restartValue cold rescue imm).toNat 15 0 = 0x52C3 := by cases cold <;> cases rescue <;> cases imm <;> decide
  have named : bitAt (restartValue cold rescue imm).toNat 16 = cold ∧ bitAt (restartValue cold rescue imm).toNat 17 = rescue ∧
      bitAt (restartValue cold rescue imm).toNat 18 = imm := by cases cold <;> cases rescue <;> cases imm <;> decide
  obtain ⟨hc, hs, hi⟩ := named
  rw [State.writeRestart, if_pos key, hc, hs, hi]

theorem gives_restart {i : Instr} {p : Path} (hr : s.reaches p SYS_RESTART.off = true) (cold rescue imm : Bool)
    (h : exec i s = done (s.writeWord p SYS_RESTART.off (restartValue cold rescue imm))) :
    Gives i s (fun t => OnlyIn [.regs, .sys, .displays] s t ∧
      (if s.sys.restart.isSome = true then t.sys = s.sys ∧ t.displays = s.displays
        else t.sys = { s.sys with restart := some (if cold then 3 else 2, rescue, imm) } ∧
          t.displays = if imm then s.displays else ((List.range 3).foldl (fun u d => u.panelDown d) s).displays)) := by
  rw [State.writeWord_restart hr, State.writeRestart_key] at h
  have stored := s.restartStored_onlyIn (restartValue cold rescue imm)
  obtain ⟨only, asked⟩ := (s.restartStored (restartValue cold rescue imm)).startRestart_spec (if cold then 3 else 2) rescue imm
  rw [stored.sys_eq (by decide), stored.displays_eq (by decide), displays_foldl_panelDown (s := s) _
    (stored.displays_eq (by decide)) (stored.clock_eq (by decide))] at asked
  exact ⟨_, h, ((stored.mono (by decide)).step only (by decide)).settle, asked⟩

/-- A write with another key is counted. -/
theorem State.writeRestart_noKey {v : Word} (h : bits v.toNat 15 0 ≠ 0x52C3) :
    s.writeRestart v.toNat = s.bump SYS_RESTART_REJECT_COUNT := if_neg h

theorem State.rd_reject_restartStored (s : State) (v : Word) :
    (s.restartStored v).rd SYS_RESTART_REJECT_COUNT = s.rd SYS_RESTART_REJECT_COUNT :=
  (State.rd_wrFld_other _ _ _ _ _ _ _ _ _ _ (by decide)).trans (State.rd_wr_other _ _ _ _ _ _ _ _ (by decide))

/-- Settles O12: the three commands are writes of SYS_RESTART with its key, which is `startRestart`. -/
theorem restartsAreRequested : Obligations.RestartsAreRequested := by
  refine ⟨fun p cold imm s hr => ⟨?_, ?_, ?_⟩, fun p v s hr other => ?_⟩
  · exact gives_restart hr false false imm rfl
  · exact gives_restart hr true false imm rfl
  · exact gives_restart hr cold true imm rfl
  · have answer := (exec_registerWrite s p SYS_RESTART.off v).trans (congrArg done
      ((State.writeWord_restart hr v).trans (State.writeRestart_noKey other)))
    refine ⟨_, answer, ?_, ?_⟩
    · rw [State.settle_rd, State.rd_bump_same, s.rd_reject_restartStored]
    · exact ((s.restartStored_onlyIn v).trans (State.bump_onlyIn _ _ _)).settle

end Sys2Proof.Machine
end

section
namespace Sys2Proof.Machine
variable {s t : State}

/-! Mode requests (R422 to R424). -/

/-- The answer of a request that ends there. -/
theorem State.requestMode_safe (v cause : Nat) (h : s.guard.safe = true) : s.requestMode v cause = s.setResult 3 := if_pos h

/-- The answers outside SAFE with no change of mode under way, for a mode that a request can name. -/
theorem State.requestMode_idle {v cause : Nat} {m : Mode} (safe : s.guard.safe = false) (none : s.power.trans = .none)
    (named : modeOf v = some m) : s.requestMode v cause =
      if s.reacting = true then s.setResult 1
      else if s.reachable m = false then s.setResult 2
      else if m = s.power.mode then s.setResult 0
      else if (m = .retain ∨ m = .deepStandby) ∧ s.clock.oscFailed = true then s.setResult 4
      else { s with power := { s.power with trans := .requested m cause, result := 0 } } := by
  have settled : Transition.isEntry .none = false := rfl
  cases hr : s.reacting <;> simp [State.requestMode, safe, named, none, settled, hr]

/-- RUN and IDLE reach every mode that a request can name. -/
theorem State.reachable_of_modeOf {v : Nat} {m : Mode} (awake : s.power.mode = .run ∨ s.power.mode = .idle)
    (named : modeOf v = some m) : s.reachable m = true := by
  have offered : (decide (m ≠ .safe) && decide (m ≠ .off)) = true := by
    unfold modeOf at named
    split at named <;> cases named <;> rfl
  obtain h | h := awake
  · rw [State.reachable, h]; exact offered
  · rw [State.reachable, h]; exact offered

theorem State.setResult_onlyIn (s : State) (r : Nat) : OnlyIn [.power] s (s.setResult r) :=
  (OnlyIn.refl _ _).power (by decide)

theorem State.writeWord_modeReq {p : Path} (hr : s.reaches p PWR_MODE_REQ.off = true) (v : Word) :
    s.writeWord p PWR_MODE_REQ.off v = (s.stored PWR_MODE_REQ v).requestMode (bits v.toNat 2 0) (pathCause p) :=
  (State.writeWord_command (commandAt _ (by decide)) hr).trans
    (by simp [State.afterSvc, PWR_MODE_REQ, SYS_RESTART, SYS_RESCUE_CTL, LCS_CMD])

/-- The four requests are writes of PWR_MODE_REQ with the code of their mode. -/
theorem modeRequest_write {p : Path} {c : Instr} {m : Mode}
    (h : (c, m) ∈ [(Instr.modeRequestDeepStandby p, Mode.deepStandby), (.modeRequestRetain p, .retain),
      (.modeRequestIdle p, .idle), (.modeRequestRun p, .run)]) :
    ∃ v : Word, modeOf (bits v.toNat 2 0) = some m ∧ ∀ s, exec c s = done (s.writeWord p PWR_MODE_REQ.off v) := by
  simp only [List.mem_cons, List.not_mem_nil, or_false, Prod.mk.injEq] at h
  obtain ⟨rfl, rfl⟩ | ⟨rfl, rfl⟩ | ⟨rfl, rfl⟩ | ⟨rfl, rfl⟩ := h
  · exact ⟨1, rfl, fun _ => rfl⟩
  · exact ⟨2, rfl, fun _ => rfl⟩
  · exact ⟨3, rfl, fun _ => rfl⟩
  · exact ⟨4, rfl, fun _ => rfl⟩

/-- The standby pad that has been released since it last asked. -/
theorem State.stbyLow_asks (ready : s.power.stbyReady = true) (booted : s.sys.bootStage = 7)
    (awake : s.power.mode = .run ∨ s.power.mode = .idle) :
    s.stbyLow = ({ s with power := { s.power with stbyReady := false } } : State).requestMode
      (if s.flag PWR_CFG 0 then 1 else 2) 2 := by
  simp only [State.stbyLow, ready, booted, awake, Bool.true_and, beq_self_eq_true, decide_true, if_true]
  rfl

theorem State.stbyLow_waits (low : s.power.stbyReady = false) : s.stbyLow = s := by
  have same : ({ s.power with stbyReady := false } : Power) = s.power := by rw [← low]
  simp only [State.stbyLow, low, Bool.false_and, same]
  rfl

/-- Settles O17: a request is `requestMode` of the state with PWR_MODE_REQ stored, whose branches are the answers. -/
theorem modeRequestsAreAnswered : Obligations.ModeRequestsAreAnswered := by
  refine ⟨fun p s c m hc hr => ?_, fun s => ⟨fun low => congrArg done (State.stbyLow_waits low),
    fun ready booted safe none calm osc awake => ?_⟩⟩
  · obtain ⟨v, named, command⟩ := modeRequest_write hc
    have stored := s.stored_onlyIn PWR_MODE_REQ v
    have answer : exec c s = done ((s.stored PWR_MODE_REQ v).requestMode (bits v.toNat 2 0) (pathCause p)) :=
      (command s).trans (congrArg done (State.writeWord_modeReq hr v))
    generalize s.stored PWR_MODE_REQ v = u at stored answer
    have power : u.power = s.power := stored.power_eq (by decide)
    have guard : u.guard = s.guard := stored.guard_eq (by decide)
    have reacting : u.reacting = s.reacting := by rw [State.reacting, guard, State.reacting]
    have osc : u.clock.oscFailed = s.clock.oscFailed := by rw [stored.clock_eq (by decide)]
    have answers (r : Nat) (h : u.requestMode (bits v.toNat 2 0) (pathCause p) = u.setResult r) :
        Gives c s (fun t => t.power = { s.power with result := r } ∧ OnlyIn [.regs, .power] s t) := by
      rw [h] at answer
      refine ⟨_, answer, ?_, ((stored.mono (by decide)).step (u.setResult_onlyIn r) (by decide)).settle⟩
      rw [State.settle_power, State.setResult, power]
    refine ⟨fun safe => answers 3 (State.requestMode_safe _ _ (by rw [guard, safe])), fun safe none busy => ?_,
      fun safe none calm awake => ?_⟩
    · exact answers 1 (by rw [State.requestMode_idle (by rw [guard, safe]) (by rw [power, none]) named, reacting, if_pos busy])
    · have branch := State.requestMode_idle (s := u) (cause := pathCause p) (by rw [guard, safe]) (by rw [power, none]) named
      rw [reacting, if_neg (by simp [calm]), if_neg (by
        rw [State.reachable_of_modeOf (by rw [power]; exact awake) named]; decide), power, osc] at branch
      refine ⟨fun same => ?_, fun other barred => ?_, fun other free => ?_⟩
      · exact answers 0 (by rw [branch, if_pos same])
      · exact answers 4 (by rw [branch, if_neg other, if_pos barred])
      · rw [if_neg other, if_neg free] at branch
        rw [branch] at answer
        exact ⟨_, answer, rfl, (OnlyIn.power (stored.mono (by decide)) (by decide)).settle⟩
  · have asked := State.stbyLow_asks ready booted awake
    have named : modeOf (if s.flag PWR_CFG 0 then 1 else 2) =
        some (if s.flag PWR_CFG 0 then .deepStandby else .retain) := by cases s.flag PWR_CFG 0 <;> rfl
    generalize hu : ({ s with power := { s.power with stbyReady := false } } : State) = u at asked
    have only : OnlyIn [.power] s u := hu ▸ (OnlyIn.refl _ _).power (by decide)
    have mode : u.power.mode = s.power.mode := by rw [← hu]
    have trans : u.power.trans = .none := by rw [← hu]; exact none
    have safe' : u.guard.safe = false := by rw [only.guard_eq (by decide), safe]
    have calm' : ¬ u.reacting = true := by
      rw [State.reacting, only.guard_eq (by decide), ← State.reacting, calm]; decide
    rw [State.requestMode_idle safe' trans named, if_neg calm', if_neg (by
        rw [State.reachable_of_modeOf (by rw [mode]; exact awake) named]; decide),
      if_neg (by rw [mode]; cases s.flag PWR_CFG 0 <;> obtain h | h := awake <;> rw [h] <;> decide),
      if_neg (by rw [only.clock_eq (by decide), osc]; simp)] at asked
    refine ⟨_, congrArg done asked, ?_, (only.power (by decide)).settle⟩
    rw [State.settle_power, ← hu]

end Sys2Proof.Machine
end

section
namespace Sys2Proof.Machine
variable {s t : State}

/-! Wake events in RETAIN (R438 to R440, Table 14.5). -/

/-- The state lies in RETAIN, with the latch armed and empty. -/
structure State.Retained (s : State) : Prop where
  mode : s.power.mode = .retain
  trans : s.power.trans = .none
  armed : s.power.armed = true
  latched : s.power.latched = []

/-- The power part after a wake event of source `src` with Keeper time `ns`: the event is latched, the exit has started,
PCIE_WAKE_N is low, and the standby pad and the alarm stand as before. -/
structure Power.Woken (src ns : Nat) (p q : Power) : Prop where
  exiting : q.trans = .exiting .retain
  low : q.wakeOut = true
  source : q.latched.map (·.source) = [src]
  time : q.latched.map (·.ns) = [ns]
  ready : q.stbyReady = p.stbyReady
  passed : q.alarmPassed = p.alarmPassed
  alarm : q.alarm = p.alarm

/-- A change of the power part that leaves mode and latch. -/
theorem State.Retained.of_power (h : s.Retained) (mode : t.power.mode = s.power.mode) (trans : t.power.trans = s.power.trans)
    (armed : t.power.armed = s.power.armed) (latched : t.power.latched = s.power.latched) : t.Retained :=
  ⟨mode.trans h.mode, trans.trans h.trans, armed.trans h.armed, latched.trans h.latched⟩

theorem State.Retained.congr (h : s.Retained) (same : t.power = s.power) : t.Retained :=
  h.of_power (by rw [same]) (by rw [same]) (by rw [same]) (by rw [same])

/-- A wake event of an enabled source other than the link. -/
theorem State.Retained.wakeEvent (h : s.Retained) {src : Nat} (on : s.wakeOn src = true) (other : src ≠ 9) (ns tick : Nat) :
    Power.Woken src ns s.power (s.wakeEvent src ns tick).power ∧ OnlyIn [.power] s (s.wakeEvent src ns tick) := by
  obtain ⟨mode, trans, armed, latched⟩ := h
  let u : State := { s with power := { s.power with
    seen := s.power.seen ||| 2 ^ src, latched := [{ ns := ns, tick := tick, source := src, when_ := s.wakeWhen }] } }
  have latch : s.wakeEvent src ns tick = u.startExit src := by
    rw [State.wakeEvent, if_neg (by simp [armed, on])]
    simp only [latched, insertBy]
    rfl
  rw [latch, State.startExit_retain (s := u) mode trans]
  exact ⟨⟨rfl, decide_eq_true other, rfl, rfl, rfl, rfl, rfl⟩, ((OnlyIn.refl _ _).power (by decide)).power (by decide)⟩

theorem State.wakeOn_of_flag {src : Nat} (h : s.flag KPR_WAKE_EN src = true) : s.wakeOn src = true := by
  simp [State.wakeOn, h]

theorem State.wakeOn_congr (h : t.regs = s.regs) (src : Nat) : t.wakeOn src = s.wakeOn src := by
  rw [State.wakeOn, State.flag_congr h, State.wakeOn]

/-- KPR_WAKE_CMD as its write leaves it: stored, with its command bit cleared. -/
def State.wakeCmdStored (s : State) (v : Word) : State := (s.stored KPR_WAKE_CMD v).wrFld KPR_WAKE_CMD 0 0 0

theorem State.wakeCmdStored_onlyIn (s : State) (v : Word) : OnlyIn [.regs] s (s.wakeCmdStored v) :=
  (s.stored_onlyIn _ _).trans (State.wrFld_onlyIn _ _ _ _ _ _ _)

theorem softwareWake_wakes {p : Path} (hr : s.reaches p KPR_WAKE_CMD.off = true) :
    exec (.softwareWake p) s = done ((s.wakeCmdStored 1).wakeNow 8) := by
  have write : s.writeWord p KPR_WAKE_CMD.off 1 = (s.wakeCmdStored 1).wakeNow 8 :=
    (State.writeWord_command (commandAt _ (by decide)) hr).trans
      (by simp [State.afterSvc, State.wakeCmdStored, KPR_WAKE_CMD, PWR_MODE_REQ, PWR_OP_CEIL, SYS_RESTART, SYS_RESCUE_CTL,
        LCS_CMD, bitAt])
  exact congrArg done write

theorem State.ktime_congr (h : t.clock = s.clock) : t.ktime = s.ktime := by rw [State.ktime, h, State.ktime]

/-- The wake input once its level has held. -/
theorem State.wakeInput_sampled {n ns : Nat} {rising : Bool} (on : s.pwr.keeperOn = true) (mode : s.power.mode = .retain) :
    ∃ tick, s.wakeInput n rising ns =
      if (s.advanceTo (1000 * s.sampleNs ns + 100000000)).flag KPR_WAKE_POL n = rising then
        (s.advanceTo (1000 * s.sampleNs ns + 100000000)).wakeEvent n (s.sampleNs ns) tick
      else s.advanceTo (1000 * s.sampleNs ns + 100000000) :=
  ⟨s.tickAt (s.sampleNs ns), by simp [State.wakeInput, on, mode]⟩

/-- The state in which the alarm wakes: at its time, with the alarm passed. -/
def State.rung (s : State) : State :=
  let u := s.advanceTo (1000 * s.power.alarm)
  { u with power := { u.power with alarmPassed := true } }

theorem State.alarmRings_rung (set : s.power.alarm ≠ 0) (ahead : s.power.alarmPassed = false) (on : s.pwr.keeperOn = true) :
    s.alarmRings = s.rung.wakeNow 6 := by
  simp [State.alarmRings, State.rung, set, ahead, on]

/-- The answer of a command that comes to a wake event of a state that lies in RETAIN. -/
theorem gives_woken {i : Instr} {u : State} {src ns tick : Nat} {ps : List Part} (retained : u.Retained)
    (on : u.wakeOn src = true) (other : src ≠ 9) (only : OnlyIn ps s u) (hp : Part.power ∈ ps)
    (h : exec i s = done (u.wakeEvent src ns tick)) :
    Gives i s (fun t => Power.Woken src ns u.power t.power ∧ t.clock = u.clock ∧ OnlyIn ps s t) := by
  obtain ⟨woken, after⟩ := retained.wakeEvent on other ns tick
  generalize u.wakeEvent src ns tick = w at woken after h
  exact ⟨_, h, by rwa [State.settle_power], (State.settle_clock w).trans (after.clock_eq (by decide)), (only.step after (by simpa using hp)).settle⟩

/-- Settles O18: each of the four events is `wakeEvent` in a state that lies in RETAIN. -/
theorem wakeEventsLatchAndWake : Obligations.WakeEventsLatchAndWake := by
  intro s mode trans armed latched
  have retained : s.Retained := ⟨mode, trans, armed, latched⟩
  refine ⟨fun p hr => ?_, fun low on => ?_, fun n rising ns hn keeper on => ?_, fun set ahead keeper on => ?_⟩
  · have stored := s.wakeCmdStored_onlyIn 1
    have answer := softwareWake_wakes hr
    generalize s.wakeCmdStored 1 = u at stored answer
    have wakes := gives_woken (ps := [.regs, .power]) (retained.congr (stored.power_eq (by decide))) (src := 8) rfl
      (by decide) (stored.mono (by decide)) (by decide) answer
    rw [State.ktime_congr (stored.clock_eq (by decide))] at wakes
    exact wakes.imp fun t ⟨woken, _, only⟩ => ⟨⟨woken.exiting, woken.low, woken.source, woken.time⟩, only⟩
  · let u : State := { s with power := { s.power with stbyReady := true } }
    have released : s.stbyHigh = u.wakeNow 7 := by simp only [State.stbyHigh, low]; rfl
    have wakes := gives_woken (i := .stbyRelease) (u := u) (ps := [.power]) (retained.of_power rfl rfl rfl rfl) (src := 7)
      (State.wakeOn_of_flag on) (by decide) ((OnlyIn.refl _ _).power (by decide)) (by decide) (congrArg done released)
    exact wakes.imp fun t ⟨woken, _, only⟩ =>
      ⟨⟨woken.exiting, woken.low, woken.source, woken.time⟩, woken.ready, only⟩
  · obtain ⟨tick, sampled⟩ := State.wakeInput_sampled (n := n) (ns := ns) (rising := rising) keeper mode
    have waited := s.advanceTo_onlyIn (1000 * s.sampleNs ns + 100000000)
    have late := s.le_advanceTo (1000 * s.sampleNs ns + 100000000)
    have onward := s.advanceTo_le (1000 * s.sampleNs ns + 100000000)
    generalize s.advanceTo (1000 * s.sampleNs ns + 100000000) = u at sampled waited late onward
    have regs := waited.regs_eq (by decide)
    rw [State.flag_congr regs] at sampled
    have answer : exec (.wakeInputEdge n rising ns) s = onUnit n 2 s (s.wakeInput n rising ns) := rfl
    rw [onUnit_lt s _ hn, ← done_eq] at answer
    by_cases polarity : s.flag KPR_WAKE_POL n = rising
    · rw [sampled, if_pos polarity] at answer
      have wakes := gives_woken (ps := [.clock, .power]) (retained.congr (waited.power_eq (by decide)))
        (by rw [State.wakeOn_congr regs, State.wakeOn_of_flag on]) (by omega) (waited.mono (by decide)) (by decide) answer
      refine wakes.imp fun t ⟨woken, clock, only⟩ => ⟨by rw [clock]; exact late, by rw [clock]; exact onward, only, ?_⟩
      rw [if_pos polarity]
      exact ⟨woken.exiting, woken.low, woken.source, woken.time⟩
    · rw [sampled, if_neg polarity] at answer
      refine ⟨_, answer, ?_, ?_, (waited.mono (by decide)).settle, ?_⟩
      · rw [State.settle_clock]; exact late
      · rw [State.settle_clock]; exact onward
      · rw [if_neg polarity, State.settle_power]
        exact waited.power_eq (by decide)
  · have answer : exec .keeperAlarm s = done (s.rung.wakeNow 6) := congrArg done (State.alarmRings_rung set ahead keeper)
    have waited : OnlyIn [.clock, .power] s s.rung := ((s.advanceTo_onlyIn _).mono (by decide)).power (by decide)
    have late : 1000 * s.power.alarm ≤ s.rung.clock.ps := s.le_advanceTo _
    have rung : s.rung.power = { s.power with alarmPassed := true } := rfl
    generalize s.rung = u at answer waited late rung
    have lies : u.Retained := retained.of_power (by rw [rung]) (by rw [rung]) (by rw [rung]) (by rw [rung])
    have wakes := gives_woken (ps := [.clock, .power]) lies (src := 6)
      (by rw [State.wakeOn_congr (waited.regs_eq (by decide)), State.wakeOn_of_flag on]) (by decide) waited (by decide) answer
    refine wakes.imp fun t ⟨woken, clock, only⟩ => ⟨⟨woken.exiting, woken.low, woken.source, ?_⟩,
      woken.passed.trans (by rw [rung]), woken.alarm.trans (by rw [rung]), by rw [clock]; exact late, only⟩
    rw [State.ktime_congr clock]
    exact woken.time

end Sys2Proof.Machine
end

section
namespace Sys2Proof.Machine
variable {s t : State}

/-! What each reset keeps and wipes (R450, R453, Table 15.2). -/

/-- Every reset keeps the boot record, the fuses, the MRAM and the memory of the host, and starts the rest anew. -/
theorem State.resetTo_record (s : State) (k : Nat) :
    (s.resetTo k).sys = { (s.blank.keepRecord s).sys with resetCause := k } ∧ (s.resetTo k).pending = s.pending ∧
    (s.resetTo k).chans = [] ∧ (s.resetTo k).hif = .reset ∧ (s.resetTo k).guard = .reset ∧
    (s.resetTo k).mem.mram = s.mem.mram ∧ (s.resetTo k).mem.host = s.mem.host ∧ (s.resetTo k).mem.sram = [] := by
  unfold State.resetTo
  split <;> exact ⟨rfl, rfl, rfl, rfl, rfl, rfl, rfl, rfl⟩

/-- A power-on reset and a life-cycle restart return every register; every other reset keeps those of the KPR block, the
trouble log and the wake latch. -/
theorem State.resetTo_keeper (s : State) (k : Nat) :
    (k = 0 ∨ k = 6 → (s.resetTo k).log = .reset ∧ (s.resetTo k).power.latched = [] ∧ (s.resetTo k).regs = []) ∧
    (k ≠ 0 → k ≠ 6 → (s.resetTo k).log = s.log ∧ (s.resetTo k).power.latched = s.power.latched ∧
      (s.resetTo k).regs = kprOnly s.regs) := by
  unfold State.resetTo
  split
  · exact ⟨fun _ => ⟨rfl, rfl, rfl⟩, fun h => absurd rfl h⟩
  · exact ⟨fun h => absurd h (by decide), fun _ _ => ⟨rfl, rfl, rfl⟩⟩
  · exact ⟨fun _ => ⟨rfl, rfl, rfl⟩, fun _ h => absurd rfl h⟩
  · exact ⟨fun h => absurd h (by decide), fun _ _ => ⟨rfl, rfl, rfl⟩⟩
  · next h0 _ h6 _ => exact ⟨fun h => (h.elim h0 h6).elim, fun _ _ => ⟨rfl, rfl, rfl⟩⟩

/-- A warm reset alone keeps the DRAM. -/
theorem State.resetTo_dram (s : State) (k : Nat) : (s.resetTo k).mem.dram = if k = 2 then s.mem.dram else [] := by
  unfold State.resetTo
  split
  · rfl
  · rfl
  · rfl
  · rfl
  · next h2 => rw [if_neg h2]; rfl

/-- A power-on reset alone starts Keeper time at 0. -/
theorem State.resetTo_time (s : State) (k : Nat) : (s.resetTo k).clock.ps = if k = 0 then 0 else s.clock.ps := by
  unfold State.resetTo
  split
  · rfl
  · rfl
  · rfl
  · rfl
  · next h0 _ _ _ => rw [if_neg h0]; rfl

/-- A register outside the KPR block is not among those kept. -/
theorem rd_of_kprOnly (regs : t.regs = kprOnly s.regs) (d : RegDef) (i : Nat) :
    t.rd d i = if d.at i / 65536 = 12 then s.rd d i else State.reset.rd d i := by
  have kept := tget_filter (BitVec.ofNat 32 (d.resetAt i 0)) (fun k => k / 65536 == 12) s.regs (d.at i)
  simp only [beq_iff_eq] at kept
  rw [State.rd, regs, kprOnly, kept]
  split <;> rfl

/-- Settles O14: one statement for what every reset does, one for the Keeper's part, one for DRAM, one for the time. -/
theorem resetKindsKeepAndWipe : Obligations.ResetKindsKeepAndWipe := by
  intro s k
  dsimp only
  obtain ⟨sys, pending, chans, hif, guard, mram, host, sram⟩ := s.resetTo_record k
  obtain ⟨wiped, kept⟩ := s.resetTo_keeper k
  have registers (d : RegDef) (i : Nat) (h : d.at i / 65536 ≠ 12) : (s.resetTo k).rd d i = State.reset.rd d i := by
    by_cases fresh : k = 0 ∨ k = 6
    · exact State.rd_congr (wiped fresh).2.2 d i
    · obtain ⟨-, -, regs⟩ := kept (fun e => fresh (.inl e)) (fun e => fresh (.inr e))
      rw [rd_of_kprOnly regs, if_neg h]
  rw [sys]
  refine ⟨rfl, rfl, rfl, rfl, rfl, rfl, rfl, rfl, rfl, rfl, rfl, rfl, rfl, rfl, rfl, rfl, mram, host, pending, chans, sram, hif,
    guard, registers, fun h0 h6 => ?_, fun fresh => ?_, fun h => ?_, fun h => ?_, fun h => ?_, fun h => ?_⟩
  · obtain ⟨log, latched, regs⟩ := kept h0 h6
    exact ⟨log, latched, fun d i h => by rw [rd_of_kprOnly regs, if_pos h]⟩
  · obtain ⟨log, latched, regs⟩ := wiped fresh
    exact ⟨log, latched, State.rd_congr regs⟩
  · rw [s.resetTo_dram, if_pos h]
  · rw [s.resetTo_dram, if_neg h]
  · rw [s.resetTo_time, if_pos h]
  · rw [s.resetTo_time, if_neg h]

end Sys2Proof.Machine
end

section
namespace Sys2Proof.Machine
variable {r s t : State}

/-! A module that has just been reset: no job, no channel, the link down, and no tick at work. Its boot stages, and the faults
that they raise, leave it so. -/

/-- `s` has nothing under way, and the same system block as `r`. -/
structure Resting (r s : State) : Prop where
  sys : s.sys = r.sys
  jobs : s.hif.jobs = []
  live : s.hif.live = []
  chans : s.chans = []
  link : s.bus.linkGen = 0
  calm : s.tick.window ≠ .work

namespace Resting

theorem self (h : Resting r s) : Resting s s := { h with sys := rfl }

/-- An update that touches none of this. -/
theorem upd (h : Resting r s) (sys : t.sys = s.sys := by rfl) (hif : t.hif = s.hif := by rfl)
    (chans : t.chans = s.chans := by rfl) (bus : t.bus.linkGen = s.bus.linkGen := by rfl)
    (tick : t.tick.window = s.tick.window := by rfl) : Resting r t where
  sys := sys.trans h.sys
  jobs := (congrArg Hif.jobs hif).trans h.jobs
  live := (congrArg Hif.live hif).trans h.live
  chans := chans.trans h.chans
  link := bus.trans h.link
  calm := tick ▸ h.calm

theorem keep {ps : List Part} (h : Resting r s) (k : OnlyIn ps s t)
    (hp : ∀ p ∈ [Part.sys, .hif, .chans, .bus, .tick], p ∉ ps) : Resting r t :=
  h.upd (k.sys_eq (hp _ (by decide))) (k.hif_eq (hp _ (by decide))) (k.chans_eq (hp _ (by decide)))
    (congrArg Bus.linkGen (k.bus_eq (hp _ (by decide)))) (congrArg Tick.window (k.tick_eq (hp _ (by decide))))

theorem ite {c : Prop} {_ : Decidable c} (h : Resting r s) (k : Resting r t) : Resting r (if c then s else t) := by
  split <;> assumption

theorem foldl {α : Type} {f : State → α → State} {l : List α} (h : Resting r s)
    (k : ∀ {u : State} {x : α}, Resting r u → Resting r (f u x)) : Resting r (l.foldl f s) := by
  induction l generalizing s with
  | nil => exact h
  | cons x l ih => exact ih (k h)

/-! What a fault does to such a module. -/

theorem logFault {code : Nat} {cls acted : FClass} {i : FaultInfo} (h : Resting r s) :
    Resting r (s.logFault code cls acted i) := by
  obtain ⟨l, hif⟩ := (s.logFault_aside code cls acted i).1
  have only := s.logFault_onlyIn code cls acted i
  exact { sys := (only.sys_eq (by decide)).trans h.sys
          jobs := (congrArg Hif.jobs hif).trans h.jobs
          live := (congrArg Hif.live hif).trans h.live
          chans := (only.chans_eq (by decide)).trans h.chans
          link := (congrArg Bus.linkGen (only.bus_eq (by decide))).trans h.link
          calm := only.tick_eq (by decide) ▸ h.calm }

theorem guard {g : Guard} (h : Resting r s) : Resting r { s with guard := g } := h.upd
theorem setStatus {code : Nat} (h : Resting r s) : Resting r (s.setStatus code) := h.upd
theorem present {code src : Nat} (h : Resting r s) : Resting r (s.present code src) := h.upd
theorem raiseI {code : Nat} {i : FaultInfo} (h : Resting r s) : Resting r (s.raiseI code i) := h.setStatus.logFault
theorem raiseCond {code : Nat} {i : FaultInfo} (h : Resting r s) : Resting r (s.raiseCond code i) := h.raiseI.present
theorem bump {d : RegDef} {i : Nat} (h : Resting r s) : Resting r (s.bump d i) := h.upd
theorem logMerged {code link : Nat} {cls acted : FClass} {i : FaultInfo} (h : Resting r s) :
    Resting r (s.logMerged code cls acted i link) := h.bump.logFault

theorem signal {v : Nat} (h : Resting r s) : Resting r (s.signal v) := by
  unfold State.signal
  exact ite h.upd h.upd

theorem flushMsi (h : Resting r s) : Resting r s.flushMsi := by
  unfold State.flushMsi
  exact h.foldl fun k => ite k.upd k

theorem enterSafe (h : Resting r s) : Resting r s.enterSafe := by
  unfold State.enterSafe
  have dark : Resting r ((List.range 3).foldl (fun s d => s.panelDown d) (s.bump GRD_REACT_COUNT 4)) :=
    h.bump.foldl fun k => k.upd
  refine h.ite (flushMsi (ite ?_ ?_))
  · exact dark.upd.keep (State.lockBanksAndPlls_onlyIn _) (by decide)
  · exact dark.upd

theorem toSafe {link extra : Nat} (h : Resting r s) : Resting r (s.toSafe link extra) := by
  unfold State.toSafe
  exact (h.ite h.setStatus.present.logMerged).enterSafe

theorem job?_none (h : Resting r s) (id : Nat) : s.job? id = none := by simp [State.job?, h.jobs, h.live]

theorem discardJobs {c : Nat} {ids : List Nat} (h : Resting r s) :
    Resting r (ids.foldl (fun s id => s.discardJob c id) s) :=
  h.foldl fun {u id} k => by rw [State.discardJob, k.job?_none]; exact k

theorem feedEngines (h : Resting r s) : Resting r s.feedEngines := by
  rw [State.feedEngines, if_neg h.calm]; exact h

theorem maybeCompose (h : Resting r s) : Resting r s.maybeCompose := by
  rw [State.maybeCompose, if_neg (by simp [h.calm])]; exact h

theorem moveWork {u : Nat} (h : Resting r s) : Resting r (s.moveWork u) := by
  unfold State.moveWork State.onEngines
  rw [h.jobs, h.live]
  exact h

theorem fence {k : UnitKind} {n code : Nat} (h : Resting r s) : Resting r (s.fence k n code) := by
  unfold State.fence
  cases k with
  | syn => exact h.ite (ite (raiseCond h.upd) h.upd)
  | pix => exact h.ite (ite (raiseCond h.upd) h.upd)
  | enc => exact h.ite (ite (raiseCond h.upd) h.upd)
  | core => exact h.ite (keep (s := (s.withFenced .core n code).present code (unitTag .core n)) h.upd
      (State.stopCore_onlyIn _ n code) (by decide))

theorem discardE {k : UnitKind} {n code : Nat} {ids : List Nat} (h : Resting r s) :
    Resting r (s.discardE k n code ids) := by
  have due {l : List Nat} : Resting r ((ids.foldl (fun s id => s.discardJob code id) s).dueTags l) := h.discardJobs.upd
  unfold State.discardE
  cases k with
  | syn => exact due.moveWork.feedEngines.maybeCompose
  | pix => exact due.feedEngines.maybeCompose
  | enc => exact due.feedEngines.maybeCompose
  | core => exact due.feedEngines.maybeCompose

/-- A fault of Class E on its unit, or of Class S. -/
theorem react {code : Nat} {cls : FClass} {i : FaultInfo} {x : Targets} (h : Resting r s) (unit : effClass cls x ≠ .m)
    (channel : cls ≠ .c) : Resting r (s.react code cls i x) := by
  unfold State.react
  extract_lets eff old newM extra acting ids i first g a begun logged shown restarted
  have hlogged : Resting r logged := by
    unfold logged
    split
    · exact h.upd.logFault.signal.keep (State.hwFlag_onlyIn _ 4) (by decide)
    · exact logMerged h.upd
  have hshown : Resting r shown := hlogged.ite hlogged.present
  have hrestarted : Resting r restarted := by
    have never : newM = false := by unfold newM eff; simp [unit]
    unfold restarted
    rw [never]
    exact hshown
  refine hshown.toSafe.ite ?_
  unfold State.actOn
  split
  · exact absurd rfl channel
  · split
    · exact hrestarted
    · exact hrestarted.fence.discardE
  · exact hrestarted

theorem raise {code : Nat} {cls : FClass} {i : FaultInfo} {x : Targets} (h : Resting r s) (hc : faultClass code = some cls)
    (unit : effClass cls x ≠ .m) (channel : cls ≠ .c) : Resting r (s.raise code i x) := by
  unfold State.raise
  rw [hc]
  have logged := fun {cls acted i} => h.setStatus (code := code).logFault (code := code) (cls := cls) (acted := acted) (i := i)
  exact logged.ite ((logged.present.ite logged).ite (logged.ite (logged.present.guard.ite (h.setStatus.react unit channel))))

theorem raise_s {code : Nat} {i : FaultInfo} (h : Resting r s) (hc : faultClass code = some .s) : Resting r (s.raise code i) :=
  h.raise hc (by decide) (by decide)

theorem patchMismatch {u : Nat} (h : Resting r s) : Resting r (s.patchMismatch u) :=
  h.raise (cls := .e) (by decide) nofun (by decide)

end Resting

end Sys2Proof.Machine
end

section
namespace Sys2Proof.Machine
variable {r s t : State}

/-! The boot stages of a module that has just been reset (R455, R465). -/

/-- `s` has nothing under way, and the cause of its reset, its due restart and its configuration state are those of `r`. -/
structure Starts (r s : State) : Prop where
  resting : Resting s s
  cause : s.sys.resetCause = r.sys.resetCause
  restart : s.sys.restart = r.sys.restart
  cfg : s.sys.cfg = r.sys.cfg

namespace Starts

theorem refl (h : Resting s s) : Starts s s := ⟨h, rfl, rfl, rfl⟩

theorem of_resting (h : Starts r s) (k : Resting s t) : Starts r t :=
  ⟨k.self, k.sys ▸ h.cause, k.sys ▸ h.restart, k.sys ▸ h.cfg⟩

/-- A change of the system block that leaves cause, restart and configuration state, with others that touch nothing here. -/
theorem upd (h : Starts r s) (cause : t.sys.resetCause = s.sys.resetCause := by rfl)
    (restart : t.sys.restart = s.sys.restart := by rfl) (cfg : t.sys.cfg = s.sys.cfg := by rfl)
    (hif : t.hif = s.hif := by rfl) (chans : t.chans = s.chans := by rfl)
    (bus : t.bus.linkGen = s.bus.linkGen := by rfl) (tick : t.tick.window = s.tick.window := by rfl) : Starts r t where
  resting := {
    sys := rfl
    jobs := (congrArg Hif.jobs hif).trans h.resting.jobs
    live := (congrArg Hif.live hif).trans h.resting.live
    chans := chans.trans h.resting.chans
    link := bus.trans h.resting.link
    calm := tick ▸ h.resting.calm }
  cause := cause.trans h.cause
  restart := restart.trans h.restart
  cfg := cfg.trans h.cfg

theorem keep {ps : List Part} (h : Starts r s) (k : OnlyIn ps s t)
    (hp : ∀ p ∈ [Part.sys, .hif, .chans, .bus, .tick], p ∉ ps) : Starts r t := h.of_resting (h.resting.keep k hp)

theorem ite {c : Prop} {_ : Decidable c} (h : Starts r s) (k : Starts r t) : Starts r (if c then s else t) := by
  split <;> assumption

theorem raise_s {code : Nat} {i : FaultInfo} (h : Starts r s) (hc : faultClass code = some .s) : Starts r (s.raise code i) :=
  h.of_resting (h.resting.raise_s hc)

theorem stage {n : Nat} (h : Starts r s) : Starts r (s.stage n) := h.upd

theorem modSlot {k : Nat} {f : FwSlot → FwSlot} (h : Starts r s) : Starts r (s.modSlot k f) := ite h.upd h.upd

theorem markBad {k : Nat} (h : Starts r s) : Starts r (s.markBad k) := h.modSlot.upd

theorem trySlot {k : Nat} (h : Starts r s) : Starts r (s.trySlot k).1 := by
  have bad : Starts r (s.markBad k) := h.markBad
  unfold State.trySlot
  split
  · exact h
  · exact h
  · split
    · exact bad.upd
    · split
      · exact h.upd
      · exact bad.upd

theorem chooseSlot (h : Starts r s) : Starts r s.chooseSlot.1 := by
  have first := h.trySlot (k := s.sys.preferred)
  unfold State.chooseSlot
  dsimp only
  split
  · next u hu => rw [hu] at first; exact first
  · next u hu => rw [hu] at first; exact first.trySlot

theorem loadPatch {k : Nat} {l : List Nat} (h : Starts r s) : Starts r (s.loadPatch k l) := by
  have loaded {y : Sys} (cause : y.resetCause = s.sys.resetCause) (restart : y.restart = s.sys.restart)
      (cfg : y.cfg = s.sys.cfg) : Starts r { s with sys := y } := h.upd cause restart cfg
  unfold State.loadPatch
  refine h.ite ?_
  dsimp only
  split
  · have words := loaded (y := { s.sys with
      loadResult := 0, overrides := overridesOf (patchW (patchByte (s.slotByte k))) (patchV (patchByte (s.slotByte k)))
        (s.patchResult (patchByte (s.slotByte k)) (patchLen (s.slotByte k))).2
      patchWords := (List.range (patchW (patchByte (s.slotByte k)))).map fun i =>
        leAt (s.patchResult (patchByte (s.slotByte k)) (patchLen (s.slotByte k))).2 (12 * i) 12
      patchVersion := imgNat (patchByte (s.slotByte k)) 0x10 4
      imageEpoch := imgNat (patchByte (s.slotByte k)) 0x14 1 }) rfl rfl rfl
    exact words.of_resting (words.resting.foldl fun k => k.patchMismatch.ite k)
  · have failed := loaded (y := { s.sys with
      loadResult := (s.patchResult (patchByte (s.slotByte k)) (patchLen (s.slotByte k))).1 }) rfl rfl rfl
    exact failed.of_resting failed.resting.raiseI

theorem enterRescue {noSlot : Bool} (h : Starts r s) : Starts r (s.enterRescue noSlot) := by
  have held : Starts r { s with
      sys := { s.sys with rescue := true, rescueNoSlot := noSlot }
      bus := { s.bus with endpointOff := true, linkGen := 0, linkWidth := 0, bme := false }
      tick := { s.tick with stopped := true } } := h.upd (bus := h.resting.link.symm)
  exact (held.of_resting held.resting.setStatus.logFault.present.bump).ite held

theorem wipeChip {n : Nat} (h : Starts r s) : Starts r (s.wipeChip n) := ite h.upd h.upd

theorem stage1 (h : Starts r s) : Starts r s.stage1 := by
  have first : Starts r { s.stage 1 with power := { s.power with wakeOut := false } } := h.upd
  unfold State.stage1
  dsimp only
  split
  · exact first
  · have wiped {n : Nat} {ok : Bool} : Starts r ((State.programState
      (State.freshen { s.stage 1 with power := { s.power with wakeOut := false } }) n ok).wipeChip n) :=
      wipeChip (upd first)
    exact wiped.upd

theorem stage4 {env : BootEnv} (h : Starts r s) : Starts r (s.stage4 env) := by
  have trained : Starts r { s.stage 4 with mem := { s.mem with trained := 3 } } := h.upd
  unfold State.stage4
  refine ite (raise_s h.stage (by decide)) (ite (ite ?_ ?_) trained.stage)
  · exact stage (upd trained)
  · exact raise_s trained.stage (by decide)

/-- The boot stages leave the module so. -/
theorem boot {rescue : Bool} {env : BootEnv} (h : Starts r s) : Starts r (s.boot rescue env) := by
  unfold State.boot
  refine ite (raise_s (upd (h.stage (n := 1))) (by decide)) (ite (raise_s h.stage1 (by decide)) (ite h.stage1.stage.enterRescue ?_))
  have chosen := h.stage1.stage (n := 2) |>.chooseSlot
  split
  · next u hu => rw [hu] at chosen; exact chosen.enterRescue
  · next u hu => rw [hu] at chosen; exact chosen.stage.loadPatch.stage4

end Starts

theorem State.resetTo_resting (s : State) (k : Nat) : Resting (s.resetTo k) (s.resetTo k) := by
  unfold State.resetTo
  split <;> exact ⟨rfl, rfl, rfl, rfl, rfl, nofun⟩

/-- A boot that the restart has asked to end in rescue boot does so, unless a fuse or a wipe fails. -/
theorem State.boot_rescue (fuse : env.fuseOk = true) (wipe : s.sys.wipePending = none ∨ env.wipeOk = true) :
    (s.boot true env).sys.rescue = true := by
  have resumed : ¬ (s.sys.wipePending.isSome && !env.wipeOk) = true := by
    rcases wipe with h | h
    · simp [h]
    · simp [h]
  rw [State.boot, if_neg (by simp [fuse])]
  dsimp only
  rw [if_neg resumed, if_pos rfl]
  rfl

/-- The reset point that has come. -/
theorem State.atReset_boots {env : BootEnv} {cause : Nat} {rescue imm : Bool} (due : s.sys.restart = some (cause, rescue, imm))
    (other : cause ≠ 6) (ready : imm = true ∨ s.allDark = true) : s.atReset env = (s.resetTo cause).boot rescue env := by
  have now : (imm || s.allDark) = true := by simpa using ready
  unfold State.atReset
  rw [due]
  dsimp only
  rw [if_pos now, if_neg other]

/-- Settles O13: a restart that is due resets the module, and the boot stages leave a module that has just been reset as it is. -/
theorem resetPointStartsAgain : Obligations.ResetPointStartsAgain := by
  refine fun env s => ⟨fun none => ?_, fun cause rescue due lit => ?_, fun cause rescue imm due other ready => ?_⟩
  · exact congrArg done (by rw [State.atReset, none])
  · exact congrArg done (by rw [State.atReset, due]; simp [lit])
  · have answer : exec (.resetPoint env) s = done ((s.resetTo cause).boot rescue env) :=
      congrArg done (State.atReset_boots due other ready)
    obtain ⟨sys, -⟩ := s.resetTo_record cause
    have booted : Starts (s.resetTo cause) ((s.resetTo cause).boot rescue env) := (Starts.refl (s.resetTo_resting cause)).boot
    refine ⟨answer, _, answer, booted.cause.trans (by rw [sys]), booted.restart.trans (by rw [sys]; rfl), ?_,
      booted.resting.jobs, booted.resting.chans, booted.resting.link, fun rescued fuse wipe => ?_⟩
    · have config : ((s.resetTo cause).boot rescue env).sys.cfg = .config := booted.cfg.trans (by rw [sys]; rfl)
      rw [State.isActive, State.settle_sys, config]
      rfl
    · rw [rescued]
      exact State.boot_rescue fuse (by rw [sys]; exact wipe)

end Sys2Proof.Machine
end

section
namespace Sys2Proof.Machine
variable {s t : State} {p : Path}

/-! Life-cycle commands (R470 to R475). -/

theorem OnlyIn.sys {ps : List Part} {r : State} (h : OnlyIn ps r s) {y : Sys} (hp : Part.sys ∈ ps) :
    OnlyIn ps r { s with sys := y } :=
  h.trans fun p => by cases p <;> first | exact .inr rfl | exact .inl hp

/-- LCS_CMD as its write leaves it: stored, with its command cleared. -/
def State.lcsStored (s : State) (v : Word) : State := (s.stored LCS_CMD v).wrFld LCS_CMD 3 0 0

theorem State.lcsStored_onlyIn (s : State) (v : Word) : OnlyIn [.regs] s (s.lcsStored v) :=
  (s.stored_onlyIn _ _).trans (State.wrFld_onlyIn _ _ _ _ _ _ _)

theorem State.writeWord_lcs {found : Option Bool} (hr : s.reaches p LCS_CMD.off = true) (v : Word) :
    s.writeWord p LCS_CMD.off v false found = (s.lcsStored v).writeLcs v.toNat found :=
  (State.writeWord_command (commandAt _ (by decide)) hr).trans
    (by simp [State.afterSvc, State.lcsStored, LCS_CMD, SYS_RESTART, SYS_RESCUE_CTL])

/-- The key and the command of a written word. -/
theorem bits_lcs {cmd key : Nat} (hc : cmd < 16) (hk : key < 65536) :
    bits (BitVec.ofNat 32 (cmd + 65536 * key)).toNat 3 0 = cmd ∧
      bits (BitVec.ofNat 32 (cmd + 65536 * key)).toNat 31 16 = key := by
  simp only [bits, BitVec.toNat_ofNat, Nat.shiftRight_eq_div_pow]
  omega

theorem State.writeLcs_key {cmd : Nat} (hc : cmd < 16) (ok : Bool) :
    s.writeLcs (lcsValue cmd).toNat (some ok) = s.lcsCommand cmd 0x7A1E ok := by
  have value : lcsValue cmd = BitVec.ofNat 32 (cmd + 65536 * 0x7A1E) := by simp [lcsValue, pack]
  obtain ⟨command, key⟩ := bits_lcs hc (key := 0x7A1E) (by decide)
  rw [State.writeLcs, value, command, key]
  rfl

theorem State.lcsRefusal_congr (sys : t.sys = s.sys) (power : t.power = s.power) (guard : t.guard = s.guard) (cmd : Nat) :
    t.lcsRefusal cmd = s.lcsRefusal cmd := by
  have reacting : t.reacting = s.reacting := by rw [State.reacting, guard, State.reacting]
  unfold State.lcsRefusal State.isActive State.slot
  rw [sys, power, guard, reacting]

/-! What a command with the key comes to while no restart is due. -/

/-- A count is raised to the image's where the fuses read back, and is otherwise as it was. -/
theorem raiseCount_eq (old e : Nat) (ok : Bool) :
    raiseCount old e ok = (if ok then max old e else old, if ok = true ∨ e ≤ old then 0 else 6) := by
  unfold raiseCount
  by_cases low : e ≤ old
  · cases ok <;> simp [low]
  · cases ok <;> simp [low]
    omega

theorem State.lcsCommand_restart {cmd key : Nat} {ok : Bool} (due : s.sys.restart.isSome = true) :
    s.lcsCommand cmd key ok = s := if_pos due

section
variable {cmd : Nat} {ok : Bool} (none : s.sys.restart = none)
include none

theorem State.lcsCommand_noKey {key : Nat} (other : key ≠ 0x7A1E) : s.lcsCommand cmd key ok = s.lcsRefused 1 := by
  rw [State.lcsCommand, if_neg (by simp [none]), if_pos other]

theorem State.lcsCommand_refused (named : cmd = 1 ∨ cmd = 2 ∨ cmd = 3) (refused : s.lcsRefusal cmd ≠ 0) :
    s.lcsCommand cmd 0x7A1E ok = s.lcsRefused (s.lcsRefusal cmd) := by
  rw [State.lcsCommand, if_neg (by simp [none]), if_neg (by decide), if_neg (by omega)]
  exact if_pos refused

/-- ADVANCE programs the state fuse and leaves the wipe due. -/
def State.advanced (s : State) (ok : Bool) : State :=
  let u := (s.lcsEnd 1 0).programState (s.sys.lifeState + 1) ok
  { u with sys := { u.sys with wipePending := some (s.sys.lifeState + 1), restart := some (6, false, true) } }

theorem State.lcsCommand_advance (taken : s.lcsRefusal 1 = 0) : s.lcsCommand 1 0x7A1E ok = s.advanced ok := by
  rw [State.lcsCommand, if_neg (by simp [none]), if_neg (by decide), if_neg (by decide), taken]
  rfl

theorem State.lcsCommand_fwEpoch (taken : s.lcsRefusal 2 = 0) : s.lcsCommand 2 0x7A1E ok = { s with sys := { s.sys with
    fwEpochFuse := if ok then max s.sys.fwEpochFuse s.sys.fwEpoch else s.sys.fwEpochFuse, lcsLast := 2,
    lcsResult := if ok = true ∨ s.sys.fwEpoch ≤ s.sys.fwEpochFuse then 0 else 6 } } := by
  rw [State.lcsCommand, if_neg (by simp [none]), if_neg (by decide), if_neg (by decide), taken, raiseCount_eq]
  rfl

theorem State.lcsCommand_patchEpoch (taken : s.lcsRefusal 3 = 0) : s.lcsCommand 3 0x7A1E ok = { s with sys := { s.sys with
    patchEpochFuse := if ok then max s.sys.patchEpochFuse s.sys.imageEpoch else s.sys.patchEpochFuse, lcsLast := 3,
    lcsResult := if ok = true ∨ s.sys.imageEpoch ≤ s.sys.patchEpochFuse then 0 else 6 } } := by
  rw [State.lcsCommand, if_neg (by simp [none]), if_neg (by decide), if_neg (by decide), taken,
    raiseCount_eq s.sys.patchEpochFuse]
  rfl

end

/-- A command that is not accepted, after the write that brought it. -/
theorem State.lcsRefused_spec {u : State} {ps qs : List Part} (stored : OnlyIn ps s u) (n : Nat)
    (hp : .sys ∉ ps ∧ .sys ∈ qs ∧ ∀ p ∈ ps, p ∈ qs) :
    (u.lcsRefused n).settle.sys = { s.sys with lcsResult := n } ∧ OnlyIn qs s (u.lcsRefused n).settle := by
  obtain ⟨out, sys, sub⟩ := hp
  refine ⟨?_, ((stored.mono sub).sys sys).settle⟩
  rw [State.settle_sys, State.lcsRefused, stored.sys_eq out]

theorem State.finishRestart_none {u : State} {cause n : Nat} {env : BootEnv} (none : u.sys.restart = none) :
    (u.lcsRefused n).finishRestart cause env = u.lcsRefused n := by
  have still : (u.lcsRefused n).sys.restart = Option.none := none
  rw [State.finishRestart, still, if_neg (by simp)]

/-! The wipe that ends an ADVANCE (R473). -/

/-- The module once it has been wiped and reset. -/
def State.wiped (s : State) (ok : Bool) (us : Nat) : State :=
  ((((s.advanced ok).wipeChip (s.sys.lifeState + 1)).wipeDram).wipeDone us).resetTo 6

theorem State.finishRestart_advanced {ok : Bool} {env : BootEnv} (wipe : env.wipeOk = true) :
    (s.advanced ok).finishRestart 6 env = (s.wiped ok env.wipeUs).boot false env := by
  have due : (s.advanced ok).sys.restart = some (6, false, true) := rfl
  have pending : (s.advanced ok).sys.wipePending = some (s.sys.lifeState + 1) := rfl
  have now : (s.advanced ok).atReset env = (s.advanced ok).transition (s.sys.lifeState + 1) env := by
    rw [State.atReset, due, pending]
    rfl
  rw [State.finishRestart, due, if_pos (by simp), now, State.transition, if_pos wipe, State.wiped]

theorem State.wipeChip_sys (s : State) (n : Nat) :
    (s.wipeChip n).sys = { s.sys with patchWords := [], overrides := [] } ∧
      ∀ a, n = 3 → 0x300000 ≤ a → a < 0x3F0000 → (s.wipeChip n).mramByte a = 0 := by
  unfold State.wipeChip
  refine ⟨?_, fun a h lo hi => ?_⟩
  · split <;> rfl
  · have inside : ∀ (m : Table Byte) (k : Nat) (d : Byte) {i : Nat}, i < k →
        tget d (splice m 0x300000 (List.replicate k 0)) (0x300000 + i) = 0 := fun m k d i hi => by
      rw [tget_splice_inside _ _ _ _ _ (by rwa [List.length_replicate]), List.getElem_replicate]
    obtain ⟨i, rfl⟩ := Nat.exists_eq_add_of_le lo
    rw [if_pos h]
    exact inside _ _ _ (by omega)

/-- What has become of the module in the wipe. -/
theorem State.wiped_spec (s : State) (ok : Bool) (us : Nat) :
    (s.wiped ok us).sys.lifeState = (if ok then s.sys.lifeState + 1 else s.sys.lifeState) ∧
    (s.wiped ok us).sys.lcsResult = (if ok then 0 else 6) ∧
    (s.wiped ok us).sys.patchKey = (s.sys.patchKey && s.sys.lifeState != 2) ∧
    (s.wiped ok us).sys.wipePending = none ∧ (s.wiped ok us).sys.wipeUs = us ∧ (s.wiped ok us).mem.sram = [] ∧
    (s.wiped ok us).mem.dram = [] ∧ (s.wiped ok us).sys.resetCause = 6 ∧ (s.wiped ok us).log = .reset ∧
    (s.sys.lifeState = 2 → ∀ a, 0x300000 ≤ a → a < 0x3F0000 → (s.wiped ok us).mramByte a = 0) := by
  generalize hu : (((s.advanced ok).wipeChip (s.sys.lifeState + 1)).wipeDram).wipeDone us = u
  obtain ⟨chip, user⟩ := (s.advanced ok).wipeChip_sys (s.sys.lifeState + 1)
  have sys : u.sys = { (s.advanced ok).sys with
      patchWords := [], overrides := [], wipePending := none, dramWipeDue := false, wipeUs := us } := by
    rw [← hu, State.wipeDone, State.wipeDram, chip]
  have mram : u.mem.mram = ((s.advanced ok).wipeChip (s.sys.lifeState + 1)).mem.mram := by rw [← hu]; rfl
  obtain ⟨record, -, -, -, -, kept, -, sram⟩ := u.resetTo_record 6
  obtain ⟨log, -, -⟩ := (u.resetTo_keeper 6).1 (.inr rfl)
  have wiped : s.wiped ok us = u.resetTo 6 := by rw [State.wiped, hu]
  have key : (s.sys.patchKey && s.sys.lifeState + 1 != 3) = (s.sys.patchKey && s.sys.lifeState != 2) := by simp
  have fields : (u.resetTo 6).sys.lifeState = u.sys.lifeState ∧ (u.resetTo 6).sys.lcsResult = u.sys.lcsResult ∧
      (u.resetTo 6).sys.patchKey = u.sys.patchKey ∧ (u.resetTo 6).sys.wipePending = u.sys.wipePending ∧
      (u.resetTo 6).sys.wipeUs = u.sys.wipeUs ∧ (u.resetTo 6).sys.resetCause = 6 := by
    rw [record]
    exact ⟨rfl, rfl, rfl, rfl, rfl, rfl⟩
  obtain ⟨life, result, patch, pending, took, cause⟩ := fields
  rw [wiped, life, result, patch, pending, took, sys]
  refine ⟨rfl, rfl, key, rfl, rfl, sram, u.resetTo_dram 6, cause, log, fun returned a lo hi => ?_⟩
  rw [State.mramByte, kept, mram]
  exact user a (by omega) lo hi

/-- Settles O15: each command is a write of LCS_CMD with its key, which is `lcsCommand`. -/
theorem lifeCycleCommandsAct : Obligations.LifeCycleCommandsAct := by
  refine ⟨fun p ok env s hr => ?_, fun p cmd key s hr idle hc hk other => ?_⟩
  · have stored (cmd : Nat) := s.lcsStored_onlyIn (lcsValue cmd)
    have written (cmd : Nat) (hc : cmd < 16) : s.writeWord p LCS_CMD.off (lcsValue cmd) false (some ok) =
        (s.lcsStored (lcsValue cmd)).lcsCommand cmd 0x7A1E ok := by
      rw [State.writeWord_lcs hr, State.writeLcs_key hc]
    have sys (cmd : Nat) : (s.lcsStored (lcsValue cmd)).sys = s.sys := (stored cmd).sys_eq (by decide)
    have fw : exec (.fwEpochSet p ok) s = done ((s.lcsStored (lcsValue 2)).lcsCommand 2 0x7A1E ok) :=
      congrArg done (written 2 (by decide))
    have patch : exec (.patchEpochSet p ok) s = done ((s.lcsStored (lcsValue 3)).lcsCommand 3 0x7A1E ok) :=
      congrArg done (written 3 (by decide))
    have advance : exec (.advance p ok env) s =
        done (((s.lcsStored (lcsValue 1)).lcsCommand 1 0x7A1E ok).finishRestart 6 env) :=
      congrArg (fun u : State => done (u.finishRestart 6 env)) (written 1 (by decide))
    have refusal (cmd : Nat) : (s.lcsStored (lcsValue cmd)).lcsRefusal cmd = s.lcsRefusal cmd :=
      State.lcsRefusal_congr (sys cmd) ((stored cmd).power_eq (by decide)) ((stored cmd).guard_eq (by decide)) cmd
    refine ⟨fun due => ?_, fun idle => ?_⟩
    · have still (cmd : Nat) : (s.lcsStored (lcsValue cmd)).lcsCommand cmd 0x7A1E ok = s.lcsStored (lcsValue cmd) :=
        State.lcsCommand_restart (by rw [sys]; exact due)
      rw [still] at fw patch advance
      refine ⟨⟨_, fw, (stored 2).settle⟩, ⟨_, patch, (stored 3).settle⟩, fun another => ?_⟩
      rw [State.finishRestart, sys, if_neg another] at advance
      exact ⟨_, advance, (stored 1).settle⟩
    · have idles (cmd : Nat) : (s.lcsStored (lcsValue cmd)).sys.restart = none := by rw [sys]; exact idle
      have refused (cmd : Nat) (named : cmd = 1 ∨ cmd = 2 ∨ cmd = 3) (h : s.lcsRefusal cmd ≠ 0) :
          (s.lcsStored (lcsValue cmd)).lcsCommand cmd 0x7A1E ok = (s.lcsStored (lcsValue cmd)).lcsRefused (s.lcsRefusal cmd) := by
        rw [State.lcsCommand_refused (idles cmd) named (by rwa [refusal]), refusal]
      refine ⟨fun h => ?_, fun h => ?_, fun h => ?_, fun h => ?_, fun h => ?_, fun h wipe => ?_⟩
      · rw [refused 1 (by decide) h, State.finishRestart_none (idles 1)] at advance
        exact ⟨_, advance, State.lcsRefused_spec (stored 1) _ (by decide)⟩
      · rw [refused 2 (by decide) h] at fw
        exact ⟨_, fw, State.lcsRefused_spec (stored 2) _ (by decide)⟩
      · rw [refused 3 (by decide) h] at patch
        exact ⟨_, patch, State.lcsRefused_spec (stored 3) _ (by decide)⟩
      · rw [State.lcsCommand_fwEpoch (idles 2) (by rw [refusal, h])] at fw
        refine ⟨_, fw, by rw [State.settle_sys, sys], ?_⟩
        exact (((stored 2).mono (by decide)).sys (by decide)).settle
      · rw [State.lcsCommand_patchEpoch (idles 3) (by rw [refusal, h])] at patch
        refine ⟨_, patch, by rw [State.settle_sys, sys], ?_⟩
        exact (((stored 3).mono (by decide)).sys (by decide)).settle
      · rw [State.lcsCommand_advance (idles 1) (by rw [refusal, h]), State.finishRestart_advanced wipe] at advance
        have spec := (s.lcsStored (lcsValue 1)).wiped_spec ok env.wipeUs
        rw [sys] at spec
        exact ⟨_, advance, spec⟩
  · have stored := s.lcsStored_onlyIn (BitVec.ofNat 32 (cmd + 65536 * key))
    obtain ⟨command, named⟩ := bits_lcs hc hk
    have answer := exec_registerWrite s p LCS_CMD.off (BitVec.ofNat 32 (cmd + 65536 * key))
    have drawn : OnlyIn [.regs, .fresh] s (s.lcsStored (BitVec.ofNat 32 (cmd + 65536 * key))).freshen :=
      (stored.mono (by decide)).step (State.freshen_onlyIn _) (by decide)
    have refused : (s.lcsStored (BitVec.ofNat 32 (cmd + 65536 * key))).writeLcs (BitVec.ofNat 32 (cmd + 65536 * key)).toNat none =
        (s.lcsStored (BitVec.ofNat 32 (cmd + 65536 * key))).freshen.lcsRefused 1 := by
      rw [State.writeLcs, command, named]
      exact State.lcsCommand_noKey (by rw [drawn.sys_eq (by decide), idle]) other
    rw [State.writeWord_lcs hr, refused] at answer
    exact ⟨_, answer, State.lcsRefused_spec drawn 1 (by decide)⟩

end Sys2Proof.Machine
end

section
namespace Sys2Proof.Machine
variable {s t u : State} {p : Path}

/-! Rescue programming (R466): what becomes of the slots. -/

theorem State.slot_modSlot (s : State) {j k : Nat} (hj : j < 2) (hk : k < 2) (f : FwSlot → FwSlot) :
    (s.modSlot k f).slot j = if j = k then f (s.slot k) else s.slot j := by
  obtain rfl | rfl : j = 0 ∨ j = 1 := by omega
  · obtain rfl | rfl : k = 0 ∨ k = 1 := by omega
    · rfl
    · rfl
  · obtain rfl | rfl : k = 0 ∨ k = 1 := by omega
    · rfl
    · rfl

theorem length_imgBytes (f : Nat → Byte) (o n : Nat) : (imgBytes f o n).length = n := by simp [imgBytes]

theorem length_codedBytes (draw k n : Nat) : (codedBytes draw k n).length = n := by
  induction n generalizing k with
  | zero => rfl
  | succ n ih => simp [codedBytes, ih]

/-- MRAM bytes beside those written stay. -/
theorem State.mramByte_mramWrite_outside (s : State) (b : List Byte) (ok : Bool) {a i : Nat} (h : i < a ∨ a + b.length ≤ i) :
    (s.mramWrite a b ok).mramByte i = s.mramByte i := by
  unfold State.mramWrite
  split
  · exact tget_splice_outside _ _ _ _ _ h
  · exact tget_splice_outside _ _ _ _ _ (by rwa [length_codedBytes])

/-- MRAM bytes that read back as written. -/
theorem State.mramByte_mramWrite_inside (s : State) (b : List Byte) (a : Nat) {i : Nat} (h : i < b.length) :
    (s.mramWrite a b true).mramByte (a + i) = b[i] := tget_splice_inside _ _ _ _ _ h

theorem State.mramWrite_onlyIn (s : State) (a : Nat) (b : List Byte) (ok : Bool) :
    OnlyIn [.mem, .fresh] s (s.mramWrite a b ok) := by
  unfold State.mramWrite
  exact .ite ((OnlyIn.refl _ s).mem (by decide)) (((OnlyIn.refl _ s).mem (by decide)).step (State.freshen_onlyIn _) (by decide))

theorem State.modSlot_onlyIn (s : State) (k : Nat) (f : FwSlot → FwSlot) : OnlyIn [.sys] s (s.modSlot k f) := by
  intro q; cases q <;> first | exact .inl (by decide) | (unfold State.modSlot; split <;> exact .inr rfl)

/-- The boot record of a slot that has been programmed. -/
def programmed (f : Nat → Byte) : FwSlot := { state := 1, version := imgNat f 0x0C 4, epoch := imgNat f 0x10 1 }

/-- From `s` to `u` the slots of `l` have been programmed with the image in the SRAM window, and nothing else has changed. -/
structure Programmed (s : State) (len : Nat) (ok : Bool) (l : List Nat) (u : State) : Prop where
  named : ∀ k < 2, k ∈ l → (ok = true → u.slot k = programmed s.rescueByte ∧ ∀ i < len, u.slotByte k i = s.rescueByte i) ∧
    (ok = false → (u.slot k).state = 0)
  others : ∀ k < 2, k ∉ l → u.slot k = s.slot k ∧ ∀ i < slotSize, u.slotByte k i = s.slotByte k i
  sram : u.mem.sram = s.mem.sram
  rescue : u.sys.rescue = s.sys.rescue
  restart : u.sys.restart = s.sys.restart
  preferred : u.sys.preferred = s.sys.preferred
  only : OnlyIn [.sys, .mem, .fresh] s u

theorem Programmed.refl (s : State) (len : Nat) (ok : Bool) : Programmed s len ok [] s :=
  ⟨fun _ _ => nofun, fun _ _ _ => ⟨rfl, fun _ _ => rfl⟩, rfl, rfl, rfl, rfl, .refl _ s⟩

/-- One slot more. -/
theorem Programmed.programSlot {len : Nat} {ok : Bool} {l : List Nat} (h : Programmed s len ok l u) {k : Nat} (hk : k < 2)
    (fits : len ≤ slotSize) : Programmed s len ok (l ++ [k]) (State.programSlot len ok u k) := by
  have image : u.rescueByte = s.rescueByte := by unfold State.rescueByte; rw [h.sram]
  let w := u.mramWrite (slotBase k) (imgBytes u.rescueByte 0 len) ok
  have written : OnlyIn [.mem, .fresh] u w := u.mramWrite_onlyIn _ _ _
  have same (j : Nat) : w.slot j = u.slot j := by unfold State.slot; rw [written.sys_eq (by decide)]
  have slots {j : Nat} (hj : j < 2) : (State.programSlot len ok u k).slot j =
      if j = k then (if ok then programmed u.rescueByte else { u.slot k with state := 0 }) else u.slot j := by
    rw [← same, ← same]
    exact w.slot_modSlot hj hk _
  have bytes (j i : Nat) : (State.programSlot len ok u k).slotByte j i = w.slotByte j i := by
    have mem := (w.modSlot_onlyIn k fun x => if ok then programmed u.rescueByte else { x with state := 0 }).mem_eq (by decide)
    exact congrArg (fun m : Mem => tget (Config.mram (slotBase j + i)) m.mram (slotBase j + i)) mem
  have far (j : Nat) (other : j ≠ k) (hj : j < 2) (i : Nat) (hi : i < slotSize) : w.slotByte j i = u.slotByte j i := by
    refine State.mramByte_mramWrite_outside u _ ok ?_
    rw [length_imgBytes]
    obtain ⟨rfl, rfl⟩ | ⟨rfl, rfl⟩ : (j = 0 ∧ k = 1) ∨ (j = 1 ∧ k = 0) := by omega
    · simp only [slotBase]; omega
    · simp only [slotBase]; omega
  have marked := w.modSlot_onlyIn k fun x => if ok then programmed u.rescueByte else { x with state := 0 }
  have only : OnlyIn [.sys, .mem, .fresh] u (State.programSlot len ok u k) :=
    (written.mono (by decide)).step marked (by decide)
  have kept : (State.programSlot len ok u k).sys.rescue = u.sys.rescue ∧
      (State.programSlot len ok u k).sys.restart = u.sys.restart ∧
      (State.programSlot len ok u k).sys.preferred = u.sys.preferred := by
    have sys : w.sys = u.sys := written.sys_eq (by decide)
    rw [← sys]
    change (w.modSlot k _).sys.rescue = _ ∧ (w.modSlot k _).sys.restart = _ ∧ (w.modSlot k _).sys.preferred = _
    unfold State.modSlot
    split <;> exact ⟨rfl, rfl, rfl⟩
  obtain ⟨rescue, restart, preferred⟩ := kept
  have sram : (State.programSlot len ok u k).mem.sram = u.mem.sram := by
    have mem := marked.mem_eq (by decide)
    refine (congrArg Mem.sram mem).trans ?_
    change (u.mramWrite _ _ ok).mem.sram = _
    unfold State.mramWrite
    split <;> rfl
  refine ⟨fun j hj hmem => ?_, fun j hj hout => ?_, sram.trans h.sram, rescue.trans h.rescue, restart.trans h.restart,
    preferred.trans h.preferred, h.only.trans only⟩
  · rw [slots hj]
    by_cases this : j = k
    · subst this
      rw [if_pos rfl, image]
      refine ⟨fun good => ⟨if_pos good, fun i hi => ?_⟩, fun bad => by rw [if_neg (by simp [bad])]⟩
      rw [bytes]
      subst good
      refine (State.mramByte_mramWrite_inside u _ _ (by rwa [length_imgBytes])).trans ?_
      simp [imgBytes, image]
    · rw [if_neg this]
      have before : j ∈ l := by simpa [this] using hmem
      obtain ⟨good, bad⟩ := h.named j hj before
      refine ⟨fun ok' => ⟨(good ok').1, fun i hi => ?_⟩, bad⟩
      rw [bytes, far j this hj i (by omega), (good ok').2 i hi]
  · have this : j ≠ k ∧ j ∉ l := by simpa [and_comm] using hout
    rw [slots hj, if_neg this.1]
    obtain ⟨slot, image⟩ := h.others j hj this.2
    exact ⟨slot, fun i hi => by rw [bytes, far j this.1 hj i hi, image i hi]⟩

/-- All the slots of a list. -/
theorem Programmed.foldl {len : Nat} {ok : Bool} {l l' : List Nat} (h : Programmed s len ok l u) (hl : ∀ k ∈ l', k < 2)
    (fits : len ≤ slotSize) : Programmed s len ok (l ++ l') (l'.foldl (State.programSlot len ok) u) := by
  induction l' generalizing l u with
  | nil => rw [List.append_nil]; exact h
  | cons k l' ih =>
    have more := ih (h.programSlot (hl k (by simp)) fits) fun j hj => hl j (by simp [hj])
    rwa [List.append_assoc] at more

/-! The command. -/

/-- SYS_RESCUE_CTL as its write leaves it: stored, with GO cleared. -/
def State.rescueStored (s : State) (v : Word) : State := (s.stored SYS_RESCUE_CTL v).wrFld SYS_RESCUE_CTL 31 31 0

theorem State.rescueStored_onlyIn (s : State) (v : Word) : OnlyIn [.regs] s (s.rescueStored v) :=
  (s.stored_onlyIn _ _).trans (State.wrFld_onlyIn _ _ _ _ _ _ _)

/-- The word that names an image and its slots, with GO. -/
def rescueValue (len slots : Nat) : Word := BitVec.ofNat 32 (pack [(0, len % 2 ^ 21), (21, slots % 4), (31, 1)])

theorem bits_rescueValue {len slots : Nat} (hl : len < 2 ^ 21) (hs : slots < 4) :
    bits (rescueValue len slots).toNat 20 0 = len ∧ bits (rescueValue len slots).toNat 22 21 = slots ∧
      bitAt (rescueValue len slots).toNat 31 = true := by
  simp only [rescueValue, pack, bits, bitAt, BitVec.toNat_ofNat, Nat.shiftRight_eq_div_pow, beq_iff_eq]
  omega

theorem rescueProgram_eq {len slots : Nat} {ok : Bool} {env : BootEnv} (hr : s.reaches p SYS_RESCUE_CTL.off = true)
    (hl : len < 2 ^ 21) (hs : slots < 4) : exec (.rescueProgram p len ⟨slots, ok⟩ env) s =
      done (((s.rescueStored (rescueValue len slots)).rescueGo len slots ok).finishRestart 7 env) := by
  obtain ⟨length, named, go⟩ := bits_rescueValue hl hs
  have write : s.writeWord p SYS_RESCUE_CTL.off (rescueValue len slots) false (some ok) =
      (s.rescueStored (rescueValue len slots)).rescueGo len slots ok := by
    refine (State.writeWord_command (commandAt _ (by decide)) hr).trans ?_
    simp [State.afterSvc, SYS_RESCUE_CTL, SYS_RESTART, go, State.writeRescue, State.readsBack, length, named, State.rescueStored]
  exact congrArg (fun u : State => done (u.finishRestart 7 env)) write

/-- The check of the image in the SRAM window: 0, or the reason that is shown. -/
def State.rescueErr (s : State) (len : Nat) : Nat := if slotSize < len then 0xC6 else s.stagedErr s.rescueByte len

theorem State.rescueByte_congr (mem : t.mem = s.mem) : t.rescueByte = s.rescueByte := by unfold State.rescueByte; rw [mem]

theorem State.rescueErr_congr (sys : t.sys = s.sys) (mem : t.mem = s.mem) (len : Nat) : t.rescueErr len = s.rescueErr len := by
  unfold State.rescueErr State.stagedErr State.embeddedOk
  rw [State.rescueByte_congr mem, sys]

/-- The state in which every named slot has been programmed. -/
def State.slotsProgrammed (s : State) (len slots : Nat) (ok : Bool) : State :=
  (setBits slots 2).foldl (State.programSlot len ok) s

/-- The reason of a failure is shown. -/
def State.rescueShows (s : State) (n : Nat) : State := { s with sys := { s.sys with rescueResult := n } }

/-- The restart that follows the programming of the slots of `l` is due. -/
def State.rescueDue (s : State) (l : List Nat) : State :=
  { s with sys := { s.sys with
    rescueResult := 0, preferred := l.headD s.sys.preferred, trialBooted := false, restart := some (7, false, true) } }

section
variable {len slots : Nat} {ok : Bool}

theorem State.rescueGo_outside (out : s.sys.rescue = false) : s.rescueGo len slots ok = s := if_pos (.inl out)

variable (here : s.sys.rescue = true) (idle : s.sys.restart = none)
include here idle

theorem State.rescueGo_bad (bad : s.rescueErr len ≠ 0) :
    s.rescueGo len slots ok = s.rescueShows (s.rescueErr len) := by
  rw [State.rescueGo, if_neg (by simp [here, idle])]
  exact if_pos bad

theorem State.rescueGo_good (good : s.rescueErr len = 0) : s.rescueGo len slots ok =
    if (!ok && !(setBits slots 2).isEmpty) = true then (s.slotsProgrammed len slots ok).rescueShows 0xC5
    else (s.slotsProgrammed len slots ok).rescueDue (setBits slots 2) := by
  rw [State.rescueGo, if_neg (by simp [here, idle])]
  exact if_neg (by simpa [State.rescueErr] using good)

end

theorem State.fits_of_rescueErr {len : Nat} (good : s.rescueErr len = 0) : len ≤ slotSize := by
  by_contra long
  rw [State.rescueErr, if_pos (by omega)] at good
  exact absurd good (by decide)

theorem State.slotsProgrammed_spec (s : State) {len : Nat} (fits : len ≤ slotSize) (slots : Nat) (ok : Bool) :
    Programmed s len ok (setBits slots 2) (s.slotsProgrammed len slots ok) :=
  (Programmed.refl s len ok).foldl (fun k hk => (mem_setBits.mp hk).1) fits

/-- A reset keeps the slots and their boot records. -/
theorem State.resetTo_slots (s : State) (c : Nat) : (s.resetTo c).sys.resetCause = c ∧
    (s.resetTo c).sys.preferred = s.sys.preferred ∧ (∀ k, (s.resetTo c).slot k = s.slot k) ∧
    ∀ k i, (s.resetTo c).slotByte k i = s.slotByte k i := by
  obtain ⟨sys, -, -, -, -, mram, -, -⟩ := s.resetTo_record c
  refine ⟨by rw [sys], by rw [sys]; rfl, fun k => ?_, fun k i => ?_⟩
  · unfold State.slot
    rw [sys]
    rfl
  · unfold State.slotByte State.mramByte
    rw [mram]

/-- A rescue restart that has become due takes place at once. -/
theorem State.finishRestart_rescue {env : BootEnv} (due : s.sys.restart = some (7, false, true)) :
    s.finishRestart 7 env = (s.resetTo 7).boot false env := by
  rw [State.finishRestart, due, if_pos (by simp)]
  exact State.atReset_boots due (by decide) (.inl rfl)

theorem State.finishRestart_idle {cause : Nat} {env : BootEnv} (idle : s.sys.restart = none) : s.finishRestart cause env = s := by
  rw [State.finishRestart, idle, if_neg (by simp)]

/-- Settles O16: the command is a write of SYS_RESCUE_CTL with GO, which is `rescueGo`. -/
theorem rescueProgramsNamedSlots : Obligations.RescueProgramsNamedSlots := by
  intro p len slots ok env s hr hl hs
  have answer := rescueProgram_eq (env := env) (ok := ok) hr hl hs
  have stored := s.rescueStored_onlyIn (rescueValue len slots)
  generalize s.rescueStored (rescueValue len slots) = u at answer stored
  have sys : u.sys = s.sys := stored.sys_eq (by decide)
  have mem : u.mem = s.mem := stored.mem_eq (by decide)
  have check : u.rescueErr len = s.rescueErr len := State.rescueErr_congr sys mem len
  have slot (k : Nat) : u.slot k = s.slot k := by unfold State.slot; rw [sys]
  have byte (k i : Nat) : u.slotByte k i = s.slotByte k i := by unfold State.slotByte State.mramByte; rw [mem]
  refine ⟨fun out idle => ?_, fun here idle => ⟨fun bad => ?_, fun good fine => ?_, fun good failed nonzero => ?_⟩⟩
  · rw [State.rescueGo_outside (by rw [sys, out]), State.finishRestart_idle (by rw [sys, idle])] at answer
    exact ⟨_, answer, stored.settle⟩
  · rw [State.rescueGo_bad (by rw [sys, here]) (by rw [sys, idle]) (by rw [check]; exact bad),
      State.finishRestart_idle (s := u.rescueShows (u.rescueErr len))
        (show u.sys.restart = none by rw [sys, idle])] at answer
    exact ⟨_, answer, by rw [State.settle_sys, State.rescueShows, sys, check]; rfl, ((stored.mono (by decide)).sys (by decide)).settle⟩
  · have fits := State.fits_of_rescueErr (s := s) good
    have spec := u.slotsProgrammed_spec fits slots ok
    have written : (!ok && !(setBits slots 2).isEmpty) = false := by
      rcases fine with rfl | rfl
      · rfl
      · simp [setBits, bitAt]
    rw [State.rescueGo_good (by rw [sys, here]) (by rw [sys, idle]) (by rw [check]; exact good)] at answer
    rw [written, if_neg (by decide), State.finishRestart_rescue rfl] at answer
    obtain ⟨cause, preferred, record, image⟩ :=
      ((u.slotsProgrammed len slots ok).rescueDue (setBits slots 2)).resetTo_slots 7
    refine ⟨_, answer, cause, ?_, fun k hk => ?_⟩
    · have first : (setBits slots 2).headD s.sys.preferred =
          if slots = 0 then s.sys.preferred else if slots = 2 then 1 else 0 := by interval_cases slots <;> rfl
      rw [preferred, ← first, ← sys, ← spec.preferred]
      rfl
    · rw [record]
      by_cases named : bitAt slots k = true
      · have member : k ∈ setBits slots 2 := mem_setBits.mpr ⟨hk, named⟩
        have read : ok = true := fine.resolve_right fun zero => by
          subst zero
          simp [bitAt] at named
        obtain ⟨shown, bytes⟩ := (spec.named k hk member).1 read
        rw [State.rescueByte_congr mem] at shown bytes
        rw [if_pos named]
        exact ⟨shown, fun i hi => (image k i).trans (bytes i hi)⟩
      · obtain ⟨shown, bytes⟩ := spec.others k hk fun h => named (mem_setBits.mp h).2
        rw [if_neg named]
        exact ⟨shown.trans (slot k), fun i hi => (image k i).trans ((bytes i hi).trans (byte k i))⟩
  · have fits := State.fits_of_rescueErr (s := s) good
    have spec := u.slotsProgrammed_spec fits slots ok
    have unread : (!ok && !(setBits slots 2).isEmpty) = true := by
      have any : (setBits slots 2).isEmpty = false := by
        interval_cases slots
        · exact absurd rfl nonzero
        all_goals rfl
      simp [failed, any]
    have restart : (u.slotsProgrammed len slots ok).sys.restart = none := by rw [spec.restart, sys, idle]
    rw [State.rescueGo_good (by rw [sys, here]) (by rw [sys, idle]) (by rw [check]; exact good), unread, if_pos rfl,
      State.finishRestart_idle (s := (u.slotsProgrammed len slots ok).rescueShows 0xC5) restart] at answer
    refine ⟨_, answer, rfl, restart, spec.rescue.trans (by rw [sys, here]), fun k hk => ?_, ?_⟩
    · by_cases named : bitAt slots k = true
      · rw [if_pos named]
        exact (spec.named k hk (mem_setBits.mpr ⟨hk, named⟩)).2 failed
      · rw [if_neg named]
        exact (spec.others k hk fun h => named (mem_setBits.mp h).2).1.trans (slot k)
    · exact (((stored.mono (by decide)).step spec.only (by decide)).sys (by decide)).settle

end Sys2Proof.Machine
end

section
namespace Sys2Proof.Machine
variable {r s t : State} {n : Nat} {x : Fout}

/-! Field outputs: what follows from any change to them (R548, R550). -/

theorem State.fout_of (h : s.fio.outs[n]? = some x) : s.fout n = x := by simp [State.fout, lget, h]

theorem State.fout_congr (h : t.fio.outs = s.fio.outs) (n : Nat) : t.fout n = s.fout n := by rw [State.fout, h, State.fout]

theorem State.fout_modFout (s : State) (m n : Nat) (f : Fout → Fout) :
    (s.modFout m f).fout n = if m = n ∧ n < s.fio.outs.length then f (s.fout n) else s.fout n :=
  lget_lmod _ _ _ _ _

theorem State.length_outs_modFout (s : State) (m : Nat) (f : Fout → Fout) :
    (s.modFout m f).fio.outs.length = s.fio.outs.length := length_lmod _ _ _

theorem State.getElem?_fout (h : n < s.fio.outs.length) : s.fio.outs[n]? = some (s.fout n) := by
  simp [State.fout, lget, List.getElem?_eq_getElem h]

/-- An output that exists takes the change. -/
theorem State.fout_modFout_same (h : s.fio.outs[n]? = some x) (f : Fout → Fout) : (s.modFout n f).fout n = f x := by
  have inside : n < s.fio.outs.length := (List.getElem?_eq_some_iff.mp h).1
  rw [State.fout_modFout, if_pos ⟨rfl, inside⟩, State.fout_of h]

theorem OnlyIn.fio {ps : List Part} (h : OnlyIn ps r s) {y : Fio} (hp : Part.fio ∈ ps) : OnlyIn ps r { s with fio := y } :=
  h.trans fun p => by cases p <;> first | exact .inr rfl | exact .inl hp

theorem OnlyIn.fio_eq {ps : List Part} (h : OnlyIn ps s t) (hp : Part.fio ∉ ps) : t.fio = s.fio := (h .fio).resolve_left hp

theorem State.modFout_onlyIn (s : State) (n : Nat) (f : Fout → Fout) : OnlyIn [.fio] s (s.modFout n f) :=
  (OnlyIn.refl _ s).fio (by decide)

/-- From `r` to `s` outputs have noted when they switched on, and conflicts of pairs have ended. -/
structure Swept (r s : State) : Prop where
  outs : ∀ n, ∃ k, s.fout n = { r.fout n with onTick := k }
  length : s.fio.outs.length = r.fio.outs.length
  live : ∀ c, s.guard.live.contains c = true → r.guard.live.contains c = true
  only : OnlyIn [.guard, .fio] r s

namespace Swept

theorem refl (s : State) : Swept s s := ⟨fun _ => ⟨_, rfl⟩, rfl, fun _ => id, .refl _ s⟩

theorem noteOn (was s : State) : Swept s (State.noteOn was s) := by
  have step {u : State} {m : Nat} (h : Swept s u) :
      Swept s (u.modFout m fun x => { x with onTick := some u.tick.number.toNat }) :=
    ⟨fun n => by
      obtain ⟨k, hk⟩ := h.outs n
      rw [State.fout_modFout]
      split
      · exact ⟨_, by rw [hk]⟩
      · exact ⟨k, hk⟩, (State.length_outs_modFout _ _ _).trans h.length, h.live, h.only.fio (by decide)⟩
  unfold State.noteOn
  generalize List.range 4 = l
  have fold (l : List Nat) (u : State) (h : Swept s u) : Swept s (l.foldl (fun s n =>
      if s.foutOn n && !was.foutOn n then s.modFout n (fun x => { x with onTick := some s.tick.number.toNat }) else s) u) := by
    induction l generalizing u with
    | nil => exact h
    | cons m l ih =>
      refine ih _ ?_
      dsimp only
      split
      · exact step h
      · exact h
  exact fold l s (.refl s)

theorem endPair (h : Swept r s) (k : Nat) : Swept r (s.endPair k) where
  outs := h.outs
  length := h.length
  live c hc := h.live c (by
    simp only [State.endPair, State.gone, List.contains_eq_mem, List.mem_filter, decide_eq_true_eq] at hc ⊢
    exact hc.1)
  only := (h.only.fio (by decide)).step (State.gone_onlyIn _ _ _) (by decide)

theorem sweepPairs (h : Swept r s) : Swept r s.sweepPairs := by
  unfold State.sweepPairs
  generalize foutPairs.zip (List.range 6) = l
  induction l generalizing s with
  | nil => exact h
  | cons p l ih =>
    refine ih ?_
    dsimp only
    split
    · exact h.endPair _
    · exact h

/-- All that `fioChange` does beside the change itself. -/
theorem fioChange (s : State) (f : State → State) : Swept (f s) (s.fioChange f) := (noteOn s (f s)).sweepPairs

theorem gone (h : Swept r s) {c : Nat × Nat} (out : r.guard.live.contains c = false) : s.guard.live.contains c = false := by
  by_contra still
  have held := h.live c (by simpa using still)
  rw [out] at held
  cases held

end Swept

/-- A change of one output that exists. -/
theorem State.fioChange_modFout (hx : s.fio.outs[n]? = some x) (f : Fout → Fout) :
    (∃ k, (s.fioChange fun u => u.modFout n f).fio.outs[n]? = some { f x with onTick := k }) ∧
    OnlyIn [.guard, .fio] s (s.fioChange fun u => u.modFout n f) := by
  have inside : n < s.fio.outs.length := (List.getElem?_eq_some_iff.mp hx).1
  have swept := Swept.fioChange s fun u => u.modFout n f
  obtain ⟨k, out⟩ := swept.outs n
  refine ⟨⟨k, ?_⟩, ((s.modFout_onlyIn n f).mono (by decide)).trans swept.only⟩
  rw [State.getElem?_fout (by rwa [swept.length, State.length_outs_modFout]), out, State.fout_modFout_same hx]

/-! What the switch of an output stands on. -/

/-- A shorted output that is not being retried is off. -/
theorem State.foutOn_short (short : (s.fout n).short = true) (waits : (s.fout n).retrying = false) : s.foutOn n = false := by
  simp [State.foutOn, short, waits]

/-- Without VFIELD every output is off. -/
theorem State.foutOn_dark (dark : s.fio.present = false) (n : Nat) : s.foutOn n = false := by simp [State.foutOn, dark]

/-! Pulses (R541). -/

theorem State.foutLocked_congr (h : t.fio = s.fio) (n : Nat) : t.foutLocked n = s.foutLocked n := by
  rw [State.foutLocked, h, State.foutLocked]

/-- A change of one output at an offset of the tick. -/
theorem State.changeAt_spec (hx : s.fio.outs[n]? = some x) (ns : Nat) (f : State → Fout → Fout)
    (same : ∀ u : State, u.fio = s.fio → u.tick = s.tick → f u x = f s x) :
    (∃ k, ((s.toOffset ns).fioChange (fun u => u.modFout n (f u))).fout n = { f s x with onTick := k }) ∧
    s.tick.edgePs + 1000 * ns ≤ ((s.toOffset ns).fioChange (fun u => u.modFout n (f u))).clock.ps ∧
    OnlyIn [.clock, .guard, .fio] s ((s.toOffset ns).fioChange (fun u => u.modFout n (f u))) := by
  have waited := s.toOffset_onlyIn ns
  have late := s.le_toOffset ns
  generalize s.toOffset ns = u at waited late ⊢
  have fio : u.fio = s.fio := waited.fio_eq (by decide)
  have swept := Swept.fioChange u fun u => u.modFout n (f u)
  have changed : (u.modFout n (f u)).fout n = f s x :=
    (State.fout_modFout_same (by rw [fio]; exact hx) _).trans (same u fio (waited.tick_eq (by decide)))
  obtain ⟨k, out⟩ := swept.outs n
  refine ⟨⟨k, by rw [out, changed]⟩, ?_, ?_⟩
  · rw [swept.only.clock_eq (by decide)]
    exact late
  · exact ((waited.mono (by decide)).step (State.modFout_onlyIn u n _) (by decide)).step swept.only (by decide)

/-- The schedule of the output begins a pulse in this tick. -/
def State.pulseDue (s : State) (x : Fout) : Prop :=
  x.set.mode = 3 ∧ s.fio.stopped = false ∧ s.fio.safeLevels = false ∧ s.tick.stopped = false ∧
    (s.tick.number.toNat - x.since) % atLeast1 x.set.div = 0 ∧ x.lastPulse ≠ some s.tick.number.toNat

theorem fieldPulseStart_spec (hn : n < 4) (hx : s.fio.outs[n]? = some x) :
    (¬ s.pulseDue x → exec (.fieldPulseStart n) s = .next s.settle) ∧
    (s.pulseDue x → Gives (.fieldPulseStart n) s (fun t => (t.fout n).pulsing = !s.foutLocked n ∧
       (t.fout n).lastPulse = some s.tick.number.toNat ∧ (t.fout n).set = x.set ∧
       s.tick.edgePs + 1000000 * x.set.offset ≤ t.clock.ps ∧ OnlyIn [.clock, .guard, .fio] s t)) := by
  have here := State.fout_of hx
  refine ⟨fun idle => exec_onUnit_idle rfl ?_, fun due => ?_⟩
  · unfold State.pulseStart
    rw [here]
    exact if_neg idle
  · have starts : s.pulseStart n = (s.toOffset (1000 * x.set.offset)).fioChange (fun u => u.modFout n
        (fun y => { y with pulsing := !u.foutLocked n, lastPulse := some s.tick.number.toNat })) := by
      unfold State.pulseStart
      rw [here]
      exact if_pos due
    obtain ⟨⟨k, out⟩, late, only⟩ := State.changeAt_spec hx (1000 * x.set.offset)
      (fun u y => { y with pulsing := !u.foutLocked n, lastPulse := some s.tick.number.toNat })
      fun u fio _ => by simp only [State.foutLocked_congr fio]
    rw [← starts] at out late only
    have out : (s.pulseStart n).settle.fout n = _ := out
    refine Gives.onUnit (u := s.pulseStart n) rfl hn ?_
    rw [out]
    exact ⟨rfl, rfl, rfl, by simpa only [State.settle_clock, ← Nat.mul_assoc] using late, only.settle⟩

theorem fieldPulseEnd_spec (hn : n < 4) (hx : s.fio.outs[n]? = some x) :
    (x.pulsing = false → exec (.fieldPulseEnd n) s = .next s.settle) ∧
    (x.pulsing = true → Gives (.fieldPulseEnd n) s (fun t => (t.fout n).pulsing = false ∧
      s.tick.edgePs + 1000000 * (x.set.offset + x.set.width) ≤ t.clock.ps ∧ OnlyIn [.clock, .guard, .fio] s t)) := by
  have here := State.fout_of hx
  refine ⟨fun idle => exec_onUnit_idle rfl ?_, fun pulsing => ?_⟩
  · unfold State.pulseEnd
    rw [here]
    exact if_neg (by simp [idle])
  · have ends : s.pulseEnd n = (s.toOffset (1000 * (x.set.offset + x.set.width))).fioChange (fun u => u.modFout n
        (fun y => { y with pulsing := false })) := by
      unfold State.pulseEnd
      rw [here]
      exact if_pos pulsing
    obtain ⟨⟨k, out⟩, late, only⟩ := State.changeAt_spec hx (1000 * (x.set.offset + x.set.width))
      (fun _ y => { y with pulsing := false }) fun _ _ _ => rfl
    rw [← ends] at out late only
    have out : (s.pulseEnd n).settle.fout n = _ := out
    refine Gives.onUnit (u := s.pulseEnd n) rfl hn ?_
    rw [out]
    exact ⟨rfl, by simpa only [State.settle_clock, ← Nat.mul_assoc] using late, only.settle⟩

/-! Diagnostics (R545 to R548). -/

theorem State.settle_fout (s : State) (n : Nat) : s.settle.fout n = s.fout n := rfl
theorem State.settle_foutOn (s : State) (n : Nat) : s.settle.foutOn n = s.foutOn n := rfl

/-- A diagnosis that is raised on an output and stays present. -/
theorem gives_diagnosed {i : Instr} {u : State} {code : Nat} {P : State → Prop} (hn : n < 4)
    (h : exec i s = onUnit n 4 s (u.raiseCond code { source := n })) (only : OnlyIn [.regs, .guard, .fio] s u)
    (k : P (u.raiseCond code { source := n }).settle) :
    Gives i s (fun t => P t ∧ t.guard.live.contains (code, n) = true ∧ bitAt (t.fstat (code / 256)) (code % 256 - 1) = true ∧
      OnlyIn [.regs, .hif, .log, .guard, .fio] s t) := by
  refine Gives.onUnit h hn ⟨k, ?_, ?_, ((only.mono (by decide)).step (u.raiseCond_onlyIn code _) (by decide)).settle⟩
  · rw [State.settle_guard]
    exact State.present_live _ _ _
  · rw [State.settle_fstat]
    exact State.raiseI_sets _ _ _

/-- An output is as it was before a fault is raised. -/
theorem State.fout_raiseCond (s : State) (code : Nat) (i : FaultInfo) (n : Nat) : (s.raiseCond code i).settle.fout n = s.fout n :=
  (State.settle_fout _ n).trans (State.fout_congr (congrArg Fio.outs ((s.raiseCond_onlyIn code i).fio_eq (by decide))) n)

theorem openLoadDetect_spec (hn : n < 4) (hx : s.fio.outs[n]? = some x) (on : Bool) :
    (let seen := s.fio.present = true ∧ s.foutPowered = true ∧ x.ol = false ∧ s.foutOn n = on ∧
        s.flag FIO_OUT_CFG (if on then 2 else 3) n = true
     (¬ seen → exec (.openLoadDetect n on) s = .next s.settle) ∧
     (seen → Gives (.openLoadDetect n on) s (fun t =>
        (t.fout n).ol = true ∧ t.guard.live.contains (0x1501, n) = true ∧ bitAt (t.fstat 21) 0 = true ∧
        OnlyIn [.regs, .hif, .log, .guard, .fio] s t))) := by
  intro seen
  have check : (s.fio.present && s.foutPowered && !(s.fout n).ol && (s.foutOn n == on) &&
      s.flag FIO_OUT_CFG (if on then 2 else 3) n) = true ↔ seen := by
    simp [seen, State.fout_of hx, and_assoc]
  refine ⟨fun unseen => exec_onUnit_idle rfl (if_neg (check.not.mpr unseen)), fun h => ?_⟩
  have raised : s.openLoad n on = (s.modFout n fun x => { x with ol := true }).raiseCond 0x1501 { source := n } :=
    if_pos (check.mpr h)
  refine gives_diagnosed (code := 0x1501) hn (congrArg (onUnit n 4 s) raised) ((s.modFout_onlyIn n _).mono (by decide)) ?_
  rw [State.fout_raiseCond, State.fout_modFout_same hx]

theorem shortToGround_spec (hn : n < 4) (hx : s.fio.outs[n]? = some x) :
    (s.foutOn n = false → exec (.shortToGround n) s = .next s.settle) ∧
    (s.foutOn n = true → x.short = false → Gives (.shortToGround n) s (fun t => (t.fout n).short = true ∧
      t.foutOn n = false ∧ t.guard.live.contains (0x1502, n) = true ∧ bitAt (t.fstat 21) 1 = true ∧
      OnlyIn [.regs, .hif, .log, .guard, .fio] s t)) := by
  refine ⟨fun off => exec_onUnit_idle rfl (if_neg (by simp [off])), fun on first => ?_⟩
  have swept := Swept.fioChange s fun s => s.modFout n fun x => { x with short := true, retrying := false }
  have shorts : s.shortGround n = (s.fioChange fun s => s.modFout n fun x =>
      { x with short := true, retrying := false }).raiseCond 0x1502 { source := n } := by
    unfold State.shortGround
    rw [if_pos on, State.fout_of hx, first]
    rfl
  have command : exec (.shortToGround n) s = onUnit n 4 s (s.shortGround n) := rfl
  rw [shorts] at command
  generalize (s.fioChange fun s => s.modFout n fun x => { x with short := true, retrying := false }) = u at swept command
  obtain ⟨k, after⟩ := swept.outs n
  rw [State.fout_modFout_same hx, ← u.fout_raiseCond 0x1502 { source := n }] at after
  refine (gives_diagnosed (code := 0x1502) (P := fun t => (t.fout n).short = true ∧ t.foutOn n = false) hn command
    (((s.modFout_onlyIn n _).mono (by decide)).step swept.only (by decide)) ?_).imp fun t ⟨⟨short, off⟩, rest⟩ => ⟨short, off, rest⟩
  exact ⟨by rw [after], State.foutOn_short (by rw [after]) (by rw [after])⟩

/-- A retry has found the short still there, or gone. -/
def State.retryEnds (n : Nat) (still : Bool) (s : State) : State :=
  let s := s.modFout n (fun x => { x with retrying := false, short := still })
  if still then s else s.gone 0x1502 n

theorem State.retryEnds_onlyIn (s : State) (n : Nat) (still : Bool) : OnlyIn [.guard, .fio] s (s.retryEnds n still) :=
  .ite ((s.modFout_onlyIn n _).mono (by decide)) (((s.modFout_onlyIn n _).mono (by decide)).step (State.gone_onlyIn _ _ _) (by decide))

theorem shortRetry_spec (hn : n < 4) (hx : s.fio.outs[n]? = some x) (still : Bool) :
    (let tries := x.short = true ∧ s.foutCmd n = true ∧ s.fio.present = true ∧ s.foutPowered = true ∧ s.foutLocked n = false
     (¬ tries → exec (.shortRetry n still) s = .next s.settle) ∧
     (tries → Gives (.shortRetry n still) s (fun t => (t.fout n).short = still ∧
        t.rd FIO_OUT_RETRY_COUNT n = bump32 (s.rd FIO_OUT_RETRY_COUNT n) ∧
        (still = false → t.guard.live.contains (0x1502, n) = false) ∧ OnlyIn [.regs, .guard, .fio] s t))) := by
  intro tries
  have check : ((s.fout n).short && s.foutCmd n && s.fio.present && s.foutPowered && !s.foutLocked n) = true ↔ tries := by
    simp [tries, State.fout_of hx, and_assoc]
  refine ⟨fun idle => exec_onUnit_idle rfl (if_neg (check.not.mpr idle)), fun h => ?_⟩
  have retried : s.retryShort n still = ((s.bump FIO_OUT_RETRY_COUNT n).fioChange fun s =>
      s.modFout n fun x => { x with retrying := true }).fioChange (State.retryEnds n still) := if_pos (check.mpr h)
  have command : exec (.shortRetry n still) s = onUnit n 4 s (s.retryShort n still) := rfl
  have counted := State.rd_bump_same s FIO_OUT_RETRY_COUNT n
  have start : OnlyIn [.regs, .guard, .fio] s (s.bump FIO_OUT_RETRY_COUNT n) := (s.bump_onlyIn _ _).mono (by decide)
  obtain ⟨⟨k, on⟩, first⟩ := State.fioChange_modFout (s := s.bump FIO_OUT_RETRY_COUNT n) hx fun x => { x with retrying := true }
  rw [retried] at command
  generalize s.bump FIO_OUT_RETRY_COUNT n = v at first start command counted on
  generalize (v.fioChange fun s => s.modFout n fun x => { x with retrying := true }) = u at first command on
  have second := Swept.fioChange u (State.retryEnds n still)
  have ended := u.retryEnds_onlyIn n still
  have shown : ((u.retryEnds n still).fout n).short = still := by
    have same : (u.retryEnds n still).fout n =
        (u.modFout n fun x => { x with retrying := false, short := still }).fout n := by
      unfold State.retryEnds
      dsimp only
      split <;> rfl
    rw [same, State.fout_modFout_same on]
  have gone : still = false → (u.retryEnds n still).guard.live.contains (0x1502, n) = false := fun done => by
    rw [done]
    exact State.gone_not_live _ _ _
  generalize u.retryEnds n still = y at second ended shown gone
  generalize u.fioChange (State.retryEnds n still) = z at second command
  obtain ⟨m, after⟩ := second.outs n
  refine Gives.onUnit command hn ⟨?_, ?_, fun ends => ?_, ?_⟩
  · rw [State.settle_fout, after]
    exact shown
  · rw [State.settle_rd, State.rd_congr (second.only.regs_eq (by decide)), State.rd_congr (ended.regs_eq (by decide)),
      State.rd_congr (first.regs_eq (by decide)), counted]
  · rw [State.settle_guard]
    exact second.gone (gone ends)
  · exact (((start.step first (by decide)).step ended (by decide)).step second.only (by decide)).settle

/-! External drive, and the end of a diagnosis (R547, R548). -/

theorem externalDrive_spec (hn : n < 4) (hx : s.fio.outs[n]? = some x) :
    (let seen := s.fio.present = true ∧ s.foutPowered = true ∧ s.foutOn n = false ∧ x.ext = false
     (¬ seen → exec (.externalDrive n) s = .next s.settle) ∧
     (seen → (∀ a, a < 4 → a ≠ n → (s.fout a).onTick ≠ some s.tick.number.toNat) → Gives (.externalDrive n) s (fun t =>
       (t.fout n).ext = true ∧ t.guard.live.contains (0x1503, n) = true ∧ bitAt (t.fstat 21) 2 = true ∧
       t.rd FIO_CONFLICT_COUNT = s.rd FIO_CONFLICT_COUNT ∧ OnlyIn [.regs, .hif, .log, .guard, .fio] s t))) := by
  intro seen
  have check : (s.fio.present && s.foutPowered && !s.foutOn n && !(s.fout n).ext) = true ↔ seen := by
    simp [seen, State.fout_of hx, and_assoc]
  refine ⟨fun unseen => exec_onUnit_idle rfl (if_neg (check.not.mpr unseen)), fun h alone => ?_⟩
  have others : (List.range 4).filter (fun a => a != n && (s.fout a).onTick == some s.tick.number.toNat) = [] := by
    simp only [List.filter_eq_nil_iff, List.mem_range, Bool.and_eq_true, bne_iff_ne, beq_iff_eq, not_and]
    exact fun a ha other => alone a ha other
  have driven : s.extDrive n = (s.modFout n fun x => { x with ext := true }).raiseCond 0x1503 { source := n } := by
    unfold State.extDrive
    rw [if_pos (check.mpr h), others]
    rfl
  refine (gives_diagnosed (code := 0x1503)
    (i := .externalDrive n) (P := fun t => (t.fout n).ext = true ∧ t.rd FIO_CONFLICT_COUNT = s.rd FIO_CONFLICT_COUNT) hn
    (congrArg (onUnit n 4 s) driven) ((s.modFout_onlyIn n _).mono (by decide)) ⟨?_, ?_⟩).imp
    fun t ⟨⟨ext, count⟩, live, bit, only⟩ => ⟨ext, live, bit, count, only⟩
  · rw [State.fout_raiseCond, State.fout_modFout_same hx]
  · rw [State.settle_rd]
    exact (State.raiseCond_aside _ 0x1503 { source := n }).2 (by decide)

theorem State.diagEnd_open (s : State) (n : Nat) : s.diagEnd n false =
    if (s.fout n).ol then (s.modFout n fun x => { x with ol := false }).gone 0x1501 n else s := rfl

theorem State.diagEnd_driven (s : State) (n : Nat) : s.diagEnd n true =
    if (s.fout n).ext then s.fioChange (fun s => (s.modFout n fun x => { x with ext := false }).gone 0x1503 n) else s := rfl

theorem fieldDiagnosisEnd_spec (hn : n < 4) (hx : s.fio.outs[n]? = some x) :
    (x.ol = false → exec (.fieldDiagnosisEnd n false) s = .next s.settle) ∧
    (x.ol = true → Gives (.fieldDiagnosisEnd n false) s (fun t => t.fout n = { x with ol := false } ∧
      t.guard.live.contains (0x1501, n) = false ∧ OnlyIn [.guard, .fio] s t)) ∧
    (x.ext = false → exec (.fieldDiagnosisEnd n true) s = .next s.settle) ∧
    (x.ext = true → Gives (.fieldDiagnosisEnd n true) s (fun t => (t.fout n).ext = false ∧
      t.guard.live.contains (0x1503, n) = false ∧ OnlyIn [.guard, .fio] s t)) := by
  have here := State.fout_of hx
  refine ⟨fun idle => exec_onUnit_idle rfl (by rw [State.diagEnd_open, here, if_neg (by simp [idle])]), fun opened => ?_,
    fun idle => exec_onUnit_idle rfl (by rw [State.diagEnd_driven, here, if_neg (by simp [idle])]), fun driven => ?_⟩
  · have ends : s.diagEnd n false = (s.modFout n fun x => { x with ol := false }).gone 0x1501 n := by
      rw [State.diagEnd_open, here, if_pos opened]
    have out := State.fout_modFout_same hx fun x => { x with ol := false }
    have only := s.modFout_onlyIn n fun x => { x with ol := false }
    have command : exec (.fieldDiagnosisEnd n false) s = onUnit n 4 s (s.diagEnd n false) := rfl
    rw [ends] at command
    generalize (s.modFout n fun x => { x with ol := false }) = u at out only command
    refine Gives.onUnit command hn ⟨(State.settle_fout _ n).trans ((State.fout_congr rfl n).trans out), ?_, ?_⟩
    · rw [State.settle_guard]
      exact State.gone_not_live _ _ _
    · exact ((only.mono (by decide)).step (State.gone_onlyIn _ _ _) (by decide)).settle
  · have ends : s.diagEnd n true = s.fioChange (fun s => (s.modFout n fun x => { x with ext := false }).gone 0x1503 n) := by
      rw [State.diagEnd_driven, here, if_pos driven]
    have swept := Swept.fioChange s fun s => (s.modFout n fun x => { x with ext := false }).gone 0x1503 n
    have out := State.fout_modFout_same hx fun x => { x with ext := false }
    have only := s.modFout_onlyIn n fun x => { x with ext := false }
    have command : exec (.fieldDiagnosisEnd n true) s = onUnit n 4 s (s.diagEnd n true) := rfl
    rw [ends] at command
    generalize (s.fioChange fun s => (s.modFout n fun x => { x with ext := false }).gone 0x1503 n) = v at swept command
    generalize (s.modFout n fun x => { x with ext := false }) = u at out only swept
    obtain ⟨k, after⟩ := swept.outs n
    refine Gives.onUnit command hn ⟨?_, ?_, ?_⟩
    · rw [State.settle_fout, after, State.fout_congr (t := u.gone 0x1503 n) (s := u) rfl, out]
    · rw [State.settle_guard]
      exact swept.gone (State.gone_not_live _ _ _)
    · exact (((only.mono (by decide)).step (State.gone_onlyIn _ _ _) (by decide)).step swept.only (by decide)).settle

/-! The supply of the outputs (R538). -/

/-- VFIELD is gone: every output is off, and no diagnosis stands. -/
def State.fieldDark (s : State) : State :=
  { s with
    fio := { s.fio with
      present := false, pairs := 0, vfieldMv := Config.free s.fresh % 65536
      outs := s.fio.outs.map fun x => { x with ol := false, short := false, ext := false, retrying := false } }
    guard := { s.guard with live := s.guard.live.filter (fun p => !(decide (0x1501 ≤ p.1) && decide (p.1 ≤ 0x1504))) } }

theorem State.fieldDark_onlyIn (s : State) : OnlyIn [.guard, .fio] s s.fieldDark := by
  intro p; cases p <;> first | exact .inr rfl | exact .inl (by decide)

theorem State.vfieldGone_present (h : s.fio.present = true) : s.vfieldGone = s.fieldDark.freshen.raiseCond 0x1505 := if_pos h

theorem vfieldLoss_spec (hx : s.fio.outs[n]? = some x) :
    (s.fio.present = false → exec .vfieldLoss s = .next s.settle) ∧
    (s.fio.present = true → Gives .vfieldLoss s (fun t => t.fio.present = false ∧ t.foutOn n = false ∧
      (t.fout n).short = false ∧ (t.fout n).ol = false ∧ (t.fout n).ext = false ∧ t.causeLive 0x1505 = true ∧
      bitAt (t.fstat 21) 4 = true ∧ OnlyIn [.regs, .hif, .log, .guard, .fio, .fresh] s t)) := by
  refine ⟨fun dark => congrArg done (if_neg (by simp [dark])), fun lit => ?_⟩
  have answer : exec .vfieldLoss s = done (s.fieldDark.freshen.raiseCond 0x1505) := congrArg done (State.vfieldGone_present lit)
  have dark := s.fieldDark_onlyIn
  have out : s.fieldDark.fio.outs[n]? = some { x with ol := false, short := false, ext := false, retrying := false } := by
    simp [State.fieldDark, hx]
  have off : s.fieldDark.fio.present = false := rfl
  generalize s.fieldDark = u at answer dark out off
  have only := u.freshen.raiseCond_onlyIn 0x1505 {}
  have fio : (u.freshen.raiseCond 0x1505).settle.fio = u.fio :=
    (State.settle_fio _).trans ((only.fio_eq (by decide)).trans (u.freshen_onlyIn.fio_eq (by decide)))
  have live : (u.freshen.raiseCond 0x1505).settle.causeLive 0x1505 = true := by
    rw [State.settle_causeLive]
    exact State.causeLive_raiseCond _ _
  have bit : bitAt ((u.freshen.raiseCond 0x1505).settle.fstat 21) 4 = true := by
    rw [State.settle_fstat]
    exact State.raiseI_sets _ _ _
  have changed : OnlyIn [.regs, .hif, .log, .guard, .fio, .fresh] s (u.freshen.raiseCond 0x1505).settle :=
    (((dark.mono (by decide)).step u.freshen_onlyIn (by decide)).step only (by decide)).settle
  generalize hv : u.freshen.raiseCond 0x1505 = v at fio live bit changed answer
  have shown : v.settle.fout n = { x with ol := false, short := false, ext := false, retrying := false } :=
    State.fout_of (by rw [fio, out])
  exact ⟨_, answer, by rw [fio, off], State.foutOn_dark (by rw [fio, off]) n, by rw [shown], by rw [shown], by rw [shown],
    live, bit, changed⟩

/-- VFIELD is back: outputs wait for the next edge. -/
def State.fieldBack (s : State) (mv : Nat) : State :=
  { s with fio := { s.fio with present := true, vfieldMv := mv, restoreAtEdge := !s.fio.safeLevels } }

theorem vfieldRestore_spec (s : State) (mv : Nat) :
    ((s.fio.present = true ∨ mv < 16000 ∨ 34000 < mv) → exec (.vfieldRestore mv) s = .next s.settle) ∧
    (s.fio.present = false → 16000 ≤ mv → mv ≤ 34000 → Gives (.vfieldRestore mv) s (fun t =>
      t.fio.present = true ∧ t.fio.vfieldMv = mv ∧ t.fio.outs = s.fio.outs ∧
      t.guard.live.contains (0x1505, 0xFF) = false ∧ OnlyIn [.guard, .fio] s t)) := by
  refine ⟨fun out => congrArg done (if_neg ?_), fun dark low high => ?_⟩
  · rintro ⟨dark, low, high⟩
    rcases out with lit | out | out
    · rw [dark] at lit; cases lit
    · omega
    · omega
  · have back : s.vfieldBack mv = (s.fieldBack mv).gone 0x1505 0xFF := if_pos ⟨dark, low, high⟩
    have only : OnlyIn [.guard, .fio] s (s.fieldBack mv) := (OnlyIn.refl _ s).fio (by decide)
    refine ⟨_, congrArg done back, ?_⟩
    beta_reduce
    rw [State.settle_fio, State.settle_guard]
    exact ⟨rfl, rfl, rfl, State.gone_not_live _ _ _, (only.step (State.gone_onlyIn _ _ _) (by decide)).settle⟩

/-! Field inputs (R551 to R553). -/

theorem Confined.raiseFlags {f : Word} {acc : State × List Nat} {m : Nat} (h : Confined r acc.1) :
    Confined r (State.raiseFlags f acc m).1 := by
  obtain ⟨s, ready⟩ := acc
  unfold State.raiseFlags
  dsimp only
  split
  · exact h
  · split
    · exact (setThread h).markReady
    · exact setThread h

/-- A hardware flag touches neither the tick nor a register at or above the PWR block. -/
theorem Confined.hwFlag {b : Nat} (h : Confined r s) : Confined r (s.hwFlag b) :=
  (h.foldl_fst fun _ _ h => h.raiseFlags).seatThreads

/-- The input has taken its new level, and its edge is counted. -/
def State.finTaken (s : State) (n : Nat) (rising : Bool) (stamp : Nat) : State :=
  (({ s with fio := { s.fio with ins := lmod s.fio.ins n (fun _ => { level := rising, stamp := stamp }) } } : State).bump
    FIO_IN_EDGE_COUNT n).hwFlag 6

theorem State.finTaken_spec {y : Fin'} (hy : s.fio.ins[n]? = some y) (rising : Bool) (stamp : Nat) :
    (s.finTaken n rising stamp).fio.ins[n]? = some { level := rising, stamp := stamp } ∧
    (s.finTaken n rising stamp).rd FIO_IN_EDGE_COUNT n = bump32 (s.rd FIO_IN_EDGE_COUNT n) ∧
    (n < 4 → (s.finTaken n rising stamp).finWakes n rising = s.finWakes n rising) ∧
    OnlyIn [.regs, .mem, .sch, .fio] s (s.finTaken n rising stamp) := by
  let u : State := { s with fio := { s.fio with ins := lmod s.fio.ins n (fun _ => { level := rising, stamp := stamp }) } }
  have taken : s.finTaken n rising stamp = (u.bump FIO_IN_EDGE_COUNT n).hwFlag 6 := rfl
  have flag := (u.bump FIO_IN_EDGE_COUNT n).hwFlag_onlyIn 6
  have kept := (Confined.refl (u.bump FIO_IN_EDGE_COUNT n)).hwFlag (b := 6)
  rw [taken]
  refine ⟨?_, ?_, fun hn => ?_, ?_⟩
  · rw [flag.fio_eq (by decide)]
    simp [u, getElem?_lmod, hy]
  · rw [kept.rd (by simp only [RegDef.at, FIO_IN_EDGE_COUNT]; omega), State.rd_bump_same]
    rfl
  · have config : ((u.bump FIO_IN_EDGE_COUNT n).hwFlag 6).rd FIO_IN_CFG n = s.rd FIO_IN_CFG n :=
      (kept.rd (by simp only [RegDef.at, FIO_IN_CFG]; omega)).trans
        (State.rd_bump_other _ _ _ _ _ _ (by simp only [RegDef.at, FIO_IN_CFG, FIO_IN_EDGE_COUNT]; omega))
    simp only [State.finWakes, State.fld, config]
  · have set : OnlyIn [.regs, .mem, .sch, .fio] s u := (OnlyIn.refl _ s).fio (by decide)
    exact (set.step (u.bump_onlyIn _ _) (by decide)).step flag (by decide)

theorem State.wakeEvent_unarmed {src ns tick : Nat} (h : s.power.armed = false) : s.wakeEvent src ns tick = s := if_pos (.inl h)

/-- What follows the edge of an input: the tick source may take it, and it may wake. -/
def State.finFollows (v : State) (n : Nat) (rising : Bool) (stamp tick : Nat) : State :=
  let v := if v.tick.src = 2 ∧ n = 0 ∧ rising = true then v.sourceEdge stamp else v
  if v.finWakes n rising then v.wakeEvent (2 + n) stamp tick else v

theorem State.finFollows_quiet {rising : Bool} {stamp tick : Nat} (source : s.tick.src ≠ 2)
    (quiet : s.finWakes n rising = false ∨ s.power.armed = false) : s.finFollows n rising stamp tick = s := by
  have own : ¬ (s.tick.src = 2 ∧ n = 0 ∧ rising = true) := fun h => source h.1
  unfold State.finFollows
  simp only [if_neg own]
  rcases quiet with asleep | unarmed
  · exact if_neg (by simp [asleep])
  · rw [State.wakeEvent_unarmed unarmed, ite_self]

/-- An edge of an input that is awake and holds the other level. -/
theorem State.finEdge_awake {y : Fin'} {rising : Bool} {ns : Nat} (hy : s.fio.ins[n]? = some y) (lit : s.power.mode ≠ .off)
    (keeper : s.pwr.keeperOn = true) (awake : s.asleep = false) (edge : y.level ≠ rising) : s.finEdge n rising ns =
      ((s.advanceTo (1000 * (s.sampleNs ns + 1000 * s.filterUs n))).finTaken n rising (s.sampleNs ns - 3000)).finFollows n rising
        (s.sampleNs ns - 3000) (s.tickAt (s.sampleNs ns - 3000)) := by
  have here : lget Fin'.reset s.fio.ins n = y := by simp [lget, hy]
  unfold State.finEdge
  rw [if_neg (by simp [lit, keeper]), if_neg (by simp [awake]), here, if_neg edge]
  rfl

theorem fieldInputEdge_spec (hn : n < 4) {y : Fin'} (hy : s.fio.ins[n]? = some y) (rising : Bool) (ns : Nat) :
    ((s.power.mode = .off ∨ s.pwr.keeperOn = false ∨ (s.asleep = false ∧ y.level = rising)) →
        exec (.fieldInputEdge n rising ns) s = .next s.settle) ∧
    (s.power.mode ≠ .off → s.pwr.keeperOn = true → s.asleep = false → y.level ≠ rising → s.tick.src ≠ 2 →
        (s.finWakes n rising = false ∨ s.power.armed = false) → Gives (.fieldInputEdge n rising ns) s (fun t =>
          t.fio.ins[n]? = some { level := rising, stamp := s.sampleNs ns - 3000 } ∧
          t.rd FIO_IN_EDGE_COUNT n = bump32 (s.rd FIO_IN_EDGE_COUNT n) ∧
          1000 * (s.sampleNs ns + 1000 * s.filterUs n) ≤ t.clock.ps ∧ OnlyIn [.regs, .clock, .mem, .sch, .fio] s t)) := by
  have command : exec (.fieldInputEdge n rising ns) s = onUnit n 4 s (s.finEdge n rising ns) := rfl
  refine ⟨fun idle => exec_onUnit_idle command ?_, fun lit keeper awake edge source quiet => ?_⟩
  · have here : lget Fin'.reset s.fio.ins n = y := by simp [lget, hy]
    unfold State.finEdge
    by_cases off : s.power.mode = .off ∨ s.pwr.keeperOn = false
    · exact if_pos off
    · obtain ⟨awake, same⟩ := (or_assoc.mpr idle).resolve_left off
      rw [if_neg off, if_neg (by simp [awake]), here, if_pos same]
  · rw [State.finEdge_awake hy lit keeper awake edge] at command
    have waited := s.advanceTo_onlyIn (1000 * (s.sampleNs ns + 1000 * s.filterUs n))
    have late := s.le_advanceTo (1000 * (s.sampleNs ns + 1000 * s.filterUs n))
    generalize s.advanceTo (1000 * (s.sampleNs ns + 1000 * s.filterUs n)) = u at waited late command
    obtain ⟨level, count, wakes, only⟩ := State.finTaken_spec (s := u) (by rw [waited.fio_eq (by decide)]; exact hy) rising
      (s.sampleNs ns - 3000)
    have config : u.finWakes n rising = s.finWakes n rising := by
      rw [State.finWakes, State.fld_congr (waited.regs_eq (by decide)), State.finWakes]
    generalize u.finTaken n rising (s.sampleNs ns - 3000) = v at level count wakes only command
    have changed : OnlyIn [.regs, .clock, .mem, .sch, .fio] s v := (waited.mono (by decide)).step only (by decide)
    rw [State.finFollows_quiet (by rwa [changed.tick_eq (by decide)])
      (by rwa [wakes hn, config, changed.power_eq (by decide)])] at command
    refine Gives.onUnit command hn ⟨?_, ?_, ?_, changed.settle⟩
    · rw [State.settle_fio]; exact level
    · rw [State.settle_rd, count, State.rd_congr (waited.regs_eq (by decide))]
    · rw [State.settle_clock, only.clock_eq (by decide)]; exact late

/-- Settles O60: each command is one change of its output or input, and the conditions under which it applies are those that
the model tests. -/
theorem fieldIoPulsesAndStamps : Obligations.FieldIoPulsesAndStamps := by
  intro s n x hn hx
  obtain ⟨idle, pulse⟩ := fieldPulseStart_spec hn hx
  obtain ⟨endsIdle, ends⟩ := fieldPulseEnd_spec hn hx
  obtain ⟨shortIdle, short⟩ := shortToGround_spec hn hx
  obtain ⟨openIdle, opened, extIdle, ext⟩ := fieldDiagnosisEnd_spec hn hx
  obtain ⟨lossIdle, loss⟩ := vfieldLoss_spec hx
  refine ⟨⟨idle, pulse⟩, endsIdle, ends, openLoadDetect_spec hn hx, shortIdle, short, shortRetry_spec hn hx,
    externalDrive_spec hn hx, openIdle, opened, extIdle, ext, lossIdle, loss, fun mv => (vfieldRestore_spec s mv).1,
    fun mv => (vfieldRestore_spec s mv).2, fun y rising ns hy =>
      fieldInputEdge_spec hn hy rising ns⟩

end Sys2Proof.Machine
end

section
namespace Sys2Proof.Machine
open Sys2Proof.Tests

/-! The note of what a slot of a ring held (`RingPost.before`) is spliced back into host memory as it is (R131), and no
part of the memories' form speaks of it. -/

/-- A completion was posted and its write is about to fail; the note of what its slot held lists two bytes out of order. -/
def unorderedNote : State :=
  { run0 with
    hif := { run0.hif with cqs := [(0, { Cq.reset with pi := 1, recent := [{ entry := [], before := [(5, 0), (3, 0)] }] })] }
    pending := [.dmaWriteFailure (.completion 0 0)] }

/-- Writing the note back leaves host memory with its addresses out of order. -/
theorem unorderedNote_step :
    ∃ t, step unorderedNote = .next t ∧ Memory.wf unorderedNote.mem = true ∧ Memory.wf t.mem = false :=
  ⟨_, rfl, by decide +kernel, by decide +kernel⟩

/-- Refutes O3: a failed write of a completion puts back what its slot held before, and a state whose note of that lists
its bytes out of order has well-formed memories before the step and not after it. -/
theorem not_stepsKeepMemoryForm : ¬ Obligations.StepsKeepMemoryForm := by
  unfold Obligations.StepsKeepMemoryForm
  intro keeps
  obtain ⟨t, next, formed, broken⟩ := unorderedNote_step
  exact absurd (broken.symm.trans ((keeps _ t next).1 formed)) (by decide)

end Sys2Proof.Machine
end

section
namespace Sys2Proof.Machine
variable {r s t : State} {ps : List Part}

theorem OnlyIn.pwr (h : OnlyIn ps r s) {y : Pwr} (hp : Part.pwr ∈ ps) : OnlyIn ps r { s with pwr := y } :=
  h.trans fun p => by cases p <;> first | exact .inr rfl | exact .inl hp

theorem State.boWarn_congr (h : t.regs = s.regs) : t.boWarn = s.boWarn := by
  rw [State.boWarn, State.fld_congr h, State.boWarn]

theorem State.auxOn_congr (pwr : t.pwr = s.pwr) (power : t.power = s.power) (cfg : t.rd PWR_AUX_CFG = s.rd PWR_AUX_CFG)
    (n : Nat) : t.auxOn n = s.auxOn n := by
  simp only [State.auxOn, State.flag, pwr, power, cfg]

/-! Surges (R506). -/

theorem State.le_advanceNs (s : State) (ns : Nat) : s.clock.ps + 1000 * ns ≤ (s.advanceNs ns).clock.ps := s.le_advanceTo _

theorem State.advanceNs_onlyIn (s : State) (ns : Nat) : OnlyIn [.clock] s (s.advanceNs ns) := s.advanceTo_onlyIn _

/-- An episode of the clamp has ended, the only one within a second. -/
def State.clamped (s : State) (ms : Nat) : State := { s with pwr := { s.pwr with clamps := [(s.ktime, ms)] } }

/-- What a clamp brings: the input opens when it has clamped too long. -/
def State.clampEnds (s : State) : State :=
  if 100 < s.clampMs then { s.goOff with pwr := { s.goOff.pwr with inputOpen := true } } else s.bump PWR_CLAMP_COUNT

theorem State.surge_eq (s : State) (ms : Nat) : s.surge ms =
    State.clampEnds (let u := s.advanceNs (ms * 10 ^ 6)
      { u with pwr := { u.pwr with
          clamps := u.pwr.clamps.filter (fun c => decide (u.ktime < c.1 + 10 ^ 9)) ++ [(u.ktime, ms)] } }) := rfl

theorem State.surge_first {s : State} (first : s.pwr.clamps = []) (ms : Nat) :
    s.surge ms = ((s.advanceNs (ms * 10 ^ 6)).clamped ms).clampEnds := by
  rw [State.surge_eq]
  have waited : (s.advanceNs (ms * 10 ^ 6)).pwr = s.pwr := (s.advanceNs_onlyIn _).pwr_eq (by decide)
  generalize s.advanceNs (ms * 10 ^ 6) = u at waited
  simp only [waited, first, List.filter_nil, List.nil_append, State.clamped]

/-- The milliseconds of an episode that lie within the second before an instant. -/
def clampWithin (now : Nat) (c : Nat × Nat) : Nat := (c.1 - max (c.1 - c.2 * 10 ^ 6) (now - 10 ^ 9)) / 10 ^ 6

theorem State.clampMs_eq (s : State) : s.clampMs = (s.pwr.clamps.map (clampWithin s.ktime)).sum := rfl

/-- An episode that ends now counts with its length, up to the whole second. -/
theorem clampWithin_now {k ms : Nat} (late : ms * 10 ^ 6 ≤ k) : clampWithin k (k, ms) = min ms 1000 := by
  unfold clampWithin
  omega

theorem State.clampMs_clamped (s : State) {ms : Nat} (late : ms * 10 ^ 6 ≤ s.ktime) : (s.clamped ms).clampMs = min ms 1000 := by
  have now : (s.clamped ms).ktime = s.ktime := rfl
  have only : (s.clamped ms).pwr.clamps = [(s.ktime, ms)] := rfl
  rw [State.clampMs_eq, now, only, List.map_singleton, List.sum_singleton, clampWithin_now late]

theorem State.clamped_clock (s : State) (ms : Nat) : (s.clamped ms).clock = s.clock := rfl
theorem State.clamped_inputOpen (s : State) (ms : Nat) : (s.clamped ms).pwr.inputOpen = s.pwr.inputOpen := rfl

theorem State.clampEnds_short (h : s.clampMs ≤ 100) : s.clampEnds = s.bump PWR_CLAMP_COUNT := if_neg (by omega)

theorem State.clampEnds_long (h : 100 < s.clampMs) : s.clampEnds.pwr.inputOpen = true ∧ s.clampEnds.power.mode = .off := by
  have opens : s.clampEnds = { s.goOff with pwr := { s.goOff.pwr with inputOpen := true } } := if_pos h
  rw [opens]
  exact ⟨rfl, rfl⟩

/-- The state in which the only surge within a second has been clamped. -/
theorem State.clamped_spec (first : s.pwr.clamps = []) (early : s.clock.ps < 2 ^ 73) {ms : Nat} (short : ms < 10 ^ 6) :
    ∃ u : State, s.surge ms = u.clampEnds ∧ u.clampMs = min ms 1000 ∧ u.pwr.inputOpen = s.pwr.inputOpen ∧
      s.clock.ps + ms * 10 ^ 9 ≤ u.clock.ps ∧ OnlyIn [.clock, .pwr] s u := by
  have late := s.le_advanceNs (ms * 10 ^ 6)
  have time := s.ktime_advanceNs (ns := ms * 10 ^ 6) (by omega) early
  have waited := s.advanceNs_onlyIn (ms * 10 ^ 6)
  have surge := State.surge_first first ms
  generalize s.advanceNs (ms * 10 ^ 6) = u at surge time late waited
  refine ⟨u.clamped ms, surge, u.clampMs_clamped (by omega), ?_, ?_, (waited.mono (by decide)).pwr (by decide)⟩
  · rw [State.clamped_inputOpen, waited.pwr_eq (by decide)]
  · rw [State.clamped_clock]
    omega

theorem surgeClamp_spec (lit : s.power.mode ≠ .off) (shut : s.pwr.inputOpen = false) (first : s.pwr.clamps = [])
    (early : s.clock.ps < 2 ^ 73) {ms : Nat} (short : ms < 10 ^ 6) :
    (ms ≤ 100 → Gives (.surgeClamp ms) s (fun t => t.rd PWR_CLAMP_COUNT = bump32 (s.rd PWR_CLAMP_COUNT) ∧
      t.pwr.inputOpen = false ∧ s.clock.ps + ms * 10 ^ 9 ≤ t.clock.ps ∧ OnlyIn [.regs, .clock, .pwr] s t)) ∧
    (100 < ms → Gives (.surgeClamp ms) s (fun t => t.pwr.inputOpen = true ∧ t.power.mode = .off)) := by
  obtain ⟨u, surge, length, input, late, only⟩ := State.clamped_spec first early short
  have answer : exec (.surgeClamp ms) s = done u.clampEnds :=
    congrArg done ((if_neg (by simp [lit, shut])).trans surge)
  refine ⟨fun few => ⟨_, answer, ?_⟩, fun many => ⟨_, answer, ?_⟩⟩
  · beta_reduce
    rw [State.clampEnds_short (by omega), State.settle_rd, State.settle_pwr, State.settle_clock, State.rd_bump_same,
      State.bump_pwr, State.bump_clock, State.rd_congr (only.regs_eq (by decide))]
    exact ⟨rfl, input.trans shut, late, ((only.mono (by decide)).step (u.bump_onlyIn _ _) (by decide)).settle⟩
  · beta_reduce
    rw [State.settle_pwr, State.settle_power]
    exact State.clampEnds_long (by omega)

/-! Brown-out (R509). -/

theorem State.boWarn_pos (s : State) : 0 < s.boWarn := by
  unfold State.boWarn clamp
  omega

/-- VIN reads a value below the threshold. -/
def State.vinLow (s : State) : State := { s with pwr := { s.pwr with vinMv := Config.free s.fresh % s.boWarn } }

theorem State.vinLow_spec (s : State) : s.vinLow.pwr.vinMv < s.boWarn ∧ OnlyIn [.pwr] s s.vinLow :=
  ⟨Nat.mod_lt _ s.boWarn_pos, (OnlyIn.refl _ s).pwr (by decide)⟩

theorem brownoutWarning_spec (on : s.powered = true) :
    (s.causeLive 0x1306 = true → exec .brownoutWarning s = .next s.settle) ∧
    (s.causeLive 0x1306 = false → Gives .brownoutWarning s (fun t =>
      t.causeLive 0x1306 = true ∧ bitAt (t.fstat 19) 5 = true ∧ t.pwr.vinMv < s.boWarn ∧
      OnlyIn [.regs, .hif, .log, .guard, .pwr, .fresh] s t)) := by
  refine ⟨fun live => congrArg done (if_neg (by simp [live])), fun quiet => ?_⟩
  have answer : exec .brownoutWarning s = done (s.vinLow.freshen.raiseCond 0x1306) :=
    congrArg done (if_pos (by simp [on, quiet]))
  obtain ⟨low, only⟩ := s.vinLow_spec
  generalize s.vinLow = u at answer low only
  have drawn := u.freshen_onlyIn
  have raised := u.freshen.raiseCond_onlyIn 0x1306 {}
  refine ⟨_, answer, ?_, ?_, ?_, (((only.mono (by decide)).step drawn (by decide)).step raised (by decide)).settle⟩
  · rw [State.settle_causeLive]
    exact State.causeLive_raiseCond _ _
  · rw [State.settle_fstat]
    exact State.raiseI_sets _ _ _
  · rw [State.settle_pwr, raised.pwr_eq (by decide), drawn.pwr_eq (by decide)]
    exact low

/-- VIN reads this value. -/
def State.vinReads (s : State) (mv : Nat) : State := { s with pwr := { s.pwr with vinMv := mv } }

theorem brownoutEnd_spec (on : s.powered = true) (mv : Nat) :
    Gives (.brownoutEnd mv) s (fun t => t.pwr = { s.pwr with vinMv := mv } ∧
      (s.boWarn + 300 ≤ mv → t.guard.live.contains (0x1306, 0xFF) = false) ∧
      (mv < s.boWarn + 300 → t.guard = s.guard) ∧ OnlyIn [.guard, .pwr] s t) := by
  have answer : exec (.brownoutEnd mv) s =
      done (if (s.vinReads mv).boWarn + 300 ≤ mv then (s.vinReads mv).gone 0x1306 0xFF else s.vinReads mv) :=
    congrArg done (if_pos on)
  have only : OnlyIn [.guard, .pwr] s (s.vinReads mv) := (OnlyIn.refl _ s).pwr (by decide)
  rw [State.boWarn_congr (t := s.vinReads mv) (s := s) rfl] at answer
  by_cases high : s.boWarn + 300 ≤ mv
  · rw [if_pos high] at answer
    refine ⟨_, answer, ?_⟩
    beta_reduce
    rw [State.settle_pwr, State.settle_guard]
    exact ⟨rfl, fun _ => State.gone_not_live _ _ _, fun low => absurd high (by omega),
      (only.step (State.gone_onlyIn _ _ _) (by decide)).settle⟩
  · rw [if_neg high] at answer
    exact ⟨_, answer, rfl, fun h => absurd h high, fun _ => rfl, only.settle⟩

/-! Rails and the bus (R512, R516, R517). -/

theorem vbus5_fault (on : s.powered = true) {n : Nat} (copies : n ≠ 1) :
    exec (.vbus5OutOfWindow n true) s = .next (s.raise 0x1305 { source := 0xFF }).settle ∧
    exec (.vbus5OutOfWindow n false) s = .next ((s.raise 0x1305 { source := 0xFF }).railsFall).settle := by
  have fault (held : Bool) : s.vbus5 n held = s.supplyFault 0x1305 0xFF held := by
    unfold State.vbus5
    rw [if_neg (by simp [on]), if_neg copies]
  exact ⟨congrArg done (fault true), congrArg done (fault false)⟩

/-- A rail has left its window. -/
def State.railLow (s : State) (rail : Nat) : State :=
  { s with pwr := { s.pwr with
      railOk := putBits s.pwr.railOk rail rail 0, lowGood := s.pwr.lowGood || rail == 1 || rail == 4 } }

theorem railOutOfWindow_spec (on : s.powered = true) {rail : Nat} (low : 1 ≤ rail) (high : rail ≤ 5) : ∃ u : State,
    exec (.railOutOfWindow rail true) s = .next (u.raise 0x1309 { source := 0xFF }).settle ∧
    exec (.railOutOfWindow rail false) s = .next ((u.raise 0x1309 { source := 0xFF }).railsFall).settle ∧
    bitAt u.pwr.railOk rail = false ∧ u.pwr.lowGood = (s.pwr.lowGood || rail == 1 || rail == 4) ∧ OnlyIn [.pwr] s u := by
  have fault (held : Bool) : (if 1 ≤ rail ∧ rail ≤ 5 then s.railOut rail held else s) =
      (s.railLow rail).supplyFault 0x1309 0xFF held := by
    rw [if_pos ⟨low, high⟩]
    exact if_neg (by simp [on])
  refine ⟨s.railLow rail, congrArg done (fault true), congrArg done (fault false), ?_, rfl, (OnlyIn.refl _ s).pwr (by decide)⟩
  rw [State.railLow, bitAt_putBits _ _ _ _ _ le_rfl, if_pos ⟨le_rfl, le_rfl⟩, Nat.sub_self]
  rfl

/-! Auxiliary outputs (R510). -/

/-- An output is switched off for its overload. -/
def State.auxShed (s : State) (n : Nat) : State := { s with pwr := { s.pwr with auxOvl := s.pwr.auxOvl ++ [n] } }

theorem auxOverload_spec {n : Nat} (hn : n < 2) :
    (s.auxOn n = false → exec (.auxOverload n) s = .next s.settle) ∧
    (s.auxOn n = true → Gives (.auxOverload n) s (fun t => t.auxOn n = false ∧
      t.rd PWR_AUX_OVL_COUNT = bump32 (s.rd PWR_AUX_OVL_COUNT) ∧ t.causeLive 0x130A = true ∧
      bitAt (t.fstat 19) 9 = true ∧ OnlyIn [.regs, .hif, .log, .guard, .pwr] s t)) := by
  refine ⟨fun off => exec_onUnit_idle rfl (if_neg (by simp [off])), fun on => ?_⟩
  have sheds : s.auxOff n = ((s.bump PWR_AUX_OVL_COUNT).raiseCond 0x130A { source := n }).auxShed n := if_pos on
  have raised := (s.bump PWR_AUX_OVL_COUNT).raiseCond_onlyIn 0x130A { source := n }
  have count := ((s.bump PWR_AUX_OVL_COUNT).raiseCond_aside 0x130A { source := n }).2 (d := PWR_AUX_OVL_COUNT) (k := 0) (by decide)
  have live : ((s.bump PWR_AUX_OVL_COUNT).raiseCond 0x130A { source := n }).causeLive 0x130A = true :=
    State.causeLive_present _ _ _
  have bit : bitAt (((s.bump PWR_AUX_OVL_COUNT).raiseCond 0x130A { source := n }).fstat 19) 9 = true :=
    State.raiseI_sets _ _ _
  have command : exec (.auxOverload n) s = onUnit n 2 s (s.auxOff n) := rfl
  rw [sheds] at command
  generalize (s.bump PWR_AUX_OVL_COUNT).raiseCond 0x130A { source := n } = u at raised count live bit command
  refine Gives.onUnit command hn ⟨?_, ?_, ?_, ?_, ?_⟩
  · change (u.auxShed n).auxOn n = false
    simp [State.auxOn, State.auxShed]
  · rw [State.settle_rd]
    exact count.trans (State.rd_bump_same s _ _)
  · rw [State.settle_causeLive]
    exact live
  · rw [State.settle_fstat]
    exact bit
  · have only : OnlyIn [.regs, .hif, .log, .guard, .pwr] s u :=
      ((s.bump_onlyIn _ _).mono (by decide)).step raised (by decide)
    exact (only.pwr (by decide)).settle

theorem State.auxAgain_held (s : State) (n : Nat) : s.auxAgain n true =
    if s.pwr.auxOvl.contains n then
      ({ s with pwr := { s.pwr with auxOvl := ldel s.pwr.auxOvl n } } : State).gone 0x130A n
    else s := by
  unfold State.auxAgain
  rw [Bool.and_true]

theorem auxRetry_spec {n : Nat} (hn : n < 2) :
    (s.pwr.auxOvl.contains n = true → Gives (.auxRetry n true) s (fun t =>
      t.pwr = { s.pwr with auxOvl := ldel s.pwr.auxOvl n } ∧ t.guard.live.contains (0x130A, n) = false ∧
      OnlyIn [.guard, .pwr] s t)) ∧
    (s.pwr.auxOvl.contains n = false → exec (.auxRetry n true) s = .next s.settle) ∧
    exec (.auxRetry n false) s = .next s.settle := by
  refine ⟨fun shed => ?_, fun on => ?_, ?_⟩
  · refine Gives.onUnit (u := s.auxAgain n true) rfl hn ?_
    rw [State.auxAgain_held, if_pos shed, State.settle_pwr, State.settle_guard]
    have only : OnlyIn [.guard, .pwr] s { s with pwr := { s.pwr with auxOvl := ldel s.pwr.auxOvl n } } :=
      (OnlyIn.refl _ s).pwr (by decide)
    exact ⟨rfl, State.gone_not_live _ _ _, (only.step (State.gone_onlyIn _ _ _) (by decide)).settle⟩
  · exact exec_onUnit_idle rfl ((s.auxAgain_held n).trans (if_neg (by rw [on]; decide)))
  · exact exec_onUnit_idle rfl (if_neg (by simp))

/-- To a supply that is off nothing happens. -/
theorem supply_off (off : s.powered = false) (mv n : Nat) (held : Bool) :
    exec .brownoutWarning s = .next s.settle ∧ exec (.brownoutEnd mv) s = .next s.settle ∧
    exec (.vbus5OutOfWindow n held) s = .next s.settle ∧ exec (.railOutOfWindow n held) s = .next s.settle := by
  have rails : s.railOut n held = s := if_pos (by simp [off])
  refine ⟨congrArg done (if_neg (by simp [off])), congrArg done (if_neg (by simp [off])),
    congrArg done (if_pos (by simp [off])), congrArg done ?_⟩
  rw [rails, ite_self]

/-- Settles O57: the branches of each command, with the length of a single surge counted in milliseconds and the value below
the threshold that VIN then reads. -/
theorem supplyRailsAct : Obligations.SupplyRailsAct := by
  intro s
  refine ⟨fun ms idle => congrArg done (if_pos idle), fun ms lit shut first early short =>
    surgeClamp_spec lit shut first early short, fun env => rfl, fun off mv n held => supply_off off mv n held, fun on => ?_,
    fun n hn => ?_⟩
  · obtain ⟨warned, warns⟩ := brownoutWarning_spec on
    refine ⟨warned, warns, brownoutEnd_spec on, fun held => ⟨_, congrArg done ((if_neg (by simp [on])).trans (if_pos rfl)), rfl,
      ((OnlyIn.refl _ s).pwr (by decide)).settle⟩, fun n copies => vbus5_fault on copies, fun rail low high =>
      railOutOfWindow_spec on low high⟩
  · obtain ⟨off, overload⟩ := auxOverload_spec (s := s) hn
    exact ⟨off, overload, auxRetry_spec hn⟩

end Sys2Proof.Machine
end

section
namespace Sys2Proof.Machine
variable {r s t : State} {env : BootEnv} {k : Nat}

/-! The power sequence (R511 to R513). -/

/-- With no phase failing its test, the sequence fails where a rail misses its window. -/
theorem State.powerSequence_fails (tested : env.phaseFail = []) (missed : env.railFail ≠ 0) :
    s.powerSequence env = s.sequenceFails env.railFail := by
  unfold State.powerSequence
  simp [tested, missed]

/-- With every rail in its window, it passes, and touches the power stage only. -/
theorem State.powerSequence_passes (tested : env.phaseFail = []) (held : env.railFail = 0) :
    (s.powerSequence env).pwr.seqFailed = false ∧ OnlyIn [.pwr, .power] s (s.powerSequence env) := by
  unfold State.powerSequence
  simp only [tested, List.find?_nil, List.filterMap_none, List.length_nil, Nat.zero_lt_succ, if_true, held, ne_eq,
    not_true_eq_false, if_false, List.foldl_nil]
  exact ⟨trivial, fun p => by cases p <;> first | exact .inr rfl | exact .inl (by decide)⟩

/-! The boot stages from a good slot (R455, R460). -/

/-- The system block but for its registers of the microcode patch. -/
def Sys.unpatched (y : Sys) : Sys :=
  { y with loadResult := 0, overrides := [], patchWords := [], patchVersion := 0, imageEpoch := 0 }

/-- Loading a patch sets the registers of the patch, and then reports a refused image or the engines that mismatch. -/
theorem State.loadPatch_cases (s : State) (k : Nat) (l : List Nat) : ∃ y : Sys, y.unpatched = s.sys.unpatched ∧
    (s.loadPatch k l = { s with sys := y } ∨ (∃ code, s.loadPatch k l = ({ s with sys := y } : State).raiseI code) ∨
      s.loadPatch k l = l.foldl (fun s u => if u < 3 then s.patchMismatch u else s) { s with sys := y }) := by
  unfold State.loadPatch
  dsimp only
  split
  · exact ⟨s.sys, rfl, .inl rfl⟩
  · split
    · refine ⟨_, ?_, .inr (.inr rfl)⟩
      rfl
    · refine ⟨_, ?_, .inr (.inl ⟨_, rfl⟩)⟩
      rfl

/-- Where nothing is under way, the engines that mismatch leave the system block as it is. -/
theorem Resting.loadPatch_sys (h : Resting s s) (k : Nat) (l : List Nat) :
    (s.loadPatch k l).sys.unpatched = s.sys.unpatched := by
  obtain ⟨y, same, loaded | ⟨code, loaded⟩ | loaded⟩ := s.loadPatch_cases k l
  all_goals rw [loaded, ← same]
  · rw [(State.raiseI_onlyIn _ code {}).sys_eq (by decide)]
  · have quiet : Resting { s with sys := y } { s with sys := y } := { h with sys := rfl }
    exact congrArg Sys.unpatched (quiet.foldl fun k => k.patchMismatch.ite k).sys

theorem State.stage1_sys (wipe : s.sys.wipePending = none) : s.stage1.sys = { s.sys with bootStage := 1 } := by
  unfold State.stage1
  simp only [State.stage, wipe]

/-- The boot record has its preferred slot VALID with a good image: that slot is booted. -/
theorem State.chooseSlot_valid (valid : (s.slot s.sys.preferred).state = 1)
    (image : imageErr (s.slotByte s.sys.preferred) slotSize s.sys.fwEpochFuse = 0) :
    s.chooseSlot = (s.bootFrom s.sys.preferred, true) := by
  have tried : s.trySlot s.sys.preferred = (s.bootFrom s.sys.preferred, true) := by
    unfold State.trySlot
    rw [valid]
    simp [image]
  unfold State.chooseSlot
  simp only [tried]

/-- A boot whose preferred slot is good reaches stage 6 with it. -/
theorem State.boot_valid (resting : Resting s s) (fuse : env.fuseOk = true) (train : env.trainOk = true)
    (wipe : s.sys.wipePending = none) (due : s.sys.dramWipeDue = false) (valid : (s.slot s.sys.preferred).state = 1)
    (image : imageErr (s.slotByte s.sys.preferred) slotSize s.sys.fwEpochFuse = 0) :
    (s.boot false env).sys.bootStage = 6 ∧ (s.boot false env).sys.bootSlot = s.sys.preferred ∧
    (s.boot false env).sys.fwVersion = (s.slot s.sys.preferred).version := by
  have first := State.stage1_sys wipe
  have begun := (Starts.refl resting).stage1
  have bytes : s.stage1.mem.mram = s.mem.mram := by
    unfold State.stage1
    simp only [State.stage, wipe]
  rw [State.boot, if_neg (by simp [fuse])]
  dsimp only
  rw [if_neg (by simp [wipe]), if_neg (by decide)]
  generalize hu : s.stage1.stage 2 = u
  have started : Starts s u := hu ▸ begun.stage
  have sys : u.sys = { s.sys with bootStage := 2 } := by rw [← hu, State.stage, first]
  have slot : u.slot = s.slot := by
    funext k
    rw [State.slot, sys, State.slot]
  have byte : u.slotByte = s.slotByte := by
    funext k i
    rw [State.slotByte, State.mramByte, ← hu]
    exact congrArg (fun m => tget _ m _) bytes
  have choice := State.chooseSlot_valid (s := u) (by rw [slot, sys]; exact valid) (by rw [byte, sys]; exact image)
  rw [choice]
  dsimp only
  have booted : Starts s (u.bootFrom u.sys.preferred) := by
    have h := started.chooseSlot
    rwa [choice] at h
  generalize hv : (u.bootFrom u.sys.preferred).stage 3 = v
  have vsys : v.sys = { s.sys with
      bootStage := 3, bootSlot := s.sys.preferred, fwVersion := (s.slot s.sys.preferred).version
      fwEpoch := (s.slot s.sys.preferred).epoch
      trialBooted := s.sys.trialBooted || (s.slot s.sys.preferred).state == 2 } := by
    rw [← hv, State.stage, State.bootFrom, slot, sys]
  have loaded := (hv ▸ booted.stage : Starts s v).resting.loadPatch_sys (u.bootFrom u.sys.preferred).sys.bootSlot env.patchMismatch
  generalize v.loadPatch (u.bootFrom u.sys.preferred).sys.bootSlot env.patchMismatch = w at loaded
  have undue : w.sys.dramWipeDue = false := (congrArg Sys.dramWipeDue loaded :).trans (by rw [vsys]; exact due)
  have last : w.stage4 env = ({ w.stage 4 with mem := { w.mem with trained := 3 } } : State).stage 6 := by
    unfold State.stage4
    rw [if_neg (by simp [train])]
    exact if_neg (by simp [State.stage, undue])
  rw [last]
  refine ⟨rfl, (congrArg Sys.bootSlot loaded :).trans (by rw [vsys]; rfl), (congrArg Sys.fwVersion loaded :).trans (by rw [vsys]; rfl)⟩

theorem powerOnReset_fails (s : State) (tested : env.phaseFail = []) (missed : env.railFail ≠ 0) :
    Gives (.powerOnReset env) s (fun t => t.pwr.seqFailed = true ∧ t.pwr.seqStep = env.railFail ∧ t.pwr.pwrGood = false ∧
      t.power.mode = .off ∧ t.clock.ps = 0 ∧ t.sys.resetCause = 0) := by
  obtain ⟨sys, -⟩ := s.resetTo_record 0
  have time := s.resetTo_time 0
  have stops : (s.resetTo 0).coldStart env = (s.resetTo 0).sequenceFails env.railFail := by
    unfold State.coldStart
    rw [State.powerSequence_fails tested missed]
    exact if_pos rfl
  refine ⟨_, congrArg done stops, ?_⟩
  beta_reduce
  rw [State.settle_pwr, State.settle_power, State.settle_clock, State.settle_sys]
  exact ⟨rfl, rfl, rfl, rfl, time, by rw [State.sequenceFails, sys]⟩

theorem powerOnReset_boots (s : State) (tested : env.phaseFail = []) (held : env.railFail = 0) (fuse : env.fuseOk = true)
    (train : env.trainOk = true) (wipe : s.sys.wipePending = none) (valid : (s.slot s.sys.preferred).state = 1)
    (image : imageErr (s.slotByte s.sys.preferred) slotSize s.sys.fwEpochFuse = 0) :
    Gives (.powerOnReset env) s (fun t => t.sys.bootStage = 6 ∧ t.sys.bootSlot = s.sys.preferred ∧
      t.sys.fwVersion = (s.slot s.sys.preferred).version ∧ t.sys.resetCause = 0 ∧ t.sys.cfg = .config) := by
  obtain ⟨passed, only⟩ := State.powerSequence_passes (s := s.resetTo 0) tested held
  obtain ⟨record, -, -, -, -, mram, -⟩ := s.resetTo_record 0
  have starts : (s.resetTo 0).coldStart env = ((s.resetTo 0).powerSequence env).boot false env :=
    if_neg (by simp [passed])
  have resting : Starts (s.resetTo 0) ((s.resetTo 0).powerSequence env) :=
    (Starts.refl (s.resetTo_resting 0)).keep only (by decide)
  have sys := (only.sys_eq (by decide)).trans record
  have bytes := (congrArg Mem.mram (only.mem_eq (by decide))).trans mram
  generalize (s.resetTo 0).powerSequence env = u at starts resting sys bytes
  have slot : u.slot = s.slot := by
    funext k
    rw [State.slot, sys]
    rfl
  have byte : u.slotByte = s.slotByte := by
    funext k i
    rw [State.slotByte, State.mramByte, bytes]
    rfl
  have preferred : u.sys.preferred = s.sys.preferred := by rw [sys]; rfl
  have epoch : u.sys.fwEpochFuse = s.sys.fwEpochFuse := by rw [sys]; rfl
  obtain ⟨stage, chosen, version⟩ := State.boot_valid (env := env) resting.resting fuse train (by rw [sys]; exact wipe)
    (by rw [sys]; rfl) (by rw [slot, preferred]; exact valid) (by rw [byte, preferred, epoch]; exact image)
  have booted := resting.boot (rescue := false) (env := env)
  rw [preferred] at chosen version
  rw [slot] at version
  refine ⟨_, congrArg done starts, ?_⟩
  beta_reduce
  rw [State.settle_sys]
  exact ⟨stage, chosen, version, booted.cause.trans (by rw [record]), booted.cfg.trans (by rw [record]; rfl)⟩

/-! The pad (R450, R454). -/

theorem padReset_spec (on : s.power.mode ≠ .off) (up : s.power.mode ≠ .deepStandby) (good : s.pwr.pwrGood = true) :
    Gives .padReset s (fun t => t.sys.resetLow = true ∧ t.sys.resetCause = 1 ∧ t.sys.bootStage = 0 ∧ t.log = s.log ∧
      t.pwr.spare = s.pwr.spare ∧ t.clock.ps = s.clock.ps) := by
  have resets : s.padReset = { s.resetTo 1 with sys := { (s.resetTo 1).sys with resetLow := true } } :=
    if_neg (by simp [on, up, good])
  exact ⟨_, congrArg done resets, rfl, rfl, rfl, rfl, rfl, rfl⟩

/-! Stage 7 (R455, R527). -/

theorem State.modeChanged_onlyIn (s : State) (old new step cause : Nat) :
    OnlyIn [.regs, .log, .hif] s (s.modeChanged old new step cause) := by
  have logged {e : Event} : OnlyIn [.regs, .log, .hif] s (s.logEvent e) := (s.logEvent_onlyIn e).mono (by decide)
  exact logged.hif (by decide)

/-- Faults are reported that start no reaction. -/
structure Reports (s t : State) : Prop where
  only : OnlyIn [.regs, .log, .hif, .guard] s t
  safe : t.guard.safe = s.guard.safe

namespace Reports

theorem refl (s : State) : Reports s s := ⟨.refl _ s, rfl⟩

theorem trans {u : State} (h : Reports r s) (k : Reports s u) : Reports r u := ⟨h.only.trans k.only, k.safe.trans h.safe⟩

theorem raiseCond (s : State) (code : Nat) (i : FaultInfo) : Reports s (s.raiseCond code i) :=
  ⟨s.raiseCond_onlyIn code i, (congrArg Guard.safe (ReactionKept.refl s).raiseCond :)⟩

theorem raiseI (s : State) (code : Nat) (i : FaultInfo) : Reports s (s.raiseI code i) :=
  ⟨s.raiseI_onlyIn code i, (congrArg Guard.safe (s.raiseI_guard code i)).trans rfl⟩

theorem foldl {α : Type} {f : State → α → State} (h : ∀ s x, Reports s (f s x)) (l : List α) (s : State) :
    Reports s (l.foldl f s) := by
  induction l generalizing s with
  | nil => exact .refl s
  | cons x l ih => exact (h s x).trans (ih _)

end Reports

/-- The phases that were shed are reported again, and then what their number brings. -/
theorem State.raiseSheds_cases (s : State) : ∃ u, Reports s u ∧ s.raiseSheds =
    if u.phasesLeft < 3 then u.raise 0x1304
    else if u.phasesLeft = 3 then ({ u with pwr := { u.pwr with capA := 18, phaseCeil := true } } : State).raiseCond 0x1303
    else u := by
  unfold State.raiseSheds
  extract_lets one u
  refine ⟨u, Reports.foldl (fun s p => ?_) _ s, rfl⟩
  unfold one
  split
  · exact .raiseCond s _ _
  · exact .raiseCond s _ _
  · exact .raiseCond s _ _
  · exact .refl s

theorem State.phasesLeft_congr (h : t.pwr.phases = s.pwr.phases) : t.phasesLeft = s.phasesLeft := by
  rw [State.phasesLeft, h, State.phasesLeft]

/-- With three phases or more, stage 7 reports what was shed and runs on. -/
theorem State.raiseSheds_runs (enough : 3 ≤ s.phasesLeft) : OnlyIn [.regs, .log, .hif, .guard, .pwr] s s.raiseSheds := by
  obtain ⟨u, reports, sheds⟩ := s.raiseSheds_cases
  have left : u.phasesLeft = s.phasesLeft := State.phasesLeft_congr (congrArg Pwr.phases (reports.only.pwr_eq (by decide)))
  have only : OnlyIn [.regs, .log, .hif, .guard, .pwr] s u := reports.only.mono (by decide)
  rw [sheds, if_neg (by omega)]
  exact .ite ((only.pwr (by decide)).step (State.raiseCond_onlyIn _ _ _) (by decide)) only

theorem State.enterSafe_sys (s : State) : s.enterSafe.sys = s.sys := by
  generalize hu : s.enterSafe = u
  unfold State.enterSafe at hu
  split at hu
  · rw [← hu]
  · extract_lets s1 s2 p bus tick mem guard pwr fio s3 at hu
    have k : OnlyIn [.mem, .clk, .fresh, .bus] s3 u :=
      hu ▸ (OnlyIn.ite (s3.lockBanksAndPlls_onlyIn.mono (by decide)) (.refl _ s3)).step (State.flushMsi_onlyIn _) (by decide)
    have dark : s2.sys = s.sys := (OnlyIn.foldl _ State.panelDown_onlyIn _ s1).sys_eq (by decide)
    rw [k.sys_eq (by decide)]
    exact dark

/-- With fewer, the module stops. -/
theorem State.raiseSheds_stops (few : s.phasesLeft < 3) (safe : s.guard.safe = false) :
    s.raiseSheds.guard.safe = true ∧ bitAt (s.raiseSheds.fstat 19) 3 = true ∧ s.raiseSheds.sys = s.sys := by
  obtain ⟨u, reports, sheds⟩ := s.raiseSheds_cases
  have left : u.phasesLeft = s.phasesLeft := State.phasesLeft_congr (congrArg Pwr.phases (reports.only.pwr_eq (by decide)))
  obtain ⟨v, raised, before, outside⟩ := State.raise_s (s := u) (code := 0x1304) (by decide) (reports.safe.trans safe) {}
  rw [sheds, if_pos (by omega)]
  refine ⟨?_, State.raise_sets _ (by decide) _ _, ?_⟩
  · rw [raised]
    exact (State.enterSafe_safe outside).1
  · rw [raised, v.enterSafe_sys, before.sys_eq (by decide), reports.only.sys_eq (by decide)]

/-- From `s` the module has come to run in CONFIG, with the tick started. -/
structure RunsFrom (s t : State) : Prop where
  sys : ∃ b, t.sys = { s.sys with bootStage := 7, cfg := .config, slotFaultDue := b }
  mode : t.power.mode = .run
  trans : t.power.trans = .none
  tick : t.tick.stopped = false
  edge : t.tick.edgePs = s.clock.ps
  next : t.tick.nextPs = s.clock.ps + 1000 * s.tick.periodNs
  trained : t.mem.trained = 3
  standby : t.clk.standby = true

theorem RunsFrom.keep {ps : List Part} {u : State} (h : RunsFrom s t) (k : OnlyIn ps t u)
    (hp : ∀ p ∈ [Part.sys, .power, .tick, .mem, .clk], p ∉ ps) : RunsFrom s u where
  sys := k.sys_eq (hp _ (by decide)) ▸ h.sys
  mode := k.power_eq (hp _ (by decide)) ▸ h.mode
  trans := k.power_eq (hp _ (by decide)) ▸ h.trans
  tick := k.tick_eq (hp _ (by decide)) ▸ h.tick
  edge := k.tick_eq (hp _ (by decide)) ▸ h.edge
  next := k.tick_eq (hp _ (by decide)) ▸ h.next
  trained := k.mem_eq (hp _ (by decide)) ▸ h.trained
  standby := k.clk_eq (hp _ (by decide)) ▸ h.standby

/-- Stage 7 but for what the phases and the oscillator then report. -/
theorem State.reachConfig_cases (s : State) : ∃ u, RunsFrom s u ∧ u.phasesLeft = s.phasesLeft ∧
    u.guard.safe = s.guard.safe ∧
    s.reachConfig = if u.raiseSheds.clock.oscFailed then u.raiseSheds.raiseCond 0x1203 else u.raiseSheds := by
  unfold State.reachConfig
  extract_lets staged deep told p q sys tick mem pwr put locked own raised sheds
  have tell : OnlyIn [.regs, .log, .hif] staged told := .ite (staged.modeChanged_onlyIn _ _ _ _) (.refl _ _)
  have clock : told.clock = s.clock := tell.clock_eq (by decide)
  have period : told.tick = s.tick := tell.tick_eq (by decide)
  have same : told.sys = staged.sys := tell.sys_eq (by decide)
  have powered : told.pwr.phases = s.pwr.phases := congrArg Pwr.phases (tell.pwr_eq (by decide))
  have lock : OnlyIn [.clk, .fresh] put locked := put.lockPlls_onlyIn
  have on : q.mode = .run ∧ q.trans = .none := by
    unfold q
    split <;> exact ⟨rfl, rfl⟩
  have runs : RunsFrom s locked := {
    sys := ⟨s.sys.slotFaultDue, (lock.sys_eq (by decide)).trans (by simp only [put, sys, same]; rfl)⟩
    mode := (congrArg Power.mode (lock.power_eq (by decide))).trans on.1
    trans := (congrArg Power.trans (lock.power_eq (by decide))).trans on.2
    tick := congrArg Tick.stopped (lock.tick_eq (by decide))
    edge := (congrArg Tick.edgePs (lock.tick_eq (by decide))).trans (congrArg Clock.ps clock)
    next := (congrArg Tick.nextPs (lock.tick_eq (by decide))).trans (by simp only [put, clock, period])
    trained := congrArg Mem.trained (lock.mem_eq (by decide))
    standby := rfl }
  have phases : locked.pwr.phases = s.pwr.phases :=
    (congrArg Pwr.phases (lock.pwr_eq (by decide))).trans powered
  have safe : locked.guard.safe = s.guard.safe :=
    (congrArg Guard.safe (lock.guard_eq (by decide))).trans (congrArg Guard.safe (tell.guard_eq (by decide)))
  clear_value locked
  have noted : RunsFrom s { locked with sys := { own with slotFaultDue := false } } :=
    { runs with sys := runs.sys.elim fun b h => ⟨false, by simp only [own, h]⟩ }
  have told (x : State) : Reports x (x.raiseI 0x0101) := .raiseI x _ _
  have shed : sheds = raised.raiseSheds := rfl
  refine ⟨raised, ?_, ?_, ?_, by rw [← shed]⟩
  · unfold raised
    split
    · exact noted.keep (told _).only (by decide)
    · exact runs
  · refine State.phasesLeft_congr (Eq.trans ?_ phases)
    unfold raised
    split
    · exact congrArg Pwr.phases ((told _).only.pwr_eq (by decide))
    · rfl
  · refine Eq.trans ?_ safe
    unfold raised
    split
    · exact (told _).safe
    · rfl

/-- A module with three phases or more runs from stage 7 on. -/
theorem State.reachConfig_runs (enough : 3 ≤ s.phasesLeft) : RunsFrom s s.reachConfig := by
  obtain ⟨u, runs, left, -, answer⟩ := s.reachConfig_cases
  have shown := runs.keep (State.raiseSheds_runs (s := u) (by omega)) (by decide)
  rw [answer]
  split
  · exact shown.keep (State.raiseCond_onlyIn _ _ _) (by decide)
  · exact shown

/-- A module with fewer stops at stage 7. -/
theorem State.reachConfig_stops (few : s.phasesLeft < 3) (safe : s.guard.safe = false) :
    s.reachConfig.sys.bootStage = 7 ∧ s.reachConfig.guard.safe = true ∧ bitAt (s.reachConfig.fstat 19) 3 = true := by
  obtain ⟨u, runs, left, kept, answer⟩ := s.reachConfig_cases
  obtain ⟨stopped, bit, same⟩ := State.raiseSheds_stops (s := u) (by omega) (kept.trans safe)
  obtain ⟨b, sys⟩ := runs.sys
  have stage : u.raiseSheds.sys.bootStage = 7 := by rw [same, sys]
  rw [answer]
  split
  · have reports := Reports.raiseCond u.raiseSheds 0x1203 {}
    exact ⟨(congrArg Sys.bootStage (reports.only.sys_eq (by decide))).trans stage, reports.safe.trans stopped,
      (Steady.refl u.raiseSheds).raiseCond.status _ _ bit⟩
  · exact ⟨stage, stopped, bit⟩

/-! BOOT_COMPLETE (R455, R458). -/

theorem State.bootComplete_last (booting : s.booting = true) (last : s.sys.bootStage = 6) : s.bootComplete = s.reachConfig := by
  unfold State.bootComplete
  rw [if_neg (by simp [booting]), if_pos last]

/-- Loading a patch with no engine that mismatches. -/
theorem State.loadPatch_plain (s : State) (k : Nat) : (s.loadPatch k []).sys.unpatched = s.sys.unpatched ∧
    OnlyIn [.sys, .regs, .log, .hif, .guard] s (s.loadPatch k []) := by
  obtain ⟨y, same, loaded | ⟨code, loaded⟩ | loaded⟩ := s.loadPatch_cases k []
  all_goals
    have only : OnlyIn [.sys, .regs, .log, .hif, .guard] s { s with sys := y } := (OnlyIn.refl _ s).sys (by decide)
    rw [loaded, ← same]
  · exact ⟨rfl, only⟩
  · have raised := State.raiseI_onlyIn { s with sys := y } code {}
    exact ⟨by rw [raised.sys_eq (by decide)], only.step raised (by decide)⟩
  · exact ⟨rfl, only⟩

/-- A boot that is known to succeed passes the stages before 7 with the slot that the boot record gives. -/
theorem State.bootComplete_early (booting : s.booting = true) (early : s.sys.bootStage ≠ 6) (good : s.goodSlot = some k)
    (wipe : s.sys.wipePending = none) : ∃ u : State, s.bootComplete = u.reachConfig ∧ u.sys.bootSlot = k ∧
      u.sys.fwVersion = (s.slot k).version ∧ OnlyIn [.sys, .regs, .log, .hif, .guard, .power, .mem] s u := by
  have first := State.stage1_sys wipe
  have begun : OnlyIn [.sys, .power] s s.stage1 := by
    unfold State.stage1
    simp only [State.stage, wipe]
    intro p; cases p <;> first | exact .inr rfl | exact .inl (by decide)
  have slot : s.stage1.slot = s.slot := by
    funext k
    rw [State.slot, first, State.slot]
  have chosen : s.stage1.goodSlot = some k := by
    rw [← good, State.goodSlot, slot, first, State.goodSlot]
  have complete : s.bootComplete =
      (let v := (((s.stage1.stage 2).bootFrom k).stage 3).loadPatch k []
       if v.sys.dramWipeDue then (v.wipeDram).wipeDone v.sys.wipeUs else v).reachConfig := by
    unfold State.bootComplete
    rw [if_neg (by simp [booting]), if_neg early]
    dsimp only
    rw [chosen]
  have booted : ((s.stage1.stage 2).bootFrom k).sys = { s.sys with
      bootStage := 2, bootSlot := k, fwVersion := (s.slot k).version, fwEpoch := (s.slot k).epoch
      trialBooted := s.sys.trialBooted || (s.slot k).state == 2 } := by
    have staged : (s.stage1.stage 2).slot k = s.slot k := congrFun slot k
    rw [State.bootFrom, staged, State.stage, first]
  have started : OnlyIn [.sys, .power] s (((s.stage1.stage 2).bootFrom k).stage 3) :=
    ((begun.sys (by decide)).sys (by decide)).sys (by decide)
  have sys : (((s.stage1.stage 2).bootFrom k).stage 3).sys = { ((s.stage1.stage 2).bootFrom k).sys with bootStage := 3 } := rfl
  generalize ((s.stage1.stage 2).bootFrom k).stage 3 = u at complete started sys
  obtain ⟨patched, loads⟩ := u.loadPatch_plain k
  have only : OnlyIn [.sys, .regs, .log, .hif, .guard, .power, .mem] s (u.loadPatch k []) :=
    (started.mono (by decide)).step loads (by decide)
  generalize u.loadPatch k [] = v at complete patched only
  have slotIs : v.sys.bootSlot = k := (congrArg Sys.bootSlot patched :).trans (by rw [sys, booted]; rfl)
  have version : v.sys.fwVersion = (s.slot k).version := (congrArg Sys.fwVersion patched :).trans (by rw [sys, booted]; rfl)
  refine ⟨_, complete, ?_⟩
  dsimp only
  split
  · exact ⟨slotIs, version, OnlyIn.sys (OnlyIn.mem (x := { v.mem with dram := [] }) only (by decide)) (by decide)⟩
  · exact ⟨slotIs, version, only⟩

/-- What a completed boot runs with. -/
theorem bootComplete_runs (booting : s.booting = true) (enough : 3 ≤ s.phasesLeft) :
    (s.sys.bootStage = 6 → RunsFrom s s.bootComplete) ∧
    (∀ k, s.sys.bootStage ≠ 6 → s.goodSlot = some k → s.sys.wipePending = none →
      (∃ u : State, RunsFrom u s.bootComplete ∧ u.clock = s.clock ∧ u.tick = s.tick) ∧
      s.bootComplete.sys.bootSlot = k ∧ s.bootComplete.sys.fwVersion = (s.slot k).version) := by
  refine ⟨fun last => ?_, fun k early good wipe => ?_⟩
  · rw [State.bootComplete_last booting last]
    exact State.reachConfig_runs enough
  · obtain ⟨u, complete, slot, version, only⟩ := State.bootComplete_early booting early good wipe
    have left : u.phasesLeft = s.phasesLeft := State.phasesLeft_congr (congrArg Pwr.phases (only.pwr_eq (by decide)))
    have runs := State.reachConfig_runs (s := u) (by omega)
    obtain ⟨b, sys⟩ := runs.sys
    rw [complete, sys]
    exact ⟨⟨u, runs, only.clock_eq (by decide), only.tick_eq (by decide)⟩, slot, version⟩

/-- What the statement says of a module that runs. -/
theorem RunsFrom.shown {u : State} (h : RunsFrom u t) (clock : u.clock = s.clock) (tick : u.tick = s.tick) :
    t.settle.sys.bootStage = 7 ∧ t.settle.sys.cfg = .config ∧ t.settle.power.mode = .run ∧ t.settle.power.trans = .none ∧
    t.settle.tick.stopped = false ∧ t.settle.tick.edgePs = s.clock.ps ∧
    t.settle.tick.nextPs = s.clock.ps + 1000 * s.tick.periodNs ∧ t.settle.mem.trained = 3 ∧ t.settle.clk.standby = true := by
  obtain ⟨⟨b, sys⟩, mode, trans, stopped, edge, next, trained, standby⟩ := h
  rw [clock] at edge next
  rw [tick] at next
  rw [State.settle_sys, State.settle_power, State.settle_tick, State.settle_mem, State.settle_clk, sys]
  exact ⟨rfl, rfl, mode, trans, stopped, edge, next, trained, standby⟩

theorem bootComplete_spec (booting : s.booting = true) (enough : 3 ≤ s.phasesLeft) :
    (let running (t : State) : Prop := t.sys.bootStage = 7 ∧ t.sys.cfg = .config ∧ t.power.mode = .run ∧
       t.power.trans = .none ∧ t.tick.stopped = false ∧ t.tick.edgePs = s.clock.ps ∧
       t.tick.nextPs = s.clock.ps + 1000 * s.tick.periodNs ∧ t.mem.trained = 3 ∧ t.clk.standby = true
     (s.sys.bootStage = 6 → Gives .bootComplete s running) ∧
     (∀ k, s.sys.bootStage ≠ 6 → s.goodSlot = some k → s.sys.wipePending = none → Gives .bootComplete s (fun t =>
       running t ∧ t.sys.bootSlot = k ∧ t.sys.fwVersion = (s.slot k).version))) := by
  obtain ⟨last, early⟩ := bootComplete_runs booting enough
  refine ⟨fun stage => ⟨_, rfl, (last stage).shown rfl rfl⟩, fun k stage good wipe => ⟨_, rfl, ?_⟩⟩
  obtain ⟨⟨u, runs, clock, tick⟩, slot, version⟩ := early k stage good wipe
  refine ⟨runs.shown clock tick, ?_⟩
  rw [State.settle_sys]
  exact ⟨slot, version⟩

theorem bootComplete_stops (booting : s.booting = true) (last : s.sys.bootStage = 6) (few : s.phasesLeft < 3) :
    Gives .bootComplete s (fun t => t.sys.bootStage = 7 ∧ t.guard.safe = true ∧ bitAt (t.fstat 19) 3 = true) := by
  have safe : s.guard.safe = false := by
    unfold State.booting at booting
    simp only [Bool.and_eq_true, Bool.not_eq_true'] at booting
    tauto
  refine ⟨_, congrArg done (State.bootComplete_last booting last), ?_⟩
  beta_reduce
  rw [State.settle_sys, State.settle_guard, State.settle_fstat]
  exact State.reachConfig_stops few safe

theorem bootWatchdog_spec (booting : s.booting = true) : (let k := if s.sys.bootStage < 2 then s.sys.preferred else s.sys.bootSlot
    ∃ u : State, exec (.bootWatchdog env) s = .next (u.boot false env).settle ∧ (u.slot k).state = 3 ∧
      u.sys.preferred = 1 - k ∧ u.sys.resetCause = 4 ∧ u.sys.slotFaultDue = true) := by
  intro k
  obtain ⟨cause, preferred, slots, -⟩ := (s.revertSlot k).resetTo_slots 4
  have bad : ((s.revertSlot k).slot k).state = 3 := by
    unfold State.revertSlot State.markBad State.modSlot State.slot
    by_cases a : k = 0 <;> simp [a]
  refine ⟨{ (s.revertSlot k).resetTo 4 with sys := { ((s.revertSlot k).resetTo 4).sys with slotFaultDue := true } },
    congrArg done (if_neg (by simp [booting])), ?_, preferred, cause, rfl⟩
  rw [← bad, ← slots]
  rfl

/-! Loss of supply (R508, R515, Table 15.2). -/

theorem vinBelowStop_spec (on : s.power.mode ≠ .off ∨ s.pwr.seqFailed = true) : Gives .vinBelowStop s (fun t =>
    t.power.mode = .off ∧ t.pwr.pwrGood = false ∧ t.bus.endpointOff = true ∧ t.tick.stopped = true ∧ t.log = s.log ∧
    t.clock.ps = s.clock.ps ∧ t.mem.mram = s.mem.mram ∧ t.mem.sram = [] ∧ t.mem.dram = [] ∧ t.chans = [] ∧
    (∀ d i, d.at i / 65536 = 12 → t.rd d i = s.rd d i)) := by
  have stops : s.vinStops = s.goOff := if_neg (by
    rintro ⟨off, clear⟩
    rcases on with on | failed
    · exact on off
    · rw [clear] at failed; cases failed)
  refine ⟨_, congrArg done stops, rfl, rfl, rfl, rfl, rfl, rfl, rfl, rfl, rfl, rfl, fun d i kept => ?_⟩
  rw [State.settle_rd, rd_of_kprOnly (s := s) rfl, if_pos kept]

theorem keeperSupplyLoss_spec (s : State) : Gives .keeperSupplyLoss s (fun t =>
    t.pwr.keeperOn = false ∧ t.power.mode = .off ∧ t.log = .reset ∧ t.clock.ps = 0 ∧ t.mem.mram = s.mem.mram ∧
    t.sys.lifeState = s.sys.lifeState ∧ t.sys.slotA = s.sys.slotA ∧ t.sys.slotB = s.sys.slotB ∧
    ∀ d i, t.rd d i = d.resetAt i 0 % 2 ^ 32) :=
  ⟨_, rfl, rfl, rfl, rfl, rfl, rfl, rfl, rfl, rfl, fun _ _ => rfl⟩

/-- Settles O56: the starts are resets followed by the boot stages, whose outcome is followed stage by stage; a loss of supply
is a reset that leaves the module off. -/
theorem startsAndLossOfSupply : Obligations.StartsAndLossOfSupply := by
  intro s env
  refine ⟨rfl, powerOnReset_fails s, powerOnReset_boots s, fun ran => congrArg done (if_neg (by simp [ran])),
    fun failed => congrArg done (if_pos failed), fun down => congrArg done (if_pos down), padReset_spec,
    fun high => congrArg done (if_neg (by simp [high])), fun low => congrArg done (if_pos low), fun ended => ⟨?_, ?_⟩,
    bootComplete_spec, bootComplete_stops, bootWatchdog_spec, fun off clear => congrArg done (if_pos ⟨off, clear⟩),
    vinBelowStop_spec, keeperSupplyLoss_spec s⟩
  · exact congrArg done (if_pos (by simp [ended]))
  · exact congrArg done (if_pos (by simp [ended]))

end Sys2Proof.Machine
end

section
namespace Sys2Proof.Machine

/-! A phase that is shed while the spare itself is shed: the spare takes over all the same, so that the number of phases
that are left does not fall (R523, R525). -/

/-- Four phases switch, and the fifth, which has been shed, is still named as the spare. -/
def shedSpare : State :=
  { State.reset with pwr := { State.reset.pwr with
      phases := List.replicate 4 Phase.active ++ [{ Phase.active with state := 3 }], spare := 4 } }

theorem shedSpare_ready : shedSpare.coreRail = true ∧ shedSpare.phasesLeft = 4 ∧
    shedSpare.pwr.phases[0]? = some Phase.active ∧ Phase.active.state = 0 := by decide +kernel

/-- Phase 0 opens, and the shed spare is switched on: four phases are left again, and the current cap stays. -/
theorem shedSpare_keepsCap : (shedSpare.openPhases [0]).phasesLeft = 4 ∧ (shedSpare.openPhases [0]).pwr.capA ≠ 18 := by
  decide +kernel

/-- Refutes O58: in `shedSpare` the loss of a phase is to leave three, with the cap at 18 A; the shed spare takes the phase's
place, and the cap is not lowered. -/
theorem not_coreRegulatorActs : ¬ Obligations.CoreRegulatorActs := by
  unfold Obligations.CoreRegulatorActs
  intro acts
  obtain ⟨rail, left, phase, active⟩ := shedSpare_ready
  obtain ⟨-, -, up⟩ := acts shedSpare
  obtain ⟨-, -, threeLeft, -⟩ := (up rail).1 0 Phase.active (by decide) phase
  obtain ⟨t, ht, -, cap, -⟩ := threeLeft left active
  have answer : exec (.phaseOpenDetect [0]) shedSpare = .next (shedSpare.openPhases [0]).settle := rfl
  cases answer.symm.trans ht
  exact shedSpare_keepsCap.2 cap

end Sys2Proof.Machine
end
